-- ==== Sys2Proof/Word.lean ====
section
/-!
DEFINITION. The word types of the model: 32-bit words of registers, messages and records, bytes of frames and memory.
-/
namespace Sys2Proof

/-- A 32-bit word of a register, a message or a record (R504, R529). -/
abbrev Word := BitVec 32

/-- A byte of a frame or of memory. -/
abbrev Byte := BitVec 8

/-- A record that the spec lays out in 32-bit words, word 0 first. -/
abbrev Rec := List Word

/-- A frame's bytes, DA first. -/
abbrev Bytes := List Byte

end Sys2Proof
end

