-- ==== Sys2Proof/Syntax.lean ====
section
/-!
DEFINITION. The commands the block takes: one constructor of Instr for each row of spec/opcode_table.json, with its operands.
The first operand t of every command is the core cycle, in ns of local time, in which the command acts (log entry 1).
-/
namespace Sys2Proof

/-- The four origins of an access, with the codes 0 to 3 of R453 and R475. -/
inductive Origin where
  | pcie | spi | inband | core
deriving DecidableEq, Repr

/-- The place of a register write: the register itself or one of its three aliases (R511). -/
inductive Alias where
  | direct | set | clear | toggle
deriving DecidableEq, Repr

/-- A ring of R515, by its use: request and response ring of a mailbox, event ring, receive ring of a CAN or LIN bus,
trace export ring, Proof log (R472, R480). -/
inductive RingId where
  | req (m : Nat) | rsp (m : Nat) | evq (e : Nat) | can (b : Nat) | lin (b : Nat) | trace | proof
deriving DecidableEq, Repr

/-- The trailer of an authenticated request (R545): its counter and the CMAC it carries. -/
structure AuthTrailer where
  counter : Nat
  mac : List Word
deriving DecidableEq, Repr

/-- A request message (R529): the mailbox it was published on, the fields of its header, its payload from word 4 without
the trailer, and the trailer when AUTH is set. -/
structure Req where
  mbx : Nat
  seq : Word
  verMaj : Nat := 2
  verMin : Nat := 3
  clear : Bool := false
  staged : Bool := false
  auth : Option AuthTrailer := none
  /-- The REPLAY bit and the request identifier of word 3. -/
  replay : Bool := false
  ident : Word := 0
  args : List Word := []
deriving DecidableEq, Repr

/-- A Sync or Follow_Up message as the relay uses it (R95 to R99). Times are in units of 2^-16 ns, csro in 2^-41. tlv: the fields of the Follow_Up
information TLV after csro, which the relay leaves unchanged. held: the ns for which the frame was held whole for tag verification after its
start-of-frame mark (R94). -/
structure SyncMsg where
  domain : Nat
  seqId : Nat
  twoStep : Bool := false
  origin : Int := 0
  correction : Int := 0
  csro : Int := 0
  tlv : List Byte := []
  held : Nat := 0
deriving DecidableEq, Repr

/-- A power-on reset: its core cycle, and the level of TESTMODE from then on (R635, R679). -/
structure PowerOn where
  t : Nat
  testmode : Bool := false
deriving DecidableEq, Repr

/-- The end of a frame that a MACsec pipe holds whole (R94): the result of the FCS check, and the ns since the start-of-frame mark. -/
structure RxEnd where
  fcsOk : Bool
  held : Nat := 0
deriving DecidableEq, Repr

/-- What an Announce says of a grandmaster (R82, R112; IEEE 802.1AS-2020, log entry 43). -/
structure GmInfo where
  priority1 : Nat := 255
  clockClass : Nat := 248
  accuracy : Nat := 0xFE
  variance : Nat := 0x436A
  priority2 : Nat := 248
  identity : Nat
deriving DecidableEq, Repr

/-- An Announce message (R80, R82, R103, R112): the grandmaster, the steps to it, the port that sends it, and its path trace TLV. -/
structure AnnounceMsg where
  domain : Nat
  gm : GmInfo
  stepsRemoved : Nat
  srcClock : Nat
  srcPort : Nat := 1
  path : List Nat := []
deriving DecidableEq, Repr

/-- A Pdelay_Req (R86): CMLDS or instance-specific, with its domain number, and the port that sends it. -/
structure PdelayReq where
  cmlds : Bool := true
  domain : Nat := 0
  seqId : Nat
  srcClock : Nat := 0
  srcPort : Nat := 1
  held : Nat := 0
deriving DecidableEq, Repr

/-- A completed peer-delay answer (R87): the responder, and the stamps t2 and t3 of the responder in units of 2^-16 ns. -/
structure PdelayResp where
  seqId : Nat
  responder : Nat
  t2 : Int
  t3 : Int
  held : Nat := 0
deriving DecidableEq, Repr

/-- A CAN frame (R304, R319). format is coded as the BUS keys of R279: 0 to 4. -/
structure CanFrame where
  format : Nat
  rtr : Bool := false
  brs : Bool := false
  esi : Bool := false
  dlc : Nat := 0
  id : Nat
  sdt : Nat := 0
  vcid : Nat := 0
  sec : Bool := false
  af : Word := 0
  data : Bytes := []
deriving DecidableEq, Repr

/-- A CAN error, by the counter of R351 that counts it; arbLost is a lost arbitration (R315). -/
inductive CanErr where
  | arbLost | stuff | form | ack | bit | crc
  /-- A stuff error during arbitration, a recessive stuff bit seen dominant: it leaves TEC as it is (ISO 11898-1). -/
  | arbStuff
  /-- A dominant bit right after the controller's own error flag, or a run of 8 after it (ISO 11898-1): no counter of R351 names it. -/
  | dominant
deriving DecidableEq, Repr

/-- The operations of the bulk engine (R392, R576). -/
inductive BulkOp where
  | gcmEncrypt | gcmDecrypt | ctr | cmac | cmacVerify | sha256 | sha384 | hmac | hmacVerify | ecdsaSign | ecdsaVerify
  | unwrap | derive | keyGen | selfTest
deriving DecidableEq, Repr

/-- A request to the bulk engine (R403). -/
structure BulkReq where
  requester : Nat
  op : BulkOp
  slot : Nat := 0
  gen : Nat := 0
  anyGen : Bool := true
  noKey : Bool := false
  bytes : Nat := 0
deriving DecidableEq, Repr

/-- The causes of the cipher alarm (R417). -/
inductive AlarmCause where
  | voltage | clock | temperature | debug
deriving DecidableEq, Repr

/-- PCIe atomic operations (R468, R483). -/
inductive AtomicOp where
  | fetchAdd | swap | cas
deriving DecidableEq, Repr

/-- What an ECC error hits, where the region's consequence depends on it (R653). -/
inductive EccTarget where
  | none
  | cell (frame : Nat)
  | fwRule (index : Nat) | vlan (vid : Nat) | streamId (slot : Nat) | handle (h : Nat) | route (index : Nat)
  | tunnel (index : Nat) | rxTunnel (index : Nat) | auth (entry : Nat) | gateList (port : Nat)
  | macEntry (index : Nat) | tracker (index : Nat) | meter (m : Nat) | recovery (fn : Nat) | generation (fn : Nat)
  | journal (mailbox : Nat) | snapshot (copy : Nat) | fresh (entry : Nat) | requestRing (mailbox : Nat) | sa (index : Nat)
  | traceRecord (seq : Nat)
deriving DecidableEq, Repr

/-- The kinds of disturbance at VBAT (R629). -/
inductive VbatKind where
  | undervoltage | overvoltage | interruption
deriving DecidableEq, Repr

/-- The TAP instructions of R656; debug stands for every other instruction, which opens JTAG (R657). -/
inductive JtagInstr where
  | bypass | idcode | sample | extest | clamp | highz | debug
deriving DecidableEq, Repr

/-- What the PCS or FEC of a port meets (R143, R144). -/
inductive PcsErr where
  | fecCorrected | fecUncorrectable | erroredBlock | localFault | remoteFault | highBer
deriving DecidableEq, Repr

/-- The commands: one constructor for each row of spec/opcode_table.json. -/
inductive Instr where
  /-- BEAT_BOUNDARY (R18): Working time reaches a multiple of the Beat length, and the device issues a Beat boundary and advances the Beat sequence number. -/
  | beatBoundary (t : Nat)
  /-- TASK_LIST_FINISH (R30): A task list ends; its commit is armed, and the list of the Beat then in progress starts. -/
  | taskListFinish (t : Nat)
  /-- MAPPING_ANCHOR (R48): A pending mapping reaches its anchor cycle, takes effect and is written as a MAPPING record. -/
  | mappingAnchor (t : Nat)
  /-- PHASE_SLEW_END (R58): The pending correction reaches zero, and a mapping with p = 0 is requested. -/
  | phaseSlewEnd (t : Nat)
  /-- SYNC_RECEIPT_TIMEOUT (R103): No valid Sync arrives on a slot's slave port for syncReceiptTimeout intervals, so the slot's source is lost. -/
  | syncReceiptTimeout (t : Nat) (slot : Nat)
  /-- ANNOUNCE_RECEIPT_TIMEOUT (R111): No Announce arrives on a port for announceReceiptTimeout intervals, and a state-change cause is raised. -/
  | announceReceiptTimeout (t : Nat) (slot port : Nat)
  /-- HOT_STANDBY_REVERT (R109): In revertive mode, the hold-off expires and the pair switches back to the original slot. -/
  | hotStandbyRevert (t : Nat)
  /-- GPTP_SYNC_RX (R95): A Sync arrives on a slave port and is relayed to master ports, and the servo processes it. -/
  | gptpSyncRx (t : Nat) (port : Nat) (m : SyncMsg)
  /-- FOLLOW_UP_RX (R98): A Follow_Up is matched to a held two-step Sync, and the one-step Sync is sent. -/
  | followUpRx (t : Nat) (port : Nat) (m : SyncMsg)
  /-- FOLLOW_UP_MATCH_TIMEOUT (R98): A held two-step Sync goes unmatched for 100 ms and is dropped and counted in FU_MISS. -/
  | followUpMatchTimeout (t : Nat) (slot : Nat)
  /-- GM_SYNC_TX (R84): A grandmaster slot originates Sync from working time at its Sync interval. -/
  | gmSyncTx (t : Nat) (slot : Nat)
  /-- ANNOUNCE_RX (R103): An Announce is accepted; a changed grandmaster identity makes the slot's source lost. -/
  | announceRx (t : Nat) (port : Nat) (m : AnnounceMsg)
  /-- PDELAY_REQ_TX (R86): At the port's interval, the firmware issues a CMLDS Pdelay_Req. -/
  | pdelayReqTx (t : Nat) (port : Nat)
  /-- PDELAY_REQ_RX (R86): The hardware responder answers a Pdelay_Req with Pdelay_Resp and Pdelay_Resp_Follow_Up. -/
  | pdelayReqRx (t : Nat) (port : Nat) (m : PdelayReq)
  /-- PDELAY_RESP_RX (R87): A peer-delay response completes an exchange, giving a mean link delay sample and nrr. -/
  | pdelayRespRx (t : Nat) (port : Nat) (m : PdelayResp)
  /-- PAIR_TIME_PULSE_RX (R115): The follower stamps a pulse, checks the code and issues a correction of −e. -/
  | pairTimePulseRx (t : Nat) (w0 w1 w2 : Word)
  /-- PAIR_TIME_PULSE_MISSING (R116): No pulse edge arrives within ±1 µs of the expected instant, and it is counted as missed. -/
  | pairTimePulseMissing (t : Nat)
  /-- TIME_CAP_GO (R63): A write of GO to TIME.CAP_CTRL starts a capture under the chosen trigger. -/
  | timeCapGo (t : Nat) (o : Origin) (a : Alias) (v : Word)
  /-- TIO_ARM (R67): A write of ARM latches the timed-output values and converts START. -/
  | tioArm (t : Nat) (pin : Nat) (o : Origin) (a : Alias) (v : Word)
  /-- TIO_DISARM (R72): A write of DISARM stops further active edges on the pin. -/
  | tioDisarm (t : Nat) (pin : Nat) (o : Origin) (a : Alias) (v : Word)
  /-- TIO_MODE_WRITE (R74): A new MODE is written; an armed pin disarms, and the mode takes the pin at the end of the pulse. -/
  | tioModeWrite (t : Nat) (pin : Nat) (o : Origin) (a : Alias) (v : Word)
  /-- TIO_ACTIVE_EDGE (R69): Working time reaches START + k × PERIOD, the pin drives its active edge, and the inactive edge is fixed. -/
  | tioActiveEdge (t : Nat) (pin : Nat)
  /-- TIO_INACTIVE_EDGE (R69): A pulse reaches its inactive edge at its fixed local time. -/
  | tioInactiveEdge (t : Nat) (pin : Nat)
  /-- TIO_CAPTURE_EDGE (R77): A qualifying edge on a capture pin is stamped, recorded and announced. -/
  | tioCaptureEdge (t : Nat) (pin : Nat) (rising : Bool) (width : Nat)
  /-- PORT_LINK_UP (R136): The mode's link condition holds, so the port passes through TRAINING to UP. -/
  | portLinkUp (t : Nat) (port : Nat) (speed : Option Nat)
  /-- PORT_LINK_LOSS (R137): The link condition is lost; with LINK_HOLD 0 the port goes DOWN at once, otherwise FLAP counts. -/
  | portLinkLoss (t : Nat) (port : Nat)
  /-- LINK_HOLD_EXPIRY (R137): The link stays lost for LINK_HOLD, and the port goes DOWN. -/
  | linkHoldExpiry (t : Nat) (port : Nat)
  /-- SERDES_REFERENCE_LOST (R122): The clock monitor finds a SerDes reference lost, and every port of its group goes DOWN. -/
  | serdesReferenceLost (t : Nat) (groupB : Bool)
  /-- INBAND_SPEED_CHANGE (R125): In-band status reports a new speed; the port goes DOWN, takes the speed and comes up again. -/
  | inbandSpeedChange (t : Nat) (port speed : Nat)
  /-- DLC_MEASUREMENT_DONE (R139): At lane lock, the alignment measurement completes and its offsets apply to stamps. -/
  | dlcMeasurementDone (t : Nat) (port : Nat) (rxPos txPos : Int) (offset : Int)
  /-- PLCA_BEACON_TX (R127): A coordinator sends a BEACON at the start of each PLCA cycle. -/
  | plcaBeaconTx (t : Nat) (port : Nat)
  /-- PLCA_BEACON_LOSS (R129): A follower sees no valid BEACON for BEACON_LOSS ms, so PLCA status is false and it falls back or goes DOWN. -/
  | plcaBeaconLoss (t : Nat) (port : Nat)
  /-- PLCA_BEACON_RESTORED (R129): A follower receives a valid BEACON and returns to PLCA. -/
  | plcaBeaconRestored (t : Nat) (port : Nat)
  /-- FRAME_RX_CELL (R184): A 64-byte part of an arriving frame is written into a cell taken from the guarantee, the shared pool or the reserve. -/
  | frameRxCell (t : Nat) (port : Nat) (bytes : Bytes) (sof : Bool) (eof : Option Bool)
  /-- MACSEC_RX_VERIFY (R414): GCM pipe 1 verifies a whole frame and delivers it to stage 1 or drops it. -/
  | macsecRxVerify (t : Nat) (port : Nat) (bytes : Bytes) (rx : RxEnd)
  /-- FRAME_CLASSIFY (R145): Once the parser window is in, stages 2–7 parse, look up, filter and judge the frame and form its destination set. -/
  | frameClassify (t : Nat) (frame : Nat)
  /-- FRAME_ENQUEUE (R145): At the later of the end of stage 7 and a good FCS, the per-stream steps act and replicas are queued. -/
  | frameEnqueue (t : Nat) (frame : Nat)
  /-- FRAME_TX_START (R203): The line can take a frame, so the scheduler chooses an eligible head frame and starts it. -/
  | frameTxStart (t : Nat) (port : Nat)
  /-- FRAME_TX_END (R186): A replica's last cell is read, its reference is released and the frame ends on the line. -/
  | frameTxEnd (t : Nat) (port : Nat)
  /-- AGEING_SWEEP (R171): Every ageing time ÷ 3, AGE is incremented and old dynamic entries are removed. -/
  | ageingSweep (t : Nat)
  /-- REFILL_TICK (R219): On each 128 ns tick, shaper credit and tokens, meter buckets and log tokens are refilled. -/
  | refillTick (t : Nat)
  /-- GATE_LIST_START (R210): At S, the list in force is cut and the pending list starts at entry 0. -/
  | gateListStart (t : Nat) (port : Nat)
  /-- GATE_ENTRY_START (R211): A gate entry starts, and its gate states and OP apply. -/
  | gateEntryStart (t : Nat) (port : Nat)
  /-- GATE_STARVE_DROP (R216): An express head frame longer than every window of its class waits one CYCLE and is dropped. -/
  | gateStarveDrop (t : Nat) (port cls : Nat)
  /-- MERGE_HOLD_ASSERT (R227): HOLD_ADVANCE before a Set-And-Hold-MAC entry, the hold is asserted. -/
  | mergeHoldAssert (t : Nat) (port : Nat)
  /-- MERGE_HOLD_RELEASE (R227): RELEASE_ADVANCE before a Set-And-Release-MAC entry, the hold is released. -/
  | mergeHoldRelease (t : Nat) (port : Nat)
  /-- LAUNCH_INSTANT_REACHED (R231): A held frame's launch instant arrives and the frame becomes eligible. -/
  | launchInstantReached (t : Nat) (port cls : Nat)
  /-- STREAM_GATE_LIST_START (R249): A pending stream gate list starts at its S. -/
  | streamGateListStart (t : Nat) (gate : Nat)
  /-- STREAM_GATE_ENTRY_START (R251): A stream gate entry starts a new occurrence with an octet count of 0. -/
  | streamGateEntryStart (t : Nat) (gate : Nat)
  /-- FRER_RESET_TIMEOUT (R262): A recovery function passes no frame for RESET_MS, so it sets take_any and counts RESETS. -/
  | frerResetTimeout (t : Nat) (fn : Nat)
  /-- LATENT_TEST_TIMER (R265): Every TEST_MS the latent error difference is computed, and LATENT may be set. -/
  | latentTestTimer (t : Nat) (fn : Nat)
  /-- LATENT_RESET_TIMER (R265): Every LRESET_MS the latent counts P and D are reset. -/
  | latentResetTimer (t : Nat) (fn : Nat)
  /-- TRACKER_SWEEP (R290): Once per second, tracker TTLs are decremented and expired entries removed. -/
  | trackerSweep (t : Nat)
  /-- BYPASS_EXPIRY (R296): A zone-pair bypass reaches its duration and ends, raising firewall event 6. -/
  | bypassExpiry (t : Nat) (src dst : Nat)
  /-- NOTICE_POST (R546): The firmware posts a notice, such as the FILT notice, to the notice mailbox when room allows. -/
  | noticePost (t : Nat)
  /-- CAN_FRAME_VALID (R331): A received CAN frame reaches its valid instant, and the engine routes, verifies and places it. -/
  | canFrameValid (t : Nat) (bus : Nat) (f : CanFrame) (sof : Nat)
  /-- TUNNEL_FLUSH_DEADLINE (R337): A tunnel frame's FLUSH_US deadline arrives, and the frame is flushed to port 30. -/
  | tunnelFlushDeadline (t : Nat) (tunnel : Nat)
  /-- ACF_FRAME_RX (R339): A 1722 frame reaches port 30, and its messages are routed through a receive tunnel. -/
  | acfFrameRx (t : Nat) (bytes : Bytes)
  /-- CAN_TX_START (R311): The controller offers the winning eligible slot at SOF. -/
  | canTxStart (t : Nat) (bus : Nat)
  /-- CAN_TX_COMPLETE (R319): A frame is sent, and its slot is freed with a completion record for host frames. -/
  | canTxComplete (t : Nat) (bus : Nat)
  /-- CAN_TX_ERROR (R315): Lost arbitration or an error leads to a retry, or a RETRY drop at the limit. -/
  | canTxError (t : Nat) (bus : Nat) (k : CanErr)
  /-- CAN_RX_ERROR (R316): A receive error updates the error counters and may change the bus state. -/
  | canRxError (t : Nat) (bus : Nat) (k : CanErr)
  /-- CAN_BO_DELAY_EXPIRY (R317): With AUTO_RECOVER set, BO_DELAY ends and recovery begins. -/
  | canBoDelayExpiry (t : Nat) (bus : Nat)
  /-- CAN_BUS_OFF_RECOVERED (R317): 128 occurrences of 11 recessive bits complete bus-off recovery. -/
  | canBusOffRecovered (t : Nat) (bus : Nat)
  /-- CAN_MAX_AGE_EXPIRY (R315): A frame not started within MAX_AGE is removed as STALE. -/
  | canMaxAgeExpiry (t : Nat) (bus slot : Nat)
  /-- CAN_CONTROLLER_APPLY (R307): A controller command takes effect at the end of the frame on the bus, discarding the slots. -/
  | canControllerApply (t : Nat) (bus : Nat)
  /-- CAN_INTEGRATION_DONE (R307): The controller sees 11 recessive bits and takes part in the bus again. -/
  | canIntegrationDone (t : Nat) (bus : Nat)
  /-- LIN_SLOT_START (R324): A LIN slot starts and the commander sends the break and header. -/
  | linSlotStart (t : Nat) (bus : Nat) (recessive : Bool)
  /-- LIN_SLOT_END (R327): A LIN slot ends with an outcome that is written to the ring and routed. -/
  | linSlotEnd (t : Nat) (bus : Nat) (outcome : Nat) (data : Bytes)
  /-- WAKE_SOURCE_QUALIFY (R360): A wake source qualifies, is latched in CROCUS.PEND, and raises WAKE_OUT in standby. -/
  | wakeSourceQualify (t : Nat) (src : Nat)
  /-- WAKE_TIMER_EXPIRY (R361): CROCUS.TIMER reaches its count and raises a wake event. -/
  | wakeTimerExpiry (t : Nat)
  /-- IGNITION_PIN_CHANGE (R384): The IGN pin returns to inactive or active, giving or ending the ignition-off hint. -/
  | ignitionPinChange (t : Nat) (active : Bool)
  /-- OFFENDER_MIN_EXPIRY (R384): OFFENDER_MIN after the hint, the keep-awake offenders are logged. -/
  | offenderMinExpiry (t : Nat)
  /-- NEED_TIMER_EXPIRY (R370): A segment's need timer expires, and an unneeded AWAKE segment enters PREPARE. -/
  | needTimerExpiry (t : Nat) (seg : Nat)
  /-- CLUSTER_TIMER_EXPIRY (R370): A partial-network cluster's need timer expires. -/
  | clusterTimerExpiry (t : Nat) (cluster : Nat)
  /-- PREPARE_SLEEP_TIMER_EXPIRY (R373): PREP_MS ends, and the segment waits for the next Beat boundary to commit. -/
  | prepareSleepTimerExpiry (t : Nat) (seg : Nat)
  /-- SHUTDOWN_COMPLETE (R374): A segment's shutdown completes, and it enters SLEEP, or WAKING when a wake was latched. -/
  | shutdownComplete (t : Nat) (seg : Nat)
  /-- WAKE_TO_EXPIRY (R380): A segment is not AWAKE within WAKE_TO, so its held replicas are dropped as SLEEP. -/
  | wakeToExpiry (t : Nat) (seg : Nat)
  /-- KEEPALIVE_TX_TIMER (R371): Every TX_MS, the device sends a keep-alive on a needed AWAKE segment. -/
  | keepaliveTxTimer (t : Nat) (seg : Nat)
  /-- WAKE_VALIDATION_EXPIRY (R381): A validation window ends without validation, and the wake is counted false. -/
  | wakeValidationExpiry (t : Nat) (src : Nat)
  /-- FALSE_WIN_EXPIRY (R382): FALSE_WIN ends and the source's false-wake count returns to 0. -/
  | falseWinExpiry (t : Nat) (src : Nat)
  /-- BACKOFF_EXPIRY (R382): BACKOFF ends and a masked source is unmasked. -/
  | backoffExpiry (t : Nat) (src : Nat)
  /-- STANDBY_SNAPSHOT_ACK (R364): The firmware acknowledges its snapshot, Crocus arms the sources and WAKE_OUT falls. -/
  | standbySnapshotAck (t : Nat)
  /-- STANDBY_ENTRY_TIMEOUT (R364): No acknowledgement within 20 ms, so Crocus completes the entry and clears RET_VALID. -/
  | standbyEntryTimeout (t : Nat)
  /-- WAKE_RACE_HOLD_EXPIRY (R365): After a wake raced a standby entry, the 2 ms hold ends and WAKE_OUT rises. -/
  | wakeRaceHoldExpiry (t : Nat)
  /-- CROCUS_GO (R363): A write of CROCUS.CTRL.GO starts standby entry at LEVEL, never refused. -/
  | crocusGo (t : Nat) (o : Origin) (a : Alias) (v : Word)
  /-- CROCUS_IGN_HINT (R384): A write of CROCUS.CTRL.IGN_HINT gives the ignition-off hint. -/
  | crocusIgnHint (t : Nat) (o : Origin) (a : Alias) (v : Word)
  /-- BULK_REQUEST_SUBMIT (R401): A requester places a request in the bulk queue, or is refused busy. -/
  | bulkRequestSubmit (t : Nat) (r : BulkReq)
  /-- BULK_REQUEST_START (R403): A request reaches its start, its slot is checked and the key is copied over the key bus. -/
  | bulkRequestStart (t : Nat) (requester : Nat)
  /-- BULK_CHUNK_END (R402): A chunk ends, and the symmetric unit chooses the next requester. -/
  | bulkChunkEnd (t : Nat)
  /-- BULK_REQUEST_COMPLETE (R404): A request completes with a result word, releasing output only on OK. -/
  | bulkRequestComplete (t : Nat) (publicKey : Bool)
  /-- CIPHER_ALARM (R417): A voltage, clock, temperature or debug cause raises the alarm, clearing working keys and aborting requests. -/
  | cipherAlarm (t : Nat) (cause : AlarmCause)
  /-- ZEROIZE_COMPLETE (R417): Every slot except slot 0 is zeroized, and ZEROIZED is set. -/
  | zeroizeComplete (t : Nat)
  /-- PIPE_SELF_TEST_DUE (R419): Every TEST_S a GCM pipe runs its known-answer test in idle cycles. -/
  | pipeSelfTestDue (t : Nat) (pipe : Nat)
  /-- BULK_SELF_TEST_DUE (R420): Every TEST_S the bulk engine queues its known-answer tests as requester 7. -/
  | bulkSelfTestDue (t : Nat)
  /-- SELF_TEST_COMPLETE (R421): A known-answer test passes or fails, stopping or restoring the unit. -/
  | selfTestComplete (t : Nat) (unit : Nat) (pass : Bool)
  /-- ENTROPY_HEALTH_FAIL (R421): The entropy source fails its continuous health test, and key generation is refused. -/
  | entropyHealthFail (t : Nat)
  /-- DARK_WINDOW_BEFORE_TAKEN (R437): The before-part of a window is taken from the Contact Sheet. -/
  | darkWindowBeforeTaken (t : Nat)
  /-- DARK_WINDOW_AFTER_CLOSE (R437): AFTER_MS passes or the space runs out, so the window closes. -/
  | darkWindowAfterClose (t : Nat)
  /-- DARK_WINDOW_SIGNED (R439): DIGEST and SIG complete, and writing to the evidence flash starts. -/
  | darkWindowSigned (t : Nat)
  /-- EVIDENCE_COMMIT_ACK (R440): The commit page is programmed and read back, and the record is acknowledged. -/
  | evidenceCommitAck (t : Nat)
  /-- DARK_CLOCK_FALLBACK (R428): The Darkroom clock is out of range, and the core moves to the RC oscillator. -/
  | darkClockFallback (t : Nat)
  /-- DARK_CLOCK_RETURN (R428): After 1 ms of clean clock, the Darkroom returns to 200 MHz. -/
  | darkClockReturn (t : Nat)
  /-- DARK_WATCHDOG_RESET (R430): The Darkroom watchdog resets its core, losing any open window. -/
  | darkWatchdogReset (t : Nat)
  /-- VDD_DRK_LOSS (R429): VDD_DRK falls below 0.76 V, and no new flash page starts. -/
  | vddDrkLoss (t : Nat)
  /-- DARKROOM_RESET (R440): On VDD_DRK restoration, the Darkroom resets, picks its image, checks the audit and erases unfinished slots. -/
  | darkroomReset (t : Nat)
  /-- RESEAL_COMPLETE (R433): A new calibration image is written and in force, and an audit entry is appended. -/
  | resealComplete (t : Nat)
  /-- CS_RECORD_ACCEPT (R455): The recorder accepts a queued record into the trace, at most one per 4 cycles. -/
  | csRecordAccept (t : Nat)
  /-- CS_ANCHOR_TIMER (R450): 1 ms after the last anchor, the recorder writes an anchor record. -/
  | csAnchorTimer (t : Nat)
  /-- CS_MAPPING_REPEAT (R454): Once per second, the mapping in force is written again with REPEAT set. -/
  | csMappingRepeat (t : Nat)
  /-- CS_EXPORT_FRAME_FLUSH (R462): Channel 0 sends an export frame when full or FLUSH_US after its first record. -/
  | csExportFrameFlush (t : Nat)
  /-- CS_EXPORT_RING_WRITE (R463): Channel 1 writes a group into the trace export ring when there is room. -/
  | csExportRingWrite (t : Nat)
  /-- PCIE_READ (R473): A PCIe read of BAR0 or BAR2 is served DWORD by DWORD after earlier writes of its origin. -/
  | pcieRead (t : Nat) (bar : Nat) (off : Nat) (dwords : Nat)
  /-- PCIE_WRITE (R475): A PCIe write arrives and is carried non-posted to its target. -/
  | pcieWrite (t : Nat) (requester : Nat) (bar : Nat) (off : Nat) (data : List (Word × Nat))
  /-- WRITE_CARRIAGE_END (R477): A carried write takes effect at its target or fails. -/
  | writeCarriageEnd (t : Nat) (o : Origin) (ecc : Bool)
  /-- WRITE_TIMEOUT (R478): A carried write is not done within 20 µs and fails with TIMEOUT. -/
  | writeTimeout (t : Nat) (o : Origin)
  /-- PROOF_FENCE_READ (R481): A read of one's own BRG.PROOFo returns after every earlier write of that origin has landed or failed. -/
  | proofFenceRead (t : Nat) (o : Origin)
  /-- PCIE_ATOMIC (R483): An AtomicOp takes a semaphore, reads, computes, writes and returns the old value. -/
  | pcieAtomic (t : Nat) (op : AtomicOp) (wide : Bool) (bar : Nat) (off : Nat) (x y : Nat)
  /-- ATOMIC_SEMAPHORE_TIMEOUT (R483): An AtomicOp waits 20 µs for a semaphore and fails with CA. -/
  | atomicSemaphoreTimeout (t : Nat)
  /-- SPI_READ_FRAME (R496): An SPI read frame returns status, words and CRC. -/
  | spiReadFrame (t : Nat) (bytes : Bytes)
  /-- SPI_WRITE_FRAME (R496): An SPI write frame's words take effect when the data CRC checks. -/
  | spiWriteFrame (t : Nat) (bytes : Bytes)
  /-- SPI_LOCK (R484): An SPI lock frame takes a semaphore for a line. -/
  | spiLock (t : Nat) (bytes : Bytes)
  /-- SPI_UNLOCK (R484): An SPI unlock frame releases the SPI semaphore. -/
  | spiUnlock (t : Nat) (bytes : Bytes)
  /-- SPI_LOCK_TIMEOUT (R484): 100 µs after a lock, the semaphore is released and lock-lost is set. -/
  | spiLockTimeout (t : Nat)
  /-- MSIX_MESSAGE (R488): An armed source with a pending packet sends its MSI-X message after HOLDOFF and disarms. -/
  | msixMessage (t : Nat) (source : Nat)
  /-- RING_GAP_MARKER (R521): A pending gap closes by writing a gap marker once enough slots are free. -/
  | ringGapMarker (t : Nat) (ring : RingId)
  /-- MIRROR_COPY (R490): The copier writes a whole packet into the host-memory mirror and updates the producer count. -/
  | mirrorCopy (t : Nat) (source : Nat)
  /-- MIRROR_DMA_FAIL (R491): A mirror DMA write fails, so the mirror stops and MIR_EN clears. -/
  | mirrorDmaFail (t : Nat) (source : Nat)
  /-- HP_TX_DESCRIPTOR (R493): The device reads a transmit descriptor and frame and injects it at port 28. -/
  | hpTxDescriptor (t : Nat) (desc : Rec) (frame : Bytes) (dmaOk : Bool)
  /-- HP_RX_FRAME_WRITE (R494): A frame leaving port 28 is written into a receive descriptor's buffer with write-back. -/
  | hpRxFrameWrite (t : Nat) (desc : Rec) (dmaOk : Bool)
  /-- INBAND_FRAME_RX (R499): An in-band mailbox frame at port 29 is checked and its messages enter the request ring. -/
  | inbandFrameRx (t : Nat) (bytes : Bytes)
  /-- PCIE_LINK_UP (R683): The PCIe link trains, and port 28 counts as UP when enabled. -/
  | pcieLinkUp (t : Nat) (rate width : Nat)
  /-- PCIE_FUNCTION_RESET (R637): PERST_N, a hot reset, a link-down or an FLR resets only the PCIe function and discards port 28 queues. -/
  | pcieFunctionReset (t : Nat) (linkDown : Bool)
  /-- MBX_DOORBELL (R525): A write of MBX.REQ_PTRm.PROD publishes the new words as one packet. -/
  | mbxDoorbell (t : Nat) (m : Nat) (o : Origin) (a : Alias) (v : Word)
  /-- MBX_RING_RESET (R544): A write of MBX.CTRLm.RESET resets the request ring pointers and opens the mailbox. -/
  | mbxRingReset (t : Nat) (m : Nat) (o : Origin) (a : Alias) (v : Word)
  /-- MBX_RSP_CONS_WRITE (R519): The host writes the response consumer pointer, passing packets and re-arming the source. -/
  | mbxRspConsWrite (t : Nat) (m : Nat) (o : Origin) (a : Alias) (v : Word)
  /-- EVQ_CONS_WRITE (R519): The host writes an event ring's consumer pointer. -/
  | evqConsWrite (t : Nat) (e : Nat) (o : Origin) (a : Alias) (v : Word)
  /-- RING_PTR_CONS_WRITE (R519): The host writes the consumer pointer of a CAN, LIN or trace ring. -/
  | ringPtrConsWrite (t : Nat) (source : Nat) (o : Origin) (a : Alias) (v : Word)
  /-- PROOF_PTR_CONS_WRITE (R519): The host writes BRG.PROOF_PTR.CONS to release Proof log entries. -/
  | proofPtrConsWrite (t : Nat) (o : Origin) (a : Alias) (v : Word)
  /-- MIR_CONS_WRITE (R488): The host writes BRG.MIR_CONSs, freeing mirror space and re-arming the source. -/
  | mirConsWrite (t : Nat) (source : Nat) (o : Origin) (a : Alias) (v : Word)
  /-- REQUEST_TAKE (R527): The firmware takes the next request of a mailbox in round robin, checks, journals and executes it. -/
  | requestTake (t : Nat)
  /-- PARTNER_TOKEN_RX (R588): A partner token is authenticated, accepted and acknowledged. -/
  | partnerTokenRx (t : Nat) (msg : Rec)
  /-- PARTNER_ACK_RX (R589): A partner acknowledgement extends a lease or completes a claim. -/
  | partnerAckRx (t : Nat) (msg : Rec)
  /-- PARTNER_CKPT_PART_RX (R591): A checkpoint part is accepted, and a whole checkpoint is applied and acknowledged. -/
  | partnerCkptPartRx (t : Nat) (msg : Rec)
  /-- PARTNER_CKPT_ACK_RX (R591): The owner receives a checkpoint acknowledgement. -/
  | partnerCkptAckRx (t : Nat) (msg : Rec)
  /-- PARTNER_RELEASE_RX (R594): A release message hands the object to this device without advance. -/
  | partnerReleaseRx (t : Nat) (msg : Rec)
  /-- PARTNER_MAPPING_RX (R467): A partner's mapping is written as a PARTNER_MAP group. -/
  | partnerMappingRx (t : Nat) (msg : Rec)
  /-- PARTNER_UP_TIMEOUT (R583): No partner message is accepted for 20 ms, and PARTNER_UP clears. -/
  | partnerUpTimeout (t : Nat)
  /-- LEASE_TOKEN_TIMER (R588): Every 5 ms, the owner of lease-guarded objects sends a token. -/
  | leaseTokenTimer (t : Nat)
  /-- LEASE_EXPIRY (R588): A lease runs out 20 ms after the last acknowledged token, so the owner relinquishes the object. -/
  | leaseExpiry (t : Nat) (obj : Nat)
  /-- CLAIM_WAIT_EXPIRY (R589): A non-owner's claim wait ends, and it claims at once or sends a claiming token. -/
  | claimWaitExpiry (t : Nat) (obj : Nat)
  /-- CLAIM_ACK_TIMEOUT (R589): No acknowledgement arrives within 1 ms of a claiming token, so a new claim wait starts. -/
  | claimAckTimeout (t : Nat) (obj : Nat)
  /-- INTERLOCK_LOW_QUALIFIED (R587): PAIR_OWN_IN stays low for 10 or 50 µs, and the device raises PAIR_OWN_OUT to claim. -/
  | interlockLowQualified (t : Nat)
  /-- INTERLOCK_CLAIM_SAMPLE (R587): 2 µs after claiming, PAIR_OWN_IN is sampled and the interlock group is owned or withdrawn. -/
  | interlockClaimSample (t : Nat) (inHigh : Bool)
  /-- CHECKPOINT_TIMER (R591): Every checkpoint interval, an owner takes and sends a checkpoint. -/
  | checkpointTimer (t : Nat)
  /-- CHECKPOINT_MISS (R592): A non-owner applies no checkpoint for an interval plus 5 ms, and CKPT_MISS counts it. -/
  | checkpointMiss (t : Nat)
  /-- CONTROL_WATCHDOG_EXPIRY (R597): The control watchdog expires, and the held core takes over from the newer snapshot. -/
  | controlWatchdogExpiry (t : Nat)
  /-- CONTROL_TAKEOVER_COMPLETE (R597): The new core serves mailboxes and stages again commands from the journal. -/
  | controlTakeoverComplete (t : Nat)
  /-- ECC_ERROR_DETECTED (R653): The scrubber or a reader finds an ECC error, with the consequence for its region. -/
  | eccErrorDetected (t : Nat) (region : Nat) (off : Nat) (uncorrectable : Bool) (target : EccTarget)
  /-- LOOKUP_ENTRY_REWRITE (R653): The firmware rewrites a lookup entry with an uncorrectable error from its staged copy. -/
  | lookupEntryRewrite (t : Nat) (target : EccTarget)
  /-- ACTIVATION_BODY_LOADED (R608): The body is loaded and matched; the new image starts, serves mailboxes and posts the final OK. -/
  | activationBodyLoaded (t : Nat) (bodyMatches : Bool)
  /-- SETTINGS_MIGRATION_COMPLETE (R613): A migrated settings copy is written and read back, and SETTINGS_GOOD is set. -/
  | settingsMigrationComplete (t : Nat) (ok : Bool)
  /-- FLASH_WRITE_COMPLETE (R606): A download chunk or settings copy is erased and programmed, and the final response is posted. -/
  | flashWriteComplete (t : Nat) (ok : Bool)
  /-- FUSE_WRITE_COMPLETE (R617): The fuse steps of a commit, lifecycle change or pair bind read back, and the final response is posted. -/
  | fuseWriteComplete (t : Nat) (ok : Bool)
  /-- RAILS_GOOD (R627): All core rails and VDD_RET have held their levels for 100 µs, and the held reset is released. -/
  | railsGood (t : Nat)
  /-- CORE_RAIL_BROWNOUT (R627): A core rail stays below its brown-out level for 1 µs, and a system reset follows. -/
  | coreRailBrownout (t : Nat) (millivolts microseconds : Nat)
  /-- CORE_RAIL_OFF (R627): A core rail falls below its off level, and a power-on reset follows. -/
  | coreRailOff (t : Nat)
  /-- VDD_RET_LOW (R628): VDD_RET falls below 0.70 V, so retention is lost and RET_VALID clears. -/
  | vddRetLow (t : Nat)
  /-- VBAT_DISTURBANCE (R629): A VBAT undervoltage, overvoltage or interruption qualifies after 10 µs. -/
  | vbatDisturbance (t : Nat) (kind : VbatKind) (millivolts : Nat)
  /-- VBAT_DISTURBANCE_END (R629): A VBAT disturbance ends, and its SUPPLY record is written. -/
  | vbatDisturbanceEnd (t : Nat) (millivolts : Nat)
  /-- VBAT_POWER_ON_RESET (R634): VBAT falls below 2.5 V, resetting Crocus and everything. -/
  | vbatPowerOnReset (t : Nat)
  /-- PORST_N_ASSERT (R634): PORST_N is low for 1 µs or longer, causing a power-on reset. -/
  | porstNAssert (t : Nat)
  /-- SYSRST_N_ASSERT (R634): SYSRST_N is low for 1 µs or longer, causing a system reset. -/
  | sysrstNAssert (t : Nat)
  /-- POWER_ON_RESET (R635): A power-on reset clears all but the kept items, and retention unless retained with RET_VALID. -/
  | powerOnReset (t : PowerOn)
  /-- SYSTEM_RESET (R635): A system reset clears tables, locks, rings and the time unit, keeping retention and keys. -/
  | systemReset (t : Nat) (cause : Nat)
  /-- SYS_GO (R639): A keyed write of SYS.RST_CTRL.SYS_GO causes a system reset 1 µs later. -/
  | sysGo (t : Nat) (o : Origin) (a : Alias) (v : Word)
  /-- CTRL_GO (R638): A keyed write of SYS.RST_CTRL.CTRL_GO starts a control reset that reloads the firmware body. -/
  | ctrlGo (t : Nat) (o : Origin) (a : Alias) (v : Word)
  /-- CONTROL_RESET_COMPLETE (R638): After a control reset, the running core restarts from the snapshot and serves mailboxes. -/
  | controlResetComplete (t : Nat)
  /-- CLOCK_MONITOR_FAULT (R633): The 25 MHz reference or the core PLL fails its monitor, raising the cipher alarm and a held system reset. -/
  | clockMonitorFault (t : Nat)
  /-- CLOCK_MONITOR_RETURN (R633): After 1 ms of clean reference and PLL lock, the held reset is released. -/
  | clockMonitorReturn (t : Nat)
  /-- PCIE_REFERENCE_LOST (R633): The PCIe reference fails, so the link goes down and cause 0x09 is raised. -/
  | pcieReferenceLost (t : Nat)
  /-- PCIE_REFERENCE_RETURN (R633): After 1 ms of clean PCIe reference, link training starts. -/
  | pcieReferenceReturn (t : Nat)
  /-- OSC32K_STOPPED (R633): The 32.768 kHz oscillator shows no edge for 1 ms, and cause 0x08 is raised. -/
  | osc32kStopped (t : Nat)
  /-- JUNCTION_TEMP_HIGH (R672): The junction rises above 125 °C, and cause 0x05 is raised. -/
  | junctionTempHigh (t : Nat)
  /-- JUNCTION_TEMP_NORMAL (R672): The junction falls back below 120 °C, and cause 0x06 is raised. -/
  | junctionTempNormal (t : Nat)
  /-- BOOT_IMAGE_VERIFY (R605): The ROM reads and checks the image, starting it or entering Safelight. -/
  | bootImageVerify (t : Nat) (flashAnswers bodyMatches : Bool)
  /-- START_UP_COMPLETE (R641): Settings are applied, forwarding is enabled and mailboxes are served. -/
  | startUpComplete (t : Nat)
  /-- RETAINED_WAKE_RESUME (R642): At a retained wake, the ROM checks the resume kernel, which applies settings and forwards. -/
  | retainedWakeResume (t : Nat) (kernelOk : Bool)
  /-- RESUME_IMAGE_CHECKED (R642): The full image is loaded and checked after a retained wake, and mailboxes are served. -/
  | resumeImageChecked (t : Nat) (ok : Bool)
  /-- CABLE_DIAG_COMPLETE (R651): The T1 cable measurement ends, posts its result and the port trains. -/
  | cableDiagComplete (t : Nat) (port : Nat) (result distance : Nat)
  /-- JTAG_UNLOCK_GO (R658): A write of TEST.JTAG_CTRL.GO starts verification of the unlock signature. -/
  | jtagUnlockGo (t : Nat) (o : Origin) (a : Alias) (v : Word)
  /-- JTAG_VERIFY_COMPLETE (R658): The unlock signature verifies and sets OPEN, or fails, counts FAILS and may set LOCKOUT. -/
  | jtagVerifyComplete (t : Nat)
  /-- JTAG_INSTRUCTION (R657): A TAP instruction is loaded, and opening JTAG in a locked state raises the debug alarm. -/
  | jtagInstruction (t : Nat) (j : JtagInstr)
  /-- SYS_REG_LOCK_WRITE (R510): A write of SYS.REG_LOCK sets block locks on RWL fields. -/
  | sysRegLockWrite (t : Nat) (o : Origin) (a : Alias) (v : Word)
  /-- BYPASS_LOCK_SET (R297): Setting SYS.FW_STAT.BYPASS_LOCK ends every running bypass and refuses further ones. -/
  | bypassLockSet (t : Nat) (o : Origin) (a : Alias) (v : Word)
  /-- SPI_LOCK_SET (R501): Setting BRG.CTRL.SPI_LOCK makes SPI frames answer SPI_LOCKED. -/
  | spiLockSet (t : Nat) (o : Origin) (a : Alias) (v : Word)
  /-- IB_LOCK_SET (R501): Setting BRG.CTRL.IB_LOCK locks every BRG.IB_CFGm. -/
  | ibLockSet (t : Nat) (o : Origin) (a : Alias) (v : Word)
  /-- IB_CFG_WRITE (R498): A write of BRG.IB_CFGm enables or disables in-band use of a mailbox. -/
  | ibCfgWrite (t : Nat) (m : Nat) (o : Origin) (a : Alias) (v : Word)
  /-- RING_CFG_WRITE (R486): A write of BRG.RING_CFGs sets mirror, interrupt and pin settings, or fails CONFIG. -/
  | ringCfgWrite (t : Nat) (source : Nat) (o : Origin) (a : Alias) (v : Word)
  /-- HP_TX_TAIL_WRITE (R492): The host writes the transmit ring tail, giving the device descriptors to read. -/
  | hpTxTailWrite (t : Nat) (o : Origin) (a : Alias) (v : Word)
  /-- HP_RX_TAIL_WRITE (R494): The host writes the receive ring tail, giving free descriptors. -/
  | hpRxTailWrite (t : Nat) (o : Origin) (a : Alias) (v : Word)
  /-- REGISTER_WRITE (R506): A direct or alias write to any other register acts under its fields' access codes. -/
  | registerWrite (t : Nat) (o : Origin) (off : Nat) (v : Word)
  /-- HELLO (R541): HELLO negotiates a version and opens or resumes a mailbox. -/
  | hello (t : Nat) (q : Req)
  /-- SYS_SETTINGS (R564): Sets the authentication slot and the notice mailbox. -/
  | sysSettings (t : Nat) (q : Req)
  /-- SYS_BEAT_LENGTH (R20): Sets k of the Beat length from the next second boundary. -/
  | sysBeatLength (t : Nat) (q : Req)
  /-- SYS_PORT (R132): Configures an external port, taking it DOWN and up again. -/
  | sysPort (t : Nat) (q : Req)
  /-- SYS_PORT_STATUS (R143): Returns a port's status record and counters. -/
  | sysPortStatus (t : Nat) (q : Req)
  /-- SYS_MDIO (R123): Runs a Clause 22 or 45 MDIO frame on an MDIO manager. -/
  | sysMdio (t : Nat) (q : Req)
  /-- SYS_BRIDGE_PORT (R152): Stages a bridge-port record. -/
  | sysBridgePort (t : Nat) (q : Req)
  /-- SYS_VLAN (R153): Stages a VLAN table entry. -/
  | sysVlan (t : Nat) (q : Req)
  /-- SYS_MAC_WRITE (R684): Stages a static or dynamic MAC entry, or removes a static one. -/
  | sysMacWrite (t : Nat) (q : Req)
  /-- SYS_MAC_READ (R561): Returns MAC table entries. -/
  | sysMacRead (t : Nat) (q : Req)
  /-- SYS_AGEING (R171): Sets the ageing time or turns ageing off. -/
  | sysAgeing (t : Nat) (q : Req)
  /-- SYS_MAC_FLUSH (R172): Removes dynamic entries by port, FID or all. -/
  | sysMacFlush (t : Nat) (q : Req)
  /-- SYS_MIRROR (R179): Stages a mirror session. -/
  | sysMirror (t : Nat) (q : Req)
  /-- SYS_BUFFER (R187): Sets the buffer partitions and LOW_MARK when executed. -/
  | sysBuffer (t : Nat) (q : Req)
  /-- SYS_BUFFER_STATUS (R189): Returns buffer occupancy. -/
  | sysBufferStatus (t : Nat) (q : Req)
  /-- SYS_BRIDGE_COUNTERS (R196): Returns a port's bridge counters. -/
  | sysBridgeCounters (t : Nat) (q : Req)
  /-- TIME_DOMAIN (R82): Configures a gPTP domain slot. -/
  | timeDomain (t : Nat) (q : Req)
  /-- TIME_SOURCE (R85): Chooses the working-time source, making a source-switch mapping. -/
  | timeSource (t : Nat) (q : Req)
  /-- TIME_SWITCH (R109): Asks the hot-standby pair to drive from a named slot. -/
  | timeSwitch (t : Nat) (q : Req)
  /-- TIME_PORT (R93): Sets per-port peer-delay, latency and stored-delay parameters. -/
  | timePort (t : Nat) (q : Req)
  /-- TIME_CORRECT (R55): The host requests a phase correction of host-disciplined time. -/
  | timeCorrect (t : Nat) (q : Req)
  /-- TIME_JUMP_THRESHOLD (R57): Sets the jump threshold. -/
  | timeJumpThreshold (t : Nat) (q : Req)
  /-- TIME_STEP (R59): The authenticated step sets working time at the next anchor. -/
  | timeStep (t : Nat) (q : Req)
  /-- TIME_STATUS (R112): Returns a domain slot's status record. -/
  | timeStatus (t : Nat) (q : Req)
  /-- TIME_PAIR_TIME (R113): Sets the PAIR_TIME role and trace delay. -/
  | timePairTime (t : Nat) (q : Req)
  /-- SCHED_PORT_SCHEDULER (R204): Stages a port-scheduler record. -/
  | schedPortScheduler (t : Nat) (q : Req)
  /-- SCHED_GATE_LIST (R205): Writes a gate list into the admin bank. -/
  | schedGateList (t : Nat) (q : Req)
  /-- SCHED_GATE_LIST_ARM (R208): Stages the swap of the admin bank. -/
  | schedGateListArm (t : Nat) (q : Req)
  /-- SCHED_GATE_STATUS (R214): Returns a port's gate status. -/
  | schedGateStatus (t : Nat) (q : Req)
  /-- SCHED_SHAPER (R217): Stages a shaper record for a class. -/
  | schedShaper (t : Nat) (q : Req)
  /-- SCHED_SAMPLE (R235): Returns the last completed Beat's samples. -/
  | schedSample (t : Nat) (q : Req)
  /-- SCHED_COUNTERS (R237): Returns a port's scheduler counters. -/
  | schedCounters (t : Nat) (q : Req)
  /-- STREAM_IP_PROFILE (R159): Stages an IP identification profile. -/
  | streamIpProfile (t : Nat) (q : Req)
  /-- STREAM_ID_WRITE (R161): Stages a stream identification entry. -/
  | streamIdWrite (t : Nat) (q : Req)
  /-- STREAM_ID_DELETE (R161): Stages removal of an identification entry. -/
  | streamIdDelete (t : Nat) (q : Req)
  /-- STREAM_HANDLE (R163): Stages a stream handle entry. -/
  | streamHandle (t : Nat) (q : Req)
  /-- STREAM_FILTER (R244): Stages a stream filter. -/
  | streamFilter (t : Nat) (q : Req)
  /-- STREAM_GATE (R249): Stages a stream gate record. -/
  | streamGate (t : Nat) (q : Req)
  /-- STREAM_GATE_POOL (R248): Writes stream gate pool entries. -/
  | streamGatePool (t : Nat) (q : Req)
  /-- STREAM_METER (R253): Stages a flow meter record. -/
  | streamMeter (t : Nat) (q : Req)
  /-- STREAM_GENERATION (R259): Stages a sequence generation record. -/
  | streamGeneration (t : Nat) (q : Req)
  /-- STREAM_RECOVERY (R261): Stages a sequence recovery record. -/
  | streamRecovery (t : Nat) (q : Req)
  /-- STREAM_CLEAR (R245): Clears BLOCKED, a gate latch, MARK_RED or LATENT. -/
  | streamClear (t : Nat) (q : Req)
  /-- STREAM_FILTER_STATUS (R266): Returns filter, gate and meter status. -/
  | streamFilterStatus (t : Nat) (q : Req)
  /-- STREAM_FRER_STATUS (R267): Returns FRER status. -/
  | streamFrerStatus (t : Nat) (q : Req)
  /-- FILT_ZONE (R271): Writes zone membership into the shadow bank. -/
  | filtZone (t : Nat) (q : Req)
  /-- FILT_EXACT_RULE (R281): Places an exact rule entry and returns its index. -/
  | filtExactRule (t : Nat) (q : Req)
  /-- FILT_TERNARY_RULE (R280): Writes a ternary rule entry. -/
  | filtTernaryRule (t : Nat) (q : Req)
  /-- FILT_MEMBERSHIP (R275): Sets or clears an entry's shadow-bank bit. -/
  | filtMembership (t : Nat) (q : Req)
  /-- FILT_RULE_DELETE (R275): Deletes a rule entry not in the enforcing bank. -/
  | filtRuleDelete (t : Nat) (q : Req)
  /-- FILT_BANK_COPY (R276): Copies the enforcing bank into the shadow bank. -/
  | filtBankCopy (t : Nat) (q : Req)
  /-- FILT_SWAP (R277): Stages a firewall bank swap. -/
  | filtSwap (t : Nat) (q : Req)
  /-- FILT_DRY_RUN (R293): Sets or clears dry run. -/
  | filtDryRun (t : Nat) (q : Req)
  /-- FILT_TRACKER (R290): Sets the tracker timeouts. -/
  | filtTracker (t : Nat) (q : Req)
  /-- FILT_TRACKER_FLUSH (R292): Removes tracker entries by zone pair, rule or all. -/
  | filtTrackerFlush (t : Nat) (q : Req)
  /-- FILT_TRACKER_READ (R292): Returns tracker entries. -/
  | filtTrackerRead (t : Nat) (q : Req)
  /-- FILT_BYPASS (R296): Starts or ends a zone-pair bypass. -/
  | filtBypass (t : Nat) (q : Req)
  /-- FILT_LOG (R300): Sets the log rate and burst. -/
  | filtLog (t : Nat) (q : Req)
  /-- FILT_STATUS (R301): Returns firewall status. -/
  | filtStatus (t : Nat) (q : Req)
  /-- FILT_ZONE_COUNTERS (R301): Returns per-zone-pair counters. -/
  | filtZoneCounters (t : Nat) (q : Req)
  /-- FILT_RULE_COUNTERS (R301): Returns a rule's HITS and SHADOW_HITS. -/
  | filtRuleCounters (t : Nat) (q : Req)
  /-- GW_CONTROLLER (R305): Configures a CAN controller. -/
  | gwController (t : Nat) (q : Req)
  /-- GW_CAN_SEND (R572): Places a host frame in a host transmit slot. -/
  | gwCanSend (t : Nat) (q : Req)
  /-- GW_CAN_ABORT (R354): Aborts a host slot. -/
  | gwCanAbort (t : Nat) (q : Req)
  /-- GW_RECOVER (R317): Starts bus-off recovery without AUTO_RECOVER. -/
  | gwRecover (t : Nat) (q : Req)
  /-- GW_LIN (R321): Configures a LIN bus. -/
  | gwLin (t : Nat) (q : Req)
  /-- GW_LIN_POOL (R322): Writes LIN schedule pool entries. -/
  | gwLinPool (t : Nat) (q : Req)
  /-- GW_LIN_TABLE (R323): Writes a LIN table header. -/
  | gwLinTable (t : Nat) (q : Req)
  /-- GW_LIN_SELECT (R325): Stages the selection of a LIN table. -/
  | gwLinSelect (t : Nat) (q : Req)
  /-- GW_LIN_PUBLISH (R326): Writes a LIN publish buffer. -/
  | gwLinPublish (t : Nat) (q : Req)
  /-- GW_ROUTE (R330): Stages a gateway route entry. -/
  | gwRoute (t : Nat) (q : Req)
  /-- GW_TUNNEL (R335): Stages a transmit tunnel. -/
  | gwTunnel (t : Nat) (q : Req)
  /-- GW_RECEIVE_TUNNEL (R339): Stages a receive tunnel. -/
  | gwReceiveTunnel (t : Nat) (q : Req)
  /-- GW_SETTINGS (R338): Sets the gateway source address. -/
  | gwSettings (t : Nat) (q : Req)
  /-- GW_AUTH (R346): Stages an authentication entry and writes FRESH. -/
  | gwAuth (t : Nat) (q : Req)
  /-- GW_CAN_STATUS (R351): Returns a CAN bus status record. -/
  | gwCanStatus (t : Nat) (q : Req)
  /-- GW_LIN_STATUS (R351): Returns a LIN bus status record. -/
  | gwLinStatus (t : Nat) (q : Req)
  /-- GW_DROPS (R349): Returns gateway drop counters. -/
  | gwDrops (t : Nat) (q : Req)
  /-- GW_TUNNEL_STATUS (R351): Returns tunnel counters. -/
  | gwTunnelStatus (t : Nat) (q : Req)
  /-- GW_ROUTE_STATUS (R351): Returns a route's HITS. -/
  | gwRouteStatus (t : Nat) (q : Req)
  /-- NM_WAKE_SOURCE (R359): Configures a wake source. -/
  | nmWakeSource (t : Nat) (q : Req)
  /-- NM_STANDBY (R363): Requests standby at a level, refused while a segment is awake. -/
  | nmStandby (t : Nat) (q : Req)
  /-- NM_SEGMENT (R368): Stages a segment record. -/
  | nmSegment (t : Nat) (q : Req)
  /-- NM_REQUEST (R370): Requests or releases a segment or cluster, or gives the ignition-off hint. -/
  | nmRequest (t : Nat) (q : Req)
  /-- NM_SETTINGS (R387): Sets the network management settings. -/
  | nmSettings (t : Nat) (q : Req)
  /-- NM_OFFENDER_READ (R385): Returns, and optionally clears, the offender log. -/
  | nmOffenderRead (t : Nat) (q : Req)
  /-- NM_SEGMENT_STATUS (R389): Returns a segment status record. -/
  | nmSegmentStatus (t : Nat) (q : Req)
  /-- NM_WAKE_SOURCE_STATUS (R389): Returns a wake-source status record. -/
  | nmWakeSourceStatus (t : Nat) (q : Req)
  /-- KEY_SLOT_INFO (R394): Returns a slot's metadata. -/
  | keySlotInfo (t : Nat) (q : Req)
  /-- KEY_UNWRAP (R398): Unwraps a blob into a slot. -/
  | keyUnwrap (t : Nat) (q : Req)
  /-- KEY_DERIVE (R399): Derives a key into a slot. -/
  | keyDerive (t : Nat) (q : Req)
  /-- KEY_GENERATE (R397): Generates a key or key pair from the DRBG. -/
  | keyGenerate (t : Nat) (q : Req)
  /-- KEY_PLAIN_WRITE (R397): Writes a plain key, in Open only. -/
  | keyPlainWrite (t : Nat) (q : Req)
  /-- KEY_ERASE (R397): Erases a slot. -/
  | keyErase (t : Nat) (q : Req)
  /-- CRYPT_SETTINGS (R402): Sets GW_SHARE and TEST_S. -/
  | cryptSettings (t : Nat) (q : Req)
  /-- CRYPT_SECY (R407): Configures a port as a SecY. -/
  | cryptSecy (t : Nat) (q : Req)
  /-- CRYPT_SA (R410): Writes an SA record and copies its key. -/
  | cryptSa (t : Nat) (q : Req)
  /-- CRYPT_RECEIVE_SC (R411): Writes a receive SC entry. -/
  | cryptReceiveSc (t : Nat) (q : Req)
  /-- CRYPT_SECY_STATUS (R415): Returns a port's MACsec counters. -/
  | cryptSecyStatus (t : Nat) (q : Req)
  /-- CRYPT_RX_SA_STATUS (R415): Returns an SA's PN and key state. -/
  | cryptRxSaStatus (t : Nat) (q : Req)
  /-- CRYPT_OPERATION (R576): Runs a bulk cryptographic operation as requester 5. -/
  | cryptOperation (t : Nat) (q : Req)
  /-- TRACE_SELECTOR (R458): Writes a frame selector. -/
  | traceSelector (t : Nat) (q : Req)
  /-- TRACE_EXPORT (R460): Configures an export channel. -/
  | traceExport (t : Nat) (q : Req)
  /-- TRACE_SETTINGS (R459): Sets TRACE_SNAP. -/
  | traceSettings (t : Nat) (q : Req)
  /-- DARK_STATUS (R446): Returns the Darkroom status and slot list. -/
  | darkStatus (t : Nat) (q : Req)
  /-- DARK_IDENTITY (R442): Returns the Darkroom public key and DRK_ID. -/
  | darkIdentity (t : Nat) (q : Req)
  /-- DARK_CALIBRATION_READ (R431): Returns a calibration image. -/
  | darkCalibrationRead (t : Nat) (q : Req)
  /-- DARK_RESEAL (R433): Starts writing a new calibration image. -/
  | darkReseal (t : Nat) (q : Req)
  /-- DARK_TRIGGER (R437): A host evidence trigger opens, merges or queues a window. -/
  | darkTrigger (t : Nat) (q : Req)
  /-- DARK_TRIGGER_TABLE (R435): Writes a trigger table entry. -/
  | darkTriggerTable (t : Nat) (q : Req)
  /-- DARK_WINDOW (R436): Sets the window record for the next trigger. -/
  | darkWindow (t : Nat) (q : Req)
  /-- DARK_EXPORT (R441): Reads a chunk of an acknowledged evidence slot. -/
  | darkExport (t : Nat) (q : Req)
  /-- DARK_RELEASE (R441): Erases and frees an evidence slot. -/
  | darkRelease (t : Nat) (q : Req)
  /-- DARK_ATTEST (R444): Returns a signed attestation over a nonce. -/
  | darkAttest (t : Nat) (q : Req)
  /-- DARK_AUDIT_READ (R444): Returns audit record entries. -/
  | darkAuditRead (t : Nat) (q : Req)
  /-- PAIR_CONFIG (R581): Enables or disables pairing and sets the partner port and interval. -/
  | pairConfig (t : Nat) (q : Req)
  /-- PAIR_OBJECT (R584): Sets an ownership object's guard. -/
  | pairObject (t : Nat) (q : Req)
  /-- PAIR_BIND (R580): Starts fusing this device's role and partner identity. -/
  | pairBind (t : Nat) (q : Req)
  /-- PAIR_STATUS (R577): Returns pair ownership status. -/
  | pairStatus (t : Nat) (q : Req)
  /-- PAIR_RELEASE (R594): Asks the owner to hand over an object at the next boundary. -/
  | pairRelease (t : Nat) (q : Req)
  /-- FW_STATUS (R578): Returns firmware, floor and lifecycle status. -/
  | fwStatus (t : Nat) (q : Req)
  /-- FW_DOWNLOAD (R606): Starts writing image data into the image slot. -/
  | fwDownload (t : Nat) (q : Req)
  /-- FW_ACTIVATE (R608): Checks the slot image and schedules its activation. -/
  | fwActivate (t : Nat) (q : Req)
  /-- FW_COMMIT (R617): Commits the running image, raising the anti-rollback floor. -/
  | fwCommit (t : Nat) (q : Req)
  /-- FW_SETTINGS_WRITE (R611): Checks a settings copy and starts writing it. -/
  | fwSettingsWrite (t : Nat) (q : Req)
  /-- FW_SETTINGS_READ (R578): Reads settings into a staging part. -/
  | fwSettingsRead (t : Nat) (q : Req)
  /-- FW_LIFECYCLE (R620): Starts moving the lifecycle to the next state. -/
  | fwLifecycle (t : Nat) (q : Req)
  /-- TEST_LOOPBACK (R648): Sets or ends a MAC, PCS or PHY loopback on a port. -/
  | testLoopback (t : Nat) (q : Req)
  /-- TEST_PRBS (R650): Starts, stops or reads a PRBS test on a SerDes port. -/
  | testPrbs (t : Nat) (q : Req)
  /-- TEST_CABLE (R651): Starts T1 cable diagnostics. -/
  | testCable (t : Nat) (q : Req)
  /-- TEST_CIPHER (R421): Runs a known-answer test at once on a pipe or the bulk engine. -/
  | testCipher (t : Nat) (q : Req)
  /-- TEST_SERVICE (R654): Stages a port's entry into, or exit from, OUT_OF_SERVICE. -/
  | testService (t : Nat) (q : Req)
  /-- TEST_SCRUB_STATUS (R652): Returns the per-region ECC counts. -/
  | testScrubStatus (t : Nat) (q : Req)
  /-- SERDES_REFERENCE_RETURN (R122): A lost SerDes reference returns clean for 1 ms, and the ports of its group start again from DOWN under R136. -/
  | serdesReferenceReturn (t : Nat) (groupB : Bool)
  /-- MERGE_VERIFY_DONE (R225): The MAC merge sublayer completes 802.3br verification with the link partner, and MERGE_ACT becomes 1 so that preemption and hold operations act. -/
  | mergeVerifyDone (t : Nat) (port : Nat)
  /-- ANNOUNCE_TX (R104): At the slot's Announce interval, a master port sends Announce carrying the slot's clockClass, or its holdover clockClass in holdover. -/
  | announceTx (t : Nat) (slot port : Nat)
  /-- SPI_CHIP_SELECT_FALL (R474): A falling edge of SPI_CS_N completes a capture armed with TRIG 0b01, whatever frame follows. -/
  | spiChipSelectFall (t : Nat)
  /-- T1_TRAINING_ATTEMPT_FAIL (R126): A 1000BASE-T1 or 100BASE-T1 training attempt fails, TRAIN_FAIL increments and the PHY stays in TRAINING. -/
  | t1TrainingAttemptFail (t : Nat) (port : Nat)
  /-- JTAG_TEST_LOGIC_RESET (R656): TRST_N falls or the TAP returns to Test-Logic-Reset, ending EXTEST, CLAMP or HIGHZ and releasing the system reset they held. -/
  | jtagTestLogicReset (t : Nat)
  /-- PCS_FEC_ERROR (R144): The PCS or FEC meets a corrected or uncorrectable codeword, an errored block, or a local fault, remote fault or high bit error rate, counts it and raises port event 4 or 5. -/
  | pcsFecError (t : Nat) (port : Nat) (k : PcsErr)
deriving DecidableEq, Repr

end Sys2Proof
end

