-- ==== Sys2Proof/Machine/Bits.lean ====
section
/-!
DEFINITION. Bit fields of words and records, signed fields, packing of fields, and the byte orders of frames and of BAR2.
-/
namespace Sys2Proof.Machine

/-- Bits [hi:lo] of a natural number. -/
def nbits (n hi lo : Nat) : Nat := n / 2 ^ lo % 2 ^ (hi + 1 - lo)

/-- Bits [hi:lo] of a word. -/
def bits (w : Word) (hi lo : Nat) : Nat := nbits w.toNat hi lo

/-- Bit i of a word. -/
def bit (w : Word) (i : Nat) : Bool := w.getLsbD i

/-- The word that holds n modulo 2^32. -/
def word (n : Nat) : Word := BitVec.ofNat 32 n

/-- Word i of a record; a word beyond its end reads 0. -/
def rw (r : Rec) (i : Nat) : Word := r.getD i 0

/-- Field [hi:lo] of word i of a record. -/
def fld (r : Rec) (i hi lo : Nat) : Nat := bits (rw r i) hi lo

/-- Bit b of word i of a record. -/
def flag (r : Rec) (i b : Nat) : Bool := bit (rw r i) b

/-- The value of an n-bit two's-complement field. -/
def signed (n v : Nat) : Int := if v % 2 ^ n < 2 ^ (n - 1) then (v % 2 ^ n : Nat) else (v % 2 ^ n : Nat) - (2 : Int) ^ n

/-- The n-bit field that holds an integer in two's complement. -/
def unsigned (n : Nat) (v : Int) : Nat := (v % (2 : Int) ^ n).toNat

/-- Fields packed most significant first: each is (width, value). -/
def pack (l : List (Nat × Nat)) : Nat := l.foldl (fun acc p => acc * 2 ^ p.1 + p.2 % 2 ^ p.1) 0

/-- A word packed from its fields, most significant first. -/
def packW (l : List (Nat × Nat)) : Word := word (pack l)

/-- A 64-bit payload packed from its fields, most significant first (R448). -/
def pack64 (l : List (Nat × Nat)) : BitVec 64 := BitVec.ofNat 64 (pack l)

/-- A flag as a field value. -/
def b2n (b : Bool) : Nat := if b then 1 else 0

/-- Two words as one 64-bit value, the first one the higher (log entry 6). -/
def cat64 (hi lo : Word) : Nat := hi.toNat * 2 ^ 32 + lo.toNat

/-- The high and the low word of a 64-bit value. -/
def split64 (n : Nat) : Rec := [word (n / 2 ^ 32), word n]

/-- A count that saturates at its n-bit all-ones value (R508). -/
def satAdd (n c k : Nat) : Nat := min (c + k) (2 ^ n - 1)

/-- An integer held between two bounds. -/
def clampI (lo hi v : Int) : Int := max lo (min hi v)

/-- The word with bits [hi:lo] replaced. -/
def putBits (w : Word) (hi lo v : Nat) : Word :=
  word (w.toNat - bits w hi lo * 2 ^ lo + v % 2 ^ (hi + 1 - lo) * 2 ^ lo)


/-- Byte i of a frame; a byte beyond its end reads 0. -/
def byteAt (b : Bytes) (i : Nat) : Nat := (b.getD i 0).toNat

/-- n bytes from offset i, first byte most significant (the order of frames). -/
def beAt (b : Bytes) (i : Nat) : Nat → Nat
  | 0 => 0
  | n + 1 => beAt b i n * 256 + byteAt b (i + n)

/-- n as k bytes, most significant first. -/
def beBytes (n : Nat) : Nat → Bytes
  | 0 => []
  | k + 1 => BitVec.ofNat 8 (n / 256 ^ k) :: beBytes n k

/-- A word's four bytes, most significant first. -/
def wordBytes (w : Word) : Bytes := beBytes w.toNat 4

/-- Words as bytes, each word most significant byte first. -/
def recBytes (r : Rec) : Bytes := r.flatMap wordBytes

/-- Bytes as words, first byte most significant, the last word padded with zeros. -/
def bytesRec : Bytes → Rec
  | a :: b :: c :: d :: r => word (beAt [a, b, c, d] 0 4) :: bytesRec r
  | [] => []
  | l => [word (beAt l 0 4)]

/-- The first i below n that meets p. -/
def firstBelow (p : Nat → Bool) : Nat → Option Nat
  | 0 => none
  | n + 1 => match firstBelow p n with
    | some i => some i
    | none => if p n then some n else none

/-- The bits set in a mask, among bits 0 to n - 1. -/
def maskBits (m n : Nat) : List Nat := (List.range n).filter (fun i => m.testBit i)

/-- The mask of a list of bit numbers. -/
def maskFrom (l : List Nat) : Nat := l.foldl (fun m i => m ||| 2 ^ i) 0

end Sys2Proof.Machine
end

