-- ==== Sys2Proof/Machine/Primitives.lean ====
section
/-!
DEFINITION. The primitives that R392 names by their standards: the AES block cipher (FIPS 197), SHA-256 and SHA-384 (FIPS 180-4), HMAC (RFC 2104), and ECDSA on
P-256 and P-384 (FIPS 186-5) with the nonces of RFC 6979.
-/
namespace Sys2Proof.Machine
open Sys2Proof

/-- Bytes as one number, first byte most significant. -/
def bytesNat (b : Bytes) : Nat := b.foldl (fun n x => n * 256 + x.toNat) 0

/-- A list cut into pieces of n; fuel bounds the pieces. -/
def cutInto {α : Type} (n : Nat) : Nat → List α → List (List α)
  | 0, _ => []
  | f + 1, l => if l.isEmpty then [] else l.take n :: cutInto n f (l.drop n)

/-- Two byte strings combined by exclusive or, as long as the first. -/
def xorBytes : Bytes → Bytes → Bytes
  | [], _ => []
  | a :: r, [] => a :: r
  | a :: r, b :: t => (a ^^^ b) :: xorBytes r t

/-! ### AES -/

/-- The substitution box and its inverse, entry 0 in the most significant byte. -/
def aesSbox : Nat :=
  0x637C777BF26B6FC53001672BFED7AB76CA82C97DFA5947F0ADD4A2AF9CA472C0B7FD9326363FF7CC34A5E5F171D8311504C723C31896059A071280E2EB27B27509832C1A1B6E5AA0523BD6B329E32F8453D100ED20FCB15B6ACBBE394A4C58CFD0EFAAFB434D338545F9027F503C9FA851A3408F929D38F5BCB6DA2110FFF3D2CD0C13EC5F974417C4A77E3D645D197360814FDC222A908846EEB814DE5E0BDBE0323A0A4906245CC2D3AC629195E479E7C8376D8DD54EA96C56F4EA657AAE08BA78252E1CA6B4C6E8DD741F4BBD8B8A703EB5664803F60E613557B986C11D9EE1F8981169D98E949B1E87E9CE5528DF8CA1890DBFE6426841992D0FB054BB16
def aesInvSbox : Nat :=
  0x52096AD53036A538BF40A39E81F3D7FB7CE339829B2FFF87348E4344C4DEE9CB547B9432A6C2233DEE4C950B42FAC34E082EA16628D924B2765BA2496D8BD12572F8F66486689816D4A45CCC5D65B6926C704850FDEDB9DA5E154657A78D9D8490D8AB008CBCD30AF7E45805B8B34506D02C1E8FCA3F0F02C1AFBD0301138A6B3A9111414F67DCEA97F2CFCEF0B4E67396AC7422E7AD3585E2F937E81C75DF6E47F11A711D29C5896FB7620EAA18BE1BFC563E4BC6D279209ADBC0FE78CD5AF41FDDA8338807C731B11210592780EC5F60517FA919B54A0D2DE57A9F93C99CEFA0E03B4DAE2AF5B0C8EBBB3C83539961172B047EBA77D626E169146355210C7D

def aesSub (box x : Nat) : Nat := box / 256 ^ (255 - x) % 256

/-- Products in the field of AES, the second factor below 16. -/
def aesDouble (a : Nat) : Nat := if a < 128 then 2 * a else (2 * a - 256) ^^^ 0x1B
def aesTimes (a b : Nat) : Nat :=
  let t := fun (i x : Nat) => if b.testBit i then x else 0
  t 0 a ^^^ t 1 (aesDouble a) ^^^ t 2 (aesDouble (aesDouble a)) ^^^ t 3 (aesDouble (aesDouble (aesDouble a)))

/-- The words of the key schedule, the newest first; a word is four bytes. -/
def aesSchedule (key : List Nat) : List (List Nat) :=
  let nk := key.length / 4
  (List.range (3 * nk + 28)).foldl (fun w j =>
    let i := nk + j
    let last := w.headD []
    let sub := fun (l : List Nat) => l.map (aesSub aesSbox)
    let turned := sub (last.drop 1 ++ last.take 1)
    let t := if i % nk = 0 then (turned.headD 0 ^^^ (List.range (i / nk - 1)).foldl (fun r _ => aesDouble r) 1) :: turned.drop 1
      else if 6 < nk && i % nk = 4 then sub last else last
    List.zipWith (· ^^^ ·) (w.getD (nk - 1) []) t :: w) (cutInto 4 nk key).reverse

/-- The round keys, the first round's first. -/
def aesKeys (key : Bytes) : List (List Nat) :=
  let w := (aesSchedule (key.map (·.toNat))).reverse
  (cutInto 4 w.length w).map List.flatten

/-- Bytes of a state shifted in their rows: by k columns a row. -/
def aesShift (k : Nat) (l : List Nat) : List Nat := (List.range 16).map (fun i => l.getD ((i + 4 * k * (i % 4)) % 16) 0)

/-- The columns of a state multiplied by a circulant matrix, given by its first row. -/
def aesMix (m l : List Nat) : List Nat :=
  (List.range 16).map (fun i => (List.range 4).foldl (fun n j => n ^^^ aesTimes (l.getD (i / 4 * 4 + j) 0) (m.getD ((j + 4 - i % 4) % 4) 0)) 0)

def aesAdd (a b : List Nat) : List Nat := List.zipWith (· ^^^ ·) a b

/-- One block enciphered, as a number of 16 bytes. -/
def aesBlock (key : Bytes) (n : Nat) : Nat :=
  let keys := aesKeys key
  let sub := fun (l : List Nat) => aesShift 1 (l.map (aesSub aesSbox))
  let start := aesAdd ((beBytes n 16).map (·.toNat)) (keys.headD [])
  let mid := (keys.drop 1).dropLast.foldl (fun l k => aesAdd (aesMix [2, 3, 1, 1] (sub l)) k) start
  (aesAdd (sub mid) (keys.getLastD [])).foldl (fun n x => n * 256 + x) 0

/-- One block deciphered. -/
def aesInv (key : Bytes) (n : Nat) : Nat :=
  let keys := (aesKeys key).reverse
  let sub := fun (l : List Nat) => (aesShift 3 l).map (aesSub aesInvSbox)
  let start := aesAdd ((beBytes n 16).map (·.toNat)) (keys.headD [])
  let mid := (keys.drop 1).dropLast.foldl (fun l k => aesMix [14, 11, 13, 9] (aesAdd (sub l) k)) start
  (aesAdd (sub mid) (keys.getLastD [])).foldl (fun n x => n * 256 + x) 0

/-! ### SHA-2 -/

/-- The round constants of the 64-bit hashes; those of the 32-bit hashes are the upper halves of the first 64. -/
def shaConstants : List Nat := [
  0x428A2F98D728AE22, 0x7137449123EF65CD, 0xB5C0FBCFEC4D3B2F, 0xE9B5DBA58189DBBC,
  0x3956C25BF348B538, 0x59F111F1B605D019, 0x923F82A4AF194F9B, 0xAB1C5ED5DA6D8118,
  0xD807AA98A3030242, 0x12835B0145706FBE, 0x243185BE4EE4B28C, 0x550C7DC3D5FFB4E2,
  0x72BE5D74F27B896F, 0x80DEB1FE3B1696B1, 0x9BDC06A725C71235, 0xC19BF174CF692694,
  0xE49B69C19EF14AD2, 0xEFBE4786384F25E3, 0x0FC19DC68B8CD5B5, 0x240CA1CC77AC9C65,
  0x2DE92C6F592B0275, 0x4A7484AA6EA6E483, 0x5CB0A9DCBD41FBD4, 0x76F988DA831153B5,
  0x983E5152EE66DFAB, 0xA831C66D2DB43210, 0xB00327C898FB213F, 0xBF597FC7BEEF0EE4,
  0xC6E00BF33DA88FC2, 0xD5A79147930AA725, 0x06CA6351E003826F, 0x142929670A0E6E70,
  0x27B70A8546D22FFC, 0x2E1B21385C26C926, 0x4D2C6DFC5AC42AED, 0x53380D139D95B3DF,
  0x650A73548BAF63DE, 0x766A0ABB3C77B2A8, 0x81C2C92E47EDAEE6, 0x92722C851482353B] ++ [
  0xA2BFE8A14CF10364, 0xA81A664BBC423001, 0xC24B8B70D0F89791, 0xC76C51A30654BE30,
  0xD192E819D6EF5218, 0xD69906245565A910, 0xF40E35855771202A, 0x106AA07032BBD1B8,
  0x19A4C116B8D2D0C8, 0x1E376C085141AB53, 0x2748774CDF8EEB99, 0x34B0BCB5E19B48A8,
  0x391C0CB3C5C95A63, 0x4ED8AA4AE3418ACB, 0x5B9CCA4F7763E373, 0x682E6FF3D6B2B8A3,
  0x748F82EE5DEFB2FC, 0x78A5636F43172F60, 0x84C87814A1F0AB72, 0x8CC702081A6439EC,
  0x90BEFFFA23631E28, 0xA4506CEBDE82BDE9, 0xBEF9A3F7B2C67915, 0xC67178F2E372532B,
  0xCA273ECEEA26619C, 0xD186B8C721C0C207, 0xEADA7DD6CDE0EB1E, 0xF57D4F7FEE6ED178,
  0x06F067AA72176FBA, 0x0A637DC5A2C898A6, 0x113F9804BEF90DAE, 0x1B710B35131C471B,
  0x28DB77F523047D84, 0x32CAAB7B40C72493, 0x3C9EBE0A15C9BEBC, 0x431D67C49C100D4C,
  0x4CC5D4BECB3E42B6, 0x597F299CFC657E2A, 0x5FCB6FAB3AD6FAEC, 0x6C44198C4A475817]

/-- A hash of the family: bits of a word, rounds, and the amounts of its shifts: two rotations and a shift for each of the schedule's two functions, three
rotations for each of the round's. -/
structure ShaKind where
  w : Nat
  rounds : Nat
  start : List Nat
  small0 : Nat × Nat × Nat
  small1 : Nat × Nat × Nat
  big0 : Nat × Nat × Nat
  big1 : Nat × Nat × Nat

def shaKind256 : ShaKind :=
  { w := 32, rounds := 64, small0 := (7, 18, 3), small1 := (17, 19, 10), big0 := (2, 13, 22), big1 := (6, 11, 25), start := [
  0x6A09E667, 0xBB67AE85, 0x3C6EF372, 0xA54FF53A, 0x510E527F, 0x9B05688C, 0x1F83D9AB, 0x5BE0CD19] }

def shaKind384 : ShaKind :=
  { w := 64, rounds := 80, small0 := (1, 8, 7), small1 := (19, 61, 6), big0 := (28, 34, 39), big1 := (14, 18, 41), start := [
  0xCBBB9D5DC1059ED8, 0x629A292A367CD507, 0x9159015A3070DD17, 0x152FECD8F70E5939,
  0x67332667FFC00B31, 0x8EB44A8768581511, 0xDB0C2E0D64F98FA7, 0x47B5481DBEFA4FA4] }

def rotr (w n x : Nat) : Nat := x / 2 ^ n + x % 2 ^ n * 2 ^ (w - n)

/-- The message schedule of a block, the newest word first. -/
def shaSchedule (k : ShaKind) (block : Bytes) : List Nat :=
  let f := fun (r : Nat × Nat × Nat) (x : Nat) => rotr k.w r.1 x ^^^ rotr k.w r.2.1 x ^^^ x / 2 ^ r.2.2
  (List.range (k.rounds - 16)).foldl (fun l _ =>
    (f k.small1 (l.getD 1 0) + l.getD 6 0 + f k.small0 (l.getD 14 0) + l.getD 15 0) % 2 ^ k.w :: l)
    ((cutInto (k.w / 8) 16 block).map bytesNat).reverse

/-- One round on the eight working words. -/
def shaRound (k : ShaKind) (v : List Nat) (c x : Nat) : List Nat :=
  let f := fun (r : Nat × Nat × Nat) (x : Nat) => rotr k.w r.1 x ^^^ rotr k.w r.2.1 x ^^^ rotr k.w r.2.2 x
  match v with
  | [a, b, c0, d, e, g, h, i] =>
    let t1 := i + f k.big1 e + ((e &&& g) ^^^ ((2 ^ k.w - 1 - e) &&& h)) + c + x
    let t2 := f k.big0 a + ((a &&& b) ^^^ (a &&& c0) ^^^ (b &&& c0))
    [(t1 + t2) % 2 ^ k.w, a, b, c0, (d + t1) % 2 ^ k.w, e, g, h]
  | _ => v

/-- A block joins the hash. -/
def shaBlock (k : ShaKind) (h : List Nat) (block : Bytes) : List Nat :=
  let v := (((shaSchedule k block).reverse.zip shaConstants).foldl (fun v p => shaRound k v (p.2 / 2 ^ (64 - k.w)) p.1) h)
  List.zipWith (fun a b => (a + b) % 2 ^ k.w) h v

/-- The hash of a message: padded to blocks of 16 words, its length in bits at the end. -/
def shaWords (k : ShaKind) (b : Bytes) : List Nat :=
  let blk := 2 * k.w
  let fill := (2 * blk - 1 - k.w / 4 - b.length % blk) % blk
  let m := b ++ 0x80 :: List.replicate fill 0 ++ beBytes (8 * b.length) (k.w / 4)
  (cutInto blk m.length m).foldl (shaBlock k) k.start

/-- SHA-384 where long, else SHA-256. -/
def sha (long : Bool) (b : Bytes) : Bytes :=
  let k := if long then shaKind384 else shaKind256
  ((shaWords k b).flatMap (fun x => beBytes x (k.w / 8))).take (if long then 48 else 32)

/-- HMAC with SHA-256 for a 32-byte key, SHA-384 for a longer one (RFC 2104, R393). -/
def hmac (key msg : Bytes) : Bytes :=
  let long := decide (32 < key.length)
  let blk := if long then 128 else 64
  let k := key ++ List.replicate (blk - key.length) 0
  let pad := fun v => xorBytes k (List.replicate blk v)
  sha long (pad 0x5C ++ sha long (pad 0x36 ++ msg))

/-! ### ECDSA -/

/-- A curve y² = x³ - 3x + b over the field of p, with a base point of order n. -/
structure Curve where
  p : Nat
  n : Nat
  b : Nat
  gx : Nat
  gy : Nat

def p256 : Curve :=
  { p := 0xFFFFFFFF00000001000000000000000000000000FFFFFFFFFFFFFFFFFFFFFFFF
    n := 0xFFFFFFFF00000000FFFFFFFFFFFFFFFFBCE6FAADA7179E84F3B9CAC2FC632551
    b := 0x5AC635D8AA3A93E7B3EBBD55769886BC651D06B0CC53B0F63BCE3C3E27D2604B
    gx := 0x6B17D1F2E12C4247F8BCE6E563A440F277037D812DEB33A0F4A13945D898C296
    gy := 0x4FE342E2FE1A7F9B8EE7EB4A7C0F9E162BCE33576B315ECECBB6406837BF51F5 }

def p384 : Curve :=
  { p := 0xFFFFFFFFFFFFFFFFFFFFFFFFFFFFFFFFFFFFFFFFFFFFFFFFFFFFFFFFFFFFFFFEFFFFFFFF0000000000000000FFFFFFFF
    n := 0xFFFFFFFFFFFFFFFFFFFFFFFFFFFFFFFFFFFFFFFFFFFFFFFFC7634D81F4372DDF581A0DB248B0A77AECEC196ACCC52973
    b := 0xB3312FA7E23EE7E4988E056BE3F82D19181D9C6EFE8141120314088F5013875AC656398D8A2ED19D2A85C8EDD3EC2AEF
    gx := 0xAA87CA22BE8B05378EB1C71EF320AD746E1D3B628BA79B9859F741E082542A385502F25DBF55296C3A545E3872760AB7
    gy := 0x3617DE4A96262C6F5D9E98BF9292DC29F8F41DBD289A147CE9DA3113B5F0B8C00A60B1CE1D7E819D7A431D7C90EA0E5F }

def curveOf (long : Bool) : Curve := if long then p384 else p256
/-- Bytes of a coordinate. -/
def curveBytes (long : Bool) : Nat := if long then 48 else 32

/-- The bits of a number below 2^384, most significant first. -/
def bitsOf (n : Nat) : List Bool := (List.range 384).reverse.map n.testBit

def powMod (m a e : Nat) : Nat := (bitsOf e).foldl (fun r b => let q := r * r % m; if b then q * a % m else q) 1

/-- The inverse modulo a prime. -/
def invMod (m a : Nat) : Nat := powMod m (a % m) (m - 2)

def subMod (m a b : Nat) : Nat := (a + m - b % m) % m

/-- A point (x / z², y / z³); the point at infinity where z is 0. -/
abbrev Point := Nat × Nat × Nat

def pointDouble (c : Curve) : Point → Point
  | (x, y, z) =>
    let m := fun (a b : Nat) => a * b % c.p
    let d := z * z % c.p
    let a := m 3 (m (subMod c.p x d) (x + d))
    let s := m 4 (m x (m y y))
    let x3 := subMod c.p (m a a) (2 * s)
    (x3, subMod c.p (m a (subMod c.p s x3)) (m 8 (m (m y y) (m y y))), m 2 (m y z))

def pointAdd (c : Curve) (a b : Point) : Point :=
  match a, b with
  | (x1, y1, z1), (x2, y2, z2) =>
    if z1 % c.p = 0 then b
    else if z2 % c.p = 0 then a
    else
      let m := fun (a b : Nat) => a * b % c.p
      let q1 := m z1 z1
      let q2 := m z2 z2
      let u1 := m x1 q2
      let s1 := m y1 (m q2 z2)
      let h := subMod c.p (m x2 q1) u1
      let r := subMod c.p (m y2 (m q1 z1)) s1
      if h = 0 then (if r = 0 then pointDouble c a else (1, 1, 0))
      else
        let v := m u1 (m h h)
        let k := m h (m h h)
        let x3 := subMod c.p (m r r) (k + 2 * v)
        (x3, subMod c.p (m r (subMod c.p v x3)) (m s1 k), m h (m z1 z2))

def pointTimes (c : Curve) (k : Nat) (a : Point) : Point :=
  (bitsOf k).foldl (fun r b => let d := pointDouble c r; if b then pointAdd c d a else d) (1, 1, 0)

/-- The coordinates of a point. -/
def pointXY (c : Curve) : Point → Nat × Nat
  | (x, y, z) => let i := invMod c.p z; (x * (i * i % c.p) % c.p, y * (i * (i * i % c.p) % c.p) % c.p)

def curveBase (c : Curve) : Point := (c.gx, c.gy, 1)

/-- The public key of a private key, X then Y. -/
def ecdsaPublic (long : Bool) (key : Bytes) : Bytes :=
  let c := curveOf long
  let a := pointXY c (pointTimes c (bytesNat key) (curveBase c))
  beBytes a.1 (curveBytes long) ++ beBytes a.2 (curveBytes long)

/-- Whether a signature, r then s, of a message verifies under a public key. -/
def ecdsaVerify (long : Bool) (publicKey msg sig : Bytes) : Bool :=
  let c := curveOf long
  let l := curveBytes long
  let at0 := fun (b : Bytes) => (bytesNat (b.take l), bytesNat (b.drop l))
  let (x, y) := at0 publicKey
  let (r, s) := at0 sig
  let w := invMod c.n s
  let sum := pointAdd c (pointTimes c (bytesNat (sha long msg) * w % c.n) (curveBase c)) (pointTimes c (r * w % c.n) (x, y, 1))
  publicKey.length = 2 * l && sig.length = 2 * l && x < c.p && y < c.p && (y * y + 3 * x) % c.p = (x * x * x + c.b) % c.p
    && 0 < r && r < c.n && 0 < s && s < c.n && sum.2.2 ≠ 0 && (pointXY c sum).1 % c.n = r

/-- The nonces of RFC 6979 tried in turn, from K and V on, each with the signature that it gives; fuel bounds the tries. -/
def ecdsaTries (c : Curve) (d h : Nat) : Nat → Bytes → Bytes → Nat × Nat
  | 0, _, _ => (0, 0)
  | n + 1, k, v0 =>
    let v := hmac k v0
    let t := bytesNat v
    let r := (pointXY c (pointTimes c t (curveBase c))).1 % c.n
    let s := invMod c.n t * (h + r * d) % c.n
    if 0 < t && t < c.n && r ≠ 0 && s ≠ 0 then (r, s)
    else let k1 := hmac k (v ++ [0])
         ecdsaTries c d h n k1 (hmac k1 v)

/-- The signature of a message under a private key, r then s. -/
def ecdsaSign (long : Bool) (key msg : Bytes) : Bytes :=
  let c := curveOf long
  let l := curveBytes long
  let h := bytesNat (sha long msg)
  let seed := beBytes (bytesNat key) l ++ beBytes (h % c.n) l
  let v0 := List.replicate l (1 : Byte)
  let k1 := hmac (List.replicate l 0) (v0 ++ 0 :: seed)
  let v1 := hmac k1 v0
  let k2 := hmac k1 (v1 ++ 1 :: seed)
  let g := ecdsaTries c (bytesNat key) h 64 k2 (hmac k2 v1)
  beBytes g.1 l ++ beBytes g.2 l

end Sys2Proof.Machine
end

