-- ==== Sys2Proof/Machine/Crypto.lean ====
section
/-!
DEFINITION. The algorithms of R392 over the block cipher: CTR, CMAC, GCM, key derivation, key unwrap.
-/
namespace Sys2Proof.Machine
open Sys2Proof

def blocksOf (b : Bytes) : List Bytes := cutInto 16 b.length b

/-- AES-CTR from an initial counter block whose low 32 bits count. -/
def aesCtr (key : Bytes) (ctr0 : Nat) (b : Bytes) : Bytes :=
  ((blocksOf b).zipIdx.map (fun p =>
    xorBytes p.1 (beBytes (aesBlock key (ctr0 / 2 ^ 32 * 2 ^ 32 + (ctr0 + p.2) % 2 ^ 32)) 16))).flatten

/-- Doubling in the field of CMAC. -/
def cmacDouble (n : Nat) : Nat := if 2 ^ 127 ≤ n then (n * 2 % 2 ^ 128) ^^^ 0x87 else n * 2

/-- AES-CMAC, 16 bytes (NIST SP 800-38B). -/
def cmac (key msg : Bytes) : Bytes :=
  let k1 := cmacDouble (aesBlock key 0)
  let k2 := cmacDouble k1
  let bl := blocksOf msg
  let last := bl.getLastD []
  let lastN := if last.length = 16 then bytesNat last ^^^ k1 else (bytesNat (last ++ [0x80]) * 256 ^ (15 - last.length)) ^^^ k2
  let x := bl.dropLast.foldl (fun x b => aesBlock key (x ^^^ bytesNat b)) 0
  beBytes (aesBlock key (x ^^^ lastN)) 16

/-- Multiplication in the field of GCM, bits numbered from the most significant. -/
def gfMul (x y : Nat) : Nat :=
  ((List.range 128).foldl (fun (z : Nat × Nat) i =>
    (if x.testBit (127 - i) then z.1 ^^^ z.2 else z.1, if z.2 % 2 = 1 then (z.2 / 2) ^^^ (0xE1 * 2 ^ 120) else z.2 / 2)) (0, y)).1

/-- GHASH of byte strings, each padded to blocks. -/
def ghash (h : Nat) (parts : List Bytes) : Nat :=
  (parts.flatMap blocksOf).foldl (fun x b => gfMul (x ^^^ (bytesNat b * 256 ^ (16 - b.length))) h) 0

/-- AES-GCM with a 12-byte IV: the text encrypted or decrypted, and the tag over the ciphertext (NIST SP 800-38D). -/
def gcm (decrypt : Bool) (key : Bytes) (iv : Nat) (aad text : Bytes) : Bytes × Bytes :=
  let j0 := iv * 2 ^ 32 + 1
  let out := aesCtr key (iv * 2 ^ 32 + 2) text
  let c := if decrypt then text else out
  let g := ghash (aesBlock key 0) [aad, c, beBytes (aad.length * 8) 8 ++ beBytes (c.length * 8) 8]
  (out, beBytes (aesBlock key j0 ^^^ g) 16)

/-- Key derivation (R399), of n bytes. -/
def kdf (key label context : Bytes) (n : Nat) : Bytes :=
  ((List.range ((n + 15) / 16)).flatMap (fun i => cmac key (beBytes (i + 1) 4 ++ label ++ [0] ++ context ++ beBytes (n * 8) 4))).take n

/-- The unwrapping rounds of RFC 3394: A and the list of 64-bit blocks. -/
def unwrapRounds (key : Bytes) (a : Nat) (r : List Nat) : Nat × List Nat :=
  let n := r.length
  (List.range (6 * n)).foldl (fun (st : Nat × List Nat) k =>
    let t := 6 * n - k
    let i := (t - 1) % n
    let b := aesInv key ((st.1 ^^^ t) * 2 ^ 64 + st.2.getD i 0)
    (b / 2 ^ 64, st.2.set i (b % 2 ^ 64))) (a, r)

/-- The plaintext of a wrapped blob, when its integrity check holds (RFC 3394 where the plaintext is a multiple of 8 bytes, RFC 5649 otherwise; R398). -/
def unwrapBlob (key blob : Bytes) : Option Bytes :=
  let ws := (cutInto 8 blob.length blob).map bytesNat
  if blob.length % 8 ≠ 0 || ws.length < 2 then none
  else
    let (a, r) := match ws with
      | [x, y] => let b := aesInv key (x * 2 ^ 64 + y); (b / 2 ^ 64, [b % 2 ^ 64])
      | x :: r => unwrapRounds key x r
      | [] => (0, [])
    let text := r.flatMap (fun w => beBytes w 8)
    let m := a % 2 ^ 32
    if a = 0xA6A6A6A6A6A6A6A6 && 2 < ws.length then some text
    else if a / 2 ^ 32 = 0xA65959A6 && m % 8 ≠ 0 && text.length < m + 8 && m ≤ text.length && (text.drop m).all (fun b => b = 0) then some (text.take m)
    else none

end Sys2Proof.Machine
end

