-- ==== Sys2Proof/Config.lean ====
section
/-!
DEFINITION. What the spec leaves open: free values that nothing constrains (log entry 4), and what manufacture fixes in each device.
-/
namespace Sys2Proof

/-- A free value of 64 bits, one for each number (log entry 4). -/
opaque Config.free : Nat → BitVec 64

/-- What device OTP and the board fix: the device identity (R580, R599). -/
opaque Config.uid : BitVec 64

/-- The device root key that slot 0 holds, from device OTP (R397). -/
opaque Config.deviceRoot : List Byte

/-- The key hash fused in device OTP for images (R605), and the public key of the debug unlock (R658). -/
opaque Config.imageKeyHash : BitVec 256
opaque Config.debugKey : List Byte

/-- IDCODE, from device OTP: version, part, manufacturer (R656, R680). -/
def Config.idcode : Word := 0x1986036F

/-- Whether the device is the SY9860-AQ3, of the two ordering codes (R680). -/
opaque Config.aq3 : Bool

/-- The delays and ranges that manufacture measures and seals in image 0, by word of the image (R431, R432). -/
opaque Config.factoryDelay : Nat → Word

/-- The slots of the evidence flash, 16 to 256, less 16 (R438). -/
opaque Config.evidenceSlots : Fin 241

/-- The Darkroom's ROM, 96 KiB (R425), and the hash of the key that signs its patches, fused in the patch region (R443). -/
opaque Config.drkRom : Fin 98304 → Byte
opaque Config.patchKeyHash : BitVec 256

/-- The clock identity of the device and the MAC address of a port, which gPTP frames carry as their source (R80; the spec gives neither). -/
opaque Config.clockIdentity : BitVec 64
opaque Config.portMac : Nat → BitVec 48

/-- The requester ID of the host whose register writes the commands name (R480). -/
opaque Config.requester : BitVec 16

/-- The nominal delay constant of a port and mode, ingress or egress, in 2^-16 ns (R133; the spec gives no figure). -/
opaque Config.nominalDelay : (port mode : Nat) → (egress : Bool) → BitVec 32

end Sys2Proof
end

