-- ==== Sys2Proof/Machine/Data/Base.lean ====
section
/-!
DEFINITION. The state of the Beat and its commits, of local and working time, the TIO pins, the Contact Sheet, the rings, the host bridge,
the mailboxes and the event coalescer, and the messages that leave the device.
-/
namespace Sys2Proof.Machine

/-- The access codes of R506; ptr is a control field whose value stands in a ring pointer or a structured field and not in the register storage. -/
inductive Access where
  | rw | rwl | ptr | ro | w1c | lock | go | cnt | rsvp
deriving DecidableEq, Repr

/-- A field of a register: its bits, its access code and its reset value. -/
structure RegField where
  hi : Nat
  lo : Nat
  acc : Access
  reset : Nat := 0
deriving DecidableEq, Repr

/-- A sparse table, keys rising, default entries unlisted (Machine/Tab.lean). -/
abbrev Tab (α : Type) := List (Nat × α)

/-- What leaves the device, each with the core cycle of its start. The model's own log (log entry 7). -/
inductive Output where
  /-- A frame that starts on the line of a port, from its DA through its FCS (R156). -/
  | frame (t port : Nat) (bytes : Bytes)
  /-- The frame in transmission on a port is cut (R135, R228) or ends as a fragment (R226). -/
  | cut (t port : Nat)
  /-- A PLCA beacon (R127). -/
  | beacon (t port : Nat)
  /-- The leader's pulse and its code frame (R114). -/
  | pairPulse (t : Nat) (code : Rec)
  /-- A CAN frame offered at SOF. -/
  | can (t bus : Nat) (f : CanFrame)
  /-- A LIN break and header (R324), and a response the commander publishes, its checksum last (R304, R326). -/
  | linHeader (t bus fid : Nat)
  | linData (t bus fid : Nat) (data : Bytes)
  /-- A CAN or LIN wake-up pattern (R376). -/
  | busWake (t : Nat) (seg : Nat)
  /-- A TC10 sleep request of a T port (R374). -/
  | busSleep (t : Nat) (seg : Nat)
  /-- A message to the partner device (R582). -/
  | partner (t : Nat) (msg : Rec)
  /-- An MSI-X message of a source on a vector (R488). -/
  | msix (t source vector : Nat)
  /-- A DMA write to host memory. -/
  | dma (t addr : Nat) (bytes : Bytes)
  /-- The completion of a PCIe read or atomic: status 0 data, 1 UR, 2 CA, 3 data with EP set (R476). -/
  | completion (t status : Nat) (data : Rec)
  /-- What SPI_MISO carries after the header of a frame; none: high impedance. -/
  | spi (t : Nat) (bytes : Option Bytes)
  /-- The result word of a request of the bulk engine, for its requester (R404). -/
  | bulkResult (t requester status : Nat)
  /-- An MDIO transaction (R123). -/
  | mdio (t : Nat) (req : Rec)
deriving DecidableEq, Repr

/-- A set of a commit (R23): what a staging command changes. Records are those of the commands of R564 to R578. -/
inductive SetItem where
  | gateSwap (port : Nat)
  | fwSwap
  | meter (m : Nat) (r : Rec)
  | shaper (port cls : Nat) (r : Rec)
  | portSched (port : Nat) (r : Rec)
  | bridgePort (port : Nat) (r : Rec)
  | vlan (vid : Nat) (r : Rec)
  | mac (r : Rec)
  | mirror (session : Nat) (r : Rec)
  | ipProfile (i v : Nat)
  | streamId (slot : Nat) (r : Rec)
  | handle (h : Nat) (r : Rec)
  | filter (i : Nat) (r : Rec)
  | gate (i : Nat) (r : Rec)
  | generation (i : Nat) (r : Rec)
  | recovery (i : Nat) (r : Rec)
  | linSelect (bus : Nat) (table : Option Nat)
  | route (i : Nat) (r : Rec)
  | tunnel (i : Nat) (r : Rec)
  | rxTunnel (i : Nat) (r : Rec)
  | auth (i : Nat) (r : Rec)
  | segment (i : Nat) (r : Rec)
  | service (port : Nat) (enter : Bool)
deriving DecidableEq, Repr

/-- A staged set and the request that its commit answers (R534). -/
structure Staged where
  set : SetItem
  mbx : Nat := 0
  opcode : Nat := 0
  seq : Word := 0
  verMaj : Nat := 2
  verMin : Nat := 3
  extra : Rec := []
  /-- A reset has cleared the rings since its acceptance: its response is not posted again (R533, R537). -/
  mute : Bool := false
deriving DecidableEq, Repr

/-- An armed commit (R23): its identifier, its sets, the local time of its arming (R25), and the working-time target of R27 in 2^-16 ns. -/
structure Commit where
  id : Nat
  sets : List Staged := []
  at0 : Nat := 0
  target : Option Int := none
deriving DecidableEq, Repr

/-- The Beat, its task list and its commits (R17 to R31, R682). -/
structure BeatState where
  k : Nat := 3
  kNext : Nat := 3
  inSec : Nat := 0
  seq : Nat := 0
  /-- The cycle of the last Beat-length command, and the kNext before the first one of that cycle (R20). -/
  kCmd : Option (Nat × Nat) := none
  /-- Working time of the next boundary to issue, in 2^-16 ns. -/
  next : Int := 16384000000
  /-- The firmware runs its task lists (R29). -/
  lists : Bool := false
  listBusy : Bool := false
  /-- A boundary has found the list unfinished (R30). -/
  listLate : Bool := false
  listStart : Nat := 0
  appliedId : Nat := 0
  armedId : Nat := 0
  /-- The last identifier issued, in retention SRAM (R682). -/
  lastId : Nat := 0
  loadPeak : Nat := 0
  loadMean : Nat := 0
  /-- Longest run, sum and number of the runs of the second in progress, in thousandths of the Beat. -/
  runPeak : Nat := 0
  runSum : Nat := 0
  runs : Nat := 0
  staged : List Staged := []
  /-- Sets staged again from the journal, to be armed at the first boundary (R537). -/
  again : List Staged := []
  armed : List Commit := []
  /-- Local time of the boundary that opened the Beat in progress, none before the first one after a reset; sequence number of the last Beat completed (R235). -/
  openedAt : Option Nat := none
  done : Option Nat := none
deriving DecidableEq, Repr

/-- A mapping (R44): anchor, working time there in 2^-16 ns, slew in 2^-44, generation, cause (R453). -/
structure Mapping where
  la : Nat := 0
  wa : Int := 0
  a : Int := 0
  gen : Nat := 0
  cause : Nat := 7
deriving DecidableEq, Repr

/-- What a mapping request asks for (R48): a frequency term, the sign of a phase term, a working time at the anchor, or a step from the working time
there (R118), the correction in 2^-44 ns that the phase term is to consume; and its causes. -/
structure MapReq where
  f : Option Int := none
  p : Option Int := none
  step : Option Int := none
  jump : Option Int := none
  corr : Option Int := none
  causes : List Nat := []
deriving DecidableEq, Repr

/-- The time unit (R41 to R65). -/
structure TimeState where
  now : Nat := 0
  /-- In the Crocus domain (R43). -/
  epoch : Nat := 0
  map : Mapping := {}
  /-- The mappings that were in force before it since the time unit started, newest first (R45, R50). -/
  past : List Mapping := []
  pend : Option (Nat × MapReq) := none
  wait : Option MapReq := none
  /-- Frequency term asked for, and terms in force. -/
  fAsk : Int := 0
  f : Int := 0
  p : Int := 0
  /-- Pending correction in 2^-44 ns, whether one is being consumed, and the local time up to which it is. -/
  corr : Int := 0
  corrOn : Bool := false
  corrAt : Nat := 0
  hold : Bool := false
  clamp : Bool := false
  src : Nat := 0
  domain : Nat := 0
  thr : Nat := 1000
  /-- Working time at which the core domain started (R208). -/
  from0 : Int := 0
  /-- Trigger of the capture pending. -/
  cap : Option Nat := none
  /-- The cycle in which GO started the pending capture, and the trigger of the one that it replaced (R509). -/
  capGo : Nat × Option Nat := (0, none)
  capSeq : Nat := 0
  capLt : Nat := 0
  capWt : Rec := [0, 0, 0]
deriving DecidableEq, Repr

/-- An arming of a timed output (R67): START as working time in 2^-16 ns, the latched values, the index of the next pulse, the pulses issued,
and whether the arming ends with the pulse in progress (R72, R74). -/
structure Arming where
  start : Int
  period : Nat
  width : Nat
  count : Nat
  pol : Bool
  k : Nat := 0
  issued : Nat := 0
  stop : Bool := false
  /-- DISARM has been written, and completes with the pulse in progress (R72, R506). -/
  disarm : Bool := false
deriving DecidableEq, Repr

/-- A TIO pin (R66 to R78). Its CFG, START, PERIOD, WIDTH, COUNT, flags and counters stand in the register storage. -/
structure Pin where
  /-- The mode that has the pin, and whether the MODE in CFG waits for the pulse in progress to complete (R74). -/
  mode : Nat := 0
  take : Bool := false
  arming : Option Arming := none
  /-- The cycle in which the last arming ended, and the polarity it had latched (R67). -/
  ended : Option (Nat × Bool) := none
  /-- Local time of the inactive edge of the pulse in progress, and the polarity of that pulse. -/
  pulse : Option (Nat × Bool) := none
  /-- The cycle in which a pulse shorter than 4 ns ends at the ball (R76). -/
  glitch : Option Nat := none
  capSeq : Nat := 0
  capLt : Nat := 0
  capShort : Nat := 0
  lastCap : Option Nat := none
deriving DecidableEq, Repr

/-- A group of Contact Sheet records that waits in the input queue (R455). -/
structure CsGroup where
  kind : Nat
  lt : Nat
  payloads : List (BitVec 64)
  /-- The cycle in which it was offered (R457). -/
  at0 : Nat := 0
deriving DecidableEq, Repr

/-- A record of the trace (R448). -/
structure CsRec where
  seq : Nat
  lt : Nat
  kind : Nat
  more : Bool := false
  payload : BitVec 64 := 0
deriving DecidableEq, Repr

/-- The losses not yet marked by a GAP record (R455). -/
structure CsGap where
  lost : Nat
  first : Nat
  other : Bool
deriving DecidableEq, Repr

/-- An export channel (R460 to R463): its record, the place in the trace that it reads next, records packed in the frame under way, the local time of that
frame's first record, the next frame number. -/
structure CsChan where
  cfg : Rec := []
  en : Bool := false
  pos : Nat := 0
  frame : List CsRec := []
  since : Nat := 0
  frameSeq : Nat := 0
deriving DecidableEq, Repr

/-- The Contact Sheet (R448 to R465). -/
structure CsState where
  queue : List CsGroup := []
  /-- The first group of the queue has entered the trace in part. -/
  mid : Bool := false
  gap : Option CsGap := none
  /-- The trace, newest record first, at most 262,144 records. -/
  trace : List CsRec := []
  next : Nat := 0
  /-- Local time of the last anchor; none until the first record after the core domain started. -/
  anchor : Option Nat := none
  anchorDue : Bool := false
  accepted : Option Nat := none
  /-- WAKES [7:0] at the start of the core domain (R453). -/
  run : Nat := 0
  /-- The places in the trace, counted from the first record ever, at which this run and the earlier ones began (R449, R635). -/
  runs : List Nat := []
  /-- The cycle of the last losses, the groups lost in it, and the gap before them (R457). -/
  lost : Nat × List CsGroup × Option CsGap := (0, [], none)
  repeatAt : Nat := 1000000000
  sel : Tab Rec := []
  snap : Nat := 0
  chan0 : CsChan := {}
  chan1 : CsChan := {}
deriving DecidableEq, Repr

/-- A ring of the generic kind (R515 to R521): published producer and consumer pointers, the pointers just past each published packet that the
consumer has not passed, the pending gap (local time of the first drop, packets dropped), and the packets dropped since reset. landed: the cycle of the
last packet, and the producer pointer before that cycle. late: the packet that opened the gap, with its cycle. marker: the cycle, place and count of
the last gap marker (R523). -/
structure Ring where
  prod : Nat := 0
  cons : Nat := 0
  ends : List Nat := []
  gap : Option (Nat × Nat) := none
  drops : Nat := 0
  landed : Option (Nat × Nat) := none
  late : Option (Nat × Rec) := none
  marker : Option (Nat × Nat × Nat) := none
deriving DecidableEq, Repr

/-- A write in carriage (R477): its arrival, space, offset, words, whether its byte enables fail it, its tag (R480), and its number among the accesses that
have come to the bridge (R475). -/
structure Carried where
  arrival : Nat
  bar2 : Bool
  off : Nat
  data : Rec
  sizeBad : Bool := false
  tag : Nat := 0
  no : Nat := 0
deriving DecidableEq, Repr

/-- A semaphore held (R482). -/
structure Sem where
  origin : Origin
  spi : Bool
  bar2 : Bool
  line : Nat
  since : Nat
deriving DecidableEq, Repr

/-- A PCIe AtomicOp that waits for a semaphore (R483). -/
structure WaitAtomic where
  since : Nat
  op : AtomicOp
  wide : Bool
  bar2 : Bool
  off : Nat
  x : Nat
  y : Nat
  no : Nat := 0
deriving DecidableEq, Repr

/-- A read that waits behind an earlier write of its origin or before a line that another origin holds (R475, R482). -/
structure WaitRead where
  since : Nat
  spi : Bool
  bar2 : Bool
  off : Nat
  words : Nat
  no : Nat := 0
deriving DecidableEq, Repr

/-- The configuration space of the PCIe function (R468, R488): D3hot, ASPM L1, the two sizes in bytes, ECRC, MSI-X Enable and Function Mask. No row of the
command table writes it; it stands as a host that uses the function leaves it (log entry 122). -/
structure PciFunction where
  d3 : Bool := false
  aspm : Bool := false
  payload : Nat := 128
  readRequest : Nat := 512
  ecrcSent : Bool := false
  ecrcChecked : Bool := false
  msixOn : Bool := true
  fnMask : Bool := false
deriving DecidableEq, Repr

/-- A CNT field that the hardware has counted in a cycle: its value before, and by how much (R513). -/
structure CntNote where
  off : Nat
  lo : Nat
  base : Nat
  add : Nat
deriving DecidableEq, Repr

/-- What the hardware and writes did to the registers in one core cycle (R513): flags that the hardware set, by register; CNT fields that it counted;
bits of control fields that a write set. -/
structure RegCycle where
  at0 : Nat := 0
  flags : Tab Nat := []
  counts : List CntNote := []
  wrote : Tab Nat := []
deriving DecidableEq, Repr

/-- An interrupt source (R488, R490): armed, the last message, bytes copied to its mirror. -/
structure IntSource where
  armed : Bool := true
  last : Option Nat := none
  copied : Nat := 0
deriving DecidableEq, Repr

/-- In-band use of a mailbox (R499, R500): freshness values in retention SRAM, and the reply address. -/
structure Inband where
  rxFresh : Nat := 0
  txFresh : Nat := 0
  replySa : Nat := 0
  replyVid : Nat := 0
deriving DecidableEq, Repr

/-- A message for a ring, of the in-band origin or the control core, that waits for a line (R482, R499). -/
structure RingWait where
  since : Nat
  origin : Origin
  ring : RingId
  words : Rec
deriving DecidableEq, Repr

/-- The host bridge (R468 to R503, R685). -/
structure BridgeState where
  carry0 : List Carried := []
  carry1 : List Carried := []
  carry2 : List Carried := []
  carry3 : List Carried := []
  /-- FIRST and SPACE of BRG.PROOFo. -/
  proofFirst : Tab (Nat × Bool) := []
  /-- The failures of the last cycle that had one, by origin: the cycle, how many, and the first of them (R503). -/
  proofLast : Tab (Nat × Nat × Nat × Bool) := []
  proof : Ring := {}
  /-- The Proof log's words, by slot × 8 + word. -/
  proofMem : Tab Word := []
  sems : Tab (Option Sem) := []
  lockLost : Bool := false
  waiting : List WaitAtomic := []
  reads : List WaitRead := []
  /-- Messages for a ring whose line the SPI port holds (R482). -/
  ringWaits : List RingWait := []
  /-- Accesses that have come to the bridge and had to wait: the number of the next (R475). -/
  issued : Nat := 0
  sources : Tab IntSource := []
  /-- The MSI-X table's words, and for each vector whose pending bit is set the sources that wait (R471, R488). -/
  msix : Tab Word := []
  held : Tab (List Nat) := []
  txHead : Nat := 0
  rxHead : Nat := 0
  /-- Descriptors completed since the last write of the tail: what sources 50 and 49 announce. -/
  txDone : Nat := 0
  rxDone : Nat := 0
  inband : Tab Inband := []
  up : Bool := false
  rate : Nat := 0
  width : Nat := 0
  pci : PciFunction := {}
deriving DecidableEq, Repr

/-- A deferred command in flight (R538): its request's header, its payload, and how far it has run. -/
structure Deferred where
  opcode : Nat
  seq : Word
  args : Rec := []
  progress : Rec := []
deriving DecidableEq, Repr

/-- A mailbox with its journal (R524 to R546). state: 0 closed, 1 open, 2 desynchronised. statuses: the last 256 accepted commands, newest first. -/
structure Mailbox where
  state : Nat := 0
  verMaj : Nat := 0
  verMin : Nat := 0
  ack : Word := 0
  deferred : Option Deferred := none
  statuses : List (Word × Nat) := []
  journalLost : Bool := true
  /-- The event of that loss has been raised (R549). -/
  lostTold : Bool := false
  noticeSeq : Nat := 0
  req : Ring := {}
  rsp : Ring := {}
  /-- Staging commands accepted before a reset and not armed by then (R537). -/
  restage : List Staged := []
  /-- The cycle of the last ring reset (R554). -/
  resetAt : Option Nat := none
deriving DecidableEq, Repr

/-- A notice that waits for room (R546): opcode and payload. -/
structure Notice where
  opcode : Nat
  payload : Rec
deriving DecidableEq, Repr

/-- The mailbox service of the firmware (R527, R545, R546). -/
structure MbxState where
  box : Tab Mailbox := []
  /-- Mailbox whose turn is next. -/
  turn : Nat := 0
  authSlot : Nat := 0
  noticeMbx : Nat := 0
  /-- The counter of R545, in retention SRAM. -/
  authCount : Nat := 0
  notices : List Notice := []
  /-- The journals, while Safelight serves mailbox 0 without one (R621). -/
  saved : Option (Tab Mailbox) := none
deriving DecidableEq, Repr

/-- An open record of the coalescer (R551). -/
structure OpenEvent where
  source : Nat
  cause : Nat
  count : Nat
  first : Nat
  last : Nat
  detail : Nat
  ring : Nat
deriving DecidableEq, Repr

/-- An occurrence, the route of its source by R550, and its core cycle. -/
structure Occurrence where
  source : Nat
  cause : Nat
  detail : Nat
  route : Nat
  at0 : Nat
deriving DecidableEq, Repr

/-- The event rings and the coalescer (R550 to R553). The occurrences of the last cycle that had any wait apart from the records: should a
boundary be issued in that cycle, they belong to the Beat it opens (R551). -/
structure EventState where
  ring : Tab Ring := []
  opened : List OpenEvent := []
  suppressed : List OpenEvent := []
  raised : List Occurrence := []
deriving DecidableEq, Repr

end Sys2Proof.Machine
end

