-- ==== Sys2Proof/Machine/RegMap.lean ====
section
/-!
DEFINITION. The register map of BAR0 (R470, R471, R504): the fields of the register at each offset, with access code and reset value.
-/
namespace Sys2Proof.Machine

def blkBRG : Nat := 0x10000
def blkMBX : Nat := 0x20000
def blkEVQ : Nat := 0x30000
def blkTIME : Nat := 0x40000
def blkTIO : Nat := 0x50000
def blkCROCUS : Nat := 0x60000
def blkPAIR : Nat := 0x70000
def blkTEST : Nat := 0x80000

/-- The index of x among n objects of the given stride from base, and the offset in it. -/
def slotOf (x base stride n : Nat) : Option (Nat × Nat) :=
  if base ≤ x && x < base + stride * n then some ((x - base) / stride, (x - base) % stride) else none

/-- A register of one field. -/
def all (a : Access) (reset : Nat := 0) : Option (List RegField) := some [⟨31, 0, a, reset⟩]

/-- SYS registers (R31, R298, R422, R446, R464, R510, R600, R622, R639, R640). -/
def sysFields (o : Nat) : Option (List RegField) :=
  if o = 0x0010 then some [⟨31, 9, .rsvp, 0⟩, ⟨8, 0, .lock, 0⟩]
  else if o = 0x0100 then some [⟨31, 16, .ro, 0⟩, ⟨15, 15, .rsvp, 0⟩, ⟨14, 0, .ro, 0⟩]
  else if o = 0x0104 then all .ro
  else if o = 0x0108 then all .cnt
  else if o = 0x010C then all .ro
  else if o = 0x0110 then all .ro
  else if o = 0x0200 then some [⟨31, 31, .lock, 0⟩, ⟨30, 27, .ro, 0⟩, ⟨26, 16, .rsvp, 0⟩, ⟨15, 0, .cnt, 0⟩]
  else if o = 0x0300 then some [⟨31, 22, .ro, 0⟩, ⟨21, 18, .rsvp, 0⟩, ⟨17, 0, .ro, 0⟩]
  else if o = 0x0304 then some [⟨31, 16, .cnt, 0⟩, ⟨15, 0, .cnt, 0⟩]
  else if o = 0x0400 then some [⟨31, 18, .ro, 0⟩, ⟨17, 16, .rsvp, 0⟩, ⟨15, 0, .cnt, 0⟩]
  else if o = 0x0500 then all .ro
  else if o = 0x0504 then some [⟨31, 19, .ro, 0⟩, ⟨18, 16, .rsvp, 0⟩, ⟨15, 0, .cnt, 0⟩]
  else if o = 0x0508 then all .cnt
  else if o = 0x0600 then some [⟨31, 30, .ro, 0⟩, ⟨29, 29, .w1c, 0⟩, ⟨28, 26, .ro, 0⟩, ⟨25, 16, .rsvp, 0⟩, ⟨15, 0, .ro, 0⟩]
  else if o = 0x0700 then all .ro
  else if o = 0x0800 then some [⟨31, 16, .ptr, 0⟩, ⟨15, 2, .rsvp, 0⟩, ⟨1, 1, .go, 0⟩, ⟨0, 0, .go, 0⟩]
  else if o = 0x0804 then some [⟨31, 24, .ro, 0x21⟩, ⟨23, 16, .rsvp, 0⟩, ⟨15, 8, .cnt, 0⟩, ⟨7, 0, .cnt, 0⟩]
  else none

/-- Register +o of interrupt source s (R486, R685). -/
def sourceFields (s o : Nat) : Option (List RegField) :=
  if o = 0x00 then some [⟨31, 31, if s < 49 then .rw else .ptr, 0⟩, ⟨30, 27, if s < 49 then .rw else .ptr, 0⟩, ⟨26, 26, .rw, 0⟩,
    ⟨25, 21, .rw, s % 32⟩, ⟨20, 19, .rw, 0⟩, ⟨18, 18, .rw, 0⟩, ⟨17, 0, .rsvp, 0⟩]
  else if o < 0x18 then all (if s < 49 then .rw else .rsvp)
  else if o = 0x18 then some [⟨31, 16, .rsvp, 0⟩, ⟨15, 0, .rw, 0⟩]
  else if 16 ≤ s && s < 49 then some [⟨31, 16, .ro, 0⟩, ⟨15, 0, .ptr, 0⟩]
  else all .rsvp

/-- A host-port register (R492). -/
def hostPortFields (o : Nat) : Option (List RegField) :=
  if o = 0x00 || o = 0x04 then all .rw
  else if o = 0x08 then some [⟨31, 31, .rw, 0⟩, ⟨30, 27, .rw, 0⟩, ⟨26, 0, .rsvp, 0⟩]
  else if o = 0x0C then some [⟨31, 12, .rsvp, 0⟩, ⟨11, 0, .rw, 0⟩]
  else if o = 0x10 then all .ro
  else none

/-- BRG registers (R471, R480 to R482, R486, R492, R495, R498, R499, R501). -/
def brgFields (o : Nat) : Option (List RegField) :=
  if o = 0x0000 then some [⟨31, 26, .ro, 0⟩, ⟨25, 25, .lock, 0⟩, ⟨24, 24, .lock, 0⟩, ⟨23, 0, .rsvp, 0⟩]
  else if 0x0010 ≤ o && o < 0x0020 then some [⟨31, 31, .ro, 0⟩, ⟨30, 24, .cnt, 0⟩, ⟨23, 0, .ro, 0⟩]
  else if o = 0x0020 then some [⟨31, 23, .rsvp, 0⟩, ⟨22, 16, .ro, 0⟩, ⟨15, 7, .rsvp, 0⟩, ⟨6, 0, .ptr, 0⟩]
  else if o = 0x0030 then all .cnt
  else if 0x0200 ≤ o && o < 0x0240 then some [⟨31, 27, .ro, 0⟩, ⟨26, 18, .rsvp, 0⟩, ⟨17, 0, .ro, 0⟩]
  else if 0x0800 ≤ o && o < 0x1000 then all .ro
  else if 0x1000 ≤ o && o < 0x1200 then all .ptr
  else if 0x1800 ≤ o && o < 0x1808 then all .ro
  else if 0x2800 ≤ o && o < 0x2814 then hostPortFields (o - 0x2800)
  else if 0x2820 ≤ o && o < 0x2834 then hostPortFields (o - 0x2820)
  else if 0x2900 ≤ o && o < 0x2920 then some [⟨31, 31, .rw, 0⟩, ⟨30, 23, .rw, 0⟩, ⟨22, 0, .rsvp, 0⟩]
  else if o = 0x2920 then some [⟨31, 24, .cnt, 0⟩, ⟨23, 16, .cnt, 0⟩, ⟨15, 8, .cnt, 0⟩, ⟨7, 0, .cnt, 0⟩]
  else match slotOf o 0x2000 0x20 52 with
    | some (s, d) => sourceFields s d
    | none => none

/-- MBX registers (R528). -/
def mbxFields (o : Nat) : Option (List RegField) :=
  match slotOf o 0x0000 0x20 8 with
  | none => none
  | some (_, d) =>
    if d = 0x00 then some [⟨31, 31, .go, 0⟩, ⟨30, 20, .ro, 0⟩, ⟨19, 0, .rsvp, 0⟩]
    else if d = 0x04 then some [⟨31, 29, .rsvp, 0⟩, ⟨28, 16, .ptr, 0⟩, ⟨15, 13, .rsvp, 0⟩, ⟨12, 0, .ro, 0⟩]
    else if d = 0x08 then some [⟨31, 29, .rsvp, 0⟩, ⟨28, 16, .ro, 0⟩, ⟨15, 13, .rsvp, 0⟩, ⟨12, 0, .ptr, 0⟩]
    else if d = 0x0C then all .ro
    else if d = 0x10 then some [⟨31, 24, .cnt, 0⟩, ⟨23, 16, .cnt, 0⟩, ⟨15, 0, .cnt, 0⟩]
    else none

/-- EVQ registers (R550, R553). -/
def evqFields (o : Nat) : Option (List RegField) :=
  if 0x1000 ≤ o && o < 0x1100 then all .rw 0x88888888
  else match slotOf o 0x0000 0x10 8 with
    | none => none
    | some (_, d) =>
      if d = 0x00 then some [⟨31, 25, .rsvp, 0⟩, ⟨24, 16, .ro, 0⟩, ⟨15, 9, .rsvp, 0⟩, ⟨8, 0, .ptr, 0⟩]
      else if d = 0x04 then some [⟨31, 24, .rw, 0x40⟩, ⟨23, 0, .rsvp, 0⟩]
      else if d = 0x08 then all .cnt
      else none

/-- TIME registers (R62, R63, R65). -/
def timeFields (o : Nat) : Option (List RegField) :=
  if o = 0x0000 then some [⟨31, 30, .ro, 0⟩, ⟨29, 29, .w1c, 0⟩, ⟨28, 28, .w1c, 0⟩, ⟨27, 24, .ro, 0⟩, ⟨23, 16, .rsvp, 0⟩, ⟨15, 0, .ro, 0⟩]
  else if o = 0x0004 || o = 0x0008 || o = 0x000C then all .ro
  else if o = 0x0010 then some [⟨31, 16, .cnt, 0⟩, ⟨15, 0, .ro, 0⟩]
  else if o = 0x0020 then some [⟨31, 16, .rsvp, 0⟩, ⟨15, 8, .ro, 0⟩, ⟨7, 3, .rsvp, 0⟩, ⟨2, 1, .rw, 0⟩, ⟨0, 0, .go, 0⟩]
  else if 0x0024 ≤ o && o < 0x0038 then all .ro
  else none

/-- TIO registers (R78). -/
def tioFields (o : Nat) : Option (List RegField) :=
  match slotOf o 0x1000 0x40 32 with
  | none => none
  | some (_, d) =>
    if d = 0x00 then some [⟨31, 29, .rw, 0⟩, ⟨28, 28, .rw, 0⟩, ⟨27, 27, .rw, 0⟩, ⟨26, 26, .go, 0⟩, ⟨25, 25, .go, 0⟩, ⟨24, 0, .rsvp, 0⟩]
    else if d ≤ 0x10 then all .rw
    else if d = 0x14 then some [⟨31, 31, .ro, 0⟩, ⟨30, 30, .w1c, 0⟩, ⟨29, 29, .w1c, 0⟩, ⟨28, 28, .w1c, 0⟩, ⟨27, 27, .w1c, 0⟩,
      ⟨26, 16, .rsvp, 0⟩, ⟨15, 0, .ro, 0⟩]
    else if d = 0x18 || d = 0x1C then all .cnt
    else if d ≤ 0x28 then all .ro
    else none

/-- CROCUS registers (R388). -/
def crocusFields (o : Nat) : Option (List RegField) :=
  if o = 0x0000 then some [⟨31, 30, .rw, 0⟩, ⟨29, 29, .go, 0⟩, ⟨28, 28, .go, 0⟩, ⟨27, 0, .rsvp, 0⟩]
  else if o = 0x0004 then all .rw
  else if o = 0x0008 then some [⟨31, 29, .ro, 0⟩, ⟨28, 28, .w1c, 0⟩, ⟨27, 22, .rsvp, 0⟩, ⟨21, 16, .ro, 0x3F⟩, ⟨15, 0, .cnt, 0⟩]
  else if o = 0x000C then all .w1c
  else if o = 0x0010 then all .ro
  else none

/-- PAIR registers (R119, R599). -/
def pairFields (o : Nat) : Option (List RegField) :=
  if o = 0x0000 then some [⟨31, 26, .ro, 0⟩, ⟨25, 25, .w1c, 0⟩, ⟨24, 0, .ro, 0⟩]
  else if o = 0x0004 then all .ro
  else if o = 0x0008 then some [⟨31, 8, .rsvp, 0⟩, ⟨7, 0, .ro, 0⟩]
  else if o = 0x000C then some [⟨31, 24, .cnt, 0⟩, ⟨23, 16, .cnt, 0⟩, ⟨15, 0, .cnt, 0⟩]
  else if o = 0x0010 || o = 0x0014 then all .ro
  else if o = 0x0100 then some [⟨31, 29, .ro, 0⟩, ⟨28, 28, .w1c, 0⟩, ⟨27, 27, .ro, 0⟩, ⟨26, 16, .rsvp, 0⟩, ⟨15, 0, .ro, 0⟩]
  else if o = 0x0104 then some [⟨31, 16, .cnt, 0⟩, ⟨15, 0, .cnt, 0⟩]
  else none

/-- TEST registers (R658). -/
def testFields (o : Nat) : Option (List RegField) :=
  if o < 0x0010 then all .ro
  else if o < 0x0050 then all .rw
  else if o = 0x0100 then some [⟨31, 28, .ro, 0⟩, ⟨27, 1, .rsvp, 0⟩, ⟨0, 0, .go, 0⟩]
  else none

/-- The fields of the register at byte offset off of BAR0, off without alias; none where no register is (R504). -/
def regFields (off : Nat) : Option (List RegField) :=
  let o := off % 0x10000
  if off % 4 ≠ 0 || 0x4000 ≤ o then none
  else match off / 0x10000 with
    | 0 => sysFields o
    | 1 => brgFields o
    | 2 => mbxFields o
    | 3 => evqFields o
    | 4 => timeFields o
    | 5 => tioFields o
    | 6 => crocusFields o
    | 7 => pairFields o
    | 8 => testFields o
    | _ => none

/-- The register that an offset of BAR0 names, and the alias (R511). -/
def aliasOf (off : Nat) : Nat × Alias :=
  let base := off / 0x10000 * 0x10000 + off % 0x4000
  match off % 0x10000 / 0x4000 with
  | 0 => (base, .direct)
  | 1 => (base, .set)
  | 2 => (base, .clear)
  | _ => (base, .toggle)

/-- The offset in BAR0 of a register's alias. -/
def aliasOff (off : Nat) : Alias → Nat
  | .direct => off
  | .set => off + 0x4000
  | .clear => off + 0x8000
  | .toggle => off + 0xC000

/-- Whether the offset, without alias, lies in the MSI-X table or the pending bits, which have no aliases (R471). -/
def noAlias (reg : Nat) : Bool :=
  (slotOf reg (blkBRG + 0x1000) 0x200 1).isSome || (slotOf reg (blkBRG + 0x1800) 8 1).isSome

/-- The reset value of a register's storage (R505). -/
def regReset (off : Nat) : Word :=
  match regFields off with
  | none => 0
  | some fs => word (fs.foldl (fun n f => n + f.reset * 2 ^ f.lo) 0)

/-- Register offsets used by name. -/
def rREG_LOCK : Nat := 0x0010
def rBEAT_OVR : Nat := 0x0108
def rFW_STAT : Nat := 0x0200
def rCIPHER_CNT : Nat := 0x0304
def rDRK_STAT : Nat := 0x0400
def rCS_STAT : Nat := 0x0504
def rCS_LOST : Nat := 0x0508
def rCORE_STAT : Nat := 0x0600
def rRST_CTRL : Nat := 0x0800
def rRST_STAT : Nat := 0x0804
def rBRG_CTRL : Nat := blkBRG
def rPROOF (o : Nat) : Nat := blkBRG + 0x10 + 4 * o
def rPROOF_PTR : Nat := blkBRG + 0x20
def rSPI_CNT : Nat := blkBRG + 0x30
def rSOURCE (s d : Nat) : Nat := blkBRG + 0x2000 + 0x20 * s + d
def rHP_TX (d : Nat) : Nat := blkBRG + 0x2800 + d
def rHP_RX (d : Nat) : Nat := blkBRG + 0x2820 + d
def rIB_CFG (m : Nat) : Nat := blkBRG + 0x2900 + 4 * m
def rIB_ERR : Nat := blkBRG + 0x2920
def rMBX (m d : Nat) : Nat := blkMBX + 0x20 * m + d
def rEVQ (e d : Nat) : Nat := blkEVQ + 0x10 * e + d
def rROUTE (n : Nat) : Nat := blkEVQ + 0x1000 + 4 * n
def rMAP_STAT : Nat := blkTIME
def rJUMP : Nat := blkTIME + 0x10
def rCAP_CTRL : Nat := blkTIME + 0x20
def rTIO (n d : Nat) : Nat := blkTIO + 0x1000 + 0x40 * n + d
def rTEST (d : Nat) : Nat := blkTEST + d
def rCROCUS (d : Nat) : Nat := blkCROCUS + d
def rPAIR (d : Nat) : Nat := blkPAIR + d
def rTIME_STAT : Nat := blkPAIR + 0x100
def rTIME_CNT : Nat := blkPAIR + 0x104
def rJTAG_CTRL : Nat := blkTEST + 0x100

end Sys2Proof.Machine
end

