-- ==== Sys2Proof/Machine/Data/Cipher.lean ====
section
/-!
DEFINITION. The state of the cipher complex: Seed Store, bulk engine, MACsec, alarms, self-tests.
-/
namespace Sys2Proof.Machine

/-- A slot of the Seed Store (R393 to R396). type 0: empty. -/
structure KeySlot where
  type : Nat := 0
  origin : Nat := 0
  fixed : Bool := false
  parent : Nat := 0
  gen : Nat := 0
  usage : Nat := 0
  childUsage : Nat := 0
  key : Bytes := []
  pub : Bytes := []
deriving DecidableEq, Repr

/-- A request in the bulk queue (R401 to R405): the request, its status once it has started (0 OK), the key copied at its start, the input bytes
that remain to be worked. -/
structure BulkEntry where
  req : BulkReq
  status : Option Nat := none
  key : Bytes := []
  left : Nat := 0
  /-- It stood in the queue when an alarm came: it fails with KEY_LOST at its start (R417). -/
  lost : Bool := false
deriving DecidableEq, Repr

/-- A SecY (R407, R415). rec0: the record; empty: not a SecY. prev: the records before, newest first, each with the cycle of the command
that replaced it: it stands for frames whose reception began before (R407). counts: by word of the SecY status response (R575). -/
structure SecY where
  rec0 : Rec := []
  prev : List (Rec × Nat) := []
  counts : Tab Nat := []
deriving DecidableEq, Repr

/-- A secure association (R409 to R412). next: next PN, or lowest acceptable PN; window: the PNs received above it, for the replay check. -/
structure Sa where
  rec0 : Rec := []
  next : Nat := 0
  key : Option Bytes := none
  warned : Bool := false
  exhausted : Bool := false
deriving DecidableEq, Repr

/-- An open session of a CRYPT operation (R576): operation and the input so far. -/
structure Session where
  op : Nat
  head : Rec
  input : Bytes := []
deriving DecidableEq, Repr

/-- What slot 0 holds after every reset: the device root (R397). -/
def rootSlot : KeySlot := { type := 2, origin := 5, fixed := true, usage := 0x60, childUsage := 0xFF, key := Config.deviceRoot }

/-- The cipher complex (R392 to R424). -/
structure Cipher where
  slot : Tab KeySlot := [(0, rootSlot)]
  /-- Slots written in a cycle, as they stood before it, with the cycle plus 1 (R405, R424). -/
  slotWas : Tab (KeySlot × Nat) := []
  queue : List BulkEntry := []
  /-- Requester that the symmetric unit last served, and ns of chunks that requester 0 has used in the Beat in progress (R402). -/
  turn : Nat := 0
  pkTurn : Nat := 0
  gwUsed : Nat := 0
  /-- The requester whose chunk the symmetric unit works, and the one whose request the public-key unit works. -/
  sym : Option Nat := none
  pk : Option Nat := none
  gwShare : Nat := 50
  testS : Nat := 60
  secy : Tab SecY := []
  sa : Tab Sa := []
  rxsc : Tab Rec := []
  alarm : Bool := false
  almVolt : Bool := false
  almClk : Bool := false
  almTemp : Bool := false
  almDbg : Bool := false
  /-- Zeroization is running, and is complete (R417). -/
  zeroizing : Bool := false
  zeroized : Bool := false
  pipe0Fail : Bool := false
  pipe1Fail : Bool := false
  symFail : Bool := false
  pkFail : Bool := false
  entropyFail : Bool := false
  /-- Known-answer tests that run or wait: pipes 0 and 1, and the bulk engine's symmetric and public-key unit (R419, R420). -/
  test0 : Bool := false
  test1 : Bool := false
  test2 : Bool := false
  test3 : Bool := false
  test0At : Nat := 0
  test1At : Nat := 0
  test2At : Nat := 0
  /-- The open session of each mailbox: what a decryption holds of its ciphertext until its tag has verified (R416, R576). -/
  session : Tab (Option Session) := []
  /-- The local time at which the scrub of a Latent memory ends: ports 0 to 27, the bulk engine 28 (R416). -/
  scrub : Tab Nat := []
deriving DecidableEq, Repr

end Sys2Proof.Machine
end

