-- ==== Sys2Proof/Machine/Data/NetTime.lean ====
section
/-!
DEFINITION. The state of network time: domain slots, peer delay, the hot-standby pair, PAIR_TIME.
-/
namespace Sys2Proof.Machine

/-- A Sync that waits for its Follow_Up (R98): its port, its ingress stamp in 2^-16 ns, and the link delay and neighbour rate ratio in force there (R87). -/
structure HeldSync where
  port : Nat
  stamp : Int
  msg : SyncMsg
  delay : Int
  nrr : Int
deriving DecidableEq, Repr

/-- The Announce that a port has accepted last, and its local time (R111, R112). -/
structure PortInfo where
  gm : GmInfo
  steps : Nat
  srcClock : Nat
  srcPort : Nat
  path : List Nat := []
  at0 : Nat
deriving DecidableEq, Repr

/-- A domain slot (R82, R90, R98, R102 to R106, R112). cfg: words 5 to 10 of the domain record of R566; empty: the defaults of R82. Times in
2^-16 ns, rates in 2^-41. -/
structure Slot where
  cfg : Rec := []
  /-- Roles in force in BMCA mode, port p below 20 at position p: 0 disabled, 1 slave, 2 master, 3 passive. -/
  roles : List Nat := []
  isGm : Bool := false
  gmId : Nat := 0
  steps : Nat := 0
  offset : Int := 0
  rate : Int := 0
  valid : Bool := false
  lastSync : Nat := 0
  /-- The last 8 offsets, newest first, since the slot became valid. -/
  offsets : List Int := []
  /-- Local time since which the residual is valid (R106, R109). -/
  residualSince : Option Nat := none
  /-- The two-step Syncs that wait for their Follow_Ups, oldest first (R98). -/
  held : List HeldSync := []
deriving DecidableEq, Repr

/-- A port's peer delay (R86 to R90, R93). cfg: words 4 to 9 of the TIME port command; empty: its defaults. -/
structure PortTime where
  cfg : Rec := []
  reqSeq : Nat := 0
  /-- t1 of the request in flight. -/
  reqT1 : Option Int := none
  lastReq : Option Nat := none
  samples : List Int := []
  /-- t3 and t4 of the last 9 exchanges, newest first. -/
  turns : List (Int × Int) := []
  dUp : Int := 0
  nrr : Int := 0
  asCap : Bool := false
  lost : Nat := 0
  responder : Option (Nat × Nat) := none
  multi : Bool := false
  /-- The interval that the neighbour has asked for, as its logarithm (R80). -/
  pdelayAsk : Option Int := none
deriving DecidableEq, Repr

/-- PAIR_TIME (R113 to R119). role: 0 off, 1 leader, 2 follower. err in 0.25 ns. -/
structure PairTime where
  role : Nat := 0
  delay : Nat := 0
  followStep : Bool := false
  lock : Bool := false
  err : Int := 0
  good : Nat := 0
  bad : Nat := 0
  /-- The last good edge: corrected stamp and boundary instant, in 2^-16 ns. -/
  edge : Option (Int × Int) := none
  seenTgl : Option Bool := none
  stepTgl : Bool := false
deriving DecidableEq, Repr

/-- Network time (R80 to R119). -/
structure NetTime where
  slot : Tab Slot := []
  port : Tab PortTime := []
  /-- Counters of R112 by (slot × 32 + port) × 16 + index in the order of R112; those of a port that no slot owns stand in slot 0's place (log entry 11). -/
  counts : Tab Nat := []
  /-- By slot × 32 + port: the Announce accepted last and not timed out (R111), the local times of the last Announce and Sync sent, and the logarithms of the
  Sync and Announce intervals that the neighbour has asked for (R80). -/
  announce : Tab (Option PortInfo) := []
  announceTx : Tab (Option Nat) := []
  syncTx : Tab (Option Nat) := []
  /-- The sequenceIds of the next Announce and of the next Sync of the slot's own. -/
  announceSeq : Tab Nat := []
  syncSeq : Tab Nat := []
  syncAsk : Tab (Option Int) := []
  announceAsk : Tab (Option Int) := []
  /-- The hot-standby pair: A, B, revertive, hold-off in s (R105, R109), and the slot that the host's switch command names. -/
  pair : Option (Nat × Nat) := none
  revert : Bool := false
  holdOff : Nat := 10
  hostSwitch : Option Nat := none
  /-- The cycle of the last boundary at which a switch command acted, and the slot that it named (R109). -/
  hostDone : Option (Nat × Nat) := none
deriving DecidableEq, Repr

end Sys2Proof.Machine
end

