-- ==== Sys2Proof/Machine/Data/Net.lean ====
section
/-!
DEFINITION. The state of the ports, the packet buffer and its frames, the forwarding tables, the egress queues and their scheduling, the
per-stream functions and the zone firewall.
-/
namespace Sys2Proof.Machine

/-- Link states (R134). -/
inductive LinkState where
  | disabled | down | training | up | outOfService
deriving DecidableEq, Repr

/-- An external port (R131 to R143, R648 to R654). cfg: the record of R131; empty: never configured, MODE disabled. -/
structure Port where
  cfg : Rec := []
  st : LinkState := .disabled
  /-- SPEED in force, coded as R143. -/
  speed : Nat := 7
  anDone : Bool := false
  plcaAct : Bool := false
  /-- The transmit opportunity of the PLCA cycle (R127): the node that has it, the local time since which it has, and the frames that it has sent in it; none
  before a BEACON. -/
  plca : Option (Nat × Nat × Nat) := none
  mergeAct : Bool := false
  dlcFault : Bool := false
  /-- The alignment has been measured since the last lane lock. -/
  measured : Bool := false
  lastChange : Nat := 0
  down : Nat := 0
  flap : Nat := 0
  fecCorr : Nat := 0
  fecUncorr : Nat := 0
  pcsErr : Nat := 0
  trainFail : Nat := 0
  beaconMiss : Nat := 0
  dlcOffset : Int := 0
  /-- A loss of the link that LINK_HOLD spares: its start and the length of the hold in ns. -/
  hold : Option (Nat × Nat) := none
  /-- The condition of R136 as last reported. -/
  cond : Bool := false
  /-- The delay constants that the stamp unit has loaded for the port and its mode (R15, R133): whether they are sealed ones, IN_DELAY and EG_DELAY in
  2^-16 ns, and the range of measured positions. -/
  sealed : Bool := false
  inDelay : Int := 0
  egDelay : Int := 0
  dlcRange : Option (Int × Int) := none
  /-- Loop point: 0 off, 1 MAC, 2 PCS, 3 PHY (R648). -/
  loop : Nat := 0
  /-- Pattern of a PRBS run (R650), bits checked and errors since its start. -/
  prbs : Option Nat := none
  prbsBits : Nat := 0
  prbsErrs : Nat := 0
  /-- A cable measurement runs (R651). -/
  cable : Bool := false
  /-- The cycle of the last port command (R138), and of the last loopback, PRBS or cable command (R659). -/
  cmdAt : Option Nat := none
  testAt : Option Nat := none
  /-- The cycle in which the port last left UP (R135). -/
  downAt : Option Nat := none
  /-- The local time of the last BEACON received, or at which PLCA status became true (R129). -/
  beaconAt : Nat := 0
deriving DecidableEq, Repr

/-- A link transition of a port (R138). -/
inductive LinkMove where
  | up (speed : Option Nat)
  | lost
  | speed (code : Nat)
  | beacon
deriving DecidableEq, Repr

/-- The last link transition of a port: its cycle, what it was, and the port as it stood before that cycle's first one (R138). -/
structure PortMove where
  at0 : Nat
  move : LinkMove
  before : Port
  peer : PortTime
deriving DecidableEq, Repr

/-- The port complex (R122, R130). -/
structure PortsState where
  port : Tab Port := []
  moved : Tab (Option PortMove) := []
  refA : Bool := true
  refB : Bool := true
deriving DecidableEq, Repr

/-- What the parser takes from a frame's window (R149); a field outside the window is absent. -/
structure Parsed where
  da : Nat := 0
  sa : Nat := 0
  tagged : Bool := false
  tagPcp : Nat := 0
  tagDei : Bool := false
  tagVid : Nat := 0
  /-- Bytes of tags after the SA: 0, 4 or 8. -/
  tagLen : Nat := 0
  rtag : Option Nat := none
  etype : Option Nat := none
  /-- 4 or 6; 0: no IP header. -/
  ip : Nat := 0
  src : Option Nat := none
  dst : Option Nat := none
  dscp : Option Nat := none
  proto : Option Nat := none
  /-- Fragment offset and MF of an IPv4 header. -/
  fragment : Option Nat := none
  moreFragments : Option Bool := none
  sport : Option Nat := none
  dport : Option Nat := none
  tcpFlags : Option Nat := none
  subtype : Option Nat := none
  streamId : Option Nat := none
deriving DecidableEq, Repr

/-- A frame in the packet buffer (R145, R182, R184): ingress port, bytes from the DA through the FCS, ingress stamp in 2^-16 ns, cells by partition, and
what the stages have made of it. -/
structure Frame where
  port : Nat
  bytes : Bytes := []
  stamp : Int := 0
  /-- The frame may take cells of the system reserve, as read before its first cell (R184). -/
  reserve : Bool := false
  /-- Local time from which the frame has left its ring under the pace of its port (R148). -/
  ready : Nat := 0
  guar : Nat := 0
  shared : Nat := 0
  sys : Nat := 0
  whole : Bool := false
  fcsOk : Bool := false
  /-- The rest of the frame is discarded on arrival, or the MAC consumes it (R81, R151, R185, R191, R582); the frame then holds no cells. -/
  gone : Bool := false
  eaten : Bool := false
  /-- The frame still waits in the ring of its internal port, and holds no cells (R148, R184). -/
  waits : Bool := false
  refs : Nat := 0
  drop : Option Nat := none
  classified : Bool := false
  vid : Nat := 0
  pcp : Nat := 0
  dei : Bool := false
  tc : Nat := 0
  /-- The traffic class of a frame of the device's own that names one (R371). -/
  cls : Option Nat := none
  handle : Option Nat := none
  dest : List Nat := []
  flooded : Bool := false
  directed : Option Nat := none
  launch : Option Nat := none
  /-- Firewall outcome: the TRACK entry that decided, the TO_CONTROL entry, TRACE selected. -/
  track : Option Nat := none
  control : Option Nat := none
  trace : Bool := false
  /-- Stream gate occurrence of the stamp: gate, start of the entry (R251). -/
  occ : Option (Nat × Int) := none
  /-- Number that the replicas' R-TAG carries, and whether the R-TAG is taken off (R260, R264). -/
  seq : Option Nat := none
  pop : Bool := false
  looped : Bool := false
  /-- A cell of the frame has met an uncorrectable error (R653). -/
  bad : Bool := false
deriving DecidableEq, Repr

/-- A gPTP message that waits in a queue (R84, R86, R95, R96, R99). kind: 0 Sync, 2 Pdelay_Req, 3 Pdelay_Resp, 8 Follow_Up, 10 Pdelay_Resp_Follow_Up,
11 Announce. corr: the correctionField that the message carries before ΔC; followCorr: that of the Follow_Up of a two-step Sync; ingress: I; csro, nrr, delay:
the rates and the link delay of R95; origin: the preciseOriginTimestamp, none where it is working time as the Sync leaves (R84); peer: the port that a
Pdelay answer names; stamp: t2 or t3. Times in 2^-16 ns. -/
structure GptpTx where
  kind : Nat
  slot : Nat
  cmlds : Bool := false
  seqId : Nat
  corr : Int := 0
  followCorr : Int := 0
  ingress : Option Int := none
  csro : Int := 0
  nrr : Int := 0
  delay : Int := 0
  twoStep : Bool := false
  origin : Option Int := none
  tlv : Bytes := []
  peer : Nat × Nat := (0, 0)
  stamp : Int := 0
  announce : Option (GmInfo × Nat × List Nat) := none
deriving DecidableEq, Repr

/-- A queue entry (R198): its frame in the buffer or the device's own bytes, admission, DEI, launch instant in working time, the session of a mirror copy,
its length leaving the MAC before MACsec. -/
structure Replica where
  frame : Nat := 0
  own : Bytes := []
  admitted : Nat
  inPort : Nat := 29
  dei : Bool := false
  launch : Option Int := none
  late : Bool := false
  mirror : Option Nat := none
  len : Nat
  gptp : Option GptpTx := none
deriving DecidableEq, Repr

/-- A frame on the line of a port. -/
structure Sending where
  rep : Replica
  cls : Nat
  express : Bool
  start : Nat
  /-- Local time of its last byte. -/
  done : Nat
  /-- Line time from the reading of its last cell to its last byte, in ns, and whether its reference is released (R186). -/
  tail : Nat := 0
  released : Bool := false
  /-- The frame has been ended early at least once (R237). -/
  ended : Bool := false
deriving DecidableEq, Repr

/-- A gate list (R205, R206): entries as word 0 and interval in ns; base in 2^-16 ns, cycle in ns. -/
structure GateList where
  init : Nat := 0xFF
  base : Int := 0
  cycle : Nat := 1000
  entries : List (Word × Nat) := []
deriving DecidableEq, Repr

/-- The gates of a port (R205 to R214): two banks, the bank in force, its start S, the pending start, the admin bank's state. -/
structure Gates where
  bank0 : GateList := {}
  bank1 : GateList := {}
  force : Nat := 0
  start : Int := 0
  pending : Option Int := none
  late : Bool := false
  /-- The start of the pending list is late (R209, R214). -/
  pendLate : Bool := false
  /-- The admin bank has been written since the reset (R208). -/
  written : Bool := false
  /-- A swap is staged, armed or pending (R207). -/
  busy : Bool := false
  /-- An entry of the list in force has met an uncorrectable error (R653). -/
  ecc : Bool := false
deriving DecidableEq, Repr

/-- The shaper of a class (R217 to R223): record in force, record last accepted, record released with the cycle of its release and waiting for the tick,
credit or tokens in 2^-24 byte. -/
structure Shaper where
  rec0 : Rec := []
  last : Rec := []
  released : Option (Nat × Rec) := none
  credit : Int := 0
  /-- The line rate has fallen below RATE since a record within it was applied (R223). -/
  capped : Bool := false
deriving DecidableEq, Repr

/-- The samples of a queue in the Beat in progress or completed (R234). weighted: sum of depth × cycles up to since. -/
structure Sample where
  depthMin : Nat := 0
  depthMax : Nat := 0
  weighted : Nat := 0
  since : Nat := 0
  headSoj : Nat := 0
  maxDelay : Nat := 0
  departed : Nat := 0
  bins : List Nat := []
deriving DecidableEq, Repr

/-- The egress side of a port (R198 to R238). sched: the record of R204 in force; empty: the defaults. -/
structure Egress where
  sched : Rec := []
  schedLast : Rec := []
  schedReleased : Option (Nat × Rec) := none
  queue : Tab (List Replica) := []
  /-- Local time since which the head of a class stands at the head. -/
  headAt : Tab Nat := []
  /-- The end of the window for which GUARD_HOLD was counted for the head. -/
  guardAt : Tab (Option Int) := []
  sending : Option Sending := none
  /-- A preempted frame, with the ns of line time it still needs. -/
  preempted : Option (Sending × Nat) := none
  hold : Bool := false
  /-- The line is free from this local time on; the end of the last fragment that was ended early (R227). -/
  free : Nat := 0
  cutEnd : Nat := 0
  /-- The replicas turned away in one cycle: the cycle; class, reason of R199 and replica. A departure of that cycle goes before them (R200). -/
  refused : Nat × List (Nat × Nat × Replica) := (0, [])
  /-- The departures of one cycle, class and delay, which join the samples after it (R233). -/
  departs : Nat × List (Nat × Nat) := (0, [])
  gates : Gates := {}
  shaper : Tab Shaper := []
  /-- Counters of R237: word index; per-class words at 3 + 8c. -/
  counts : Tab Nat := []
  sample : Tab Sample := []
  /-- The samples of the last completed Beat; there weighted holds the mean depth in 1/256 frame (R235). -/
  done : Tab Sample := []
  /-- BIN_EXP and EXPORT in force for the Beat in progress, and for the next (R236). -/
  binExp : Nat := 5
  export0 : Bool := false
deriving DecidableEq, Repr

/-- What has reached the MAC table in one core cycle (R173): the keys that a commit wrote, the flushes as kind and value, the keys refreshed, and the entries
that a sweep has removed. -/
structure MacCycle where
  at0 : Nat := 0
  commits : List (Nat × Nat) := []
  flushes : List (Nat × Nat) := []
  refreshed : List (Nat × Nat) := []
  swept : List Rec := []
  /-- The keys that a flush of the cycle has removed, and those moved to another port, with the port that they had. -/
  flushed : List (Nat × Nat) := []
  moved : List (Nat × Nat × Nat) := []
deriving DecidableEq, Repr

/-- The bridge (R150 to R196). bridge: records of R152 (empty: defaults). mac: entries by bucket × 4 + way. counts: words of R196 by port × 64 + word. -/
structure Forwarding where
  bridge : Tab Rec := []
  vlan : Tab Rec := []
  ipProfile : Tab Nat := []
  ident : Tab Rec := []
  handle : Tab Rec := []
  mac : Tab Rec := []
  macCycle : MacCycle := {}
  ageing : Nat := 300
  sweepAt : Nat := 0
  mirror : Tab Rec := []
  mirrorDrop : Tab Nat := []
  counts : Tab Nat := []
deriving DecidableEq, Repr

/-- The packet buffer (R182 to R189): partitions (empty: defaults), cells in use, frames held and the frame each port receives. -/
structure Buffer where
  cfg : Rec := []
  guarUsed : Tab Nat := []
  sharedUsed : Tab Nat := []
  sysUsed : Nat := 0
  /-- Cells withdrawn after an uncorrectable error (R653). -/
  withdrawn : Nat := 0
  freeMin : Nat := 196608
  /-- The buffer-low event may be raised (R188). -/
  lowArmed : Bool := true
  frames : Tab (Option Frame) := []
  next : Nat := 1
  rx : Tab Nat := []
  /-- By internal port: the local time at which its ring gives the next frame (R148). -/
  pace : Tab Nat := []
deriving DecidableEq, Repr

/-- A stream filter (R244, R245, R266). -/
structure Filter where
  rec0 : Rec := []
  blocked : Bool := false
  /-- The cycle of the last oversize drop (R245). -/
  blockedAt : Option Nat := none
  matched : Nat := 0
  passed : Nat := 0
  sduDrop : Nat := 0
  blockDrop : Nat := 0
deriving DecidableEq, Repr

/-- A stream gate list with its start (R246, R249): INIT_OPEN, INIT_IPV when assigned, first pool entry, entries, cycle in ns, S. -/
structure StreamList where
  initOpen : Bool
  initIpv : Option Nat
  off : Nat
  len : Nat
  cycle : Nat
  start : Int
deriving DecidableEq, Repr

/-- A stream gate (R246 to R252, R266). -/
structure StreamGate where
  rec0 : Rec := []
  force : Option StreamList := none
  pending : Option StreamList := none
  busy : Bool := false
  /-- The list that was in force before, and the local time since which it is not (R250). -/
  prev : Option StreamList := none
  since : Nat := 0
  latched : Bool := false
  /-- The cycle of the last latching (R252). -/
  latchedAt : Option Nat := none
  lateStart : Nat := 0
  gateDrop : Nat := 0
  octetDrop : Nat := 0
  /-- Octets charged to the occurrence that started at the given working time. -/
  octets : Int × Nat := (0, 0)
deriving DecidableEq, Repr

/-- A flow meter (R253 to R257): buckets in 2^-24 units. -/
structure Meter where
  rec0 : Rec := []
  released : Option (Nat × Rec) := none
  tc : Nat := 0
  tp : Nat := 0
  markRed : Bool := false
  /-- The cycle of the last red frame (R256). -/
  redAt : Option Nat := none
  /-- The cycle in which a clear command took MARK_RED away. -/
  unmarked : Option Nat := none
  green : Nat := 0
  yellow : Nat := 0
  redDrop : Nat := 0
deriving DecidableEq, Repr

/-- A sequence generation function (R259, R260). -/
structure Generation where
  rec0 : Rec := []
  seq : Nat := 0
  generated : Nat := 0
deriving DecidableEq, Repr

/-- A sequence recovery function (R261 to R267). hist: bit i for number r - i. timer: local time of the last pass. -/
structure Recovery where
  rec0 : Rec := []
  r : Nat := 0
  hist : Nat := 0
  takeAny : Bool := false
  timer : Option Nat := none
  /-- The cycle of the last expiry, and whether take_any was set before it (R262). -/
  expired : Option (Nat × Bool) := none
  passedP : Nat := 0
  dupD : Nat := 0
  latent : Bool := false
  /-- The cycle of the last detection (R265). -/
  latentAt : Option Nat := none
  testAt : Nat := 0
  resetAt : Nat := 0
  passed : Nat := 0
  dup : Nat := 0
  ooo : Nat := 0
  oooDiscard : Nat := 0
  rogue : Nat := 0
  lost : Nat := 0
  tagless : Nat := 0
  resets : Nat := 0
deriving DecidableEq, Repr

/-- The per-stream functions (R239 to R268). pool: entries of R247. -/
structure Streams where
  filter : Tab Filter := []
  gate : Tab StreamGate := []
  pool : Tab (Word × Word) := []
  meter : Tab Meter := []
  gen : Tab Generation := []
  rcv : Tab Recovery := []
  /-- The cycle of the last refill tick (R219, R233, R241). -/
  tickAt : Option Nat := none
  /-- The cycle in which a frame last acted on these functions, and its ingress port (R241). -/
  acted : Nat × Nat := (0, 0)
deriving DecidableEq, Repr

/-- A frame that met a tracker entry created in its own cycle (R303): slot of the entry, ingress port, the TRACK entry that decided, its fields, and the
zones of source and destination. -/
structure TrackFrame where
  slot : Nat
  port : Nat
  rule : Option Nat
  parsed : Parsed
  src : Nat
  dst : Nat
deriving DecidableEq, Repr

/-- What the firewall keeps of one core cycle (R275, R289, R303): its tables as the cycle found them, the tracker slots created or refreshed, the entries that
a sweep has removed, the flushes, the frames of entries created, and the counters that have counted, by kind (0 status, 1 zone pairs, 2 hits, 3 shadow hits). -/
structure FwCycle where
  at0 : Nat := 0
  zone : Tab Nat := []
  attr : Tab Nat := []
  rule : Tab Rec := []
  tracker : Tab Rec := []
  touched : List Nat := []
  swept : List (Nat × Rec) := []
  flushes : List Word := []
  frames : List TrackFrame := []
  counted : List (Nat × Nat) := []
  /-- The entries that awaited their rewrite (R659). -/
  bad : List Nat := []
deriving DecidableEq, Repr

/-- The zone firewall (R269 to R303). zone: zone of a member by bank × 256 + kind × 32 + index; attr: INTRA_RULES and LOG_DEFAULT by bank × 32 + zone. -/
structure Firewall where
  bank : Nat := 0
  swapPend : Bool := false
  dryRun : Bool := false
  zone : Tab Nat := []
  attr : Tab Nat := []
  rule : Tab Rec := []
  hits : Tab Nat := []
  shadowHits : Tab Nat := []
  /-- Rules that await their rewrite after an uncorrectable error (R653). -/
  bad : List Nat := []
  tracker : Tab Rec := []
  toNew : Nat := 30
  toClose : Nat := 10
  toUdp : Nat := 120
  toTcp : Nat := 3600
  sweepAt : Nat := 0
  diffCapture : Nat := 64
  diffLeft : Nat := 64
  /-- Bypassed pairs: source, destination, local time of expiry (R296). -/
  bypass : List (Nat × Nat × Nat) := []
  logRate : Nat := 1000
  logBurst : Nat := 100
  /-- Log tokens in 10^-9. -/
  tokens : Nat := 100000000000
  /-- Counters of R301: status words 2 to 7; zone pair counters by (s × 32 + d) × 5 + k. -/
  counts : Tab Nat := []
  pairs : Tab Nat := []
  cycle : FwCycle := {}
deriving DecidableEq, Repr

end Sys2Proof.Machine
end

