-- ==== Sys2Proof/Machine/Data/Nm.lean ====
section
/-!
DEFINITION. The state of Crocus and of network sleep and wake: wake sources, segments, clusters, host requests, the offender log, standby entry.
-/
namespace Sys2Proof.Machine

/-- A wake source (R358 to R360, R381 to R383). rec0: the record of R359; empty: disabled. Times are local times. -/
structure WakeSource where
  rec0 : Rec := []
  inWin : Nat := 0
  winEnd : Option Nat := none
  maskEnd : Option Nat := none
  wakes : Nat := 0
  falses : Nat := 0
  maskedHits : Nat := 0
  maskings : Nat := 0
  /-- The validation window: open, and its end once it counts (R381). -/
  opened : Bool := false
  validEnd : Option Nat := none
deriving DecidableEq, Repr

/-- A frame that the gateway engine is to place on a CAN or LIN target, or into a tunnel (R331). cells: the entry of Gateway.cells that holds it. -/
structure GwOut where
  f : CanFrame
  route : Nat
  origin : Nat
  launch : Option Int := none
  maxAge : Nat := 0
  cells : Option Nat := none
deriving DecidableEq, Repr

/-- A replica or a gateway frame held for a segment (R379). -/
inductive Held where
  | port (cls : Nat) (r : Replica)
  | gw (o : GwOut)
deriving DecidableEq, Repr

/-- A segment (R368 to R380). state: 0 AWAKE, 1 PREPARE, 2 SHUTDOWN, 3 SLEEP, 4 WAKING. -/
structure Segment where
  rec0 : Rec := []
  state : Nat := 0
  wakeKind : Nat := 0
  wakeSrc : Nat := 0
  /-- Start of the need timer's run, when it runs. -/
  timer : Option Nat := none
  /-- End of the prepare-sleep time. -/
  prep : Option Nat := none
  /-- The prepare-sleep time has ended, and the segment waits for a Beat boundary (R373). -/
  commit : Bool := false
  /-- A wake latched against SHUTDOWN: kind and source. -/
  latch : Option (Nat × Nat) := none
  wakingAt : Nat := 0
  held : List Held := []
  kaLast : Option Nat := none
  /-- LIN: the go-to-sleep command is to be sent (1) or has been sent (2), and then its end on the bus (R375). -/
  gts : Nat := 0
  gtsEnd : Nat := 0
  /-- Keep-alive senders of the last READY_MS: node record words 0 to 3 of R385, and time (R384). -/
  seen : List (Rec × Nat) := []
  sleeps : Nat := 0
  wakes : Nat := 0
  races : Nat := 0
  sleepDrop : Nat := 0
  kaRx : Nat := 0
  kaTx : Nat := 0
  kaIgnored : Nat := 0
  gtsCut : Nat := 0
deriving DecidableEq, Repr

/-- A standby entry (R363 to R365): level; step 0 until the boundary, 1 the shutdowns run, 2 forwarding has stopped and the snapshot is awaited;
local time of its boundary. -/
structure StandbyEntry where
  level : Nat
  /-- CROCUS.CTRL.GO has called for it. -/
  go : Bool := false
  step : Nat := 0
  since : Nat := 0
deriving DecidableEq, Repr

/-- An entry of the offender log (R385): words 0 to 3 with COUNT apart, first and last time. -/
structure Offender where
  key : Rec
  count : Nat := 0
  first : Nat
  last : Nat
  /-- Logged since the ignition was last active: its keep-alives may be ignored (R386). -/
  live : Bool := true
deriving DecidableEq, Repr

/-- Crocus and network management (R355 to R391). -/
structure NmState where
  source : Tab WakeSource := []
  seg : Tab Segment := []
  /-- A cluster's need timer: start, and the segment whose READY_MS it runs for. -/
  cluster : Tab (Option (Nat × Nat)) := []
  /-- Host requests: cluster or segment, number, mailbox. -/
  host : List (Bool × Nat × Nat) := []
  settings : Rec := []
  /-- Local time of the ignition-off hint, and whether the offenders are logged since OFFENDER_MIN after it (R384). -/
  hint : Option Nat := none
  logging : Bool := false
  log : List Offender := []
  logFull : Nat := 0
  /-- Nodes whose keep-alives are ignored are those of the log (R386). -/
  entry : Option StandbyEntry := none
  /-- The cycle in which a new command took the place of an entry, and that entry (R509). -/
  entryWas : Option (Nat × StandbyEntry) := none
  /-- In standby: the level and its start (R355). -/
  asleep : Option (Nat × Nat) := none
  /-- Sources that have qualified since the standby entry began, with local times, in order (R362, R365). -/
  wakes : List (Nat × Nat) := []
  /-- The next start raises event 28 (R364). -/
  owe28 : Bool := false
  /-- WAKE_OUT is held low until this local time (R365). -/
  raceHold : Option Nat := none
  /-- The firmware's snapshot of network management in retention SRAM, when one has been written (R364, R366). -/
  snapshot : Bool := false
  /-- WAKE_OUT, and RET_EN. -/
  wakeOut : Bool := true
  retEn : Bool := true
  /-- CAN buses whose CAN_STBn is high, and LIN buses whose LIN_ENn is low (R374, R378). -/
  stbHigh : List Nat := []
  enLow : List Nat := []
  /-- The cycle in which the ignition last returned active, plus 1 (R391). -/
  ignBack : Nat := 0
deriving DecidableEq, Repr

end Sys2Proof.Machine
end

