-- ==== Sys2Proof/Machine/Data/Gw.lean ====
section
/-!
DEFINITION. The state of the CAN controllers, the LIN commanders and the gateway engine.
-/
namespace Sys2Proof.Machine

/-- A transmit slot (R310 to R315): its frame, whether the host placed it and with which tag, launch instant, order of placement, local time of
placement, attempts made, whether it counts as late, whether LAUNCH_LATE has counted it (R313), whether the host aborts it. -/
structure CanSlot where
  out : GwOut
  host : Bool := false
  tag : Word := 0
  order : Nat := 0
  placed : Nat := 0
  tries : Nat := 0
  late : Bool := false
  counted : Bool := false
  abort : Bool := false
deriving DecidableEq, Repr

/-- A CAN controller (R305 to R317, R351). rec0: the record in force; empty: off. counts: words 2 to 14 of R351 by word number. -/
structure Can where
  rec0 : Rec := []
  /-- A record that waits for the end of the frame on the bus (R307). -/
  next : Option Rec := none
  /-- The record before, whether it was integrating, and the cycle in which the record in force replaced it: a frame whose SOF lies before is received under
  it (R307). -/
  prev : Option (Rec × Bool × Nat) := none
  /-- The controller waits for 11 recessive bits (R307). -/
  integ : Bool := false
  tec : Nat := 0
  rec1 : Nat := 0
  busOff : Bool := false
  /-- The local time of BO_DELAY's end, while it runs; and whether recovery counts bit sequences (R317). -/
  boEnd : Option Nat := none
  recovering : Bool := false
  busOffs : Nat := 0
  slots : Tab (Option CanSlot) := []
  /-- The slot on the bus and its SOF. -/
  sending : Option (Nat × Nat) := none
  order : Nat := 0
  counts : Tab Nat := []
deriving DecidableEq, Repr

/-- A LIN commander (R321 to R327). rec0: record of R321; empty: off. head: headers of R322 by table. counts: words 1 to 9 of R351 by word number. -/
structure Lin where
  rec0 : Rec := []
  next : Option Rec := none
  head : Tab Rec := []
  /-- The table in force; the working time of the start of the cycle in progress and the index of the next slot in it. -/
  table : Option Nat := none
  cycle : Int := 0
  idx : Nat := 0
  /-- The slot in progress: its entry and its local start. -/
  slot : Option (Nat × Nat) := none
  /-- The data that the published slot in progress has sent; none: nothing (R326). -/
  sent : Option Bytes := none
  /-- A selection not yet in force: a table or none (R325). -/
  pend : Option (Option Nat) := none
  /-- First cycle start of the table that is pending. -/
  pendAt : Int := 0
  /-- Local times at which the table in force, and the pending one, were selected: a forward step since then skips slots (R324). -/
  since : Nat := 0
  pendLt : Nat := 0
  /-- The interrupted table, while a collision-resolving table runs its cycle (R327). -/
  back : Option Nat := none
  /-- The bus sends break and header of the slot in the pool entry. -/
  pub : Tab (Option Bytes) := []
  counts : Tab Nat := []
deriving DecidableEq, Repr

/-- A transmit tunnel (R335 to R338): messages of the open frame, their number, the deadline in working time; sequence number; counters. -/
structure Tunnel where
  rec0 : Rec := []
  msgs : Bytes := []
  n : Nat := 0
  deadline : Int := 0
  seq : Nat := 0
  frames : Nat := 0
  messages : Nat := 0
deriving DecidableEq, Repr

/-- A receive tunnel (R339, R340): words 4 to 7 of the command; last sequence number; counters. -/
structure RxTunnel where
  rec0 : Rec := []
  last : Option Nat := none
  frames : Nat := 0
  messages : Nat := 0
  seqGap : Nat := 0
  acfOther : Nat := 0
deriving DecidableEq, Repr

/-- A frame on its way through the engine (R331): source code of R328, frame and key as received, stamp, route and its record as looked
up, message timestamp of an ACF message, its cells. -/
structure GwFrame where
  src : Nat
  f : CanFrame
  bus : Nat
  stamp : Nat
  route : Nat := 0
  rec0 : Rec := []
  ts : Option Nat := none
  cells : Option Nat := none
deriving DecidableEq, Repr

/-- A frame that waits (R334): for the bulk engine, to be verified or secured (R342 to R345), or, plain, behind an earlier frame of its route. -/
structure GwWait where
  g : GwFrame
  secure : Bool
  out : CanFrame
  plain : Bool := false
deriving DecidableEq, Repr

/-- The gateway engine (R304 to R354). cells: cells of a frame held (guarantee, shared pool, reserve) and the targets that hold it.
drops: by (place × 32 + code): places 0 to 23 CAN, 24 to 31 LIN, 32 port 30, 64 on receive tunnels. -/
structure Gateway where
  can : Tab Can := []
  lin : Tab Lin := []
  pool : Tab (Word × Word) := []
  route : Tab Rec := []
  hits : Tab Nat := []
  tunnel : Tab Tunnel := []
  rxTunnel : Tab RxTunnel := []
  /-- The record of R341 but for FRESH, which stands apart, in retention SRAM. -/
  auth : Tab Rec := []
  fresh : Tab Nat := []
  /-- Entries whose FRESH an uncorrectable error has lost (R653). -/
  freshLost : List Nat := []
  /-- The local time, plus 1, at which an entry last accepted a value (R346). -/
  freshAt : Tab Nat := []
  addr : Nat := 0
  drops : Tab Nat := []
  cells : Tab (Nat × Nat × Nat × Nat) := []
  nextCells : Nat := 0
  wait : List GwWait := []
deriving DecidableEq, Repr

/-- What acts at the end of a core cycle, after everything else of the cycle (R354, R391, log entry 116): the end of a need timer of a segment or a cluster, the
end of the wait of held replicas, a woken port, the age of a slot, the abort of a slot, a LIN selection, the completion of a unit's request (R424), a frame
that has waited for its Latent memory (R424), reads of the bridge that have waited their time (R476), the Darkroom's 2 ms (R429), a claim of an
object, a sample of the interlock and the arming of a finished list's sets (R602), a frame that reaches the engine. -/
inductive Late where
  | needEnds (seg : Nat)
  | clusterEnds (cluster : Nat)
  | wakeLate (seg : Nat)
  | portStarts (port : Nat)
  | slotStale (bus slot : Nat)
  | slotAbort (bus slot : Nat)
  | linSelect (bus : Nat)
  | bulkDone (publicKey : Bool)
  | verify (port : Nat) (secy : Rec) (stamp : Int) (bytes : Bytes)
  | readsEnd
  | spiLock (bar2 : Bool) (off : Nat)
  | claim (obj : Nat)
  | acked (token : Nat)
  | claimOver (obj : Nat)
  | handed (obj : Nat)
  | interlock (inHigh : Bool)
  | arm (sets : Nat)
  | frame (g : GwFrame)
deriving DecidableEq, Repr

/-- The order at the end of a cycle: a claim's timeout behind its acknowledgement (R589, R602), frames last, by their source (R354). -/
def Late.rank : Late → Nat
  | .frame g => 2 + g.src
  | .claimOver _ => 1
  | _ => 0

end Sys2Proof.Machine
end

