-- ==== Sys2Proof/Machine/Data/Pair.lean ====
section
/-!
DEFINITION. The state of a redundant pair and of the Darkroom.
-/
namespace Sys2Proof.Machine

/-- An ownership object (R584 to R589), numbered 0 to 23 CAN, 24 to 31 LIN, 32 to 39 the PLCA role of port 20 + i: whether it is owned while
pairing is enabled, its guard (true: interlock line), the end of the owner's lease, the start of the claim wait, the token that claims it with the
local time it was sent, and the time before which it is not claimed again (R588). -/
structure PairObj where
  owned : Bool := false
  interlock : Bool := false
  lease : Option Nat := none
  waitFrom : Nat := 0
  claim : Option (Nat × Nat) := none
  notBefore : Nat := 0
deriving DecidableEq, Repr

/-- A redundant pair (R580 to R594). words of a checkpoint: log entry 20. -/
structure Pair where
  en : Bool := false
  port : Nat := 11
  interval : Nat := 100
  /-- The binding in fuses: ROLE (true: B), partner identity; and the fuse steps used. -/
  bound : Option (Bool × Nat) := none
  binds : Nat := 0
  txSeq : Nat := 0
  /-- The last (LT_EPOCH, MSG_SEQ) accepted, and the local time of the last message accepted. -/
  lastSeq : Option (Nat × Nat) := none
  lastAt : Option Nat := none
  up : Bool := false
  obj : Tab PairObj := []
  /-- PAIR_OWN_OUT; PAIR_OWN_IN as last seen; the local time of a claim that awaits its sample; the group is owned. -/
  ownOut : Bool := false
  ownIn : Bool := false
  ilClaim : Option Nat := none
  ilOwned : Bool := false
  /-- Tokens sent and not acknowledged: message number, local time, objects listed. -/
  tokens : List (Nat × Nat × List Nat) := []
  lastToken : Option Nat := none
  /-- Checkpoints sent: number of the next, time of the last, time of the last acknowledged, frames numbered up to the last by generation function. -/
  ckptNext : Nat := 0
  ckptSent : Option Nat := none
  ckptAck : Option Nat := none
  genMark : Tab Nat := []
  /-- The checkpoint applied, in retention SRAM: number, local time of its last part, words; and parts of one that is not yet whole. -/
  ckpt : Option (Nat × Nat × Rec) := none
  partNum : Nat := 0
  parts : Tab Rec := []
  /-- Since when no checkpoint has been applied, for R592. -/
  missFrom : Nat := 0
  /-- Objects to be handed over at the next boundary (R594). -/
  release : List Nat := []
deriving DecidableEq, Repr

/-- What raised an evidence trigger (R435): the host with mailbox and TAG, or the gateway with bus, format, table entry and identifier. -/
inductive TrigSrc where
  | host (mbx tag : Nat)
  | gateway (bus format entry id : Nat)
deriving DecidableEq, Repr

/-- An evidence window (R437, R439): phase 0 triggered, 1 after-part open, 2 closed and to be signed, 3 being written. cfg: the window record at the trigger.
wt: full time of the trigger. -/
structure DarkWindow where
  src : TrigSrc
  lt : Nat
  epoch : Nat
  wt : Rec
  cfg : Rec
  phase : Nat := 0
  merged : Nat := 0
  queued : Bool := false
  before : List CsRec := []
  after : List CsRec := []
  truncBefore : Bool := false
  truncAfter : Bool := false
  clkFb : Bool := false
  /-- The sequence number from which the live records count. -/
  from0 : Nat := 0
  slot : Nat := 0
  evSeq : Nat := 0
  header : Rec := []
  /-- Local time at which its writing started. -/
  wrote : Nat := 0
deriving DecidableEq, Repr

/-- A slot of the evidence flash (R438, R440): state 0 empty, 1 header without commit page, 2 acknowledged. -/
structure DarkSlot where
  st : Nat := 0
  evSeq : Nat := 0
  header : Rec := []
  recs : List CsRec := []
  /-- An export of the slot is unfinished (R441): the next chunk. -/
  exporting : Bool := false
deriving DecidableEq, Repr

/-- The Darkroom (R425 to R447). slots of the flash are 16 to 256; images beyond image 0 as words. -/
structure Dark where
  run : Bool := false
  clkFb : Bool := false
  calBad : Bool := false
  /-- The local time at which VDD_DRK was lost: no new flash page starts, and the one being programmed ends within 2 ms (R429). -/
  lowAt : Option Nat := none
  /-- Calibration images written, words of those written by a reseal, the image in force, and a reseal in progress with its index. -/
  images : Nat := 1
  image : Tab Rec := []
  inForce : Option Nat := some 0
  /-- The image in force before a reseal completed, and that cycle plus 1 (R434). -/
  forceWas : Option Nat × Nat := (none, 0)
  reseal : Option (Nat × Rec) := none
  audit : List Rec := []
  /-- The key region: the private key and, once it exists, the public key (R426, R442). -/
  secret : List Byte := []
  key : Option (BitVec 768) := none
  /-- The patch region, and the patches applied at the Darkroom's last reset (R426, R443). -/
  patch : List (List Byte) := []
  applied : List (List Byte) := []
  trig : Tab Rec := []
  /-- Local time up to which an entry raises no trigger. -/
  trigHold : Tab Nat := []
  window : Rec := []
  cur : Option DarkWindow := none
  queue : Option DarkWindow := none
  slot : Tab DarkSlot := []
  nextEv : Nat := 0
deriving DecidableEq, Repr

end Sys2Proof.Machine
end

