-- ==== Sys2Proof/Machine/Data/Sys.lean ====
section
/-!
DEFINITION. The state of power and reset, of the control cores, of the boot flash, the firmware image and its settings, of the fuses, and of test access.
-/
namespace Sys2Proof.Machine

/-- Where the core domain stands: it runs, a reset is held, or Crocus is in standby with the core rails off (R355, R627, R634). -/
inductive Power where
  | run | held | standby
deriving DecidableEq, Repr

/-- How far the start has come (R605, R621, R641, R642): the ROM is to check the image; the image runs and is to apply its settings; mailboxes are served;
Safelight; a resume kernel is to start; it forwards while the full image is loaded. -/
inductive Boot where
  | rom | loaded | served | safelight | resume | kernel
deriving DecidableEq, Repr

/-- A disturbance at VBAT in progress (R629): type, start and most extreme level in mV. -/
structure Disturb where
  kind : Nat
  start : Nat
  mv : Nat
deriving DecidableEq, Repr

/-- Power and reset (R625 to R646). -/
structure PowerState where
  power : Power := .run
  /-- What holds a reset: rails, clocks, boundary scan (R627, R633, R656). -/
  rails : Bool := false
  clock : Bool := false
  scan : Bool := false
  /-- The level of the TESTMODE pin (R679). -/
  testmode : Bool := false
  /-- What is to be written or raised once the reset has ended: a brown-out by level in mV and duration in µs, a clock fault. -/
  brown : Option (Nat × Nat) := none
  clockFault : Bool := false
  /-- A system reset that SYS_GO has called for (R639). -/
  sysGo : Option Nat := none
  /-- The cycle of a SYS_GO that took the place of a pending one, and when that one was due (R509). -/
  sysWas : Option (Nat × Nat) := none
  /-- The cycle of the last power-on reset; that of the last system reset, and SYS_RESETS before it (R646). -/
  porAt : Option Nat := none
  sysAt : Option (Nat × Nat) := none
  disturb : Option Disturb := none
  /-- SUPPLY records of disturbances that ended while the core was off. -/
  owed : List (BitVec 64) := []
  /-- The level of standby that a start leaves, until its power-on reset (R635, R636). -/
  wokeFrom : Option Nat := none
  /-- The level of standby that this start left, until the settings have been applied (R366). -/
  woke : Option Nat := none
  pcieRef : Bool := true
  osc32 : Bool := true
  hot : Bool := false
deriving DecidableEq, Repr

/-- The control cores (R595 to R600). -/
structure CoreState where
  core : Nat := 0
  /-- Logic BIST has not ended since the power-on reset. -/
  bist : Bool := true
  stbyOk : Bool := false
  lastCause : Nat := 0
  /-- Commit identifier of each snapshot copy, while its CRC checks; the copy written last. -/
  copy0 : Option Nat := none
  copy1 : Option Nat := none
  newest : Nat := 0
  snapId : Nat := 0
  /-- A takeover in progress: its cause. -/
  takeover : Option Nat := none
  /-- A control reset in progress (R638). -/
  reload : Bool := false
  /-- The cycle of the CTRL_GO that started it (R509). -/
  reloadGo : Option Nat := none
deriving DecidableEq, Repr

/-- Firmware, settings and fuses (R603 to R624). flash: bytes of the boot flash; an unlisted byte is erased. img: header words of the image that runs.
slotDirty: SLOT_DIRTY (R622). inForce, base: copies of R612 and R613. act: an activation, by mailbox, and its pause. -/
structure FwState where
  boot : Boot := .rom
  flash : List (Nat × Byte) := []
  img : List Word := []
  slCause : Nat := 0
  safeProfile : Bool := false
  settingsGood : Bool := false
  commitPending : Bool := false
  slotDirty : Bool := false
  inForce : Option Nat := none
  base : Option Nat := none
  migrating : Bool := false
  act : Option Nat := none
  paused : Bool := false
  floor : Nat := 0
  lifecycle : Nat := 0
  /-- The resume kernel in retention SRAM checks (R642). -/
  kernel : Bool := false
deriving DecidableEq, Repr

/-- Test access (R647 to R659): the TAP instruction in force, none after Test-Logic-Reset; an unlock signature is being verified; errors by region:
corrected and uncorrectable; configured entries that await a rewrite, with their staged records; request rings, and 4-byte words of BAR2, with an
uncorrectable error. -/
structure TestState where
  tap : Option JtagInstr := none
  /-- The data register that the instruction selects, where it is IDCODE or BYPASS (R656). -/
  tapReg : Option Word := none
  /-- JTAG has been opened in Provisioned since the power-on reset. -/
  opened : Bool := false
  verify : Bool := false
  /-- The cycle of the GO that started the verification, and whether it ended another (R509). -/
  verifyGo : Option (Nat × Bool) := none
  ecc : Tab (Nat × Nat) := []
  saved : List (EccTarget × Rec) := []
  badRing : List Nat := []
  badMem : List Nat := []
deriving DecidableEq, Repr

/-- The identifiers that the PCIe function shows, read from device OTP at start-up (R469, R680). -/
structure DeviceIds where
  classCode : BitVec 24 := 0x028000
  vendor : BitVec 16 := 0x1F6D
  device : BitVec 16 := 0x9860
  subVendor : BitVec 16 := 0x1F6D
  subsystem : BitVec 16 := if Config.aq3 then 0x0B03 else 0x0B02
  revision : BitVec 8 := 0x10
deriving DecidableEq, Repr

/-- All of the above. -/
structure SysState where
  pow : PowerState := {}
  core : CoreState := {}
  fw : FwState := {}
  test : TestState := {}
  ids : Option DeviceIds := none
deriving DecidableEq, Repr

end Sys2Proof.Machine
end

