-- ==== Sys2Proof/Machine/State.lean ====
section
/-!
DEFINITION. The state of the device, its faults and refusals, and its reset state.
-/
namespace Sys2Proof.Machine

/-- Reasons for which the device would stop. The spec gives every command an effect in every state, so no meaning raises one (log entry 8). -/
inductive Fault where
  /-- Raised by no command; it would be safe, since the machine stops. -/
  | none
deriving DecidableEq, Repr

/-- Reasons for which a command would have no meaning. -/
inductive Refusal where
  /-- A row of the table without a meaning yet, by its mnemonic; safe, since the machine stops. -/
  | notModelled (mnemonic : String)
deriving DecidableEq, Repr

/-- The device: everything but the cycle in progress and the queue. -/
structure Device where
  beat : BeatState := {}
  time : TimeState := {}
  pins : Tab Pin := []
  net : NetTime := {}
  ptime : PairTime := {}
  ports : PortsState := {}
  egress : Tab Egress := []
  fwd : Forwarding := {}
  buf : Buffer := {}
  str : Streams := {}
  fw : Firewall := {}
  nm : NmState := {}
  gw : Gateway := {}
  ciph : Cipher := {}
  dark : Dark := {}
  pair : Pair := {}
  sys : SysState := {}
  cs : CsState := {}
  bridge : BridgeState := {}
  mbx : MbxState := {}
  ev : EventState := {}
  /-- The rings of sources 16 to 48: CAN, LIN, trace export (R486). -/
  rings : Tab Ring := []
  /-- The storage of the BAR0 registers by byte offset: RW, RWL, W1C, LOCK, CNT and RSVP fields (R506). -/
  regs : Tab Word := []
  /-- What happened to the registers in the last cycle that touched one (R513). -/
  hw : RegCycle := {}
  /-- The bytes of BAR2 (R472). -/
  mem : List Host.Cell := []
  /-- What left the device, newest first (log entry 7). -/
  out : List Output := []
  /-- The number of the next free value (log entry 4). -/
  fresh : Nat := 0
deriving DecidableEq, Repr

/-- The device in a core cycle. -/
structure State extends Device where
  /-- The device as it stood at the start of the cycle, which a read of a register returns (R512). -/
  start : Device := {}
  /-- What acts at the end of a cycle, with that cycle, in the order in which it will act (log entry 116). -/
  late : List (Nat × Late) := []
  /-- The commands that wait, first in, first out. -/
  pending : List Instr := []
deriving DecidableEq, Repr

/-- Time event 37, cause 1, local time started at 0 (R79): its detail is a free value (log entry 9), and its route that of ROUTE's reset value, ring 0 (R550). -/
def startEvent : Occurrence := ⟨373, 1, (Config.free 0).toNat, 8, 0⟩

/-- The record of that event (R452). -/
def startRecord : BitVec 64 := BitVec.ofNat 64 ((373 * 256 + 1) * 2 ^ 47 + startEvent.detail % 2 ^ 47)

/-- The device right after VBAT power-on, its power-on reset released: the first mapping, with cause 7, and the event of the start of local time wait in
the recorder's input queue, and that event in the coalescer (R79, R505, R634, R636). -/
def Device.reset : Device := { sys := { ids := some {} }, cs := { queue := [{ kind := 2, lt := 0, payloads := [0, 0, 0xE0000000] }, { kind := 5, lt := 0, payloads := [startRecord] }] }, ev := { raised := [startEvent] }, fresh := 1 }

def State.reset : State := { toDevice := Device.reset, start := Device.reset }

end Sys2Proof.Machine
end

