-- ==== Sys2Proof/Machine/Tab.lean ====
section
/-!
DEFINITION. Sparse tables: lists of (key, entry) in canonical form, keys rising, no entry equal to the default.
-/
namespace Sys2Proof.Machine

/-- The entry at key k; d where the table lists none. -/
def tget {α : Type} (d : α) : List (Nat × α) → Nat → α
  | [], _ => d
  | (i, v) :: r, k => if i = k then v else tget d r k

/-- Entry k becomes v; an entry equal to d is not listed. -/
def tset {α : Type} [DecidableEq α] (d : α) : List (Nat × α) → Nat → α → List (Nat × α)
  | [], k, v => if v = d then [] else [(k, v)]
  | (i, x) :: r, k, v =>
    if v = d then (if k = i then tset d r k v else (i, x) :: tset d r k v)
    else if k < i then (k, v) :: (i, x) :: r
    else if k = i then (k, v) :: r
    else (i, x) :: tset d r k v

/-- Entry k becomes f of itself. -/
def tmod {α : Type} [DecidableEq α] (d : α) (t : List (Nat × α)) (k : Nat) (f : α → α) : List (Nat × α) :=
  tset d t k (f (tget d t k))

/-- Every listed entry becomes f of its key and itself. -/
def tmap {α : Type} [DecidableEq α] (d : α) (t : List (Nat × α)) (f : Nat → α → α) : List (Nat × α) :=
  t.foldl (fun r p => tset d r p.1 (f p.1 p.2)) t

/-- The canonical form: keys rise strictly above b, and no entry equals d. -/
def tabFrom {α : Type} [DecidableEq α] (d : α) : Nat → List (Nat × α) → Bool
  | _, [] => true
  | b, (i, x) :: r => decide (b ≤ i) && decide (x ≠ d) && tabFrom d (i + 1) r

/-- A table in canonical form. -/
def tabWf {α : Type} [DecidableEq α] (d : α) (t : List (Nat × α)) : Bool := tabFrom d 0 t

end Sys2Proof.Machine
end

