-- ==== Sys2Proof/Machine/Ops.lean ====
section
/-!
DEFINITION. The named operations that the meanings share: time passing, register storage, BAR2 memory, Contact Sheet records, events, rings.
-/
namespace Sys2Proof.Machine
open Sys2Proof

/-! ### Time and what leaves -/


/-- The pending correction after n more core cycles (R58): its magnitude falls by |p| each, and not past zero. -/
def consumed (c p : Int) (n : Nat) : Int :=
  if c < 0 then min 0 (c + p.natAbs * n) else max 0 (c - p.natAbs * n)

/-- Core cycle t has come: local time never goes back, the slew consumes the pending correction (R41, R58), and the device stands at the start of a
cycle (R512). -/
def State.atTime (t : Nat) (s : State) : State :=
  let n := max t s.time.now
  let v := { s.time with now := n, corr := consumed s.time.corr s.time.p (n - s.time.corrAt), corrAt := n }
  { s with
    time := v
    start := if s.time.now < t then { s.toDevice with time := v } else s.start }

/-- Whether the core domain runs: its rails are up and no reset is held (R355, R634). -/
def coreOn (s : State) : Bool := s.sys.pow.power = .run

/-- The control firmware runs: its start is complete, and no takeover, reload or activation pause is under way (R16, R597, R608, R638). -/
def fwRuns (s : State) : Bool := coreOn s && s.sys.fw.boot = .served && s.sys.core.takeover.isNone && !s.sys.core.reload && !s.sys.fw.paused

/-- Something leaves the device. -/
def emit (o : Output) (s : State) : State := { s with out := o :: s.out }

/-- Whether what is left to the end of a cycle acts no later than another such thing. -/
def lateFirst (a b : Nat × Late) : Bool := a.1 < b.1 || (a.1 = b.1 && a.2.rank ≤ b.2.rank)

/-- Something is left to the end of cycle n, behind what acts no later (log entry 116). -/
def giveWayTo (n : Nat) (e : Late) (s : State) : State :=
  { s with late := s.late.filter (fun x => lateFirst x (n, e)) ++ (n, e) :: s.late.filter (fun x => !lateFirst x (n, e)) }

/-- Something is left to the end of this cycle. -/
def giveWay (e : Late) (s : State) : State := giveWayTo s.time.now e s

/-- The next free value, and the state that has used it (log entry 4). -/
def freeVal (s : State) : BitVec 64 × State := (Config.free s.fresh, { s with fresh := s.fresh + 1 })

/-- The clamp of R46: 50 ppm in units of 2^-44. -/
def slewClamp : Int := 879609302

/-- Working time at local time l, in 2^-16 ns, rounded toward minus infinity (R45). -/
def wtAt (m : Mapping) (l : Nat) : Int := m.wa + ((l : Int) - m.la) * (2 ^ 44 + m.a) / 2 ^ 28

/-- The rank of a mapping cause in R49; the first in rank names a merged mapping. -/
def causeRank : Nat → Nat
  | 4 => 0
  | 6 => 1
  | 5 => 2
  | 7 => 3
  | 2 => 4
  | 3 => 5
  | _ => 6

/-- The one cause of a mapping (R49). -/
def causeOf (l : List Nat) : Nat :=
  l.foldl (fun best c => if causeRank c < causeRank best then c else best) 1

/-- The phase term that a request leaves, the frequency term being f (R46, R47, R58). -/
def phaseTerm (f old : Int) (ask : Option Int) : Int :=
  match ask with
  | none => clampI (-slewClamp - f) (slewClamp - f) old
  | some d => if 0 < d then slewClamp - f else if d < 0 then -slewClamp - f else 0

/-- Working time at the anchor of a request, that of the mapping before being w (R59, R118). -/
def stepped (q : MapReq) (w : Int) : Int := q.step.getD (w + q.jump.getD 0)

/-- The time unit after the pending mapping q has taken effect at its anchor a (R45 to R50, R58). -/
def mapped (a : Nat) (q : MapReq) (t : TimeState) : TimeState :=
  let ask := q.f.getD t.fAsk
  let f := clampI (-slewClamp) slewClamp ask
  let p := phaseTerm f t.p q.p
  { t with
    map := ⟨a, stepped q (wtAt t.map a), f + p, (t.map.gen + 1) % 2 ^ 32, causeOf q.causes⟩
    past := t.map :: t.past, pend := none, fAsk := ask, f := f, p := p, clamp := ask ≠ f
    corr := q.corr.getD t.corr, corrOn := match q.corr with | some c => c ≠ 0 | none => t.corrOn }

/-- The first mapping of a list, newest first, whose anchor is at or before local time l; the last one when there is none. -/
def pieceAt : List Mapping → Nat → Mapping
  | [], _ => {}
  | [m], _ => m
  | m :: r, l => if m.la ≤ l then m else pieceAt r l

/-- The mapping in force at local time l: the pending one from its anchor on, whether or not MAPPING_ANCHOR has come (R45, R50). -/
def mapOf (t : TimeState) (l : Nat) : Mapping :=
  match t.pend with
  | some (a, q) => if a ≤ l then (mapped a q t).map else pieceAt (t.map :: t.past) l
  | none => pieceAt (t.map :: t.past) l

/-- Working time at local time l, under the mapping in force there (R45, R50). -/
def wtOf (s : State) (l : Nat) : Int := wtAt (mapOf s.time l) l

/-- Working time at a stamp in 2^-16 ns of local time (R45, R93). -/
def wtOfStamp (s : State) (x : Int) : Int :=
  let m := mapOf s.time (x / 65536).toNat
  m.wa + (x - m.la * 65536) * (2 ^ 44 + m.a) / 2 ^ 44

/-- Working time now. -/
def wtNow (s : State) : Int := wtOf s s.time.now

/-- The first local time at which working time is at or above w under the mapping. -/
def ltOf (m : Mapping) (w : Int) : Nat := (m.la + -((-(w - m.wa) * 2 ^ 28) / (2 ^ 44 + m.a))).toNat

/-- A second and a nanosecond in units of working time. -/
def wtNs : Int := 65536
def wtSec : Int := 65536000000000

/-- Whole nanoseconds of a working time. -/
def wholeNs (w : Int) : Int := w / 65536

/-- Short time (R53). -/
def shortTime (w : Int) : Nat := unsigned 32 (wholeNs w)

/-- The working time that a short time names (R54), now being w. -/
def ofShort (w : Int) (short : Nat) : Int := (wholeNs w + signed 32 (short + 2 ^ 32 - shortTime w)) * 65536

/-- The signed distance of a short time from now (R54). -/
def shortDist (w : Int) (short : Nat) : Int := signed 32 (short + 2 ^ 32 - shortTime w)

/-- A working time as full time (R51). -/
def fullTime (w : Int) : Rec :=
  let sec := (w / wtSec).toNat
  let sub := (w % wtSec).toNat
  [word (sec / 65536), packW [(16, sec), (16, sub % 65536)], word (sub / 65536)]

/-- Whether a full time carries a legal NS (R52). -/
def fullOk (r : Rec) : Bool := (rw r 2).toNat < 1000000000

/-- The working time that a full time names (R51). -/
def ofFull (r : Rec) : Int :=
  ((rw r 0).toNat * 65536 + fld r 1 31 16 : Nat) * wtSec + ((rw r 2).toNat * 65536 + fld r 1 15 0 : Nat)

/-- The k that a boundary of index 0 in the cycle now puts in force: that of no command executed in this cycle (R20). -/
def kDue (s : State) : Nat :=
  match s.beat.kCmd with
  | some (c, old) => if c = s.time.now then old else s.beat.kNext
  | none => s.beat.kNext

/-! ### Register storage -/

/-- The storage of a register. -/
def regGet (s : State) (off : Nat) : Word := tget (regReset off) s.regs off

/-- The storage of a register takes a value. -/
def regSet (off : Nat) (v : Word) (s : State) : State := { s with regs := tset (regReset off) s.regs off v }

/-- Field [hi:lo] of a register's storage. -/
def regFld (s : State) (off hi lo : Nat) : Nat := bits (regGet s off) hi lo

/-- Bit i of a register's storage. -/
def regBit (s : State) (off i : Nat) : Bool := bit (regGet s off) i

/-- The hardware writes a field of a register's storage. -/
def regPut (off hi lo v : Nat) (s : State) : State := regSet off (putBits (regGet s off) hi lo v) s

/-- The record of this cycle (R513). -/
def hwNow (s : State) : RegCycle := if s.hw.at0 = s.time.now then s.hw else { at0 := s.time.now }

/-- This cycle's note of a CNT field. -/
def cntNote (s : State) (off lo : Nat) : Option CntNote := (hwNow s).counts.find? (fun n => n.off = off && n.lo = lo)

def noteFlag (off i : Nat) (s : State) : State :=
  let h := hwNow s
  { s with hw := { h with flags := tset 0 h.flags off (tget 0 h.flags off ||| 2 ^ i) } }

def noteCount (off lo base k : Nat) (s : State) : State :=
  let h := hwNow s
  { s with hw := { h with counts := match cntNote s off lo with
    | some n => ⟨off, lo, n.base, n.add + k⟩ :: h.counts
    | none => ⟨off, lo, base, k⟩ :: h.counts } }

/-- The hardware sets a flag (R513). -/
def setFlag (off i : Nat) (s : State) : State := noteFlag off i (regPut off i i 1 s)

/-- The hardware counts k in a CNT field, which saturates (R508). -/
def countBy (off hi lo k : Nat) (s : State) : State :=
  noteCount off lo (regFld s off hi lo) k (regPut off hi lo (satAdd (hi + 1 - lo) (regFld s off hi lo) k) s)

/-- The hardware changes a field of class control, where no write of this cycle did (R513). -/
def regTake (off i v : Nat) (s : State) : State := if (tget 0 (hwNow s).wrote off).testBit i then s else regPut off i i v s

/-- The hardware counts one. -/
def count (off hi lo : Nat) (s : State) : State := countBy off hi lo 1 s

/-- The value of a field after a write of v to old (R506 to R508, R511); of a GO field, whether a command starts. field: lifecycle state Field. -/
def fieldAfter (acc : Access) (a : Alias) (field : Bool) (old v : Nat) : Nat :=
  match acc, a with
  | .rw, .direct | .rwl, .direct | .ptr, .direct => v
  | .rw, .set | .rwl, .set | .ptr, .set => old ||| v
  | .rw, .clear | .rwl, .clear | .ptr, .clear => old - (old &&& v)
  | .rw, .toggle | .rwl, .toggle | .ptr, .toggle => old ^^^ v
  | .w1c, .direct | .w1c, .clear => old - (old &&& v)
  | .lock, .direct | .lock, .set => old ||| v
  | .go, .direct | .go, .set => v
  | .go, _ => 0
  | .cnt, .direct => old - v
  | .rsvp, .direct => if field then old else v
  | _, _ => old

/-- A CNT field after a write of v: the count of the cycle's start, less v, and what the hardware counted in this cycle added (R508, R513). -/
def cntAfter (s : State) (reg : Nat) (f : RegField) (old v : Nat) : Nat :=
  match cntNote s reg f.lo with
  | some n => satAdd (f.hi + 1 - f.lo) (n.base - v) n.add
  | none => old - v

/-! ### BAR2 memory -/

/-- A byte of BAR2; a byte that nothing has written reads 0 (log entry 5). -/
def memGet (s : State) (a : Nat) : Byte := tget 0 s.mem a

/-- A byte of BAR2 is written. -/
def memSet (a : Nat) (b : Byte) (s : State) : State := { s with mem := tset 0 s.mem a b }

/-- Bytes written from address a on. -/
def memBytes (a : Nat) (bs : Bytes) (s : State) : State :=
  match bs with
  | [] => s
  | b :: r => memBytes (a + 1) r (memSet a b s)

/-- A 32-bit word of BAR2, its lowest byte at the lowest address (log entry 6). -/
def memWord (s : State) (a : Nat) : Word :=
  word ((memGet s a).toNat + (memGet s (a + 1)).toNat * 2 ^ 8 + (memGet s (a + 2)).toNat * 2 ^ 16 + (memGet s (a + 3)).toNat * 2 ^ 24)

/-- The four bytes of a word in BAR2's order (log entry 6). -/
def leBytes (w : Word) : Bytes := [w.extractLsb' 0 8, w.extractLsb' 8 8, w.extractLsb' 16 8, w.extractLsb' 24 8]

/-- A word of BAR2 is written. -/
def memPutWord (a : Nat) (w : Word) (s : State) : State := memBytes a (leBytes w) s

/-- Words written from address a on. -/
def memPutWords (a : Nat) (ws : Rec) (s : State) : State := memBytes a (ws.flatMap leBytes) s

/-- n words read from address a on. -/
def memWords (s : State) (a n : Nat) : Rec := (List.range n).map (fun i => memWord s (a + 4 * i))

/-- Whether a BAR2 byte offset is mapped (R472). -/
def bar2Mapped (a : Nat) : Bool :=
  a < 0x58000 || (0x60000 ≤ a && a < 0x70000) || (0x80000 ≤ a && a < 0x100000)

/-- The canonical form of BAR2: addresses rise, and no listed byte is 0. -/
def Memory.wf (m : List Host.Cell) : Bool := tabWf (0 : Byte) m

/-! ### The Contact Sheet's input queue -/

/-- Records waiting in the input queue (R455). -/
def csFill (s : State) : Nat := s.cs.queue.foldl (fun n g => n + g.payloads.length) 0

/-- The port, bus, pin or source number that a group's first payload names (R453, R457). -/
def csSource (kind : Nat) (p : BitVec 64) : Nat :=
  let f := fun (lo n : Nat) => p.toNat / 2 ^ lo % 2 ^ n
  match kind with
  | 4 | 14 | 15 => f 59 5
  | 5 => f 55 9
  | 6 => f 62 2
  | 7 => f 61 3
  | 8 => f 48 6
  | 10 => f 55 5
  | 11 => f 22 7
  | 12 => f 11 7
  | 13 => f 58 6
  | _ => 0

/-- The place of a group among those of its cycle: ascending KIND, then ascending number (R457). -/
def csRank (g : CsGroup) : Nat := g.kind * 512 + csSource g.kind (g.payloads.headD 0)

/-- A group joins the queue behind those of earlier cycles and those of its own cycle that go before it (R457). -/
def csInsert (g : CsGroup) : List CsGroup → List CsGroup
  | [] => [g]
  | h :: r => if h.at0 = g.at0 && csRank g < csRank h then g :: h :: r else h :: csInsert g r

/-- The losses of a group added to a gap (R453, R455). -/
def csLose (now : Nat) (o : Option CsGap) (g : CsGroup) : Option CsGap :=
  match o with
  | none => some ⟨g.payloads.length, now, g.kind ≠ 0x0F⟩
  | some x => some ⟨satAdd 32 x.lost g.payloads.length, x.first, x.other || g.kind ≠ 0x0F⟩

/-- Records in some groups. -/
def csCount (l : List CsGroup) : Nat := l.foldl (fun n g => n + g.payloads.length) 0

/-- A group is admitted whole, or lost: the queue and the groups lost (R455). -/
def csAdmit (v : List CsGroup × List CsGroup) (g : CsGroup) : List CsGroup × List CsGroup :=
  let fill := csCount v.1
  if fill + g.payloads.length ≤ 1024 && (g.kind ≠ 0x0F || fill < 768) then (v.1 ++ [g], v.2) else (v.1, v.2 ++ [g])

/-- The queue with a group more; the group that has entered the trace in part stays first. -/
def csQueued (s : State) (g : CsGroup) : List CsGroup :=
  match s.cs.mid, s.cs.queue with
  | true, h :: r => h :: csInsert g r
  | _, q => csInsert g q

/-- The groups lost in this cycle, and the gap before them. -/
def csPast (s : State) : List CsGroup × Option CsGap := if s.cs.lost.1 = s.time.now && s.cs.lost.2.1 ≠ [] then s.cs.lost.2 else ([], s.cs.gap)

/-- The queue, and the groups lost in this cycle, as the groups of a cycle are admitted in their order, whichever was offered first (R455, R457). -/
def csResettle (g : CsGroup) (s : State) : List CsGroup × List CsGroup :=
  let held := if s.cs.mid then s.cs.queue.take 1 else []
  let rest := if s.cs.mid then s.cs.queue.drop 1 else s.cs.queue
  (csInsert g ((csPast s).1.foldr csInsert (rest.filter (fun x => x.at0 = s.time.now)))).foldl csAdmit (held ++ rest.filter (fun x => x.at0 ≠ s.time.now), [])

/-- The count of records lost goes from that of some groups to that of others. -/
def csRecount (old new : List CsGroup) (s : State) : State :=
  if csCount old ≤ csCount new then countBy rCS_LOST 31 0 (csCount new - csCount old) s
  else regPut rCS_LOST 31 0 (regFld s rCS_LOST 31 0 + csCount new - csCount old) s

/-- A group is offered while the queue is near its limits. -/
def csSettle (g : CsGroup) (s : State) : State :=
  let p := csPast s
  let r := csResettle g s
  csRecount p.1 r.2 { s with cs := { s.cs with queue := r.1, gap := r.2.foldl (csLose s.time.now) p.2, lost := (s.time.now, r.2, p.2) } }

/-- A group is offered to the recorder: admitted whole, or lost (R455). Below 768 records every group of a cycle has room. -/
def csPushAt (kind lt : Nat) (ps : List (BitVec 64)) (s : State) : State :=
  let g : CsGroup := ⟨kind, lt, ps, s.time.now⟩
  if csFill s + ps.length ≤ 768 && (s.cs.lost.1 ≠ s.time.now || s.cs.lost.2.1 = []) then { s with cs := { s.cs with queue := csQueued s g } }
  else csSettle g s

/-- A group of the core cycle now. -/
def csPush (kind : Nat) (ps : List (BitVec 64)) (s : State) : State := csPushAt kind s.time.now ps s

/-! ### Events -/

/-- The coalescer's records after an occurrence of a pair routed to a ring; a record already open keeps its ring (R551, R554). -/
def coalesce (source cause detail ring now : Nat) (e : EventState) : EventState :=
  let hit := fun (o : OpenEvent) => o.source = source && o.cause = cause
  let bump := fun (l : List OpenEvent) => l.map (fun o => if hit o then { o with count := satAdd 16 o.count 1, last := now } else o)
  let bumpAll := fun (l : List OpenEvent) => l.map (fun o => if hit o then { o with count := o.count + 1, last := now } else o)
  let one : OpenEvent := ⟨source, cause, 1, now, now, detail, ring⟩
  if e.opened.any hit then { e with opened := bump e.opened }
  else if e.opened.length < 1024 then { e with opened := e.opened ++ [one] }
  else if e.suppressed.any hit then { e with suppressed := bumpAll e.suppressed }
  else { e with suppressed := e.suppressed ++ [one] }

/-- The occurrences that waited are coalesced, in their order; those of a source whose EN is clear are not (R550). -/
def settle (e : EventState) : EventState :=
  e.raised.foldl (fun e o => if o.route < 8 then e else coalesce o.source o.cause o.detail (o.route - 8) o.at0 e) { e with raised := [] }

/-- An occurrence waits with the others of its cycle; those of an earlier cycle are coalesced. -/
def occur (o : Occurrence) (e : EventState) : EventState :=
  let e1 := if e.raised.all (fun x => x.at0 = o.at0) then e else settle e
  { e1 with raised := e1.raised ++ [o] }

/-- An event occurs with a detail: an EVENT record in the Contact Sheet, and a place in the coalescer by the route of its source (R452, R550, R551). -/
def raiseDetailed (source cause detail : Nat) (s : State) : State :=
  let s1 := csPush 0x05 [pack64 [(9, source), (8, cause), (47, detail)]] s
  let route := regFld s1 (rROUTE (source / 8)) (4 * (source % 8) + 3) (4 * (source % 8))
  { s1 with ev := occur ⟨source, cause, detail % 2 ^ 64, route, s1.time.now⟩ s1.ev }

/-- An event occurs. The detail of a source whose chapter lays none out is a free value (log entry 9). -/
def raiseEvent (source cause : Nat) (detail : Option Nat) (s : State) : State :=
  match detail with
  | some d => raiseDetailed source cause d s
  | none => raiseDetailed source cause (freeVal s).1.toNat (freeVal s).2

/-- Events by group (R547), index and cause. -/
def portEvent (port i cause : Nat) (s : State) : State := raiseEvent (8 * port + i) cause none s
def timeEvent (i cause : Nat) (s : State) : State := raiseEvent (336 + i) cause none s
def canEvent (bus i cause : Nat) (s : State) : State := raiseEvent (224 + 4 * bus + i) cause none s
def linEvent (bus i cause : Nat) (s : State) : State := raiseEvent (320 + 2 * bus + i) cause none s
def fwEvent (i cause : Nat) (s : State) : State := raiseEvent (384 + i) cause none s
def cipherEvent (i cause : Nat) (s : State) : State := raiseEvent (400 + i) cause none s
/-- A network management or wake event; DETAIL holds the number of the segment or source concerned (R390, log entry 105). -/
def nmEvent (i who : Nat) (s : State) : State := raiseEvent (424 + i) 0 (some who) s
def systemEvent (i cause : Nat) (s : State) : State := raiseEvent (456 + i) cause none s
def systemEventD (i cause detail : Nat) (s : State) : State := raiseEvent (456 + i) cause (some detail) s

/-- The events that certain sources have raised in this cycle, and their records, are taken back. -/
def unraise (mine : Nat → Bool) (s : State) : State :=
  { s with
    ev := { s.ev with raised := s.ev.raised.filter (fun o => !(o.at0 = s.time.now && mine o.source)) }
    cs := { s.cs with queue := s.cs.queue.filter (fun g => !(g.kind = 5 && g.at0 = s.time.now && mine (csSource 5 (g.payloads.headD 0)))) } }

/-! ### Rings -/

/-- log2 of the slots of a ring (R472, R480, R515, R524, R553). -/
def ringBits : RingId → Nat
  | .req _ | .rsp _ | .can _ => 12
  | .evq _ => 8
  | .lin _ => 10
  | .trace => 14
  | .proof => 6

/-- Words of a slot (R515). -/
def ringSlotWords : RingId → Nat
  | .evq _ | .proof => 8
  | _ => 1

/-- Where a ring's slots start: BAR2 offset (R472); the Proof log has its own storage. -/
def ringBase : RingId → Nat
  | .req m => 0x8000 * m
  | .rsp m => 0x4000 + 0x8000 * m
  | .evq e => 0x40000 + 0x2000 * e
  | .lin n => 0x50000 + 0x1000 * n
  | .trace => 0x60000
  | .can n => 0x80000 + 0x4000 * n
  | .proof => 0

/-- The state of a mailbox. -/
def boxOf (s : State) (m : Nat) : Mailbox := tget {} s.mbx.box m

/-- A mailbox takes a new state. -/
def setBox (m : Nat) (b : Mailbox) (s : State) : State := { s with mbx := { s.mbx with box := tset {} s.mbx.box m b } }

/-- The pointers of a ring. -/
def ringOf (s : State) : RingId → Ring
  | .req m => (boxOf s m).req
  | .rsp m => (boxOf s m).rsp
  | .evq e => tget {} s.ev.ring e
  | .can n => tget {} s.rings (16 + n)
  | .lin n => tget {} s.rings (40 + n)
  | .trace => tget {} s.rings 48
  | .proof => s.bridge.proof

/-- A ring takes new pointers. -/
def setRing (id : RingId) (r : Ring) (s : State) : State :=
  match id with
  | .req m => setBox m { boxOf s m with req := r } s
  | .rsp m => setBox m { boxOf s m with rsp := r } s
  | .evq e => { s with ev := { s.ev with ring := tset {} s.ev.ring e r } }
  | .can n => { s with rings := tset {} s.rings (16 + n) r }
  | .lin n => { s with rings := tset {} s.rings (40 + n) r }
  | .trace => { s with rings := tset {} s.rings 48 r }
  | .proof => { s with bridge := { s.bridge with proof := r } }

/-- Pointers count modulo 2^(n+1) (R516). -/
def ringMod (id : RingId) : Nat := 2 ^ (ringBits id + 1)

/-- (a - b) modulo the ring's pointer range. -/
def ringDiff (id : RingId) (a b : Nat) : Nat := (a + ringMod id - b % ringMod id) % ringMod id

/-- Slots in use (R516). -/
def ringDepth (s : State) (id : RingId) : Nat := ringDiff id (ringOf s id).prod (ringOf s id).cons

/-- Free slots. -/
def ringFree (s : State) (id : RingId) : Nat := 2 ^ ringBits id - ringDepth s id

/-- Word w of the slot that a pointer addresses. -/
def ringSlotPut (id : RingId) (ptr w : Nat) (v : Word) (s : State) : State :=
  let slot := ptr % 2 ^ ringBits id
  match id with
  | .proof => { s with bridge := { s.bridge with proofMem := tset 0 s.bridge.proofMem (slot * 8 + w) v } }
  | _ => memPutWord (ringBase id + 4 * (slot * ringSlotWords id + w)) v s

/-- Words written into consecutive slots from a pointer on. -/
def ringWrite (id : RingId) (ptr : Nat) : Nat → Rec → State → State
  | _, [], s => s
  | i, v :: r, s => ringWrite id ptr (i + 1) r (ringSlotPut id (ptr + i / ringSlotWords id) (i % ringSlotWords id) v s)

/-- The words from a pointer of a ring on. -/
def ringWords (s : State) (id : RingId) (ptr n : Nat) : Rec :=
  (List.range n).map (fun i =>
    let slot := (ptr + i / ringSlotWords id) % 2 ^ ringBits id
    memWord s (ringBase id + 4 * (slot * ringSlotWords id + i % ringSlotWords id)))

/-- Slots that a packet of words takes. -/
def slotsFor (id : RingId) (ws : Rec) : Nat := (ws.length + ringSlotWords id - 1) / ringSlotWords id

/-- A packet lands in a ring with room and is published (R517). -/
def ringLand (id : RingId) (ws : Rec) (s : State) : State :=
  let r := ringOf s id
  let p := (r.prod + slotsFor id ws) % ringMod id
  let before := match r.landed with
    | some (c, q) => if c = s.time.now then q else r.prod
    | none => r.prod
  setRing id { r with prod := p, ends := r.ends ++ [p], landed := some (s.time.now, before) } (ringWrite id r.prod 0 ws s)

/-- A packet is offered while no gap is pending. -/
def ringOffer (id : RingId) (ws : Rec) (s : State) : State :=
  let r := ringOf s id
  if slotsFor id ws ≤ ringFree s id then ringLand id ws s
  else
    let wait := if ringSlotWords id = 1 then ringFree s id else 0
    setRing id { r with gap := some (s.time.now + wait, 1), drops := satAdd 32 r.drops 1, late := some (s.time.now, ws) } s

/-- Whether a packet offered now is dropped: a gap is pending, its marker was written in this cycle, or there is no room (R520, R523). -/
def ringDrops (id : RingId) (ws : Rec) (s : State) : Bool :=
  let r := ringOf s id
  r.gap.isSome || (match r.marker with | some (c, _, _) => decide (c = s.time.now) | none => false) || decide (ringFree s id < slotsFor id ws)

/-- The producer offers a packet: it lands, or it is dropped and opens or joins the pending gap, or joins the marker written in this cycle (R520, R521,
R523). The first-drop time is the cycle of the first word that finds the ring full, one word being written a cycle. -/
def ringPush (id : RingId) (ws : Rec) (s : State) : State :=
  let r := ringOf s id
  let drops := satAdd 32 r.drops 1
  match r.gap, r.marker with
  | some (f, n), _ => setRing id { r with gap := some (f, satAdd 32 n 1), drops := drops } s
  | none, some (c, p, n) =>
    if c = s.time.now then
      let k := satAdd 32 n 1
      setRing id { r with marker := some (c, p, k), drops := drops } (ringWrite id p 1 [word k] s)
    else ringOffer id ws s
  | none, none => ringOffer id ws s

/-- The gap marker of a ring (R521). -/
def gapMarker (id : RingId) (first n : Nat) : Rec :=
  [0xFFFFFFFF, word n] ++ split64 first ++ (if ringSlotWords id = 8 then [0, 0, 0, 0] else [])

/-- A pending gap closes in a cycle after the drop in which the marker has room (R521). -/
def ringCloseGap (id : RingId) (s : State) : State :=
  let r := ringOf s id
  match r.gap with
  | none => s
  | some (f, n) =>
    if f < s.time.now && slotsFor id (gapMarker id f n) ≤ ringFree s id then
      ringLand id (gapMarker id f n) (setRing id { r with gap := none, marker := some (s.time.now, r.prod, n) } s)
    else s

/-- The producer pointer as published: a packet of this cycle shows from the next one on (R517, R523). -/
def ringShown (s : State) (id : RingId) : Nat :=
  match (ringOf s id).landed with
  | some (c, q) => if c = s.time.now then q else (ringOf s id).prod
  | none => (ringOf s id).prod

/-- Whether a consumer pointer may take a value (R519). -/
def consOk (s : State) (id : RingId) (v : Nat) : Bool :=
  decide (ringDiff id v (ringOf s id).cons ≤ ringDiff id (ringShown s id) (ringOf s id).cons)

/-- A packet dropped in this very cycle, which alone opened the gap, takes the slots freed in it (R523). -/
def ringRescue (id : RingId) (s : State) : State :=
  let r := ringOf s id
  match r.late, r.gap with
  | some (c, ws), some (_, 1) =>
    if c = s.time.now && slotsFor id ws ≤ ringFree s id then ringLand id ws (setRing id { r with gap := none, drops := r.drops - 1, late := none } s) else s
  | _, _ => s

/-- The consumer pointer moves to v; packets whose end it passes no longer pend (R518). -/
def ringConsume (id : RingId) (v : Nat) (s : State) : State :=
  let r := ringOf s id
  let d := ringDiff id v r.cons
  ringRescue id (setRing id { r with cons := v % ringMod id, ends := r.ends.filter (fun e => d < ringDiff id e r.cons) } s)

end Sys2Proof.Machine
end

