-- ==== Sys2Proof/Machine/TimeOps.lean ====
section
/-!
DEFINITION. The operations on the mapping of working time, its corrections and holdover (R45 to R61), host capture (R63), and the TIO pins (R66 to R77).
-/
namespace Sys2Proof.Machine

/-! ### The mapping -/

/-- Request r merged into q: the last request prevails for each term (R48). -/
def mergeReq (q r : MapReq) : MapReq :=
  { f := r.f.or q.f, p := r.p.or q.p, step := if r.jump.isSome then none else r.step.or q.step
    jump := if r.step.isSome then none else r.jump.or q.jump, corr := r.corr.or q.corr, causes := q.causes ++ r.causes }

/-- A mapping is requested: it fixes an anchor, is merged into the pending mapping, or waits (R48). -/
def requestMapping (r : MapReq) (s : State) : State :=
  let t := s.time
  match t.pend with
  | none => { s with time := { t with pend := some (max (t.now + 64) (t.map.la + 1000), r) } }
  | some (a, q) =>
    if t.now + 64 ≤ a then { s with time := { t with pend := some (a, mergeReq q r) } }
    else { s with time := { t with wait := some (match t.wait with | none => r | some w => mergeReq w r) } }

/-- The payloads of a MAPPING group (R453): the mapping in force, a repeat or not. -/
def mappingPayload (s : State) (rep : Bool) : List (BitVec 64) :=
  let m := s.time.map
  let f := fullTime m.wa
  [pack64 [(48, (m.wa / wtSec).toNat), (16, fld f 1 15 0)], pack64 [(32, (rw f 2).toNat), (32, unsigned 32 m.a)],
   pack64 [(32, m.gen), (3, m.cause), (2, s.time.src), (2, s.time.domain), (16, s.time.epoch), (1, b2n rep), (8, 0)]]

/-- The events of a mapping that takes effect: rate clamp set or cleared (R47), step applied (R59). -/
def mappingEvents (was : Bool) (q : MapReq) (s : State) : State :=
  let s1 := if s.time.clamp && !was then timeEvent 36 0x01 s else if !s.time.clamp && was then timeEvent 36 0x02 s else s
  if q.step.isSome || q.jump.isSome then timeEvent 33 0 (setFlag rMAP_STAT 29 s1) else s1

/-- The pending mapping, its anchor being a, takes effect and is recorded; a request that waited fixes the next anchor (R48, R49). -/
def takeMapping (a : Nat) (q : MapReq) (s : State) : State :=
  let s1 := { s with time := mapped a q s.time }
  let s2 := mappingEvents s.time.clamp q (csPushAt 0x02 a (mappingPayload s1 false) s1)
  match s2.time.wait with
  | none => s2
  | some r => { s2 with time := { s2.time with pend := some (a + 1000, r), wait := none } }

/-- A phase correction c, in 2^-16 ns, is requested; above the jump threshold it is refused (R55, R56, R58). -/
def requestCorrection (c : Int) (s : State) : State :=
  if (s.time.thr : Int) * 65536 < c.natAbs then timeEvent 32 0 (count rJUMP 31 16 (setFlag rMAP_STAT 28 s))
  else requestMapping { p := some c.sign, corr := some (c * 2 ^ 28), causes := [2] } s

/-- Whether a correction is refused (R56). -/
def correctionRefused (c : Int) (s : State) : Bool := decide ((s.time.thr : Int) * 65536 < c.natAbs)

/-- Working time enters holdover (R60). -/
def enterHoldover (s : State) : State :=
  if s.time.hold then s
  else timeEvent 34 0 (requestMapping { p := some 0, corr := some 0, causes := [5] }
    { s with time := { s.time with hold := true, corr := 0, corrOn := false } })

/-- A source has returned: holdover is left (R61). -/
def leaveHoldover (s : State) : State :=
  if s.time.hold then timeEvent 35 0 (requestMapping { causes := [5] } { s with time := { s.time with hold := false } }) else s

/-- The pending correction has reached zero (R58); where a newer one is on its way to its anchor, its phase term stands. -/
def slewEnd (s : State) : State :=
  if s.time.corrOn && s.time.corr = 0 then
    let s1 := { s with time := { s.time with corrOn := false } }
    let newer := (match s.time.pend with | some (_, q) => q.corr.isSome | none => false)
      || (match s.time.wait with | some q => q.corr.isSome | none => false)
    if newer then s1 else requestMapping { p := some 0, causes := [3] } s1
  else s

/-! ### Host capture -/

/-- Local and working time are captured in one cycle (R63, R65). -/
def doCapture (s : State) : State :=
  timeEvent 45 0 { s with time := { s.time with
    cap := none, capSeq := (s.time.capSeq + 1) % 256, capLt := s.time.now, capWt := fullTime (wtNow s) } }

/-- A pending capture completes at its trigger (R63). In the cycle of a GO the completion is that of the capture which the GO replaced, and the new one waits
(R509). -/
def captureOn (trig : Nat) (s : State) : State :=
  if s.time.cap.isSome && s.time.capGo.1 = s.time.now + 1 then
    if s.time.capGo.2 = some trig then
      let s1 := doCapture s
      { s1 with time := { s1.time with cap := s.time.cap, capGo := (s.time.now + 1, none) } }
    else s
  else if s.time.cap = some trig then doCapture s else s

/-- GO of CAP_CTRL with TRIG as it stands after the write (R63, R64, R509). A capture pending keeps the trigger that its GO took: TRIG written without GO
does not move it (the model's choice, log entry 96). -/
def startCapture (s : State) : State :=
  match regFld s rCAP_CTRL 2 1 with
  | 0 => doCapture s
  | trig => { s with time := { s.time with cap := some trig, capGo := (s.time.now + 1, s.time.cap) } }

/-! ### The TIO pins -/

/-- MODE of TIO.CFGn. -/
def cfgMode (s : State) (n : Nat) : Nat := regFld s (rTIO n 0x00) 31 29

/-- A pin: in the cycle after the inactive edge it waited for, the mode in CFG has taken it, and an arming has ended without DONE (R74). -/
def pinOf (s : State) (n : Nat) : Pin :=
  let p := tget {} s.pins n
  match p.pulse with
  | some (e, _) => if p.take && e < s.time.now then { p with mode := cfgMode s n, take := false, arming := none, pulse := none } else p
  | none => p

def setPin (n : Nat) (p : Pin) (s : State) : State := { s with pins := tset {} s.pins n p }

/-- Whether an encoding of MODE is reserved (R66). -/
def modeReserved (m : Nat) : Bool := m = 3 || m = 7

/-- CFG_ERR of a pin, with its event (R66, R68, R79). -/
def pinCfgErr (n : Nat) (s : State) : State := timeEvent n 0x05 (setFlag (rTIO n 0x14) 28 s)

/-- A pin whose arming a ends in the cycle now. -/
def pinUnarmed (now : Nat) (a : Arming) (p : Pin) : Pin := { p with arming := none, ended := some (now, a.pol) }

/-- Whether an arming ends with the pulse that has just completed, having issued all its pulses (R68, R72). -/
def armingDone (a : Arming) : Bool := 0 < a.issued && (a.period = 0 || (a.count ≠ 0 && a.count ≤ a.issued))

/-- The pulse in progress reaches its inactive edge, when its cycle has come; a mode that waits for it takes the pin in the next cycle (R69,
R72, R74). -/
def pulseEnd (n : Nat) (s : State) : State :=
  let p := pinOf s n
  match p.pulse with
  | none => s
  | some (e, _) =>
    if s.time.now < e || p.take then s
    else
      let s1 := setPin n { p with pulse := none } s
      match p.arming with
      | none => s1
      | some a =>
        if armingDone a then timeEvent n 0x04 (setFlag (rTIO n 0x14) 27 (setPin n (pinUnarmed s.time.now a { p with pulse := none }) s1))
        else if a.stop then setPin n (pinUnarmed s.time.now a { p with pulse := none }) s1
        else s1

/-- The limits of R68 on PERIOD and WIDTH. -/
def armLimits (period width : Nat) : Bool := (period = 0 || 16 ≤ period) && 8 ≤ width && (period = 0 || width + 8 ≤ period)

/-- The first pulse index whose instant start + k × period is at or after w (R71, R75). -/
def firstPulse (start w : Int) (period : Nat) : Nat :=
  if w ≤ start then 0 else ((w - start + period * 65536 - 1) / (period * 65536)).toNat

/-- ARM: the pin latches its values and converts START, or refuses (R67, R68, R71, R73). A late single pulse raises cause 0x02 alone (the model's choice,
log entry 96). -/
def armPin (n : Nat) (s0 : State) : State :=
  let s := pulseEnd n s0
  let p := pinOf s n
  let v := fun d => (regGet s (rTIO n d)).toNat
  if p.mode ≠ 2 || p.take || !armLimits (v 0x08) (v 0x0C) then pinCfgErr n s
  else
    let w := wtNow s
    let a : Arming := ⟨ofShort w (v 0x04), v 0x08, v 0x0C, v 0x10, regBit s (rTIO n 0x00) 28, 0, 0, false, false⟩
    if 0 < shortDist w (v 0x04) then setPin n { p with arming := some a } s
    else
      let s1 := timeEvent n 0x02 (setFlag (rTIO n 0x14) 30 s)
      if a.period = 0 then setPin n (pinUnarmed s.time.now a p) (setFlag (rTIO n 0x14) 29 s1)
      else setPin n { p with arming := some { a with k := firstPulse a.start (w + 1000 * wtNs) a.period } } s1

/-- DISARM, or a mode change while armed: no further active edge; the arming ends with a pulse in progress, or at once (R72, R74). -/
def stopPin (n : Nat) (s0 : State) : State :=
  let s := pulseEnd n s0
  let p := pinOf s n
  match p.arming, p.pulse with
  | some a, some _ => setPin n { p with arming := some { a with stop := true } } s
  | some a, none => setPin n (pinUnarmed s.time.now a p) s
  | none, _ => s

/-- DISARM is written: it completes at once, or with the pulse in progress (R72, R506, R509). -/
def disarmPin (n : Nat) (s : State) : State :=
  let s1 := stopPin n s
  match (pinOf s1 n).arming with
  | some a => setPin n { pinOf s1 n with arming := some { a with disarm := true } } s1
  | none => s1

/-- CFG holds a new MODE, the old one being old (R66, R74). -/
def modeWritten (n old : Nat) (s : State) : State :=
  if cfgMode s n = old then s
  else
    let s1 := stopPin n s
    let p := pinOf s1 n
    let s2 := setPin n (if p.pulse.isSome then { p with take := true } else { p with mode := cfgMode s n }) s1
    if modeReserved (cfgMode s n) then pinCfgErr n s2 else s2

/-- The next active edge of a pin, as working time; none when none is due later (R69, R72). -/
def nextEdge (p : Pin) : Option Int :=
  match p.arming with
  | none => none
  | some a => if a.stop || armingDone a then none else some (a.start + (a.k : Int) * a.period * wtNs)

/-- Working time reaches the next active edge of a pin: the pulse starts, and its inactive edge is fixed in local time (R69, R72). An active edge that a
new arming brings while a pulse of the replaced one still runs goes on with that pulse to the new inactive edge (the model's choice, log entry 96). -/
def activeEdge (n : Nat) (s0 : State) : State :=
  let s := pulseEnd n s0
  let p := pinOf s n
  match nextEdge p, p.arming with
  | some w, some a =>
    if wtNow s < w then s
    else
      let stop := ltOf (mapOf s.time s.time.now) (w + a.width * wtNs)
      count (rTIO n 0x18) 31 0
        (setPin n { p with pulse := some (stop, a.pol), arming := some { a with k := a.k + 1, issued := a.issued + 1 } } s)
  | _, _ => s

/-- A forward step passes over active edges of a pin: they are not issued (R75). -/
def skipPulses (n : Nat) (s : State) : State :=
  let p := pinOf s n
  match nextEdge p, p.arming with
  | some w, some a =>
    if wtNow s ≤ w then s
    else
      let s1 := timeEvent n 0x03 (setFlag (rTIO n 0x14) 29 s)
      if a.period = 0 then setPin n (pinUnarmed s.time.now a p) s1
      else setPin n { p with arming := some { a with k := firstPulse a.start (wtNow s) a.period } } s1
  | _, _ => s

/-- Every armed pin answers a step of working time (R75). -/
def skipAll (s : State) : State := (List.range 32).foldl (fun s n => skipPulses n s) s

/-- Whether an edge qualifies in a mode (R66). -/
def edgeQualifies (mode : Nat) (rising : Bool) : Bool :=
  mode = 6 || (mode = 4 && rising) || (mode = 5 && !rising)

/-- An edge at a capture pin; width is the length of the pulse it opens, in ns. Both edges of a pulse shorter than 4 ns are ignored (R76, R77). -/
def captureEdge (n : Nat) (rising : Bool) (width : Nat) (s : State) : State :=
  let p := pinOf s n
  if p.mode < 4 then s
  else if p.glitch = some s.time.now then setPin n { p with glitch := none } s
  else if width < 4 then setPin n { p with glitch := some (s.time.now + width) } s
  else if !edgeQualifies p.mode rising then s
  else if (match p.lastCap with | some c => decide (s.time.now < c + 16) | none => false) then count (rTIO n 0x1C) 31 0 s
  else
    let short := shortTime (wtNow s)
    let seq := (p.capSeq + 1) % 65536
    timeEvent n 0x01 (csPush 0x04 [pack64 [(5, n), (1, b2n (!rising)), (16, seq), (10, 0), (32, short)]]
      (setPin n { p with capSeq := seq, capLt := s.time.now, capShort := short, lastCap := some s.time.now } s))

/-- The level a pin drives: none for high impedance (R66, R67, R74). -/
def pinLevel (s : State) (n : Nat) : Option Bool :=
  let p := pinOf s n
  match p.mode, p.pulse, p.arming with
  | _, some (e, pol), a => some (if s.time.now < e then !pol else match a with | some b => b.pol | none => pol)
  | 1, none, _ => some (regBit s (rTIO n 0x00) 27)
  | 2, none, some a => some a.pol
  | 2, none, none => some (match p.ended with
      | some (t, pol) => if s.time.now ≤ t then pol else regBit s (rTIO n 0x00) 28
      | none => regBit s (rTIO n 0x00) 28)
  | _, none, _ => none

end Sys2Proof.Machine
end

