-- ==== Sys2Proof/Machine/NetTimeOps.lean ====
section
/-!
DEFINITION. Network time: the configuration of slots and ports, the source of working time, its loss, holdover and the hot-standby switch
(R82 to R112), and PAIR_TIME (R113 to R119).
-/
namespace Sys2Proof.Machine

/-! ### Configuration -/

/-- The domain record of a slot by default, words 5 to 10 of R566 (R82). -/
def slotDefault (i : Nat) : Rec :=
  [packW [(2, 0), (7, i), (1, 0), (8, 255), (8, 248), (6, 0)], packW [(8, 248), (8, 248), (4, unsigned 4 (-3)), (4, 0), (3, 7), (5, 0)],
   packW [(8, 3), (8, 3), (16, 0)], 0, 0, 0]

def slotOf4 (s : State) (i : Nat) : Slot := tget {} s.net.slot i
def setSlot (i : Nat) (v : Slot) (s : State) : State := { s with net := { s.net with slot := tset {} s.net.slot i v } }

/-- Words 5 to 10 of the domain record in force. -/
def slotCfg (s : State) (i : Nat) : Rec := if (slotOf4 s i).cfg = [] then slotDefault i else (slotOf4 s i).cfg

def slotMode (c : Rec) : Nat := fld c 0 31 30
def slotDomain (c : Rec) : Nat := fld c 0 29 23
def slotGmCap (c : Rec) : Bool := flag c 0 22
def slotSyncLog (c : Rec) : Int := signed 4 (fld c 1 15 12)
def slotAnnLog (c : Rec) : Int := signed 4 (fld c 1 11 8)
def slotTc (c : Rec) : Nat := fld c 1 7 5
def slotTwoStep (c : Rec) (port : Nat) : Bool := flag c 5 port

/-- The role that the record gives a port in external mode (R566). -/
def extRole (c : Rec) (port : Nat) : Nat := nbits (cat64 (rw c 3) (rw c 4)) (2 * port + 1) (2 * port)

def slotEnabled (s : State) (i : Nat) : Bool := slotMode (slotCfg s i) ≠ 0

/-- 2^log seconds in ns (R82, R86). -/
def logInterval (l : Int) : Nat := if l < 0 then 1000000000 / 2 ^ l.natAbs else 1000000000 * 2 ^ l.natAbs

/-- Whether BMCA, which chooses roles for ports 0 to 19 only (R90), gives the slot a slave port. -/
def slotHasSlave (v : Slot) : Bool := (v.roles.take 20).any (fun r => r = 1)

/-- Whether a slot is grandmaster of its domain (R82, R84): it may originate time, and BMCA has chosen it; in external mode, it has no slave port
(log entry 43). -/
def isGrandmaster (s : State) (i : Nat) : Bool :=
  let c := slotCfg s i
  slotGmCap c && (match slotMode c with
    | 1 => (slotOf4 s i).isGm
    | 2 => (List.range 28).all (fun p => extRole c p ≠ 1)
    | _ => false)

/-- The role of a port in a slot in force (R82, R90): 0 disabled, 1 slave, 2 master, 3 passive. -/
def roleOf (s : State) (i port : Nat) : Nat :=
  let c := slotCfg s i
  let v := slotOf4 s i
  match slotMode c with
  | 2 => extRole c port
  | 1 => if 20 ≤ port then (if port < 28 && (slotHasSlave v || isGrandmaster s i) then 2 else 0) else v.roles.getD port 0
  | _ => 0

/-- The slave port of a slot. -/
def slavePort (s : State) (i : Nat) : Option Nat := (List.range 28).find? (fun p => roleOf s i p = 1)

/-- The master ports of a slot. -/
def masterPorts (s : State) (i : Nat) : List Nat := (List.range 28).filter (fun p => roleOf s i p = 2)

/-- The enabled slot with a domain number. -/
def slotByDomain (s : State) (d : Nat) : Option Nat :=
  (List.range 4).find? (fun i => slotEnabled s i && slotDomain (slotCfg s i) = d)

def portTimeOf (s : State) (p : Nat) : PortTime := tget {} s.net.port p
def setPortTime (p : Nat) (v : PortTime) (s : State) : State := { s with net := { s.net with port := tset {} s.net.port p v } }

/-- Words 4 to 9 of the TIME port command by default (R86, R88, R89). -/
def portTimeDefault (p : Nat) : Rec := [packW [(14, 0), (1, 0), (8, 9), (4, 0), (5, p)], 0, 0, 0, 800, 0]
def portTimeCfg (s : State) (p : Nat) : Rec := if (portTimeOf s p).cfg = [] then portTimeDefault p else (portTimeOf s p).cfg
def ptPdelayLog (c : Rec) : Int := signed 4 (fld c 0 8 5)
def ptAllowedLost (c : Rec) : Nat := fld c 0 16 9
def ptStoredEn (c : Rec) : Bool := flag c 0 17
def ptStored (c : Rec) : Int := fld c 5 13 0 * 65536
def ptThresh (c : Rec) : Int := fld c 4 13 0 * 65536

/-- Whether the port takes the PHY constants of R93. -/
def hasPhyConst (p : Nat) : Bool := p < 12 || p = 18 || p = 19

/-- The offset that deterministic-latency compensation adds to the stamps of a port, unless it has failed (R139). -/
def dlcAdd (s : State) (p : Nat) : Int :=
  let v := tget {} s.ports.port p
  if p < 12 && !v.dlcFault then v.dlcOffset else 0

/-- What brings an ingress and an egress stamp to the reference plane, in 2^-16 ns: the constants loaded at enable, those of R93 and the offset of R139
(R15, R91, R94; log entry 10). -/
def ingressAdd (s : State) (p : Nat) : Int :=
  (if hasPhyConst p then signed 32 (rw (portTimeCfg s p) 1).toNat + signed 32 (rw (portTimeCfg s p) 3).toNat else 0) + dlcAdd s p
    - (tget {} s.ports.port p).inDelay
def egressAdd (s : State) (p : Nat) : Int :=
  (if hasPhyConst p then signed 32 (rw (portTimeCfg s p) 2).toNat else 0) + dlcAdd s p + (tget {} s.ports.port p).egDelay

/-- The ingress stamp of a frame that a port has held whole for tag verification for some ns since its start-of-frame mark (R94). -/
def ingressStamp (s : State) (p held : Nat) : Int := ((s.time.now : Int) - held) * 65536 + ingressAdd s p

/-- A counter of R112, by its place in that order. -/
def countNet (slot port i : Nat) (s : State) : State :=
  let k := (slot * 32 + port) * 16 + i
  { s with net := { s.net with counts := tset 0 s.net.counts k (satAdd 32 (tget 0 s.net.counts k) 1) } }
def netCount (s : State) (slot port i : Nat) : Nat := tget 0 s.net.counts ((slot * 32 + port) * 16 + i)

/-- A gPTP frame is dropped and counted in the port's GPTP_DROP, one counter of the port that the status of every slot shows (R81, R90, R112; log
entry 11). -/
def countGptpDrop (port : Nat) (s : State) : State := countNet 0 port 8 s

/-- Whether a counter of R112 belongs to the port alone: Pdelay answered, lost responses, GPTP_DROP (R86, R88, R81). It stands in slot 0's place. -/
def portCounter (i : Nat) : Bool := i = 5 || i = 6 || i = 8

/-! ### Link delay -/

/-- The mean of a list of integers, rounded toward minus infinity (of delay samples and offsets, R87, R106: the model's choice, log entry 98). -/
def meanI (l : List Int) : Int := if l = [] then 0 else l.foldl (· + ·) 0 / (l.length : Int)

/-- The link delay of a port in force at an ingress stamp (R87, R89, R90). -/
def delayOf (s : State) (p : Nat) : Int :=
  if 20 ≤ p then (if ptStoredEn (portTimeCfg s p) then ptStored (portTimeCfg s p) else 0) else (portTimeOf s p).dUp

/-- Whether a port's peer delay lets it be asCapable (R88, R89); a loop stops it (R647). A stored delay above the threshold does not: R88 prevails over R89's
'at link up' (the model's choice, log entry 112). -/
def capableNow (s : State) (p : Nat) : Bool :=
  let v := portTimeOf s p
  let c := portTimeCfg s p
  (v.samples ≠ [] || ptStoredEn c) && decide (v.dUp ≤ ptThresh c) && decide (v.lost < ptAllowedLost c) && !v.multi && (tget {} s.ports.port p).loop = 0

/-! ### The source of working time -/

/-- Whether a slot drives working time. -/
def drives (s : State) (i : Nat) : Bool := s.time.src = 1 && s.time.domain = i

/-- The other slot of the hot-standby pair. -/
def otherOf (s : State) (i : Nat) : Option Nat :=
  match s.net.pair with
  | some (a, b) => if i = a then some b else if i = b then some a else none
  | none => none

/-- The standby residual of a slot in whole nanoseconds, when 8 offsets have been taken (R106); a slot that is grandmaster has none (R84). -/
def residualOf (s : State) (i : Nat) : Option Int :=
  let v := slotOf4 s i
  if v.valid && v.offsets.length = 8 && !isGrandmaster s i then some (wholeNs (meanI v.offsets)) else none

/-- The pair switches to slot i with its residual (R85, R107, R108). -/
def switchTo (i : Nat) (res : Int) (s : State) : State :=
  let s1 := { s with time := { s.time with src := 1, domain := i, corr := 0, corrOn := false } }
  timeEvent 42 0 (requestCorrection (res * 65536) (requestMapping { p := some 0, corr := some 0, causes := [6] } s1))

/-- The host's switch to slot j (R84, R109): without effect where j drives already, refused where j is grandmaster. Without a valid residual of j it requests
no correction. -/
def hostTo (j : Nat) (s : State) : State :=
  if s.time.src ≠ 1 || s.time.domain = j then s
  else if isGrandmaster s j then timeEvent (38 + j) 0x07 s
  else switchTo j ((residualOf s j).getD 0) s

/-- The pair switches in hardware; a host command of the same cycle acts after it, though its boundary has come first (R107, R109). -/
def hardSwitch (i : Nat) (res : Int) (s : State) : State :=
  match s.net.hostDone with
  | some (c, j) => if c = s.time.now then hostTo j (switchTo i res s) else switchTo i res s
  | none => switchTo i res s

/-- The source of a slot is lost with a cause: the pair switches, or working time enters holdover (R103, R104, R107, R110, R111). A standby without a valid
residual is not switched to, nor later when it has one (the model's choice, log entry 98). -/
def sourceLost (i cause : Nat) (s : State) : State :=
  let v := slotOf4 s i
  let s1 := timeEvent (38 + i) cause (setSlot i { v with valid := false, offsets := [], residualSince := none } s)
  if !(v.valid && drives s1 i) then s1
  else
    match otherOf s1 i with
    | none => enterHoldover s1
    | some j =>
      match residualOf s1 j with
      | some r => hardSwitch j r s1
      | none => enterHoldover s1

/-! ### The best master (R80, R82, R84, R111) -/

/-- Whether a list of numbers comes before another, the first difference deciding. -/
def lexLt : List Nat → List Nat → Bool
  | _, [] => false
  | [], _ :: _ => true
  | a :: r, b :: t => decide (a < b) || (a = b && lexLt r t)

/-- The system identity of a grandmaster, in the order of comparison (IEEE 802.1AS-2020, log entry 43). -/
def gmKey (g : GmInfo) : List Nat := [g.priority1, g.clockClass, g.accuracy, g.variance, g.priority2, g.identity]

def ownClock : Nat := Config.clockIdentity.toNat

/-- What a slot says of itself: the attributes of its record, and in holdover the holdover clockClass (R82, R104); one that may not originate time is
never the better one. -/
def ownGm (s : State) (i : Nat) : GmInfo :=
  let c := slotCfg s i
  { priority1 := if slotGmCap c then fld c 0 21 14 else 255
    clockClass := if s.time.hold then fld c 1 23 16 else fld c 1 31 24, priority2 := fld c 0 13 6, identity := ownClock }

/-- Whether a port takes part in BMCA: it is UP and asCapable (R88, R90). -/
def bmcaPort (s : State) (p : Nat) : Bool := p < 20 && (tget {} s.ports.port p).st = .up && (portTimeOf s p).asCap

/-- The Announce that a port of a slot holds. -/
def infoOf (s : State) (i p : Nat) : Option PortInfo := if bmcaPort s p then tget none s.net.announce (i * 32 + p) else none

/-- The vectors of an Announce as sent, and as the path through port p. -/
def infoVec (v : PortInfo) : List Nat := gmKey v.gm ++ [v.steps, v.srcClock, v.srcPort]
def pathVec (p : Nat) (v : PortInfo) : List Nat := gmKey v.gm ++ [v.steps + 1, v.srcClock, v.srcPort, p + 1]

/-- The port with the best path and its Announce; none when the slot itself is best. -/
def bestPort (s : State) (i : Nat) : Option (Nat × PortInfo) :=
  (List.range 20).foldl (fun b p =>
    match infoOf s i p with
    | none => b
    | some v =>
      let than := match b with | some (q, w) => pathVec q w | none => gmKey (ownGm s i) ++ [0, ownClock, 0, 0]
      if lexLt (pathVec p v) than then some (p, v) else b) none

/-- The role that BMCA gives a port below 20: disabled, slave, master or passive. -/
def bmcaRole (s : State) (i : Nat) (best : Option (Nat × PortInfo)) (p : Nat) : Nat :=
  if !bmcaPort s p then 0
  else match best with
    | none => 2
    | some (q, b) =>
      if p = q then 1
      else match infoOf s i p with
        | none => 2
        | some v => if lexLt (gmKey b.gm ++ [b.steps + 1, ownClock, p + 1]) (infoVec v) then 2 else 3

/-- The grandmaster that a slot follows is that of its slave port's Announce; another identity than before is a loss of the source (R103, R111, R112). -/
def takeGm (i : Nat) (v : PortInfo) (s : State) : State :=
  let o := slotOf4 s i
  let s1 := if o.gmId = 0 || o.gmId = v.gm.identity then s
    else if o.valid then sourceLost i 0x01 s else timeEvent (38 + i) 0x01 s
  setSlot i { slotOf4 s1 i with gmId := v.gm.identity, steps := v.steps } s1

/-- BMCA gives the ports of a slot their roles; a slot that becomes grandmaster is valid no more, and the source slot sends working time into holdover (R82,
R84, R90, R106, R111). -/
def runBmca (i : Nat) (s : State) : State :=
  if slotMode (slotCfg s i) ≠ 1 || !fwRuns s then s
  else
    let v := slotOf4 s i
    let best := bestPort s i
    let roles := (List.range 20).map (bmcaRole s i best)
    let gm := slotGmCap (slotCfg s i) && best.isNone
    let s1 := setSlot i { v with roles := roles, isGm := gm } s
    let s2 := if roles ≠ v.roles && !(v.roles = [] && roles.all (fun r => r = 0)) then timeEvent (38 + i) 0x06 s1 else s1
    let s3 := match best with | some (_, b) => takeGm i b s2 | none => s2
    if gm && !v.isGm then
      let s4 := setSlot i { slotOf4 s3 i with valid := false, offsets := [], residualSince := none } s3
      if drives s4 i then timeEvent (38 + i) 0x07 (enterHoldover s4) else s4
    else s3

/-- BMCA over every slot. -/
def runBmcaAll (s : State) : State := (List.range 4).foldl (fun s i => runBmca i s) s

/-- A port forgets the Announces that it holds. -/
def forgetAnnounces (p : Nat) (s : State) : State :=
  { s with net := { s.net with announce := (List.range 4).foldl (fun l i => tset none l (i * 32 + p) none) s.net.announce } }

/-- A port stops being asCapable: each enabled slot is told, and a slot whose slave port it is loses its source (R88, R103, R111). -/
def loseAsCapable (p : Nat) (s : State) : State :=
  let v := portTimeOf s p
  if !v.asCap then s
  else
    runBmcaAll (forgetAnnounces p ((List.range 4).foldl (fun s i =>
      if !slotEnabled s i then s
      else if slavePort s i = some p && (slotOf4 s i).valid then sourceLost i 0x04 s
      else timeEvent (38 + i) 0x04 s) (setPortTime p { v with asCap := false } s)))

/-- A port's asCapable is judged again (R88, R111). -/
def judgeAsCapable (p : Nat) (s : State) : State :=
  let v := portTimeOf s p
  if capableNow s p then
    if v.asCap then s
    else runBmcaAll ((List.range 4).foldl (fun s i => if slotEnabled s i then timeEvent (38 + i) 0x05 s else s)
      (setPortTime p { v with asCap := true } s))
  else loseAsCapable p s

/-- A port of peer delay comes up: a stored delay makes it asCapable at once (R89). -/
def timeLinkUp (p : Nat) (s : State) : State :=
  let c := portTimeCfg s p
  let v := { portTimeOf s p with samples := [], turns := [], nrr := 0, lost := 0, multi := false, responder := none, reqT1 := none,
                                 dUp := if ptStoredEn c then ptStored c else 0, pdelayAsk := none }
  if p < 20 then judgeAsCapable p (setPortTime p v s) else s

/-- A port leaves UP: asCapable is lost, the measurements end and the intervals that the neighbour had asked for are forgotten (R135). -/
def timeLinkDown (p : Nat) (s : State) : State :=
  let s1 := loseAsCapable p s
  let s2 := setPortTime p { portTimeOf s1 p with samples := [], turns := [], reqT1 := none, responder := none, pdelayAsk := none } s1
  let off := fun (l : Tab (Option Int)) => (List.range 4).foldl (fun l i => tset none l (i * 32 + p) none) l
  { s2 with net := { s2.net with syncAsk := off s2.net.syncAsk, announceAsk := off s2.net.announceAsk } }

/-- The source of working time changes (R85): p becomes 0, the pending correction is discarded, f keeps its value; free-running clears HOLD without an
event. -/
def changeSource (src domain : Nat) (s : State) : State :=
  requestMapping { p := some 0, corr := some 0, causes := [6] }
    { s with time := { s.time with src := src, domain := domain, corr := 0, corrOn := false, hold := s.time.hold && src ≠ 0 } }

/-- The pair goes back to slot A once it has been valid with a valid residual for the hold-off (R109). -/
def hotRevert (s : State) : State :=
  match s.net.pair with
  | none => s
  | some (a, _) =>
    match residualOf s a, (slotOf4 s a).residualSince with
    | some r, some since =>
      if s.net.revert && s.time.src = 1 && s.time.domain ≠ a && since + s.net.holdOff * 1000000000 ≤ s.time.now then hardSwitch a r s else s
    | _, _ => s

/-- The host's switch command acts at a boundary (R109). -/
def hostSwitch (s : State) : State :=
  match s.net.hostSwitch with
  | none => s
  | some j => hostTo j { s with net := { s.net with hostSwitch := none, hostDone := some (s.time.now, j) } }

/-! ### The servo -/

/-- (rr - 1) × 2^41 from the offset of the grandmaster's rate received and the neighbour's rate ratio, truncated (R96). -/
def rateRatio (csro nrr : Int) : Int := ((2 ^ 41 + csro) * (2 ^ 41 + nrr) - 2 ^ 82).tdiv (2 ^ 41)

/-- rr × x, truncated toward minus infinity (R95). -/
def scaleRr (csro nrr x : Int) : Int := (2 ^ 41 + csro) * (2 ^ 41 + nrr) * x / 2 ^ 82

/-- The grandmaster time at an ingress stamp less the working time there (R102). h: the Sync with the delay and nrr in force at its stamp; m: the message
that carries its origin and correction. -/
def syncOffset (h : HeldSync) (m : SyncMsg) (s : State) : Int :=
  m.origin + m.correction + scaleRr m.csro h.nrr h.delay - wtOfStamp s h.stamp

/-- A valid Sync of a slot (R102, R103, R106). The firmware computes offset and rate; for the source slot it asks for the frequency term of the rate and a
correction of the offset (log entry 12). The receipt timeout counts from the ingress stamp in hardware, with or without the firmware. -/
def servoSync (i : Nat) (h : HeldSync) (m : SyncMsg) (s : State) : State :=
  let v := { slotOf4 s i with valid := true, lastSync := (h.stamp / 65536).toNat }
  if !fwRuns s then setSlot i v s
  else
    let off := syncOffset h m s
    let rate := rateRatio m.csro h.nrr
    let offs := (off :: v.offsets).take 8
    let s1 := setSlot i { v with
      offset := off, rate := rate, offsets := offs
      residualSince := if offs.length = 8 then v.residualSince.or (some s.time.now) else none } s
    if drives s1 i then
      requestCorrection off (requestMapping { f := some (rate * 8), causes := [1] } (leaveHoldover s1))
    else s1

/-! ### PAIR_TIME -/

/-- One step of the CRC-8 of R114 and R495 over a byte: polynomial 0x07. -/
def crc8Byte (c b : Nat) : Nat :=
  (List.range 8).foldl (fun x _ => if 128 ≤ x then (x * 2 ^^^ 0x107) % 256 else x * 2 % 256) (c ^^^ b)

/-- CRC-8 over bytes from an initial value. -/
def crc8 (init : Nat) (bs : Bytes) : Nat := bs.foldl (fun c b => crc8Byte c b.toNat) init

/-- The CRC of a code frame, over the 72 bits of its words before it; the start bit is not among them (the model's choice, R114, log entry 98). -/
def codeCrc (w0 w1 w2 : Word) : Nat := crc8 0 (recBytes [w0, w1] ++ [w2.extractLsb' 8 8])

/-- The Beat length for k in ns × 2^16 (R17). -/
def beatLen (k : Nat) : Int := 31250 * 2 ^ k * 65536

/-- The leader's code frame for a boundary (R114). -/
def codeFrame (s : State) (boundary : Int) : Rec :=
  let sec := (boundary / wtSec).toNat
  let w0 := word (sec / 65536)
  let w1 := packW [(16, sec), (15, s.beat.inSec), (1, b2n (s.time.src ≠ 0))]
  let w2 := packW [(3, s.beat.k), (1, b2n s.time.hold), (1, b2n s.time.clamp), (2, s.time.src), (1, b2n s.ptime.stepTgl), (8, 0)]
  [w0, w1, word (w2.toNat + codeCrc w0 w1 w2)]

/-- The follower loses lock (R116). -/
def loseLock (s : State) : State :=
  if !s.ptime.lock then s
  else
    let s1 := timeEvent 43 0 { s with ptime := { s.ptime with lock := false } }
    if s1.time.src = 3 then enterHoldover s1 else s1

/-- A pulse is missing, or carries a CRC error (R116). -/
def badPulse (s : State) : State :=
  let s1 := { s with ptime := { s.ptime with good := 0, bad := s.ptime.bad + 1 } }
  if 2 ≤ s1.ptime.bad then loseLock s1 else s1

/-- The boundary instant that a code names. -/
def codeInstant (w0 w1 w2 : Word) : Int :=
  (w0.toNat * 65536 + bits w1 31 16 : Nat) * wtSec + bits w1 15 1 * beatLen (bits w2 15 13)

/-- The frequency term from two successive edges: boundary instants over stamps (R115). -/
def edgeRate (old new : Int × Int) : Int :=
  if new.1 = old.1 then 0 else ((new.2 - old.2) - (new.1 - old.1)) * 2 ^ 44 / (new.1 - old.1)

/-- The follower gains lock (R116). -/
def gainLock (s : State) : State :=
  let s1 := timeEvent 44 0 { s with ptime := { s.ptime with lock := true } }
  if s1.time.src = 3 then leaveHoldover s1 else s1

/-- What a good pulse asks of the mapping (R115, R118): the frequency term from successive edges, but not across a step of the leader; then the leader's
step, when it is to be followed, as a step from the working time at the anchor, or a correction of -e. -/
def followPulse (rate : Option Int) (stepNow : Bool) (e : Int) (s : State) : State :=
  let s1 := match rate with | some f => requestMapping { f := some f, causes := [1] } s | none => s
  if stepNow then requestMapping { jump := some (-e), causes := [4] } s1 else requestCorrection (-e) s1

/-- A pulse with a correct CRC and the follower's own K (R115, R116, R118). -/
def goodPulse (w0 w1 w2 : Word) (s : State) : State :=
  let p := s.ptime
  let stamp : Int := s.time.now * 65536 - (p.delay * 65536 / 1000 : Nat)
  let inst := codeInstant w0 w1 w2
  let e := wtOfStamp s stamp - inst
  let near := decide (e.natAbs ≤ 20 * 65536)
  let good := if bit w1 0 && near then p.good + 1 else 0
  let toggled := p.seenTgl = some (!bit w2 8)
  let s1 := { s with ptime := { p with
    err := clampI (-32767) 32767 (e * 4 / 65536), good := good, bad := 0, edge := some (stamp, inst), seenTgl := some (bit w2 8) } }
  let rate := if toggled then none else p.edge.map (fun old => edgeRate old (stamp, inst))
  let s2 := if s1.time.src = 3 then followPulse rate (toggled && p.followStep) e s1 else s1
  if decide (100 * 65536 < e.natAbs) then loseLock s2
  else if 8 ≤ good && !p.lock then gainLock s2
  else s2

/-- A follower receives a pulse and its code (R115 to R118). A pulse with another K carries no CRC error and ends a run of bad pulses. -/
def pulseRx (w0 w1 w2 : Word) (s : State) : State :=
  if s.ptime.role ≠ 2 then s
  else if bits w2 7 0 ≠ codeCrc w0 w1 w2 then badPulse (count rTIME_CNT 31 16 s)
  else if bits w2 15 13 ≠ s.beat.k then
    setFlag rTIME_STAT 28 (count rTIME_CNT 31 16 { s with ptime := { s.ptime with good := 0, bad := 0, edge := none } })
  else goodPulse w0 w1 w2 s

/-- An expected pulse is missing (R116). -/
def pulseMissing (s : State) : State := if s.ptime.role ≠ 2 then s else badPulse (count rTIME_CNT 15 0 s)

end Sys2Proof.Machine
end

