-- ==== Sys2Proof/Machine/Parser.lean ====
section
/-!
DEFINITION. The parser of stage 2 (R149), and the CRC-32 of the tables (R166).
-/
namespace Sys2Proof.Machine

/-- n bytes at offset i, when they lie wholly within the parser window and the frame. -/
def winAt (b : Bytes) (i n : Nat) : Option Nat := if i + n ≤ min 256 b.length then some (beAt b i n) else none

/-- IPv6 extension headers skipped, at most fuel of them: next header, absent where it lies outside the window, offset behind it, whether the packet is a
later fragment (R149). -/
def v6Walk (b : Bytes) : Nat → Nat → Nat → Bool → Option Nat × Nat × Bool
  | 0, proto, off, frag => (some proto, off, frag)
  | f + 1, proto, off, frag =>
    if proto = 0 || proto = 43 || proto = 44 || proto = 60 then
      match winAt b off 2 with
      | none => (none, off, frag)
      | some _ => v6Walk b f (byteAt b off) (off + if proto = 44 then 8 else (byteAt b (off + 1) + 1) * 8)
          (frag || (proto = 44 && beAt b (off + 2) 2 / 8 ≠ 0))
    else (some proto, off, frag)

/-- Ports and flags behind an IP header (R149, R290). -/
def parseL4 (b : Bytes) (proto : Option Nat) (off : Nat) (laterFragment : Bool) (p : Parsed) : Parsed :=
  if laterFragment || !(proto = some 6 || proto = some 17) then p
  else { p with
    sport := winAt b off 2, dport := winAt b (off + 2) 2, tcpFlags := if proto = some 6 then winAt b (off + 13) 1 else none }

/-- The header behind the EtherType at l3; each field is taken where it lies within the window (R149). -/
def parseL3 (b : Bytes) (et l3 : Nat) (p : Parsed) : Parsed :=
  if et = 0x0800 then
    let flags := winAt b (l3 + 6) 2
    let proto := winAt b (l3 + 9) 1
    parseL4 b (if (winAt b l3 1).isSome then proto else none) (l3 + byteAt b l3 % 16 * 4) (match flags with | some v => v % 8192 ≠ 0 | none => false) { p with
      ip := 4, src := winAt b (l3 + 12) 4, dst := winAt b (l3 + 16) 4, dscp := (winAt b (l3 + 1) 1).map (· / 4), proto := proto
      fragment := flags.map (· % 8192), moreFragments := flags.map (fun v => decide (v / 8192 % 2 = 1)) }
  else if et = 0x86DD then
    let w := match winAt b (l3 + 6) 1 with | some n => v6Walk b 2 n (l3 + 40) false | none => (none, l3 + 40, false)
    parseL4 b w.1 w.2.1 w.2.2 { p with
      ip := 6, src := winAt b (l3 + 8) 16, dst := winAt b (l3 + 24) 16, dscp := (winAt b l3 2).map (fun v => v / 64 % 64), proto := w.1 }
  else if et = 0x22F0 then { p with subtype := winAt b l3 1, streamId := winAt b (l3 + 4) 8 }
  else p

/-- The fields that the parser takes from a frame (R149). -/
def parse (b : Bytes) : Parsed :=
  let tagged := decide (beAt b 12 2 = 0x8100)
  let tl := if tagged then (if beAt b 16 2 = 0x8100 then 8 else 4) else 0
  let tci := beAt b 14 2
  let p : Parsed := { da := beAt b 0 6, sa := beAt b 6 6, tagged := tagged, tagLen := tl }
  let p := if tagged then { p with tagPcp := tci / 8192, tagDei := tci / 4096 % 2 = 1, tagVid := tci % 4096 } else p
  let r := decide (beAt b (12 + tl) 2 = 0xF1C1)
  let e := 12 + tl + if r then 6 else 0
  let et := beAt b e 2
  parseL3 b et (e + 2) { p with rtag := if r then winAt b (12 + tl + 4) 2 else none, etype := winAt b e 2 }

/-- One bit into the CRC of an Ethernet FCS, the least significant bit of a byte first. -/
def fcsStep (c : Nat) (b : Bool) : Nat := if decide (c % 2 = 1) != b then c / 2 ^^^ 0xEDB88320 else c / 2

/-- The FCS of a frame, in the order of its bytes on the line (IEEE 802.3, R156). -/
def fcsOf (b : Bytes) : Bytes :=
  let c := b.foldl (fun c x => (List.range 8).foldl (fun c i => fcsStep c (x.getLsbD i)) c) 0xFFFFFFFF ^^^ 0xFFFFFFFF
  [BitVec.ofNat 8 c, BitVec.ofNat 8 (c / 2 ^ 8), BitVec.ofNat 8 (c / 2 ^ 16), BitVec.ofNat 8 (c / 2 ^ 24)]

/-- A frame with its FCS. -/
def withFcs (b : Bytes) : Bytes := b ++ fcsOf b

/-- One bit into the CRC of R166. -/
def crcStep (c : Nat) (b : Bool) : Nat :=
  let s := c * 2 % 2 ^ 32
  if decide (2 ^ 31 ≤ c) != b then s ^^^ 0x04C11DB7 else s

/-- A field of w bits into the CRC, most significant bit first. -/
def crcField (c : Nat) (p : Nat × Nat) : Nat := (List.range p.1).foldl (fun c i => crcStep c (p.2.testBit (p.1 - 1 - i))) c

/-- The CRC-32 of R166 over fields (width, value). -/
def crc32 (l : List (Nat × Nat)) : Nat := l.foldl crcField 0xFFFFFFFF

/-- The CRC-32 over words. -/
def crcWords (r : Rec) : Nat := crc32 (r.map (fun w => (32, w.toNat)))

end Sys2Proof.Machine
end

