-- ==== Sys2Proof/Machine/FwdOps.lean ====
section
/-!
DEFINITION. The configuration of ports and of the bridge, port states, line rates (chapter 4), the bridge's counters, the MAC table (R165 to R173) and
stream identification (R158 to R164).
-/
namespace Sys2Proof.Machine

/-! ### Ports -/

/-- The port record by default (R131). -/
def portDefault (n : Nat) : Rec :=
  [packW [(5, n), (4, 0), (3, 0), (1, 0), (2, 0), (1, 0), (1, 1), (15, 0)], packW [(13, 0), (8, 32), (11, 0)], packW [(8, 128), (8, 50), (16, 0)]]

def portOf (s : State) (n : Nat) : Port := tget {} s.ports.port n
def setPort (n : Nat) (p : Port) (s : State) : State := { s with ports := { s.ports with port := tset {} s.ports.port n p } }
def portRec (s : State) (n : Nat) : Rec := if (portOf s n).cfg = [] then portDefault n else (portOf s n).cfg
def prMode (r : Rec) : Nat := fld r 0 26 23
def prSpeed (r : Rec) : Nat := fld r 0 22 20
def prAn (r : Rec) : Bool := flag r 0 19
def prHold (r : Rec) : Nat := fld r 0 6 0
def prAddFrag (r : Rec) : Nat := fld r 0 13 12

def prDlc (r : Rec) : Bool := flag r 0 15
def prMerge (r : Rec) : Bool := flag r 0 14
def plcaEn (r : Rec) : Bool := flag r 1 31
def plcaCoord (r : Rec) : Bool := flag r 1 30
def plcaNode (r : Rec) : Nat := fld r 1 29 25
def plcaFallback (r : Rec) : Bool := flag r 1 2
def isT (n : Nat) : Bool := 12 ≤ n && n < 18
def isS (n : Nat) : Bool := 20 ≤ n && n < 28

/-- Whether a mode takes in-band status (R124). -/
def inbandMode (m : Nat) : Bool := m = 3 || m = 5 || m = 8

/-- The speed code of R143 that a record names. -/
def speedCode (r : Rec) : Nat :=
  match prMode r with
  | 0 => 7
  | 1 => 6
  | 2 => 5
  | 4 => 3
  | 6 => 2
  | 7 => 1
  | 11 => 0
  | _ => prSpeed r

/-- Whether a mode is valid for a port (R120). -/
def modeOk (n m : Nat) : Bool :=
  m = 0 || (m = 1 && n < 4) || ((m = 2 || m = 3 || m = 4 || m = 5) && n < 12) || ((m = 6 || m = 7) && 12 ≤ n && n < 18)
    || ((m = 8 || m = 9 || m = 10) && (n = 18 || n = 19)) || (m = 11 && 20 ≤ n && n < 28)

/-- The highest rate of a port's class in Mbit/s (R217). -/
def classRate (n : Nat) : Nat := if n < 4 then 25000 else if n < 12 then 10000 else if n < 20 then 1000 else 10

/-- Mbit/s of a speed code of R143. -/
def speedRate (n : Nat) : Nat → Nat
  | 0 => 10
  | 1 => 100
  | 2 => 1000
  | 3 => 2500
  | 4 => 5000
  | 5 => 10000
  | 6 => 25000
  | _ => classRate n

/-- The line rate of a port in Mbit/s: in force on a port that is UP, else that of its configuration, the highest of its class when DISABLED (R125,
R217); 0 on ports without a line. -/
def lineRate (s : State) (n : Nat) : Nat :=
  if n < 28 then speedRate n (if (portOf s n).st = .up then (portOf s n).speed else speedCode (portRec s n)) else 0

/-- The time of n bytes on the line of a port, in ns, rounded up. -/
def lineTime (s : State) (p n : Nat) : Nat := if lineRate s p = 0 then 0 else (n * 8000 + lineRate s p - 1) / lineRate s p

/-- Whether forwarding has stopped for a standby entry (R364). -/
def fwdOff (s : State) : Bool := match s.nm.entry with | some e => decide (2 ≤ e.step) | none => false

/-- Whether a port counts as UP (R134, R683). -/
def portUp (s : State) (n : Nat) : Bool :=
  if n < 28 then (portOf s n).st = .up
  else if n = 28 then s.bridge.up && regBit s (rHP_RX 0x08) 31
  else n = 29 || n = 30

/-! ### The transmit opportunities of a PLCA segment (R127) -/

/-- A bit time at 10 Mbit/s, in ns, and the gap after a frame. -/
def plcaBit : Nat := 100
def plcaGap : Nat := 9600

/-- When the burst of the node that has sent in its opportunity can go on no longer: BURST_TIMER after its last frame, while MAX_BURST allows another. -/
def burstEnd (r : Rec) (since sent : Nat) : Nat := since + if sent ≤ fld r 1 10 3 then fld r 2 31 24 * plcaBit else 0

/-- The node whose opportunity runs at local time t, and whether it is that of an own burst: an opportunity that nobody uses lasts TO_TIMER. After that of the
last node nobody has one until the next BEACON. -/
def plcaTurn (r : Rec) (o : Nat × Nat × Nat) (t : Nat) : Nat × Bool :=
  let timer := max 1 (fld r 1 18 11 * plcaBit)
  if o.2.2 = 0 then (o.1 + (t - o.2.1) / timer, false)
  else
    let e := burstEnd r o.2.1 o.2.2
    if t < e then (o.1, true) else (o.1 + 1 + (t - e) / timer, false)

/-- Whether a frame of the segment is being received on a port. -/
def segmentBusy (s : State) (n : Nat) : Bool := tget 0 s.buf.rx n ≠ 0

/-- Whether the segment of an S port lets it transmit: with PLCA in its own opportunity, in CSMA/CD when no frame is on the segment (R127, R129). -/
def mayTransmit (s : State) (n : Nat) : Bool :=
  if !isS n then true
  else if segmentBusy s n then false
  else if !(plcaEn (portRec s n) && (portOf s n).plcaAct) then true
  else match (portOf s n).plca with
    | some o => decide (o.2.1 ≤ s.time.now) && (plcaTurn (portRec s n) o s.time.now).1 = plcaNode (portRec s n)
    | none => false

/-- A port has sent a frame in its opportunity, whose gap ends at local time free. -/
def plcaSent (n free : Nat) (s : State) : State :=
  let v := portOf s n
  match v.plca with
  | some o =>
    let sent := if (plcaTurn (portRec s n) o s.time.now).2 then o.2.2 + 1 else 1
    if isS n then setPort n { v with plca := some (plcaNode (portRec s n), free, sent) } s else s
  | none => s

/-- A frame of another node has ended on a port's segment, having started at local time start: the next node's opportunity follows its gap. -/
def plcaHeard (n start : Nat) (s : State) : State :=
  let v := portOf s n
  match v.plca with
  | some o => if isS n then setPort n { v with plca := some ((plcaTurn (portRec s n) o start).1 + 1, s.time.now + plcaGap, 0) } s else s
  | none => s

/-- Whether a coordinator may start a cycle: none runs, or the opportunities of nodes 0 to NODE_COUNT - 1 have passed (R127). -/
def plcaCycleOver (s : State) (n : Nat) : Bool :=
  match (portOf s n).plca with
  | some o => decide (o.2.1 ≤ s.time.now) && decide (fld (portRec s n) 1 24 19 ≤ (plcaTurn (portRec s n) o s.time.now).1)
  | none => true

/-- A BEACON has ended: the opportunity of node 0 begins. -/
def plcaStarts (n t : Nat) (s : State) : State := setPort n { portOf s n with plca := some (0, t, 0) } s

/-! ### Bridge records and counters -/

/-- The bridge-port record by default (R152). -/
def bridgeDefault (p : Nat) : Rec :=
  [packW [(5, p), (12, 1), (3, 0), (2, 0), (1, 1), (1, b2n (p < 28)), (1, 0), (3, 7), (4, 0)], 0x00FAC681, packW [(14, 1522), (16, 16384), (2, 0)], 0]
def bridgeOf (s : State) (p : Nat) : Rec := if tget [] s.fwd.bridge p = [] then bridgeDefault p else tget [] s.fwd.bridge p
def bpMaxLen (r : Rec) : Nat := fld r 2 31 18
def bpLearnLimit (r : Rec) : Nat := fld r 2 17 2

/-- The VLAN entry of a VID; all zero where none was written (R153). -/
def vlanOf (s : State) (vid : Nat) : Rec := tget [] s.fwd.vlan vid
def vlanValid (r : Rec) : Bool := flag r 2 31
def vlanMember (r : Rec) (p : Nat) : Bool := vlanValid r && flag r 0 p
def vlanFid (r : Rec) : Nat := if vlanValid r then fld r 2 30 19 else 0

/-- Word w of the bridge counters of a port counts k (R196); words 1 and 4 stand for 64-bit counts. -/
def fwdCount (port w k : Nat) (s : State) : State :=
  let i := port * 64 + w
  { s with fwd := { s.fwd with counts := tset 0 s.fwd.counts i (satAdd (if w = 1 || w = 4 then 64 else 32) (tget 0 s.fwd.counts i) k) } }

/-- A drop is counted at a port under its reason code (R194 to R196). -/
def countDrop (port code : Nat) (s : State) : State := fwdCount port (15 + code) 1 s

/-! ### The MAC table -/

def macBucket (fid addr : Nat) : Nat := crc32 [(12, fid), (48, addr)] % 4096
def macType (r : Rec) : Nat := fld r 1 3 1
def macAddr (r : Rec) : Nat := (rw r 0).toNat * 65536 + fld r 1 31 16
def macFid (r : Rec) : Nat := fld r 1 15 4
def macDest (r : Rec) : Nat := (rw r 2).toNat
def macAge (r : Rec) : Nat := fld r 3 31 30
def macSrcLock (r : Rec) : Bool := flag r 1 0
def macRecord (fid addr type dest age : Nat) : Rec :=
  [word (addr / 65536), packW [(16, addr), (12, fid), (3, type), (1, 0)], word dest, packW [(2, age), (30, 0)]]
def macGet (s : State) (k : Nat) : Rec := tget [] s.fwd.mac k
def macSet (k : Nat) (r : Rec) (s : State) : State := { s with fwd := { s.fwd with mac := tset [] s.fwd.mac k r } }

/-- The ways of a bucket as table indices. -/
def macWays (b : Nat) : List Nat := [4 * b, 4 * b + 1, 4 * b + 2, 4 * b + 3]

/-- The index of the entry of a key (R167). -/
def macFind (s : State) (fid addr : Nat) : Option Nat :=
  (macWays (macBucket fid addr)).find? (fun k => macType (macGet s k) ≠ 0 && macFid (macGet s k) = fid && macAddr (macGet s k) = addr)

/-- Dynamic entries of a port (R169). -/
def dynCount (s : State) (port : Nat) : Nat := (s.fwd.mac.filter (fun e => macType e.2 = 1 && macDest e.2 = port)).length

/-- The way in a full bucket that gives way: the dynamic entry of highest AGE, the lowest way among equals (R684). -/
def macVictim (s : State) (b : Nat) : Option Nat :=
  (macWays b).foldl (fun v k =>
    if macType (macGet s k) ≠ 1 then v
    else match v with
      | some j => if macAge (macGet s j) < macAge (macGet s k) then some k else v
      | none => some k) none

/-- What has reached the MAC table in the cycle now (R173). -/
def macCycle (s : State) : MacCycle := if s.fwd.macCycle.at0 = s.time.now then s.fwd.macCycle else { at0 := s.time.now }
def macNote (f : MacCycle → MacCycle) (s : State) : State := { s with fwd := { s.fwd with macCycle := f (macCycle s) } }

/-- A MAC write applied at its boundary (R165, R173, R684). -/
def macApply (r : Rec) (s0 : State) : State :=
  let s := macNote (fun c => { c with commits := (macFid r, macAddr r) :: c.commits }) s0
  let b := macBucket (macFid r) (macAddr r)
  match macFind s (macFid r) (macAddr r) with
  | some k => if macType r = 0 then (if macType (macGet s k) = 1 then s else macSet k [] s) else macSet k r s
  | none =>
    if macType r = 0 then s
    else match (macWays b).find? (fun k => macType (macGet s k) = 0) with
      | some k => macSet k r s
      | none => match macVictim s b with
        | some k => macSet k r s
        | none => s

/-- A dynamic entry takes a port with AGE 0. -/
def macRefresh (k port fid sa : Nat) (s : State) : State :=
  macNote (fun c => { c with refreshed := (fid, sa) :: c.refreshed }) (macSet k (macRecord fid sa 1 port 0) s)

/-- The source address of a frame that may be learned is learned, moved or refreshed (R168 to R170). -/
def macTake (port fid sa : Nat) (s : State) : State :=
  let full := decide (bpLearnLimit (bridgeOf s port) ≤ dynCount s port)
  match macFind s fid sa with
  | some k =>
    let r := macGet s k
    if macType r = 1 then
      if macDest r = port then macRefresh k port fid sa s
      else if full then fwdCount port 13 1 s
      else fwdCount port 10 1 (macRefresh k port fid sa (macNote (fun c => { c with moved := (fid, sa, macDest r) :: c.moved }) s))
    else if macType r = 2 && macDest r ≠ port then fwdCount port 11 1 s
    else s
  | none =>
    if full then fwdCount port 13 1 s
    else match (macWays (macBucket fid sa)).find? (fun k => macType (macGet s k) = 0) with
      | some k => fwdCount port 9 1 (macRefresh k port fid sa s)
      | none => fwdCount port 12 1 s

/-- Whether a flush of this cycle, by port, FID or all, takes an entry of a port and FID (R172, R173). -/
def flushTakes (c : MacCycle) (port fid : Nat) : Bool := c.flushes.any (fun f => f = (0, port) || f = (1, fid) || f.1 = 2)

/-- A learn or refresh (R168 to R170, R173): a commit or flush of the same cycle stands against it, and an entry that a sweep of the cycle has removed stays when
the frame refreshes it. -/
def macLearn (port fid sa : Nat) (s : State) : State :=
  let c := macCycle s
  if c.commits.contains (fid, sa) || flushTakes c port fid || c.flushed.contains (fid, sa) then s
  else if c.swept.any (fun r => macFid r = fid && macAddr r = sa && macDest r = port) then
    (match (macWays (macBucket fid sa)).find? (fun k => macType (macGet s k) = 0) with
     | some k => macRefresh k port fid sa s
     | none => s)
  else macTake port fid sa s

/-- Whether a flush takes a dynamic entry: kind 0 by port, also one that a frame of this cycle has moved from the port, 1 by FID, 2 all (R172, R173). -/
def flushed (s : State) (kind value : Nat) (r : Rec) : Bool :=
  macType r = 1 && (if kind = 0 then macDest r = value || (macCycle s).moved.contains (macFid r, macAddr r, value)
    else if kind = 1 then macFid r = value else true)

/-- Dynamic entries that a flush takes are removed (R172). -/
def macFlush (kind value : Nat) (s : State) : State :=
  macNote (fun c => { c with
      flushes := (kind, value) :: c.flushes
      flushed := ((s.fwd.mac.map (·.2)).filter (flushed s kind value)).map (fun r => (macFid r, macAddr r)) ++ c.flushed })
    { s with fwd := { s.fwd with mac := s.fwd.mac.filter (fun e => !flushed s kind value e.2) } }

/-- A sweep of the MAC table (R171); an entry refreshed in this cycle keeps AGE 0 (R173). -/
def macSweep (s0 : State) : State :=
  let due := fun (r : Rec) => macType r = 1 && !(macCycle s0).refreshed.contains (macFid r, macAddr r)
  let s := macNote (fun c => { c with swept := (s0.fwd.mac.map (·.2)).filter (fun r => due r && macAge r = 3) }) s0
  { s with fwd := { s.fwd with mac := tmap [] s.fwd.mac (fun _ r =>
      if !due r then r else if macAge r = 3 then [] else r.set 3 (packW [(2, macAge r + 1), (30, 0)])) } }

/-! ### Stream identification -/

def identFunc (r : Rec) : Nat := fld r 0 31 30
def identV6 (r : Rec) : Bool := flag r 0 29
def identAny (r : Rec) : Bool := flag r 0 28
def identPort (r : Rec) : Nat := fld r 0 27 23
def identProfile (r : Rec) : Nat := fld r 0 22 21
def identHandle (r : Rec) : Nat := fld r 2 11 0
def ipProfileOf (s : State) (i : Nat) : Nat := 0x7F - tget 0 s.fwd.ipProfile i

/-- The words of an entry that make its key (R161): ANY_PORT, IN_PORT, TAGGING, HANDLE and the fields that the profile excludes are 0. -/
def identKey (sel : Nat) (r : Rec) : Rec :=
  let w0 := fun v => packW [(2, identFunc r), (1, b2n (identV6 r)), (6, 0), (2, identProfile r), (9, 0), (12, v)]
  let keep := fun (i : Nat) (v : Nat) => if sel.testBit i then v else 0
  if identFunc r ≠ 3 then
    [packW [(2, identFunc r), (18, 0), (12, fld r 0 11 0)], rw r 1, packW [(16, fld r 2 31 16), (16, 0)], 0, 0, 0, 0, 0]
  else
    let a := [w0 (keep 6 (fld r 0 11 0)), packW [(16, keep 1 (fld r 1 31 16)), (16, keep 0 (fld r 1 15 0))],
              packW [(6, keep 3 (fld r 2 31 26)), (8, keep 2 (fld r 2 25 18)), (18, 0)]]
    let d := fun i => word (keep 5 (rw r i).toNat)
    let q := fun i => word (keep 4 (rw r i).toNat)
    if identV6 r then a ++ [d 3, d 4, d 5, d 6, 0, q 8, q 9, q 10, q 11, 0, 0, 0, 0] else a ++ [d 3, q 4, 0, 0, 0]

def identBucket (key : Rec) : Nat := crcWords key % 1024

/-- The entry words that a frame presents to a function (R158 to R160); none where a selected field is absent. -/
def identOfFrame (s : State) (port func vid : Nat) (p : Parsed) : Option Rec :=
  let mac := fun (f a : Nat) => some [packW [(2, f), (18, 0), (12, vid)], word (a / 65536), packW [(16, a), (16, 0)], 0, 0, 0, 0, 0]
  match func with
  | 1 => mac 1 p.da
  | 2 => mac 2 p.sa
  | 3 =>
    let prof := fld (bridgeOf s port) 3 27 26
    let sel := ipProfileOf s prof
    let need := fun (i : Nat) (o : Option Nat) => !sel.testBit i || o.isSome
    if p.ip = 0 || !(need 5 p.dst && need 4 p.src && need 3 p.dscp && need 2 p.proto && need 1 p.sport && need 0 p.dport) then none
    else
      let v6 := decide (p.ip = 6)
      let a := [packW [(2, 3), (1, b2n v6), (6, 0), (2, prof), (9, 0), (12, vid)], packW [(16, p.sport.getD 0), (16, p.dport.getD 0)],
                packW [(6, p.dscp.getD 0), (8, p.proto.getD 0), (18, 0)]]
      let d := p.dst.getD 0
      let q := p.src.getD 0
      let ws := fun n => [word (n / 2 ^ 96), word (n / 2 ^ 64), word (n / 2 ^ 32), word n]
      some (identKey sel (if v6 then a ++ ws d ++ [0] ++ ws q ++ [0, 0, 0, 0] else a ++ [word d, word q, 0, 0, 0]))
  | _ => none

/-- Whether an entry's TAGGING takes a frame (R160). -/
def identTagging (r : Rec) (p : Parsed) : Bool :=
  match fld r 0 13 12 with
  | 1 => p.tagged && p.tagVid ≠ 0
  | 2 => !(p.tagged && p.tagVid ≠ 0)
  | _ => true

/-- One probe: the handle of the matching entry (R158, R162). -/
def identProbe (s : State) (port func vid : Nat) (p : Parsed) : Option Nat :=
  match identOfFrame s port func vid p with
  | none => none
  | some key =>
    let hits := (macWays (identBucket key)).filter (fun k =>
      let r := tget [] s.fwd.ident k
      identFunc r ≠ 0 && identKey (ipProfileOf s (identProfile r)) r = key && identTagging r p && (identAny r || identPort r = port))
    match hits.find? (fun k => !identAny (tget [] s.fwd.ident k)), hits with
    | some k, _ => some (identHandle (tget [] s.fwd.ident k))
    | none, k :: _ => some (identHandle (tget [] s.fwd.ident k))
    | none, [] => none

/-- The handle that stage 3 finds, before its VALID bit is read (R158). -/
def identify (s : State) (port vid : Nat) (p : Parsed) : Option Nat :=
  let b := bridgeOf s port
  match identProbe s port (fld b 3 31 30) vid p with
  | some h => some h
  | none => identProbe s port (fld b 3 29 28) vid p

def handleOf (s : State) (h : Nat) : Rec := tget [] s.fwd.handle h

end Sys2Proof.Machine
end

