-- ==== Sys2Proof/Machine/BufOps.lean ====
section
/-!
DEFINITION. The packet buffer: partitions, cells, references of frames (R182 to R189).
-/
namespace Sys2Proof.Machine

/-- The buffer record by default (R183). -/
def bufDefault : Rec := [2048, 8192] ++ List.replicate 31 (packW [(12, 512), (6, 0), (14, 512)])
def bufRec (s : State) : Rec := if s.buf.cfg = [] then bufDefault else s.buf.cfg
def bufReserve (s : State) : Nat := fld (bufRec s) 0 17 0
def bufLowMark (s : State) : Nat := fld (bufRec s) 1 17 0
def bufSharedMax (s : State) (n : Nat) : Nat := if n = 31 then 2048 else fld (bufRec s) (2 + n) 31 20 * 64
def bufGuar (s : State) (n : Nat) : Nat := if n = 31 then 0 else fld (bufRec s) (2 + n) 13 0
def guarSum (s : State) : Nat := (List.range 31).foldl (fun n p => n + bufGuar s p) 0

/-- Cells of the shared pool: whatever remains (R183), less the cells withdrawn (R653). Cells that a guarantee or the reserve holds above its new size are not taken
off it (the model's choice, R187, log entry 112). -/
def sharedSize (s : State) : Nat := 196608 - bufReserve s - guarSum s - s.buf.withdrawn
def guarUsed (s : State) (p : Nat) : Nat := tget 0 s.buf.guarUsed p
def sharedUsed (s : State) (p : Nat) : Nat := tget 0 s.buf.sharedUsed p
def sharedFree (s : State) : Nat := sharedSize s - (List.range 32).foldl (fun n p => n + sharedUsed s p) 0

/-- Free cells of all partitions (R189). -/
def bufFree (s : State) : Nat :=
  (bufReserve s - s.buf.sysUsed) + (List.range 31).foldl (fun n p => n + (bufGuar s p - guarUsed s p)) 0 + sharedFree s

/-- FREE_MIN and the buffer-low event follow a change of the buffer (R188, R189). -/
def bufNote (s : State) : State :=
  let f := sharedFree s
  let s1 := { s with buf := { s.buf with freeMin := min s.buf.freeMin (bufFree s) } }
  if s1.buf.lowArmed && decide (f < bufLowMark s) then systemEvent 1 0 { s1 with buf := { s1.buf with lowArmed := false } }
  else if decide (bufLowMark s + 1024 < f) then { s1 with buf := { s1.buf with lowArmed := true } }
  else s1

/-- Cells by partition: guarantee, shared pool, system reserve. -/
abbrev Cells := Nat × Nat × Nat

/-- The partition that gives the next cell to a port: 0 guarantee, 1 shared pool, 2 reserve (R184). -/
def cellSource (s : State) (port : Nat) (reserve : Bool) : Option Nat :=
  if guarUsed s port < bufGuar s port then some 0
  else if sharedUsed s port < bufSharedMax s port && 0 < sharedFree s then some 1
  else if reserve && port ≠ 31 && s.buf.sysUsed < bufReserve s then some 2
  else none

/-- Cells are charged to a port. -/
def chargeCells (port : Nat) (c : Cells) (s : State) : State :=
  bufNote { s with buf := { s.buf with
    guarUsed := tmod 0 s.buf.guarUsed port (· + c.1), sharedUsed := tmod 0 s.buf.sharedUsed port (· + c.2.1), sysUsed := s.buf.sysUsed + c.2.2 } }

/-- Cells return to their partitions (R186). -/
def freeCells (port : Nat) (c : Cells) (s : State) : State :=
  bufNote { s with buf := { s.buf with
    guarUsed := tmod 0 s.buf.guarUsed port (· - c.1), sharedUsed := tmod 0 s.buf.sharedUsed port (· - c.2.1), sysUsed := s.buf.sysUsed - c.2.2 } }

/-- n cells for a port, one at a time: whether each has found room, the cells taken, and the state that has charged them (R184, R185, R188). -/
def takeCells (port : Nat) (reserve : Bool) : Nat → Cells → State → Bool × Cells × State
  | 0, c, s => (true, c, s)
  | n + 1, c, s =>
    match cellSource s port reserve with
    | some 0 => takeCells port reserve n (c.1 + 1, c.2.1, c.2.2) (chargeCells port (1, 0, 0) s)
    | some 1 => takeCells port reserve n (c.1, c.2.1 + 1, c.2.2) (chargeCells port (0, 1, 0) s)
    | some _ => takeCells port reserve n (c.1, c.2.1, c.2.2 + 1) (chargeCells port (0, 0, 1) s)
    | none => (false, c, s)

/-- The stamp of a frame that enters stage 1 from an internal port now, in 2^-16 ns (R250). -/
def stampNow (s : State) : Int := (s.time.now : Int) * 65536

/-- An ingress stamp in whole nanoseconds of local time. -/
def stampNs (x : Int) : Nat := (x / 65536).toNat

/-! ### Frames -/

def frameOf (s : State) (f : Nat) : Option Frame := tget none s.buf.frames f
def setFrame (f : Nat) (v : Option Frame) (s : State) : State := { s with buf := { s.buf with frames := tset none s.buf.frames f v } }
def modFrame (f : Nat) (g : Frame → Frame) (s : State) : State :=
  match frameOf s f with
  | some v => setFrame f (some (g v)) s
  | none => s

/-- A frame leaves the buffer, and its cells return. -/
def releaseFrame (f : Nat) (s : State) : State :=
  match frameOf s f with
  | some v => freeCells v.port (v.guar, v.shared, v.sys) (setFrame f none s)
  | none => s

/-- A reference of a frame is released; at 0 its cells return (R186). -/
def dropRef (f : Nat) (s : State) : State :=
  match frameOf s f with
  | some v => if v.refs ≤ 1 then releaseFrame f s else setFrame f (some { v with refs := v.refs - 1 }) s
  | none => s

/-- The reference that a queue entry holds is released; the device's own frames hold none. -/
def dropRep (r : Replica) (s : State) : State := if r.frame = 0 then s else dropRef r.frame s

/-- Frames of a port that come before frame f and meet p: a port's frames keep their order through the pipeline (R147). -/
def earlierOf (s : State) (f port : Nat) (p : Frame → Bool) : Bool :=
  s.buf.frames.any (fun e => e.1 < f && match e.2 with | some v => v.port = port && p v | none => false)

end Sys2Proof.Machine
end

