-- ==== Sys2Proof/Machine/GateOps.lean ====
section
/-!
DEFINITION. Gate lists as functions of working time: the entry in force, windows, fitting (R205 to R216), and stream gate lists (R246 to R250).
-/
namespace Sys2Proof.Machine

/-- The entry that covers a position of the cycle: index, entry, start and end offset in ns (R211). -/
def entryAt {α : Type} (cyc : Nat) (pos : Int) : List (α × Nat) → Nat → Nat → Option (Nat × α × Nat × Nat)
  | [], _, _ => none
  | [(a, _)], i, off => some (i, a, off, cyc)
  | (a, n) :: b :: r, i, off =>
    if pos < ((off + n : Nat) : Int) * wtNs || cyc ≤ off + n then some (i, a, off, min (off + n) cyc) else entryAt cyc pos (b :: r) (i + 1) (off + n)

/-- The position in the cycle (R211). -/
def cyclePos (start : Int) (cyc : Nat) (w : Int) : Int := (w - start) % ((cyc : Int) * wtNs)

/-- The entry of a list in force at working time w, with the working time at which it ends. -/
def entryOf {α : Type} (es : List (α × Nat)) (start : Int) (cyc : Nat) (w : Int) : Option (Nat × α × Int) :=
  let pos := cyclePos start cyc w
  match entryAt cyc pos es 0 0 with
  | none => none
  | some (i, a, _, e) => some (i, a, w - pos + (e : Int) * wtNs)

/-- The first instant S at or after which a list starts, applied at boundary b (R209), and whether it is late. -/
def listStart (base : Int) (cyc : Nat) (b beat : Int) : Int × Bool :=
  if b < base then (base, false)
  else
    let c : Int := (cyc : Int) * wtNs
    (base + max 0 ((b + 2 * beat - base + c - 1) / c) * c, true)

def egressOf (s : State) (p : Nat) : Egress := tget {} s.egress p
def setEgress (p : Nat) (e : Egress) (s : State) : State := { s with egress := tset {} s.egress p e }

/-- The port-scheduler record by default (R204). -/
def schedDefault (p : Nat) : Rec :=
  [packW [(5, p), (22, 0), (4, 5), (1, 0)], 0, packW [(16, 64), (16, 0)]] ++ List.replicate 8 (packW [(2, 0), (13, 512), (13, 512), (4, 0)])
def schedOf (s : State) (p : Nat) : Rec := if (egressOf s p).sched = [] then schedDefault p else (egressOf s p).sched
def srGateEn (r : Rec) : Bool := flag r 0 26
def srPreempt (r : Rec) (c : Nat) : Bool := flag r 0 (18 + c)
def srLaunch (r : Rec) (c : Nat) : Bool := flag r 0 (10 + c)
def srCqf (r : Rec) (c : Nat) : Bool := flag r 0 (6 + c / 2)
def srAlg (r : Rec) (c : Nat) : Nat := fld r (3 + c) 31 30
def srQmax (r : Rec) (c : Nat) : Nat := fld r (3 + c) 29 17
def srYmax (r : Rec) (c : Nat) : Nat := fld r (3 + c) 16 4

/-- A bank, and the list in force and pending, of a port. -/
def gateBank (g : Gates) (i : Nat) : GateList := if i = 0 then g.bank0 else g.bank1
def setBank (i : Nat) (l : GateList) (g : Gates) : Gates := if i = 0 then { g with bank0 := l } else { g with bank1 := l }

/-- Gate states and OP word of the list in force at working time w, with its entry's index and end. -/
def gateEntry (l : GateList) (start w : Int) : Option (Nat × Word × Int) := entryOf l.entries start l.cycle w

/-- Whether class c is open in a list at w (R211, R212). -/
def listOpen (l : GateList) (start w : Int) (c : Nat) : Bool :=
  match gateEntry l start w with
  | some (_, e, _) => bit e (24 + c)
  | none => l.init.testBit c

/-- Whether the port's gate for a class is open at working time w, the pending list counting from its S. -/
def gateOpenAt (s : State) (p c : Nat) (w : Int) : Bool :=
  let g := (egressOf s p).gates
  if !srGateEn (schedOf s p) then true
  else match g.pending with
    | some st => if st ≤ w then listOpen (gateBank g (1 - g.force)) st w c else !g.ecc && listOpen (gateBank g g.force) g.start w c
    | none => !g.ecc && listOpen (gateBank g g.force) g.start w c

/-- The first instant from w on and before target at which a list closes class c, by walking its entries; after a whole cycle there is none. -/
def listCloses (l : GateList) (start : Int) (c : Nat) : Nat → Int → Int → Option Int
  | 0, _, _ => none
  | f + 1, w, target =>
    if target ≤ w then none
    else match gateEntry l start w with
      | none => if l.init.testBit c then none else some w
      | some (_, e, last) => if bit e (24 + c) then listCloses l start c f last target else some w

/-- The first instant from w on and before target at which class c of a port is closed, into the pending list from its S on (R215): the end of
the window that w stands in. -/
def windowEnd (s : State) (p c : Nat) (w target : Int) : Option Int :=
  let g := (egressOf s p).gates
  let run := fun (l : GateList) (st a b : Int) => listCloses l st c (l.entries.length + 2) a b
  let force := fun (b : Int) => if g.ecc then (if w < b then some w else none) else run (gateBank g g.force) g.start w b
  if !srGateEn (schedOf s p) then none
  else match g.pending with
    | some st => (force (min target st)).or (run (gateBank g (1 - g.force)) st (max w st) target)
    | none => force target

/-- The spans of one cycle as (class open, length in ns). -/
def cycleSpans (c : Nat) (cyc : Nat) : List (Word × Nat) → Nat → List (Bool × Nat)
  | [], _ => []
  | [(e, _)], off => [(bit e (24 + c), cyc - off)]
  | (e, n) :: r, off => if cyc ≤ off + n then [(bit e (24 + c), cyc - off)] else (bit e (24 + c), n) :: cycleSpans c cyc r (off + n)

/-- The longest run of open spans. -/
def longestRun : List (Bool × Nat) → Nat → Nat → Nat
  | [], cur, best => max cur best
  | (true, n) :: r, cur, best => longestRun r (cur + n) best
  | (false, _) :: r, cur, best => longestRun r 0 (max cur best)

/-- The longest window of a class in the list in force, in ns; none when it is never closed (R216). -/
def longestWindow (l : GateList) (c : Nat) : Option Nat :=
  if l.entries = [] then (if l.init.testBit c then none else some 0)
  else
    let sp := cycleSpans c l.cycle l.entries 0
    if sp.all (fun x => x.1) then none else some (longestRun (sp ++ sp) 0 0)

/-! ### Stream gates -/

def sgateOf (s : State) (i : Nat) : StreamGate := tget {} s.str.gate i
def setSgate (i : Nat) (g : StreamGate) (s : State) : State := { s with str := { s.str with gate := tset {} s.str.gate i g } }

/-- The entries of a stream gate list, as word 0 and interval. -/
def poolEntries (s : State) (off len : Nat) : List (Word × Nat) :=
  (List.range len).map (fun i => let e := tget (0, 0) s.str.pool (off + i); (e.1, e.2.toNat))

/-- The list of a gate that runs at working time w: the pending one from its S. -/
def sgateList (g : StreamGate) (w : Int) : Option StreamList :=
  match g.pending with
  | some l => if l.start ≤ w then some l else g.force
  | none => g.force

/-- The list that was in force at a stamp x, in 2^-16 ns, of working time w: one that has started since is not (R250). -/
def sgateFor (g : StreamGate) (x w : Int) : Option StreamList :=
  if x < (g.since : Int) * 65536 && (match g.force with | some l => decide (w < l.start) | none => true) then g.prev else sgateList g w

/-- The state of a list at working time w: open, internal priority when assigned, octet limit, index and the working time at which the occurrence
started. -/
def sgateIn (s : State) (o : Option StreamList) (w : Int) : Bool × Option Nat × Nat × Nat × Int :=
  match o with
  | none => (false, none, 0, 0, 0)
  | some l =>
    let pos := cyclePos l.start l.cycle w
    match entryAt l.cycle pos (poolEntries s l.off l.len) 0 0 with
    | none => (l.initOpen, l.initIpv, 0, 0, l.start)
    | some (i, e, off, _) => (bit e 31, if bit e 30 then some (bits e 29 27) else none, bits e 26 0, i, w - pos + (off : Int) * wtNs)

/-- The state of a gate at working time w (R249). -/
def sgateAt (s : State) (g : StreamGate) (w : Int) : Bool × Option Nat × Nat × Nat × Int := sgateIn s (sgateList g w) w

end Sys2Proof.Machine
end

