-- ==== Sys2Proof/Machine/GptpFrames.lean ====
section
/-!
DEFINITION. gPTP messages as frames (R80, R84, R86, R95, R96, R98, R99): the layout of IEEE 802.1AS-2020 and IEEE 1588-2019, which the spec names (log
entry 43).
-/
namespace Sys2Proof.Machine
open Sys2Proof

/-- A time of 2^-16 ns as a PTP timestamp: 48 bits of seconds, 32 of nanoseconds. -/
def ptpTime (x : Int) : Bytes := beBytes (x / wtSec).toNat 6 ++ beBytes (wholeNs (x % wtSec)).toNat 4

/-- The port identity of a clock. -/
def portIdentity (clock port : Nat) : Bytes := beBytes clock 8 ++ beBytes port 2

/-- The Follow_Up information TLV: cumulativeScaledRateOffset, then the fields that the relay leaves unchanged, zeros where it has received none (R96). -/
def followUpTlv (csro : Int) (rest : Bytes) : Bytes :=
  beBytes 0x0003 2 ++ beBytes 28 2 ++ beBytes 0x0080C2 3 ++ beBytes 1 3 ++ beBytes (unsigned 32 csro) 4
    ++ (rest ++ List.replicate 18 0).take 18

/-- The body of an Announce: the grandmaster, the steps to it, and the path trace TLV of at most 32 entries (R80). -/
def announceBody (g : GmInfo) (steps : Nat) (path : List Nat) : Bytes :=
  List.replicate 13 0 ++ beBytes g.priority1 1 ++ beBytes g.clockClass 1 ++ beBytes g.accuracy 1 ++ beBytes g.variance 2
    ++ beBytes g.priority2 1 ++ beBytes g.identity 8 ++ beBytes steps 2 ++ beBytes 0xA0 1
    ++ (if path.length ≤ 32 then beBytes 0x0008 2 ++ beBytes (8 * path.length) 2 ++ path.flatMap (fun c => beBytes c 8) else [])

/-- Whether a message announces a second one that follows it. -/
def gptpTwoStep (g : GptpTx) : Bool := g.twoStep && (g.kind = 0 || g.kind = 3)

/-- The origin of a Sync of the slot, known or working time at the egress stamp e (R84, R98). -/
def gptpOrigin (s : State) (g : GptpTx) (e : Int) : Int := g.origin.getD (wtOfStamp s e)

/-- ΔC of a relayed Sync with egress stamp e, and 0 where nothing is relayed (R95). -/
def gptpDelta (g : GptpTx) (e : Int) : Int :=
  match g.ingress with
  | some i => scaleRr g.csro g.nrr (g.delay + e - i)
  | none => 0

/-- The correctionField of a message with egress stamp e (R95, R98, R99): a timestamp's fraction of a nanosecond is part of it. -/
def gptpCorrection (s : State) (g : GptpTx) (e : Int) : Int :=
  match g.kind with
  | 0 => if g.twoStep then g.corr else g.corr + gptpDelta g e + gptpOrigin s g e % wtNs
  | 8 => g.corr + g.origin.getD 0 % wtNs
  | 3 | 10 => g.stamp % wtNs
  | _ => 0

/-- The body of a message behind its header. -/
def gptpBody (s : State) (g : GptpTx) (e : Int) : Bytes :=
  let rate := rateRatio g.csro g.nrr
  match g.kind with
  | 0 => if g.twoStep then List.replicate 10 0 else ptpTime (gptpOrigin s g e) ++ followUpTlv rate g.tlv
  | 8 => ptpTime (g.origin.getD 0) ++ followUpTlv rate g.tlv
  | 3 | 10 => ptpTime g.stamp ++ portIdentity g.peer.1 g.peer.2
  | 11 => match g.announce with
    | some (gm, steps, path) => announceBody gm steps path
    | none => []
  | _ => List.replicate 20 0

/-- logMessageInterval of a message of a port. -/
def gptpLog (s : State) (p : Nat) (g : GptpTx) : Int :=
  match g.kind with
  | 0 | 8 => slotSyncLog (slotCfg s g.slot)
  | 11 => slotAnnLog (slotCfg s g.slot)
  | 2 => ptPdelayLog (portTimeCfg s p)
  | _ => 0x7F

/-- A gPTP message as it leaves port p with egress stamp e, without its FCS. Peer-delay answers are of domain 0, CMLDS or not (R86). -/
def gptpBytes (s : State) (p : Nat) (g : GptpTx) (e : Int) : Bytes :=
  let body := gptpBody s g e
  let sdo := if g.cmlds then 2 else 1
  let domain := if g.cmlds || g.kind = 3 || g.kind = 10 then 0 else slotDomain (slotCfg s g.slot)
  let ctl := if g.kind = 0 then 0 else if g.kind = 8 then 2 else 5
  let b := beBytes 0x0180C200000E 6 ++ beBytes (Config.portMac p).toNat 6 ++ beBytes 0x88F7 2
    ++ beBytes (sdo * 16 + g.kind) 1 ++ [0x12] ++ beBytes (34 + body.length) 2 ++ beBytes domain 1 ++ [0]
    ++ beBytes (if gptpTwoStep g then 0x0208 else 0x0008) 2 ++ beBytes (unsigned 64 (gptpCorrection s g e)) 8 ++ [0, 0, 0, 0]
    ++ portIdentity ownClock (p + 1) ++ beBytes g.seqId 2 ++ beBytes ctl 1 ++ beBytes (unsigned 8 (gptpLog s p g)) 1 ++ body
  b ++ List.replicate (60 - b.length) 0

/-- The message that follows a two-step message with egress stamp e (R84, R86, R99): a Follow_Up with the correction plus ΔC, or the Pdelay_Resp_Follow_Up
with t3. -/
def gptpFollower (s : State) (g : GptpTx) (e : Int) : GptpTx :=
  if g.kind = 3 then { g with kind := 10, twoStep := false, stamp := e }
  else { g with kind := 8, twoStep := false, corr := g.followCorr + gptpDelta g e, origin := some (gptpOrigin s g e), ingress := none }

end Sys2Proof.Machine
end

