-- ==== Sys2Proof/Machine/TraceOps.lean ====
section
/-!
DEFINITION. The zones of ports as the cycle sees them (R269, R275), and the frame records of the Contact Sheet (R458, R459).
-/
namespace Sys2Proof.Machine

/-- What the firewall keeps of the cycle now. -/
def fwCycle (s : State) : FwCycle :=
  if s.fw.cycle.at0 = s.time.now then s.fw.cycle
  else { at0 := s.time.now, zone := s.fw.zone, attr := s.fw.attr, rule := s.fw.rule, tracker := s.fw.tracker, bad := s.fw.bad }
def fwNote (f : FwCycle → FwCycle) (s : State) : State := { s with fw := { s.fw with cycle := f (fwCycle s) } }

/-- The zone of a member in a bank, as verdicts of this cycle see it (R275): kind 0 port, 1 CAN, 2 LIN, 3 mailbox (R269); port 31 stands in EXP_ZONE
(R460). -/
def zoneOf (s : State) (bank kind i : Nat) : Nat :=
  if kind = 0 && i = 31 then fld s.cs.chan0.cfg 0 20 16 else tget 0 (fwCycle s).zone (bank * 256 + kind * 32 + i)

/-- Whether selector r takes a frame in a direction by port, handle or zone (R458, R459). -/
def selTakes (r : Rec) (egress : Bool) (port zone : Nat) (h : Option Nat) (dropped : Bool) : Bool :=
  flag r 0 31 && flag r 0 (if egress then 25 else 26) && (!flag r 0 18 || dropped) &&
  match fld r 0 24 23 with
  | 0 => flag r 1 port
  | 1 => h = some (fld r 1 11 0)
  | _ => flag r 1 zone

/-- Snapshot payloads: 8 bytes each from the DA. -/
def snapshots (b : Bytes) : Nat → List (BitVec 64)
  | 0 => []
  | n + 1 => BitVec.ofNat 64 (beAt b 0 8) :: snapshots (b.drop 8) n

/-- The frame group of a frame in a direction, when a selector or a TRACE entry takes it (R459). bytes: what the snapshot shows. -/
def frameRecord (egress : Bool) (port stamp : Nat) (tc : Nat) (drop : Option Nat) (len : Nat) (h : Option Nat) (traced : Bool) (b : Bytes) (s : State) : State :=
  let zone := zoneOf s s.fw.bank 0 port
  let sels := (List.range 15).filter (fun i => selTakes (tget [] s.cs.sel i) egress port zone h drop.isSome)
  if sels = [] && !traced then s
  else
    let snap := sels.foldl (fun m i => max m (fld (tget [] s.cs.sel i) 0 22 19)) (if traced then s.cs.snap else 0)
    csPushAt 0x0F stamp
      (pack64 [(5, port), (1, b2n egress), (3, tc), (5, drop.getD 0), (14, len), (1, b2n h.isSome), (12, h.getD 0), (5, zone), (4, sels.headD 15), (4, snap), (10, 0)]
        :: snapshots b snap) s

end Sys2Proof.Machine
end

