-- ==== Sys2Proof/Machine/QueueOps.lean ====
section
/-!
DEFINITION. Egress queues: the edit of a replica, admission, samples, discards, shapers (R156, R181, R198 to R238), and a port that leaves UP (R135).
-/
namespace Sys2Proof.Machine

/-! ### The edit of a replica -/

/-- Whether a frame's replica leaves a port tagged (R156); without a valid VLAN entry, and from port 31 (R462), it keeps its tagging. -/
def leavesTagged (s : State) (f : Frame) (p : Nat) : Bool :=
  let v := vlanOf s f.vid
  if vlanValid v && f.port ≠ 31 then !flag v 1 p else (parse f.bytes).tagged

/-- The C-tag of VID, PCP and DEI. -/
def cTag (vid pcp : Nat) (dei : Bool) : Bytes := beBytes 0x8100 2 ++ beBytes (pcp * 8192 + b2n dei * 4096 + vid) 2

/-- The R-TAG of a sequence number (R258). -/
def rTag (n : Nat) : Bytes := beBytes 0xF1C1 2 ++ [0, 0] ++ beBytes n 2

/-- A frame as edited for a port, without FCS (R156, R258, R260, R264). -/
def editFrame (s : State) (f : Frame) (p : Nat) : Bytes :=
  let q := parse f.bytes
  let body := f.bytes.dropLast.dropLast.dropLast.dropLast
  let second := (body.drop 16).take (q.tagLen - 4)
  let after := body.drop (12 + q.tagLen)
  let rest := if q.rtag.isSome && (f.pop || f.seq.isSome) then after.drop 6 else after
  body.take 12 ++ (if leavesTagged s f p then cTag f.vid f.pcp f.dei else [])
    ++ (match f.seq with | some n => rTag n | none => []) ++ second ++ rest

/-- The bytes that a queue entry sends on a port, without FCS: the edited frame, a mirror copy as stored, or the device's own; a gPTP message with the
stamp 0, before its egress stamp is known. -/
def repBytes (s : State) (p : Nat) (r : Replica) : Bytes :=
  if r.gptp.isSome then (match r.gptp with | some g => gptpBytes s p g 0 | none => [])
  else if r.frame = 0 || r.own ≠ [] then r.own
  else match frameOf s r.frame with
    | some f => if r.mirror.isSome then f.bytes.dropLast.dropLast.dropLast.dropLast else editFrame s f p
    | none => []

/-! ### MACsec overhead -/

def secyRec (s : State) (p : Nat) : Rec := (tget {} s.ciph.secy p).rec0
def secyOn (s : State) (p : Nat) : Bool := flag (secyRec s p) 0 26

/-- Whether an EtherType passes a SecY in the clear (R408). -/
def secBypass (r : Rec) (et : Nat) : Bool :=
  et = 0x888E || (et ≠ 0 && (fld r 4 31 16 = et || fld r 4 15 0 = et || fld r 5 31 16 = et || fld r 5 15 0 = et))

/-- Whether a port protects a frame that leaves (R408). -/
def protects (s : State) (p : Nat) (b : Bytes) : Bool := secyOn s p && flag (secyRec s p) 0 25 && !secBypass (secyRec s p) (beAt b 12 2)

/-- SecTAG and ICV bytes of a replica on a port (R202). -/
def secOverhead (s : State) (p : Nat) (b : Bytes) : Nat :=
  if protects s p b then (if flag (secyRec s p) 0 18 then 32 else 24) else 0

/-- The wire length of a queue entry, as it would leave the MAC now (R202). -/
def wireLen (s : State) (p : Nat) (r : Replica) : Nat := (repBytes s p r).length + 4 + secOverhead s p (repBytes s p r) + 20

/-- The frame group of a replica on egress, bytes being those that leave before MACsec: at its start with local time at0, or at its drop under a reason (R449,
R453, R459). Mirror copies have none (the model's choice, log entry 112). -/
def egressGroup (p c at0 : Nat) (drop : Option Nat) (r : Replica) (bytes : Bytes) (s : State) : State :=
  if r.mirror.isSome then s
  else
    let f := frameOf s r.frame
    frameRecord true p at0 c drop (wireLen s p r - 20) (f.bind (·.handle)) (match f with | some f => f.trace | none => false) bytes s

/-- A replica of class c is dropped on egress under a reason (R194, R195, R459). -/
def dropReplica (p c code : Nat) (r : Replica) (s : State) : State :=
  dropRep r (egressGroup p c s.time.now (some code) r (repBytes s p r) (countDrop p code s))

/-! ### Counters, events and samples -/

/-- Word w of the scheduler counters of a port counts (R237). -/
def schedCount (p w : Nat) (s : State) : State :=
  let e := egressOf s p
  setEgress p { e with counts := tset 0 e.counts w (satAdd 32 (tget 0 e.counts w) 1) } s

/-- The scheduler event (R238). -/
def schedEvent (p c cause : Nat) (s : State) : State := systemEventD 2 cause (pack [(5, p), (3, c), (56, 0)]) s

def queueOf (e : Egress) (c : Nat) : List Replica := tget [] e.queue c

/-- A queue changes: the depth that has stood since an earlier cycle is sampled, and the head's time follows (R234, R216). -/
def setQueue (p c : Nat) (q : List Replica) (s : State) : State :=
  let e := egressOf s p
  let old := queueOf e c
  let m := tget {} e.sample c
  let from0 := max m.since (s.beat.openedAt.getD 0)
  let m1 := { m with weighted := m.weighted + old.length * (s.time.now - from0), since := s.time.now
                     depthMin := if from0 < s.time.now then min m.depthMin old.length else m.depthMin
                     depthMax := if from0 < s.time.now then max m.depthMax old.length else m.depthMax }
  let newHead := q.head? ≠ old.head?
  setEgress p { e with
    queue := tset [] e.queue c q
    headAt := if newHead then tset 0 e.headAt c s.time.now else e.headAt
    guardAt := if newHead then tset none e.guardAt c none else e.guardAt
    sample := if s.beat.openedAt.isSome then tset {} e.sample c m1 else e.sample } s

/-- The bin of a delay (R234). -/
def delayBin (binExp d : Nat) : Nat := (firstBelow (fun i => d < 2 ^ (5 + binExp + i)) 15).getD 15

/-- A departure of class c after a delay joins its samples. -/
def addDeparture (binExp : Nat) (t : Tab Sample) (d : Nat × Nat) : Tab Sample :=
  let m := tget {} t d.1
  let bins := if m.bins = [] then List.replicate 16 0 else m.bins
  let i := delayBin binExp d.2
  tset {} t d.1 { m with
    departed := satAdd 32 m.departed 1, maxDelay := max m.maxDelay (min d.2 (2 ^ 32 - 1)), bins := bins.set i (satAdd 16 (bins.getD i 0) 1) }

/-- The departures that wait join the samples of the Beat in progress (R233). -/
def flushDeparts (p : Nat) (s : State) : State :=
  let e := egressOf s p
  let ok := match s.beat.openedAt with | some o => decide (o ≤ e.departs.1) | none => false
  setEgress p { e with departs := (0, []), sample := if ok then e.departs.2.foldl (addDeparture e.binExp) e.sample else e.sample } s

/-- A departure after a delay is kept until its cycle has passed, since a boundary of the same cycle opens the Beat to which it belongs (R233, R234). -/
def sampleDeparture (p c delay : Nat) (s0 : State) : State :=
  let s := if (egressOf s0 p).departs.1 = s0.time.now then s0 else flushDeparts p s0
  let e := egressOf s p
  setEgress p { e with departs := (s.time.now, e.departs.2 ++ [(c, delay)]) } s

/-! ### Admission -/

/-- The class of a CQF pair that takes a replica, and whether it is misplaced (R224). -/
def cqfClass (s : State) (p c : Nat) : Nat × Bool :=
  let a := c / 2 * 2
  match gateOpenAt s p a (wtNow s), gateOpenAt s p (a + 1) (wtNow s) with
  | false, true => (a, false)
  | true, false => (a + 1, false)
  | _, _ => (a, true)

/-- The class that a replica enters on a port, and whether it is misplaced. -/
def admitClass (s : State) (p c : Nat) : Nat × Bool := if srCqf (schedOf s p) c then cqfClass s p c else (c, false)

/-- A misplaced replica is counted, in the pair's one counter: CQF_MIS of the even class; that of the odd class stays 0 (the model's choice, R224 and R237, log
entry 112). -/
def cqfMisplaced (p c : Nat) (s : State) : State := schedEvent p c 0x04 (schedCount p (9 + 8 * c) s)

/-- Whether a queue of depth d has room for a replica (R199): 0 admitted, 1 QMAX, 2 YMAX. -/
def admission (s : State) (p c d : Nat) (dei : Bool) : Nat :=
  if srQmax (schedOf s p) c ≤ d then 1 else if dei && srYmax (schedOf s p) c ≤ d then 2 else 0

/-- The launch instant of a replica at its admission, and whether it is late already (R229, R230). -/
def launchAt (s : State) (short : Option Nat) : Option Int × Bool :=
  match short with
  | some t => (some (ofShort (wtNow s) t), decide (shortDist (wtNow s) t ≤ 0))
  | none => (none, false)

/-- MIRROR_DROP of a session counts (R181). -/
def mirrorDropped (sess : Nat) (s : State) : State :=
  { s with fwd := { s.fwd with mirrorDrop := tset 0 s.fwd.mirrorDrop sess (satAdd 32 (tget 0 s.fwd.mirrorDrop sess) 1) } }

/-- A replica that a queue has not admitted in cycle at0 is dropped and counted (R181, R199, R237, R459). -/
def turnAway (p c why at0 : Nat) (r : Replica) (s : State) : State :=
  dropRep r (match r.mirror with
    | some sess => mirrorDropped sess s
    | none => egressGroup p c at0 (some 0x14) r (repBytes s p r) (countDrop p 0x14 (schedCount p (if why = 1 then 4 + 8 * c else 5 + 8 * c) s)))

/-- The replicas turned away on a port are dropped. -/
def dropRefused (p : Nat) (s : State) : State :=
  let x := (egressOf s p).refused
  if x.2 = [] then s
  else x.2.foldl (fun s y => turnAway p y.1 y.2.1 x.1 y.2.2 s) (setEgress p { egressOf s p with refused := (0, []) } s)

/-- Those of an earlier cycle are, since no departure can make room for them any more (R200). -/
def settleRefused (p : Nat) (s : State) : State := if (egressOf s p).refused.1 = s.time.now then s else dropRefused p s

/-- Replicas are admitted behind a queue in the order given: the queue, those turned away with the reason. -/
def admitAll (s : State) (p c : Nat) : List Replica → List Replica → List (Nat × Replica) → List Replica × List (Nat × Replica)
  | q, [], out => (q, out)
  | q, r :: l, out =>
    let a := admission s p c q.length r.dei
    if a = 0 then admitAll s p c (q ++ [r]) l out else admitAll s p c q l (out ++ [(a, r)])

/-- Replicas are turned away on a port in this cycle. -/
def noteRefused (p c : Nat) (l : List (Nat × Replica)) (s : State) : State :=
  if l = [] then s
  else
    let e := egressOf s p
    setEgress p { e with refused := (s.time.now, e.refused.2 ++ l.map (fun x => (c, x.1, x.2))) } s

/-- A replica takes its place by ascending ingress port. -/
def byPort (r : Replica) : List Replica → List Replica
  | [] => [r]
  | h :: t => if r.inPort < h.inPort then r :: h :: t else h :: byPort r t

/-- A departure has left q in the queue of a class: the replicas that have reached it in this cycle, those turned away among them, are admitted behind the
rest in ascending order of ingress port (R200). -/
def departed (p c : Nat) (q : List Replica) (s : State) : State :=
  let e := egressOf s p
  let mine := if e.refused.1 = s.time.now then e.refused.2.filter (fun x => x.1 = c) else []
  if mine = [] then setQueue p c q s
  else
    let fresh := q.dropWhile (fun x => x.admitted < s.time.now)
    let a := admitAll s p c (q.takeWhile (fun x => x.admitted < s.time.now)) (mine.foldl (fun l x => byPort x.2.2 l) fresh) []
    noteRefused p c a.2 (setQueue p c a.1 (setEgress p { e with refused := (s.time.now, e.refused.2.filter (fun x => x.1 ≠ c)) } s))

/-- A replica is admitted to its queue or dropped as QUEUE_FULL (R181, R199, R224). Replicas that reach the queue in one cycle stand in ascending order of
ingress port, and are admitted in that order, whichever command comes first; one that is turned away is dropped once its cycle has passed (R200). -/
def enterClass (p c0 : Nat) (short : Option Nat) (r : Replica) (s0 : State) : State :=
  let s := settleRefused p s0
  let (c, lost) := admitClass s p c0
  let r1 := { r with admitted := s.time.now, launch := (launchAt s short).1, late := (launchAt s short).2 }
  let q := queueOf (egressOf s p) c
  let later := q.reverse.takeWhile (fun x => x.admitted = s.time.now && decide (r.inPort < x.inPort))
  let a := admitAll s p c (q.take (q.length - later.length)) (r1 :: later.reverse) []
  let s1 := noteRefused p c a.2 (setQueue p c a.1 s)
  if lost && (r.mirror.isNone || a.1.contains r1) then cqfMisplaced p c s1 else s1

/-- A queue's entries are discarded and counted at the port under a reason. -/
def discardQueue (p c code : Nat) (s : State) : State :=
  (queueOf (egressOf s p) c).foldl (fun s r => dropReplica p c code r s) (setQueue p c [] s)

/-! ### The reference of a frame on the line -/

/-- The reference of the frame on a port's line is released once its last cell has been read (R186). -/
def txRelease (p : Nat) (s : State) : State :=
  match (egressOf s p).sending with
  | some t =>
    if !t.released && decide (t.done ≤ s.time.now + t.tail) then
      setEgress p { egressOf s p with sending := some { t with released := true } } (dropRep t.rep s)
    else s
  | none => s

/-- Every reference that is due is released, so that the cells read as they stand in this cycle. -/
def releaseLines (s : State) : State := s.egress.foldl (fun s e => txRelease e.1 (settleRefused e.1 s)) s

/-- A frame that stays on or off the line is given up with its reference. -/
def dropSending (t : Sending) (s : State) : State := if t.released then s else dropRep t.rep s

/-! ### A port leaves UP -/

/-- The queues of a port are discarded as LINK_DOWN, and what is on the line is cut (R135). -/
def discardPort (p : Nat) (s0 : State) : State :=
  let s := dropRefused p s0
  let e := egressOf s p
  let s1 := match e.sending with
    | some t => (if (portOf s p).loop = 0 && p ≠ 28 && decide (s.time.now < t.done) then emit (.cut s.time.now p) else id) (dropSending t s)
    | none => s
  let s2 := match e.preempted with
    | some (t, _) => dropSending t s1
    | none => s1
  let e2 := egressOf s2 p
  (List.range 8).foldl (fun s c => discardQueue p c 0x15 s) (setEgress p { e2 with sending := none, preempted := none, hold := false, free := s.time.now } s2)

/-- A port in DOWN has no in-band word, its configured speed (R124), and no alignment measured since a lane lock: each departure from UP or TRAINING counts as
the loss of the lock (the model's choice, R139, log entry 112). -/
def portFresh (r : Rec) (v : Port) : Port := { v with anDone := false, speed := speedCode r, measured := false }

/-- A port in UP takes another state, with the effects of R135 and R172. -/
def leaveUp (p : Nat) (st : LinkState) (s : State) : State :=
  let v := portFresh (portRec s p) (portOf s p)
  let s1 := setPort p { v with st := st, lastChange := s.time.now, down := satAdd 16 v.down 1, mergeAct := false, hold := none, downAt := some s.time.now } s
  portEvent p 1 0 (macFlush 0 p (timeLinkDown p (discardPort p s1)))

/-- A port takes a state other than UP. -/
def portTo (p : Nat) (st : LinkState) (s : State) : State :=
  let v := portOf s p
  if v.st = st then s
  else if v.st = .up then leaveUp p st s
  else setPort p { (if st = .training then v else portFresh (portRec s p) v) with st := st, lastChange := s.time.now } s

/-! ### Shapers -/

def shaperOf (s : State) (p c : Nat) : Shaper := tget {} (egressOf s p).shaper c
def setShaper (p c : Nat) (h : Shaper) (s : State) : State :=
  setEgress p { egressOf s p with shaper := tset {} (egressOf s p).shaper c h } s

/-- 2^-24 byte. -/
def credUnit : Int := 16777216

/-- The rate of a class: its record's, or the line rate when that is lower (R223). -/
def shaperRate (s : State) (p : Nat) (r : Rec) : Nat := min (rw r 1).toNat (lineRate s p * 125000)

/-- The refill of one tick in 2^-24 (R219, R254). -/
def refill (rate : Nat) : Nat := rate * 128 * 16777216 / 1000000000

/-- Credit or tokens held within the record's limits (R220, R221). -/
def clampCredit (alg : Nat) (r : Rec) (v : Int) : Int :=
  if alg = 1 then clampI (signed 32 (rw r 3).toNat * credUnit) ((rw r 2).toNat * credUnit) v
  else min v ((rw r 2).toNat * credUnit)

/-- One tick of a shaped class (R219 to R222); a set released takes effect at the first tick after its boundary (R23, R233). -/
def shaperTick (p c : Nat) (s : State) : State :=
  let h0 := shaperOf s p c
  let alg := srAlg (schedOf s p) c
  let due := match h0.released with | some (at0, r) => if at0 < s.time.now then some r else none | none => none
  let h := match due with
    | some r => { h0 with rec0 := r, released := none, credit := if alg = 0 then h0.credit else clampCredit alg r h0.credit }
    | none => h0
  let e := egressOf s p
  let gain : Int := refill (shaperRate s p h.rec0)
  let busy := queueOf e c ≠ [] || (match e.sending with | some t => t.cls = c && decide (s.time.now < t.done) | none => false)
    || (match e.preempted with | some (t, _) => t.cls = c | none => false)
  let opened := gateOpenAt s p c (wtNow s)
  let v :=
    if alg = 2 then clampCredit 2 h.rec0 (h.credit + gain)
    else if alg ≠ 1 || !opened then h.credit
    else if busy then clampCredit 1 h.rec0 (h.credit + gain)
    else if 0 < h.credit then 0
    else min 0 (clampCredit 1 h.rec0 (h.credit + gain))
  let exceeds := decide (lineRate s p * 125000 < (rw h.rec0 1).toNat)
  setShaper p c { h with credit := v, capped := exceeds || (h0.capped && due.isNone) } s

/-- A released port-scheduler record comes into force, and a class whose ALG changes starts anew (R204, R222, R236). -/
def schedTick (p : Nat) (s : State) : State :=
  let e := egressOf s p
  match e.schedReleased with
  | none => s
  | some (at0, r) =>
    if s.time.now ≤ at0 then s
    else
      let s1 := setEgress p { e with sched := r, schedReleased := none } s
      (List.range 8).foldl (fun s' c =>
        if srAlg r c = srAlg (schedOf s p) c then s'
        else
          let h := shaperOf s' p c
          let rec1 := match h.released with | some (at1, r1) => if at1 < s.time.now then r1 else h.rec0 | none => h.rec0
          setShaper p c { h with credit := if srAlg r c = 2 then (rw rec1 2).toNat * credUnit else 0 } s') s1

/-- Every shaper of a port at a refill tick. -/
def portTick (p : Nat) (s : State) : State :=
  (egressOf (schedTick p s) p).shaper.foldl (fun s e => shaperTick p e.1 s) (schedTick p s)

end Sys2Proof.Machine
end

