-- ==== Sys2Proof/Machine/FwOps.lean ====
section
/-!
DEFINITION. The zone firewall: zones, rules, verdicts, dry run, log, bypass, connection tracker (R269 to R303).
-/
namespace Sys2Proof.Machine

def intraRules (s : State) (bank z : Nat) : Bool := tget 0 (fwCycle s).attr (bank * 32 + z) / 2 % 2 = 1
def logDefault (s : State) (bank z : Nat) : Bool := tget 0 (fwCycle s).attr (bank * 32 + z) % 2 = 1

def ruleOf (s : State) (i : Nat) : Rec := tget [] s.fw.rule i
def ruValid (r : Rec) : Bool := flag r 0 31
def ruInBank (r : Rec) (b : Nat) : Bool := flag r 0 (30 - b)
def ruKtype (r : Rec) : Nat := fld r 0 28 26
def ruSrcZone (r : Rec) : Nat := fld r 0 25 21
def ruSrcAny (r : Rec) : Bool := flag r 0 20
def ruAction (r : Rec) : Nat := fld r 0 19 17
def ruTrack (r : Rec) : Bool := flag r 0 16
def ruTrace (r : Rec) : Bool := flag r 0 15
def ruLog (r : Rec) : Bool := flag r 0 14
def ruOverride (r : Rec) : Bool := flag r 0 13
def ruKey (r : Rec) : Rec := (r.drop 2).take 10

/-- What a frame or gateway request presents (R282): exact keys by type, in the order of R283; ternary keys by type with the bits present. -/
structure FwKeys where
  exact : List (Nat × Rec)
  ternary : List (Nat × Rec × Rec)

/-- Ten words of an exact key. -/
def key10 (l : Rec) : Rec := l ++ List.replicate (10 - l.length) 0

/-- Four words of an address. -/
def words4 (n : Nat) : Rec := [word (n / 2 ^ 96), word (n / 2 ^ 64), word (n / 2 ^ 32), word n]

/-- All-ones where a field is present. -/
def ones (o : Option Nat) (w : Nat) : Nat := if o.isSome then 2 ^ w - 1 else 0

/-- The keys of a frame through the switch (R279, R280, R282); an exact IP key needs its addresses and its protocol within the window (log entry 103). -/
def frameKeys (p : Parsed) (vid pcp : Nat) : FwKeys :=
  let et := p.etype.getD 0
  let l2 := fun (a : Nat) => key10 [word (a / 65536), packW [(16, a), (16, et)], packW [(12, vid), (20, 0)]]
  let l4 := p.src.isSome && p.dst.isSome && p.proto.isSome && ((p.sport.isSome && p.dport.isSome) || !(p.proto = some 6 || p.proto = some 17))
  let sp := p.sport.getD 0
  let dp := p.dport.getD 0
  let pr := p.proto.getD 0
  let src := p.src.getD 0
  let dst := p.dst.getD 0
  let ds := p.dscp.getD 0
  { exact :=
      (if p.ip = 6 && l4 then [(3, key10 (words4 src ++ words4 dst ++ [packW [(16, sp), (16, dp)], packW [(8, pr), (24, 0)]]))] else [])
      ++ (if p.ip = 4 && l4 then [(2, key10 [word src, word dst, packW [(16, sp), (16, dp)], packW [(8, pr), (24, 0)]])] else [])
      ++ (match p.streamId with | some i => if et = 0x22F0 then [(4, key10 (split64 i ++ [packW [(12, vid), (20, 0)]]))] else [] | none => [])
      ++ [(0, l2 p.da), (1, l2 p.sa)]
    ternary :=
      [(0, [word (p.da / 65536), packW [(16, p.da), (16, p.sa / 2 ^ 32)], word p.sa, packW [(16, et), (12, vid), (3, pcp), (1, 0)], 0],
           [0xFFFFFFFF, 0xFFFFFFFF, 0xFFFFFFFF, packW [(16, ones p.etype 16), (16, 0xFFFF)], 0])]
      ++ (if p.ip = 4 then [(2, [word src, word dst, packW [(16, sp), (16, dp)], packW [(8, pr), (6, ds), (12, vid), (6, 0)], 0],
           [word (ones p.src 32), word (ones p.dst 32), packW [(16, ones p.sport 16), (16, ones p.dport 16)],
            packW [(8, ones p.proto 8), (6, ones p.dscp 6), (12, 0xFFF), (6, 0)], 0])] else [])
      ++ (if p.ip = 6 then [(3, words4 dst ++ [packW [(16, dp), (8, pr), (8, 0)]], words4 (ones p.dst 128) ++ [packW [(16, ones p.dport 16), (8, ones p.proto 8), (8, 0)]]),
           (6, words4 src ++ [packW [(16, sp), (8, pr), (8, 0)]], words4 (ones p.src 128) ++ [packW [(16, ones p.sport 16), (8, ones p.proto 8), (8, 0)]])] else [])
      ++ (if et = 0x22F0 then [(4, split64 (p.streamId.getD 0) ++ [packW [(8, p.subtype.getD 0), (12, vid), (12, 0)], 0, 0],
           split64 (ones p.streamId 64) ++ [packW [(8, ones p.subtype 8), (12, 0xFFF), (12, 0)], 0, 0])] else []) }

/-- The key of a gateway request (R279, R286). -/
def busKey (bus : Nat) (f : CanFrame) : Rec := [packW [(5, bus), (3, f.format), (1, b2n f.rtr), (23, 0)], packW [(3, 0), (29, f.id)]]
def busKeys (bus : Nat) (f : CanFrame) : FwKeys :=
  { exact := [(5, key10 (busKey bus f))], ternary := [(5, busKey bus f ++ [0, 0, 0], [0xFFFFFFFF, 0xFFFFFFFF, 0, 0, 0])] }

/-- Word-wise: key and mask of an entry agree with a presented key, masked bits being present (R280, R282). -/
def ternaryMatch (entry : Rec) (key present : Rec) : Bool :=
  (List.range 5).all (fun i =>
    let m := rw entry (7 + i)
    (rw entry (2 + i) &&& m) = (rw key i &&& m) && (m &&& rw present i) = m)

/-- Whether an entry matches what is presented. -/
def ruleMatches (k : FwKeys) (i : Nat) (r : Rec) : Bool :=
  if i < 30720 then k.exact.any (fun e => e.1 = ruKtype r && e.2 = ruKey r)
  else k.ternary.any (fun e => e.1 = ruKtype r && ternaryMatch r e.2.1 e.2.2)

/-- Whether an entry covers (src, z) in a bank (R283). -/
def covers (bank src z : Nat) (r : Rec) : Bool :=
  ruValid r && ruInBank r bank && (ruSrcAny r || ruSrcZone r = src) && flag r 1 z

/-- The entries of a bank that match and cover (src, z), lowest index first; a write counts from the cycle after it (R275). -/
def candidates (s : State) (bank src : Nat) (k : FwKeys) (z : Nat) : List (Nat × Rec) :=
  (fwCycle s).rule.filter (fun e => covers bank src z e.2 && ruleMatches k e.1 e.2)

/-- What decides a zone (R283). -/
inductive Verdict where
  | bypass
  | rule (i : Nat) (r : Rec)
  | dflt (permit : Bool)
deriving DecidableEq, Repr

/-- The verdict of a bank for (src, z) without bypass (R283, R273); DENY where it reads an entry that awaits its rewrite, or is rewritten
in this cycle (R653, R659). -/
def verdict (s : State) (bank src : Nat) (k : FwKeys) (z : Nat) : Verdict :=
  let c := (candidates s bank src k z).filter (fun e => ruAction e.2 ≠ 4)
  let exactOf := fun (t : Nat) => c.find? (fun e => e.1 < 30720 && ruKtype e.2 = t)
  if c.any (fun e => s.fw.bad.contains e.1 || (fwCycle s).bad.contains e.1) then .dflt false
  else match (c.find? (fun e => 30720 ≤ e.1 && ruOverride e.2)).or (([5, 3, 2, 4, 0, 1].findSome? exactOf).or (c.find? (fun e => 30720 ≤ e.1 && !ruOverride e.2))) with
  | some e => .rule e.1 e.2
  | none => .dflt (src = z && !intraRules s bank src)

/-- The pairs bypassed now, each until its expiry (R296), and whether a pair is one. -/
def liveBypass (s : State) : List (Nat × Nat × Nat) := s.fw.bypass.filter (fun b => s.time.now < b.2.2)
def bypassed (s : State) (src z : Nat) : Bool := (liveBypass s).any (fun b => b.1 = src && b.2.1 = z)

def enforced (s : State) (src : Nat) (k : FwKeys) (z : Nat) : Verdict :=
  if bypassed s src z then .bypass else verdict s s.fw.bank src k z

/-! ### Counters -/

/-- A counter of a kind and index has counted in this cycle, which a clear of the cycle leaves (R303). -/
def fwCounted (kind i : Nat) (s : State) : State := fwNote (fun c => { c with counted := (kind, i) :: c.counted }) s

/-- The counters of a kind that have counted in this cycle, after a clear (R303). -/
def recounted (s : State) (kind : Nat) (keep : Nat → Bool) (t : Tab Nat) : Tab Nat :=
  ((fwCycle s).counted.filter (fun x => x.1 = kind && keep x.2)).foldl (fun t x => tset 0 t x.2 (satAdd 32 (tget 0 t x.2) 1)) t

/-- Status counter word w (R301). -/
def fwStatus (w : Nat) (s0 : State) : State :=
  let s := fwCounted 0 w s0
  { s with fw := { s.fw with counts := tset 0 s.fw.counts w (satAdd 32 (tget 0 s.fw.counts w) 1) } }

/-- Zone pair counter k: 0 PERMIT, 1 DENY, 2 CONTROL, 3 BYPASSED, 4 DIFF. -/
def pairCount (src dst k : Nat) (s0 : State) : State :=
  let i := (src * 32 + dst) * 5 + k
  let s := fwCounted 1 i s0
  { s with fw := { s.fw with pairs := tset 0 s.fw.pairs i (satAdd 32 (tget 0 s.fw.pairs i) 1) } }

def hitRule (i : Nat) (s0 : State) : State :=
  let s := fwCounted 2 i s0
  { s with fw := { s.fw with hits := tset 0 s.fw.hits i (satAdd 32 (tget 0 s.fw.hits i) 1) } }
def shadowHit (i : Nat) (s0 : State) : State :=
  let s := fwCounted 3 i s0
  { s with fw := { s.fw with shadowHits := tset 0 s.fw.shadowHits i (satAdd 32 (tget 0 s.fw.shadowHits i) 1) } }

/-! ### Connection tracker -/

/-- A tracker entry's tuple: protocol, originator, responder (address, port), zones (R287). -/
structure Tuple where
  v6 : Bool
  proto : Nat
  a : Nat × Nat
  b : Nat × Nat
  za : Nat
  zb : Nat
deriving DecidableEq, Repr

def trTuple (r : Rec) : Tuple :=
  let addr := fun i => cat64 (rw r i) (rw r (i + 1)) * 2 ^ 64 + cat64 (rw r (i + 2)) (rw r (i + 3))
  ⟨flag r 0 30, fld r 0 17 10, (addr 2, fld r 1 31 16), (addr 6, fld r 1 15 0), fld r 0 27 23, fld r 0 22 18⟩
def trState (r : Rec) : Nat := fld r 0 29 28
def trRule (r : Rec) : Nat := fld r 10 14 0

/-- A frame's tuple toward a zone, when it is TCP or UDP with ports present. -/
def frameTuple (p : Parsed) (src z : Nat) : Option Tuple :=
  match p.src, p.dst, p.sport, p.dport, p.proto with
  | some a, some b, some x, some y, some pr => some ⟨p.ip = 6, pr, (a, x), (b, y), src, z⟩
  | _, _, _, _, _ => none

/-- The same tuple without regard to the direction of pairs and of zones (R287). -/
def sameTuple (t u : Tuple) : Bool :=
  t.v6 = u.v6 && t.proto = u.proto && ((t.a = u.a && t.b = u.b) || (t.a = u.b && t.b = u.a)) && ((t.za = u.za && t.zb = u.zb) || (t.za = u.zb && t.zb = u.za))

/-- A tuple matches an entry for PERMIT_EST: pairs in either direction, zones in either order (R289). -/
def trackerBucket (t : Tuple) : Nat :=
  let lo := if t.a.1 * 65536 + t.a.2 ≤ t.b.1 * 65536 + t.b.2 then t.a else t.b
  let hi := if t.a.1 * 65536 + t.a.2 ≤ t.b.1 * 65536 + t.b.2 then t.b else t.a
  let w := if t.v6 then 128 else 32
  crc32 [(8, t.proto), (w, lo.1), (16, lo.2), (w, hi.1), (16, hi.2), (5, min t.za t.zb), (5, max t.za t.zb)] % 2048

/-- The slot of a tracker that holds a tuple. -/
def trackerSlot (tab : Tab Rec) (t : Tuple) : Option Nat :=
  (macWays (trackerBucket t)).find? (fun k => let r := tget [] tab k; flag r 0 31 && sameTuple (trTuple r) t)
def trackerFind (s : State) (t : Tuple) : Option Nat := trackerSlot s.fw.tracker t
def setTracker (k : Nat) (r : Rec) (s : State) : State := { s with fw := { s.fw with tracker := tset [] s.fw.tracker k r } }

/-- Whether PERMIT_EST finds an entry, in the tracker as the cycle found it (R289). -/
def estFound (s : State) (p : Parsed) (src z : Nat) : Bool :=
  match frameTuple p src z with
  | some t => (trackerSlot (fwCycle s).tracker t).isSome
  | none => false

/-- The timeout of a state (R290). -/
def trackerTimeout (s : State) (proto state : Nat) : Nat :=
  match state with
  | 0 => s.fw.toNew
  | 1 => if proto = 6 then s.fw.toTcp else s.fw.toUdp
  | _ => s.fw.toClose

/-- Whether a TCP frame carries FIN or RST. -/
def closes (p : Parsed) : Bool := p.proto = some 6 && (match p.tcpFlags with | some f => f % 2 = 1 || f / 4 % 2 = 1 | none => false)

/-- An entry as a frame updates it (R290). -/
def trackerTouched (s : State) (p : Parsed) (t : Tuple) (r : Rec) : Rec :=
  let u := trTuple r
  let reply := decide (t.a = u.b && t.b = u.a)
  let st := if closes p then 2 else if reply && trState r = 0 then 1 else trState r
  [packW [(1, 1), (1, b2n u.v6), (2, st), (5, u.za), (5, u.zb), (8, u.proto), (10, 0)], rw r 1, rw r 2, rw r 3, rw r 4, rw r 5,
    rw r 6, rw r 7, rw r 8, rw r 9, packW [(16, trackerTimeout s u.proto st), (1, 0), (15, trRule r)], word (satAdd 32 (rw r 11).toNat 1)]

/-- The entry that a frame creates (R288, R290). -/
def trackerNew (s : State) (rule : Nat) (p : Parsed) (t : Tuple) : Rec :=
  let st := if closes p then 2 else 0
  [packW [(1, 1), (1, b2n t.v6), (2, st), (5, t.za), (5, t.zb), (8, t.proto), (10, 0)], packW [(16, t.a.2), (16, t.b.2)]]
    ++ words4 t.a.1 ++ words4 t.b.1 ++ [packW [(16, trackerTimeout s t.proto st), (1, 0), (15, rule)], 1]

/-- Whether a flush command, by its word, covers an entry (R292). -/
def flushCovers (w : Word) (r : Rec) : Bool :=
  match bits w 31 30 with
  | 0 => fld r 0 27 23 = bits w 29 25 && fld r 0 22 18 = bits w 24 20
  | 1 => trRule r = bits w 14 0
  | _ => true

/-- The slot and the entry of a tuple; one that a sweep of this cycle has removed, and no flush, is still there for a refresh (R303). -/
def trackerLook (s : State) (t : Tuple) : Option (Nat × Rec) :=
  match trackerFind s t with
  | some k => some (k, tget [] s.fw.tracker k)
  | none => (fwCycle s).swept.find? (fun e =>
      sameTuple (trTuple e.2) t && decide (tget [] s.fw.tracker e.1 = []) && !(fwCycle s).flushes.any (fun w => flushCovers w e.2))

/-- A frame takes its place among those of its cycle, by ascending ingress port. -/
def insertTrack (f : TrackFrame) : List TrackFrame → List TrackFrame
  | [] => [f]
  | h :: r => if f.port < h.port then f :: h :: r else h :: insertTrack f r

/-- The entry that frames of one cycle leave, in their order: the first creates it, the others refresh it (R303). -/
def trackReplay (s : State) (l : List TrackFrame) : Option Rec :=
  l.foldl (fun o f => match frameTuple f.parsed f.src f.dst, o with
    | none, _ => o
    | some t, some r => some (trackerTouched s f.parsed t r)
    | some t, none => f.rule.map (fun i => trackerNew s i f.parsed t)) none

/-- A frame of a port meets the tracker for one zone: it refreshes its entry, or creates it under the entry rule, or finds the bucket full (R288, R290, R291).
Frames of one cycle act in the order of their ports, whichever command comes first (R303). -/
def trackerFrame (port : Nat) (rule : Option Nat) (p : Parsed) (src z : Nat) (s : State) : State :=
  match frameTuple p src z with
  | none => s
  | some t =>
    match trackerLook s t with
    | some (k, r) =>
      let f : TrackFrame := ⟨k, port, rule, p, src, z⟩
      let mine := (fwCycle s).frames.filter (fun x => x.slot = k)
      let all := insertTrack f mine
      let s1 := fwNote (fun c => { c with touched := k :: c.touched, frames := if mine = [] then c.frames else all ++ c.frames.filter (fun x => x.slot ≠ k) }) s
      setTracker k (if mine = [] then trackerTouched s p t r else (trackReplay s all).getD r) s1
    | none =>
      match rule with
      | none => s
      | some i =>
        let r := trackerNew s i p t
        if (fwCycle s).flushes.any (fun w => flushCovers w r) then s
        else match (macWays (trackerBucket t)).find? (fun k => tget [] s.fw.tracker k = []) with
          | none => fwEvent 2 0 (fwStatus 2 s)
          | some k => setTracker k r (fwNote (fun c => { c with touched := k :: c.touched, frames := ⟨k, port, some i, p, src, z⟩ :: c.frames }) s)

/-- The tracker at stage 8 (R288, R290): zones are those of the frame's destinations. -/
def trackerStage8 (port : Nat) (rule : Option Nat) (p : Parsed) (src : Nat) (zones : List Nat) (nDest : Nat) (s : State) : State :=
  let touched := fun (s : State) => zones.eraseDups.foldl (fun s z => trackerFrame port none p src z s) s
  match rule, frameTuple p src (zones.headD 0) with
  | some i, some _ => if nDest = 1 then trackerFrame port (some i) p src (zones.headD 0) s else touched (fwStatus 3 s)
  | _, _ => touched s

/-- The sweep of every second (R290): a TTL at 0 after its decrement removes the entry. An entry refreshed in this cycle keeps its TTL (R303). -/
def trackerSweepAll (s0 : State) : State :=
  let fresh := (fwCycle s0).touched
  let gone := fun (k : Nat) (r : Rec) => !fresh.contains k && decide (fld r 10 31 16 ≤ 1)
  let s := fwNote (fun c => { c with swept := s0.fw.tracker.filter (fun e => gone e.1 e.2) }) s0
  { s with fw := { s.fw with tracker := tmap [] s.fw.tracker (fun k r =>
      if fresh.contains k then r else if gone k r then [] else r.set 10 (packW [(16, fld r 10 31 16 - 1), (1, 0), (15, trRule r)])) } }

/-! ### Log and dry run -/

/-- A firewall log record for a token (R299, R300). -/
def fwLog (src z n action rule origin : Nat) (gw : Bool) (s : State) : State :=
  if s.fw.tokens < 1000000000 then fwEvent 4 0 (fwStatus 5 s)
  else
    csPush 0x0B [pack64 [(5, src), (5, z), (6, n), (3, action), (16, rule), (7, origin), (1, b2n gw), (21, 0)]]
      (fwStatus 6 { s with fw := { s.fw with tokens := s.fw.tokens - 1000000000 } })

/-- The classes of R294: 0 PERMIT, 1 DENY, 2 CONTROL; a gateway request knows only the first two. -/
def classOf (s : State) (gw : Bool) (p : Parsed) (src z : Nat) : Verdict → Nat
  | .bypass => 0
  | .dflt ok => if ok then 0 else 1
  | .rule _ r => match ruAction r with
    | 1 => 0
    | 2 => if !gw && estFound s p src z then 0 else 1
    | 3 => if gw then 1 else 2
    | _ => 1

/-- RULE of R453. -/
def ruleValue : Verdict → Nat
  | .bypass => 0x8001
  | .dflt _ => 0x8000
  | .rule i _ => i

/-- A destination of a verdict: its member, as kind and index. -/
structure FwDest where
  kind : Nat
  index : Nat
deriving DecidableEq, Repr

/-- DST_PORT of a destination in a dry-run record: a mailbox stands behind port 29, and a bus has its number of R279 (R294, R453; log entry 103). -/
def dstPort (d : FwDest) : Nat := if d.kind = 3 then 29 else if d.kind = 2 then 24 + d.index else d.index

/-- The entries whose HITS a frame counts: those that decided a zone or matched as COUNT_ONLY (R285). -/
def hitList (s : State) (bank src : Nat) (k : FwKeys) (zs : List Nat) (byp : Bool) : List Nat :=
  let live := zs.filter (fun z => !(byp && bypassed s src z))
  (live.flatMap (fun z =>
    (match verdict s bank src k z with | .rule i _ => [i] | _ => [])
      ++ ((candidates s bank src k z).filter (fun e => ruAction e.2 = 4)).map (·.1))).eraseDups

/-- The dry run over the destinations of a frame or request (R293, R294). srcKind, srcIdx: the source member. -/
def dryRun (gw : Bool) (srcKind srcIdx origin : Nat) (k : FwKeys) (p : Parsed) (ds : List FwDest) (enf : FwDest → Verdict) (s : State) : State :=
  if !s.fw.dryRun then s
  else
    let sh := 1 - s.fw.bank
    let src := zoneOf s sh srcKind srcIdx
    let es := zoneOf s s.fw.bank srcKind srcIdx
    let zs := (ds.map (fun d => zoneOf s sh d.kind d.index)).eraseDups
    let s1 := (hitList s sh src k zs false).foldl (fun s i => shadowHit i s) s
    (ds.foldl (fun (st : State × List Nat) d =>
      let z := zoneOf s sh d.kind d.index
      let v := verdict s sh src k z
      let e := enf d
      let c := classOf s gw p src z v
      let ec := classOf s gw p es (zoneOf s s.fw.bank d.kind d.index) e
      if c = ec then st
      else
        let s2 := if st.2.contains z then st.1 else fwEvent 1 0 (pairCount src z 4 st.1)
        let s3 := if s2.fw.diffLeft = 0 then s2
          else fwStatus 7 (csPush 0x0C [pack64 [(5, src), (5, z), (2, ec), (2, c), (16, ruleValue e), (16, ruleValue v), (7, origin), (5, dstPort d), (6, 0)]]
            { s2 with fw := { s2.fw with diffLeft := s2.fw.diffLeft - 1 } })
        (s3, z :: st.2)) (s1, [])).1

/-- The counters and the log of a judgement over zones zs; each deciding entry, and each default, writes one record (R285, R296, R299, R301). -/
def judgeCount (gw : Bool) (origin src : Nat) (k : FwKeys) (p : Parsed) (zs : List Nat) (s : State) : State :=
  let s1 := (hitList s s.fw.bank src k zs true).foldl (fun s i => hitRule i s) s
  let s2 := zs.foldl (fun s z =>
    match enforced s src k z with
    | .bypass => pairCount src z 3 s
    | v => match classOf s gw p src z v with
      | 0 => pairCount src z 0 s
      | 1 =>
        let s' := pairCount src z 1 s
        (match v with
          | .rule _ r => if ruAction r = 2 && !gw then fwEvent 9 0 (fwStatus 4 s') else s'
          | _ => s')
      | _ => pairCount src z 2 s) s1
  let logged := zs.filter (fun z => match enforced s src k z with
    | .rule _ r => ruLog r
    | .dflt _ => logDefault s s.fw.bank src
    | .bypass => false)
  let what := fun (z : Nat) =>
    let v := enforced s src k z
    (ruleValue v, match v with | .rule _ r => ruAction r | .dflt true => 6 | _ => 7)
  ((logged.map what).eraseDups).foldl (fun s d =>
    let l := logged.filter (fun z => what z = d)
    fwLog src (l.headD 0) l.length d.2 d.1 origin gw s) s2

/-- A gateway request: its verdict, with its counters (R286). -/
def gatewayRequest (srcKind srcIdx bus : Nat) (f : CanFrame) (origin : Nat) (d : FwDest) (s : State) : Bool × State :=
  let k := busKeys bus f
  let src := zoneOf s s.fw.bank srcKind srcIdx
  let z := zoneOf s s.fw.bank d.kind d.index
  let s1 := dryRun true srcKind srcIdx origin k {} [d] (fun _ => enforced s src k z) (judgeCount true origin src k {} [z] s)
  (classOf s true {} src z (enforced s src k z) = 0, s1)

/-! ### Bypass -/

/-- A bypass of a pair ends (R296). -/
def endBypass (src dst : Nat) (s : State) : State :=
  if s.fw.bypass.any (fun b => b.1 = src && b.2.1 = dst) then
    fwEvent 6 0 { s with fw := { s.fw with bypass := s.fw.bypass.filter (fun b => !(b.1 = src && b.2.1 = dst)) } }
  else s

/-- BYPASS_LOCK is set: every bypass ends (R297). -/
def endAllBypass (s : State) : State := s.fw.bypass.foldl (fun s b => endBypass b.1 b.2.1 s) s

end Sys2Proof.Machine
end

