-- ==== Sys2Proof/Machine/StreamOps.lean ====
section
/-!
DEFINITION. Stream filters, gates, meters and FRER functions (R239 to R268).
-/
namespace Sys2Proof.Machine

/-- The stream event with the number of the object (R268). -/
def streamEvent (cause obj : Nat) (s : State) : State := systemEventD 3 cause (obj % 2 ^ 32) s

def filterOf (s : State) (i : Nat) : Filter := tget {} s.str.filter i
def setFilter (i : Nat) (f : Filter) (s : State) : State := { s with str := { s.str with filter := tset {} s.str.filter i f } }
def meterOf (s : State) (i : Nat) : Meter := tget {} s.str.meter i
def setMeter (i : Nat) (m : Meter) (s : State) : State := { s with str := { s.str with meter := tset {} s.str.meter i m } }
def genOf (s : State) (i : Nat) : Generation := tget {} s.str.gen i
def setGen (i : Nat) (g : Generation) (s : State) : State := { s with str := { s.str with gen := tset {} s.str.gen i g } }
def rcvOf (s : State) (i : Nat) : Recovery := tget {} s.str.rcv i
def setRcv (i : Nat) (r : Recovery) (s : State) : State := { s with str := { s.str with rcv := tset {} s.str.rcv i r } }

def fiGateEn (r : Rec) : Bool := flag r 0 15
def fiGate (r : Rec) : Nat := fld r 0 14 4
def fiMeterEn (r : Rec) : Bool := flag r 1 31
def fiMeter (r : Rec) : Nat := fld r 1 30 19

/-- The filter that a handle's frame passes (R163, R239). -/
def filterIndex (s : State) (h : Option Nat) : Option Nat :=
  match h with
  | some k => if flag (handleOf s k) 0 26 then some (fld (handleOf s k) 0 25 14) else none
  | none => none

/-- A stream gate is latched closed; a clear in the same cycle leaves it so (R250 to R252). -/
def sgateLatch (i : Nat) (s : State) : State :=
  let g := sgateOf s i
  let s1 := setSgate i { g with latched := true, latchedAt := some s.time.now } s
  if g.latched then s1 else streamEvent 0x03 i s1

/-- A pending stream gate list comes into force once working time w has reached its S (R210, R249). -/
def sgateListAt (i : Nat) (w : Int) (s : State) : State :=
  let g := sgateOf s i
  match g.pending with
  | none => s
  | some l => if w < l.start then s else setSgate i { g with
      force := some l, pending := none, busy := false, prev := g.force, since := s.time.now, octets := (l.start, 0) } s

/-- Every stream gate whose pending list working time w has reached. -/
def sgateListsAt (w : Int) (s : State) : State := s.str.gate.foldl (fun s e => sgateListAt e.1 w s) s

/-- The class, occurrence, drop reason and state after stage 4 (R239, R245, R250). x: the stamp in 2^-16 ns. -/
def stage4 (x : Int) (h : Option Nat) (tc : Nat) (s : State) : Nat × Option (Nat × Int) × Option Nat × State :=
  match filterIndex s h with
  | none => (tc, none, none, s)
  | some i =>
    let f := { filterOf s i with matched := satAdd 32 (filterOf s i).matched 1 }
    if f.blocked then (tc, none, some 0x0A, setFilter i { f with blockDrop := satAdd 32 f.blockDrop 1 } s)
    else
      let s1 := setFilter i f s
      if !fiGateEn f.rec0 then (tc, none, none, s1)
      else
        let gi := fiGate f.rec0
        let g := sgateOf s1 gi
        let w := wtOfStamp s1 x
        let (opened, ipv, _, _, st) := sgateIn s1 (sgateFor g x w) w
        if opened && !g.latched then (ipv.getD tc, some (gi, st), none, s1)
        else
          let g1 := { g with gateDrop := satAdd 32 g.gateDrop 1 }
          let s2 := setSgate gi g1 s1
          (tc, none, some 0x0B,
            if !opened && flag g.rec0 0 25 then sgateLatch gi s2 else s2)

/-- Steps 1 to 3 of R240 on a frame of len bytes with the DEI received: the drop reason, the DEI that leaves, the state. -/
def filterSteps (len : Nat) (h : Option Nat) (occ : Option (Nat × Int)) (dei : Bool) (s : State) : Option Nat × Bool × State :=
  match filterIndex s h with
  | none => (none, dei, s)
  | some i =>
    let f := filterOf s i
    let max := fld f.rec0 0 30 17
    if max ≠ 0 && max < len then
      let f1 := { f with
        sduDrop := satAdd 32 f.sduDrop 1, blocked := f.blocked || flag f.rec0 0 16
        blockedAt := if flag f.rec0 0 16 then some s.time.now else f.blockedAt }
      (some 0x0A, dei, if flag f.rec0 0 16 then streamEvent 0x02 i (setFilter i f1 s) else setFilter i f1 s)
    else
      let (d2, s2) := match occ with
        | none => (none, s)
        | some (gi, st) =>
          let g := sgateOf s gi
          let now := sgateAt s g (wtNow s)
          if now.2.2.2.2 ≠ st then (none, s)
          else
            let used := if g.octets.1 = st then g.octets.2 else 0
            let lim := now.2.2.1
            if lim ≠ 0 && lim < used + len then
              let s1 := setSgate gi { g with octetDrop := satAdd 32 g.octetDrop 1 } s
              (some 0x0B, if flag g.rec0 0 24 then sgateLatch gi s1 else s1)
            else (none, setSgate gi { g with octets := (st, used + len) } s)
      match d2 with
      | some c => (some c, dei, s2)
      | none =>
        let pass := fun (s : State) => setFilter i { filterOf s i with passed := satAdd 32 (filterOf s i).passed 1 } s
        if !fiMeterEn f.rec0 then (none, dei, pass s2)
        else
          let mi := fiMeter f.rec0
          let m := meterOf s2 mi
          let b := (if flag m.rec0 0 30 then 1 else len) * 16777216
          let yellowIn := flag m.rec0 0 29 && dei
          let marked := m.markRed || m.unmarked = some s.time.now
          let red := marked || m.tp < b
          let green := !red && !yellowIn && b ≤ m.tc
          if red then
            let m1 := { m with
              redDrop := satAdd 32 m.redDrop 1, markRed := marked || flag m.rec0 0 27, redAt := some s.time.now }
            (some 0x0C, dei, if m1.markRed && !marked then streamEvent 0x04 mi (setMeter mi m1 s2) else setMeter mi m1 s2)
          else if green then (none, dei, pass (setMeter mi { m with tp := m.tp - b, tc := m.tc - b, green := satAdd 32 m.green 1 } s2))
          else
            let m1 := { m with tp := m.tp - b, yellow := satAdd 32 m.yellow 1 }
            if flag m.rec0 0 28 then (some 0x0C, dei, setMeter mi { m1 with redDrop := satAdd 32 m1.redDrop 1 } s2)
            else (none, true, pass (setMeter mi m1 s2))

/-- One tick of a meter; a set released takes effect at the first tick after its boundary (R23, R254, R257). -/
def meterTick (i : Nat) (s : State) : State :=
  let m := meterOf s i
  let cap := fun (r : Rec) (w v : Nat) => min v ((rw r w).toNat * 16777216)
  let m1 := match m.released with
    | none => m
    | some (at0, r) =>
      if s.time.now ≤ at0 then m
      else
      let fresh := flag r 0 31 && (!flag m.rec0 0 31 || flag r 0 30 != flag m.rec0 0 30)
      { m with
        rec0 := r, released := none
        tc := if fresh then (rw r 2).toNat * 16777216 else cap r 2 m.tc
        tp := if fresh then (rw r 4).toNat * 16777216 else cap r 4 m.tp }
  setMeter i { m1 with tc := cap m1.rec0 2 (m1.tc + refill (rw m1.rec0 1).toNat), tp := cap m1.rec0 4 (m1.tp + refill (rw m1.rec0 3).toNat) } s

/-! ### FRER -/

def rvHistory (r : Rec) : Nat := fld r 0 24 19
def rvInOrder (r : Rec) : Bool := flag r 0 29

/-- Zero bits among positions lo to hi - 1 of a history. -/
def zeroBits (h lo hi : Nat) : Nat := ((List.range (hi - lo)).filter (fun i => !h.testBit (lo + i))).length

/-- A recovery function decides a frame with sequence number n, or none without R-TAG: whether it passes (R262). In the cycle of an expiry the frame is
decided as before it, and the expiry stands, whichever command comes first (log entry 99). -/
def recover (fr : Recovery) (now : Nat) (n : Option Nat) : Bool × Recovery :=
  let r := fr.rec0
  let expiry := fr.expired.filter (fun e => e.1 = now)
  let takeAny := match expiry with | some e => e.2 | none => fr.takeAny
  let after := expiry.isSome
  let due := match fr.timer with | some st => decide (st + fld r 1 31 16 * 1000000 ≤ now) | none => false
  let ok := fun (v : Recovery) => (true, { v with
    passed := satAdd 32 v.passed 1, timer := if after then none else if due then fr.timer else some now, passedP := v.passedP + if flag r 0 26 then 1 else 0 })
  let dup := fun (v : Recovery) => (false, { v with dup := satAdd 32 v.dup 1, dupD := v.dupD + if flag r 0 26 then 1 else 0 })
  match n with
  | none =>
    let v := { fr with tagless := satAdd 32 fr.tagless 1 }
    if flag r 0 28 then ok v else (false, v)
  | some s =>
    if takeAny then ok { fr with r := s, hist := 1, takeAny := after, expired := fr.expired.map (fun e => (e.1, false)) }
    else
      let d := signed 16 (s + 65536 - fr.r)
      let H := rvHistory r
      if flag r 0 30 then
        if d = 0 then dup fr
        else if d < 0 && rvInOrder r then (false, { fr with oooDiscard := satAdd 32 fr.oooDiscard 1 })
        else ok { fr with r := s }
      else if (H : Int) ≤ d || d ≤ -(H : Int) then (false, { fr with rogue := satAdd 32 fr.rogue 1 })
      else if 0 < d then
        let k := d.toNat
        ok { fr with lost := satAdd 32 fr.lost (zeroBits fr.hist (H - k) H), hist := (fr.hist * 2 ^ k + 1) % 2 ^ H, r := s }
      else if fr.hist.testBit (-d).toNat then dup fr
      else if rvInOrder r then (false, { fr with oooDiscard := satAdd 32 fr.oooDiscard 1 })
      else ok { fr with hist := fr.hist ||| 2 ^ (-d).toNat, ooo := satAdd 32 fr.ooo 1 }

/-- Steps 4 and 5 of R240: the drop reason, the number that the replicas carry, whether the R-TAG comes off. -/
def frerSteps (h : Option Nat) (rtag : Option Nat) (s : State) : Option Nat × Option Nat × Bool × State :=
  match h with
  | none => (none, none, false, s)
  | some k =>
    let r := handleOf s k
    let (ok, pop, s1) :=
      if flag r 1 20 then
        let i := fld r 1 19 10
        let v := recover (rcvOf s i) s.time.now rtag
        (v.1, flag (rcvOf s i).rec0 0 27, setRcv i v.2 s)
      else (true, false, s)
    if !ok then (some 0x0D, none, false, s1)
    else if flag r 1 31 then
      let i := fld r 1 30 21
      let g := genOf s1 i
      (none, some g.seq, false, setGen i { g with seq := (g.seq + 1) % 65536, generated := satAdd 32 g.generated 1 } s1)
    else (none, none, pop, s1)

/-! ### Refill ticks -/

/-- The log tokens rise, in 10^-9 record (R300). -/
def logTick (s : State) : State :=
  { s with fw := { s.fw with tokens := min (s.fw.logBurst * 1000000000) (s.fw.tokens + s.fw.logRate * 128) } }

/-- A refill tick, every 128 ns of local time, once in its cycle and before the starts and frames of the cycle, whichever command comes first (R219, R233,
R241, R254, R300). -/
def refillNow (s : State) : State :=
  if s.time.now % 128 ≠ 0 || s.str.tickAt = some s.time.now then s
  else
    let s1 := s.egress.foldl (fun s e => portTick e.1 s) { s with str := { s.str with tickAt := some s.time.now } }
    logTick (s1.str.meter.foldl (fun s e => meterTick e.1 s) s1)

end Sys2Proof.Machine
end

