-- ==== Sys2Proof/Machine/NmOps.lean ====
section
/-!
DEFINITION. Network sleep: segments and their states, need timers, wake requests, keep-alives received, the offender log (R367 to R386).
-/
namespace Sys2Proof.Machine

def segOf (s : State) (i : Nat) : Segment := tget {} s.nm.seg i
def setSeg (i : Nat) (g : Segment) (s : State) : State := { s with nm := { s.nm with seg := tset {} s.nm.seg i g } }
def segManaged (g : Segment) : Bool := flag g.rec0 0 25
/-- A segment in SHUTDOWN, SLEEP or WAKING takes no traffic; one with NM_EN clear is in such a state only in a standby entry, which shuts all down (R364, R372,
R374). -/
def segIsolated (g : Segment) : Bool := decide (2 ≤ g.state)
def segHoldMax (g : Segment) : Nat := fld g.rec0 0 15 10
/-- READY_MS, PREP_MS and TX_MS in ns, the defaults for a segment without a record (R368). -/
def segReady (g : Segment) : Nat := (if g.rec0 = [] then 1000 else fld g.rec0 1 31 18) * 1000000
def segPrep (g : Segment) : Nat := (if g.rec0 = [] then 300 else fld g.rec0 1 17 7) * 1000000
def segTxMs (g : Segment) : Nat := (if g.rec0 = [] then 500 else fld g.rec0 2 31 21) * 1000000
def segPnc (g : Segment) : Nat := cat64 (rw g.rec0 6) (rw g.rec0 7)
def segWakeTc (g : Segment) (c : Nat) : Bool := flag g.rec0 0 (16 + c)

/-- The NM settings by default (R387). -/
def nmSettingsDefault : Rec := [packW [(11, 500), (8, 8), (10, 200), (3, 0)], packW [(11, 60), (11, 60), (10, 0)], packW [(11, 30), (21, 0)], 0]
def nmSettings (s : State) : Rec := if s.nm.settings = [] then nmSettingsDefault else s.nm.settings
def nmValidMs (s : State) : Nat := fld (nmSettings s) 0 31 21 * 1000000
def nmFalseMax (s : State) : Nat := fld (nmSettings s) 0 20 13
def nmWakeTo (s : State) : Nat := fld (nmSettings s) 0 12 3 * 1000000
def nmEnforce (s : State) : Bool := flag (nmSettings s) 0 2
def minuteNs : Nat := 60000000000
def nmFalseWin (s : State) : Nat := fld (nmSettings s) 1 31 21 * minuteNs
def nmBackoff (s : State) : Nat := fld (nmSettings s) 1 20 10 * minuteNs
def nmOffenderMin (s : State) : Nat := fld (nmSettings s) 2 31 21 * minuteNs

def sourceOf (s : State) (i : Nat) : WakeSource := tget {} s.nm.source i
def setSource (i : Nat) (v : WakeSource) (s : State) : State := { s with nm := { s.nm with source := tset {} s.nm.source i v } }
def wsEnabled (v : WakeSource) : Bool := flag v.rec0 0 26
def wsNoMask (v : WakeSource) : Bool := flag v.rec0 0 23
def wsIgn (v : WakeSource) : Bool := flag v.rec0 0 22
def wsMask (v : WakeSource) : Nat := cat64 (rw v.rec0 1) (rw v.rec0 2)

/-- The wake-transition record of a segment (R390, R453). -/
def segRecord (i old new kind src : Nat) (s : State) : State :=
  csPush 0x08 [pack64 [(2, 2), (2, 0), (6, if kind = 1 then src else 0x3F), (6, i), (3, old), (3, new), (3, kind), (39, 0)]] s

/-- A segment takes a state, with its record and event (R372, R390). -/
def segTo (i new : Nat) (s : State) : State :=
  let g := segOf s i
  let s1 := segRecord i g.state new g.wakeKind g.wakeSrc (setSeg i { g with state := new, kaLast := none } s)
  match new with
  | 0 => nmEvent 23 i (if g.state = 1 then nmEvent 21 i s1 else s1)
  | 1 => nmEvent 20 i s1
  | 3 => nmEvent 22 i s1
  | _ => s1

def clusterNeeded (s : State) (c : Nat) : Bool := (tget none s.nm.cluster c).isSome || s.nm.host.any (fun h => h.1 && h.2.1 = c)

/-- The needed clusters of a segment's PNC_MASK (R389). -/
def neededClusters (s : State) (g : Segment) : List Nat := (maskBits (segPnc g) 64).filter (clusterNeeded s)

/-- Whether a segment is needed for a reason other than its own timer (R371). -/
def neededElse (s : State) (i : Nat) : Bool := s.nm.host.any (fun h => !h.1 && h.2.1 = i) || neededClusters s (segOf s i) ≠ []

/-- Whether a segment is needed (R370). -/
def segNeeded (s : State) (i : Nat) : Bool := (segOf s i).timer.isSome || neededElse s i

/-- The kind of bus of a segment (R367). -/
def segIsPort (i : Nat) : Bool := i < 28
def segIsCan (i : Nat) : Bool := 28 ≤ i && i < 52
def segIsLin (i : Nat) : Bool := 52 ≤ i && i < 60

/-- The protected identifier of a LIN frame: the parity bits above the identifier (ISO 17987, log entry 111). -/
def linPid (fid : Nat) : Nat :=
  let b := fun (i : Nat) => fid / 2 ^ i % 2
  fid % 64 + (b 0 + b 1 + b 2 + b 4) % 2 * 64 + (b 1 + b 3 + b 4 + b 5 + 1) % 2 * 128

/-- The checksum of a LIN response: classic over the data, enhanced over the protected identifier too; 0x3C and 0x3D always classic (R304, R322). -/
def linChecksum (enhanced : Bool) (fid : Nat) (data : Bytes) : Byte :=
  let start := if enhanced && fid ≠ 0x3C && fid ≠ 0x3D then linPid fid else 0
  BitVec.ofNat 8 (255 - data.foldl (fun n b => if 255 < n + b.toNat then n + b.toNat - 255 else n + b.toNat) start)

/-- The go-to-sleep command of a LIN segment in PREPARE goes on the bus once no slot is in progress (R375). -/
def sendGts (i : Nat) (s : State) : State :=
  let g := segOf s i
  let l := tget {} s.gw.lin (i - 52)
  if segIsLin i && g.gts = 1 && l.slot.isNone && fld l.rec0 0 28 27 = 1 then
    let bits := fld l.rec0 0 26 22 + fld l.rec0 0 21 20 + 1 + 110
    let gts : Bytes := 0 :: List.replicate 7 0xFF
    let s1 := emit (.linData s.time.now (i - 52) 0x3C (gts ++ [linChecksum false 0x3C gts])) (emit (.linHeader s.time.now (i - 52) 0x3C) s)
    setSeg i { g with gts := 2, gtsEnd := s.time.now + bits * 1000000000 / max 1 (fld l.rec0 1 31 16) } s1
  else s

/-- An AWAKE segment that is no longer needed enters PREPARE (R373, R375); one that nothing but its own timer needs sends no keep-alive (R371). -/
def segCheck (i : Nat) (s0 : State) : State :=
  let s := if (segOf s0 i).kaLast.isSome && !neededElse s0 i then setSeg i { segOf s0 i with kaLast := none } s0 else s0
  let g := segOf s i
  if segManaged g && g.state = 0 && !segNeeded s i then
    sendGts i (segTo i 1 (setSeg i { g with prep := some (s.time.now + segPrep g), commit := false, gts := if segIsLin i then 1 else 0 } s))
  else s

def segCheckAll (s : State) : State := (List.range 60).foldl (fun s i => segCheck i s) s

/-- Crocus drives the pin of a CAN or LIN segment: CAN_STBn high and LIN_ENn low when down (R374, R378). -/
def drivePin (i : Nat) (down : Bool) (s : State) : State :=
  if segIsCan i then { s with nm := { s.nm with stbHigh := (s.nm.stbHigh.filter (· ≠ i - 28)) ++ (if down then [i - 28] else []) } }
  else if segIsLin i then { s with nm := { s.nm with enLow := (s.nm.enLow.filter (· ≠ i - 52)) ++ (if down then [i - 52] else []) } }
  else s

/-- A segment undoes its shutdown (R378): a T port sends a wake-up, a port starts under R136, a CAN controller integrates. -/
def startWaking (i kind src : Nat) (s : State) : State :=
  let g := segOf s i
  let s1 := drivePin i false <| segTo i 4 (setSeg i { g with wakeKind := kind, wakeSrc := src, wakingAt := s.time.now, wakes := satAdd 32 g.wakes 1, latch := none } s)
  if segIsCan i then { s1 with gw := { s1.gw with can := tmod {} s1.gw.can (i - 28) (fun c => { c with integ := true }) } }
  else if segIsPort i then giveWay (.portStarts i) (if 12 ≤ i && i < 18 then emit (.busWake s.time.now i) s1 else s1)
  else s1

/-- Whether a segment in PREPARE is in the cycle of its commit instant, or after it (R373, R377). -/
def sleepDue (s : State) (g : Segment) : Bool :=
  g.state = 1 && (match g.prep with | some e => decide (e ≤ s.time.now && s.beat.next ≤ wtNow s) | none => false)

/-- Whether a segment takes no traffic: isolated, or at its commit instant (R372, R377, R379). -/
def segClosed (s : State) (i : Nat) : Bool := segIsolated (segOf s i) || (segManaged (segOf s i) && sleepDue s (segOf s i))

/-- A wake request for a segment: kind 1 source, 2 host, 3 cluster, 4 traffic (R376, R377). A source or traffic that cancels prepare-sleep starts the need
timer, as on a wake (log entry 105). -/
def wakeRequest (i kind src : Nat) (s : State) : State :=
  let g := segOf s i
  if !segManaged g then s
  else
    let latched := fun (s : State) =>
      if g.latch.isSome then s else nmEvent 24 i (setSeg i { g with latch := some (kind, src), races := satAdd 32 g.races 1 } s)
    match g.state with
    | 1 => if sleepDue s g then latched s
           else segTo i 0 (setSeg i { g with prep := none, commit := false, gts := 0, timer := if kind = 1 || kind = 4 then some s.time.now else g.timer } s)
    | 2 => latched s
    | 3 => startWaking i kind src s
    | _ => s

/-- Every segment whose PNC_MASK holds a cluster, but for one, is asked to wake (R376). -/
def wakeCluster (c kind : Nat) (but : Nat) (s : State) : State :=
  (List.range 60).foldl (fun s i => if i ≠ but && (segPnc (segOf s i)).testBit c then wakeRequest i kind 0 s else s) s

/-! ### Validation of wakes -/

/-- A frame, keep-alive or host request on a segment validates the wakes whose window is open (R381). -/
def validateSeg (i : Nat) (s : State) : State :=
  { s with nm := { s.nm with source := tmap {} s.nm.source (fun _ v =>
      if v.opened && (wsMask v).testBit i then { v with opened := false, validEnd := none } else v) } }

/-- A mailbox command accepted validates wakes by sources without segments. -/
def validateEmpty (s : State) : State :=
  { s with nm := { s.nm with source := tmap {} s.nm.source (fun _ v =>
      if v.opened && wsMask v = 0 then { v with opened := false, validEnd := none } else v) } }

/-- The validation window counts from the first segment of SEG_MASK that reaches AWAKE. -/
def validationStarts (i : Nat) (s : State) : State :=
  { s with nm := { s.nm with source := tmap {} s.nm.source (fun _ v =>
      if v.opened && v.validEnd.isNone && (wsMask v).testBit i then { v with validEnd := some (s.time.now + nmValidMs s) } else v) } }

/-! ### Offenders -/

/-- Whether two keys name the same pair of segment and identity: the segment that a keep-alive arrived on is no part of it (R385). -/
def sameOffender (a b : Rec) : Bool := rw a 0 &&& 0xFC0FFFFF = rw b 0 &&& 0xFC0FFFFF && a.drop 1 = b.drop 1

/-- A keep-alive of a logged node counts in its entry, whatever it restarts (R385). -/
def countOffender (key : Rec) (s : State) : State :=
  { s with nm := { s.nm with log := s.nm.log.map (fun e => if sameOffender e.key key then { e with count := satAdd 16 e.count 1, last := s.time.now } else e) } }

/-- A sender that holds a segment awake is logged; one that has an entry keeps it (R384, R385). key: words 0 to 3 with SEG set, COUNT 0; time: local time of
the keep-alive. -/
def logOffender (key : Rec) (time count : Nat) (s : State) : State :=
  if s.nm.log.any (fun e => sameOffender e.key key) then
    { s with nm := { s.nm with log := s.nm.log.map (fun e => if sameOffender e.key key then { e with last := max e.last time, live := true } else e) } }
  else if 64 ≤ s.nm.log.length then { s with nm := { s.nm with logFull := satAdd 16 s.nm.logFull 1 } }
  else
    let w1 := packW [(16, fld key 1 31 16), (16, count)]
    nmEvent 26 (fld key 0 31 26) (csPushAt 0x0D time [BitVec.ofNat 64 (cat64 (rw key 0) w1), BitVec.ofNat 64 (cat64 (rw key 2) (rw key 3))]
      { s with nm := { s.nm with log := s.nm.log ++ [⟨key, count, time, time, true⟩] } })

/-- Whether the keep-alives of a node are ignored for a segment (R386). -/
def ignoredNode (s : State) (key : Rec) : Bool := nmEnforce s && s.nm.log.any (fun e => sameOffender e.key key && e.live)

/-- A sender restarted the timers of segment i (R384): it is remembered for READY_MS, and logged while offenders are. -/
def senderSeen (i : Nat) (key : Rec) (s : State) : State :=
  let g := segOf s i
  let s1 := setSeg i { g with seen := (key, s.time.now) :: (g.seen.filter (fun e => !sameOffender e.1 key && s.time.now < e.2 + segReady g)) } s
  if s.nm.logging && segManaged g && g.state ≠ 3 then logOffender key s.time.now 1 s1 else s1

/-- The identity words of a node for segment i, seen on segment via. -/
def nodeKey (i via kind node a b : Nat) : Rec := [packW [(6, i), (6, via), (2, kind), (18, 0)], packW [(16, node), (16, 0)], word a, packW [(16, b), (16, 0)]]

/-- A valid keep-alive on segment v from a node, with the clusters of its vector (R369, R370, R376, R386). A sender is remembered for a segment whose own timer,
or a cluster's timer of its PNC_MASK, it has restarted (R384). -/
def keepAlive (v kind node a b : Nat) (clusters : List Nat) (s : State) : State :=
  let g0 := segOf s v
  let keyOf := fun i => nodeKey i v kind node a b
  let named := fun (i : Nat) => clusters.any (fun c => (segPnc (segOf s i)).testBit c)
  let s0 := (List.range 60).foldl (fun s i => if i = v || named i then countOffender (keyOf i) s else s) (validateSeg v s)
  let s1 := setSeg v { g0 with kaRx := satAdd 32 g0.kaRx 1 } s0
  let ignore := fun (s : State) (i : Nat) =>
    let g := segOf s i
    nmEvent 29 i (setSeg i { g with kaIgnored := satAdd 32 g.kaIgnored 1 } s)
  let own := fun (s : State) =>
    if ignoredNode s (keyOf v) then ignore s v
    else if (segOf s v).state ≤ 1 then
      senderSeen v (keyOf v) (wakeRequest v 0 0 (setSeg v { segOf s v with timer := some s.time.now } s))
    else s
  let len := segReady g0
  let cl := clusters.filter (fun c => !((List.range 60).any (fun i => (segPnc (segOf s i)).testBit c && ignoredNode s (keyOf i))))
  let keeps := fun (c : Nat) => match tget none s.nm.cluster c with | some (st, i) => decide (s.time.now + len ≤ st + segReady (segOf s i)) | none => false
  let fresh := cl.filter (fun c => !keeps c)
  let s2 := fresh.foldl (fun s c => { s with nm := { s.nm with cluster := tset none s.nm.cluster c (some (s.time.now, v)) } }) (own s1)
  let s3 := cl.foldl (fun s c => wakeCluster c 3 v s) s2
  (List.range 60).foldl (fun s i =>
    if i ≠ v && named i then
      (if ignoredNode s (keyOf i) then ignore s i
       else if fresh.any (fun c => (segPnc (segOf s i)).testBit c) then senderSeen i (keyOf i) s
       else s)
    else s) s3

/-- The clusters of vector bytes, the first byte from cluster base on. -/
def vectorClusters (base : Nat) : Bytes → List Nat
  | [] => []
  | b :: r => ((maskBits b.toNat 8).map (base + ·)).filter (· < 64) ++ vectorClusters (base + 8) r

/-- A frame received whole and correct on a port is observed (R369, R381). -/
def observePort (port : Nat) (p : Parsed) (bytes : Bytes) (s : State) : State :=
  let g := segOf s port
  let s1 := validateSeg port s
  let nmUdp := if g.rec0 = [] then 42432 else fld g.rec0 3 15 0
  let l3 := 12 + p.tagLen + (if p.rtag.isSome then 6 else 0) + 2
  let l4 := if p.ip = 4 then l3 + byteAt bytes l3 % 16 * 4 else (v6Walk bytes 2 (byteAt bytes (l3 + 6)) (l3 + 40) false).2.1
  let pay := (bytes.drop (l4 + 8)).take (beAt bytes (l4 + 4) 2 - 8)
  if p.ip ≠ 0 && p.proto = some 17 && p.dport = some nmUdp && 4 ≤ pay.length then
    keepAlive port 1 (beAt pay 0 2) (p.sa / 65536) (p.sa % 65536) (if byteAt pay 2 / 64 % 2 = 1 then vectorClusters 0 (pay.drop 4) else []) s1
  else s1

/-- A valid CAN frame is observed (R369, R381). -/
def observeCan (bus : Nat) (f : CanFrame) (s : State) : State :=
  let i := 28 + bus
  let g := segOf s i
  let s1 := validateSeg i s
  let ext := f.format = 1 || f.format = 3
  if g.rec0 ≠ [] && !f.rtr && decide (ext = flag g.rec0 3 31) && fld g.rec0 3 28 0 ≤ f.id && f.id ≤ fld g.rec0 4 28 0 && 2 ≤ f.data.length then
    keepAlive i 0 (byteAt f.data 0) (b2n ext * 2 ^ 31 + f.id) 0
      (if byteAt f.data 1 / 64 % 2 = 1 then vectorClusters (fld g.rec0 0 6 5 * 8) (f.data.drop 2) else []) s1
  else s1

/-! ### Traffic to sleeping segments -/

/-- What becomes of traffic for an isolated segment: held, or dropped; in both cases it asks the segment to wake when wake-worthy (R379). -/
def holdFor (i : Nat) (h : Held) (s : State) : State :=
  let g := segOf s i
  wakeRequest i 4 0 (setSeg i { g with held := g.held ++ [h] } s)
def canHold (g : Segment) : Bool := decide (g.held.length < segHoldMax g)
def sleepDropped (i : Nat) (s : State) : State :=
  let g := segOf s i
  setSeg i { g with sleepDrop := satAdd 32 g.sleepDrop 1 } s

end Sys2Proof.Machine
end

