-- ==== Sys2Proof/Machine/PipeOps.lean ====
section
/-!
DEFINITION. The pipeline: stage 1, stages 2 to 7, stage 8 (R145 to R181, R184, R185, R190 to R195).
-/
namespace Sys2Proof.Machine

/-! ### Stage 1 -/

/-- The PCP that decides access to the system reserve (R184). -/
def reservePcp (s : State) (port : Nat) (b : Bytes) : Nat := if beAt b 12 2 = 0x8100 then beAt b 14 2 / 8192 else fld (bridgeOf s port) 0 14 12
def mayReserve (s : State) (port : Nat) (b : Bytes) : Bool := port = 29 || reservePcp s port b = 7

/-- Where the EtherType of a frame stands, behind its tags (R149). -/
def etherAt (b : Bytes) : Nat := let p := parse b; 12 + p.tagLen + if p.rtag.isSome then 6 else 0

/-- gPTP frames by DA or EtherType (R81), and PAUSE frames, by the EtherType of the parser: the device sends none, so that one of an internal port is consumed too
(R151). -/
def isGptp (b : Bytes) : Bool := beAt b 0 6 = 0x0180C200000E || (parse b).etype = some 0x88F7
def isPause (b : Bytes) : Bool := (parse b).etype = some 0x8808

/-- Messages of the partner, which the partner port consumes (R582). -/
def isPartner (s : State) (port : Nat) (b : Bytes) : Bool := s.pair.en && port = s.pair.port && beAt b 12 2 = 0x88B6 && byteAt b 14 = 2

/-- A frame that stage 1 drops is counted and recorded (R185, R190, R191, R195, R459). -/
def stage1Drop (port code : Nat) (stamp : Int) (b : Bytes) (s : State) : State :=
  frameRecord false port (stampNs stamp) 0 (some code) b.length none false b (countDrop port code s)

/-- An interval that a neighbour asks for: 126 takes it back to the configured one, a value out of range changes nothing (R80, R82). -/
def askInterval (lo hi : Int) (v : Nat) (old : Option Int) : Option Int :=
  if v = 126 then none else if lo ≤ signed 8 v && signed 8 v ≤ hi then some (signed 8 v) else old

/-- A Signaling message with a message interval request TLV is honoured for the link delay interval of the port, and for the Sync and Announce intervals
of the slot of its domain there (R80; log entry 43). -/
def gptpSignal (port : Nat) (b : Bytes) (s : State) : State :=
  let e := etherAt b + 2
  if !((parse b).etype = some 0x88F7 && byteAt b e % 16 = 12 && beAt b (e + 44) 2 = 3 && beAt b (e + 48) 6 = 0x0080C2000002 && e + 57 ≤ b.length) then s
  else
    let v := portTimeOf s port
    let s1 := setPortTime port { v with pdelayAsk := askInterval (-4) 3 (byteAt b (e + 54)) v.pdelayAsk } s
    match slotByDomain s (byteAt b (e + 4)) with
    | none => s1
    | some i => { s1 with net := { s1.net with
        syncAsk := tmod none s1.net.syncAsk (i * 32 + port) (askInterval (-7) 0 (byteAt b (e + 55)))
        announceAsk := tmod none s1.net.announceAsk (i * 32 + port) (askInterval (-3) 3 (byteAt b (e + 56))) } }

/-- A gPTP frame is consumed, or dropped and counted (R81); the messages of the CMLDS belong to no domain. -/
def consumeGptp (port : Nat) (b : Bytes) (s : State) : State :=
  let e := etherAt b + 2
  if 20 ≤ port || ((parse b).etype = some 0x88F7 && byteAt b e / 16 ≠ 2 && (slotByDomain s (byteAt b (e + 4))).isNone) then countGptpDrop port s
  else gptpSignal port b s

/-- Counters of a frame received with good FCS, of a stored length of len (R196). A broadcast frame counts in RX_BCAST alone (the model's choice, log entry 112). -/
def countRx (port len : Nat) (b : Bytes) (s : State) : State :=
  let s1 := fwdCount port 1 len (fwdCount port 0 1 s)
  if beAt b 0 6 = 0xFFFFFFFFFFFF then fwdCount port 7 1 s1
  else if (byteAt b 0) % 2 = 1 then fwdCount port 6 1 s1
  else s1

/-- A frame begins to arrive: its record, which holds no cells yet. -/
def newFrame (v : Frame) (s : State) : Nat × State :=
  let f := s.buf.next
  (f, { setFrame f (some v) s with buf := { (setFrame f (some v) s).buf with next := f + 1 } })

/-- A frame received on a port whose loop is set has the destination set {28} as a directed set, and is never learned (R649). -/
def loopMark (s : State) (v : Frame) : Frame := if (portOf s v.port).loop ≠ 0 then { v with looped := true, directed := some (2 ^ 28) } else v

/-- The next part of frame f of a port arrives (R184, R185, R190, R191). The rest of a frame that has been dropped, and a frame that the MAC consumes, takes no
cells; its bytes are followed to its end. -/
def cellIn (f : Nat) (v0 : Frame) (bytes : Bytes) (eof : Option Bool) (s0 : State) : State :=
  let s := releaseLines s0
  let b := v0.bytes ++ bytes
  let port := v0.port
  let first := decide (v0.bytes = [])
  let v := { v0 with bytes := b, reserve := if first then mayReserve s port b else v0.reserve }
  let gone := fun (s : State) => setFrame f (some { v with gone := true, guar := 0, shared := 0, sys := 0 }) (freeCells port (v.guar, v.shared, v.sys) s)
  if v.gone then setFrame f (some (if 9248 < v0.bytes.length then v0 else v)) s
  else if eof.isSome && b.length < 64 then gone (stage1Drop port 0x01 v.stamp b s)
  else if first && (isPause b || isPartner s port b || isGptp b) then setFrame f (some { v with gone := true, eaten := true }) s
  else if bpMaxLen (bridgeOf s port) < b.length || 9248 < b.length then gone (stage1Drop port 0x03 v.stamp b s)
  else
    let r := takeCells port v.reserve 1 (v.guar, v.shared, v.sys) s
    if r.1 then setFrame f (some { v with guar := r.2.1.1, shared := r.2.1.2.1, sys := r.2.1.2.2 }) r.2.2
    else gone (stage1Drop port 0x11 v.stamp b r.2.2)

/-- A frame received whole and correct on an external port is seen on its segment (R381). -/
def seenWhole (port : Nat) (s : State) : State := if port < 28 then validateSeg port s else s

/-- A whole frame with good FCS that the device consumes before stage 2 (R81, R151, R582). -/
def eat (v : Frame) (s : State) : State :=
  if isPause v.bytes then stage1Drop v.port 0x05 v.stamp v.bytes (seenWhole v.port s)
  else if isPartner s v.port v.bytes then seenWhole v.port s
  else consumeGptp v.port v.bytes (seenWhole v.port s)

/-- The end of a frame that the MAC consumes: dropped under the first reason that applies, else consumed (R190, R191, R194, R195). -/
def eatenEnds (v : Frame) (ok : Bool) (s : State) : State :=
  let drop := fun (c : Nat) => stage1Drop v.port c v.stamp v.bytes s
  if v.bytes.length < 64 then drop 0x01
  else if 9248 < v.bytes.length then drop 0x03
  else if !ok then drop (if isPause v.bytes then 0x05 else 0x02)
  else eat v s

/-- The last part of frame f has arrived: a frame that the MAC consumes ends there (R81, R151), and every frame with good FCS that the MAC has received whole
is counted (R196; log entry 100). -/
def frameEnds (f : Nat) (ok : Bool) (s : State) : State :=
  match frameOf s f with
  | none => s
  | some v =>
    let b := v.bytes
    let s1 := if ok && 64 ≤ b.length && b.length ≤ 9248 then countRx v.port b.length b s else s
    if !v.gone then setFrame f (some { v with whole := true, fcsOk := ok }) s1
    else if v.eaten then eatenEnds v ok (setFrame f none s1)
    else setFrame f none s1

/-- A part of a frame arrives at a port (R184). -/
def rxCell (port : Nat) (bytes : Bytes) (sof : Bool) (eof : Option Bool) (s : State) : State :=
  let setRx := fun (n : Nat) (s : State) => { s with buf := { s.buf with rx := tset 0 s.buf.rx port n } }
  let begin1 := if sof then
      let s1 := releaseFrame (tget 0 s.buf.rx port) s
      let n := newFrame (loopMark s { port := port, stamp := ingressStamp s port 0 }) s1
      setRx n.1 n.2
    else s
  let f := tget 0 begin1.buf.rx port
  match frameOf begin1 f with
  | none => begin1
  | some v =>
    let s1 := cellIn f v (bytes.take 64) eof begin1
    match eof with
    | none => s1
    | some ok => plcaHeard port (stampNs (v.stamp - ingressAdd s port)) (setRx 0 (frameEnds f ok s1))

/-- A whole frame v with good FCS enters stage 1 at once, as frame f: from an internal port, or from a MACsec pipe. One that finds no cell for its last byte
gives back those it has taken (R185). -/
def storeAs (f : Nat) (v : Frame) (s0 : State) : State :=
  let b := v.bytes
  let s := countRx v.port b.length b (releaseLines s0)
  if isPause b || isPartner s v.port b || isGptp b then eat v s
  else if bpMaxLen (bridgeOf s v.port) < b.length || 9248 < b.length then stage1Drop v.port 0x03 v.stamp b s
  else
    let r := takeCells v.port (mayReserve s v.port b) ((b.length + 63) / 64) (0, 0, 0) s
    if r.1 then setFrame f (some { v with whole := true, fcsOk := true, waits := false, guar := r.2.1.1, shared := r.2.1.2.1, sys := r.2.1.2.2 }) r.2.2
    else freeCells v.port r.2.1 (stage1Drop v.port 0x11 v.stamp b r.2.2)

/-- The number of a frame that begins, and the state that has used it. -/
def nextFrame (s : State) : Nat × State := (s.buf.next, { s with buf := { s.buf with next := s.buf.next + 1 } })

def storeFrame (v : Frame) (s : State) : State := storeAs (nextFrame s).1 v (nextFrame s).2

/-- The least time between two frames of an internal port, in ns (R148, R462). -/
def paceOf (port : Nat) : Nat := if port = 28 then 50 else if port = 30 then 125 else 500

/-- Local time at which the ring of an internal port gives its next frame. -/
def paceNext (s : State) (port : Nat) : Nat := max s.time.now (tget 0 s.buf.pace port)

/-- The frames whose turn has come leave the rings of their internal ports, in the order in which they came, and take their cells (R148, R184). -/
def ringsGive (s : State) : State :=
  s.buf.frames.foldl (fun s e => match e.2 with
    | some v => if v.waits && decide (v.ready ≤ s.time.now) then storeAs e.1 v (setFrame e.1 none s) else s
    | none => s) s

/-- A whole frame enters from an internal port. Its ring gives it under the pace of R148; before its turn it waits there and holds no cells (R145, R184, R190;
log entry 102). -/
def injectFrame (v : Frame) (s0 : State) : State :=
  let s := ringsGive s0
  let at0 := paceNext s v.port
  let s1 := { s with buf := { s.buf with pace := tset 0 s.buf.pace v.port (at0 + paceOf v.port) } }
  let x : Int := (at0 : Int) * 65536
  if v.bytes.length < 64 then stage1Drop v.port 0x01 x v.bytes s1
  else if s.time.now < at0 then (newFrame { v with stamp := x, ready := at0, whole := true, waits := true } s1).2
  else storeFrame { v with stamp := x, ready := at0 } s1

/-! ### Stages 2 to 7 -/

/-- The mailbox that an in-band frame addresses: its EtherType stands behind any C-tag, and no R-TAG (R270, R497). -/
def inbandMailbox (p : Parsed) (b : Bytes) : Option Nat :=
  if p.etype = some 0x88B6 && p.rtag.isNone then some (byteAt b (12 + p.tagLen + 2 + 1) / 32) else none

/-- The destination member of a port for a frame (R270). -/
def fwDestOf (p : Parsed) (b : Bytes) (d : Nat) : FwDest :=
  match d, inbandMailbox p b with
  | 29, some m => ⟨3, m⟩
  | _, _ => ⟨0, d⟩

/-- Step 1 to 3 of R154: drop, VID, PCP, DEI. -/
def assignVlan (b : Rec) (p : Parsed) : Option Nat × Nat × Nat × Bool :=
  let vtag := p.tagged && p.tagVid ≠ 0
  ((if (fld b 0 11 10 = 1 && !vtag) || (fld b 0 11 10 = 2 && vtag) then some 0x07 else none),
   if vtag then p.tagVid else fld b 0 26 15, if p.tagged then p.tagPcp else fld b 0 14 12, p.tagged && p.tagDei)

/-- Whether the source address is locked to another port (R170). -/
def srcLocked (s : State) (port fid sa : Nat) : Bool :=
  match macFind s fid sa with
  | some k => macType (macGet s k) = 2 && macDest (macGet s k) ≠ port && macSrcLock (macGet s k)
  | none => false

/-- The flood bit that a miss takes (R175). -/
def floodBit (da : Nat) : Nat := if da = 0xFFFFFFFFFFFF then 4 else if da / 2 ^ 40 % 2 = 1 then 5 else 6

/-- The destinations by MAC result and membership: the ports, whether by flooding; none when the address is discarded (R174). -/
def lookupSet (s : State) (vid : Nat) (p : Parsed) : Option (List Nat × Bool) :=
  let v := vlanOf s vid
  let members := (List.range 31).filter (fun n => vlanMember v n)
  match macFind s (vlanFid v) p.da with
  | some k =>
    let r := macGet s k
    match macType r with
    | 1 | 2 => some (members.filter (fun n => n = macDest r), false)
    | 3 => some (members.filter (fun n => (macDest r).testBit n), false)
    | 5 => some (members.filter (fun n => n = 29), false)
    | _ => none
  | none => some (members.filter (fun n => flag (bridgeOf s n) 0 (floodBit p.da)), true)

/-- Ports that are not UP leave the set, from the cycle after that in which they left it (R135), but for ports of isolated segments (R174, R379); none stays
once forwarding has stopped for a standby entry (R364). -/
def liveSet (s : State) (port : Nat) (l : List Nat) : List Nat :=
  if fwdOff s then [] else l.filter (fun n => n ≠ port && (portUp s n || (n < 28 && ((portOf s n).downAt = some s.time.now || segIsolated (segOf s n)))))

/-- Stage 6 and 7 over the candidate set (R283, R284). -/
def judge (v : Frame) (p : Parsed) (cand : List Nat) (s : State) : Frame × State :=
  let bank := s.fw.bank
  let k := frameKeys p v.vid v.pcp
  let srcPort := v.port
  let src := zoneOf s bank 0 srcPort
  let zoneD := fun n => zoneOf s bank (fwDestOf p v.bytes n).kind (fwDestOf p v.bytes n).index
  let zs := (cand.map zoneD).eraseDups
  let cls := fun z => classOf s false p src z (enforced s src k z)
  let kept := cand.filter (fun n => cls (zoneD n) = 0)
  let ctl := zs.findSome? (fun z => match enforced s src k z with | .rule i r => if ruAction r = 3 then some i else none | _ => none)
  let trackBy := zs.findSome? (fun z => match enforced s src k z with | .rule i r => if ruAction r = 1 && ruTrack r then some i else none | _ => none)
  let traced := zs.any (fun z => match enforced s src k z with | .rule _ r => ruTrace r | _ => false)
  let s1 := dryRun false 0 srcPort srcPort k p (cand.map (fwDestOf p v.bytes)) (fun d => enforced s src k (zoneOf s bank d.kind d.index)) (judgeCount false srcPort src k p zs s)
  let dest := if ctl.isSome && !kept.contains 29 then kept ++ [29] else kept
  ({ v with dest := dest, control := ctl, track := trackBy, trace := traced
            drop := if dest = [] then some 0x0E else none }, s1)

/-- Stages 2 to 7 of a frame (R145, R150, R154, R155, R158, R164, R170, R174, R178). Of R154 a directed frame is spared step 5, the VLAN membership
(R177), and a frame of port 31 both steps that read the VLAN table (log entry 101). -/
def classify (v : Frame) (s : State) : Frame × State :=
  let p := parse v.bytes
  let port := v.port
  let b := bridgeOf s port
  let done := fun (v : Frame) (c : Nat) (s : State) => ({ v with drop := some c, classified := true }, s)
  let last := p.da % 16
  let ll := decide (p.da / 16 = 0x0180C200000) && v.directed.isNone
  let trap := ll && (port < 28 || port = 30) && (last = 3 || (last ≠ 1 && flag b 0 7))
  if ll && !trap then done v 0x06 s
  else
    let (c3, vid, pcp, dei) := assignVlan b p
    let vl := vlanOf s vid
    let bad := port ≠ 31 && (vid = 4095 || !vlanValid vl || (v.directed.isNone && flag b 0 9 && !vlanMember vl port))
    match c3 with
    | some c => done v c s
    | none =>
      if bad then done { v with vid := vid, pcp := pcp, dei := dei } 0x08 s
      else
        let h0 := identify s port vid p
        let h := match h0 with | some k => if flag (handleOf s k) 0 31 then some k else none | none => none
        let s1 := if h0.isSome && h.isNone then fwdCount port 14 1 s else s
        let tc := v.cls.getD <| match h with
          | some k => if flag (handleOf s k) 0 30 then fld (handleOf s k) 0 29 27 else fld b 1 (3 * pcp + 2) (3 * pcp)
          | none => fld b 1 (3 * pcp + 2) (3 * pcp)
        let v1 := { v with vid := vid, pcp := pcp, dei := dei, tc := tc, handle := h }
        if srcLocked s1 port (vlanFid vl) p.sa then done v1 0x09 s1
        else
          let (tc4, occ, c4, s4) := stage4 v.stamp h tc s1
          let v4 := { v1 with tc := tc4, occ := occ }
          match c4 with
          | some c => done v4 c s4
          | none =>
            let set := match v.directed with
              | some m => some (maskBits m 31, false)
              | none => if trap then some ([29], false) else lookupSet s4 vid p
            match set with
            | none => done v4 0x0F s4
            | some (l, flood) =>
              let cand := liveSet s4 port l
              if cand = [] then done { v4 with flooded := flood } 0x10 s4
              else
                let j := judge { v4 with flooded := flood } p cand s4
                ({ j.1 with classified := true }, j.2)

/-! ### Stage 8 -/

/-- An ingress copy for a session (R180, R181). A copy whose DEST is not UP is discarded, and counts in MIRROR_DROP beside MIRROR_COPIES (the model's choice, log
entry 112). -/
def mirrorIn (f : Nat) (v : Frame) (sess : Nat) (s : State) : State :=
  let m := tget [] s.fwd.mirror sess
  let dest := fld m 0 30 26
  let r : Replica := { frame := f, admitted := 0, inPort := v.port, dei := v.dei, mirror := some sess, len := v.bytes.length }
  let s1 := fwdCount v.port 15 1 s
  if portUp s1 dest then enterClass dest (fld m 0 25 23) none r s1 else dropRep r (mirrorDropped sess s1)

/-- The sessions that copy a frame of a port on ingress. -/
def mirrorSessions (s : State) (word port : Nat) (but : List Nat) : List Nat :=
  (List.range 4).filter (fun i => let m := tget [] s.fwd.mirror i; flag m 0 31 && flag m word port && !but.contains (fld m 0 30 26))

/-- The replica of a frame for one destination; a wake-worthy one cancels prepare-sleep (R192, R199, R376, R377, R379). -/
def replicate (f : Nat) (v : Frame) (d : Nat) (s : State) : State :=
  let len := (editFrame s v d).length + 4
  let r : Replica := { frame := f, admitted := s.time.now, inPort := v.port, dei := v.dei, len := len }
  let lost := fun (c : Nat) (s : State) =>
    dropReplica d v.tc c r s
  let g := segOf s d
  let long := decide (bpMaxLen (bridgeOf s d) < len)
  if d < 28 && segClosed s d then
    if !segWakeTc g v.tc then lost 0x12 (sleepDropped d s)
    else if !canHold g then lost 0x12 (wakeRequest d 4 0 (sleepDropped d s))
    else if long then lost 0x13 (wakeRequest d 4 0 s)
    else holdFor d (.port v.tc r) s
  else if long then lost 0x13 s
  else if !portUp s d then lost 0x15 s
  else enterClass d v.tc v.launch r (if d < 28 && segWakeTc g v.tc then wakeRequest d 4 0 s else s)

/-- The FILT notice of a TO_CONTROL frame (R284, R570). -/
def controlNotice (v : Frame) (i : Nat) (s : State) : Notice :=
  ⟨0x0580, [packW [(5, v.port), (5, zoneOf s s.fw.bank 0 v.port), (7, 0), (15, i)], word v.bytes.length] ++ split64 (stampNs v.stamp) ++ (bytesRec v.bytes).take 64⟩

/-- Stage 8 of frame f (R145, R168, R176, R180, R240, R288). -/
def stage8 (f : Nat) (v : Frame) (s : State) : State :=
  let p := parse v.bytes
  let c0 := v.drop.or (if v.fcsOk then none else some 0x02)
  let (c1, dei, s1) := if c0.isNone then filterSteps v.bytes.length v.handle v.occ v.dei s else (c0, v.dei, s)
  let (c2, seq, pop, s2) := if c1.isNone then frerSteps v.handle p.rtag s1 else (c1, none, false, s1)
  let v2 := { v with dei := dei, seq := seq, pop := pop, drop := c2 }
  let vl := vlanOf s2 v.vid
  let learns := !v.looped && v.fcsOk && (c2 = none || c2 = some 0x0F || c2 = some 0x10) && flag (bridgeOf s2 v.port) 0 8 && !flag vl 2 18
    && (byteAt v.bytes 6) % 2 = 0 && p.sa ≠ 0
  let s3 := if learns then macLearn v.port (vlanFid vl) p.sa s2 else s2
  let src := zoneOf s3 s3.fw.bank 0 v.port
  let zones := v.dest.map (fun n => let d := fwDestOf p v.bytes n; zoneOf s3 s3.fw.bank d.kind d.index)
  let s4 := if c2.isNone then trackerStage8 v.port v.track p src zones v.dest.length s3 else s3
  let s5 := match c2 with | some c => countDrop v.port c s4 | none => s4
  let s6 := frameRecord false v.port (stampNs v.stamp) v.tc c2 v.bytes.length v.handle v.trace v.bytes s5
  let s7 := if v.fcsOk && v.port < 28 then observePort v.port p v.bytes s6 else s6
  let dest := if c2.isNone then v.dest else []
  let mirrors := if v.fcsOk then mirrorSessions s7 1 v.port [v.port] else []
  let v3 := { v2 with dest := dest, refs := dest.length + mirrors.length }
  if v3.refs = 0 then releaseFrame f s7
  else
    let s8 := if v.flooded && dest ≠ [] then fwdCount v.port 8 1 s7 else s7
    let s9 := mirrors.foldl (fun s i => mirrorIn f v3 i s) (setFrame f (some v3) s8)
    dest.foldl (fun s d => replicate f v3 d s) s9

end Sys2Proof.Machine
end

