-- ==== Sys2Proof/Machine/CipherOps.lean ====
section
/-!
DEFINITION. Seed Store slots, MACsec protection and verification, the bulk request queue (R393 to R421).
-/
namespace Sys2Proof.Machine

/-- n words of 64 bits from the DRBG (R392), or that the spec does not state: free values. -/
def randomBytes : Nat → State → Bytes × State
  | 0, s => ([], s)
  | n + 1, s =>
    let v := freeVal s
    let r := randomBytes n v.2
    (beBytes v.1.toNat 8 ++ r.1, r.2)

/-! ### Seed Store -/

def slotAt (s : State) (i : Nat) : KeySlot := tget {} s.ciph.slot i
def setKeySlot (i : Nat) (k : KeySlot) (s : State) : State := { s with ciph := { s.ciph with slot := tset {} s.ciph.slot i k } }

/-- A slot as a request or a SA record finds it: as it stood before the writes of this cycle (R405, R424). -/
def slotSeen (s : State) (i : Nat) : KeySlot :=
  let w := tget ({}, 0) s.ciph.slotWas i
  if w.2 = s.time.now + 1 then w.1 else slotAt s i

/-- GEN after a write or an erasure (R396). -/
def nextGen (g : Nat) : Nat := if g = 0xFFFF then 1 else g + 1

/-- Bytes of a key of a type (R393); 0 for types never held. -/
def keyBytes : Nat → Nat
  | 1 => 16
  | 2 => 32
  | 3 => 32
  | 4 => 48
  | 5 => 32
  | 6 => 48
  | _ => 0

/-- The USAGE bits that a type of slot may carry (R395). -/
def usageFor (type : Nat) : Nat :=
  match type with
  | 1 | 2 => 0x6F
  | 3 | 4 => 0x10
  | 5 | 6 => 0x80
  | _ => 0

/-- The key check value (R394). -/
def kcv (k : KeySlot) : Nat := if k.type = 1 || k.type = 2 then bytesNat ((cmac k.key (List.replicate 16 0)).take 3) else 0

/-- The slot record (R394). -/
def slotRecord (k : KeySlot) : Rec :=
  [packW [(4, k.type), (3, k.origin), (1, b2n k.fixed), (8, k.parent), (16, k.gen)], packW [(16, k.usage), (16, k.childUsage)], packW [(24, kcv k), (8, 0)]]

/-- A slot is written with a key, or erased (R396, R397, R423). -/
def writeSlot (i : Nat) (k : KeySlot) (s : State) : State :=
  let s1 := { s with ciph := { s.ciph with slotWas := tset ({}, 0) s.ciph.slotWas i (slotSeen s i, s.time.now + 1) } }
  cipherEvent 11 0 (setKeySlot i { k with gen := nextGen (slotAt s i).gen } s1)

/-- The check of a slot at the start of a use (R403): 0 OK, else the status of R404. -/
def slotCheck (s : State) (i gen : Nat) (anyGen : Bool) (use : Nat) : Nat :=
  let k := slotSeen s i
  if k.type = 0 then 2 else if !anyGen && k.gen ≠ gen then 3 else if !k.usage.testBit use then 4 else 0

/-- A request failed with KEY_STALE or KEY_EMPTY (R422, R423). -/
def keyFailed (st : Nat) (s : State) : State :=
  if st = 3 then cipherEvent 7 0 (count rCIPHER_CNT 15 0 s) else if st = 2 then cipherEvent 7 0 s else s

/-! ### MACsec -/

def secyOf (s : State) (p : Nat) : SecY := tget {} s.ciph.secy p
def setSecy (p : Nat) (y : SecY) (s : State) : State := { s with ciph := { s.ciph with secy := tset {} s.ciph.secy p y } }
def saOf (s : State) (i : Nat) : Sa := tget {} s.ciph.sa i
def setSa (i : Nat) (a : Sa) (s : State) : State := { s with ciph := { s.ciph with sa := tset {} s.ciph.sa i a } }

/-- A counter of R415, by its word in the response; words 6 and 18 stand for 64-bit counts. -/
def secyCount (p w k : Nat) (s : State) : State :=
  let y := secyOf s p
  setSecy p { y with counts := tset 0 y.counts w (satAdd (if w = 6 || w = 18 then 64 else 32) (tget 0 y.counts w) k) } s

def saXpn (r : Rec) : Bool := flag r 0 27
def saLimit (r : Rec) : Nat := if saXpn r then 2 ^ 64 - 1 else 2 ^ 32 - 1

/-- The transmit SA of a port for ENC_AN, when it can be used (R413). -/
def txSa (s : State) (p : Nat) : Option Nat :=
  if s.ciph.pipe0Fail then none
  else (s.ciph.sa.find? (fun e => let r := e.2.rec0; flag r 0 31 && flag r 0 30 && fld r 0 25 21 = p && fld r 0 29 28 = fld (secyRec s p) 0 17 16
    && e.2.key.isSome && !e.2.exhausted)).map (·.1)

/-- The IV of a frame (802.1AE, R392). -/
def saIv (r : Rec) (sci pn : Nat) : Nat :=
  if saXpn r then (cat64 (rw r 5) (rw r 6) * 2 ^ 32 + (rw r 7).toNat) ^^^ ((rw r 4).toNat * 2 ^ 64 + pn) else sci * 2 ^ 32 + pn % 2 ^ 32

/-- Octets of confidentiality offset (R407). -/
def secOffset (r : Rec) : Nat := match fld r 0 21 20 with | 1 => 30 | 2 => 50 | _ => 0

/-- The protected frame of a SA (R406, R412). -/
def sealFrame (yr : Rec) (a : Sa) (b : Bytes) : Bytes :=
  let sci := cat64 (rw yr 2) (rw yr 3)
  let enc := flag yr 0 22
  let data := b.drop 12
  let tci := b2n (flag yr 0 18) * 32 + b2n enc * 8 + b2n enc * 4 + fld yr 0 17 16
  let tag := beBytes 0x88E5 2 ++ beBytes tci 1 ++ beBytes (if data.length < 48 then data.length else 0) 1 ++ beBytes (a.next % 2 ^ 32) 4
    ++ (if flag yr 0 18 then beBytes sci 8 else [])
  let clear := if enc then data.take (secOffset yr) else data
  let g := gcm false (a.key.getD []) (saIv a.rec0 sci a.next) (b.take 12 ++ tag ++ clear) (data.drop clear.length)
  b.take 12 ++ tag ++ clear ++ g.1 ++ g.2

/-- The transmit SA takes the next PN (R412). -/
def advancePn (i : Nat) (s : State) : State :=
  let a := saOf s i
  let n := a.next + 1
  let warn := decide (cat64 (rw a.rec0 8) (rw a.rec0 9) ≤ n) && !a.warned
  let ex := decide (saLimit a.rec0 < n)
  let s1 := setSa i { a with next := min n (saLimit a.rec0), warned := a.warned || warn, exhausted := ex } s
  let s2 := if warn then cipherEvent 8 0 s1 else s1
  if ex then cipherEvent 9 0 s2 else s2

/-- A frame leaves a port, protected where the port protects it; none when it is discarded for want of a SA (R408, R412, R413). -/
def macsecTx (p : Nat) (b : Bytes) (s : State) : Option (Bytes × State) :=
  if !protects s p b then some (b, s)
  else match txSa s p with
    | none => none
    | some i =>
      let yr := secyRec s p
      some (sealFrame yr (saOf s i) b, advancePn i (secyCount p 6 (b.length - 12) (secyCount p (if flag yr 0 22 then 5 else 4) 1 s)))

/-- The receive SA of a frame of a port by SCI and AN (R411). -/
def rxSa (s : State) (p sci an : Nat) : Option Nat :=
  if s.ciph.pipe1Fail then none
  else match s.ciph.rxsc.find? (fun e => flag e.2 0 31 && fld e.2 0 30 26 = p && cat64 (rw e.2 1) (rw e.2 2) = sci) with
    | none => none
    | some e =>
      let r := e.2
      let i := match an with | 0 => fld r 3 26 18 | 1 => fld r 3 17 9 | 2 => fld r 3 8 0 | _ => fld r 4 31 23
      let a := saOf s i
      if flag a.rec0 0 31 && !flag a.rec0 0 30 && fld a.rec0 0 20 13 = e.1 && fld a.rec0 0 29 28 = an && a.key.isSome then some i else none

/-- The SCI that a frame without one implies (R411; IEEE 802.1AE-2018, log entry 118): with ES or SCB, its source address and port identifier 1, or 0 for SCB;
else, on a point-to-point link, that of the port's one receive SC. -/
def implicitSci (s : State) (p : Nat) (b : Bytes) : Nat :=
  let tci := byteAt b 14
  if tci / 16 % 2 = 1 then beAt b 6 6 * 65536
  else if tci / 64 % 2 = 1 then beAt b 6 6 * 65536 + 1
  else match s.ciph.rxsc.find? (fun e => flag e.2 0 31 && fld e.2 0 30 26 = p) with
  | some e => cat64 (rw e.2 1) (rw e.2 2)
  | none => 0

/-- The full PN of a frame under a XPN suite, from the 32 bits received: the upper half is one more where the lowest acceptable PN has the top bit of its lower
half set and the PN received has not (IEEE 802.1AE-2018, log entry 118). -/
def fullPn (r : Rec) (low next : Nat) : Nat :=
  if !saXpn r then low
  else
    let hi := next / 2 ^ 32
    if low < 2 ^ 31 && 2 ^ 31 ≤ next % 2 ^ 32 then (hi + 1) * 2 ^ 32 + low else hi * 2 ^ 32 + low

/-- The record of a port's SecY for a frame whose reception began at a local time: that before the first command since (R407). -/
def secyAt (s : State) (p start : Nat) : Rec :=
  match ((secyOf s p).prev.filter (fun e => start < e.2)).getLast? with
  | some e => e.1
  | none => secyRec s p

/-- The Latent memory of a port, or of the bulk engine, number 28, is scrubbed of n bytes after a tag has failed: 64 bytes a cycle (R416). -/
def scrub (p n : Nat) (s : State) : State := { s with ciph := { s.ciph with scrub := tset 0 s.ciph.scrub p (s.time.now + (n + 63) / 64) } }

/-- The decision of R414 on a frame of a SecY with record yr: the frame for stage 1 when delivered. b: without FCS. What makes a SecTAG malformed is IEEE
802.1AE-2018's (log entry 118): version, SC beside ES or SCB, E unlike C, a short length that is none or does not fit, under 48 octets without one, a PN of 0. The
plaintext of a frame whose tag fails never leaves the port's Latent memory, which is scrubbed (R416). -/
def macsecRx (p : Nat) (yr : Rec) (b : Bytes) (s : State) : Option Bytes × State :=
  let strict := decide (fld yr 0 24 23 = 2)
  let dropped := fun (w : Nat) (s : State) => (none, cipherEvent 10 0 (secyCount p w 1 s))
  if secBypass yr (beAt b 12 2) then (some b, s)
  else if beAt b 12 2 ≠ 0x88E5 then
    if strict then dropped 11 s else (some b, secyCount p 10 1 s)
  else
    let tci := byteAt b 14
    let sc := tci / 32 % 2 = 1
    let enc := tci / 8 % 2 = 1
    let chg := tci / 4 % 2 = 1
    let sl := byteAt b 15
    let low := beAt b 16 4
    let tagLen := if sc then 16 else 8
    let body := b.drop (12 + tagLen)
    let padded := sl ≠ 0 && b.length ≤ 60 && sl + 16 ≤ body.length
    let data := if padded then body.take sl else body.take (body.length - 16)
    let icv := (body.drop data.length).take 16
    let bad := 128 ≤ tci || (sc && tci / 16 % 8 ≠ 2) || (enc != chg) || 48 ≤ sl || body.length < 16
      || (if sl = 0 then data.length < 48 else data.length ≠ sl)
    if bad then dropped 12 s
    else
      let sci := if sc then beAt b 20 8 else implicitSci s p b
      match rxSa s p sci (tci % 4) with
      | none => if strict || enc then dropped 13 s else (some (b.take 12 ++ data), secyCount p 14 1 s)
      | some i =>
        let a := saOf s i
        if low = 0 && !saXpn a.rec0 then dropped 12 s else
        let pn := fullPn a.rec0 low a.next
        let clear := if enc then data.take (secOffset yr) else data
        let g := gcm true (a.key.getD []) (saIv a.rec0 sci pn) (b.take (12 + tagLen) ++ clear) (data.drop clear.length)
        if g.2 = icv then
          if flag yr 0 19 && pn < a.next then dropped 15 s
          else
            let low1 := max a.next (pn + 1 - (rw yr 1).toNat)
            (some (b.take 12 ++ clear ++ g.1), setSa i { a with next := low1 } (secyCount p 18 data.length (secyCount p 9 1 s)))
        else if strict || enc then dropped 16 (if enc then scrub p data.length s else s)
        else (some (b.take 12 ++ data), secyCount p 17 1 s)

/-- The length of a frame on the line, DA through FCS, without its SecTAG and ICV (R182, R196). -/
def securedLen (b : Bytes) : Nat :=
  if beAt b 12 2 ≠ 0x88E5 then b.length else b.length - (if byteAt b 14 / 32 % 2 = 1 then 32 else 24)

/-- A frame enters the Latent memory of its port, is decided, and passed to stage 1 or dropped (R414, R416). yr: the record at its start; x: its stamp. -/
def latentTakes (port : Nat) (yr : Rec) (x : Int) (bytes : Bytes) (s : State) : State :=
  let v := macsecRx port yr bytes.dropLast.dropLast.dropLast.dropLast s
  match v.1 with
  | some b => storeFrame (loopMark s { port := port, bytes := withFcs b, stamp := x }) v.2
  | none => stage1Drop port 0x04 x bytes (countRx port (securedLen bytes) bytes v.2)

/-- A frame for a Latent memory that is being scrubbed waits until the scrub has ended (R416, R424). -/
def latentOrWait (port : Nat) (yr : Rec) (x : Int) (bytes : Bytes) (s : State) : State :=
  let till := tget 0 s.ciph.scrub port
  if s.time.now < till then giveWayTo till (.verify port yr x bytes) s else latentTakes port yr x bytes s

/-! ### The bulk request queue -/

/-- The reserve of a requester (R401). -/
def bulkReserve : Nat → Nat
  | 0 => 32
  | 1 => 16
  | 2 => 8
  | 3 => 16
  | 4 => 16
  | 5 => 32
  | 6 => 8
  | _ => 4

def bulkUsed (s : State) (r : Nat) : Nat := (s.ciph.queue.filter (fun e => e.req.requester = r)).length

/-- Whether a requester finds a free entry (R401). -/
def bulkRoom (s : State) (r : Nat) : Bool :=
  let shared := (List.range 8).foldl (fun n q => n + (bulkUsed s q - bulkReserve q)) 0
  bulkUsed s r < bulkReserve r || shared < 124

/-- A request enters the queue; a requester without room is refused, but the gateway engine waits, in the queue's order, for an entry (R401, R423). -/
def bulkSubmit (r : BulkReq) (s : State) : Bool × State :=
  if bulkRoom s r.requester || r.requester = 0 then (true, { s with ciph := { s.ciph with queue := s.ciph.queue ++ [{ req := r, left := r.bytes }] } })
  else (false, cipherEvent 6 0 s)

/-- The USAGE bit of an operation (R395). -/
def opUse : BulkOp → Option Nat
  | .gcmEncrypt | .gcmDecrypt => some 1
  | .ctr => some 2
  | .cmac | .cmacVerify => some 3
  | .hmac | .hmacVerify => some 4
  | .derive => some 5
  | .unwrap => some 6
  | .ecdsaSign => some 7
  | .ecdsaVerify | .sha256 | .sha384 | .keyGen | .selfTest => none

/-- Whether an operation belongs to the public-key unit (R400). -/
def opPublic : BulkOp → Bool
  | .ecdsaSign | .ecdsaVerify | .keyGen => true
  | _ => false

/-- Entries of the queue in use: a request of the gateway engine that waits for an entry has none (R401, R422). -/
def queueUsed (s : State) : Nat :=
  let others := (List.range 7).foldl (fun n q => n + bulkUsed s (q + 1)) 0
  let shared := (List.range 7).foldl (fun n q => n + (bulkUsed s (q + 1) - bulkReserve (q + 1))) 0
  min 256 (others + min (bulkUsed s 0) (32 + (124 - shared)))

/-- The check of a request's slot: EMPTY, STALE, USAGE; a verification by a slot's public key needs an ECDSA slot (R393, R395, R403). -/
def keyStatus (s : State) (r : BulkReq) : Nat :=
  let k := slotSeen s r.slot
  if r.noKey then 0
  else if r.op = .ecdsaVerify then
    (if k.type = 0 then 2 else if !r.anyGen && k.gen ≠ r.gen then 3 else if k.type ≠ 5 && k.type ≠ 6 then 4 else 0)
  else match opUse r.op with
    | some u => slotCheck s r.slot r.gen r.anyGen u
    | none => 0

/-- Whether the unit of an operation has failed its last known-answer test (R421). -/
def unitFailed (s : State) (op : BulkOp) : Bool := if opPublic op then s.ciph.pkFail else s.ciph.symFail

/-- The status with which a request fails at its start, 0 for none (R403, R404): while slots are zeroized it fails with KEY_LOST (R417, log entry 107), a unit
that has failed serves its tests alone (R421), and a GCM decryption of more than 32,768 bytes fails with LENGTH (R416). -/
def startStatus (s : State) (r : BulkReq) : Nat :=
  if s.ciph.zeroizing then 5
  else if unitFailed s r.op && r.requester ≠ 7 then 8
  else if r.op = .keyGen && s.ciph.entropyFail then 9
  else if keyStatus s r ≠ 0 then keyStatus s r
  else if r.op = .gcmDecrypt && 32768 < r.bytes then 6 else 0

/-- A request of a requester whose command waits for its result is refused where it finds no entry, and fails as at its start (R401, R403); none: it is worked
within the command. -/
def requestNow (r : BulkReq) (s : State) : Bool × State :=
  if !bulkRoom s r.requester then (false, cipherEvent 6 0 s)
  else let st := startStatus s r
       (st = 0, keyFailed st s)

end Sys2Proof.Machine
end

