-- ==== Sys2Proof/Machine/DarkOps.lean ====
section
/-!
DEFINITION. The Darkroom: calibration images, the audit record, evidence triggers, windows and slots (R431 to R447).
-/
namespace Sys2Proof.Machine
open Sys2Proof

/-- The Darkroom system event (R447); its place among the system sources is that of R549. -/
def darkEvent (cause : Nat) (s : State) : State := if coreOn s then systemEvent 5 cause s else s

def setDark (d : Dark) (s : State) : State := { s with dark := d }

/-! ### Calibration -/

/-- The modes that R120 allows on a port. -/
def modesOf (port : Nat) : List Nat :=
  if port < 4 then [1, 2, 3, 4, 5] else if port < 12 then [2, 3, 4, 5] else if port < 18 then [6, 7] else if port < 20 then [8, 9, 10] else [11]

/-- The port entries of an image, in order (R431). -/
def calKeys : List (Nat × Nat) := (List.range 28).flatMap (fun p => (modesOf p).map (fun m => (p, m)))

/-- Word w of the entries of image 0, from word 9 of the image on: its ports and modes are those of R431, its delays those that manufacture sealed. -/
def factoryEntry (w : Nat) : Word :=
  match calKeys[w / 4]? with
  | some (p, m) => if w % 4 = 0 then packW [(5, p), (4, m), (23, 0)] else if w % 4 = 3 && 12 ≤ p then 0 else Config.factoryDelay w
  | none => Config.factoryDelay w

/-- Word w of image 0 as manufacture seals it (R431, R432). -/
def factoryImage (w : Nat) : Word :=
  if w = 0 then packW [(16, 1), (16, 0)]
  else if w < 9 then rw (bytesRec (sha false (recBytes ((List.range 344).map factoryEntry)))) (w - 1)
  else if w < 353 then factoryEntry (w - 9)
  else 0

/-- Word w of image i: what manufacture or a reseal wrote. -/
def imageWord (s : State) (i w : Nat) : Word :=
  if tget [] s.dark.image i = [] then (if i = 0 then factoryImage w else 0) else rw (tget [] s.dark.image i) w

/-- The 512 words of an image. -/
def imageWords (s : State) (i : Nat) : Rec := (List.range 512).map (imageWord s i)

/-- Words that CAL_DIGEST covers: 78 port entries of 4 words and 32 TIO entries of one, from word 9. -/
def calBody (r : Rec) : Rec := (r.drop 9).take (78 * 4 + 32)

/-- Whether the CAL_DIGEST of an image checks (R431). -/
def digestOk (r : Rec) : Bool := recBytes ((r.drop 1).take 8) = sha false (recBytes (calBody r))

/-- Whether an image checks; the one that manufacture sealed does, its digest being computed so (R432). -/
def imageOk (s : State) (i : Nat) : Bool := (i = 0 && tget [] s.dark.image 0 = []) || digestOk (imageWords s i)

/-- The image of highest INDEX that checks (R432). -/
def imageInForce (s : State) : Option Nat := (List.range s.dark.images).reverse.find? (imageOk s)

/-- The entry of a port and mode in the image in force, that before a reseal that completes in this cycle: IN_DELAY, EG_DELAY, DLC_MIN and DLC_MAX (R431,
R432, R434). -/
def calEntry (s : State) (port mode : Nat) : Option (Int × Int × Int × Int) :=
  match (if s.dark.forceWas.2 = s.time.now + 1 then s.dark.forceWas.1 else s.dark.inForce), calKeys.findIdx? (fun e => e = (port, mode)) with
  | some i, some j =>
    let w := fun (k : Nat) => imageWord s i (9 + 4 * j + k)
    some (signed 32 (w 1).toNat, signed 32 (w 2).toNat, signed 16 (bits (w 3) 31 16), signed 16 (bits (w 3) 15 0))
  | _, _ => none

/-! ### The key, the ROM and its patches -/

/-- DRK_ID: the SHA-256 of the ROM followed by every patch applied at the last reset of the Darkroom (R443). -/
def drkId (s : State) : Bytes := sha false (List.ofFn Config.drkRom ++ s.dark.applied.flatten)

/-- A patch is taken into the patch region of 24 KiB when it is signed with the key whose hash is fused there; the next reset applies it (R426, R443). No row
of the command table brings a patch (log entry 120). -/
def patchTaken (publicKey sig body : Bytes) (s : State) : State :=
  if s.dark.run && decide (bytesNat (sha false publicKey) = Config.patchKeyHash.toNat) && ecdsaVerify false publicKey body sig
      && decide (s.dark.patch.flatten.length + body.length ≤ 24576) then setDark { s.dark with patch := s.dark.patch ++ [body] } s
  else s

/-- The Darkroom generates its key pair (R442): the private key is a free value of the range of P-256. -/
def darkKeys (s : State) : State :=
  let r := randomBytes 4 s
  let d := beBytes (1 + bytesNat r.1 % (p256.n - 1)) 32
  setDark { r.2.dark with secret := d, key := some (BitVec.ofNat 768 (bytesNat (ecdsaPublic false d))) } r.2

/-- A signature of the Darkroom; before its key exists the spec states none: a free value (R442, log entry 72). -/
def darkSign (msg : Bytes) (s : State) : Bytes × State :=
  if s.dark.key.isNone then randomBytes 8 s else (ecdsaSign false s.dark.secret msg, s)

/-! ### The audit record -/

/-- An entry is appended to the audit record, of 128 entries (R443). -/
def auditAppend (kind count : Nat) (old new : Word) (fwVer : Nat) (s : State) : State :=
  let e : Rec := [packW [(4, kind), (1, 1), (7, count), (20, 0)], old, new] ++ split64 s.time.now
    ++ [packW [(16, s.time.epoch), (16, fwVer)]] ++ split64 (bytesNat (drkId s) % 2 ^ 64)
  if s.dark.audit.length < 128 then setDark { s.dark with audit := s.dark.audit ++ [e] } s else s

/-! ### Windows -/

/-- Slots of the evidence flash (R438). -/
def nSlots : Nat := 16 + Config.evidenceSlots.val

def darkSlot (s : State) (i : Nat) : DarkSlot := tget {} s.dark.slot i
def setDarkSlot (i : Nat) (v : DarkSlot) (s : State) : State := setDark { s.dark with slot := tset {} s.dark.slot i v } s

/-- Slots that are free: empty, and not the slot of a window in progress. -/
def freeSlots (s : State) : List Nat :=
  (List.range nSlots).filter (fun i => (darkSlot s i).st = 0 && (match s.dark.cur with | some w => w.slot ≠ i | none => true))

/-- The window record by default (R436). -/
def windowDefault : Rec := [packW [(16, 8000), (16, 2000)], packW [(16, 8064), (16, 0)], 0xFFFF7FFF]
def windowRec (s : State) : Rec := if s.dark.window = [] then windowDefault else s.dark.window

/-- CAPTURE of SYS.DRK_STAT. -/
def darkCapture (s : State) : Bool := s.dark.cur.isSome

/-- The TRIGGER record (R453). -/
def triggerRecord (src : TrigSrc) (outcome : Nat) (s : State) : State :=
  csPush 0x0A [match src with
    | .host m tag => pack64 [(2, 1), (2, outcome), (12, 0), (3, m), (16, tag), (29, 0)]
    | .gateway b f e id => pack64 [(2, 2), (2, outcome), (5, b), (3, f), (4, e), (19, 0), (29, id)]] s

/-- Whether a trigger takes the place of the one that opened the window in the same core cycle (R437). -/
def triggerBefore (new old : TrigSrc) : Bool :=
  match new, old with
  | .host _ _, .gateway _ _ _ _ => true
  | .gateway _ _ e _, .gateway _ _ f _ => e < f
  | _, _ => false

/-- A window for a trigger. -/
def newWindow (src : TrigSrc) (s : State) : DarkWindow :=
  { src := src, lt := s.time.now, epoch := s.time.epoch, wt := fullTime (wtNow s), cfg := windowRec s, clkFb := s.dark.clkFb }

/-- An evidence trigger: its outcome (0 window opened, 1 merged, 2 queued, 3 refused) and the state (R435, R437, R440). -/
def evidenceTrigger (src : TrigSrc) (s : State) : Nat × State :=
  let answer := fun (o : Nat) (cause : Option Nat) (s : State) =>
    (o, match cause with | some c => darkEvent c (triggerRecord src o s) | none => triggerRecord src o s)
  if !s.dark.run then answer 3 none s
  else match s.dark.cur with
    | none =>
      match freeSlots s with
      | [] => answer 3 (some 0x02) s
      | i :: _ => answer 0 none (setDark { s.dark with cur := some { newWindow src s with slot := i } } s)
    | some w =>
      if w.phase ≤ 1 then
        let w1 := if w.lt = s.time.now && triggerBefore src w.src then { w with src := src } else w
        answer 1 (some 0x03) (setDark { s.dark with cur := some { w1 with merged := satAdd 16 w.merged 1 } } s)
      else match s.dark.queue with
        | some w =>
          if w.epoch = s.time.epoch && w.lt = s.time.now then
            answer 1 (some 0x03) (setDark { s.dark with queue := some { w with src := if triggerBefore src w.src then src else w.src, merged := satAdd 16 w.merged 1 } } s)
          else answer 3 (some 0x02) s
        | none =>
          if freeSlots s = [] then answer 3 (some 0x02) s
          else answer 2 (some 0x03) (setDark { s.dark with queue := some { newWindow src s with queued := true } } s)

/-- The place after the newest record, and that of the oldest that the trace holds, counted from the first record ever (R449, R456). -/
def nextAt (s : State) : Nat := s.cs.runs.headD 0 + s.cs.next
def oldestAt (s : State) : Nat := nextAt s - s.cs.trace.length

/-- Whether a window selects a record; gap markers are kept (R436, R437). -/
def windowTakes (w : DarkWindow) (r : CsRec) : Bool := r.kind = 1 || flag w.cfg 2 r.kind

/-- The most records of a window (R437). -/
def windowMax : Nat := 32256

/-- The parts of a window are taken from what the trace holds (R437). -/
def takeBefore (s : State) : State :=
  match s.dark.cur with
  | none => s
  | some w =>
    if w.phase ≠ 0 || !s.dark.run then s
    else
      let from0 := w.lt - fld w.cfg 0 31 16 * 1000000
      let til := w.lt + fld w.cfg 0 15 0 * 1000000
      let held := s.cs.trace.reverse
      let sel := held.filter (windowTakes w)
      let bef := sel.filter (fun r => from0 ≤ r.lt && r.lt ≤ w.lt)
      let aft := sel.filter (fun r => w.lt < r.lt && r.lt ≤ til)
      let room := windowMax - fld w.cfg 1 31 16
      let lostOld := match held with | r :: _ => decide (from0 < r.lt && 0 < oldestAt s) | [] => false
      setDark { s.dark with cur := some { w with
        phase := 1, before := bef.drop (bef.length - room), truncBefore := decide (room < bef.length) || lostOld
        after := aft.take (windowMax - min bef.length room), truncAfter := decide (windowMax - min bef.length room < aft.length) } } s

/-- A record that enters the trace reaches an open window; one of the cycle in which the window closes still does (R437). -/
def windowLive (r : CsRec) (s : State) : State :=
  match s.dark.cur with
  | none => s
  | some w =>
    if (w.phase = 1 || w.phase = 2) && s.dark.run && windowTakes w r && decide (w.lt < r.lt) && decide (r.lt ≤ w.lt + fld w.cfg 0 15 0 * 1000000) then
      if w.before.length + w.after.length < windowMax then setDark { s.dark with cur := some { w with after := w.after ++ [r] } } s
      else setDark { s.dark with cur := some { w with truncAfter := true } } s
    else s

/-- The after-part ends, when its time has passed or the space has run out (R437). -/
def closeWindow (s : State) : State :=
  match s.dark.cur with
  | none => s
  | some w =>
    if w.phase = 1 && s.dark.run && (w.truncAfter || w.epoch ≠ s.time.epoch || decide (w.lt + fld w.cfg 0 15 0 * 1000000 ≤ s.time.now)) then
      let s1 := setDark { s.dark with cur := some { w with phase := 2, clkFb := w.clkFb || s.dark.clkFb } } s
      if w.truncBefore || w.truncAfter then darkEvent 0x04 s1 else s1
    else s

/-- A record as four words (R448). -/
def csWords (r : CsRec) : Rec :=
  [word r.lt, packW [(5, r.kind), (1, b2n r.more), (1, 0), (9, r.lt / 2 ^ 32), (16, r.seq)]] ++ split64 r.payload.toNat

/-- Words 0 to 42 of the header (R439). -/
def windowHeader (s : State) (w : DarkWindow) (ev : Nat) : Rec :=
  let recs := w.before ++ w.after
  let first := recs.head?
  let last := recs.getLast?
  let gap := recs.any (fun r => r.kind = 1)
  let cal := s.dark.inForce.getD 0
  let src := match w.src with | .host _ _ => 1 | .gateway _ _ _ _ => 2
  let w8 := match w.src with
    | .host m tag => [packW [(3, m), (2, 0), (3, 0), (8, 0), (16, tag)], 0]
    | .gateway b f e id => [packW [(5, b), (3, f), (8, e), (16, 0)], word id]
  [packW [(16, 1), (8, src), (1, b2n w.truncBefore), (1, b2n w.truncAfter), (1, b2n gap), (1, b2n w.queued), (1, b2n w.clkFb), (3, 0)], word ev]
    ++ split64 w.lt ++ [packW [(16, w.epoch), (16, w.merged)]] ++ w.wt ++ w8
    ++ split64 (match first with | some r => r.lt | none => 0) ++ split64 (match last with | some r => r.lt | none => 0)
    ++ [word (match first with | some r => r.seq | none => 0), word (match last with | some r => r.seq | none => 0)]
    ++ [packW [(16, w.before.length), (16, w.after.length)], rw w.cfg 2, packW [(4, cal), (28, 0)]]
    ++ bytesRec (drkId s) ++ ((imageWords s cal).drop 1).take 8
    ++ bytesRec (sha false (recBytes (recs.flatMap csWords)))

/-- DIGEST and SIG complete, and writing to the flash starts (R437, R439, R440); with VDD_DRK below 0.76 V no page is started (R429). -/
def signWindow (s : State) : State :=
  match s.dark.cur with
  | none => s
  | some w =>
    if w.phase ≠ 2 || !s.dark.run || s.dark.lowAt.isSome then s
    else
      let h := windowHeader s w s.dark.nextEv
      let sig := darkSign (recBytes h) s
      let s := sig.2
      let full := h ++ bytesRec sig.1 ++ List.replicate 5 0
      setDarkSlot w.slot { st := 1, evSeq := s.dark.nextEv, header := full, recs := w.before ++ w.after }
        (setDark { s.dark with cur := some { w with phase := 3, evSeq := s.dark.nextEv, header := full, wrote := s.time.now }, nextEv := s.dark.nextEv + 1 } s)

/-- A queued trigger takes its turn (R437). -/
def nextWindow (s : State) : State :=
  match s.dark.queue with
  | none => s
  | some w =>
    match freeSlots s with
    | [] => darkEvent 0x02 (setDark { s.dark with queue := none } s)
    | i :: _ => setDark { s.dark with queue := none, cur := some { w with slot := i } } s

/-- The first instant at which the commit page of a window can be on its way into the flash: behind the header and 16 records to a page, each page taking at
least the 512 clocks of 20 ns in which its 256 bytes cross the quad port (R438, R440; log entry 120). -/
def commitFrom (w : DarkWindow) : Nat := w.wrote + 10240 * (1 + (w.before.length + w.after.length + 15) / 16)

/-- The commit page is programmed and read back: the record is acknowledged (R440). With VDD_DRK lost, that page was already being programmed (R429). -/
def ackWindow (s : State) : State :=
  match s.dark.cur with
  | none => s
  | some w =>
    let started := match s.dark.lowAt with | some a => decide (commitFrom w ≤ a) | none => decide (commitFrom w ≤ s.time.now)
    if w.phase ≠ 3 || !s.dark.run || !started then s
    else
      nextWindow (darkEvent 0x01 (setDarkSlot w.slot { darkSlot s w.slot with st := 2 } (count rDRK_STAT 15 0 (setDark { s.dark with cur := none } s))))

/-- Fuse steps used by the limited-change setting of an audit KIND (R443). -/
def fuseCount (s : State) (kind : Nat) : Nat :=
  match kind with | 1 => s.sys.fw.floor + 1 | 2 => s.dark.images | 3 => s.sys.fw.lifecycle | _ => s.pair.binds

/-- The last entry of a KIND whose fuse count does not match gets a second entry, with APPLIED clear (R443, R618). -/
def auditCheck (kind : Nat) (s : State) : State :=
  match s.dark.audit.reverse.find? (fun e => fld e 0 31 28 = kind) with
  | none => s
  | some e =>
    if fld e 0 26 20 = fuseCount s kind || 128 ≤ s.dark.audit.length then s
    else setDark { s.dark with audit := s.dark.audit ++ [[packW [(4, kind), (1, 0), (7, fuseCount s kind), (20, 0)], rw e 1, rw e 2]
      ++ split64 s.time.now ++ [packW [(16, s.time.epoch), (16, fld e 5 15 0)]] ++ split64 (bytesNat (drkId s) % 2 ^ 64)] } s

/-- The Darkroom resets (R427, R430, R432, R437, R440, R446): a window is lost, unfinished slots are erased, the image in force is picked;
a reseal under way goes on. DRK_ID is that of the ROM with the patches then in the region (R443). -/
def darkReset (s : State) : State :=
  let torn := s.dark.slot.filter (fun e => e.2.st = 1)
  let d := { s.dark with
    run := true, clkFb := false, applied := s.dark.patch, cur := none, queue := none
    trig := [], trigHold := [], window := []
    slot := tmap {} s.dark.slot (fun _ v => if v.st = 1 then {} else { v with exporting := false }) }
  let s1 := [1, 2, 3, 4].foldl (fun s k => auditCheck k s) (regSet rDRK_STAT 0 (setDark d s))
  let img := imageInForce s1
  torn.foldl (fun s _ => darkEvent 0x07 s) (setDark { s1.dark with inForce := img, calBad := img.isNone } s1)

/-- The hold-up of VDD_DRK has ended by t, 2 ms after the loss: the Darkroom stops, and a window that is not acknowledged is lost (R429, R430). -/
def holdUpEnds (t : Nat) (s : State) : State :=
  match s.dark.lowAt with
  | some a => if s.dark.run && decide (a + 2000000 ≤ t) then setDark { s.dark with run := false, cur := none, queue := none } s else s
  | none => s

/-! ### Triggers from buses -/

/-- The frame of a bus that reaches its valid instant raises a trigger for each entry that matches (R435). place: 0 to 23 CAN, 24 to 31 LIN. -/
def gatewayTrigger (place : Nat) (f : CanFrame) (s : State) : State :=
  (List.range 16).foldl (fun s e =>
    let r := tget [] s.dark.trig e
    let mask := fld r 2 28 0
    if flag r 0 31 && fld r 0 30 26 = place && fld r 0 25 23 = f.format && decide (f.id &&& mask = fld r 1 28 0 &&& mask)
        && decide (tget 0 s.dark.trigHold e ≤ s.time.now) then
      (evidenceTrigger (.gateway place f.format e f.id)
        (setDark { s.dark with trigHold := tset 0 s.dark.trigHold e (s.time.now + fld r 0 22 7 * 1000000) } s)).2
    else s) s

end Sys2Proof.Machine
end

