-- ==== Sys2Proof/Machine/TxOps.lean ====
section
/-!
DEFINITION. Transmission: the choice of a head frame, its start and its end, preemption, gate entries and lists (R94 to R100, R180, R186, R202, R203,
R210 to R216, R220, R221, R225 to R233).
-/
namespace Sys2Proof.Machine

/-! ### The choice -/

/-- Whether a class of a port is express (R225). -/
def expressClass (s : State) (p c : Nat) : Bool := !(srPreempt (schedOf s p) c && (portOf s p).mergeAct)

/-- The wire time of a queue entry in ns (R202). -/
def wireTime (s : State) (p : Nat) (r : Replica) : Nat := lineTime s p (wireLen s p r)

/-- The egress stamp of a frame that starts on a port now (R94, R141). -/
def egressStamp (s : State) (p : Nat) : Int := s.time.now * 65536 + egressAdd s p

/-- Working time n ns from now at the slew in force, whatever mapping is to come (R215). -/
def wtAhead (s : State) (n : Nat) : Int := wtAt (mapOf s.time s.time.now) (s.time.now + n)

/-- Whether a head frame of a class waits for its launch instant: LT_EN holds for the class, and the stamp point would cross the reference plane before it (R229
to R231). -/
def heldForLaunch (s : State) (p c : Nat) (r : Replica) : Bool :=
  match r.launch with
  | some w => srLaunch (schedOf s p) c && !r.late && decide (wtOfStamp s (egressStamp s p) < w)
  | none => false

/-- Whether a start would reach past the launch instant of a frame held in a higher express class (R231). -/
def launchGuard (s : State) (p c : Nat) (r : Replica) : Bool :=
  let done := wtAhead s (wireTime s p r)
  (List.range 8).any (fun d =>
    (c < d || !expressClass s p c) && expressClass s p d && srLaunch (schedOf s p) d &&
    match queueOf (egressOf s p) d with
    | h :: _ => heldForLaunch s p d h && (match h.launch with | some w => decide (w < done) | none => false)
    | [] => false)

/-- Whether credit or tokens let a head frame start (R203, R220, R221). -/
def creditOk (s : State) (p c : Nat) (r : Replica) : Bool :=
  let h := shaperOf s p c
  match srAlg (schedOf s p) c with
  | 1 => decide (0 ≤ h.credit)
  | 2 => decide (min (wireLen s p r : Int) (rw h.rec0 2).toNat * credUnit ≤ h.credit)
  | _ => true

/-- The closing that keeps an express frame from fitting, or none where it fits (R215). -/
def misfit (s : State) (p c : Nat) (r : Replica) : Option Int := windowEnd s p c (wtNow s) (wtAhead s (wireTime s p r))

/-- GUARD_HOLD counts once for a head frame and window, which ends at w (R203). -/
def guardHold (p c : Nat) (w : Int) (s : State) : State :=
  let e := egressOf s p
  if tget none e.guardAt c = some w then s
  else schedCount p (7 + 8 * c) (setEgress p { e with guardAt := tset none e.guardAt c (some w) } s)

/-- The first class of the list with an eligible head frame (R203). -/
def choose (p : Nat) (exp : Bool) : List Nat → State → Option Nat × State
  | [], s => (none, s)
  | c :: cs, s =>
    if expressClass s p c ≠ exp then choose p exp cs s
    else match queueOf (egressOf s p) c with
      | [] => choose p exp cs s
      | r :: _ =>
        if !gateOpenAt s p c (wtNow s) || heldForLaunch s p c r || !creditOk s p c r then choose p exp cs s
        else match (if exp then misfit s p c r else none) with
          | some w => choose p exp cs (guardHold p c w s)
          | none => if launchGuard s p c r then choose p exp cs s else (some c, s)

/-- The classes, highest first. -/
def classes : List Nat := [7, 6, 5, 4, 3, 2, 1, 0]

/-! ### The start -/

/-- What leaves on the line of a port; while a loop is set the line carries no frame (R648), and port 28 has none (R683). -/
def onLine (p : Nat) (o : Output) (s : State) : State := if (portOf s p).loop = 0 && p ≠ 28 then emit o s else s

/-- A gPTP message has left with egress stamp e: its counters, t1 of a Pdelay_Req, and the message that follows it (R84, R86, R95, R99, R100): the
Follow_Up of a Sync as the next frame of the class, that of a Pdelay_Resp behind the frames that wait (R198). -/
def gptpLeaves (p c : Nat) (g : GptpTx) (e : Int) (s : State) : State :=
  let long := match g.ingress with
    | some i => decide (10000000 * 65536 < e - i)
    | none => false
  let s1 := if long then countNet g.slot p 4 s else s
  let s2 := if g.kind = 0 then countNet g.slot p 1 s1 else if g.kind = 8 then countNet g.slot p 2 s1 else s1
  let s3 := if g.kind = 2 then setPortTime p { portTimeOf s2 p with reqT1 := some e } s2 else s2
  if gptpTwoStep g then
    let f := gptpFollower s g e
    let r : Replica := { admitted := s.time.now, len := (gptpBytes s p f e).length + 4, gptp := some f }
    if g.kind = 0 then setQueue p c (r :: queueOf (egressOf s3 p) c) s3 else enterClass p c none r s3
  else s3

/-- Egress mirror copies of an original that starts on a port (R180, R181); one whose DEST is not UP as in `mirrorIn`. -/
def mirrorOut (p : Nat) (r : Replica) (bytes : Bytes) (s : State) : State :=
  if r.mirror.isSome then s
  else (mirrorSessions s 2 p [p, r.inPort]).foldl (fun s i =>
    let m := tget [] s.fwd.mirror i
    let dest := fld m 0 30 26
    let copy : Replica := { frame := r.frame, own := bytes, admitted := 0, inPort := r.inPort, dei := r.dei, mirror := some i, len := bytes.length + 4 }
    let s1 := fwdCount p 15 1 (if r.frame = 0 then s else modFrame r.frame (fun f => { f with refs := f.refs + 1 }) s)
    if portUp s1 dest then enterClass dest (fld m 0 25 23) none copy s1 else dropRep copy (mirrorDropped i s1)) s

/-- The charge of a start (R220, R221). -/
def chargeShaper (p c wire : Nat) (s : State) : State :=
  let alg := srAlg (schedOf s p) c
  let h := shaperOf s p c
  if alg = 1 ∨ alg = 2 then setShaper p c { h with credit := clampCredit alg h.rec0 (h.credit - wire * credUnit) } s else s

/-- Lateness of a start, by its stamp point (R230, R232). -/
def countLate (p c : Nat) (r : Replica) (s : State) : State :=
  let late := srLaunch (schedOf s p) c && match r.launch with
    | some w => r.late || decide (w + fld (schedOf s p) 2 31 16 * wtNs < wtOfStamp s (egressStamp s p))
    | none => false
  if late then schedEvent p c 0x03 (schedCount p (8 + 8 * c) s) else s

/-- A notice is due: it waits, up to 64 of them (R546). -/
def pushNotice (n : Notice) (s : State) : State :=
  if s.mbx.notices.length < 64 then { s with mbx := { s.mbx with notices := s.mbx.notices ++ [n] } }
  else count (rMBX s.mbx.noticeMbx 0x10) 23 16 s

/-- The notice of a TO_CONTROL frame that reaches port 29 (R284). -/
def noticeControl (p : Nat) (r : Replica) (s : State) : State :=
  if p ≠ 29 then s
  else match frameOf s r.frame with
    | some f => match f.control with
      | some i => pushNotice (controlNotice f i s) s
      | none => s
    | none => s

/-- A replica that reads a cell with an uncorrectable error is ended with an invalid FCS and counted (R653). -/
def cellEcc (p : Nat) (r : Replica) (s : State) : State :=
  match frameOf s r.frame with
  | some f => if f.bad then onLine p (.cut s.time.now p) (countDrop p 0x17 s) else s
  | none => s

/-- The bytes of a queue entry that leave after the first byte of its last cell: those of the cell, and the ICV (R182, R186). -/
def tailBytes (s : State) (p : Nat) (r : Replica) (bytes : Bytes) : Nat :=
  match frameOf s r.frame with
  | some f => (f.bytes.length - 1) % 64 + 1 + if protects s p bytes then 16 else 0
  | none => 0

/-- The head frame of a class starts on the line (R94, R186, R202, R203). TX_FRAMES and TX_BYTES count it here, whether or not it is cut later (the model's choice,
R196, log entry 112). One that MACsec discards is no start (R232, R413). -/
def startHead (p c : Nat) (s0 : State) : State :=
  match queueOf (egressOf s0 p) c with
  | [] => s0
  | r :: q =>
    let bytes := match r.gptp with
      | some g => gptpBytes s0 p g (egressStamp s0 p)
      | none => repBytes s0 p r
    let wire := wireLen s0 p r
    let total := wire - 20
    match macsecTx p bytes (departed p c q s0) with
    | none => dropReplica p c 0x15 r (secyCount p 8 1 (departed p c q s0))
    | some (line, s1) =>
      let s2 := countLate p c r (chargeShaper p c wire s1)
      let s3 := sampleDeparture p c (s0.time.now - r.admitted) (schedCount p (3 + 8 * c) s2)
      let s4 := egressGroup p c (stampNs (egressStamp s3 p)) none r bytes (fwdCount p 4 (bytes.length + 4) (fwdCount p 3 1 s3))
      let s5 := mirrorOut p r bytes s4
      let out := onLine p (.frame s5.time.now p (withFcs line)) s5
      let s6 := match r.gptp with
        | some g => gptpLeaves p c g (egressStamp s0 p) out
        | none => out
      let s7 := cellEcc p r (noticeControl p r s6)
      let e := egressOf s7 p
      let free := s7.time.now + lineTime s7 p (total + 20)
      plcaSent p free (setEgress p { e with
        sending := some { rep := r, cls := c, express := expressClass s0 p c, start := s7.time.now, done := s7.time.now + lineTime s7 p total
                          tail := lineTime s7 p (tailBytes s0 p r bytes) }
        free := free } s7)

/-- The preempted frame of a port resumes (R226, R228). -/
def resume (p : Nat) (s : State) : State :=
  let e := egressOf s p
  match e.preempted with
  | none => s
  | some (t, left) => setEgress p { e with
      sending := some { t with start := s.time.now, done := s.time.now + left }, preempted := none
      free := s.time.now + left + lineTime s p 20 } s

/-- The frame on the line of a port: its reference is released when its last cell has been read, and it leaves the line with its last byte (R186). -/
def txEnd (p : Nat) (s0 : State) : State :=
  let s := txRelease p s0
  let e := egressOf s p
  match e.sending with
  | some t => if t.done ≤ s.time.now then dropSending t (setEgress p { e with sending := none } s) else s
  | none => s

/-! ### Preemption -/

/-- The MAC ends the fragment of a preemptable frame on the line where 802.3br allows: not before the least fragment, of 64 × (1 + ADD_FRAG) bytes with
its mCRC, and not with less than 64 bytes left (R226, R237). -/
def endFragment (p : Nat) (s : State) : State :=
  let e := egressOf s p
  match e.sending with
  | none => s
  | some t =>
    let least := t.start + lineTime s p (64 * (1 + prAddFrag (portRec s p)) - 4)
    let stop := max s.time.now least
    if t.express || t.done < stop + lineTime s p 64 then s
    else
      let s1 := onLine p (.cut stop p) (setEgress p { e with
        sending := none, preempted := some ({ t with ended := true }, t.done - stop), free := stop + lineTime s p 24, cutEnd := stop + lineTime s p 4 } s)
      if t.ended then s1 else schedCount p 0 s1

/-- OP of the gate entry in force at local time l, in the pending list from its start on (R211, R227): bits [31:30] of its word. -/
def gateOpAt (s : State) (p l : Nat) : Nat :=
  let g := (egressOf s p).gates
  let w := wtOf s l
  let lst := match g.pending with
    | some st => if st ≤ w then (gateBank g (1 - g.force), st) else (gateBank g g.force, g.start)
    | none => (gateBank g g.force, g.start)
  match gateEntry lst.1 lst.2 w with
  | some (_, e, _) => bits e 23 22
  | none => 0

/-- OP of the entry that is in force an advance of ns ahead (R227). -/
def opAhead (s : State) (p ns : Nat) : Nat := gateOpAt s p (s.time.now + ns)

/-- HOLD_ADVANCE and RELEASE_ADVANCE of a port-scheduler record, in ns. -/
def srHoldAdv (r : Rec) : Nat := fld r 1 31 16
def srReleaseAdv (r : Rec) : Nat := fld r 1 15 0

/-- Whether a hold stands on a port: it is asserted, or it is due in this very cycle (R227, R233). -/
def holdStands (s : State) (p : Nat) : Bool :=
  let at0 := s.time.now + srHoldAdv (schedOf s p)
  (egressOf s p).hold ||
    (srGateEn (schedOf s p) && (portOf s p).mergeAct && gateOpAt s p at0 = 1 && (at0 = 0 || gateOpAt s p (at0 - 1) ≠ 1))

/-- The class of the frame that stands preempted on a port. -/
def preemptedClass (s : State) (p : Nat) : Option Nat := (egressOf s p).preempted.map (fun x => x.1.cls)

/-- The line of a port can take a frame, or holds a preemptable one that an eligible express frame ends at its next fragment: the scheduler chooses (R39,
R127, R141, R203, R226, R228). -/
def txStart (p : Nat) (s0 : State) : State :=
  let s := txEnd p (refillNow (settleRefused p s0))
  let e := egressOf s p
  let express := choose p true (classes.filter (fun c => preemptedClass s p ≠ some c))
  if !portUp s p || fwdOff s || !mayTransmit s p then s
  else match e.sending with
    | some t =>
      if t.express then s
      else match express s with
        | (some _, s1) => endFragment p s1
        | (none, s1) => s1
    | none =>
      if s.time.now < e.free then s
      else match express s with
        | (some c, s1) => startHead p c s1
        | (none, s1) =>
          if holdStands s1 p then s1
          else match (egressOf s1 p).preempted with
            | some (t, _) => if gateOpenAt s1 p t.cls (wtNow s1) then resume p s1 else s1
            | none => match choose p false classes s1 with
              | (some c, s2) => startHead p c s2
              | (none, s2) => s2

/-- A hold is asserted or released (R225, R227). -/
def setHold (p : Nat) (on : Bool) (s : State) : State :=
  if !(portOf s p).mergeAct then s
  else
    let s1 := setEgress p { egressOf s p with hold := on } s
    if on then endFragment p s1 else s1

/-! ### Gate lists -/

/-- The pending list of a port comes into force once working time w has reached its S (R210). -/
def gateListAt (p : Nat) (w : Int) (s : State) : State :=
  let e := egressOf s p
  match e.gates.pending with
  | none => s
  | some st =>
    if w < st then s
    else setEgress p { e with gates := { e.gates with
      force := 1 - e.gates.force, start := st, pending := none, busy := false, ecc := false, late := e.gates.late && e.gates.pendLate } } s

/-- The pending list of a port is due (R210). -/
def gateListStart (p : Nat) (s : State) : State := gateListAt p (wtNow s) s

/-- The lists that the old mapping's working time w has reached by the anchor of a step are in force, whichever way it goes (R233). -/
def gateListsAt (w : Int) (s : State) : State := s.egress.foldl (fun s e => gateListAt e.1 w s) s

/-- A preemptable frame on the line whose gate has closed ends its fragment (R226). -/
def closeCut (p : Nat) (s : State) : State :=
  match (egressOf s p).sending with
  | some t => if !t.express && !gateOpenAt s p t.cls (wtNow s) then endFragment p s else s
  | none => s

/-- A gate entry starts (R211, R226, R227): the hold stands as its OP says. -/
def gateEntryStart (p : Nat) (s0 : State) : State :=
  let s := gateListStart p s0
  if !srGateEn (schedOf s p) then s
  else
    let e := egressOf s p
    let op := gateOpAt s p s.time.now
    let frag := decide (s.time.now < e.cutEnd) || (match e.sending with | some t => !t.express && decide (s.time.now < t.done) | none => false)
    let s1 := if op = 1 then setHold p true (if frag && (portOf s p).mergeAct then schedCount p 1 s else s)
      else if op = 2 then setHold p false s
      else s
    closeCut p s1

/-- The head frame of an express class that no window can take is dropped after one CYCLE, in local time (R216; local time is the model's choice, log entry 112). -/
def starveDrop (p c : Nat) (s : State) : State :=
  let e := egressOf s p
  match queueOf e c with
  | [] => s
  | r :: q =>
    let l := gateBank e.gates e.gates.force
    let tooLong := match longestWindow l c with
      | none => false
      | some n => decide (n < wireTime s p r)
    if expressClass s p c && srGateEn (schedOf s p) && tooLong && decide (tget 0 e.headAt c + l.cycle ≤ s.time.now) then
      schedEvent p c 0x02 (dropReplica p c 0x16 r (schedCount p (6 + 8 * c) (departed p c q s)))
    else s

/-- The head frame of a class reaches its launch instant (R231). -/
def launchReached (p c : Nat) (s : State) : State :=
  match queueOf (egressOf s p) c with
  | [] => s
  | r :: _ => if r.launch.isSome && !heldForLaunch s p c r then txStart p s else s

end Sys2Proof.Machine
end

