-- ==== Sys2Proof/Machine/GwOps.lean ====
section
/-!
DEFINITION. CAN controllers, transmit slots and receive rings, LIN publish buffers, tunnels, and the gateway engine (R304 to R354); who owns a bus (R584);
a segment that becomes AWAKE (R378, R380).
-/
namespace Sys2Proof.Machine

/-! ### Ownership -/

/-- Whether this device acts as owner of an object (R581, R584). -/
def owns (s : State) (o : Nat) : Bool := !s.pair.en || (tget {} s.pair.obj o).owned

/-! ### Controllers -/

def canOf (s : State) (b : Nat) : Can := tget {} s.gw.can b
def setCan (b : Nat) (c : Can) (s : State) : State := { s with gw := { s.gw with can := tset {} s.gw.can b c } }
def canMode (c : Can) : Nat := fld c.rec0 0 26 25
def canHostSlots (c : Can) : Nat := if c.rec0 = [] then 4 else fld c.rec0 0 18 14
def linOf (s : State) (b : Nat) : Lin := tget {} s.gw.lin b
def setLin (b : Nat) (l : Lin) (s : State) : State := { s with gw := { s.gw with lin := tset {} s.gw.lin b l } }
def linMode (l : Lin) : Nat := fld l.rec0 0 28 27

/-- MODE in force: listen-only on a bus that is not owned (R584). -/
def canModeNow (s : State) (b : Nat) : Nat := if canMode (canOf s b) = 1 && !owns s b then 2 else canMode (canOf s b)

/-- A counter of R351, by its word; LATE_MAX is not counted here. -/
def canCount (b w : Nat) (s : State) : State :=
  let c := canOf s b
  setCan b { c with counts := tset 0 c.counts w (satAdd 32 (tget 0 c.counts w) 1) } s
def linCount (b w : Nat) (s : State) : State :=
  let l := linOf s b
  setLin b { l with counts := tset 0 l.counts w (satAdd 32 (tget 0 l.counts w) 1) } s

/-- A drop of R349 is counted at a place: 0 to 23 CAN, 24 to 31 LIN, 32 port 30, from 64 on receive tunnels. -/
def gwDrop (place code : Nat) (s : State) : State :=
  { s with gw := { s.gw with drops := tset 0 s.gw.drops (place * 32 + code) (satAdd 32 (tget 0 s.gw.drops (place * 32 + code)) 1) } }

/-- The gateway system event (R353). -/
def gwEvent (cause : Nat) (s : State) : State := systemEvent 4 cause s

/-- The nominal bit time of a controller in ns (R306). -/
def canBitTime (c : Can) : Nat := (fld c.rec0 1 31 23) * (1 + fld c.rec0 1 22 14 + fld c.rec0 1 13 7) * 5

/-! ### Cells of a frame in the engine -/

/-- A frame takes its cells as a frame of port 30, or none of them (R185, R350). -/
def gwTake (bytes : Nat) (s : State) : Option Nat × State :=
  let r := takeCells 30 (mayReserve s 30 []) ((16 + bytes + 63) / 64) (0, 0, 0) (releaseLines s)
  let c := r.2.1
  let s1 := r.2.2
  let n := s1.gw.nextCells
  if r.1 then (some n, { s1 with gw := { s1.gw with nextCells := n + 1, cells := tset (0, 0, 0, 0) s1.gw.cells n (c.1, c.2.1, c.2.2, 1) } })
  else (none, freeCells 30 c s1)

/-- One more, or one less, holder of a frame's cells; the last one frees them. -/
def gwHold (n : Option Nat) (s : State) : State :=
  match n with
  | none => s
  | some i => let c := tget (0, 0, 0, 0) s.gw.cells i
              { s with gw := { s.gw with cells := tset (0, 0, 0, 0) s.gw.cells i (c.1, c.2.1, c.2.2.1, c.2.2.2 + 1) } }
def gwFree (n : Option Nat) (s : State) : State :=
  match n with
  | none => s
  | some i =>
    let c := tget (0, 0, 0, 0) s.gw.cells i
    if 1 < c.2.2.2 then { s with gw := { s.gw with cells := tset (0, 0, 0, 0) s.gw.cells i (c.1, c.2.1, c.2.2.1, c.2.2.2 - 1) } }
    else freeCells 30 (c.1, c.2.1, c.2.2.1) { s with gw := { s.gw with cells := tset (0, 0, 0, 0) s.gw.cells i (0, 0, 0, 0) } }

/-! ### Receive rings -/

/-- An entry of a receive ring (R319). -/
def ringEntry (s : State) (kind bus : Nat) (f : CanFrame) (authOk routed : Bool) (tag : Word) (stamp status aux : Nat) : Rec :=
  let xl := decide (f.format = 4)
  [packW [(3, kind), (5, bus), (3, f.format), (1, b2n f.rtr), (1, b2n f.brs), (1, b2n f.esi), (1, b2n authOk), (1, b2n routed), (4, f.dlc), (12, f.data.length)],
   packW [(3, 0), (29, f.id)], if xl then packW [(8, f.sdt), (8, f.vcid), (1, b2n f.sec), (15, 0)] else 0, if kind = 2 then tag else if xl then f.af else 0]
    ++ split64 stamp ++ [word (shortTime (wtOf s stamp)), packW [(16, status), (16, aux)]] ++ bytesRec f.data

/-- A record is offered to the ring of a CAN bus; one not written counts and opens a gap (R318, R320, R352). -/
def canRing (b : Nat) (r : Rec) (s : State) : State :=
  let s1 := ringPush (.can b) r s
  if ringDrops (.can b) r s then
    let s2 := canCount b 14 s1
    if (ringOf s (.can b)).gap.isNone && (ringOf s1 (.can b)).gap.isSome then canEvent b 1 0 s2 else s2
  else s1

/-! ### Transmit slots -/

/-- A slot is freed: the host's frame gets its completion record, a frame of the engine frees its cells (R319). -/
def slotEnds (b i : Nat) (x : CanSlot) (status lateness stamp : Nat) (s : State) : State :=
  let c := canOf s b
  let s1 := setCan b { c with slots := tset none c.slots i none, sending := if c.sending.map (·.1) = some i then none else c.sending } s
  if x.host then canRing b (ringEntry s1 2 b x.out.f false false x.tag stamp status (min lateness 65535)) s1 else gwFree x.out.cells s1

/-- Every frame in the slots of a controller is discarded under a code (R307, R317, R374). -/
def discardSlots (b code : Nat) (s : State) : State :=
  (canOf s b).slots.foldl (fun s e => match e.2 with | some x => slotEnds b e.1 x code 0 s.time.now (gwDrop b code s) | none => s) s

/-- The first free slot of a kind: engine slots below 32 - HOST_SLOTS, host slots from there (R310). -/
def freeSlot (c : Can) (host : Bool) : Option Nat :=
  firstBelow (fun i => (tget none c.slots i).isNone && decide (host = decide (32 - canHostSlots c ≤ i))) 32

/-- A frame takes a slot (R310, R314). -/
def fillSlot (b i : Nat) (o : GwOut) (host : Bool) (tag : Word) (s : State) : State :=
  let c := canOf s b
  let late := match o.launch with | some w => decide (w ≤ wtNow s) | none => false
  setCan b { c with slots := tset none c.slots i (some { out := o, host := host, tag := tag, order := c.order, placed := s.time.now, late := late }), order := c.order + 1 } s

/-- Whether PROTO of a record has a frame's format (R305). -/
def protoHas (r : Rec) (fmt : Nat) : Bool := fmt < 2 || fmt = 5 || ((fmt = 2 || fmt = 3) && 1 ≤ fld r 0 24 22) || (fmt = 4 && fld r 0 24 22 = 2)

/-- The engine places a frame on a CAN bus, or drops it (R305, R308, R310, R314, R317, R349); a format that the bus has not is dropped as FORMAT (log entry 104). -/
def placeCan (b : Nat) (o : GwOut) (s : State) : State :=
  let c := canOf s b
  let drop := fun (code : Nat) (s : State) => gwFree o.cells (gwDrop b code s)
  if canModeNow s b ≠ 1 then drop 0x04 s
  else if c.busOff then drop 0x05 s
  else if !protoHas c.rec0 o.f.format then drop 0x12 s
  else match freeSlot c false with
    | none => drop 0x07 s
    | some i => fillSlot b i (if o.f.format = 5 then { o with f := { o.f with format := 0, dlc := o.f.data.length } } else o) false 0 s

/-! ### LIN publish buffers -/

/-- The pool entries of a table of a bus: entry word 0 and word 1. -/
def linEntries (s : State) (h : Rec) : List (Nat × Word × Word) :=
  (List.range (fld h 0 12 6)).map (fun i => let k := fld h 0 23 13 + i; let e := tget (0, 0) s.gw.pool k; (k, e.1, e.2))

/-- LEN of the publish buffer of a FID, when a PUBLISH entry of a table names it (R326). -/
def pubLen (s : State) (b fid : Nat) : Option Nat :=
  ((linOf s b).head.flatMap (fun t => linEntries s t.2)).findSome? (fun e => if bits e.2.1 29 24 = fid && bit e.2.1 23 then some (bits e.2.1 21 18) else none)

/-- A frame's data goes into the publish buffer of a LIN bus (R326, R332). -/
def placeLin (b : Nat) (o : GwOut) (s : State) : State :=
  let drop := fun (code : Nat) (s : State) => gwFree o.cells (gwDrop (24 + b) code s)
  if linMode (linOf s b) ≠ 1 then drop 0x04 s
  else match pubLen s b o.f.id with
    | none => drop 0x11 s
    | some n =>
      if n ≠ o.f.data.length then drop 0x03 s
      else let l := linOf s b
           gwFree o.cells (setLin b { l with pub := tset none l.pub o.f.id (some o.f.data) } s)

/-- A frame is placed at a bus: 0 to 23 CAN, 24 to 31 LIN. -/
def placeBus (place : Nat) (o : GwOut) (s : State) : State := if place < 24 then placeCan place o s else placeLin (place - 24) o s

/-- The segment of a place (R367). -/
def placeSeg (place : Nat) : Nat := 28 + place

/-- A frame for a bus whose segment sleeps is held or dropped; a wake-worthy one cancels prepare-sleep (R376, R377, R379). -/
def placeOrHold (place : Nat) (o : GwOut) (worthy : Bool) (s : State) : State :=
  let i := placeSeg place
  let g := segOf s i
  let lost := fun (s : State) => gwFree o.cells (gwDrop place 0x06 (sleepDropped i s))
  if !segClosed s i then placeBus place o (if worthy then wakeRequest i 4 0 s else s)
  else if !worthy then lost s
  else if canHold g then holdFor i (.gw o) s
  else lost (wakeRequest i 4 0 s)

/-! ### Conversion (R332) -/

def fdLengths : List Nat := [0, 1, 2, 3, 4, 5, 6, 7, 8, 12, 16, 20, 24, 32, 48, 64]

/-- Whether a format is extended, FD, classical (R279). -/
def fmtExt (f : CanFrame) : Bool := f.format = 1 || f.format = 3
def fmtFd (f : CanFrame) : Bool := f.format = 2 || f.format = 3

/-- DLC of a length in a classical or FD frame. -/
def dlcOf (n : Nat) : Nat := (fdLengths.findIdx? (fun x => n ≤ x)).getD 15

/-- The frame in OUT_FORMAT, or the drop code (R332). ext: the identifier is extended. -/
def convert (f : CanFrame) (ext : Bool) (fmt : Nat) : CanFrame ⊕ Nat :=
  let n := f.data.length
  let plain := { f with sdt := 0, vcid := 0, sec := false, af := 0 }
  match fmt with
  | 1 => if 8 < n then .inr 0x03 else
         .inl { plain with format := b2n ext, brs := false, esi := false, dlc := if f.format < 2 then f.dlc else n, rtr := f.rtr }
  | 2 | 3 => if !fdLengths.contains n then .inr 0x03 else .inl { plain with format := 2 + b2n ext, brs := fmt = 3, dlc := dlcOf n, rtr := false }
  | 4 => if 2048 < n then .inr 0x03 else if ext || n = 0 then .inr 0x12 else
         .inl (if f.format = 4 then f else { plain with format := 4, brs := false, esi := false, dlc := 0, rtr := false })
  | _ => if f.format < 2 then .inl { f with format := b2n ext } else if fmtFd f then .inl { f with format := 2 + b2n ext }
         else if !ext then .inl f else if f.format = 4 then .inr 0x12 else .inl { plain with format := 1, dlc := n }

/-- The next length that a format allows from n on, none beyond its limit (R332, R345). -/
def nextLength (format n : Nat) : Option Nat :=
  match format with
  | 0 | 1 | 5 => if n ≤ 8 then some n else none
  | 4 => if n ≤ 2048 then some n else none
  | _ => fdLengths.find? (fun x => n ≤ x)

/-! ### Routes -/

def roSrc (r : Rec) : Nat := fld r 0 30 24
def roKey (r : Rec) : Nat × Nat × Bool := (roSrc r, fld r 0 23 21, flag r 0 20)

/-- The exact bucket of a key (R329). -/
def routeBucket (src fmt : Nat) (rtr : Bool) (id : Nat) : Nat := crc32 [(7, src), (3, fmt), (1, b2n rtr), (29, id)] % 1920

/-- The route of a frame (R329); an entry that awaits its rewrite is not valid. -/
def routeOf (s : State) (src : Nat) (f : CanFrame) : Option Nat :=
  let get := fun (k : Nat) => tget [] s.gw.route k
  let base := fun (k : Nat) => flag (get k) 0 31 && roKey (get k) = (src, f.format, f.rtr)
  match (macWays (routeBucket src f.format f.rtr f.id)).find? (fun k => base k && fld (get k) 1 28 0 = f.id) with
  | some k => some k
  | none => (s.gw.route.find? (fun e => decide (7680 ≤ e.1) && base e.1
      && decide (f.id &&& fld e.2 7 28 0 = fld e.2 1 28 0 &&& fld e.2 7 28 0))).map (·.1)

/-- The place that counts drops at the source, and the origin code of R453. -/
def srcPlace (src : Nat) : Nat := src
def srcOrigin (src : Nat) : Nat := if src < 32 then 32 + src else 30
/-- The firewall member of a source (R286). -/
def srcMember (src : Nat) : Nat × Nat := if src < 24 then (1, src) else if src < 32 then (2, src - 24) else (0, 30)

/-! ### Transmit tunnels -/

def tunnelOf (s : State) (i : Nat) : Tunnel := tget {} s.gw.tunnel i
def setTunnel (i : Nat) (t : Tunnel) (s : State) : State := { s with gw := { s.gw with tunnel := tset {} s.gw.tunnel i t } }

/-- An ACF message (R336; the bits of its header as IEEE 1722-2016, log entry 21). -/
def acfMessage (brief : Bool) (bus : Nat) (ts : Nat) (f : CanFrame) : Bytes :=
  let n := f.data.length
  let pad := (4 - n % 4) % 4
  let len := (if brief then 8 else 16) + n + pad
  beBytes (pack [(7, if brief then 2 else 1), (9, len / 4), (2, pad), (1, b2n (!brief)), (1, b2n f.rtr), (1, b2n (fmtExt f)), (1, b2n f.brs), (1, b2n (fmtFd f)),
    (1, b2n f.esi), (3, 0), (5, bus)]) 4
    ++ (if brief then [] else beBytes ts 8) ++ beBytes f.id 4 ++ f.data ++ List.replicate pad 0

/-- A working time as a count of nanoseconds (R336). -/
def nsCount (w : Int) : Nat := (w / 65536).toNat

/-- The open frame of a tunnel is flushed and enters stage 1 at port 30 (R337, R338). -/
def flushTunnel (i : Nat) (s : State) : State :=
  let t := tunnelOf s i
  if t.n = 0 then s
  else
    let r := t.rec0
    let body := t.msgs
    let sid := beBytes (cat64 (rw r 3) (rw r 4)) 8
    let avtp := if flag r 0 22 then
        beBytes (pack [(8, 0x04), (1, 1), (3, 0), (1, 0), (2, 0), (1, 1), (8, t.seq), (7, 0), (1, 0)]) 4 ++ sid
          ++ beBytes (nsCount (wtNow s) + (rw r 6).toNat) 4 ++ [0, 0, 0, 0] ++ beBytes body.length 2 ++ [0, 0]
      else beBytes (pack [(8, 0x82), (1, 1), (3, 0), (1, 0), (11, body.length), (8, t.seq)]) 4 ++ sid
    let da := (rw r 1).toNat * 65536 + fld r 2 31 16
    let head := beBytes da 6 ++ beBytes s.gw.addr 6 ++ (if flag r 0 5 then cTag (fld r 0 17 6) (fld r 0 20 18) false else []) ++ beBytes 0x22F0 2
    let bare := head ++ avtp ++ body
    let bytes := withFcs (bare ++ List.replicate (60 - bare.length) 0)
    let lt := if flag r 7 31 then some ((shortTime (wtNow s) + fld r 7 30 0) % 2 ^ 32) else none
    injectFrame { port := 30, bytes := bytes, launch := lt }
      (setTunnel i { t with msgs := [], n := 0, seq := (t.seq + 1) % 256, frames := satAdd 32 t.frames 1 } s)

/-- A message enters a tunnel (R336, R337). -/
def tunnelAdd (i : Nat) (msg : Bytes) (s0 : State) : State :=
  let t0 := tunnelOf s0 i
  let s := if t0.n ≠ 0 && (fld t0.rec0 5 15 0 < t0.msgs.length + msg.length || decide (t0.deadline ≤ wtNow s0)) then flushTunnel i s0 else s0
  let t := tunnelOf s i
  let flush := fld t.rec0 5 31 16
  let t1 := { t with msgs := t.msgs ++ msg, n := t.n + 1, messages := satAdd 32 t.messages 1
                     deadline := if t.n = 0 then wtNow s + flush * 1000 * wtNs else t.deadline }
  let s1 := setTunnel i t1 s
  if fld t.rec0 2 15 8 ≤ t1.n || flush = 0 then flushTunnel i s1 else s1

/-! ### The engine -/

/-- The gateway's key slot checks: status of a request of an authentication entry (R342). -/
def authRec (s : State) (e : Nat) : Rec := tget [] s.gw.auth e
def authReq (r : Rec) : BulkReq :=
  { requester := 0, op := .cmac, slot := fld r 0 29 22, gen := fld r 1 15 0, anyGen := flag r 0 21, bytes := fld r 5 15 4 + 10 }

/-- The launch instant of a frame under its route (R314, R328). -/
def launchOf (s : State) (r : Rec) (g : GwFrame) : Option Int :=
  let off := (rw r 6).toNat
  match fld r 0 17 16 with
  | 1 => some (ofShort (wtNow s) ((shortTime (wtOf s g.stamp) + off) % 2 ^ 32))
  | 2 => g.ts.map (fun n => ofShort (wtNow s) ((n + off) % 2 ^ 32))
  | _ => none

/-- The last step of R331: verdict and placement at each target, then the tunnel. -/
def toTargets (g : GwFrame) (out : CanFrame) (s : State) : State :=
  let r := g.rec0
  let m := srcMember g.src
  let o : GwOut := { f := out, route := g.route, origin := srcOrigin g.src, launch := launchOf s r g, maxAge := fld r 5 20 5, cells := g.cells }
  let s1 := (maskBits (rw r 2).toNat 32).foldl (fun s b =>
    let d : FwDest := if b < 24 then ⟨1, b⟩ else ⟨2, b - 24⟩
    let v := gatewayRequest m.1 m.2 g.bus g.f (srcOrigin g.src) d s
    if v.1 then placeOrHold b o (flag r 0 18) (gwHold g.cells v.2) else gwDrop b 0x02 v.2) s
  let s2 := if flag r 3 31 then
      let v := gatewayRequest m.1 m.2 g.bus g.f (srcOrigin g.src) ⟨0, 30⟩ s1
      if v.1 then tunnelAdd (fld r 3 30 23) (acfMessage (flag (tunnelOf v.2 (fld r 3 30 23)).rec0 0 21) g.bus (nsCount (wtOf v.2 g.stamp)) out) v.2
      else gwDrop 32 0x02 v.2
    else s1
  gwFree g.cells s2

/-- A frame waits for the bulk engine (R334). -/
def gwAwait (w : GwWait) (s : State) : State := { s with gw := { s.gw with wait := s.gw.wait ++ [w] } }

/-- Translation and conversion, then securing or the targets (R331, R332, R345). -/
def translate (g : GwFrame) (s : State) : State :=
  let r := g.rec0
  let ext := if flag r 3 22 then flag r 3 18 else fmtExt g.f
  let f := if flag r 3 22 then { g.f with id := fld r 4 28 0 } else g.f
  match convert f ext (fld r 3 21 19) with
  | .inr code =>
    gwFree g.cells ((maskBits (rw r 2).toNat 32).foldl (fun s b => gwDrop b code s) (if flag r 3 31 then gwDrop 32 code s else s))
  | .inl out =>
    if flag r 5 31 then gwAwait ⟨g, true, out, false⟩ (bulkSubmit (authReq (authRec s (fld r 5 30 21))) s).2
    else toTargets g out s

/-- A frame is dropped in its authentication (R343, R344, R347). -/
def authDrop (g : GwFrame) (code : Nat) (s : State) : State :=
  let s1 := gwFree g.cells (gwDrop (srcPlace g.src) code s)
  if g.src < 24 then canEvent g.src 3 0 s1 else s1

/-- The freshness candidate of a verification (R343). -/
def freshCandidate (fresh fvBytes received : Nat) : Nat :=
  if fvBytes = 0 then fresh + 1
  else if fvBytes = 8 then received
  else
    let c := fresh / 2 ^ (8 * fvBytes) * 2 ^ (8 * fvBytes) + received
    if c ≤ fresh then c + 2 ^ (8 * fvBytes) else c

/-- The MAC of a secured field (R342). -/
def secMac (key : Bytes) (r : Rec) (data : Bytes) (fresh : Nat) : Bytes :=
  (cmac key (beBytes (fld r 1 31 16) 2 ++ data ++ beBytes fresh 8)).take (fld r 0 20 16)

def setFresh (e v : Nat) (s : State) : State := { s with gw := { s.gw with fresh := tset 0 s.gw.fresh e (v % 2 ^ 64) } }

/-- The copy of a frame for the receive ring of its bus (R318, R319, R331). -/
def hostCopy (g : GwFrame) (authOk routed : Bool) (s : State) : State :=
  if g.src < 24 then canRing g.src (ringEntry s 0 g.src g.f authOk routed 0 g.stamp 0 g.route) s
  else if g.src < 32 then ringPush (.lin (g.src - 24)) (ringEntry s 0 (g.src - 24) g.f authOk routed 0 g.stamp 0 g.route) s
  else s

/-- The copy of a frame whose route verifies it: written with the verdict, AUTH_OK telling it (R319, R331, R344, log entry 40). -/
def verdictCopy (g : GwFrame) (authOk : Bool) (s : State) : State := if flag g.rec0 0 19 then hostCopy g authOk true s else s

/-- The bulk engine has answered the verification of a frame (R343, R344, R347). Freshness is judged before the MAC: a replayed frame whose candidate lies
beyond WINDOW is dropped as AUTH_FRESH, though its MAC was made for another value (R347's example, log entry 117). -/
def verified (g : GwFrame) (status : Nat) (key : Bytes) (s : State) : State :=
  let e := fld g.rec0 3 16 7
  let r := authRec s e
  let dl := fld r 5 15 4
  let fv := fld r 0 15 12
  let fresh := tget 0 s.gw.fresh e
  let c := freshCandidate fresh fv (beAt g.f.data dl fv)
  let lost := fun (code : Nat) => authDrop g code (verdictCopy g false s)
  if status = 3 then lost 0x0D
  else if status ≠ 0 || s.gw.freshLost.contains e then lost 0x0C
  else if g.f.data.length < dl + fv + fld r 0 20 16 then lost 0x0A
  else if c ≤ fresh || (rw r 4).toNat < c - fresh then lost 0x0B
  else if secMac key r (g.f.data.take dl) c ≠ (g.f.data.drop (dl + fv)).take (fld r 0 20 16) then lost 0x0A
  else
    let s1 := setFresh e c (verdictCopy g true s)
    translate g { s1 with gw := { s1.gw with freshAt := tset 0 s1.gw.freshAt e (s1.time.now + 1) } }

/-- The bulk engine has answered the securing of a frame (R345, R347). -/
def secured (g : GwFrame) (out : CanFrame) (status : Nat) (key : Bytes) (s : State) : State :=
  let e := fld g.rec0 5 30 21
  let r := authRec s e
  let dl := fld r 5 15 4
  let fv := fld r 0 15 12
  let fresh := tget 0 s.gw.fresh e + 1
  let data := out.data.take dl ++ List.replicate (dl - out.data.length) 0
  let field := data ++ (beBytes fresh 8).drop (8 - fv) ++ secMac key r data fresh
  if status = 3 then authDrop g 0x0D s
  else if status ≠ 0 || s.gw.freshLost.contains e then authDrop g 0x0C s
  else match nextLength out.format field.length with
    | none => gwFree g.cells (gwDrop (srcPlace g.src) 0x03 s)
    | some n => toTargets g { out with data := field ++ List.replicate (n - field.length) 0, dlc := if out.format = 4 then 0 else dlcOf n } (setFresh e fresh s)

/-- A frame whose route is known goes on: verified first where the route asks for it; behind a frame of its route that waits (R331, R334). -/
def engineGo (g : GwFrame) (s : State) : State :=
  let r := g.rec0
  if flag r 3 17 then gwAwait ⟨g, false, g.f, false⟩ (bulkSubmit (authReq (authRec s (fld r 3 16 7))) s).2
  else if s.gw.wait.any (fun w => w.g.route = g.route) then gwAwait ⟨g, false, g.f, true⟩ s
  else translate g s

/-- Plain frames that wait behind no other frame of their route go on (R334). -/
def releasePlain : Nat → State → State
  | 0, s => s
  | n + 1, s =>
    match (s.gw.wait.zipIdx.find? (fun p => p.1.plain && !(s.gw.wait.take p.2).any (fun w => w.g.route = p.1.g.route))) with
    | none => s
    | some p => releasePlain n (translate p.1.g { s with gw := { s.gw with wait := s.gw.wait.eraseIdx p.2 } })

/-- The bulk engine completes a request of the gateway: its oldest frame goes on (R334, R342). -/
def gwCompleted (status : Nat) (key : Bytes) (s : State) : State :=
  match s.gw.wait.findIdx? (fun w => !w.plain) with
  | none => s
  | some i =>
    match s.gw.wait[i]? with
    | none => s
    | some w =>
      let s1 := { s with gw := { s.gw with wait := s.gw.wait.eraseIdx i } }
      releasePlain s.gw.wait.length (if w.secure then secured w.g w.out status key s1 else verified w.g status key s1)

/-- The engine takes a frame; its route is kept as looked up (R24, R331, R349, R350). -/
def engine (g0 : GwFrame) (s : State) : State :=
  let place := srcPlace g0.src
  match routeOf s g0.src g0.f with
  | none =>
    let s1 := gwDrop place 0x01 s
    if g0.src < 24 && flag (canOf s g0.src).rec0 0 5 then hostCopy g0 false false s1 else s1
  | some k =>
    let r := tget [] s.gw.route k
    let g := { g0 with route := k, rec0 := r }
    let s1 := { s with gw := { s.gw with hits := tset 0 s.gw.hits k (satAdd 32 (tget 0 s.gw.hits k) 1) } }
    match gwTake g.f.data.length s1 with
    | (none, s2) => gwEvent 0x03 (gwDrop place 0x0E (verdictCopy g false s2))
    | (some n, s2) => engineGo { g with cells := some n } (if flag r 3 17 then s2 else verdictCopy g false s2)

/-! ### Keep-alives sent -/

/-- The bytes of a cluster vector, the first from cluster base on. -/
def clusterVector (base n : Nat) (l : List Nat) : Bytes :=
  (List.range n).map (fun k => BitVec.ofNat 8 (maskFrom ((l.filter (fun c => base + 8 * k ≤ c && c < base + 8 * k + 8)).map (fun c => c - (base + 8 * k)))))

/-- The one's complement sum of 16-bit words, as an IPv4 header checksum. -/
def ipSum (b : Bytes) : Nat :=
  let t := (List.range (b.length / 2)).foldl (fun n i => n + beAt b (2 * i) 2) 0
  let f := t % 65536 + t / 65536
  65535 - (f % 65536 + f / 65536)

/-- The keep-alive frame of a port segment (R369, R371; TTL and the zero UDP checksum: log entry 23). -/
def keepAliveFrame (s : State) (g : Segment) (l : List Nat) : Bytes :=
  let udp := fld g.rec0 3 15 0
  let vid := fld g.rec0 4 31 20
  let body := beBytes (fld g.rec0 2 20 5) 2 ++ [0x40, 0] ++ clusterVector 0 8 l
  let src := beBytes (rw (nmSettings s) 3).toNat 4
  let head := fun (sum : Nat) => [0x45, 0] ++ beBytes 40 2 ++ [0, 0, 0, 0, 64, 17] ++ beBytes sum 2 ++ src ++ [0xFF, 0xFF, 0xFF, 0xFF]
  let bare := List.replicate 6 0xFF ++ beBytes s.gw.addr 6 ++ (if vid = 0 then [] else cTag vid (fld g.rec0 0 9 7) false) ++ beBytes 0x0800 2
    ++ head (ipSum (head 0)) ++ beBytes udp 2 ++ beBytes udp 2 ++ beBytes 20 2 ++ [0, 0] ++ body
  withFcs (bare ++ List.replicate (60 - bare.length) 0)

/-- A keep-alive is sent on a segment that is due one (R371), but for a bus that this device does not own (R585). -/
def sendKeepAlive (i : Nat) (s : State) : State :=
  let g := segOf s i
  let due := match g.kaLast with | some a => decide (a + segTxMs g ≤ s.time.now) | none => true
  if !(segManaged g && flag g.rec0 0 24 && g.state = 0 && neededElse s i && due && (segIsPort i || owns s (i - 28))) then s
  else
    let l := neededClusters s g
    let s1 := setSeg i { g with kaLast := some s.time.now, kaTx := satAdd 32 g.kaTx 1 } s
    if segIsPort i then
      injectFrame { port := 29, bytes := keepAliveFrame s1 g l, directed := some (2 ^ i), cls := some (fld g.rec0 0 9 7) } s1
    else if segIsCan i then
      placeBus (i - 28) { f := { format := fld g.rec0 3 31 31, dlc := 8, id := fld g.rec0 5 28 0
                                 data := BitVec.ofNat 8 (fld g.rec0 2 20 5) :: 0x40 :: clusterVector (fld g.rec0 0 6 5 * 8) 6 l }
                          route := 8192, origin := 29 } s1
    else s1

/-- The first keep-alives of segments that have become AWAKE, or needed while AWAKE (R371). -/
def firstKeepAlives (s : State) : State := (List.range 60).foldl (fun s i => if (segOf s i).kaLast.isNone then sendKeepAlive i s else s) s

/-! ### A segment becomes AWAKE -/

/-- A replica held for a port enters its queue (R380). -/
def releaseHeld (i : Nat) (h : Held) (s : State) : State :=
  match h with
  | .port c r => if portUp s i then enterClass i c ((frameOf s r.frame).bind (·.launch)) r s else dropReplica i c 0x15 r s
  | .gw o => placeBus (i - 28) o s

/-- A segment becomes AWAKE: its timer starts as at a keep-alive, held traffic enters in order, and the first keep-alive goes out
(R371, R378, R380, R381). -/
def segAwake (i : Nat) (s : State) : State :=
  let g := segOf s i
  let s1 := validationStarts i (segTo i 0 (setSeg i { g with timer := some s.time.now, held := [], latch := none } s))
  firstKeepAlives (g.held.foldl (fun s h => releaseHeld i h s) s1)

end Sys2Proof.Machine
end

