-- ==== Sys2Proof/Machine/BulkOps.lean ====
section
/-!
DEFINITION. The bulk engine, the alarm and the known-answer tests of the cipher complex (R401 to R405, R417 to R421).
-/
namespace Sys2Proof.Machine

def setCiph (c : Cipher) (s : State) : State := { s with ciph := c }

/-! ### The bulk engine -/

/-- The first entry of a requester, by its place in the queue. -/
def headOf (s : State) (requester : Nat) : Option (Nat × BulkEntry) :=
  (s.ciph.queue.zipIdx.find? (fun e => e.1.req.requester = requester)).map (fun e => (e.2, e.1))

def setEntry (i : Nat) (e : BulkEntry) (s : State) : State := setCiph { s.ciph with queue := s.ciph.queue.set i e } s

/-- Known-answer tests of a start run before any other requester is served (R420). -/
def testsFirst (s : State) (requester : Nat) : Bool := s.ciph.test2At ≠ 0 || requester = 7

/-- The bytes of a chunk (R402); a key of more than 32 bytes is one of HMAC-SHA-384 (R393). -/
def chunkBytes (e : BulkEntry) : Nat :=
  match e.req.op with
  | .sha256 => 2048
  | .hmac | .hmacVerify => if 32 < e.key.length then 3072 else 2048
  | .sha384 => 3072
  | _ => 4096

/-- Whether a requester has a symmetric request that waits for the unit. -/
def wantsUnit (s : State) (r : Nat) : Bool :=
  match headOf s r with
  | some (_, e) => !opPublic e.req.op && testsFirst s r && (match e.status with | none => true | some st => st = 0 && e.left ≠ 0)
  | none => false

/-- The requester that the symmetric unit serves next (R402). -/
def nextRequester (s : State) : Option Nat :=
  let beat := 31250 * 2 ^ s.beat.k
  if wantsUnit s 0 && decide (s.ciph.gwUsed * 100 < beat * s.ciph.gwShare) then some 0
  else ((List.range 8).map (fun i => (s.ciph.turn + 1 + i) % 8)).find? (wantsUnit s)

/-- Whether a requester has a public-key request that waits for the unit. -/
def wantsPk (s : State) (r : Nat) : Bool :=
  match headOf s r with
  | some (_, e) => opPublic e.req.op && testsFirst s r && e.status.isNone
  | none => false

/-- The requester that a unit serves next (R402): the symmetric unit under GW_SHARE, the public-key unit in round-robin order. -/
def nextOf (pub : Bool) (s : State) : Option Nat :=
  if pub then ((List.range 8).map (fun i => (s.ciph.pkTurn + 1 + i) % 8)).find? (wantsPk s) else nextRequester s

/-- A requester's request starts: its slot is checked and its key copied (R402, R403, R405). -/
def bulkStart (requester : Nat) (s : State) : State :=
  match headOf s requester with
  | none => s
  | some (i, e) =>
    let unit := if opPublic e.req.op then s.ciph.pk else s.ciph.sym
    if e.status.isSome || unit.isSome || nextOf (opPublic e.req.op) s ≠ some requester then s
    else
      let st := if e.lost then 5 else startStatus s e.req
      let key := if st = 0 && !e.req.noKey then (slotSeen s e.req.slot).key else []
      let s1 := keyFailed st (setEntry i { e with status := some st, key := key } s)
      if opPublic e.req.op then setCiph { s1.ciph with pk := some requester } s1 else setCiph { s1.ciph with sym := some requester } s1

/-- A chunk of the symmetric unit ends (R402). -/
def chunkEnd (s : State) : State :=
  match s.ciph.sym with
  | none => s
  | some r =>
    match headOf s r with
    | none => setCiph { s.ciph with sym := none } s
    | some (i, e) =>
      let n := min e.left (chunkBytes e)
      let s1 := setEntry i { e with left := e.left - n } s
      let s2 := setCiph { s1.ciph with gwUsed := s1.ciph.gwUsed + (if r = 0 then n * 2048 / chunkBytes e else 0), turn := r, sym := none } s1
      match nextRequester s2 with
      | none => s2
      | some q => match headOf s2 q with
        | some (_, e2) => if e2.status.isNone then bulkStart q s2 else setCiph { s2.ciph with sym := some q } s2
        | none => s2

/-- The status of a request worked to its end. A verification, a decryption or an unwrapping fails or not by data that the queue's commands do not carry: a free
value (log entry 119). -/
def endStatus (e : BulkEntry) (s : State) : Nat × State :=
  let st := e.status.getD 0
  let fails : Option Nat := match e.req.op with
    | .gcmDecrypt | .cmacVerify | .hmacVerify | .ecdsaVerify => some 1
    | .unwrap => some 7
    | _ => none
  match fails with
  | some f => if st = 0 && e.req.requester ≠ 7 then (if (freeVal s).1.getLsbD 0 then f else 0, (freeVal s).2) else (st, s)
  | none => (st, s)

/-- A request that has been worked to its end completes with its result word (R402, R404); one that an alarm of this cycle has caught ends in KEY_LOST
(R424). -/
def bulkComplete (pub : Bool) (s : State) : State :=
  let done := fun (e : BulkEntry) => opPublic e.req.op = pub && (match e.status with | some st => pub || st ≠ 0 || e.left = 0 | none => false)
  match s.ciph.queue.find? done with
  | none => s
  | some e =>
    let r := e.req.requester
    let s1 := setCiph { s.ciph with
      queue := s.ciph.queue.erase e, pk := if pub then none else s.ciph.pk, pkTurn := if pub then r else s.ciph.pkTurn
      sym := if !pub && s.ciph.sym = some r then none else s.ciph.sym } s
    if r = 0 then gwCompleted (e.status.getD 0) e.key (emit (.bulkResult s1.time.now 0 (e.status.getD 0)) s1)
    else let v := endStatus e s1
         emit (.bulkResult s.time.now r v.1) v.2

/-! ### The alarm -/

/-- Every slot but slot 0 zeroized, its GEN one more (R396, R417). -/
def zeroSlots (c : Cipher) : Tab KeySlot :=
  (List.range 255).foldl (fun l i => tset {} l (i + 1) { gen := nextGen (tget {} c.slot (i + 1)).gen }) c.slot

/-- The cipher alarm (R417). A core in a reset that is held has no registers left to clear and no latch to set; its Seed Store is zeroized all the same (R627, log
entry 119). The event carries the cause in DETAIL, by its row (R423, log entry 105). -/
def cipherAlarm (cause : AlarmCause) (s : State) : State :=
  if (cause = .debug && s.sys.fw.lifecycle = 0) || s.sys.pow.power = .standby then s
  else if !coreOn s then setCiph { s.ciph with slot := zeroSlots s.ciph } s
  else
    let c := s.ciph
    let c1 := { c with
      alarm := true, zeroizing := true, almVolt := c.almVolt || cause = .voltage, almClk := c.almClk || cause = .clock
      almTemp := c.almTemp || cause = .temperature, almDbg := c.almDbg || cause = .debug
      queue := c.queue.map (fun e => if e.status.isSome then { e with status := some 5, key := [] } else { e with lost := true })
      sa := tmap {} c.sa (fun _ a => { a with key := none }), session := [] }
    raiseEvent 400 0 (some (match cause with | .voltage => 0 | .clock => 1 | .temperature => 2 | .debug => 3)) (count rCIPHER_CNT 31 16 (setCiph c1 s))

/-- Zeroization completes (R396, R417, R422). -/
def zeroizeDone (s : State) : State :=
  if !s.ciph.zeroizing then s
  else
    cipherEvent 1 0 (setCiph { s.ciph with slot := zeroSlots s.ciph, zeroizing := false, zeroized := true } s)

/-! ### Self-tests -/

/-- A pipe's known-answer test falls due (R419). -/
def pipeTestDue (pipe : Nat) (s : State) : State :=
  let last := if pipe = 0 then s.ciph.test0At else s.ciph.test1At
  if 2 ≤ pipe || s.time.now < last + s.ciph.testS * 1000000000 then s
  else if pipe = 0 then setCiph { s.ciph with test0 := true, test0At := s.time.now } s
  else setCiph { s.ciph with test1 := true, test1At := s.time.now } s

/-- The known-answer tests of the bulk engine enter its queue as requests of requester 7 (R420). -/
def submitTests (s : State) : State :=
  [BulkOp.gcmEncrypt, .ctr, .cmac, .sha256, .sha384, .hmac, .ecdsaVerify, .derive].foldl
    (fun s op => (bulkSubmit { requester := 7, op := op, noKey := true } s).2) (setCiph { s.ciph with test2 := true, test3 := true } s)

/-- They are due at the start, and every TEST_S (R420). -/
def bulkTestDue (s : State) : State :=
  if s.ciph.test2 || s.ciph.test3 || (s.ciph.test2At ≠ 0 && s.time.now < s.ciph.test2At + s.ciph.testS * 1000000000) then s else submitTests s

/-- The tests of a unit of the bulk engine are over; with those of the other unit over as well, a start's tests are (R420). -/
def unitTested (pub pass : Bool) (s : State) : State :=
  let c := s.ciph
  let left := if pub then c.test2 else c.test3
  let c1 := { c with
    test2 := c.test2 && pub, test3 := c.test3 && !pub, symFail := if pub then c.symFail else !pass, pkFail := if pub then !pass else c.pkFail
    test2At := if left then c.test2At else max 1 s.time.now
    queue := c.queue.filter (fun e => !(e.req.requester = 7 && opPublic e.req.op = pub))
    sym := if !pub && c.sym = some 7 then none else c.sym, pk := if pub && c.pk = some 7 then none else c.pk }
  let was := if pub then c.pkFail else c.symFail
  if !pass || was then cipherEvent 4 0 (setCiph c1 s) else setCiph c1 s

/-- A known-answer test ends: unit 0 or 1 a pipe, 2 the symmetric unit and 3 the public-key unit of the bulk engine (R421, R423). -/
def testEnds (unit : Nat) (pass : Bool) (s : State) : State :=
  let c := s.ciph
  match unit with
  | 0 => if !c.test0 then s else
      let s1 := setCiph { c with test0 := false, pipe0Fail := !pass } s
      if !pass || c.pipe0Fail then cipherEvent 2 0 s1 else s1
  | 1 => if !c.test1 then s else
      let s1 := setCiph { c with test1 := false, pipe1Fail := !pass } s
      if !pass || c.pipe1Fail then cipherEvent 3 0 s1 else s1
  | 2 => if !c.test2 then s else unitTested false pass s
  | 3 => if !c.test3 then s else unitTested true pass s
  | _ => s

end Sys2Proof.Machine
end

