-- ==== Sys2Proof/Machine/BusOps.lean ====
section
/-!
DEFINITION. The CAN controllers, the LIN commanders and the tunnels of the gateway engine at work (chapter 9).
-/
namespace Sys2Proof.Machine

/-! ### CAN reception -/

/-- REC after a frame received well (ISO 11898-1, R316): one less, or from above 127 a free value from 119 to 127. -/
def recDown (r : Nat) (s : State) : Nat × State :=
  if r = 0 then (0, s) else if r ≤ 127 then (r - 1, s) else (119 + (freeVal s).1.toNat % 9, (freeVal s).2)

/-- The class of an error counter for R316: at 96 or more, error passive. -/
def errClass (tec rec1 : Nat) : Nat := if 128 ≤ tec || 128 ≤ rec1 then 2 else if 96 ≤ tec || 96 ≤ rec1 then 1 else 0

/-- The error counters take new values; the bus-state event follows R316. -/
def setErr (b tec rec1 : Nat) (s : State) : State :=
  let c := canOf s b
  let s1 := setCan b { c with tec := tec, rec1 := rec1 } s
  let reach := (c.tec < 96 && 96 ≤ tec) || (c.rec1 < 96 && 96 ≤ rec1)
  let passive := decide (errClass c.tec c.rec1 = 2) != decide (errClass tec rec1 = 2)
  if reach || passive then canEvent b 0 0 s1 else s1

/-- Whether a controller under a record takes part in its bus: configured, integrated, its segment not asleep. -/
def canTakesPart (s : State) (b : Nat) (r : Rec) (integ : Bool) : Bool := fld r 0 26 25 ≠ 0 && !integ && !segIsolated (segOf s (28 + b))
def canLive (s : State) (b : Nat) : Bool := canTakesPart s b (canOf s b).rec0 (canOf s b).integ

/-- The record that a frame is received under, and whether the controller was integrating: that in force at its SOF (R307). -/
def canRecAt (c : Can) (sof : Nat) : Rec × Bool :=
  match c.prev with
  | some (r, integ, t) => if sof < t then (r, integ) else (c.rec0, c.integ)
  | none => (c.rec0, c.integ)

/-- A frame reaches the engine, after the frames of lower sources of its cycle (R331, R354); on a bus that the device does not own it is copied to the ring at
most (R584). -/
def frameArrives (g : GwFrame) (s : State) : State :=
  if 24 ≤ g.src || owns s g.src then engine g s
  else match routeOf s g.src g.f with
    | some k => if flag (tget [] s.gw.route k) 0 19 then hostCopy { g with route := k } false true s else s
    | none => if flag (canOf s g.src).rec0 0 5 then hostCopy g false false s else s

/-- A frame of a bus reaches its valid instant (R305, R307, R309, R318, R331, R369, R435, R584). -/
def canRx (b : Nat) (f : CanFrame) (sof : Nat) (s : State) : State :=
  let v := canRecAt (canOf s b) sof
  if !canTakesPart s b v.1 v.2 || (canOf s b).busOff || !protoHas v.1 f.format then s
  else
    let c := canOf s b
    let d := recDown c.rec1 s
    let s1 := canCount b 2 (setErr b c.tec d.1 d.2)
    let s2 := gatewayTrigger b f (firstKeepAlives (observeCan b f s1))
    giveWay (.frame { src := b, f := f, bus := b, stamp := sof }) s2

/-! ### Tunnels -/

def rxTunnelOf (s : State) (i : Nat) : RxTunnel := tget {} s.gw.rxTunnel i
def setRxTunnel (i : Nat) (v : RxTunnel) (s : State) : State := { s with gw := { s.gw with rxTunnel := tset {} s.gw.rxTunnel i v } }

/-- Whether a data length is a valid CAN length (R332, R339). -/
def canLength (fd : Bool) (n : Nat) : Bool := if fd then fdLengths.contains n else n ≤ 8

/-- One ACF message of a receive tunnel (R339). m: from its header on, whole. -/
def acfMessageRx (i : Nat) (m : Bytes) (s : State) : State :=
  let v := rxTunnelOf s i
  let kind := beAt m 0 2 / 512
  let len := beAt m 0 2 % 512 * 4
  let q := beAt m 0 4
  let hdr := if kind = 2 then 8 else 16
  let pad := nbits q 15 14
  let n := len - hdr - pad
  let fd := nbits q 9 9 = 1
  let bus := nbits q 4 0
  let idAt := hdr - 4
  if kind ≠ 1 && kind ≠ 2 then setRxTunnel i { v with acfOther := satAdd 32 v.acfOther 1 } s
  else if !flag v.rec0 3 bus || len < hdr + pad || !canLength fd n then gwEvent 0x02 (gwDrop (64 + i) 0x0F s)
  else
    let f : CanFrame := { format := (if fd then 2 else 0) + nbits q 11 11, rtr := nbits q 12 12 = 1, brs := nbits q 10 10 = 1, esi := nbits q 8 8 = 1
                          dlc := dlcOf n, id := beAt m idAt 4 % 2 ^ 29, data := (m.drop hdr).take n }
    giveWay (.frame { src := 64 + i, f := f, bus := bus, stamp := s.time.now, ts := if kind = 1 && nbits q 13 13 = 1 then some (beAt m 4 8) else none })
      (setRxTunnel i { v with messages := satAdd 32 v.messages 1 } s)

/-- A message that its length makes no message: a CAN or CAN Brief one is dropped as ACF_FORMAT, another counts as skipped, and the frame ends there
(R339). -/
def acfBroken (i kind : Nat) (s : State) : State :=
  let v := rxTunnelOf s i
  if kind = 1 || kind = 2 then gwEvent 0x02 (gwDrop (64 + i) 0x0F s) else setRxTunnel i { v with acfOther := satAdd 32 v.acfOther 1 } s

/-- The messages of a frame in their order; fuel bounds their number. -/
def acfMessages (i : Nat) : Nat → Bytes → State → State
  | 0, _, s => s
  | n + 1, b, s =>
    let len := beAt b 0 2 % 512 * 4
    if b = [] then s
    else if len = 0 || b.length < len then acfBroken i (byteAt b 0 / 2) s
    else acfMessages i n (b.drop len) (acfMessageRx i (b.take len) s)

/-- A 1722 frame reaches port 30 (R339, R340). -/
def acfRx (b : Bytes) (s : State) : State :=
  let p := parse b
  let l3 := 12 + p.tagLen + (if p.rtag.isSome then 6 else 0) + 2
  let sub := byteAt b l3
  let sid := beAt b (l3 + 4) 8
  if p.etype ≠ some 0x22F0 then s
  else match s.gw.rxTunnel.find? (fun e => flag e.2.rec0 0 31 && decide (sub = if flag e.2.rec0 0 30 then 0x04 else 0x82) && cat64 (rw e.2.rec0 1) (rw e.2.rec0 2) = sid) with
    | none => gwEvent 0x02 (gwDrop 32 0x10 s)
    | some (i, v) =>
      let tscf := flag v.rec0 0 30
      let q := if tscf then byteAt b (l3 + 2) else byteAt b (l3 + 3)
      let len := if tscf then beAt b (l3 + 20) 2 else beAt b (l3 + 1) 2 % 2048
      let gap := match v.last with | some o => (q + 511 - o) % 256 | none => 0
      let v1 := { v with last := some q, frames := satAdd 32 v.frames 1, seqGap := satAdd 32 v.seqGap gap }
      let s1 := setRxTunnel i v1 s
      let s2 := if gap ≠ 0 then gwEvent 0x01 s1 else s1
      let body := (b.drop (l3 + if tscf then 24 else 12)).take len
      acfMessages i body.length body s2

/-! ### CAN transmission -/

/-- The arbitration field of a frame, as a number: the lower one wins. -/
def arbKey (f : CanFrame) : Nat :=
  if fmtExt f then pack [(11, f.id / 2 ^ 18), (2, 3), (18, f.id), (1, b2n f.rtr)] else pack [(11, f.id), (1, b2n f.rtr), (20, 0)]

/-- Whether a slot is eligible (R311). -/
def slotEligible (s : State) (x : CanSlot) : Bool :=
  match x.out.launch with
  | some w => x.late || decide (w ≤ wtNow s)
  | none => true

/-- Whether LT_GUARD keeps frames without a launch instant from starting (R312). -/
def launchGuarded (s : State) (b : Nat) : Bool :=
  let g : Int := fld (canOf s b).rec0 5 15 0 * 1000 * wtNs
  g ≠ 0 && (canOf s b).slots.any (fun e => match e.2 with
    | some x => (match x.out.launch with | some w => decide ((w - wtNow s).natAbs ≤ g.natAbs) | none => false)
    | none => false)

/-- The slot that the controller offers (R311, R312). -/
def offered (s : State) (b : Nat) : Option (Nat × CanSlot) :=
  let guard := launchGuarded s b
  (canOf s b).slots.foldl (fun best e => match e.2 with
    | none => best
    | some x =>
      if !slotEligible s x || (guard && x.out.launch.isNone) then best
      else match best with
        | none => some (e.1, x)
        | some y => if arbKey x.out.f < arbKey y.2.out.f || (arbKey x.out.f = arbKey y.2.out.f && x.order < y.2.order) then some (e.1, x) else best) none

/-- Lateness of a slot at an SOF now, in ns (R313). -/
def lateness (s : State) (x : CanSlot) : Nat := match x.out.launch with | some w => ((wtNow s - w) / 65536).toNat | none => 0

/-- Lateness at an SOF now is counted: LATE_MAX and the event at each late SOF, LAUNCH_LATE once for a frame (R313, R314, log entry 104). -/
def countCanLate (b i : Nat) (x : CanSlot) (s : State) : State :=
  let n := lateness s x
  if x.out.launch.isSome && (x.late || decide (canBitTime (canOf s b) ≤ n)) then
    let c := canOf s b
    let s1 := setCan b { c with
      counts := tset 0 c.counts 11 (max (tget 0 c.counts 11) (min n (2 ^ 32 - 1))), slots := tset none c.slots i (some { x with counted := true }) } s
    canEvent b 2 0 (if x.counted then s1 else canCount b 10 s1)
  else s

/-- The controller offers the winning slot at SOF (R308, R311 to R313). -/
def canTxStart (b : Nat) (s : State) : State :=
  let c := canOf s b
  if !canLive s b || canModeNow s b ≠ 1 || c.busOff || c.sending.isSome then s
  else match offered s b with
    | none => s
    | some (i, x) =>
      let s1 := countCanLate b i x s
      let c1 := canOf s1 b
      let x1 := (tget none c1.slots i).getD x
      emit (.can s.time.now b x.out.f) (setCan b { c1 with
        sending := some (i, s.time.now), slots := tset none c1.slots i (some { x1 with tries := x.tries + 1 }) } s1)

/-- The frame on the bus has been sent (R316, R319). -/
def canTxDone (b : Nat) (s : State) : State :=
  let c := canOf s b
  match c.sending with
  | none => s
  | some (i, sof) =>
    match tget none c.slots i with
    | none => setCan b { c with sending := none } s
    | some x =>
      let late := match x.out.launch with | some w => ((wtOf s sof - w) / 65536).toNat | none => 0
      slotEnds b i x 0 late sof (canCount b 3 (setErr b (c.tec - 1) c.rec1 s))

/-- The counter of R351 of an error, where it has one. -/
def errWord : CanErr → Option Nat
  | .arbLost => some 4
  | .stuff => some 5
  | .arbStuff => some 5
  | .form => some 6
  | .ack => some 7
  | .bit => some 8
  | .crc => some 9
  | .dominant => none

/-- An error is counted (R351). -/
def countErr (b : Nat) (k : CanErr) (s : State) : State :=
  match errWord k with
  | some w => canCount b w s
  | none => s

/-- The controller enters bus-off (R316, R317). -/
def enterBusOff (b : Nat) (s : State) : State :=
  let c := canOf s b
  let auto := flag c.rec0 0 19
  let s1 := setCan b { c with
    busOff := true, busOffs := satAdd 16 c.busOffs 1, sending := none, recovering := false
    boEnd := if auto then some (s.time.now + fld c.rec0 5 31 16 * 1000000) else none } s
  canEvent b 0 0 (discardSlots b 0x05 s1)

/-- An error raises TEC by 8, and above 255 the controller is bus-off (ISO 11898-1, R316). -/
def tecUp (b : Nat) (k : CanErr) (s : State) : State :=
  let c := canOf s b
  let n := if k = .arbLost || k = .arbStuff || (k = .ack && 128 ≤ c.tec) then c.tec else c.tec + 8
  if 255 < n then enterBusOff b (setErr b n c.rec1 s) else setErr b n c.rec1 s

/-- The frame on the bus lost arbitration or met an error: it is retried, or dropped at the limit (R315, R354). -/
def canTxFailed (b : Nat) (k : CanErr) (s : State) : State :=
  let c := canOf s b
  match c.sending with
  | none => if k = .dominant && canLive s b && !c.busOff then tecUp b k s else s
  | some (i, _) =>
    let s1 := tecUp b k (countErr b k s)
    let c1 := canOf s1 b
    let s2 := setCan b { c1 with sending := none } s1
    match tget none c1.slots i with
    | none => s2
    | some x =>
      let lim := fld c.rec0 0 13 6
      if x.abort then slotEnds b i x 0x09 0 s.time.now s2
      else if lim ≠ 0 && lim ≤ x.tries then slotEnds b i x 0x09 0 s.time.now (canEvent b 2 0 (canCount b 13 (gwDrop b 0x09 s2)))
      else s2

/-- What an error in reception adds to REC: 8 for a bit error while an error or overload flag is sent and for a dominant bit after the own error flag, else
1 (ISO 11898-1, R316, log entry 47). -/
def recStep : CanErr → Nat
  | .arbLost => 0
  | .bit => 8
  | .dominant => 8
  | _ => 1

/-- An error in reception raises REC, which ends at 128 (ISO 11898-1, R316, R351). -/
def canRxFailed (b : Nat) (k : CanErr) (s : State) : State :=
  if !canLive s b || (canOf s b).busOff then s
  else
    let s1 := countErr b k s
    let c := canOf s1 b
    setErr b c.tec (min 128 (c.rec1 + recStep k)) s1

/-- Recovery completes (R316, R317). -/
def busOffEnds (b : Nat) (s : State) : State :=
  let c := canOf s b
  if c.busOff && c.recovering then canEvent b 0 0 (setCan b { c with busOff := false, recovering := false, tec := 0, rec1 := 0 } s) else s

/-- The host aborts a slot: a frame that has not started ends; one on the bus goes on until its next lost arbitration or error (R354). -/
def slotAborted (b i : Nat) (s : State) : State :=
  match tget none (canOf s b).slots i with
  | some x => if x.abort && (canOf s b).sending.map (·.1) ≠ some i then slotEnds b i x 0x09 0 s.time.now s else s
  | none => s

/-- A frame that has not started within MAX_AGE is removed (R315); one that has started, on the bus or before a retry, is not (R315, R354). -/
def slotStale (b i : Nat) (s : State) : State :=
  let c := canOf s b
  match tget none c.slots i with
  | none => s
  | some x =>
    let age := x.out.maxAge * 1000
    let old := decide (x.placed + age ≤ s.time.now) && (match x.out.launch with | some w => decide (w + age * wtNs ≤ wtNow s) | none => true)
    if x.out.maxAge = 0 || 0 < x.tries || !old then s
    else slotEnds b i x 0x08 0 s.time.now (canEvent b 2 0 (canCount b 12 (gwDrop b 0x08 s)))

/-- The end of BO_DELAY under the record that comes into force in bus-off: it starts where AUTO_RECOVER comes with it and recovery has not begun, and falls
away where AUTO_RECOVER goes (R307, R317). -/
def boEndUnder (c : Can) (r : Rec) (now : Nat) : Option Nat :=
  if !flag r 0 19 then none
  else if c.busOff && !c.recovering && c.boEnd.isNone then some (now + fld r 5 31 16 * 1000000)
  else c.boEnd

/-- A controller record comes into force at the end of the frame on the bus (R307). -/
def canApply (b : Nat) (s : State) : State :=
  let c := canOf s b
  match c.next with
  | none => s
  | some r =>
    if c.sending.isSome then s
    else
      let s1 := discardSlots b 0x04 s
      setCan b { canOf s1 b with
        rec0 := r, next := none, prev := some (c.rec0, c.integ, s.time.now), integ := fld r 0 26 25 ≠ 0, boEnd := boEndUnder c r s.time.now } s1

/-- 11 recessive bits: the controller takes part in the bus, and its segment is AWAKE (R307, R378). -/
def canIntegrated (b : Nat) (s : State) : State :=
  let c := canOf s b
  if !c.integ then s
  else
    let s1 := setCan b { c with integ := false } s
    if (segOf s1 (28 + b)).state = 4 then segAwake (28 + b) s1 else s1

/-! ### The LIN commander -/

def linHeadOf (l : Lin) (tb : Nat) : Rec := tget [] l.head tb

/-- Length of a LIN table's cycle in 2^-16 ns (R324). -/
def linCycle (s : State) (h : Rec) : Int := ((linEntries s h).foldl (fun n e => n + bits e.2.2 31 12) 0 : Nat) * 1000 * wtNs

/-- Start of entry i in its cycle (R324). -/
def linOffset (s : State) (h : Rec) (i : Nat) : Int := (((linEntries s h).take i).foldl (fun n e => n + bits e.2.2 31 12) 0 : Nat) * 1000 * wtNs

/-- The first cycle start of a table at or after a working time (R324). -/
def linStartFrom (s : State) (h : Rec) (w : Int) : Int :=
  let base := ofFull (h.drop 1)
  let c := max 1 (linCycle s h)
  if w ≤ base then base else base + -((-(w - base)) / c) * c

/-- The selection that is due comes into force (R325): none once no slot is in progress, a table at its first cycle start. -/
def linTakePending (b : Nat) (s : State) : State :=
  let l := linOf s b
  match l.pend with
  | none => s
  | some none => if l.slot.isNone then linEvent b 1 0 (setLin b { l with pend := none, table := none, back := none } s) else s
  | some (some tb) =>
    if l.slot.isNone && decide (l.pendAt ≤ wtNow s) then
      linEvent b 1 0 (setLin b { l with pend := none, table := some tb, cycle := l.pendAt, idx := 0, back := none, since := l.pendLt } s)
    else s

/-- The cycle and entry go on to the next slot (R324, R327). -/
def linAdvance (b : Nat) (s : State) : State :=
  let l := linOf s b
  match l.table with
  | none => s
  | some tb =>
    let h := linHeadOf l tb
    if l.idx + 1 < fld h 0 12 6 then setLin b { l with idx := l.idx + 1 } s
    else
      let cycleEnd := l.cycle + linCycle s h
      match l.back with
      | some tb0 => linEvent b 1 0 (setLin b { l with table := some tb0, back := none, idx := 0, cycle := linStartFrom s (linHeadOf l tb0) cycleEnd } s)
      | none => setLin b { l with idx := 0, cycle := cycleEnd } s

/-- The slots of the cycle that a pass up to working time w leaves behind: those that start before w, or, whole, those that end by w. -/
def linBehind (s : State) (h : Rec) (cycle : Int) (whole : Bool) (w : Int) : Nat :=
  ((List.range (fld h 0 12 6)).filter (fun i => if whole then cycle + linOffset s h (i + 1) ≤ w else cycle + linOffset s h i < w)).length

/-- Slots are skipped and counted (R324, R351, R352). -/
def linSkipped (b n : Nat) (l : Lin) (s : State) : State :=
  if n = 0 then s else linEvent b 1 0 (setLin b { l with counts := tset 0 l.counts 9 (satAdd 32 (tget 0 l.counts 9) n) } s)

/-- The schedule passes to working time w without its slots: the rest of the cycle in progress, the whole cycles after it, and the slots of the last one; an
interrupted table resumes where the resolving table's cycle ends (R324, R327). -/
def linPass (b : Nat) (whole : Bool) (w : Int) (s : State) : State :=
  let l := linOf s b
  match l.table with
  | none => s
  | some tb =>
    let h := linHeadOf l tb
    let n := fld h 0 12 6
    let c := max 1 (linCycle s h)
    let last := l.cycle + c
    if w < last then
      let i := max l.idx (linBehind s h l.cycle whole w)
      linSkipped b (i - l.idx) { l with idx := i } s
    else match l.back with
      | some tb0 => linEvent b 1 0 <| linSkipped b (n - l.idx) { l with table := some tb0, back := none, idx := 0, cycle := linStartFrom s (linHeadOf l tb0) last } s
      | none =>
        let k := ((w - last) / c).toNat
        let i := linBehind s h (last + k * c) whole w
        linSkipped b (n - l.idx + k * n + i) { l with idx := i, cycle := last + k * c } s

/-- A pass through the resolving table's cycle goes on in the table that it interrupted (R327). -/
def linPassed (b : Nat) (whole : Bool) (w : Int) (s : State) : State := linPass b whole w (if (linOf s b).back.isSome then linPass b whole w s else s)

/-- The mappings up to now, oldest first, each with the one before it. -/
def mapSteps (s : State) : List (Mapping × Mapping) :=
  let l := (match s.time.pend with | some (a, q) => if a ≤ s.time.now then [(mapped a q s.time).map] else [] | none => []) ++ s.time.map :: s.time.past
  (l.zip (l.drop 1)).reverse

/-- Slots whose start a forward step passed over since the table was selected are skipped (R75, R324); so are slots whose whole time has gone by unused
(log entry 104). -/
def linSkip (b : Nat) (s : State) : State :=
  let s1 := (mapSteps s).foldl (fun s e =>
    let l := linOf s b
    match l.table with
    | none => s
    | some tb =>
      let w := l.cycle + linOffset s (linHeadOf l tb) l.idx
      if l.since < e.1.la && wtAt e.2 e.1.la < e.1.wa && wtAt e.2 (e.1.la - 1) < w && w < e.1.wa then linPassed b false e.1.wa s else s) s
  linPassed b true (wtNow s1) s1

/-- A LIN selection takes its place behind the slot in progress, the one that started in its own cycle too: it waits for its first cycle start (R325, R354). -/
def linSelected (b : Nat) (s : State) : State :=
  let l := linOf s b
  match l.pend with
  | none => s
  | some t =>
    let slotEnd := match l.slot, l.table with
      | some _, some tb => max (wtNow s) (l.cycle + linOffset s (linHeadOf l tb) (l.idx + 1))
      | _, _ => wtNow s
    linTakePending b (setLin b { l with pendAt := match t with | some tb => linStartFrom s (linHeadOf l tb) slotEnd | none => slotEnd } s)

/-- Whether a slot of the table in force is due. -/
def linDue (s : State) (b : Nat) : Bool :=
  let l := linOf s b
  match l.table with
  | some tb => decide (l.cycle + linOffset s (linHeadOf l tb) l.idx ≤ wtNow s)
  | none => false

/-- Whether a LIN bus runs its schedule (R375, R584). -/
def linLive (s : State) (b : Nat) : Bool :=
  linMode (linOf s b) = 1 && owns s (24 + b) && !segIsolated (segOf s (52 + b)) && (segOf s (52 + b)).gts = 0

/-- A LIN bus whose segment wakes takes part again, from the next cycle start of its table on (R378, log entry 25). -/
def linWakes (b : Nat) (s : State) : State :=
  if (segOf s (52 + b)).state ≠ 4 || linMode (linOf s b) ≠ 1 then s
  else
    let s1 := segAwake (52 + b) s
    let l := linOf s1 b
    match l.table with
    | some tb => setLin b { l with cycle := linStartFrom s1 (linHeadOf l tb) (wtNow s1), idx := 0, back := none, since := s1.time.now } s1
    | none => s1

/-- A LIN slot starts (R324, R326); in the cycle of a selection it belongs to the table in force, where one of its slots is due (R354). -/
def linSlotStart (b : Nat) (recessive : Bool) (s00 : State) : State :=
  let s0 := linWakes b s00
  let s1 := if (linOf s0 b).pendLt = s0.time.now && linDue s0 b then s0 else linTakePending b s0
  let s2 := if (linOf s1 b).slot.isNone then linSkip b s1 else s1
  let l := linOf s2 b
  match l.table with
  | none => s2
  | some tb =>
    let h := linHeadOf l tb
    if !linLive s2 b || l.slot.isSome || decide (wtNow s2 < l.cycle + linOffset s2 h l.idx) then s2
    else if !recessive then linEvent b 1 0 (linCount b 8 s2)
    else
      let k := fld h 0 23 13 + l.idx
      let e := (tget (0, 0) s2.gw.pool k).1
      let fid := bits e 29 24
      let sent := if bit e 23 then tget none l.pub fid else none
      let s3 := setLin b { l with slot := some (k, s2.time.now), sent := sent } s2
      if bit e 23 then
        match sent with
        | some d => emit (.linData s2.time.now b fid (d ++ [linChecksum (bit e 22) fid d])) (emit (.linHeader s2.time.now b fid) s3)
        | none => s3
      else emit (.linHeader s2.time.now b fid) s3

/-- A collision-resolving table runs one cycle from the next slot start (R327). -/
def linCollide (b : Nat) (e : Word) (s : State) : State :=
  let l := linOf s b
  match l.table with
  | some tb => linEvent b 1 0 <| setLin b { l with back := some (l.back.getD tb), table := some (bits e 17 14), idx := 0, cycle := l.cycle + linOffset s (linHeadOf l tb) (l.idx + 1) } s
  | none => s

/-- A LIN record comes into force once no slot is in progress, the schedule stopped (R307, R321). -/
def linApply (b : Nat) (s : State) : State :=
  let l := linOf s b
  match l.next with
  | some r => 
    if l.slot.isSome then s
    else
      let s1 := setLin b { l with rec0 := r, next := none, table := none, pend := none, back := none } s
      if l.table.isSome then linEvent b 1 0 s1 else s1
  | none => s

/-- The outcome that a slot ends in (R304, R322, R326, R327, log entry 104). A published slot that sent nothing ends EMPTY. A response that carries its
checksum is checked against it; one shorter than LEN is incomplete. A checksum or framing error is a COLLISION in an event-triggered slot, and no other slot
ends in one. -/
def linOutcome (e : Word) (sent : Bool) (outcome : Nat) (data : Bytes) : Nat :=
  let n := bits e 21 18
  let bad := data.length = n + 1 && data.drop n ≠ [linChecksum (bit e 22) (bits e 29 24) (data.take n)]
  let o := if outcome = 0 && !bit e 23 then (if data.length < n then 3 else if bad then 2 else 0) else outcome
  if bit e 23 && !sent then 6
  else if 5 < o then 1
  else if bits e 31 30 = 1 then (if o = 2 || o = 3 then 5 else o)
  else if o = 5 then 3 else o

/-- A LIN slot ends (R318, R327, R331, R381, R435). -/
def linSlotEnd (b outcome : Nat) (data : Bytes) (s : State) : State :=
  let l := linOf s b
  match l.slot with
  | none => s
  | some (k, start) =>
    let e := (tget (0, 0) s.gw.pool k).1
    let fid := bits e 29 24
    let o := linOutcome e l.sent.isSome outcome data
    let bytes := if bit e 23 then l.sent.getD [] else if o = 0 then data.take (bits e 21 18) else data.take 8
    let f : CanFrame := { format := 5, id := fid, dlc := bytes.length, data := bytes }
    let s1 := linCount b (if o = 0 then 1 else o + 1) (setLin b { l with slot := none, sent := none } s)
    let routed := o = 0 && !bit e 23 && (routeOf s1 (24 + b) f).isSome
    let s2 := ringPush (.lin b) (ringEntry s1 1 b f false routed 0 start o 0) s1
    let s3 := if o ≠ 0 && o ≠ 6 then linEvent b 0 0 s2 else s2
    let s4 := if o = 5 && bits e 31 30 = 1 then linCollide b e s3 else linAdvance b s3
    let s5 := sendGts (52 + b) s4
    let s6 := linApply b (linTakePending b s5)
    if o = 0 && !bit e 23 then giveWay (.frame { src := 24 + b, f := f, bus := 24 + b, stamp := start }) (gatewayTrigger (24 + b) f (validateSeg (52 + b) s6)) else s6

end Sys2Proof.Machine
end

