-- ==== Sys2Proof/Machine/CrocusOps.lean ====
section
/-!
DEFINITION. Crocus: shutdown of segments, standby entry, wake sources and their qualification, the ignition-off hint (R355 to R384).
-/
namespace Sys2Proof.Machine

/-! ### Shutdown of segments -/

/-- The frames that wait in the slots of a controller are discarded; one on the bus is completed (R374). -/
def discardWaiting (b code : Nat) (s : State) : State :=
  (canOf s b).slots.foldl (fun s e => match e.2 with
    | some x => if (canOf s b).sending.map (·.1) = some e.1 then s else slotEnds b e.1 x code 0 s.time.now (gwDrop b code s)
    | none => s) s

/-- A segment enters SHUTDOWN (R373 to R375). -/
def segShutdown (i : Nat) (s : State) : State :=
  let g := segOf s i
  let s1 := segTo i 2 (setSeg i { g with prep := none, commit := false, timer := none, gts := 0 } s)
  if segIsPort i then
    let v := portOf s1 i
    let s2 := setPort i { v with cond := false } (if isT i then emit (.busSleep s.time.now i) s1 else s1)
    match v.st with
    | .up => leaveUp i .down s2
    | .training => portTo i .down s2
    | _ => s2
  else if segIsCan i then
    let s2 := discardWaiting (i - 28) 0x06 s1
    if (canOf s2 (i - 28)).sending.isSome then s2 else drivePin i true s2
  else
    let s2 := drivePin i true (setLin (i - 52) { linOf s1 (i - 52) with slot := none } s1)
    if g.gts = 2 && decide (s.time.now < g.gtsEnd) then setSeg i { segOf s2 i with gtsCut := satAdd 32 g.gtsCut 1 } s2 else s2

/-- The wake record of a standby entry or a wake (R366, R453). -/
def deviceWakeRecord (type level cause : Nat) (s : State) : State :=
  csPush 0x08 [pack64 [(2, type), (2, level), (6, cause), (6, 0), (3, 0), (3, 0), (3, 0), (39, 0)]] s

/-- The segments that commit to sleep at a boundary, and the first step of a standby entry, with its record (R364, R366, R373; log entry 121). -/
def nmBoundary (s : State) : State :=
  match s.nm.entry with
  | some e =>
    if e.step = 0 then
      let s1 := deviceWakeRecord 0 e.level 0x3F { s with nm := { s.nm with entry := some { e with step := 1, since := s.time.now } } }
      (List.range 60).foldl (fun s i => if 2 ≤ (segOf s i).state && (segOf s i).state ≤ 3 then s else segShutdown i s) s1
    else s
  | none => (List.range 60).foldl (fun s i =>
      let g := segOf s i
      if g.state = 1 && (g.commit || (match g.prep with | some e => decide (e ≤ s.time.now) | none => false)) then segShutdown i s else s) s

/-! ### Standby entry -/

/-- A standby entry is called for (R363). One that runs gives way to the new command; the wakes latched in it stay (R365, R509). -/
def startEntry (level : Nat) (s : State) : State :=
  { s with nm := { s.nm with
    entry := some { level := level }
    entryWas := s.nm.entry.map (fun e => (s.time.now, e))
    wakes := if s.nm.entry.isSome then s.nm.wakes else [] } }

/-- What completes an entry, in the cycle of a new command first for the entry that the command replaces (R509). -/
def completing (k : State → State) (s : State) : State :=
  match s.nm.entryWas with
  | some (c, e) =>
    if c = s.time.now && s.nm.entry.isSome then
      let r := k { s with nm := { s.nm with entry := some e, entryWas := none } }
      if r.nm.entry.isNone then r else k s
    else k s
  | none => k s

/-- Crocus completes the entry (R357, R364, R365); the pair unit gives up its interlock group (R586). -/
def finishEntry (s : State) : State :=
  match s.nm.entry with
  | none => s
  | some e =>
    let s1 := if e.step = 0 then deviceWakeRecord 0 e.level 0x3F s else s
    let s2 := { s1 with
      pair := { s1.pair with ownOut := false, ilOwned := false, ilClaim := none }
      nm := { s1.nm with entry := none, asleep := some (e.level, s.time.now), wakeOut := false, retEn := e.level = 3 }
      sys := { s1.sys with pow := { s1.sys.pow with power := .standby } } }
    if s.nm.wakes = [] then s2
    else setFlag (rCROCUS 0x08) 28 { s2 with nm := { s2.nm with raceHold := some (s.time.now + 2000000) } }

/-- Every shutdown of an entry has completed: forwarding stops; without retention the entry is complete (R364). -/
def entryShutDown (s : State) : State :=
  match s.nm.entry with
  | some e =>
    if e.step = 1 && (List.range 60).all (fun i => (segOf s i).state = 3) then
      let s1 := { s with nm := { s.nm with entry := some { e with step := 2 } } }
      if e.level = 3 then s1 else finishEntry s1
    else s
  | none => s

/-- A segment's shutdown completes (R374, R377). -/
def shutDown (i : Nat) (s : State) : State :=
  let g := segOf s i
  if g.state ≠ 2 || (segIsCan i && (canOf s (i - 28)).sending.isSome) then s
  else
    let s1 := if segIsCan i then drivePin i true (discardSlots (i - 28) 0x06 s) else s
    let s2 := setSeg i { segOf s1 i with sleeps := satAdd 32 g.sleeps 1 } s1
    match g.latch, s.nm.entry with
    | some (kind, src), none => startWaking i kind src (s2.atTime (s.time.now + 1))
    | _, _ => completing entryShutDown (segTo i 3 (setSeg i { segOf s2 i with latch := none } s2))

/-! ### Wake sources -/

/-- The network management event of a wake source (R390). -/
def sourceIndex (src : Nat) : Nat := if src < 16 then src else if src < 22 then 16 else if src < 30 then 17 else if src = 30 then 18 else 19
def sourceEvent (src : Nat) (s : State) : State := if coreOn s then nmEvent (sourceIndex src) src s else s

/-- The port of a listener or detector (R358). -/
def sourcePort (src : Nat) : Option Nat := if 16 ≤ src && src < 22 then some (src - 4) else if 22 ≤ src && src < 30 then some (src - 2) else none

/-- Whether a source is watched in the state in force (R355, R356, R358, R361, R633). -/
def watched (s : State) (src : Nat) : Bool :=
  if src < 16 then true
  else match s.nm.asleep with
    | some (level, _) =>
      let l := if s.sys.pow.osc32 then level else 0
      if src < 30 then 2 ≤ l else src < 32 && 1 ≤ l
    | none => match sourcePort src with | some p => coreOn s && (segOf s p).state = 3 | none => false

/-- The tick of the 32.768 kHz oscillator in which a local time falls. -/
def tickOf (t : Nat) : Nat := t * 32768 / 1000000000

/-- The cause of a wake: the first source, or the lowest that qualified with it (R362). -/
def wakeCause (level : Nat) (l : List (Nat × Nat)) : Nat :=
  match l with
  | [] => 0x3F
  | (a, ta) :: r => r.foldl (fun m e => if (if level = 0 then decide (e.2 ≤ ta + 20000) else decide (tickOf e.2 = tickOf ta)) then min m e.1 else m) a

/-- WAKE_OUT and RET_EN rise: the start is a power-on reset, held until the rails are good (R357, R362, R388, R634). -/
def riseWakeOut (level : Nat) (s : State) : State :=
  let ret := level = 3 && s.nm.snapshot
  let s1 := regPut (rCROCUS 0x08) 31 30 level (regPut (rCROCUS 0x08) 29 29 (b2n ret) (count (rCROCUS 0x08) 15 0 s))
  let s2 := regPut (rCROCUS 0x08) 21 16 (wakeCause level s.nm.wakes) s1
  { s2 with
    nm := { s2.nm with wakeOut := true, retEn := true, raceHold := none, owe28 := s2.nm.owe28 || (level = 3 && !s.nm.snapshot) }
    sys := { s2.sys with pow := { s2.sys.pow with power := .held, rails := true, wokeFrom := some level } } }

/-- A wake event is latched, and starts the core in standby (R357, R362, R365). -/
def wakeEvent (src : Nat) (s : State) : State :=
  let v := sourceOf s src
  let s1 := setFlag (rCROCUS 0x0C) src (setSource src { v with wakes := satAdd 32 v.wakes 1 } s)
  if s.nm.entry.isSome || !coreOn s then
    let s2 := { s1 with nm := { s1.nm with wakes := s1.nm.wakes ++ [(src, s.time.now)] } }
    match s.nm.asleep with
    | none => s2
    | some (level, _) =>
      if s.nm.raceHold.isSome then s2
      else if s.nm.wakeOut then regPut (rCROCUS 0x08) 21 16 (wakeCause level s2.nm.wakes) s2
      else riseWakeOut level s2
  else
    let asleep := (maskBits (wsMask v) 60).any (fun i => segManaged (segOf s i) && (segOf s i).state = 3)
    let s2 := (maskBits (wsMask v) 60).foldl (fun s i => wakeRequest i 1 src s) s1
    let s3 := if asleep && src ≠ 30 then setSource src { sourceOf s2 src with opened := true, validEnd := none } s2 else s2
    sourceEvent src s3

/-- A wake has not been validated: it counts as false, and may mask its source (R381, R382). -/
def falseWake (src : Nat) (s : State) : State :=
  let v0 := sourceOf s src
  let v := if (match v0.winEnd with | some e => decide (e ≤ s.time.now) | none => false) then { v0 with inWin := 0, winEnd := none } else v0
  let n := satAdd 8 v.inWin 1
  let masks := decide (nmFalseMax s ≤ n) && !wsNoMask v
  let v1 := { v with
    opened := false, validEnd := none, falses := satAdd 32 v.falses 1, inWin := n
    winEnd := if v.inWin = 0 then some (s.time.now + nmFalseWin s) else v.winEnd
    maskEnd := if masks then some (s.time.now + nmBackoff s) else v.maskEnd
    maskings := if masks then satAdd 32 v.maskings 1 else v.maskings }
  let s1 := setSource src v1 s
  sourceEvent src (if masks then regPut (rCROCUS 0x10) src src 1 s1 else s1)

/-- The validation window of a source ends unvalidated, once its time has come (R381). -/
def windowEnds (src : Nat) (s : State) : State :=
  match (sourceOf s src).opened, (sourceOf s src).validEnd with
  | true, some e => if e ≤ s.time.now then falseWake src s else s
  | _, _ => s

/-- A source qualifies (R360, R382): the command is the instant at which its qualification completes. A back-off that begins in this very cycle stands (R391). -/
def qualify (src : Nat) (s0 : State) : State :=
  let s := if coreOn s0 then windowEnds src s0 else s0
  let v := sourceOf s src
  if 32 ≤ src || !wsEnabled v || !watched s src then s
  else if v.maskEnd.isSome then setSource src { v with maskedHits := satAdd 32 v.maskedHits 1 } s
  else wakeEvent src s

/-! ### The ignition -/

/-- The source that carries ignition; 63 where none does (R359). -/
def ignPin (s : State) : Nat := (firstBelow (fun i => wsEnabled (sourceOf s i) && wsIgn (sourceOf s i)) 16).getD 63

/-- The event of a hint, or of the ignition's return, while the core runs; in standby the pin is watched all the same (R358, R384). -/
def hintEvent (s : State) : State := if coreOn s then nmEvent 27 (ignPin s) s else s

/-- The ignition-off hint is given, but for the cycle in which the pin returns active (R384, R391). -/
def giveHint (s : State) : State :=
  if s.nm.ignBack = s.time.now + 1 then s else hintEvent { s with nm := { s.nm with hint := some s.time.now, logging := false } }

/-- The ignition is active again: the logging ends, and no keep-alive is ignored (R384, R386). -/
def endHint (s : State) : State :=
  hintEvent { s with nm := { s.nm with ignBack := s.time.now + 1, hint := none, logging := false, log := s.nm.log.map (fun e => { e with live := false }) } }

/-- OFFENDER_MIN after the hint: whoever holds a segment awake is logged (R384, R385). -/
def logOffenders (s : State) : State :=
  (List.range 60).foldl (fun s i =>
    let g := segOf s i
    if segManaged g && g.state ≠ 3 then
      let s1 := (g.seen.filter (fun e => s.time.now < e.2 + segReady g)).foldl (fun s e => logOffender e.1 e.2 1 s) s
      (s.nm.host.filter (fun h => if h.1 then (segPnc g).testBit h.2.1 else h.2.1 = i)).foldl (fun s h =>
        logOffender [packW [(6, i), (6, i), (2, 2), (3, h.2.2), (15, 0)], 0, 0, 0] s.time.now 0 s) s1
    else s) { s with nm := { s.nm with logging := true } }

/-! ### Ends of timers and waits -/

/-- A segment's need timer has run for READY_MS (R370, R373). -/
def needExpired (i : Nat) (s : State) : State :=
  match (segOf s i).timer with
  | some a => if a + segReady (segOf s i) ≤ s.time.now then segCheck i (setSeg i { segOf s i with timer := none } s) else s
  | none => s

/-- A cluster's need timer has run out (R370, R373). -/
def clusterExpired (c : Nat) (s : State) : State :=
  match tget none s.nm.cluster c with
  | some (a, i) =>
    if a + segReady (segOf s i) ≤ s.time.now then segCheckAll { s with nm := { s.nm with cluster := tset none s.nm.cluster c none } } else s
  | none => s

/-- A held replica is dropped as SLEEP (R379, R380). -/
def dropHeld (i : Nat) (h : Held) (s : State) : State :=
  match h with
  | .port c r => dropReplica i c 0x12 r s
  | .gw o => gwFree o.cells (gwDrop (i - 28) 0x06 s)

/-- A segment has not become AWAKE within WAKE_TO (R380). -/
def wakeTimedOut (i : Nat) (s : State) : State :=
  let g := segOf s i
  if g.state = 4 && decide (g.wakingAt + nmWakeTo s ≤ s.time.now) && g.held ≠ [] then
    nmEvent 25 i (g.held.foldl (fun s h => sleepDropped i (dropHeld i h s)) (setSeg i { g with held := [] } s))
  else s

end Sys2Proof.Machine
end

