-- ==== Sys2Proof/Machine/GptpOps.lean ====
section
/-!
DEFINITION. Mappings at their anchors, gPTP messages and timeouts (chapters 2 and 3).
-/
namespace Sys2Proof.Machine

/-- The first multiple of the Beat length at or after a working time (R18, R21). -/
def boundaryFrom (k : Nat) (w : Int) : Int := -((-w) / beatLen k) * beatLen k

/-- Working time has been stepped at an anchor a: the Beat, the TIO pins and the leader's toggle answer (R21, R75, R114). -/
def afterStep (a : Nat) (s : State) : State :=
  let s1 := { s with
    beat := { s.beat with next := boundaryFrom s.beat.k (wtAt s.time.map a) }
    ptime := { s.ptime with stepTgl := if s.ptime.role = 1 then !s.ptime.stepTgl else s.ptime.stepTgl } }
  skipAll s1

/-- Whether a mapping steps working time: by a command, or by the leader's step that a follower takes (R59, R118). -/
def stepping (q : MapReq) : Bool := q.step.isSome || q.jump.isSome

/-- The pending mapping takes effect once its anchor has come (R48, R59, R118). A gate list whose S the old mapping reaches at the anchor of a step has started
(R233, R249). -/
def anchorReached (s : State) : State :=
  match s.time.pend with
  | none => s
  | some (a, q) =>
    if s.time.now < a then s
    else if stepping q then afterStep a (sgateListsAt (wtAt s.time.map a) (gateListsAt (wtAt s.time.map a) (takeMapping a q s))) else takeMapping a q s

/-! ### gPTP -/

/-- Receipt timeouts of a slot in ns (R103, R111). -/
def syncTimeout (c : Rec) : Nat := fld c 2 31 24 * logInterval (slotSyncLog c)
def announceTimeout (c : Rec) : Nat := fld c 2 23 16 * logInterval (slotAnnLog c)

/-- The local time, in ns, from which a slot's Sync timeout counts: the ingress stamp of the last valid Sync, or of one that waits for its Follow_Up (R103). -/
def lastSyncOf (s : State) (i : Nat) : Nat :=
  let v := slotOf4 s i
  v.held.foldl (fun m h => if slavePort s i = some h.port then max m (h.stamp / 65536).toNat else m) v.lastSync

/-- No valid Sync for the timeout of the slot: its source is lost (R103, R111). -/
def syncLost (i : Nat) (s : State) : State :=
  if (slotOf4 s i).valid && decide (lastSyncOf s i + syncTimeout (slotCfg s i) ≤ s.time.now) then
    sourceLost i 0x02 (match slavePort s i with | some p => countNet i p 7 s | none => s)
  else s

/-- The Announce that a port of a slot holds, if any, is replaced. -/
def setAnnounce (i port : Nat) (v : Option PortInfo) (s : State) : State :=
  { s with net := { s.net with announce := tset none s.net.announce (i * 32 + port) v } }

/-- No Announce on a port for the timeout of the slot: what it had announced no longer counts, and BMCA runs (R111, R112). Only a port that holds an
Announce is timed (the model's choice, log entry 98). -/
def announceLost (i port : Nat) (s : State) : State :=
  match tget none s.net.announce (i * 32 + port) with
  | none => s
  | some v =>
    if slotEnabled s i && decide (v.at0 + announceTimeout (slotCfg s i) ≤ s.time.now) then
      runBmca i (timeEvent (38 + i) 0x03 (countNet i port 7 (setAnnounce i port none s)))
    else s

/-- A gPTP message enters the slot's gPTP class of a port (R97). -/
def sendGptp (p c : Nat) (g : GptpTx) (s : State) : State :=
  if portUp s p then enterClass p c none { admitted := s.time.now, len := (gptpBytes s p g 0).length + 4, gptp := some g } s else s

/-- A Sync with its Follow_Up information known is relayed to the master ports (R95, R98, R99). h: the Sync, with the delay and nrr in force at its
ingress stamp (R87); m: the message that carries origin and correction. -/
def relaySync (i : Nat) (h : HeldSync) (m : SyncMsg) (s : State) : State :=
  let c := slotCfg s i
  (masterPorts s i).foldl (fun s p =>
    let two := slotTwoStep c p
    sendGptp p (slotTc c) { kind := 0, slot := i, seqId := m.seqId, corr := if two then h.msg.correction else m.correction, followCorr := m.correction
                            ingress := some h.stamp, csro := m.csro, nrr := h.nrr, delay := h.delay, twoStep := two
                            origin := some m.origin, tlv := m.tlv } s) s

/-- The slot that a message of a domain on a port belongs to as its slave (R81, R90). -/
def slaveSlot (s : State) (port domain : Nat) : Option Nat :=
  match slotByDomain s domain with
  | some i => if slavePort s i = some port && portUp s port && (portTimeOf s port).asCap then some i else none
  | none => none

/-- Whether a port drops gPTP messages of a domain (R81, R90). -/
def gptpDropped (s : State) (port domain : Nat) : Bool := 20 ≤ port || (slotByDomain s domain).isNone

/-- A Sync arrives (R95 to R98, R102). -/
def syncRx (port : Nat) (m : SyncMsg) (s : State) : State :=
  if gptpDropped s port m.domain then countGptpDrop port s
  else match slaveSlot s port m.domain with
    | none => s
    | some i =>
      let h : HeldSync := ⟨port, ingressStamp s port m.held, m, delayOf s port, (portTimeOf s port).nrr⟩
      let s1 := countNet i port 0 s
      if m.twoStep then setSlot i { slotOf4 s1 i with held := (slotOf4 s1 i).held ++ [h] } s1
      else servoSync i h m (relaySync i h m s1)

/-- Whether a Sync has been held for 100 ms (R98). -/
def heldLong (now : Nat) (h : HeldSync) : Bool := decide ((h.stamp / 65536).toNat + 100000000 ≤ now)

/-- Whether a Follow_Up on a port belongs to a Sync held (R98). -/
def heldMatches (now port seq : Nat) (h : HeldSync) : Bool :=
  h.port = port && h.msg.seqId = seq && decide (now ≤ (h.stamp / 65536).toNat + 100000000)

/-- A Follow_Up arrives and is matched to the Sync held (R98). -/
def followUpRx (port : Nat) (m : SyncMsg) (s : State) : State :=
  if gptpDropped s port m.domain then countGptpDrop port s
  else match slaveSlot s port m.domain with
    | none => s
    | some i => match (slotOf4 s i).held.find? (heldMatches s.time.now port m.seqId) with
      | none => s
      | some h => servoSync i h m (relaySync i h m (setSlot i { slotOf4 s i with held := (slotOf4 s i).held.erase h } s))

/-- The Syncs held for 100 ms are dropped, and each is counted (R98). -/
def followUpMissed (i : Nat) (s : State) : State :=
  let v := slotOf4 s i
  let gone := v.held.filter (heldLong s.time.now)
  gone.foldl (fun s h => countNet i h.port 3 s) (setSlot i { v with held := v.held.filter (fun h => !heldLong s.time.now h) } s)

/-- The intervals in ns at which a port sends Sync and Announce of a slot: those that the neighbour has asked for, else the slot's (R80, R82). -/
def syncInterval (s : State) (i p : Nat) : Nat := logInterval ((tget none s.net.syncAsk (i * 32 + p)).getD (slotSyncLog (slotCfg s i)))
def announceInterval (s : State) (i p : Nat) : Nat := logInterval ((tget none s.net.announceAsk (i * 32 + p)).getD (slotAnnLog (slotCfg s i)))

/-- Whether an interval has passed since a local time. -/
def intervalDue (now : Nat) (last : Option Nat) (n : Nat) : Bool := match last with | some l => decide (l + n ≤ now) | none => true

/-- The master ports of a slot whose Sync is due. -/
def syncDue (s : State) (i : Nat) : List Nat :=
  (masterPorts s i).filter (fun p => intervalDue s.time.now (tget none s.net.syncTx (i * 32 + p)) (syncInterval s i p))

/-- A master port of a grandmaster slot sends its Sync (R84); its rate offset is that of working time to local time (R95). -/
def gmSyncPort (i p : Nat) (s : State) : State :=
  let k := i * 32 + p
  let seq := tget 0 s.net.syncSeq k
  sendGptp p (slotTc (slotCfg s i)) { kind := 0, slot := i, seqId := seq, csro := (mapOf s.time s.time.now).a.tdiv 8, twoStep := slotTwoStep (slotCfg s i) p }
    { s with net := { s.net with syncTx := tset none s.net.syncTx k (some s.time.now), syncSeq := tset 0 s.net.syncSeq k ((seq + 1) % 65536) } }

/-- A grandmaster slot sends Sync at its interval (R84). -/
def gmSync (i : Nat) (s : State) : State := if isGrandmaster s i then (syncDue s i).foldl (fun s p => gmSyncPort i p s) s else s

/-- Whether an Announce is accepted, the port holding another or none: not the device's own, and from the same sender as before or better (IEEE
802.1AS-2020, log entry 43). -/
def announceFits (m : AnnounceMsg) (v : PortInfo) (old : Option PortInfo) : Bool :=
  m.srcClock ≠ ownClock && m.stepsRemoved < 255 && !m.path.contains ownClock &&
  match old with
  | none => true
  | some o => (o.srcClock = m.srcClock && o.srcPort = m.srcPort) || lexLt (infoVec v) (infoVec o)

/-- An Announce on a port takes part in BMCA while the firmware runs; without it, one of the same sender keeps the receipt timeout from running out
(R16, R103, R111, R112). In external mode the slave port's Announce names the grandmaster. -/
def announceIn (port : Nat) (m : AnnounceMsg) (s : State) : State :=
  if gptpDropped s port m.domain then countGptpDrop port s
  else match slotByDomain s m.domain with
    | none => s
    | some i =>
      let old := tget none s.net.announce (i * 32 + port)
      let v : PortInfo := ⟨m.gm, m.stepsRemoved, m.srcClock, m.srcPort, m.path, s.time.now⟩
      if !bmcaPort s port || !announceFits m v old then s
      else if !fwRuns s then
        (match old with
         | some o => if o.srcClock = m.srcClock && o.srcPort = m.srcPort then setAnnounce i port (some { o with at0 := s.time.now }) s else s
         | none => s)
      else
        let s1 := setAnnounce i port (some v) s
        if slotMode (slotCfg s i) = 1 then runBmca i s1
        else if slavePort s i = some port then takeGm i v s1
        else s1

/-- What a master port announces: the grandmaster that the slave port has announced, one step further, or the slot itself, with the holdover clockClass in
holdover (R82, R104). -/
def announceSays (s : State) (i : Nat) : GmInfo × Nat × List Nat :=
  match (slavePort s i).bind (fun p => tget none s.net.announce (i * 32 + p)) with
  | some v => (v.gm, v.steps + 1, v.path ++ [ownClock])
  | none => (ownGm s i, 0, [ownClock])

/-- A master port sends Announce at its interval (R82, R104). -/
def announceOut (i port : Nat) (s : State) : State :=
  let k := i * 32 + port
  let c := slotCfg s i
  let seq := tget 0 s.net.announceSeq k
  if roleOf s i port = 2 && intervalDue s.time.now (tget none s.net.announceTx k) (announceInterval s i port) then
    sendGptp port (slotTc c) { kind := 11, slot := i, seqId := seq, announce := some (announceSays s i) }
      { s with net := { s.net with announceTx := tset none s.net.announceTx k (some s.time.now)
                                   announceSeq := tset 0 s.net.announceSeq k ((seq + 1) % 65536) } }
  else s

/-- The enabled slots. A port has a slot active while any slot is enabled, whatever the port's role there (the model's choice, R86, log entry 98). -/
def liveSlots (s : State) : List Nat := (List.range 4).filter (slotEnabled s)

/-- The class in which CMLDS messages, which belong to no slot, leave: that of the lowest enabled slot (the model's choice, R97, log entry 98). -/
def pdelayClass (s : State) : Nat := match liveSlots s with | i :: _ => slotTc (slotCfg s i) | [] => 7

/-- The interval in ns of a port's Pdelay_Req: the one that the neighbour has asked for, else the port's (R80, R86). -/
def pdelayInterval (s : State) (p : Nat) : Nat := logInterval ((portTimeOf s p).pdelayAsk.getD (ptPdelayLog (portTimeCfg s p)))

/-- A Pdelay_Req without an answer is lost (R88, R112). -/
def pdelayUnanswered (port : Nat) (s : State) : State :=
  let v := portTimeOf s port
  if v.reqT1.isNone then s
  else judgeAsCapable port (countNet 0 port 6 (setPortTime port { v with lost := v.lost + 1, reqT1 := none } s))

/-- At the port's interval the firmware issues a Pdelay_Req; the one before it without an answer is lost (R86, R88). -/
def pdelayReqOut (port : Nat) (s : State) : State :=
  if 20 ≤ port || liveSlots s = [] || !portUp s port || !fwRuns s || !intervalDue s.time.now (portTimeOf s port).lastReq (pdelayInterval s port) then s
  else
    let s1 := pdelayUnanswered port s
    let v := portTimeOf s1 port
    let seq := (v.reqSeq + 1) % 65536
    sendGptp port (pdelayClass s1) { kind := 2, slot := 0, cmlds := true, seqId := seq }
      (setPortTime port { v with reqSeq := seq, lastReq := some s.time.now, responder := none } s1)

/-- The responder answers CMLDS requests and instance-specific requests of domain 0 (R86, R90); a request of a domain without a slot is dropped (R81). -/
def pdelayReqIn (port : Nat) (m : PdelayReq) (s : State) : State :=
  let d := if m.cmlds || m.domain = 0 then pdelayClass s else 7
  if 20 ≤ port || !(m.cmlds || m.domain = 0 || (slotByDomain s m.domain).isSome) then countGptpDrop port s
  else if liveSlots s = [] || !portUp s port || !(m.cmlds || m.domain = 0) then s
  else
    sendGptp port d { kind := 3, slot := (slotByDomain s 0).getD 0, cmlds := m.cmlds, seqId := m.seqId, twoStep := true
                      peer := (m.srcClock, m.srcPort), stamp := ingressStamp s port m.held } (countNet 0 port 5 s)

/-- nrr - 1 in 2^-41 from the turnaround stamps of exchanges 8 apart (R87); the value before until there are such. -/
def nrrOf (turns : List (Int × Int)) (old : Int) : Int :=
  match turns, turns.drop 8 with
  | (a3, a4) :: _, (b3, b4) :: _ => if a4 = b4 then old else ((a3 - b3) - (a4 - b4)) * 2 ^ 41 / (a4 - b4)
  | _, _ => old

/-- The firmware takes a completed exchange: t1 and t4 local, t2 and t3 of the responder (R87 to R89). -/
def pdelaySample (port : Nat) (m : PdelayResp) (t1 t4 : Int) (s : State) : State :=
  let v := portTimeOf s port
  let turns := ((m.t3, t4) :: v.turns).take 9
  let nrr := nrrOf turns v.nrr
  let d := ((t4 - t1) - (m.t3 - m.t2) * (2 ^ 41 + nrr) / 2 ^ 41) / 2
  let samples := (d :: v.samples).take 8
  judgeAsCapable port (setPortTime port { v with
    turns := turns, nrr := nrr, samples := samples, lost := 0, reqT1 := none, responder := some (m.seqId, m.responder)
    dUp := if ptStoredEn (portTimeCfg s port) && samples.length < 8 then v.dUp else meanI samples } s)

/-- A peer-delay answer arrives; the firmware, which writes D_up and nrr, takes it only while it runs (R87 to R89, R101). -/
def pdelayRespIn (port : Nat) (m : PdelayResp) (s : State) : State :=
  let v := portTimeOf s port
  if 20 ≤ port then countGptpDrop port s
  else if !fwRuns s then s
  else match v.responder, v.reqT1 with
    | some (q, id), _ =>
      if q = m.seqId && id ≠ m.responder then judgeAsCapable port (setPortTime port { v with multi := true } s) else s
    | none, none => s
    | none, some t1 => if m.seqId ≠ v.reqSeq then s else pdelaySample port m t1 (ingressStamp s port m.held) s

/-! ### PAIR_TIME -/

/-- Whether the next pulse is overdue: 1 µs past its expected instant (R116); with no pulse yet, when the follower's own boundary says so. -/
def pulseOverdue (s : State) : Bool :=
  match s.ptime.edge with
  | some (_, inst) => decide (inst + (s.ptime.bad + 1 : Nat) * beatLen s.beat.k + 1000 * wtNs ≤ wtNow s)
  | none => true

/-! ### TIO pins -/

end Sys2Proof.Machine
end

