-- ==== Sys2Proof/Machine/PowerOps.lean ====
section
/-!
DEFINITION. The reset levels: what each leaves standing, and how a reset ends (R628, R634 to R640, R681).
-/
namespace Sys2Proof.Machine

/-! ### What a reset leaves standing (R635) -/

/-- Registers whose storage no reset but VBAT power-on and a Darkroom reset touches: the CROCUS block, RST_STAT, DRK_STAT. -/
def regStays (off : Nat) : Bool := off / 0x10000 = 6 || off = rRST_STAT || off = rDRK_STAT

/-- The staging commands of a mailbox that no commit has armed (R537). -/
def unarmed (s : State) (m : Nat) : List Staged := (s.beat.again ++ s.beat.staged).filter (fun x => x.mbx = m)

/-- A mailbox's journal, its rings empty (R537). -/
def journalOnly (s : State) (m : Nat) (b : Mailbox) : Mailbox := { b with req := {}, rsp := {}, restage := (b.restage ++ unarmed s m).map (fun x => { x with mute := true }) }

/-- The mailboxes without their rings, notices and staging window. -/
def mbxJournals (s : State) : MbxState := { box := tmap {} (s.mbx.saved.getD s.mbx.box) (journalOnly s), authCount := s.mbx.authCount }

/-- The freshness values of in-band mailboxes (R500). -/
def inbandFresh (s : State) : Tab Inband := tmap {} s.bridge.inband (fun _ v => { rxFresh := v.rxFresh, txFresh := v.txFresh })

/-- Network management state that retention SRAM holds (R366, R628): held traffic is lost with the buffer. -/
def nmRetained (s : State) : NmState := { s.nm with seg := tmap {} s.nm.seg (fun _ g => { g with held := [], seen := [] }), entry := none }

/-- What the Crocus domain holds of network management (R383, R388). -/
def nmCrocus (s : State) : NmState :=
  { source := s.nm.source, asleep := s.nm.asleep, wakes := s.nm.wakes, raceHold := s.nm.raceHold, wakeOut := s.nm.wakeOut, retEn := s.nm.retEn, owe28 := s.nm.owe28
    stbHigh := s.nm.stbHigh, enLow := s.nm.enLow }

/-- The binding and the last checkpoint of a pair (R580, R591). -/
def pairKept (s : State) (ckpt : Bool) : Pair := { bound := s.pair.bound, binds := s.pair.binds, ckpt := if ckpt then s.pair.ckpt else none }

/-- The Seed Store after a reset that keeps it: a zeroization under way completes (R417). -/
def keptSlots (s : State) : Tab KeySlot :=
  if s.ciph.zeroizing then
    (List.range 255).foldl (fun l i => tset {} l (i + 1) { gen := if (tget {} s.ciph.slot (i + 1)).gen = 0xFFFF then 1 else (tget {} s.ciph.slot (i + 1)).gen + 1 }) s.ciph.slot
  else s.ciph.slot

/-- Fuses and flash, and what the firmware keeps about its image (R603 to R620). -/
def fwKept (s : State) (boot : Boot) : FwState :=
  { flash := s.sys.fw.flash, floor := s.sys.fw.floor, lifecycle := s.sys.fw.lifecycle, commitPending := s.sys.fw.commitPending
    base := s.sys.fw.base, boot := boot, kernel := s.sys.fw.kernel, img := if boot = .resume then s.sys.fw.img else [] }

/-- Whether a power-on reset keeps retention: the start leaves retained standby, and RET_VALID is set (R635). -/
def retentionKept (s : State) : Bool := s.sys.pow.wokeFrom = some 3 && regBit s (rCROCUS 0x08) 29

/-- A write in carriage when a reset begins: whether it has taken effect is a free value, and shows where its register is one that the reset keeps (R681). -/
def carriedDecides (o : Origin) (s : State) (c : Carried) : State :=
  let (reg, a) := aliasOf c.off
  match regFields reg with
  | none => s
  | some fs =>
    if c.bar2 || c.sizeBad || !(regStays reg || reg / 0x10000 = 8) || (o = .spi && regBit s rBRG_CTRL 25) then s
    else
      let v := freeVal s
      if !v.1.getLsbD 0 then v.2
      else regSet reg (fs.foldl (fun w f =>
        let old := regFld s reg f.hi f.lo
        putBits w f.hi f.lo (if f.acc = .go then old else fieldAfter f.acc a (s.sys.fw.lifecycle = 2) old (bits (rw c.data 0) f.hi f.lo))) 0) v.2

/-- A fuse write in flight when a reset begins: the floor lies between OLD and NEW, a lifecycle step or a binding is fused or not; which, is a free value
(R618, R646). -/
def fusesStop (s : State) : State :=
  let v := freeVal s
  let blown := v.1.getLsbD 0
  match s.mbx.box.findSome? (fun e => e.2.deferred.bind (fun d => if d.opcode = 0x0C03 || d.opcode = 0x0D04 || d.opcode = 0x0D07 then some d else none)) with
  | none => s
  | some d =>
    let f := s.sys.fw
    let new := (rw d.progress 0).toNat
    if d.opcode = 0x0D04 then { v.2 with sys := { v.2.sys with fw := { f with floor := f.floor + v.1.toNat % (new - f.floor + 1) } } }
    else if !blown then v.2
    else if d.opcode = 0x0D07 then { v.2 with sys := { v.2.sys with fw := { f with lifecycle := new } } }
    else { v.2 with pair := { v.2.pair with bound := some (flag d.args 0 0, cat64 (rw d.args 1) (rw d.args 2)), binds := new } }

/-- What a reset cuts short: the writes in carriage, by origin, and the fuse write in flight (R618, R681). -/
def interrupted (s : State) : State :=
  let b := s.bridge
  fusesStop (b.carry3.foldl (carriedDecides .core) (b.carry2.foldl (carriedDecides .inband) (b.carry1.foldl (carriedDecides .spi) (b.carry0.foldl (carriedDecides .pcie) s))))

/-- A power-on reset clears what it does not keep (R635). -/
def powerOnClear (s : State) : State :=
  let r := retentionKept s
  { out := s.out, fresh := s.fresh, start := s.start, pending := s.pending, dark := s.dark
    regs := s.regs.filter (fun e => regStays e.1)
    time := { now := s.time.now, epoch := s.time.epoch, map := mapOf s.time s.time.now }
    beat := { lastId := if r then s.beat.lastId else 0 }
    nm := if r then nmRetained s else nmCrocus s
    gw := { fresh := if r then s.gw.fresh else [] }
    ciph := if r then { slot := keptSlots s } else {}
    pair := pairKept s r
    bridge := { inband := if r then inbandFresh s else [] }
    mbx := if r then mbxJournals s else {}
    sys := { pow := s.sys.pow, fw := fwKept s (if r then .resume else .rom), test := { tap := s.sys.test.tap, tapReg := s.sys.test.tapReg }
             core := if r then { copy0 := s.sys.core.copy0, copy1 := s.sys.core.copy1, newest := s.sys.core.newest } else {} } }

/-- A system reset clears what it does not keep (R635). -/
def systemClear (s : State) : State :=
  { out := s.out, fresh := s.fresh, start := s.start, pending := s.pending, dark := s.dark
    regs := s.regs.filter (fun e => regStays e.1 || e.1 / 0x10000 = 8)
    time := { now := s.time.now, epoch := s.time.epoch, map := mapOf s.time s.time.now }
    beat := { lastId := s.beat.lastId, seq := s.beat.seq }
    ports := { refA := s.ports.refA, refB := s.ports.refB }
    nm := nmRetained s
    gw := { fresh := s.gw.fresh }
    ciph := { slot := keptSlots s }
    pair := pairKept s true
    cs := { trace := s.cs.trace, runs := (s.cs.runs.headD 0 + s.cs.next) :: s.cs.runs }
    bridge := { inband := inbandFresh s }
    mbx := mbxJournals s
    sys := { pow := s.sys.pow, fw := fwKept s .rom, core := { s.sys.core with takeover := none, reload := false }, test := { tap := s.sys.test.tap, tapReg := s.sys.test.tapReg, opened := s.sys.test.opened } } }


def setPow (f : PowerState → PowerState) (s : State) : State := { s with sys := { s.sys with pow := f s.sys.pow } }
def setFw (f : FwState → FwState) (s : State) : State := { s with sys := { s.sys with fw := f s.sys.fw } }
def setCore (f : CoreState → CoreState) (s : State) : State := { s with sys := { s.sys with core := f s.sys.core } }
def setTest (f : TestState → TestState) (s : State) : State := { s with sys := { s.sys with test := f s.sys.test } }

/-- Whether something holds a reset: rails, clocks, boundary scan, and, a power-on reset, TESTMODE (R627, R633, R656, R679). -/
def resetHeld (s : State) : Bool := s.sys.pow.rails || s.sys.pow.clock || s.sys.pow.scan || (s.sys.pow.testmode && regFld s rRST_STAT 31 29 ≠ 3)

/-- LEVEL and CAUSE of a reset (R640). -/
def resetStat (level cause : Nat) (s : State) : State := regPut rRST_STAT 31 29 level (regPut rRST_STAT 28 24 cause s)

/-! ### How a reset ends -/

/-- A duration counted by the low-power time counter, rounded up to a whole nanosecond (R42). -/
def countedSleep (d : Nat) : Nat := ((d * 32768 + 999999999) / 1000000000 * 1000000000 + 32767) / 32768

/-- Times of Crocus and of the Darkroom's hold-offs count on in a local time that starts at 0 again, base having been the old one (R383, R427, R435). -/
def rebaseSources (base : Nat) (s : State) : State :=
  let f := fun (o : Option Nat) => o.map (fun e => e - base)
  { s with dark := { s.dark with trigHold := tmap 0 s.dark.trigHold (fun _ v => v - base), lowAt := f s.dark.lowAt, forceWas := (none, 0), cur := s.dark.cur.map (fun w => { w with wrote := w.wrote - base }) }
           nm := { s.nm with source := tmap {} s.nm.source (fun _ v => { v with winEnd := f v.winEnd, maskEnd := f v.maskEnd, validEnd := f v.validEnd })
                             wakes := s.nm.wakes.map (fun e => (e.1, e.2 - base)), hint := f s.nm.hint } }

/-- Local and working time of the start, and the epoch (R42, R43, R636). The first start after VBAT power-on leaves LT_EPOCH at its reset value 0 (the
model's choice, log entry 97). -/
def startTimes (s : State) : Nat × Int × Nat :=
  let lvl := regFld s rRST_STAT 31 29
  match s.sys.pow.wokeFrom, s.nm.asleep with
  | some l, some (_, start) =>
    if 0 < l && s.sys.pow.osc32 then let n := start + countedSleep (s.time.now - start); (n, wtAt s.time.map n, s.time.epoch)
    else (0, 0, (s.time.epoch + 1) % 65536)
  | _, _ => if lvl = 3 then (s.time.now, wtAt s.time.map s.time.now, s.time.epoch) else if lvl = 1 then (0, 0, 0) else (0, 0, (s.time.epoch + 1) % 65536)

/-- The first working-time instant after w that is a boundary at k = 3, and the index of the Beat in progress (R17, R18, R636). A start at an instant that
is itself a multiple issues no boundary there (the model's choice, log entry 97). -/
def restartBeat (w : Int) (s : State) : State :=
  { s with beat := { s.beat with next := boundaryFrom 3 (w + 1), inSec := ((w % wtSec) / beatLen 3).toNat } }

/-- The time unit starts: a mapping with cause 7 (R636), and the local-time event where local time has started at 0 or resumed after standby (R79). -/
def startTime (s : State) : State :=
  let r := startTimes s
  let s1 := if r.1 < s.time.now then rebaseSources (match s.nm.asleep with | some (_, st) => st | none => s.time.now) s else s
  let s2 := restartBeat r.2.1 { s1 with time := { now := r.1, epoch := r.2.2, corrAt := r.1, map := ⟨r.1, r.2.1, 0, 0, 7⟩, from0 := r.2.1 } }
  let s3 := csPush 0x02 (mappingPayload s2 false) s2
  if s.sys.pow.wokeFrom.isNone && regFld s rRST_STAT 31 29 = 3 then s3 else timeEvent 37 (if r.1 = 0 then 1 else 2) s3

/-- What a wake from standby leaves: its record and events, and the validation windows of its sources (R366, R381, R390). -/
def wakeDone (s : State) : State :=
  match s.sys.pow.wokeFrom with
  | none => { s with nm := { s.nm with wakes := [] } }
  | some l =>
    let srcs := (s.nm.wakes.map (·.1)).eraseDups
    let s1 := deviceWakeRecord 1 l (regFld s (rCROCUS 0x08) 21 16) s
    let s2 := srcs.foldl (fun s i => sourceEvent i (if i = 30 then s else setSource i { sourceOf s i with opened := true, validEnd := none } s)) s1
    let s3 := if s2.nm.owe28 then nmEvent 28 (regFld s2 (rCROCUS 0x08) 21 16) s2 else s2
    setPow (fun p => { p with wokeFrom := none, woke := some l }) { s3 with nm := { s3.nm with asleep := none, wakes := [], owe28 := false } }

/-- The payload of a SUPPLY record (R453). -/
def supplyPayload (type mv us : Nat) : BitVec 64 := pack64 [(4, type), (12, mv / 20), (32, min us (2 ^ 32 - 1)), (16, 0)]

/-- A SUPPLY record is written, with its system event; DETAIL [31:0] is the payload's upper half (R629, R645). -/
def supplyRecord (cause : Nat) (p : BitVec 64) (s : State) : State := systemEventD 15 cause (p.toNat / 2 ^ 32) (csPush 0x09 [p] s)

/-- What is owed from before or during the reset is written and raised (R629, R633, R645). -/
def oweDone (s : State) : State :=
  let s1 := s.sys.pow.owed.foldl (fun s p => supplyRecord (p.toNat / 2 ^ 60) p s) s
  let s2 := match s.sys.pow.brown with | some (mv, us) => supplyRecord 4 (supplyPayload 4 mv us) s1 | none => s1
  let s3 := if s.sys.pow.clockFault then systemEvent 15 0x07 s2 else s2
  setPow (fun p => { p with owed := [], brown := none, clockFault := false }) s3

/-- The reset is released, when nothing holds it: the core domain starts, and the identifiers are read from device OTP (R469, R627, R636, R641). -/
def releaseReset (s : State) : State :=
  if s.sys.pow.power ≠ .held || resetHeld s then s
  else
    let s1 := startTime (setPow (fun p => { p with power := .run }) s)
    oweDone (wakeDone { s1 with
      sys := { s1.sys with ids := some {} }
      cs := { s1.cs with run := regFld s1 (rCROCUS 0x08) 7 0, repeatAt := (s1.time.now / 1000000000 + 1) * 1000000000 } })

/-- The system reset that a power-on reset of its cycle takes in leaves no count (R646). -/
def takesIn (s : State) : State :=
  match s.sys.pow.sysAt with
  | some (c, n) => if c = s.time.now then regSet rRST_STAT (putBits (regGet s rRST_STAT) 15 8 n) s else s
  | none => s

/-- A power-on reset (R634, R635, R640). -/
def powerOnReset (cause : Nat) (s : State) : State :=
  let s1 := releaseReset (resetStat 2 cause
    (setPow (fun p => { p with power := .held, sysGo := none, sysWas := none, sysAt := none }) (powerOnClear (interrupted (takesIn s)))))
  setPow (fun p => { p with porAt := some s1.time.now }) s1

/-- A system reset (R634, R635, R640); one in the cycle of a power-on reset is a part of it (R634, R646). -/
def systemReset (cause : Nat) (s : State) : State :=
  if s.sys.pow.power ≠ .run || s.sys.pow.porAt = some s.time.now then s
  else releaseReset (count rRST_STAT 15 8 (resetStat 3 cause
    (setPow (fun p => { p with power := .held, sysGo := none, sysWas := none, sysAt := some (s.time.now, regFld s rRST_STAT 15 8) }) (systemClear (interrupted s)))))

/-- VBAT power-on: Crocus and everything but fuses, flash and the Darkroom take their reset values (R505, R634, R635). -/
def vbatReset (s0 : State) : State :=
  let s := fusesStop s0
  { out := s.out, fresh := s.fresh, start := s.start, pending := s.pending, dark := s.dark
    regs := s.regs.filter (fun e => e.1 = rDRK_STAT)
    pair := pairKept s false
    sys := { pow := { s.sys.pow with power := .held, rails := true, clock := false, scan := false, osc32 := true, wokeFrom := none, woke := none, sysGo := none, sysWas := none, porAt := none, sysAt := none, disturb := none, owed := [], brown := none, clockFault := false }
             fw := { fwKept s .rom with kernel := false } } }

/-- The contents of retention SRAM and of the Seed Store are lost (R36, R396, R500, R593, R628). -/
def loseRetention (s : State) : State :=
  { s with
    beat := { s.beat with lastId := 0 }
    nm := { s.nm with snapshot := false, log := [], logFull := 0 }
    gw := { s.gw with fresh := [] }
    ciph := { s.ciph with slot := [(0, rootSlot)] }
    pair := { s.pair with ckpt := none }
    bridge := { s.bridge with inband := tmap {} s.bridge.inband (fun _ v => { v with rxFresh := 0, txFresh := 0 }) }
    mbx := { s.mbx with authCount := 0, saved := s.mbx.saved.map (fun _ => []), box := tmap {} s.mbx.box (fun _ b => { b with state := 0, ack := 0, statuses := [], deferred := none, journalLost := true, lostTold := false, restage := [] }) }
    sys := { s.sys with core := { s.sys.core with copy0 := none, copy1 := none }, fw := { s.sys.fw with kernel := false } } }

end Sys2Proof.Machine
end

