-- ==== Sys2Proof/Machine/ReadOps.lean ====
section
/-!
DEFINITION. How the host bridge answers a read, and reads that have waited 20 µs (R476, R495).
-/
namespace Sys2Proof.Machine
open Sys2Proof

/-- A completion leaves on the PCIe link; one that is due while the link is down is lost (R503). -/
def complete (status : Nat) (data : Rec) (s : State) : State := if s.bridge.up then emit (.completion s.time.now status data) s else s

/-- The CRC-8 of the SPI port, initial value 0xFF (R495). -/
def spiCrc (b : Bytes) : Nat := crc8 0xFF b

def byteOf (n : Nat) : Byte := BitVec.ofNat 8 n

/-- SPI_MISO carries bytes. -/
def miso (b : Bytes) (s : State) : State := emit (.spi s.time.now (some b)) s

/-- The status of a failed read of words: UR as RANGE, the others as ABORT (R476). -/
def spiStatus (c : Nat) : Nat := match c with | 0 => 0 | 1 => 4 | _ => 5

/-- The answer of a read frame. -/
def spiReadBytes (st : Nat) (ws : Rec) : Bytes :=
  let body := byteOf st :: recBytes ws
  0xA5 :: body ++ [byteOf (spiCrc body)]

/-- The answer of an SPI read: RANGE for UR, ABORT for the other failures (R476, R496). -/
def spiServes (r : Nat × Rec) (n : Nat) (s : State) : State :=
  miso (if r.1 = 0 then spiReadBytes 0 r.2 else spiReadBytes (spiStatus r.1) (List.replicate n 0)) s

/-- A status byte and its complement (R496). -/
def spiAnswer (st : Nat) (s : State) : State := miso [byteOf st, byteOf (255 - st)] s

/-! ### Semaphores (R482) -/

/-- A semaphore that is in use: one that an AtomicOp took is held through its cycle (R483, R503). -/
def semHeld (s : State) (i : Nat) : Option Sem :=
  match tget none s.bridge.sems i with
  | some x => if x.spi || x.since = s.time.now then some x else none
  | none => none

/-- The first free semaphore. -/
def freeSem (s : State) : Option Nat := (List.range 16).find? (fun i => (semHeld s i).isNone)

def setSem (i : Nat) (x : Option Sem) (s : State) : State := { s with bridge := { s.bridge with sems := tset none s.bridge.sems i x } }

/-- The semaphore that the SPI port holds. -/
def spiSem (s : State) : Option Nat := (s.bridge.sems.find? (fun e => match e.2 with | some x => x.spi | none => false)).map (·.1)

/-- Whether a semaphore is held on the line of a word. -/
def onLine64 (x : Sem) (bar2 : Bool) (off : Nat) : Bool := x.bar2 = bar2 && x.line = off / 64 % 2 ^ 18

/-- Whether another origin holds the line of a word (R482). -/
def lineHeld (s : State) (o : Origin) (bar2 : Bool) (off : Nat) : Bool :=
  (List.range 16).any (fun i => match semHeld s i with | some x => decide (x.origin ≠ o) && onLine64 x bar2 off | none => false)

/-- Whether an access of an origin waits for the line of a word: the SPI port holds it. An AtomicOp is done in its own cycle, in which it goes first
(R475, R482, R483). -/
def lineLocked (s : State) (o : Origin) (bar2 : Bool) (off : Nat) : Bool :=
  s.bridge.sems.any (fun e => match e.2 with | some x => x.spi && decide (x.origin ≠ o) && onLine64 x bar2 off | none => false)

/-- Whether one of n slots of a ring, from a pointer on, lies on a line that an origin must wait for. -/
def ringLocked (s : State) (o : Origin) (id : RingId) (ptr n : Nat) : Bool :=
  s.bridge.sems.any (fun e => e.2.isSome) &&
    (List.range n).any (fun i => lineLocked s o true (ringBase id + 4 * ((ptr + i) % 2 ^ ringBits id * ringSlotWords id)))

/-- An SPI lock is decided at the end of its cycle, behind an AtomicOp of the same cycle on its line (R484, R503). -/
def spiLockTaken (bar2 : Bool) (off : Nat) (s : State) : State :=
  let first := s.bridge.waiting.any (fun w => w.since = s.time.now && w.bar2 = bar2 && w.off / 64 = off / 64)
  match freeSem s, spiSem s with
  | some i, none =>
    if lineHeld s .spi bar2 off || first then spiAnswer 6 s else spiAnswer 0 (setSem i (some ⟨.spi, true, bar2, off / 64, s.time.now⟩) s)
  | _, _ => spiAnswer 6 s

/-! ### Failures -/

/-- The number of an origin in records and in the offset of its PROOF register (R474, R481). -/
def originCode : Origin → Nat
  | .pcie => 0
  | .spi => 1
  | .inband => 2
  | .core => 3

/-- Codes of R480. -/
def cUNMAPPED : Nat := 1
def cSIZE : Nat := 2
def cREAD_ONLY : Nat := 3
def cLOCKED : Nat := 4
def cRING_OWNED : Nat := 5
def cTIMEOUT : Nat := 6
def cECC : Nat := 7
def cCONFIG : Nat := 8

/-! ### The Proof log -/

/-- The REG_WRITE record (R453). -/
def writeRecord (o : Origin) (failed : Bool) (off : Nat) (v : Word) (s : State) : State :=
  csPush 0x06 [pack64 [(2, originCode o), (1, b2n failed), (9, 0), (20, off), (32, v.toNat)]] s

/-- A write fails: Proof log, FAILS and FIRST, record, event (R479, R480, R481, R502). -/
def writeFails (o : Origin) (c : Carried) (off : Nat) (v : Word) (cause : Nat) (s : State) : State :=
  let k := originCode o
  let s1 := ringPush .proof ([packW [(2, k), (1, b2n c.bar2), (5, cause), (24, off)], v] ++ split64 s.time.now ++ [packW [(16, c.tag), (16, 0)], 0, 0, 0]) s
  let b := s1.bridge
  let last := match tget (0, 0, 0, false) b.proofLast k with
    | (t, n, off0, bar0) => if t = s1.time.now && 0 < n then (t, n + 1, off0, bar0) else (s1.time.now, 1, off % 2 ^ 24, c.bar2)
  let first := if regFld s1 (rPROOF k) 30 24 = 0 then tset (0, false) b.proofFirst k (off % 2 ^ 24, c.bar2) else b.proofFirst
  let s2 := { s1 with bridge := { b with proofFirst := first, proofLast := tset (0, 0, 0, false) b.proofLast k last } }
  systemEvent 7 0x01 (writeRecord o true off v (count (rPROOF k) 30 24 s2))

/-! ### What has waited 20 µs -/

/-- How a read that has failed is answered: 1 UR, 2 CA (R476). -/
def readFails (w : WaitRead) (status : Nat) (s : State) : State := if w.spi then spiServes (status, []) w.words s else complete status [] s

/-- Every read that has waited 20 µs ends as CA or ABORT (R476). -/
def readsExpire (s : State) : State :=
  let due := fun (w : WaitRead) => decide (w.since + 20000 ≤ s.time.now)
  (s.bridge.reads.filter due).foldl (fun s w => readFails w 2 s) { s with bridge := { s.bridge with reads := s.bridge.reads.filter (fun w => !due w) } }

/-- A message for a ring that has waited 20 µs for a line fails as a write of its origin, and whether it has landed is free (R477, R478). -/
def ringExpires (w : RingWait) (s : State) : State :=
  let v := freeVal s
  writeFails w.origin { arrival := w.since, bar2 := true, off := 0, data := w.words } (ringBase w.ring + 4 * ((ringOf s w.ring).prod % 2 ^ ringBits w.ring)) (rw w.words 0) cTIMEOUT
    (if v.1.getLsbD 0 then ringPush w.ring w.words v.2 else v.2)

/-- Every access that has waited 20 µs for a line, and is not a write that a command ends, fails (R476, R477). -/
def waitsExpire (s : State) : State :=
  let due := fun (w : RingWait) => decide (w.since + 20000 ≤ s.time.now)
  readsExpire ((s.bridge.ringWaits.filter due).foldl (fun s w => ringExpires w s)
    { s with bridge := { s.bridge with ringWaits := s.bridge.ringWaits.filter (fun w => !due w) } })

end Sys2Proof.Machine
end

