-- ==== Sys2Proof/Machine/MbxOps.lean ====
section
/-!
DEFINITION. The service of the mailboxes: checks of a request, its answer, the journal, deferred commands, notices (R524 to R546, R555 to R563).
-/
namespace Sys2Proof.Machine

/-! ### Answers -/

/-- What a command answers: at once, when its commit is armed, or after ACCEPTED. -/
inductive Answer where
  | done (status : Nat) (payload : Rec)
  | stage (x : SetItem) (extra : Rec)
  | defer (progress : Rec)
  /-- ACCEPTED and the final status together. -/
  | both (status : Nat) (payload : Rec)
deriving DecidableEq, Repr

abbrev Reply := Answer × State

def ok (s : State) : Reply := (.done 0 [], s)
def okWith (payload : Rec) (s : State) : Reply := (.done 0 payload, s)
/-- A refusal with the word of R559: RANGE, CONFLICT or TABLE_FULL at a message word. -/
def refuse (status word0 : Nat) (s : State) : Reply := (.done status [packW [(16, word0), (16, 0)]], s)
def rangeAt (n : Nat) (s : State) : Reply := refuse 2 n s
/-- A conflict with other state at message word n; 0 where no single field is at fault (R559). -/
def conflictAt (n : Nat) (s : State) : Reply := refuse 3 n s
def conflict (s : State) : Reply := conflictAt 0 s
def busy (s : State) : Reply := (.done 4 [], s)
def tableFull (s : State) : Reply := refuse 5 0 s
def locked (s : State) : Reply := (.done 6 [], s)
/-- A cryptographic refusal with its status of R404. -/
def keyRefused (st : Nat) (s : State) : Reply := (.done 14 [word st], s)
def stage (x : SetItem) (s : State) : Reply := (.stage x [], s)

/-- Whether a word has no bit set outside the given fields (R555). -/
def only (w : Word) (fields : List (Nat × Nat)) : Bool := fields.foldl (fun n f => n - bits w f.1 f.2 * 2 ^ f.2) w.toNat = 0

/-- Message word n of a request. -/
def mw (q : Req) (n : Nat) : Word := rw q.args (n - 4)
def mf (q : Req) (n hi lo : Nat) : Nat := bits (mw q n) hi lo

/-- The length of the payload and then each word's condition, in order; RANGE at the first that fails (R530, R555, R559). -/
def need (len : Nat) (q : Req) (l : List (Nat × Bool)) (s : State) (k : Reply) : Reply :=
  if q.args.length ≠ len then rangeAt 0 s
  else match l.find? (fun e => !e.2) with
    | some e => rangeAt e.1 s
    | none => k

/-! ### The command table -/

/-- How an opcode is served (R556, R557): permitted lifecycle states as a mask, whether it must carry the trailer in Field, or in every state, the version
that first assigns it, and the words of its fixed part when it is marked S. -/
structure OpRule where
  states : Nat := 15
  authField : Bool := false
  authAll : Bool := false
  since : Nat := 0x10
  bulk : Option Nat := none
deriving DecidableEq, Repr

/-- The number of opcodes of a family that are assigned, counted from 1 (R564 to R578). -/
def familySize : Nat → Nat
  | 1 => 0x0F
  | 2 => 9
  | 3 => 7
  | 4 => 0x0D
  | 5 => 0x10
  | 6 => 0x13
  | 7 => 8
  | 8 => 6
  | 10 => 3
  | 11 => 0x0B
  | 12 => 5
  | 13 => 7
  | 14 => 6
  | _ => 0

def opAssigned (op : Nat) : Bool :=
  let n := op % 256
  (1 ≤ n && n ≤ familySize (op / 256)) || op = 0x0910 || (0x0901 ≤ op && op ≤ 0x0906)

def opRule (op : Nat) : Option OpRule :=
  if !opAssigned op then none
  else some <| match op with
    | 0x0101 | 0x050C | 0x0B09 => { authField := true }
    | 0x0B04 => { authField := true, bulk := some 0 }
    | 0x0207 | 0x0C03 | 0x0D04 | 0x0D07 => { authAll := true }
    | 0x0209 => { since := 0x20 }
    | 0x0508 => { since := 0x21 }
    | 0x0706 | 0x0E04 => { since := 0x23 }
    | 0x0B0A => { since := 0x22 }
    | 0x0302 => { bulk := some 5 }
    | 0x0407 | 0x0606 => { bulk := some 2 }
    | 0x0D02 => { bulk := some 1 }
    | 0x0D05 => { bulk := some 0 }
    | 0x0805 => { states := 1 }
    | _ => {}

/-- The opcodes that Safelight serves (R621). -/
def safelightServes (op : Nat) : Bool := op = 0x0D01 || op = 0x0D02 || op = 0x0D03 || op = 0x0D06 || op = 0x0B01 || op = 0x0B08

/-- Whether Safelight does not serve a mailbox: any but mailbox 0, and an in-band one (R621). -/
def safelightShut (s : State) (m : Nat) : Bool := s.sys.fw.boot = .safelight && (m ≠ 0 || regBit s (rIB_CFG m) 31)

/-- The bulk part of a request and its bytes: after n fixed words inline, or in the staging part by a descriptor (R557, R558). -/
def bulkOf (n : Nat) (q : Req) (s : State) : Option (Rec × Nat) :=
  if q.staged then
    let d := rw q.args n
    let off := bits d 31 16
    let len := bits d 15 0
    if q.args.length ≠ n + 1 || off % 4 ≠ 0 || len < 4 || 16384 < off + len then none
    else some (memWords s (0xE0000 + 0x4000 * q.mbx + off) ((len + 3) / 4), len)
  else if q.args.length < n then none
  else some (q.args.drop n, 4 * (q.args.length - n))

/-- The word that a bulk part at fault answers: that of its descriptor, or 0 where the length is wrong (R557, R559). -/
def bulkWord (n : Nat) (q : Req) : Nat := if q.staged && q.args.length = n + 1 then 4 + n else 0

/-! ### Posting -/

/-- The firmware serves mailboxes: the core runs, its start is complete, and no takeover, reload or activation pause is under way (R16, R538, R608, R638). -/
def serves (s : State) : Bool :=
  coreOn s && (s.sys.fw.boot = .served || s.sys.fw.boot = .safelight) && s.sys.core.takeover.isNone && !s.sys.core.reload && !s.sys.fw.paused && !fwdOff s

/-- The words of a message of the firmware (R529). -/
def message (s : State) (type opcode : Nat) (seq : Word) (maj min : Nat) (final replay : Bool) (status : Nat) (payload : Rec) : Rec :=
  [packW [(4, type), (12, 4 + payload.length), (16, opcode)], seq,
   packW [(4, maj), (4, min), (2, 0), (1, b2n final), (1, b2n replay), (4, 0), (16, status)], word s.time.now] ++ payload

/-- A mailbox record enters the Contact Sheet (R453). -/
def mbxRecord (m : Nat) (resp : Bool) (opcode status : Nat) (seq : Word) (s : State) : State :=
  csPush 0x07 [pack64 [(3, m), (1, b2n resp), (16, opcode), (8, status), (4, 0), (32, seq.toNat)]] s

/-- The in-band frame of a mailbox that carries a message under a freshness value, but for its CMAC and FCS: its head and its payload (R497, R500). -/
def inbandHead (s : State) (x : Inband) : Bytes :=
  beBytes x.replySa 6 ++ beBytes s.gw.addr 6 ++ (if x.replyVid = 0 then [] else beBytes (0x8100 * 65536 + x.replyVid) 4) ++ beBytes 0x88B6 2
def inbandBody (m fresh : Nat) (ws : Rec) : Bytes := recBytes ([packW [(8, 1), (3, m), (1, 1), (4, 0), (16, 4 * ws.length)]] ++ split64 fresh ++ [0] ++ ws)

/-- What waits in the response ring of an in-band mailbox leaves, a message to a frame, towards the ports that the reply address has in its VID; a
message longer than a frame holds, and one that no key protects, stays (R498, R500). -/
def inbandSend (m : Nat) : Nat → State → State
  | 0, s => s
  | n + 1, s =>
    let r := ringOf s (.rsp m)
    let slot := regFld s (rIB_CFG m) 30 23
    match r.ends with
    | [] => s
    | e :: _ =>
      let ws := ringWords s (.rsp m) r.cons (ringDiff (.rsp m) e r.cons)
      let x := tget {} s.bridge.inband m
      let body := inbandBody m (x.txFresh + 1) ws
      let b := withFcs (inbandHead s x ++ body ++ cmac (slotAt s slot).key body)
      let vid := if x.replyVid = 0 then fld (bridgeOf s 29) 0 26 15 else x.replyVid
      let r := requestNow { requester := 3, op := .cmac, slot := slot } s
      if !regBit s (rIB_CFG m) 31 || 350 < ws.length then s
      else if !r.1 then r.2
      else
        let s1 := { r.2 with bridge := { r.2.bridge with inband := tset {} r.2.bridge.inband m { x with txFresh := x.txFresh + 1 } } }
        let dest := match lookupSet s vid (parse b) with | some (l, _) => maskFrom l | none => 0
        inbandSend m n (injectFrame { port := 29, bytes := b, directed := some dest } (ringConsume (.rsp m) e s1))

/-- A message enters the response ring of a mailbox. -/
def landMessage (m : Nat) (ws : Rec) (s : State) : State :=
  let s1 := ringPush (.rsp m) ws s
  inbandSend m (ringOf s1 (.rsp m)).ends.length s1

/-- A message for a ring waits for a line, for 20 µs at most (R477, R482). -/
def ringQueued (o : Origin) (id : RingId) (ws : Rec) (s : State) : State :=
  giveWayTo (s.time.now + 20000) .readsEnd { s with bridge := { s.bridge with ringWaits := s.bridge.ringWaits ++ [⟨s.time.now, o, id, ws⟩] } }

/-- The control core posts a message, or waits with it before a line that the SPI port holds, in order (R482, R485). -/
def postMessage (m : Nat) (ws : Rec) (s : State) : State :=
  if s.bridge.ringWaits.any (fun w => w.ring = .rsp m) || ringLocked s .core (.rsp m) (ringOf s (.rsp m)).prod ws.length then ringQueued .core (.rsp m) ws s
  else landMessage m ws s

/-- A response is posted (R529, R533). -/
def respond (m opcode : Nat) (seq : Word) (maj min : Nat) (final replay : Bool) (status : Nat) (payload : Rec) (s : State) : State :=
  mbxRecord m true opcode status seq (postMessage m (message s 2 opcode seq maj min final replay status payload) s)

/-- The version that the device's messages on a mailbox carry: the negotiated one, 1.0 before any (log entry 32). -/
def versionOf (s : State) (m : Nat) : Nat × Nat :=
  let b := boxOf s m
  if b.verMaj = 0 && b.verMin = 0 then (1, 0) else (b.verMaj, b.verMin)

/-- The response to a request. -/
def answer (opcode : Nat) (q : Req) (final : Bool) (status : Nat) (payload : Rec) (s : State) : State :=
  let v := versionOf s q.mbx
  respond q.mbx opcode q.seq v.1 v.2 final false status payload s

/-- The journal takes the status of a command (R537); Safelight keeps none (R621). -/
def journal (m : Nat) (seq : Word) (status : Nat) (s : State) : State :=
  let b := boxOf s m
  if s.sys.fw.boot = .safelight then s else setBox m { b with statuses := ((seq, status) :: b.statuses.filter (fun e => e.1 ≠ seq)).take 256 } s

/-- A command is accepted: journal and MBX.ACKm (R533). -/
def acceptReq (opcode : Nat) (q : Req) (status : Nat) (s : State) : State :=
  let s1 := journal q.mbx q.seq status s
  validateEmpty (mbxRecord q.mbx false opcode 0 q.seq (setBox q.mbx { boxOf s1 q.mbx with ack := q.seq } s1))

/-! ### Authentication -/

/-- Words of a request up to its CMAC (R529, R545). -/
def signedWords (opcode : Nat) (q : Req) (a : AuthTrailer) : Rec :=
  [packW [(4, 1), (12, 4 + q.args.length + 6), (16, opcode)], q.seq,
   packW [(4, q.verMaj), (4, q.verMin), (1, 1), (1, b2n q.clear), (1, 0), (1, b2n q.replay), (1, b2n q.staged), (19, 0)], q.ident] ++ q.args ++ split64 a.counter

/-- Whether a trailer authenticates its request (R545). -/
def authentic (opcode : Nat) (q : Req) (a : AuthTrailer) (s : State) : Bool :=
  startStatus s { requester := 3, op := .cmac, slot := s.mbx.authSlot } = 0 && decide (s.mbx.authCount < a.counter)
    && decide (cmac (slotAt s s.mbx.authSlot).key (recBytes (signedWords opcode q a)) = recBytes a.mac)

/-! ### Service of one request -/

/-- Whether a request needs the bulk engine: it is authenticated, or a KEY or CRYPT command that uses a key or a unit (R401). -/
def needsEngine (opcode : Nat) (q : Req) : Bool := q.auth.isSome || [0x0802, 0x0803, 0x0804, 0x0910].contains opcode

/-- Whether a request waits in its ring for the known-answer tests of a start, before which the engine serves no other requester (R420). -/
def testsWait (opcode : Nat) (q : Req) (s : State) : Bool := needsEngine opcode q && s.ciph.test2At = 0

/-- The answer of a command takes effect on its mailbox (R533, R534, R538). -/
def conclude (opcode : Nat) (q : Req) (a : Answer) (s : State) : State :=
  match a with
  | .done st p => answer opcode q true st p (journal q.mbx q.seq st s)
  | .stage x extra => { s with beat := { s.beat with staged := s.beat.staged ++ [⟨x, q.mbx, opcode, q.seq, q.verMaj, q.verMin, extra, false⟩] } }
  | .both st p => answer opcode q true st p (journal q.mbx q.seq st (answer opcode q false 1 [] s))
  | .defer progress =>
    let s1 := answer opcode q false 1 [] (journal q.mbx q.seq 1 s)
    setBox q.mbx { boxOf s1 q.mbx with deferred := some ⟨opcode, q.seq, q.args, progress⟩ } s1

/-- The command of an accepted request is executed, or refused (R532, R542, R545, R556, R557, R621). -/
def execute (opcode : Nat) (h : Req → State → Reply) (q : Req) (s : State) : Reply :=
  let life := s.sys.fw.lifecycle
  match opRule opcode with
  | none => (.done 8 [], s)
  | some r =>
    if s.sys.fw.boot = .safelight && !safelightServes opcode then locked s
    else if q.verMaj * 16 + q.verMin < r.since then (.done 8 [], s)
    else if !r.states.testBit life then locked s
    else
      let forged := match q.auth with
        | some a => !authentic opcode q a s
        | none => r.authAll || (r.authField && life = 2)
      if q.auth.isSome && !bulkRoom s 3 then busy (cipherEvent 6 0 s)
      else if forged then (.done 13 [], s)
      else
        let s1 := match q.auth with | some a => { s with mbx := { s.mbx with authCount := a.counter } } | none => s
        if q.staged && r.bulk.isNone then rangeAt 2 s1
        else h q s1

/-- Whether a command is a bypass command that BYPASS_LOCK refuses, before anything else does (R297). -/
def bypassLocked (opcode : Nat) (s : State) : Bool := decide (opcode = 0x050C) && regBit s rFW_STAT 31

/-- A request of a mailbox is taken (R526, R533, R535, R536, R538, R539, R542). -/
def serve (opcode : Nat) (h : Req → State → Reply) (q : Req) (s : State) : State :=
  let b := boxOf s q.mbx
  if 8 ≤ q.mbx || !serves s || b.deferred.isSome || b.state = 2 || ringFree s (.rsp q.mbx) < 2048 || testsWait opcode q s then s
  else if safelightShut s q.mbx then s
  else if b.state = 0 then answer opcode q true 10 [] s
  else if (q.verMaj, q.verMin) ≠ (b.verMaj, b.verMin) then answer opcode q true 9 [] s
  else
    let d := signed 32 (q.seq - b.ack).toNat
    if d ≤ 0 then
      let st := match b.statuses.find? (fun e => e.1 = q.seq) with | some e => e.2 | none => 0xFFFF
      count (rMBX q.mbx 0x10) 15 0 (respond q.mbx opcode q.seq q.verMaj q.verMin true true 12 [word st] s)
    else if 1 < d then answer opcode q true 11 [] s
    else
      let s1 := acceptReq opcode q 0 s
      let r := if bypassLocked opcode s then locked (fwEvent 7 0 s1) else execute opcode h q s1
      conclude opcode q r.1 r.2

/-! ### Deferred commands -/

/-- The deferred command of a mailbox ends: its final response, and its status in the journal (R537, R538). -/
def finishDeferred (m status : Nat) (payload : Rec) (s : State) : State :=
  let b := boxOf s m
  match b.deferred with
  | none => s
  | some d =>
    let s1 := journal m d.seq status (setBox m { b with deferred := none } s)
    respond m d.opcode d.seq (versionOf s m).1 (versionOf s m).2 true false status payload s1

/-- Whether a command with an opcode is in flight on some mailbox. -/
def inFlight (s : State) (op : Nat → Bool) : Bool := s.mbx.box.any (fun e => match e.2.deferred with | some d => op d.opcode | none => false)

/-- The mailbox on which it is. -/
def flightOf (s : State) (op : Nat → Bool) : Option Nat :=
  (s.mbx.box.find? (fun e => match e.2.deferred with | some d => op d.opcode | none => false)).map (·.1)

/-- A fuse write is in flight: pair bind, commit or lifecycle (R538). -/
def fuseBusy (s : State) : Bool := inFlight s (fun op => op = 0x0C03 || op = 0x0D04 || op = 0x0D07)

/-! ### HELLO -/

/-- The versions that the running image accepts, as DV_LO and DV_HI; in Safelight 1.0 alone (R540, R604, R621). -/
def devVersions (s : State) : Nat × Nat :=
  if s.sys.fw.boot = .safelight then (0x10, 0x10) else if s.sys.fw.img = [] then (0x10, 0x23) else (fld s.sys.fw.img 4 31 24, fld s.sys.fw.img 4 23 16)

/-- The release of the running image: 4.2 where no header says another. -/
def release (s : State) : Nat × Nat :=
  if s.sys.fw.boot = .safelight then (0, 0) else if s.sys.fw.img = [] then (4, 2) else (fld s.sys.fw.img 1 31 16, fld s.sys.fw.img 1 15 0)

/-- HELLO (R540, R541). -/
def helloServe (q : Req) (s : State) : State :=
  let b := boxOf s q.mbx
  let lo := mf q 4 31 24
  let hi := mf q 4 23 16
  let dv := devVersions s
  let v := min hi dv.2
  let dev := fun (resumed lost : Bool) (ver ack : Nat) =>
    ([packW [(8, ver), (8, dv.1), (8, dv.2), (1, b2n lost), (1, b2n resumed), (6, 0)], word ack,
      packW [(16, (release s).1), (16, (release s).2)], packW [(16, s.time.epoch), (16, s.sys.fw.lifecycle)]] : Rec)
  let say := fun (st : Nat) (p : Rec) (s : State) => respond q.mbx 0x0100 q.seq 1 0 true false st p s
  if 8 ≤ q.mbx || !serves s || ringFree s (.rsp q.mbx) < 2048 || safelightShut s q.mbx || b.state = 2 then s
  else if b.deferred.isSome then say 4 (dev (b.state = 1) false 0 b.ack.toNat) s
  else if q.args.length ≠ 1 || mf q 4 15 0 ≠ 0 then say 2 (dev (b.state = 1) false 0 b.ack.toNat) s
  else if v < lo || v < dv.1 then say 9 (dev (b.state = 1) false 0 b.ack.toNat) s
  else
    let b1 := { b with state := 1, verMaj := v / 16, verMin := v % 16, ack := if b.state = 0 then q.seq - 1 else b.ack, journalLost := false }
    say 0 (dev (b.state = 1) b.journalLost v b1.ack.toNat) (setBox q.mbx b1 s)

/-! ### Notices -/

/-- The firmware posts the notice that has waited longest, when room allows (R546). -/
def postNotice (s : State) : State :=
  let m := s.mbx.noticeMbx
  let b := boxOf s m
  match s.mbx.notices with
  | [] => s
  | n :: r =>
    let v := versionOf s m
    let ws := message s 3 n.opcode (word b.noticeSeq) v.1 v.2 true false 0 n.payload
    if !serves s || ringFree s (.rsp m) < ws.length then s
    else
      let s1 := { s with mbx := { s.mbx with notices := r } }
      postMessage m ws (setBox m { boxOf s1 m with noticeSeq := (b.noticeSeq + 1) % 2 ^ 32 } s1)

/-! ### The arming of a commit (R28, R534, R596, R682) -/

/-- The identifier after one (R682). -/
def nextId (n : Nat) : Nat := if n = 0xFFFF then 1 else n + 1

/-- The snapshot that goes before an arming, into the copy that is not the newest (R596). -/
def snapshotTaken (id : Nat) (s : State) : State :=
  setCore (fun c => if c.newest = 0 then { c with copy1 := some id, newest := 1, snapId := id } else { c with copy0 := some id, newest := 0, snapId := id }) s

/-- Sets are armed as one commit, and each command that staged one is answered (R28, R534). -/
def armSets (l : List Staged) (s : State) : State :=
  if l = [] then s
  else
    let id := nextId s.beat.lastId
    let s1 := snapshotTaken id s
    let s2 := { s1 with
      beat := { s1.beat with lastId := id, armedId := id, armed := s1.beat.armed ++ [{ id := id, sets := l, at0 := s.time.now }] }
      fw := { s1.fw with swapPend := s1.fw.swapPend || l.any (fun x => x.set = .fwSwap) } }
    l.foldl (fun s x => if x.mute then s else respond x.mbx x.opcode x.seq x.verMaj x.verMin true false 0 (packW [(16, 0), (16, id)] :: x.extra) s) s2

/-- The sets that a finished list has staged, the first n of those staged, are armed (R28). -/
def armStaged (n : Nat) (s : State) : State := armSets (s.beat.staged.take n) { s with beat := { s.beat with staged := s.beat.staged.drop n } }

/-! ### The control complex stops and starts -/

/-- The firmware stops: no list runs, and staging commands that no commit has armed are to be staged again from the journal (R16, R537, R597, R638).
mute: the rings are cleared. -/
def controlStops (mute : Bool) (s : State) : State :=
  { s with
    beat := { s.beat with lists := false, listBusy := false, listLate := false, staged := [], again := [] }
    mbx := { s.mbx with box := tmap {} s.mbx.box (fun m b => { b with restage := (b.restage ++ unarmed s m).map (fun x => { x with mute := x.mute || mute }) }) } }

/-- The firmware serves again: it stages again what the journal holds, its first list is that of the Beat in progress (R29, R30, R537), and it chooses the
best master anew (R16). -/
def controlStarts (s0 : State) : State :=
  let s := runBmcaAll s0
  { s with
    beat := { s.beat with lists := true, listBusy := true, listLate := false, listStart := s.time.now, again := s.beat.again ++ s.mbx.box.flatMap (fun e => e.2.restage) }
    mbx := { s.mbx with box := tmap {} s.mbx.box (fun _ b => { b with restage := [] }) } }

end Sys2Proof.Machine
end

