-- ==== Sys2Proof/Machine/PortOps.lean ====
section
/-!
DEFINITION. The link state of the external ports (chapter 4).
-/
namespace Sys2Proof.Machine

/-- Whether the SerDes reference of a port is present (R121, R122). -/
def refOk (s : State) (n : Nat) : Bool := if n < 4 then s.ports.refA else if n < 12 then s.ports.refB else true

/-- Whether a port is held DOWN because its coordinator role is not owned (R584). -/
def plcaHeld (s : State) (n : Nat) : Bool := isS n && plcaEn (portRec s n) && plcaCoord (portRec s n) && !owns s (32 + (n - 20))

/-- Whether a port may come up: enabled, in service, awake, with its reference, and owned. -/
def mayStart (s : State) (n : Nat) : Bool :=
  let v := portOf s n
  let st := (segOf s n).state
  n < 28 && prMode (portRec s n) ≠ 0 && v.st ≠ .outOfService && v.st ≠ .disabled && refOk s n && !plcaHeld s n && !v.cable && v.prbs.isNone
    && st ≠ 2 && st ≠ 3

/-- Whether the condition of R136 for UP holds: PLCA status or fallback on an S port, else the link condition, with an in-band word where it is used, and
compensation where enabled (R124, R139). -/
def upReady (s : State) (n : Nat) : Bool :=
  let v := portOf s n
  let r := portRec s n
  if isS n then v.plcaAct || plcaFallback r
  else v.cond && (!(inbandMode (prMode r) && prAn r) || v.anDone) && (!(n < 12 && prDlc r) || v.measured)

/-- PLCA status takes a value; a change raises its event (R144). Without PLCA status no opportunity is known. -/
def setPlca (n : Nat) (on : Bool) (s : State) : State :=
  let v := portOf s n
  if v.plcaAct = on then s
  else portEvent n 6 0 (setPort n { v with plcaAct := on, plca := if on then v.plca else none, beaconAt := if on then s.time.now else v.beaconAt } s)

/-- A port reaches UP (R136, R144, R378). -/
def goUp (n : Nat) (s : State) : State :=
  let s1 := setPort n { portOf s n with st := .up, lastChange := s.time.now, hold := none } s
  let s2 := timeLinkUp n (portEvent n 0 0 s1)
  if (segOf s2 n).state = 4 then segAwake n s2 else s2

/-- A port in DOWN or TRAINING goes as far as its condition lets it (R136). -/
def tryUp (n : Nat) (s : State) : State :=
  let v := portOf s n
  if !mayStart s n || v.st = .up then s
  else if upReady s n then goUp n s
  else if (v.cond || isT n) && v.st = .down then setPort n { v with st := .training, lastChange := s.time.now } s
  else s

/-- The delay constants that the stamp unit of a port loads for its mode: the sealed ones, else the nominal ones with DLC_FAULT (R15, R133, R432). -/
def loadConstants (s : State) (n : Nat) (v : Port) : Port :=
  let m := prMode (portRec s n)
  match calEntry s n m with
  | some (i, e, lo, hi) => { v with sealed := true, inDelay := i, egDelay := e, dlcRange := some (lo, hi), dlcFault := false }
  | none => { v with sealed := false, inDelay := signed 32 (Config.nominalDelay n m false).toNat, egDelay := signed 32 (Config.nominalDelay n m true).toNat
                     dlcRange := none, dlcFault := true }

/-- The stamp unit of a port at its reset: constants are loaded anew where the port is enabled, and gone where it is disabled (R15, R133, R434, R634). -/
def takeConstants (s : State) (n : Nat) (v : Port) : Port :=
  if prMode (portRec s n) = 0 then { v with sealed := false, inDelay := 0, egDelay := 0, dlcRange := none, dlcFault := false }
  else loadConstants s n v

/-- An enabled port starts from DOWN (R15, R132, R133). -/
def enablePort (n : Nat) (s : State) : State :=
  let v := portOf s n
  let r := portRec s n
  let v1 := takeConstants s n { portFresh r v with mergeAct := false, dlcOffset := 0, cond := false, hold := none }
  let st : LinkState := if prMode r = 0 then .disabled else .down
  let s1 := setPlca n false (setPort n { v1 with st := st, lastChange := if v.st = st then v.lastChange else s.time.now } s)
  if prMode r = 0 then s1 else tryUp n s1

/-- In-band status reports a new speed while the link is UP: the port goes DOWN, takes it, and comes UP again (R125). -/
def speedChanged (n speed : Nat) (s : State) : State :=
  let v := portOf s n
  let r := portRec s n
  if v.st = .up && inbandMode (prMode r) && prAn r && v.speed ≠ speed then
    let s1 := leaveUp n .down s
    tryUp n (portEvent n 2 0 (setPort n { portOf s1 n with speed := speed, anDone := true, cond := true } s1))
  else s

/-- A loss ends within LINK_HOLD (R137, R144). -/
def absorbed (n : Nat) (s : State) : State :=
  portEvent n 3 0 (setPort n { portOf s n with hold := none, flap := satAdd 16 (portOf s n).flap 1 } s)

/-- The link condition of a port holds (R124, R125, R136, R137); on an S port with PLCA, PLCA status is true. -/
def linkUp (n : Nat) (speed : Option Nat) (s : State) : State :=
  let v := portOf s n
  let r := portRec s n
  let an := inbandMode (prMode r) && prAn r && speed.isSome
  let sp := if an then speed.getD v.speed else v.speed
  if prMode r = 0 then s
  else if v.st = .up && sp ≠ v.speed then speedChanged n sp s
  else
    let s1 := setPort n { v with cond := true, anDone := v.anDone || an, speed := sp } s
    let s2 := if isS n && plcaEn r then setPlca n true s1 else s1
    let s3 := if sp ≠ v.speed then portEvent n 2 0 s2 else s2
    match v.st, v.hold with
    | .up, some _ => absorbed n s3
    | .up, none => s3
    | _, _ => tryUp n s3

/-- The link condition of a port is lost (R137); on an S port, PLCA status is false, which CSMA_FALLBACK survives (R129, R136). -/
def linkLost (n : Nat) (s : State) : State :=
  let v := portOf s n
  let s0 := setPort n { v with cond := false } s
  let s1 := if isS n then setPlca n false s0 else s0
  if isS n && upReady s1 n then s1
  else match v.st with
    | .up =>
      if prHold (portRec s n) = 0 then tryUp n (leaveUp n .down s1)
      else if v.hold.isSome then s1
      else setPort n { portOf s1 n with hold := some (s.time.now, prHold (portRec s n) * 1000000) } s1
    | .training => if isT n then s1 else portTo n .down s1
    | _ => s1

/-- A follower receives a valid BEACON: PLCA status is true again, which ends a loss, and the opportunities count from there (R127, R129, R137). -/
def beaconBack (n : Nat) (s : State) : State :=
  let r := portRec s n
  if isS n && plcaEn r && !plcaCoord r && prMode r ≠ 0 then
    let s1 := plcaStarts n s.time.now (linkUp n none s)
    setPort n { portOf s1 n with beaconAt := s.time.now } s1
  else s

/-- A transition of a port's link takes place. -/
def linkMove (n : Nat) (m : LinkMove) (s : State) : State :=
  match m with
  | .up speed => linkUp n speed s
  | .lost => linkLost n s
  | .speed code => speedChanged n code s
  | .beacon => beaconBack n s

/-- A transition is noted with the port as it stood before the first one of the cycle (R138). -/
def noteMove (n : Nat) (m : LinkMove) (s : State) : State :=
  let v : PortMove := match tget none s.ports.moved n with
    | some w => if w.at0 = s.time.now then { w with move := m } else ⟨s.time.now, m, portOf s n, portTimeOf s n⟩
    | none => ⟨s.time.now, m, portOf s n, portTimeOf s n⟩
  { s with ports := { s.ports with moved := tset none s.ports.moved n (some v) } }

/-- The transition of a port in this very cycle. -/
def movedNow (s : State) (n : Nat) : Option PortMove :=
  match tget none s.ports.moved n with
  | some w => if w.at0 = s.time.now then some w else none
  | none => none

/-- The transition of this cycle is discarded: the port stands as before it, and its events are not raised (R138). The frames that it has discarded stay
discarded (the model's choice, log entry 114). -/
def undoMove (n : Nat) (s : State) : State :=
  match movedNow s n with
  | some w =>
    let s1 := setPort n w.before (unraise (fun src => 8 * n ≤ src && src < 8 * n + 8) s)
    if w.before.st = .up then s1 else setPortTime n w.peer s1
  | none => s

/-- A port that stays UP after all is as asCapable as it was. -/
def staysUp (n : Nat) (s : State) : State :=
  match movedNow s n with
  | some w => if (portOf s n).st = .up && n < 20 then judgeAsCapable n (setPortTime n { w.peer with asCap := (portTimeOf s n).asCap } s) else s
  | none => s

/-- Whether a hold of the port has ended in this very cycle and taken it DOWN; a link condition met in that cycle leaves it UP (R138). -/
def holdEndsNow (s : State) (n : Nat) : Bool :=
  match movedNow s n with
  | some w => w.before.st = .up && (portOf s n).st ≠ .up && (match w.before.hold with | some (st, len) => st + len = s.time.now | none => false)
  | none => false

/-- A link transition of a port; in the cycle of a port command it counts from the next cycle (R138). -/
def transition (n : Nat) (m : LinkMove) (s : State) : State :=
  if 28 ≤ n then s
  else if (portOf s n).cmdAt = some s.time.now then linkMove n m (s.atTime (s.time.now + 1))
  else if m ≠ .lost && holdEndsNow s n then linkMove n m (staysUp n (undoMove n s))
  else linkMove n m (noteMove n m s)

/-- From the cycle after the command the port follows the link condition as that transition has left it (R138). -/
def redoMove (n : Nat) (s : State) : State :=
  match movedNow s n with
  | some w => linkMove n w.move (s.atTime (s.time.now + 1))
  | none => s

/-- A loss has lasted for LINK_HOLD (R137). -/
def holdExpired (n : Nat) (s : State) : State :=
  match (portOf s n).hold with
  | some (st, len) => if st + len ≤ s.time.now then tryUp n (leaveUp n .down (noteMove n .lost s)) else s
  | none => s

/-- The ports of a SerDes group: A 0 to 3, B 4 to 11. -/
def groupPorts (groupB : Bool) : List Nat := if groupB then [4, 5, 6, 7, 8, 9, 10, 11] else [0, 1, 2, 3]

/-- A SerDes reference is lost: the ports of its group go DOWN (R122). -/
def refLost (groupB : Bool) (s : State) : State :=
  let s1 := { s with ports := if groupB then { s.ports with refB := false } else { s.ports with refA := false } }
  (groupPorts groupB).foldl (fun s n =>
    let v := portOf s n
    let s2 := setPort n { v with cond := false } s
    match v.st with
    | .up => leaveUp n .down s2
    | .training => portEvent n 1 0 (portTo n .down s2)
    | _ => s2) s1

/-- The ports of a group start again after the loss of their reference, which is a reset of each: their constants are loaded anew (R15, R122, R634). -/
def reloadGroup (groupB : Bool) (s : State) : State := (groupPorts groupB).foldl (fun s n => setPort n (takeConstants s n (portOf s n)) s) s

/-- The alignment measurement of a lane lock completes: a position outside the range loaded is a fault (R139). -/
def dlcDone (n : Nat) (rxPos txPos offset : Int) (s : State) : State :=
  let v := portOf s n
  let r := portRec s n
  if !(n < 12 && prDlc r) || prMode r = 0 then s
  else
    let bad := match v.dlcRange with
      | some (lo, hi) => decide (rxPos < lo) || decide (hi < rxPos) || decide (txPos < lo) || decide (hi < txPos)
      | none => false
    let s1 := setPort n { v with measured := true, dlcOffset := offset, dlcFault := bad || !v.sealed } s
    tryUp n (if bad then portEvent n 7 0 s1 else s1)

/-- A coordinator sends a BEACON of 20 bit times at the start of a cycle, and the opportunity of node 0 follows (R127). -/
def beaconOut (n : Nat) (s : State) : State :=
  let r := portRec s n
  if isS n && plcaEn r && plcaCoord r && portUp s n && !plcaHeld s n && (portOf s n).loop = 0 && plcaCycleOver s n then
    plcaStarts n (s.time.now + 20 * plcaBit) (emit (.beacon s.time.now n) s)
  else s

/-- BEACON_LOSS of a port record, in ms. -/
def beaconLimit (r : Rec) : Nat := fld r 2 23 16

/-- A follower has missed the BEACON for BEACON_LOSS: PLCA status is false, and with CSMA_FALLBACK it stays UP; else the condition of R136 is lost, and it goes
DOWN under R137 (R129). -/
def beaconLost (n : Nat) (s : State) : State :=
  let v := portOf s n
  let r := portRec s n
  if isS n && plcaEn r && !plcaCoord r && v.plcaAct && v.beaconAt + beaconLimit r * 1000000 ≤ s.time.now then
    transition n .lost (setPort n { v with beaconMiss := satAdd 16 v.beaconMiss 1 } s)
  else s

/-- MAC merge verification succeeds (R225). -/
def mergeVerified (n : Nat) (s : State) : State :=
  if n < 20 && prMerge (portRec s n) && portUp s n then setPort n { portOf s n with mergeAct := true } s else s

/-- A T1 training attempt fails (R126). -/
def trainingFailed (n : Nat) (s : State) : State :=
  let v := portOf s n
  if isT n && v.st = .training then setPort n { v with trainFail := satAdd 16 v.trainFail 1 } s else s

/-- What the PCS or FEC meets is counted and raised (R143, R144). -/
def pcsError (n : Nat) (k : PcsErr) (s : State) : State :=
  let v := portOf s n
  match k with
  | .fecCorrected => setPort n { v with fecCorr := satAdd 32 v.fecCorr 1 } s
  | .fecUncorrectable => portEvent n 5 0 (setPort n { v with fecUncorr := satAdd 32 v.fecUncorr 1 } s)
  | .erroredBlock => setPort n { v with pcsErr := satAdd 32 v.pcsErr 1 } s
  | .localFault | .remoteFault | .highBer => portEvent n 4 0 s

end Sys2Proof.Machine
end

