-- ==== Sys2Proof/Machine/ApplyOps.lean ====
section
/-!
DEFINITION. What each set of a commit does at the Beat boundary that applies it (R23 to R27), and the state that the sets staged and armed would leave.
-/
namespace Sys2Proof.Machine

/-- The list of a port's admin bank becomes the pending list at the boundary of working time b (R208, R209). Two Beat lengths after b are counted in the
length before that boundary, where it changes the length too: the model's choice (log entry 112). -/
def applyGateSwap (p : Nat) (b : Int) (s : State) : State :=
  let e := egressOf s p
  let l := gateBank e.gates (1 - e.gates.force)
  let st := listStart l.base l.cycle b (beatLen s.beat.k)
  let s1 := setEgress p { e with gates := { e.gates with pending := some st.1, late := e.gates.late || st.2, pendLate := st.2, busy := true } } s
  if st.2 then schedEvent p 0 0x01 (schedCount p 2 s1) else s1

/-- The two firewall banks exchange roles (R277, R298, R302); a swap of another commit that is still armed stays pending. -/
def applyFwSwap (s : State) : State :=
  let more := s.beat.armed.any (fun c => c.sets.any (fun x => x.set = .fwSwap))
  fwEvent 0 0 (count rFW_STAT 15 0 { s with fw := { s.fw with bank := 1 - s.fw.bank, swapPend := more } })

/-- A stream gate record: its list becomes pending (R246, R249); a record with VALID clear takes the gate out of use. -/
def applyGate (i : Nat) (r : Rec) (b : Int) (s : State) : State :=
  let g := sgateOf s i
  if !flag r 0 31 then setSgate i { g with rec0 := r, force := none, pending := none, busy := false, prev := g.force, since := s.time.now } s
  else
    let st := listStart (ofFull (r.drop 1)) (rw r 4).toNat b (beatLen s.beat.k)
    let l : StreamList := ⟨flag r 0 30, if flag r 0 29 then some (fld r 0 28 26) else none, fld r 0 23 11, fld r 0 10 0, (rw r 4).toNat, st.1⟩
    let g1 := { g with rec0 := r, force := if flag g.rec0 0 31 then g.force else none, pending := some l, busy := true
                       lateStart := if st.2 then satAdd 32 g.lateStart 1 else g.lateStart }
    if st.2 then streamEvent 0x01 i (setSgate i g1 s) else setSgate i g1 s

/-- A recovery record, and whether the function starts anew (R264). -/
def applyRecovery (i : Nat) (r : Rec) (s : State) : State :=
  let f := rcvOf s i
  let fresh := (flag r 0 31 && !flag f.rec0 0 31) || flag r 0 25 || flag r 0 30 != flag f.rec0 0 30 || rvHistory r ≠ rvHistory f.rec0
  setRcv i (if fresh then
      { f with rec0 := r, takeAny := true, hist := 0, passedP := 0, dupD := 0, testAt := s.time.now, resetAt := s.time.now }
    else { f with rec0 := r, testAt := if flag f.rec0 0 26 then f.testAt else s.time.now, resetAt := if flag f.rec0 0 26 then f.resetAt else s.time.now }) s

/-- A LIN selection waits for its first cycle start (R325). -/
def applyLinSelect (bus : Nat) (t : Option Nat) (b : Int) (s : State) : State :=
  let l := linOf s bus
  giveWay (.linSelect bus) (setLin bus { l with pend := some t, pendAt := match t with | some tb => linStartFrom s (linHeadOf l tb) b | none => b, pendLt := s.time.now } s)

/-- A segment record: running timers run to their new length (R368, R370); a segment no longer managed does not sleep. -/
def applySegment (i : Nat) (r : Rec) (s : State) : State :=
  let g := segOf s i
  let g1 := { g with rec0 := r }
  let ended := match g.timer with | some a => decide (a + segReady g1 ≤ s.time.now) | none => false
  let s1 := setSeg i { g1 with timer := if ended then none else g.timer, prep := g.prep.map (fun e => e - segPrep g + segPrep g1) } s
  let s2 := { s1 with nm := { s1.nm with cluster := tmap none s1.nm.cluster (fun _ c =>
    match c with | some (a, k) => if k = i && a + segReady g1 ≤ s.time.now then none else c | none => none) } }
  let s3 := if segManaged g1 then s2
    else match g.state with
      | 1 => segTo i 0 (setSeg i { segOf s2 i with prep := none, commit := false, gts := 0 } s2)
      | 2 => setSeg i { segOf s2 i with latch := some (g.latch.getD (2, 0)) } s2
      | 3 => startWaking i 2 0 s2
      | _ => s2
  firstKeepAlives (segCheckAll s3)

/-- A port enters or leaves OUT_OF_SERVICE (R134, R654); the service command resets the port, which loads its constants anew (R15, R634). -/
def applyService (p : Nat) (enter : Bool) (s : State) : State :=
  let v := portOf s p
  if enter then portTo p .outOfService s
  else if v.st ≠ .outOfService then s
  else if prMode (portRec s p) = 0 then setPort p { v with st := .disabled, lastChange := s.time.now } s
  else tryUp p (setPort p (takeConstants s p { portFresh (portRec s p) v with st := .down, lastChange := s.time.now }) s)

/-- A set applied at the boundary of working time b (R23). -/
def applySet (b : Int) (x : SetItem) (s : State) : State :=
  match x with
  | .gateSwap p => applyGateSwap p b s
  | .fwSwap => applyFwSwap s
  | .meter m r => setMeter m { meterOf s m with released := some (s.time.now, r) } s
  | .shaper p c r => setShaper p c { shaperOf s p c with released := some (s.time.now, r) } s
  | .portSched p r => setEgress p { egressOf s p with schedReleased := some (s.time.now, r) } s
  | .bridgePort p r => { s with fwd := { s.fwd with bridge := tset [] s.fwd.bridge p r } }
  | .vlan v r => { s with fwd := { s.fwd with vlan := tset [] s.fwd.vlan v r } }
  | .mac r => macApply r s
  | .mirror i r => { s with fwd := { s.fwd with mirror := tset [] s.fwd.mirror i r } }
  | .ipProfile i v => { s with fwd := { s.fwd with ipProfile := tset 0 s.fwd.ipProfile i (0x7F - v) } }
  | .streamId k r => { s with fwd := { s.fwd with ident := tset [] s.fwd.ident k r } }
  | .handle h r => { s with fwd := { s.fwd with handle := tset [] s.fwd.handle h r } }
  | .filter i r => setFilter i { filterOf s i with rec0 := r } s
  | .gate i r => applyGate i r b s
  | .generation i r =>
    let g := genOf s i
    setGen i { g with rec0 := r, seq := if flag r 0 30 || (flag r 0 31 && !flag g.rec0 0 31) then fld r 0 15 0 else g.seq } s
  | .recovery i r => applyRecovery i r s
  | .linSelect bus t => applyLinSelect bus t b s
  | .route i r => { s with gw := { s.gw with route := tset [] s.gw.route i (if flag r 0 31 then r else []) } }
  | .tunnel i r => setTunnel i { tunnelOf s i with rec0 := r, seq := if flag r 0 31 && !flag (tunnelOf s i).rec0 0 31 then 0 else (tunnelOf s i).seq } s
  | .rxTunnel i r =>
    setRxTunnel i { rxTunnelOf s i with rec0 := r, last := if flag r 0 31 && !flag (rxTunnelOf s i).rec0 0 31 then none else (rxTunnelOf s i).last } s
  | .auth e r => { s with gw := { s.gw with auth := tset [] s.gw.auth e r } }
  | .segment i r => applySegment i r s
  | .service p enter => applyService p enter s

/-- Every set that waits, in the order in which it will be applied. -/
def waitingSets (s : State) : List SetItem := (s.beat.armed.flatMap (fun c => c.sets.map (·.set))) ++ (s.beat.again ++ s.beat.staged).map (·.set)

/-- The state that all sets staged and armed would leave together (R243). -/
def projected (s : State) : State := (waitingSets s).foldl (fun s x => applySet (wtNow s) x s) s

/-- The same with one set more. -/
def projectedWith (x : SetItem) (s : State) : State := applySet (wtNow s) x (projected s)

/-- The record that a meter has once its set is in force. -/
def meterRec (s : State) (i : Nat) : Rec := ((meterOf s i).released.map (·.2)).getD (meterOf s i).rec0

/-- Whether a state keeps the references of R243. -/
def streamRefs (s : State) : Bool :=
  s.fwd.handle.all (fun e =>
    let r := e.2
    !flag r 0 31 || ((!flag r 0 26 || flag (filterOf s (fld r 0 25 14)).rec0 0 31) && (!flag r 1 31 || flag (genOf s (fld r 1 30 21)).rec0 0 31)
      && (!flag r 1 20 || flag (rcvOf s (fld r 1 19 10)).rec0 0 31)))
  && s.str.filter.all (fun e =>
    let r := e.2.rec0
    !flag r 0 31 || ((!fiGateEn r || flag (sgateOf s (fiGate r)).rec0 0 31) && (!fiMeterEn r || flag (meterRec s (fiMeter r)) 0 31)))

/-- Whether a state keeps the references of R330. -/
def routeRefs (s : State) : Bool :=
  s.gw.route.all (fun e =>
    let r := e.2
    !flag r 0 31 || ((!flag r 3 31 || flag (tunnelOf s (fld r 3 30 23)).rec0 0 31) && (!flag r 3 17 || flag (authRec s (fld r 3 16 7)) 0 31)
      && (!flag r 5 31 || flag (authRec s (fld r 5 30 21)) 0 31)))

end Sys2Proof.Machine
end

