-- ==== Sys2Proof/Machine/PairOps.lean ====
section
/-!
DEFINITION. Redundant pairs: partner messages, ownership objects gained and given up, checkpoints, takeover, release (R580 to R594).
-/
namespace Sys2Proof.Machine
open Sys2Proof

def setPair (p : Pair) (s : State) : State := { s with pair := p }
def objOf (s : State) (o : Nat) : PairObj := tget {} s.pair.obj o
def setObj (o : Nat) (x : PairObj) (s : State) : State := setPair { s.pair with obj := tset {} s.pair.obj o x } s

/-- Whether this device is role B, and whether it owns an object while it is paired. -/
def roleB (s : State) : Bool := match s.pair.bound with | some b => b.1 | none => false
def ownsAny (s : State) : Bool := s.pair.obj.any (fun e => e.2.owned)

/-- The number of an object by the KIND and index of the pair-object command (R577, R584). -/
def objNumber (kind index : Nat) : Option Nat :=
  match kind with
  | 0 => if index < 24 then some index else none
  | 1 => if index < 8 then some (24 + index) else none
  | 2 => if index < 8 then some (32 + index) else none
  | _ => none

/-- KIND and index of an object (R601). -/
def objKind (o : Nat) : Nat × Nat := if o < 24 then (0, o) else if o < 32 then (1, o - 24) else (2, o - 32)

/-- A pair ownership event (R601). -/
def pairEvent (cause : Nat) (o : Option Nat) (s : State) : State :=
  let k := match o with | some o => objKind o | none => (0, 0)
  systemEventD 13 cause (pack [(2, k.1), (5, k.2), (25, 0), (32, match s.pair.ckpt with | some c => c.1 | none => 0)]) s

/-! ### Partner messages -/

/-- A message to the partner, its CMAC a request of requester 4 (R401, R582). extra: an object that a claiming token lists as well (R589). The MAC inserts it
behind the frame on the line, ahead of every queue (R582; log entry 73). -/
def pairSend (type : Nat) (body : Rec) (extra : List Nat) (s : State) : State :=
  let p := s.pair
  let own := (p.obj.filter (fun e => e.2.owned)).map (·.1) ++ extra
  let head : Rec :=
    [packW [(8, 2), (4, type), (4, 0), (16, 4 * body.length)], word p.txSeq] ++ split64 Config.uid.toNat
      ++ [packW [(1, b2n (roleB s)), (15, 0), (16, s.time.epoch)], word (maskFrom (own.filter (· < 32))),
          packW [(23, 0), (1, b2n p.ilOwned), (8, maskFrom ((own.filter (32 ≤ ·)).map (· - 32)))]]
  let msg := head ++ body
  let r := requestNow { requester := 4, op := .cmac, slot := 255 } s
  if !portUp s p.port then s
  else if !r.1 then r.2
  else
    let e := egressOf r.2 p.port
    let start := max s.time.now e.free
    emit (.partner start (msg ++ bytesRec (cmac (slotSeen s 255).key (recBytes msg))))
      (setEgress p.port { e with free := start + lineTime s p.port (max 64 (34 + 4 * msg.length) + 20) } (setPair { p with txSeq := (p.txSeq + 1) % 2 ^ 32 } r.2))

/-- Whether a message of a type is to be accepted (R582, R583). -/
def pairValid (type : Nat) (m : Rec) (s : State) : Bool :=
  let len := fld m 0 15 0
  let body := m.dropLast.dropLast.dropLast.dropLast
  match s.pair.bound with
  | none => false
  | some (b, uid) =>
    fld m 0 31 24 = 2 && fld m 0 23 20 = type && fld m 0 19 16 = 0 && len ≤ 1400 && len % 4 = 0 && m.length = 11 + len / 4
      && cat64 (rw m 2) (rw m 3) = uid && flag m 4 31 != b && fld m 4 30 16 = 0 && fld m 6 31 9 = 0
      && (requestNow { requester := 4, op := .cmac, slot := 255 } s).1 && recBytes (m.drop (m.length - 4)) = cmac (slotSeen s 255).key (recBytes body)
      && (match s.pair.lastSeq with
          | some (e, n) => decide (e < fld m 4 15 0) || (decide (e = fld m 4 15 0) && decide (n < (rw m 1).toNat))
          | none => true)

/-- The objects that a message lists (R582); the interlock group stands for its objects here. -/
def listed (m : Rec) (s : State) : List Nat :=
  let own := maskBits (rw m 5).toNat 32 ++ (maskBits (fld m 6 7 0) 8).map (32 + ·)
  if flag m 6 8 then own ++ (s.pair.obj.filter (fun e => e.2.interlock && !own.contains e.1)).map (·.1) else own

/-- The body of a message. -/
def msgBody (m : Rec) : Rec := (m.drop 7).take (fld m 0 15 0 / 4)

/-! ### Giving up objects -/

/-- A bus or segment is no longer served by this device (R584). -/
def stopsServing (o : Nat) (s : State) : State :=
  if o < 24 then discardWaiting o 0x04 s
  else if o < 32 then s
  else
    let p := o - 12
    if !(plcaEn (portRec s p) && plcaCoord (portRec s p)) then s
    else
      let s1 := setPort p { portOf s p with cond := false, plcaAct := false, plca := none } (if (portOf s p).plcaAct then portEvent p 6 0 s else s)
      match (portOf s p).st with
      | .up => leaveUp p .down s1
      | .training => portTo p .down s1
      | _ => s1

/-- An object is given up. -/
def dropObj (o : Nat) (s : State) : State :=
  let x := objOf s o
  if !x.owned then s else stopsServing o (setObj o { x with owned := false, lease := none, claim := none, waitFrom := s.time.now } s)

/-- The objects of the interlock group. -/
def group (s : State) : List Nat := (List.range 40).filter (fun o => (objOf s o).interlock)

/-- The interlock group is given up (R586). -/
def dropGroup (s : State) : State :=
  (group s).foldl (fun s o => dropObj o s) (setPair { s.pair with ownOut := false, ilOwned := false, ilClaim := none } s)

/-- An object of either guard is given up. -/
def relinquish (o : Nat) (s : State) : State := if (objOf s o).interlock then dropGroup s else dropObj o s

/-! ### Checkpoints (R591; the order of the words is log entry 20) -/

/-- Remaining milliseconds of a need timer of a segment. -/
def remainder (s : State) (start : Option Nat) (i : Nat) : Nat :=
  match start with | some a => (a + segReady (segOf s i) - s.time.now) / 1000000 | none => 0

/-- The NM words of a checkpoint. -/
def nmWords (s : State) : Rec :=
  let host := fun (c : Bool) => split64 (maskFrom ((s.nm.host.filter (fun h => decide (h.1 = c))).map (·.2.1)))
  let ws := (List.range 32).map (fun i => packW [(3, (segOf s (28 + i)).state), (29, remainder s (segOf s (28 + i)).timer (28 + i))])
    ++ (List.range 64).map (fun c => match tget none s.nm.cluster c with | some (a, i) => word (remainder s (some a) i) | none => 0)
    ++ host false ++ host true
  ws ++ List.replicate (256 - ws.length) 0

/-- The bytes of the publish buffers: LEN, and 8 bytes, by bus and FID. -/
def pubBytes (s : State) : Bytes :=
  (List.range 8).flatMap (fun b => (List.range 64).flatMap (fun f =>
    let d := (tget none (linOf s b).pub f).getD []
    BitVec.ofNat 8 d.length :: (d ++ List.replicate (8 - d.length) 0)))

/-- What a checkpoint holds. -/
def ckptWords (s : State) : Rec :=
  (List.range 1024).flatMap (fun e => split64 (tget 0 s.gw.fresh e))
    ++ (List.range 1024).map (fun g => packW [(16, (genOf s g).seq), (16, (genOf s g).seq + 65536 - tget 0 s.pair.genMark g)])
    ++ nmWords s ++ bytesRec (pubBytes s) ++ bytesRec ((List.range 256).map (fun i => BitVec.ofNat 8 (tunnelOf s i).seq))

/-- Places of the parts of a checkpoint in its words. -/
def ckFresh (w : Rec) (e : Nat) : Nat := cat64 (rw w (2 * e)) (rw w (2 * e + 1))
def ckGen (w : Rec) (g : Nat) : Nat × Nat := (fld w (2048 + g) 31 16, fld w (2048 + g) 15 0)
def ckSeg (w : Rec) (i : Nat) : Nat := fld w (3072 + i) 31 29
def ckPub (w : Rec) (b f : Nat) : Option Bytes :=
  let bs := recBytes ((w.drop (3328 + (b * 64 + f) * 9 / 4)).take 4)
  let at0 := (b * 64 + f) * 9 % 4
  let n := byteAt bs at0
  if n = 0 then none else some ((bs.drop (at0 + 1)).take n)

/-- The words cut into parts, with their indices. -/
def ckptParts (w : Rec) : List (Nat × Rec) := (List.range ((w.length + 347) / 348)).map (fun i => (i, (w.drop (348 * i)).take 348))

/-- A checkpoint is taken and sent (R591). -/
def sendCheckpoint (s : State) : State :=
  let parts := ckptParts (ckptWords s)
  let n := s.pair.ckptNext
  let s1 := parts.foldl (fun s p => pairSend 3 ([word n, packW [(16, p.1), (16, parts.length)]] ++ p.2) [] s) s
  setPair { s1.pair with ckptNext := (n + 1) % 2 ^ 32, ckptSent := some s.time.now, genMark := s.str.gen.foldl (fun m e => tset 0 m e.1 e.2.seq) [] } s1

/-! ### Gaining objects (R593) -/

/-- Authentication entries of the valid routes that name a bus: those that secure, or those that verify. -/
def routeEntries (s : State) (o : Nat) (out : Bool) : List Nat :=
  ((s.gw.route.filter (fun e => flag e.2 0 31 && flag e.2 (if out then 5 else 3) (if out then 31 else 17)
      && (decide (roSrc e.2 = o) || (rw e.2 2).toNat.testBit o))).map (fun e => if out then fld e.2 5 30 21 else fld e.2 3 16 7)).eraseDups

/-- Steps 1 and 2 of a takeover: freshness from the checkpoint, advanced by k spans. -/
def takeFresh (o k : Nat) (w : Rec) (s : State) : State :=
  let s1 := (routeEntries s o true).foldl (fun s e =>
    if flag (authRec s e) 0 30 then setFresh e (ckFresh w e + k * fld (authRec s e) 5 31 16) s else s) s
  (routeEntries s o false).foldl (fun s e => if flag (authRec s e) 0 30 then s else setFresh e (max (tget 0 s.gw.fresh e) (ckFresh w e)) s) s1

/-- Step 3: the counters of the generation functions. -/
def takeGens (k : Nat) (w : Rec) (s : State) : State :=
  s.str.gen.foldl (fun s e => let c := ckGen w e.1; setGen e.1 { genOf s e.1 with seq := (c.1 + k * c.2) % 65536 } s) s

/-- Step 4: the segment of a bus takes its state, and its timer restarts. -/
def takeSeg (o : Nat) (w : Rec) (s : State) : State :=
  let i := 28 + o
  if !segManaged (segOf s i) then s
  else
    let st := if ckSeg w o = 1 then 0 else ckSeg w o
    let s1 := if (segOf s i).state = st then s else segTo i st s
    setSeg i { segOf s1 i with timer := some s.time.now, prep := none, commit := false } s1

/-- Step 5: the publish buffers. -/
def takePubs (b : Nat) (w : Rec) (s : State) : State :=
  setLin b ((List.range 64).foldl (fun l f => match ckPub w b f with | some d => { l with pub := tset none l.pub f (some d) } | none => l) (linOf s b)) s

/-- What a checkpoint gives an object that is gained: advance by k spans. -/
def takeState (o k : Nat) (first : Bool) (w : Rec) (s : State) : State :=
  let s1 := if o < 32 then takeFresh o k w s else s
  let s2 := if first then takeGens k w s1 else s1
  let s3 := if o < 32 then takeSeg o w s2 else s2
  if 24 ≤ o && o < 32 then takePubs (o - 24) w s3 else s3

/-- The bus or segment of an object is served (R593 steps 5 to 7). -/
def startsServing (o : Nat) (s : State) : State :=
  if o < 24 then setCan o { canOf s o with integ := canMode (canOf s o) ≠ 0 } s
  else if o < 32 then
    let l := linOf s (o - 24)
    match l.table with
    | some tb => setLin (o - 24) { l with cycle := linStartFrom s (linHeadOf l tb) (wtNow s), idx := 0, back := none } s
    | none => s
  else tryUp (o - 12) s

/-- An object is gained (R593, R594). advance: the takeover advances freshness and counters. -/
def takeObj (o : Nat) (advance : Bool) (lease : Option Nat) (s : State) : State :=
  let x := objOf s o
  if x.owned || !s.pair.en then s
  else
    let first := !ownsAny s
    let s1 := setObj o { x with owned := true, claim := none, lease := lease } s
    let s2 := match s.pair.ckpt with
      | none => s1
      | some (_, at0, w) =>
        let span := max 1 s.pair.interval * 1000000
        let n := (s.time.now - at0 + 1000000 + span - 1) / span
        takeState o (if advance then n + 1 else 0) first w s1
    pairEvent 0x01 (some o) (count (rPAIR 0x0C) 23 16 (startsServing o s2))

/-- The interlock group is gained. -/
def takeGroup (advance : Bool) (s : State) : State :=
  (group s).foldl (fun s o => takeObj o advance none s) (setPair { s.pair with ownOut := true, ilOwned := true, ilClaim := none } s)

/-! ### Receipt -/

/-- A message is dropped (R583). -/
def pairDrop (s : State) : State := pairEvent 0x07 none (count (rPAIR 0x0C) 31 24 s)

/-- Dual ownership is ended: role B gives way (R590). -/
def dualEnds (o : Nat) (s : State) : State :=
  if !(objOf s o).owned || !roleB s then s
  else pairEvent 0x05 (some o) (setFlag (rPAIR 0x00) 25 (relinquish o s))

/-- A message is accepted (R583, R589, R590). -/
def pairAccept (m : Rec) (s : State) : State :=
  let was := s.pair.up
  let s1 := setPair { s.pair with lastSeq := some (fld m 4 15 0, (rw m 1).toNat), lastAt := some s.time.now, up := true } s
  let s2 := if was then s1 else pairEvent 0x03 none s1
  let s3 := (listed m s2).foldl (fun s o => if o < 40 then setObj o { objOf s o with waitFrom := s.time.now } s else s) s2
  (listed m s3).foldl (fun s o => dualEnds o s) s3

/-- A message of a type arrives at the partner port (R582, R583). Each one that is accepted is acknowledged, but for an acknowledgement (R588, log entry 73). -/
def pairRx (type : Nat) (m : Rec) (act : State → State) (s : State) : State :=
  if !s.pair.en || !portUp s s.pair.port then s
  else if !pairValid type m s then pairDrop s
  else act ((if type = 2 then id else pairSend 2 [rw m 1] []) (pairAccept m s))

/-- A token has no other effect (R588). -/
def tokenRx (m : Rec) (s : State) : State := pairRx 1 m id s

/-- The claims of a token that was acknowledged are complete, at the end of the acknowledgement's cycle (R589, R602). -/
def claimsDone (n : Nat) (s : State) : State :=
  (List.range 40).foldl (fun s o => match (objOf s o).claim with
    | some (k, at0) => if k = n && decide (s.time.now ≤ at0 + 1000000) then takeObj o true (some (at0 + 20000000)) s else s
    | none => s) s

/-- The acknowledgement of a token extends leases and completes claims, which take effect with the routes and the EN of its cycle (R588, R589, R602). -/
def ackRx (m : Rec) (s : State) : State :=
  pairRx 2 m (fun s =>
    let n := (rw (msgBody m) 0).toNat
    let s1 := match s.pair.tokens.find? (fun t => t.1 = n) with
      | none => s
      | some (_, at0, objs) => objs.foldl (fun s o =>
          let x := objOf s o
          if x.owned && !x.interlock then setObj o { x with lease := some (max (x.lease.getD 0) (at0 + 20000000)) } s else s) s
    giveWay (.acked n) (setPair { s1.pair with tokens := s1.pair.tokens.filter (fun t => t.1 ≠ n) } s1)) s

/-- A checkpoint part is accepted; the last one applies the checkpoint and acknowledges it (R591). -/
def partRx (m : Rec) (s : State) : State :=
  pairRx 3 m (fun s =>
    let b := msgBody m
    let n := (rw b 0).toNat
    let total := fld b 1 15 0
    let parts := tset [] (if s.pair.partNum = n then s.pair.parts else []) (fld b 1 31 16) (b.drop 2)
    let whole := (List.range total).all (fun i => tget [] parts i ≠ [])
    if total = 0 || 14 < total || total ≤ fld b 1 31 16 then s
    else if whole then
      pairSend 4 [word n] [] (setPair { s.pair with
        ckpt := some (n, s.time.now, (List.range total).flatMap (fun i => tget [] parts i)), parts := [], partNum := n, missFrom := s.time.now } s)
    else setPair { s.pair with partNum := n, parts := parts } s) s

def ckptAckRx (m : Rec) (s : State) : State := pairRx 4 m (fun s => setPair { s.pair with ckptAck := some s.time.now } s) s

/-- An object that the partner released is taken over, or the interlock group with it, at the end of the release's cycle (R594, R602). -/
def handedOver (o : Nat) (s : State) : State :=
  if !s.pair.en then s else if (objOf s o).interlock then takeGroup false s else takeObj o false none s

/-- A release hands over the object that it names (R594). -/
def releaseRx (m : Rec) (s : State) : State :=
  pairRx 5 m (fun s =>
    match objNumber (fld (msgBody m) 0 31 30) (fld (msgBody m) 0 29 25) with
    | none => s
    | some o => giveWay (.handed o) s) s

/-- A mapping of the partner is written as a PARTNER_MAP group (R467). -/
def partnerMapRx (m : Rec) (s : State) : State :=
  pairRx 6 m (fun s =>
    let b := msgBody m
    csPush 0x03 ((List.range 4).map (fun i => BitVec.ofNat 64 (cat64 (rw b (2 * i)) (rw b (2 * i + 1))))) s) s

/-! ### Timers -/

/-- The partner link has been silent for 20 ms (R583). -/
def partnerTimeout (s : State) : State :=
  if s.pair.up && (match s.pair.lastAt with | some a => decide (a + 20000000 ≤ s.time.now) | none => true) then
    pairEvent 0x04 none (setPair { s.pair with up := false } s)
  else s

/-- Objects under lease that this device owns. -/
def leased (s : State) : List Nat := (List.range 40).filter (fun o => (objOf s o).owned && !(objOf s o).interlock)

/-- A token is sent and remembered. -/
def sendToken (extra : List Nat) (s : State) : State :=
  let n := s.pair.txSeq
  let s1 := pairSend 1 [] extra s
  if s1.pair.txSeq = n then s1
  else setPair { s1.pair with tokens := (n, s.time.now, leased s) :: s1.pair.tokens.take 15 } s1

/-- Every 5 ms the owner of objects under lease sends a token (R588). -/
def tokenDue (s : State) : State :=
  let due := match s.pair.lastToken with | some a => decide (a + 5000000 ≤ s.time.now) | none => true
  if s.pair.en && leased s ≠ [] && due then sendToken [] (setPair { s.pair with lastToken := some s.time.now } s) else s

/-- A lease runs out (R588). -/
def leaseEnds (o : Nat) (s : State) : State :=
  let x := objOf s o
  match x.lease with
  | none => s
  | some e =>
    if x.owned && !x.interlock && decide (e ≤ s.time.now) then
      let s1 := dropObj o s
      pairEvent 0x08 (some o) (setObj o { objOf s1 o with notBefore := s.time.now + 1000000000 } s1)
    else s

/-- The claim wait of a role (R589). -/
def claimWait (s : State) : Nat := if roleB s then 50000000 else 25000000

/-- A claim wait ends (R589). -/
def claimDue (o : Nat) (s : State) : State :=
  let x := objOf s o
  if 40 ≤ o || !s.pair.en || x.owned || x.interlock || x.claim.isSome || decide (s.time.now < x.notBefore) || decide (s.time.now < x.waitFrom + claimWait s) then s
  else
    let silent := match s.pair.lastAt with | some a => decide (a + 25000000 ≤ s.time.now) | none => true
    if silent then takeObj o true none s
    else
      let n := s.pair.txSeq
      let s1 := sendToken [o] s
      setObj o { objOf s1 o with claim := some (n, s.time.now) } s1

/-- A claiming token is not acknowledged within 1 ms (R589). -/
def claimTimedOut (o : Nat) (s : State) : State :=
  let x := objOf s o
  match x.claim with
  | some (_, at0) => if at0 + 1000000 ≤ s.time.now then setObj o { x with claim := none, waitFrom := at0 + 1000000 } s else s
  | none => s

/-- PAIR_OWN_IN has been low for long enough (R587). -/
def interlockLow (s : State) : State :=
  if s.pair.en && !s.pair.ilOwned && s.pair.ilClaim.isNone && group s ≠ [] then
    setPair { s.pair with ownOut := true, ownIn := false, ilClaim := some s.time.now } s
  else setPair { s.pair with ownIn := false } s

/-- PAIR_OWN_IN is sampled 2 µs after the claim (R587); role A, finding it high, keeps its claim and samples again. -/
def interlockSample (high : Bool) (s0 : State) : State :=
  let s := setPair { s0.pair with ownIn := high } s0
  match s.pair.ilClaim with
  | none => s
  | some a =>
    if s.time.now < a + 2000 then s
    else if !high then takeGroup true s
    else if roleB s then setPair { s.pair with ownOut := false, ilClaim := none } s
    else setPair { s.pair with ilClaim := some s.time.now } s

/-- The checkpoint interval has passed (R591). -/
def ckptDue (s : State) : State :=
  let due := match s.pair.ckptSent with | some a => decide (a + s.pair.interval * 1000000 ≤ s.time.now) | none => true
  if s.pair.en && ownsAny s && due then sendCheckpoint s else s

/-- No checkpoint has been applied for an interval and 5 ms (R592). -/
def ckptMissed (s : State) : State :=
  if s.pair.en && !ownsAny s && s.pair.up && decide (s.pair.missFrom + s.pair.interval * 1000000 + 5000000 ≤ s.time.now) then
    pairEvent 0x06 none (count (rPAIR 0x0C) 15 0 (setPair { s.pair with missFrom := s.time.now } s))
  else s

/-- The objects released are handed over at a boundary (R594). -/
def pairBoundary (s : State) : State :=
  let go := s.pair.release.filter (fun o => (objOf s o).owned)
  let s0 := setPair { s.pair with release := [] } s
  if go = [] then s0
  else
    let s1 := sendCheckpoint (go.foldl (fun s o => relinquish o s) s0)
    go.foldl (fun s o => let k := objKind o
                         pairEvent 0x02 (some o) (pairSend 5 [packW [(2, k.1), (5, k.2), (25, 0)]] [] s)) s1

/-! ### Configuration -/

/-- EN is set or cleared (R581). -/
def pairEnable (en : Bool) (s : State) : State :=
  if en && !s.pair.en then
    let s1 := setPair { s.pair with
      en := true, txSeq := 0, tokens := [], lastToken := none, ckptSent := none, ckptAck := none, missFrom := s.time.now, release := []
      ownOut := false, ilOwned := false, ilClaim := none
      obj := (List.range 40).foldl (fun t o => tset {} t o { interlock := (objOf s o).interlock, waitFrom := s.time.now }) [] } s
    (List.range 40).foldl (fun s o => stopsServing o s) s1
  else if !en && s.pair.en then
    let s1 := (List.range 40).foldl (fun s o => dropObj o s) (dropGroup s)
    let gained := (List.range 40).filter (fun o => 24 ≤ o || !(objOf s o).owned)
    gained.foldl (fun s o => startsServing o s) (setPair { s1.pair with en := false, release := [] } s1)
  else s

end Sys2Proof.Machine
end

