-- ==== Sys2Proof/Machine/CycleOps.lean ====
section
/-!
DEFINITION. The end of a core cycle, where what gives way to the rest of the cycle acts, and the commands as they find the device (R354, R391, R512).
-/
namespace Sys2Proof.Machine

/-- What was left to the end of the cycle acts, if there is still cause for it: a need timer that a keep-alive has restarted goes on, a segment that has become
AWAKE keeps its replicas, a frame whose SOF fell in the cycle goes on (R354, R391); an object that a message of the cycle lists is not claimed,
a pair whose EN the cycle has cleared takes over nothing, and a list whose firmware has stopped arms nothing (R602). -/
def runLate : Late → State → State
  | .needEnds i, s => needExpired i s
  | .clusterEnds c, s => clusterExpired c s
  | .wakeLate i, s => wakeTimedOut i s
  | .portStarts n, s => tryUp n s
  | .slotStale b i, s => slotStale b i s
  | .slotAbort b i, s => slotAborted b i s
  | .linSelect b, s => linSelected b s
  | .bulkDone pub, s => bulkComplete pub s
  | .verify p yr x b, s => latentTakes p yr x b s
  | .readsEnd, s => waitsExpire s
  | .spiLock b off, s => spiLockTaken b off s
  | .claim o, s => claimDue o s
  | .acked n, s => claimsDone n s
  | .claimOver o, s => claimTimedOut o s
  | .handed o, s => handedOver o s
  | .interlock high, s => interlockSample high s
  | .arm n, s => armStaged n s
  | .frame g, s => frameArrives g s

/-- What was left to the cycles before t acts, each at the end of its cycle; fuel bounds it, and what it leaves acts with the next. A core that does not run
loses what was left to it. -/
def lateUntil (t : Nat) : Nat → State → State
  | 0, s => s
  | n + 1, s =>
    match s.late with
    | [] => s
    | (d, e) :: r =>
      if d < t then
        let s1 := { s with late := r }.atTime d
        lateUntil t n (if coreOn s1 then runLate e s1 else s1)
      else s

/-- Core cycle t has come; the cycles before it have ended. -/
def passTo (t : Nat) (s : State) : State := (holdUpEnds t (lateUntil t (4 * s.late.length + 16) s)).atTime t

/-- A command at core cycle t, of a domain that no reset of the core stops; its effect is on everything but the queue. -/
def actAlways (t : Nat) (f : State → State) (s : State) : Host.Outcome State Fault Refusal :=
  .next { f (passTo t { s with pending := [] }) with pending := s.pending }

/-- A command of the core domain at core cycle t; without a running core it finds nothing to act on (log entry 22). -/
def act (t : Nat) (f : State → State) (s : State) : Host.Outcome State Fault Refusal :=
  actAlways t (fun s => if coreOn s then f s else s) s

/-- A request command at core cycle t: the host publishes the request, and the firmware takes it at once (log entry 24). -/
def request (t opcode : Nat) (h : Req → State → Reply) (q : Req) (s : State) : Host.Outcome State Fault Refusal := act t (fun s => serve opcode h q s) s

end Sys2Proof.Machine
end

