-- ==== Sys2Proof/Machine/CipherCommands.lean ====
section
/-!
DEFINITION. The commands of the cipher complex (R401 to R405, R417 to R421).
-/
namespace Sys2Proof.Machine

def execBulkRequestSubmit (t : Nat) (r : BulkReq) (s : State) : Host.Outcome State Fault Refusal :=
  act t (fun s => if r.requester < 8 then (bulkSubmit r s).2 else s) s

def execBulkRequestStart (t requester : Nat) (s : State) : Host.Outcome State Fault Refusal := act t (fun s => bulkStart requester s) s

def execBulkChunkEnd (t : Nat) (s : State) : Host.Outcome State Fault Refusal := act t (fun s => chunkEnd s) s

def execBulkRequestComplete (t : Nat) (publicKey : Bool) (s : State) : Host.Outcome State Fault Refusal := act t (fun s => giveWay (.bulkDone publicKey) s) s

def execCipherAlarm (t : Nat) (cause : AlarmCause) (s : State) : Host.Outcome State Fault Refusal := actAlways t (fun s => cipherAlarm cause s) s

def execZeroizeComplete (t : Nat) (s : State) : Host.Outcome State Fault Refusal := act t zeroizeDone s

def execPipeSelfTestDue (t pipe : Nat) (s : State) : Host.Outcome State Fault Refusal := act t (fun s => pipeTestDue pipe s) s

def execBulkSelfTestDue (t : Nat) (s : State) : Host.Outcome State Fault Refusal := act t bulkTestDue s

/-- The tests that a TEST command has asked for are over: its answer carries the result, 0 or SELFTEST (R404, R578). -/
def testAnswers (unit : Nat) (s : State) : State :=
  let c := s.ciph
  let u := min unit 2
  let ended := match u with | 0 => !c.test0 | 1 => !c.test1 | _ => !c.test2 && !c.test3
  let failed := match u with | 0 => c.pipe0Fail | 1 => c.pipe1Fail | _ => c.symFail || c.pkFail
  if !ended then s
  else (List.range 8).foldl (fun s m => match (boxOf s m).deferred with
    | some d => if d.opcode = 0x0E04 && d.progress = [word u] then finishDeferred m 0 [if failed then 8 else 0] s else s
    | none => s) s

def execSelfTestComplete (t unit : Nat) (pass : Bool) (s : State) : Host.Outcome State Fault Refusal := act t (fun s => testAnswers unit (testEnds unit pass s)) s

def execEntropyHealthFail (t : Nat) (s : State) : Host.Outcome State Fault Refusal :=
  act t (fun s => cipherEvent 5 0 (setCiph { s.ciph with entropyFail := true } s)) s

end Sys2Proof.Machine
end

