-- ==== Sys2Proof/Machine/SysRequests.lean ====
section
/-!
DEFINITION. The SYS family of requests (R564): settings, Beat, ports, bridge, mirrors, packet buffer.
-/
namespace Sys2Proof.Machine

def execHello (t : Nat) (q : Req) (s : State) : Host.Outcome State Fault Refusal := act t (fun s => helloServe q s) s

/-- Entries of a table of counters whose keys lie from lo on, n of them, return to 0. -/
def clearRange (lo n : Nat) (t : Tab Nat) : Tab Nat := t.filter (fun e => e.1 < lo || lo + n ≤ e.1)

/-- Settings: AUTH_SLOT and NOTICE_MBX (R545, R546). -/
def sysSettings (q : Req) (s : State) : Reply :=
  need 1 q [(4, only (mw q 4) [(31, 24), (23, 21)])] s (ok { s with mbx := { s.mbx with authSlot := mf q 4 31 24, noticeMbx := mf q 4 23 21 } })

def execSysSettings (t : Nat) (q : Req) (s : State) : Host.Outcome State Fault Refusal := request t 0x0101 sysSettings q s

/-- The next second boundary of working time (R20). -/
def nextSecond (s : State) : Int := (wtNow s / wtSec + 1) * wtSec

/-- Beat length; what was pending before the first such command of this cycle is kept for a boundary of this cycle (R20). -/
def sysBeatLength (q : Req) (s : State) : Reply :=
  need 1 q [(4, only (mw q 4) [(2, 0)])] s
    (okWith (fullTime (nextSecond s)) { s with beat := { s.beat with kNext := mf q 4 2 0, kCmd := some (s.time.now, kDue s) } })

def execSysBeatLength (t : Nat) (q : Req) (s : State) : Host.Outcome State Fault Refusal := request t 0x0102 sysBeatLength q s

/-- Whether a port record is in range (R120, R126, R128, R131). -/
def portWord0 (r : Rec) : Bool :=
  let n := fld r 0 31 27
  let m := prMode r
  let v := prSpeed r
  n < 28 && modeOk n m && v < 6 && ((v ≠ 3 && v ≠ 4) || m = 3)
    && (!(m = 5 || m = 8) || v ≤ 2) && (!(m = 9 || m = 10) || v ≤ 1)
    && (!isT n || fld r 0 18 17 = 1 || fld r 0 18 17 = 2)
def portWord1 (r : Rec) : Bool :=
  only (rw r 1) [(31, 2)] && (!isS (fld r 0 31 27) ||
    (!(plcaCoord r && fld r 1 29 25 ≠ 0) && !(!plcaCoord r && fld r 1 29 25 = 0) && 1 ≤ fld r 1 24 19 && fld r 1 24 19 ≤ 32 && 8 ≤ fld r 1 18 11))
def portWord2 (r : Rec) : Bool := only (rw r 2) [(31, 16)] && (!isS (fld r 0 31 27) || 1 ≤ fld r 2 23 16)

/-- A port takes a record (R132, R138, R144). A port out of service stays so. The command prevails over a test command of the same cycle (R659). -/
def portCommand (r : Rec) (s : State) : State :=
  let n := fld r 0 31 27
  let s := undoMove n s
  let old := portRec s n
  let v0 := portOf s n
  let v := if v0.testAt = some s.time.now then { v0 with loop := 0, prbs := none, cable := false } else v0
  let w0 := fun (r : Rec) => putBits (rw r 0) 6 0 0
  let s1 := setPort n { v with cfg := r, cmdAt := some s.time.now } s
  redoMove n (if w0 r = w0 old && r.drop 1 = old.drop 1 && v.cfg ≠ [] then staysUp n s1
  else
    let s2 := if prMode r ≠ prMode old || speedCode r ≠ (if v.st = .disabled then speedCode old else v.speed) then portEvent n 2 0 s1 else s1
    if v.st = .outOfService then setPort n (takeConstants s2 n (portFresh r (portOf s2 n))) s2
    else enablePort n (if v.st = .up then leaveUp n .down s2 else s2))

def sysPort (q : Req) (s : State) : Reply :=
  need 3 q [(4, portWord0 q.args), (5, portWord1 q.args), (6, portWord2 q.args)] s (ok (portCommand q.args s))

def execSysPort (t : Nat) (q : Req) (s : State) : Host.Outcome State Fault Refusal := request t 0x0103 sysPort q s

/-- Code of a link state (R134). -/
def linkCode : LinkState → Nat
  | .disabled => 0
  | .down => 1
  | .training => 2
  | .up => 3
  | .outOfService => 4

/-- The record of R143. -/
def portStatus (s : State) (n : Nat) : Rec :=
  let v := portOf s n
  let r := portRec s n
  [packW [(3, linkCode v.st), (4, prMode r), (3, if v.st = .disabled then 7 else v.speed), (1, b2n v.anDone), (1, b2n (isT n && (v.st = .training || v.st = .up) && fld r 0 18 17 = 1)),
          (1, b2n v.plcaAct), (1, b2n v.mergeAct), (1, b2n v.dlcFault), (17, 0)]]
    ++ split64 v.lastChange
    ++ [packW [(16, v.down), (16, v.flap)], word v.fecCorr, word v.fecUncorr, word v.pcsErr, packW [(16, v.trainFail), (16, v.beaconMiss)],
        word (unsigned 32 v.dlcOffset)]

/-- Port status; versions 1.0 to 1.2 end at record word 7 (R562). -/
def sysPortStatus (q : Req) (s : State) : Reply :=
  let n := mf q 4 4 0
  need 1 q [(4, only (mw q 4) [(4, 0)] && n < 28)] s
    (okWith (if q.verMaj = 1 && q.verMin ≤ 2 then (portStatus s n).take 8 else portStatus s n)
      (if q.clear then setPort n { portOf s n with down := 0, flap := 0, fecCorr := 0, fecUncorr := 0, pcsErr := 0, trainFail := 0, beaconMiss := 0 } s else s))

def execSysPortStatus (t : Nat) (q : Req) (s : State) : Host.Outcome State Fault Refusal := request t 0x0104 sysPortStatus q s

/-- MDIO: what the PHY answers to a read is a free value (R123). -/
def sysMdio (q : Req) (s : State) : Reply :=
  let s1 := emit (.mdio s.time.now q.args) s
  need 2 q [(5, only (mw q 5) [(15, 0)])] s
    (if bit (mw q 4) 29 then okWith [0] s1 else okWith [word ((freeVal s1).1.toNat % 65536)] (freeVal s1).2)

def execSysMdio (t : Nat) (q : Req) (s : State) : Host.Outcome State Fault Refusal := request t 0x0105 sysMdio q s

/-- A bridge-port record is staged (R152, R157). -/
def sysBridgePort (q : Req) (s : State) : Reply :=
  let r := q.args
  need 4 q
    [(4, only (rw r 0) [(31, 4)] && fld r 0 31 27 ≠ 31 && 1 ≤ fld r 0 26 15 && fld r 0 26 15 ≤ 4094 && fld r 0 11 10 ≠ 3),
     (5, only (rw r 1) [(23, 0)]),
     (6, only (rw r 2) [(31, 2)] && 1518 ≤ bpMaxLen r && bpMaxLen r ≤ 9216 && bpLearnLimit r ≤ 16384),
     (7, only (rw r 3) [(31, 26)] && !(fld r 3 29 28 ≠ 0 && (fld r 3 31 30 = 0 || fld r 3 29 28 = fld r 3 31 30)))] s
    (stage (.bridgePort (fld r 0 31 27) r) s)

def execSysBridgePort (t : Nat) (q : Req) (s : State) : Host.Outcome State Fault Refusal := request t 0x0106 sysBridgePort q s

/-- A VLAN entry is staged (R153). -/
def sysVlan (q : Req) (s : State) : Reply :=
  let v := mf q 4 11 0
  need 4 q
    [(4, only (mw q 4) [(11, 0)] && v ≠ 0 && v ≠ 4095), (5, !bit (mw q 5) 31), (6, !bit (mw q 6) 31), (7, only (mw q 7) [(31, 18)])] s
    (stage (.vlan v (q.args.drop 1)) s)

def execSysVlan (t : Nat) (q : Req) (s : State) : Host.Outcome State Fault Refusal := request t 0x0107 sysVlan q s

/-- DEST as each type wants it (R165). -/
def macDestOk (r : Rec) : Bool :=
  match macType r with
  | 1 | 2 => macDest r < 31
  | 3 => !flag r 2 31
  | 4 | 5 => macDest r = 0
  | _ => true

/-- Entries of types other than dynamic and of another key in the bucket of a record. -/
def macFixed (s : State) (r : Rec) : Nat :=
  ((macWays (macBucket (macFid r) (macAddr r))).filter (fun k =>
    let e := macGet s k
    macType e ≠ 0 && macType e ≠ 1 && !(macFid e = macFid r && macAddr e = macAddr r))).length

/-- A static entry of the record's key. -/
def macStatic (s : State) (r : Rec) : Bool :=
  match macFind s (macFid r) (macAddr r) with
  | some k => macType (macGet s k) ≠ 1
  | none => false

/-- A MAC write is staged (R165, R684). -/
def sysMacWrite (q : Req) (s : State) : Reply :=
  let r := q.args
  let t := macType r
  let grp := flag r 0 24
  need 4 q
    [(4, !(t = 3 && !grp) && !(t = 2 && grp)), (5, t < 6 && (t = 2 || !macSrcLock r)), (6, macDestOk r), (7, rw r 3 = 0)] s
    (let p := projected s
     if t ≠ 0 && 4 ≤ macFixed p r then tableFull s
     else if t = 1 && (macStatic s r || macStatic p r) then conflictAt 5 s
     else stage (.mac r) s)

def execSysMacWrite (t : Nat) (q : Req) (s : State) : Host.Outcome State Fault Refusal := request t 0x0108 sysMacWrite q s

/-- n words of a record, zeros beyond its end. -/
def padRec (n : Nat) (r : Rec) : Rec := (List.range n).map (rw r)

/-- MAC read (R561). -/
def sysMacRead (q : Req) (s : State) : Reply :=
  let a := mf q 4 13 0
  let n := mf q 5 6 0
  need 2 q [(4, only (mw q 4) [(13, 0)]), (5, only (mw q 5) [(6, 0)] && 1 ≤ n && n ≤ 64)] s
    (okWith ((List.range (min n (16384 - a))).flatMap (fun i => padRec 4 (macGet s (a + i)))) s)

def execSysMacRead (t : Nat) (q : Req) (s : State) : Host.Outcome State Fault Refusal := request t 0x0109 sysMacRead q s

/-- Ageing time (R171). -/
def sysAgeing (q : Req) (s : State) : Reply :=
  let n := (mw q 4).toNat
  need 1 q [(4, n = 0 || (10 ≤ n && n ≤ 1000000))] s (ok { s with fwd := { s.fwd with ageing := n } })

def execSysAgeing (t : Nat) (q : Req) (s : State) : Host.Outcome State Fault Refusal := request t 0x010A sysAgeing q s

/-- MAC flush (R172). -/
def sysMacFlush (q : Req) (s : State) : Reply :=
  let s1 := macFlush (mf q 4 31 30) (if mf q 4 31 30 = 0 then mf q 4 28 24 else mf q 4 11 0) s
  need 1 q [(4, only (mw q 4) [(31, 30), (28, 24), (11, 0)] && mf q 4 31 30 ≠ 3)] s
    (okWith [word (s.fwd.mac.length - s1.fwd.mac.length)] s1)

def execSysMacFlush (t : Nat) (q : Req) (s : State) : Host.Outcome State Fault Refusal := request t 0x010B sysMacFlush q s

/-- A mirror session is staged; in Field none may be enabled (R179, R181). -/
def sysMirror (q : Req) (s : State) : Reply :=
  let r := q.args.drop 1
  need 4 q
    [(4, only (mw q 4) [(1, 0)]), (5, only (rw r 0) [(31, 23)] && fld r 0 30 26 ≤ 28), (6, !flag r 1 31), (7, !flag r 2 31)] s
    (if flag r 0 31 && s.sys.fw.lifecycle = 2 then locked s
     else (.stage (.mirror (mf q 4 1 0) r) [word (tget 0 s.fwd.mirrorDrop (mf q 4 1 0))], s))

def execSysMirror (t : Nat) (q : Req) (s : State) : Host.Outcome State Fault Refusal := request t 0x010C sysMirror q s

/-- The partitions of the packet buffer (R183, R187). -/
def sysBuffer (q : Req) (s : State) : Reply :=
  let r := q.args
  let sum := fld r 0 17 0 + (List.range 31).foldl (fun n p => n + fld r (2 + p) 13 0) 0
  need 33 q
    ([(4, only (rw r 0) [(17, 0)] && fld r 0 17 0 ≤ 32768), (5, only (rw r 1) [(17, 0)] && fld r 1 17 0 ≤ 196608)]
      ++ (List.range 31).map (fun p => (6 + p, only (rw r (2 + p)) [(31, 20), (13, 0)])) ++ [(0, decide (sum ≤ 196608))]) s
    (let s1 := ringsGive (releaseLines s)
     ok (bufNote { s1 with buf := { s1.buf with cfg := r } }))

def execSysBuffer (t : Nat) (q : Req) (s : State) : Host.Outcome State Fault Refusal := request t 0x010D sysBuffer q s

/-- Buffer status (R189). -/
def sysBufferStatus (q : Req) (s0 : State) : Reply :=
  let s := ringsGive (releaseLines s0)
  need 0 q [] s
    (okWith ([word (bufFree s), word (sharedFree s), word s.buf.sysUsed, word s.buf.freeMin]
        ++ (List.range 31).map (fun p => packW [(18, sharedUsed s p), (14, guarUsed s p)]))
      (if q.clear then { s with buf := { s.buf with freeMin := bufFree s } } else s))

def execSysBufferStatus (t : Nat) (q : Req) (s : State) : Host.Outcome State Fault Refusal := request t 0x010E sysBufferStatus q s

/-- Bridge counters (R196): words 1 and 2, and 4 and 5, hold 64 bits. -/
def sysBridgeCounters (q : Req) (s : State) : Reply :=
  let p := mf q 4 4 0
  let c := fun w => tget 0 s.fwd.counts (p * 64 + w)
  need 1 q [(4, only (mw q 4) [(4, 0)] && p ≤ 30)] s
    (okWith ([word (c 0)] ++ split64 (c 1) ++ [word (c 3)] ++ split64 (c 4) ++ (List.range 33).map (fun i => word (c (6 + i))))
      (if q.clear then { s with fwd := { s.fwd with counts := clearRange (p * 64) 64 s.fwd.counts } } else s))

def execSysBridgeCounters (t : Nat) (q : Req) (s : State) : Host.Outcome State Fault Refusal := request t 0x010F sysBridgeCounters q s

end Sys2Proof.Machine
end

