-- ==== Sys2Proof/Machine/SchedRequests.lean ====
section
/-!
DEFINITION. The SCHED family of requests (R568).
-/
namespace Sys2Proof.Machine

/-- The port-scheduler record last accepted, and the default before the first (R217). -/
def schedAsked (s : State) (p : Nat) : Rec := if (egressOf s p).schedLast = [] then schedDefault p else (egressOf s p).schedLast

/-- Whether HI_OR_BURST and LO suit an algorithm (R217). -/
def shaperSuits (alg : Nat) (r : Rec) : Bool :=
  if alg = 2 then 84 ≤ (rw r 2).toNat && !flag r 2 31 && rw r 3 = 0 else !flag r 2 31 && (flag r 3 31 || rw r 3 = 0)

/-- Whether a class is the gPTP traffic class of an enabled slot (R225). -/
def gptpClass (s : State) (c : Nat) : Bool := (List.range 4).any (fun i => slotEnabled s i && slotTc (slotCfg s i) = c)

/-- The message word of the field that conflicts in class c of a port-scheduler record: its ALG (R218), its LT_EN, CQF or PREEMPT (R221, R224,
R225). -/
def classConflict (s : State) (r : Rec) (c : Nat) : Option Nat :=
  let a := srAlg r c
  let l := (shaperOf s (fld r 0 31 27) c).last
  if a ≠ 0 && (l = [] || !shaperSuits a l) then some (7 + c)
  else if (a ≠ 0 && (srLaunch r c || srCqf r c)) || (srCqf r c && !srGateEn r) || (srPreempt r c && gptpClass s c) then some 4 else none

/-- The first word at which a port-scheduler record is refused with CONFLICT, class by class. -/
def schedConflict (s : State) (r : Rec) : Option Nat := (List.range 8).findSome? (classConflict s r)

/-- A port-scheduler record is staged (R204). -/
def schedPort (q : Req) (s : State) : Reply :=
  let r := q.args
  let p := fld r 0 31 27
  let far := 28 ≤ p
  need 11 q
    ([(4, p ≤ 30 && !flag r 0 0 && fld r 0 4 1 ≤ 11 && !(far && fld r 0 26 6 ≠ 0)), (6, only (rw r 2) [(31, 16)])]
      ++ (List.range 8).map (fun c => (7 + c,
        srAlg r c ≠ 3 && !(far && srAlg r c ≠ 0) && 1 ≤ srQmax r c && 1 ≤ srYmax r c && srYmax r c ≤ srQmax r c && only (rw r (3 + c)) [(31, 4)]))) s
    (match schedConflict s r with
     | some n => conflictAt n s
     | none => stage (.portSched p r) (setEgress p { egressOf s p with schedLast := r } s))

def execSchedPortScheduler (t : Nat) (q : Req) (s : State) : Host.Outcome State Fault Refusal := request t 0x0301 schedPort q s

/-- A command with a bulk part of entries of two words, n of them, after its fixed words (R557). -/
def needBulk (fixed n : Nat) (q : Req) (l : List (Nat × Bool)) (s : State) (k : Rec → Reply) : Reply :=
  if q.args.length ≠ (if q.staged then fixed + 1 else fixed + 2 * n) then rangeAt 0 s
  else match l.find? (fun e => !e.2) with
    | some e => rangeAt e.1 s
    | none => match bulkOf fixed q s with
      | some (ws, b) => if b = 8 * n then k ws else rangeAt (4 + fixed) s
      | none => rangeAt (4 + fixed) s

/-- The two-word entries of a bulk part. -/
def pairsOf : Rec → List (Word × Word)
  | a :: b :: r => (a, b) :: pairsOf r
  | _ => []

/-- The message word of the first entry at fault: its word inline, the descriptor when staged (R559). fault: which of its words is wrong. -/
def badEntry (fixed : Nat) (q : Req) (fault : Word × Word → Option Nat) (es : List (Word × Word)) : Option Nat :=
  es.zipIdx.findSome? (fun e => (fault e.1).map (fun k => if q.staged then 4 + fixed else 4 + fixed + 2 * e.2 + k))

/-- The word of a gate entry that is out of range (R206). -/
def gateEntryFault (e : Word × Word) : Option Nat :=
  if bits e.1 23 22 = 3 || bits e.1 21 0 ≠ 0 then some 0 else if e.2.toNat < 8 then some 1 else none

/-- A gate list is written into the admin bank (R205 to R208). -/
def schedGateList (q : Req) (s : State) : Reply :=
  let r := q.args
  let p := fld r 0 31 27
  let n := fld r 0 26 16
  let cyc := (rw r 4).toNat
  let checks := [(4, p < 28 && n ≤ 1024 && fld r 0 7 0 = 0 && !(n = 0 && q.staged)), (7, fullOk (r.drop 1)), (8, 1000 ≤ cyc && cyc ≤ 1000000000)]
  needBulk 5 n q checks s (fun ws =>
    match badEntry 5 q gateEntryFault (pairsOf ws) with
    | some w => rangeAt w s
    | none =>
      let e := egressOf s p
      if e.gates.busy then busy s
      else
        let l : GateList := { init := fld r 0 15 8, base := ofFull (r.drop 1), cycle := cyc, entries := (pairsOf ws).map (fun e => (e.1, e.2.toNat)) }
        ok (setEgress p { e with gates := { setBank (1 - e.gates.force) l e.gates with written := true } } s))

def execSchedGateList (t : Nat) (q : Req) (s : State) : Host.Outcome State Fault Refusal := request t 0x0302 schedGateList q s

/-- The swap of an admin bank is staged (R207, R208). -/
def schedGateListArm (q : Req) (s : State) : Reply :=
  let p := mf q 4 31 27
  let e := egressOf s p
  need 1 q [(4, only (mw q 4) [(31, 27)] && p < 28)] s
    (if !e.gates.written then conflictAt 4 s
     else stage (.gateSwap p) (setEgress p { e with gates := { e.gates with busy := true } } s))

def execSchedGateListArm (t : Nat) (q : Req) (s : State) : Host.Outcome State Fault Refusal := request t 0x0303 schedGateListArm q s

/-- The record of R214. The list of a reset has no cycle (R208). PENDING shows a list from the boundary that takes its swap on, not from its arming: the
model's choice (log entry 112). -/
def gateStatus (s : State) (p : Nat) : Rec :=
  let g := (egressOf s p).gates
  let l := gateBank g g.force
  let first := decide (l = {}) && decide (g.start = 0)
  let w := wtNow s
  let entry := match gateEntry l g.start w with | some (i, _, _) => i | none => 0
  [packW [(1, b2n g.pending.isSome), (1, b2n g.late), (1, g.force), (11, entry), (18, 0)]]
    ++ fullTime (if first then s.time.from0 else g.start)
    ++ (match g.pending with | some st => fullTime st | none => [0, 0, 0])
    ++ [if first then 0 else word (unsigned 32 ((w - g.start) / ((l.cycle : Int) * wtNs) + 1))]

/-- Gate status; CLEAR clears LATE_START (R214, R568). -/
def schedGateStatus (q : Req) (s : State) : Reply :=
  let p := mf q 4 4 0
  let e := egressOf s p
  need 1 q [(4, only (mw q 4) [(4, 0)] && p < 28)] s
    (okWith (gateStatus s p) (if q.clear then setEgress p { e with gates := { e.gates with late := false } } s else s))

def execSchedGateStatus (t : Nat) (q : Req) (s : State) : Host.Outcome State Fault Refusal := request t 0x0304 schedGateStatus q s

/-- A shaper record is staged (R217, R218). -/
def schedShaper (q : Req) (s : State) : Reply :=
  let r := q.args
  let p := fld r 0 31 27
  let c := fld r 0 26 24
  let rate := (rw r 1).toNat
  let alg := srAlg (schedAsked s p) c
  let lo := if alg = 2 then rw r 3 = 0 else flag r 3 31 || rw r 3 = 0
  need 4 q
    [(4, p < 28 && fld r 0 23 0 = 0), (5, 1 ≤ rate && rate ≤ 3125000000 && rate ≤ lineRate s p * 125000),
     (6, !flag r 2 31 && (alg ≠ 2 || 84 ≤ (rw r 2).toNat)), (7, lo)] s
    (stage (.shaper p c r) (setShaper p c { shaperOf s p c with last := r } s))

def execSchedShaper (t : Nat) (q : Req) (s : State) : Host.Outcome State Fault Refusal := request t 0x0305 schedShaper q s

/-- The samples of a class, 13 words (R235). -/
def sampleWords (m : Sample) : Rec :=
  [packW [(16, min m.depthMin 65535), (16, min m.depthMax 65535)], word m.weighted, word m.headSoj, word m.maxDelay, word m.departed]
    ++ (List.range 8).map (fun i => packW [(16, m.bins.getD (2 * i) 0), (16, m.bins.getD (2 * i + 1) 0)])

/-- The record of R235. -/
def sampleRecord (s : State) (p : Nat) : Rec :=
  match s.beat.done with
  | none => packW [(5, p), (27, 0)] :: List.replicate 105 0
  | some n => packW [(5, p), (1, 1), (26, 0)] :: word n :: (List.range 8).flatMap (fun c => sampleWords (tget {} (egressOf s p).done c))

/-- The samples of the last completed Beat (R235). -/
def schedSample (q : Req) (s : State) : Reply :=
  let p := mf q 4 4 0
  need 1 q [(4, only (mw q 4) [(4, 0)] && p ≤ 30)] s (okWith (sampleRecord s p) s)

def execSchedSample (t : Nat) (q : Req) (s : State) : Host.Outcome State Fault Refusal := request t 0x0306 schedSample q s

/-- Whether RATE_CAPPED holds for a class (R223). -/
def rateCapped (s : State) (p c : Nat) : Bool :=
  (shaperOf s p c).capped || (srAlg (schedOf s p) c ≠ 0 && decide (lineRate s p * 125000 < (rw (shaperOf s p c).rec0 1).toNat))

/-- Scheduler counters (R237). -/
def schedCounters (q : Req) (s : State) : Reply :=
  let p := mf q 4 4 0
  let e := egressOf s p
  let c := fun w => word (tget 0 e.counts w)
  need 1 q [(4, only (mw q 4) [(4, 0)] && p ≤ 30)] s
    (okWith ([c 0, c 1, c 2] ++ (List.range 8).flatMap (fun k => (List.range 7).map (fun i => c (3 + 8 * k + i)) ++ [packW [(1, b2n (rateCapped s p k)), (31, 0)]]))
      (if q.clear then setEgress p { e with counts := [] } s else s))

def execSchedCounters (t : Nat) (q : Req) (s : State) : Host.Outcome State Fault Refusal := request t 0x0307 schedCounters q s

end Sys2Proof.Machine
end

