-- ==== Sys2Proof/Machine/StreamRequests.lean ====
section
/-!
DEFINITION. The STREAM family of requests (R569): identification, handles, filters, stream gates, meters, FRER.
-/
namespace Sys2Proof.Machine

/-! ### Identification (R158 to R163) -/

/-- A set that must keep the references between stream objects is staged, or refused with CONFLICT at word n (R243). -/
def stageChecked (n : Nat) (x : SetItem) (s : State) : Reply := if streamRefs (projectedWith x s) then stage x s else conflictAt n s

/-- An IP profile is staged, unless an entry uses it (R159). -/
def streamProfile (q : Req) (s : State) : Reply :=
  let i := mf q 4 1 0
  let p := projected s
  need 1 q [(4, only (mw q 4) [(14, 8), (1, 0)])] s
    (if mf q 4 14 8 ≠ ipProfileOf p i && p.fwd.ident.any (fun e => identFunc e.2 = 3 && identProfile e.2 = i) then conflictAt 4 s
     else stage (.ipProfile i (mf q 4 14 8)) s)

def execStreamIpProfile (t : Nat) (q : Req) (s : State) : Host.Outcome State Fault Refusal := request t 0x0401 streamProfile q s

/-- The checks of an identification entry by message word (R160). The value 0b00 of FUNC, which the spec lists as empty, is refused with RANGE in a write:
the model's choice (log entry 112). -/
def identChecks (r : Rec) : List (Nat × Bool) :=
  let f := identFunc r
  let ip := decide (f = 3)
  let v6 := identV6 r
  [(4, f ≠ 0 && identPort r ≤ 30 && fld r 0 20 14 = 0 && fld r 0 13 12 ≠ 3 && (ip || (!v6 && identProfile r = 0))),
   (6, fld r 2 15 12 = 0 && (!ip || fld r 2 17 16 = 0)), (7, ip || rw r 3 = 0), (8, ip || rw r 4 = 0),
   (9, (ip && v6) || rw r 5 = 0), (10, (ip && v6) || rw r 6 = 0), (11, rw r 7 = 0)]
    ++ (if v6 && ip then (List.range 4).map (fun i => (16 + i, decide (rw r (12 + i) = 0))) else [])

/-- Slots of a bucket held: an IPv6 entry holds its own and the next one. -/
def identHeld (s : State) (b : Nat) : List Nat :=
  (macWays b).flatMap (fun k => let r := tget [] s.fwd.ident k; if identFunc r = 0 then [] else if identV6 r then [k, k + 1] else [k])

/-- The slot that an entry takes in its bucket (R161). -/
def identPlace (s : State) (b : Nat) (v6 : Bool) : Option Nat :=
  let held := identHeld s b
  if v6 then [4 * b, 4 * b + 2].find? (fun k => !held.contains k && !held.contains (k + 1)) else (macWays b).find? (fun k => !held.contains k)

/-- Whether an entry equals another in key, IN_PORT and ANY_PORT (R161). -/
def identSame (s : State) (r e : Rec) : Bool :=
  let k := fun x => identKey (ipProfileOf s (identProfile x)) x
  identFunc e ≠ 0 && k e = k r && identAny e = identAny r && identPort e = identPort r

/-- An identification entry is placed and staged (R160, R161). -/
def streamIdPut (q : Req) (s : State) : Reply :=
  let r := q.args
  let v6 := identV6 r && identFunc r = 3
  let p := projected s
  let b := identBucket (identKey (ipProfileOf p (identProfile r)) r)
  need (if v6 then 16 else 8) q (identChecks r) s
    (match identPlace p b v6 with
     | none => tableFull s
     | some k =>
       if (macWays b).any (fun j => identSame p r (tget [] p.fwd.ident j)) then conflict s
       else (.stage (.streamId k r) [word k], s))

def execStreamIdWrite (t : Nat) (q : Req) (s : State) : Host.Outcome State Fault Refusal := request t 0x0402 streamIdPut q s

/-- The removal of an identification entry is staged (R161). -/
def streamIdDrop (q : Req) (s : State) : Reply :=
  need 1 q [(4, only (mw q 4) [(11, 0)])] s (stage (.streamId (mf q 4 11 0) []) s)

def execStreamIdDelete (t : Nat) (q : Req) (s : State) : Host.Outcome State Fault Refusal := request t 0x0403 streamIdDrop q s

/-- The word of a handle entry whose reference fails: FILT in the first, GEN and REC in the second (R163, R243). -/
def handleFault (s : State) (r : Rec) : Nat := if flag r 0 26 && !flag (filterOf (projected s) (fld r 0 25 14)).rec0 0 31 then 5 else 6

/-- A handle entry is staged (R163, R243). -/
def streamHandlePut (q : Req) (s : State) : Reply :=
  need 3 q [(4, only (mw q 4) [(11, 0)]), (5, only (mw q 5) [(31, 14)]), (6, only (mw q 6) [(31, 10)])] s
    (stageChecked (handleFault s (q.args.drop 1)) (.handle (mf q 4 11 0) (q.args.drop 1)) s)

def execStreamHandle (t : Nat) (q : Req) (s : State) : Host.Outcome State Fault Refusal := request t 0x0404 streamHandlePut q s

/-! ### Filters, gates and meters -/

/-- The word of a filter at fault: VALID and the gate in the first, the meter in the second (R243, R244). -/
def filterFault (s : State) (r : Rec) : Nat :=
  if !flag r 0 31 || (fiGateEn r && !flag (sgateOf (projected s) (fiGate r)).rec0 0 31) then 5 else 6

/-- A filter is staged (R243, R244). -/
def streamFilterPut (q : Req) (s : State) : Reply :=
  let sdu := mf q 5 30 17
  need 3 q [(4, only (mw q 4) [(11, 0)]), (5, only (mw q 5) [(31, 4)] && (sdu = 0 || (64 ≤ sdu && sdu ≤ 9216))), (6, only (mw q 6) [(31, 19)])] s
    (stageChecked (filterFault s (q.args.drop 1)) (.filter (mf q 4 11 0) (q.args.drop 1)) s)

def execStreamFilter (t : Nat) (q : Req) (s : State) : Host.Outcome State Fault Refusal := request t 0x0405 streamFilterPut q s

/-- A stream gate is staged; while an earlier list of the gate is to start, it is BUSY (R243, R246, R249). -/
def streamGatePut (q : Req) (s : State) : Reply :=
  let i := mf q 4 10 0
  let r := q.args.drop 1
  let cyc := (rw r 4).toNat
  need 6 q
    [(4, only (mw q 4) [(10, 0)]), (5, fld r 0 10 0 ≤ 1024 && fld r 0 23 11 + fld r 0 10 0 ≤ 8192), (8, fullOk (r.drop 1)),
     (9, 1000 ≤ cyc && cyc ≤ 1000000000)] s
    (if (sgateOf s i).busy then busy s
     else if !streamRefs (projectedWith (.gate i r) s) then conflictAt 5 s
     else stage (.gate i r) (setSgate i { sgateOf s i with busy := true } s))

def execStreamGate (t : Nat) (q : Req) (s : State) : Host.Outcome State Fault Refusal := request t 0x0406 streamGatePut q s

/-- Whether a list of a valid gate, in force or pending, holds an entry of a run of the pool (R248). -/
def poolUsed (s : State) (a n : Nat) : Bool :=
  let covers := fun (l : Option StreamList) => match l with | some l => decide (0 < l.len) && decide (l.off < a + n) && decide (a < l.off + l.len) | none => false
  s.str.gate.any (fun e => flag e.2.rec0 0 31 && (covers e.2.force || covers e.2.pending))

/-- The word of a pool entry that is out of range (R247). -/
def poolEntryFault (e : Word × Word) : Option Nat := if e.2.toNat < 8 then some 1 else none

/-- Entries of the stream gate pool are written (R247, R248). -/
def streamPool (q : Req) (s : State) : Reply :=
  let a := mf q 4 12 0
  let n := mf q 5 11 0
  needBulk 2 n q [(4, only (mw q 4) [(12, 0)]), (5, only (mw q 5) [(11, 0)] && 1 ≤ n && n ≤ 2048 && a + n ≤ 8192)] s (fun ws =>
    match badEntry 2 q poolEntryFault (pairsOf ws) with
    | some w => rangeAt w s
    | none =>
      if poolUsed s a n then conflictAt 4 s
      else ok { s with str := { s.str with pool := (pairsOf ws).zipIdx.foldl (fun p e => tset (0, 0) p (a + e.2) e.1) s.str.pool } })

def execStreamGatePool (t : Nat) (q : Req) (s : State) : Host.Outcome State Fault Refusal := request t 0x0407 streamPool q s

/-- A meter is staged (R243, R253). -/
def streamMeterPut (q : Req) (s : State) : Reply :=
  let r := q.args.drop 1
  let rateMax := if flag r 0 30 then 16777215 else 3125000000
  let sizeMax := if flag r 0 30 then 65535 else 2147483647
  let v := fun i => (rw r i).toNat
  need 6 q
    [(4, only (mw q 4) [(11, 0)]), (5, only (rw r 0) [(31, 27)]), (6, v 1 ≤ rateMax), (7, v 2 ≤ sizeMax), (8, v 3 ≤ rateMax && v 1 ≤ v 3), (9, v 4 ≤ sizeMax)] s
    (stageChecked 5 (.meter (mf q 4 11 0) r) s)

def execStreamMeter (t : Nat) (q : Req) (s : State) : Host.Outcome State Fault Refusal := request t 0x0408 streamMeterPut q s

/-! ### FRER -/

def streamGenerationPut (q : Req) (s : State) : Reply :=
  need 2 q [(4, only (mw q 4) [(9, 0)]), (5, only (mw q 5) [(31, 30), (15, 0)])] s (stageChecked 5 (.generation (mf q 4 9 0) (q.args.drop 1)) s)

def execStreamGeneration (t : Nat) (q : Req) (s : State) : Host.Outcome State Fault Refusal := request t 0x0409 streamGenerationPut q s

/-- A recovery function is staged (R243, R261). -/
def streamRecoveryPut (q : Req) (s : State) : Reply :=
  let r := q.args.drop 1
  let h := rvHistory r
  need 4 q
    [(4, only (mw q 4) [(9, 0)]), (5, only (rw r 0) [(31, 15)] && (flag r 0 30 || (2 ≤ h && h ≤ 32)) && 2 ≤ fld r 0 18 15 && fld r 0 18 15 ≤ 8),
     (6, 1 ≤ fld r 1 31 16), (7, 1 ≤ fld r 2 31 16 && 1 ≤ fld r 2 15 0 && fld r 2 31 16 ≤ fld r 2 15 0)] s
    (stageChecked 5 (.recovery (mf q 4 9 0) r) s)

def execStreamRecovery (t : Nat) (q : Req) (s : State) : Host.Outcome State Fault Refusal := request t 0x040A streamRecoveryPut q s

/-! ### Clearing and status -/

/-- A latch is cleared, unless it has been set in the same cycle (R245, R252, R256, R265). -/
def streamClearLatch (q : Req) (s : State) : Reply :=
  let now := some s.time.now
  let k := mf q 4 31 29
  let i := mf q 4 11 0
  need 1 q [(4, only (mw q 4) [(31, 29), (11, 0)] && k ≤ 3 && (k ≠ 1 || i < 2048) && (k ≠ 3 || i < 1024))] s
    (ok (match k with
      | 0 => setFilter i { filterOf s i with blocked := (filterOf s i).blocked && (filterOf s i).blockedAt = now } s
      | 1 => setSgate i { sgateOf s i with latched := (sgateOf s i).latched && (sgateOf s i).latchedAt = now } s
      | 2 =>
        let m := meterOf s i
        if m.markRed && m.redAt ≠ now then setMeter i { m with markRed := false, unmarked := now } s else s
      | _ => setRcv i { rcvOf s i with latent := (rcvOf s i).latent && (rcvOf s i).latentAt = now } s))

def execStreamClear (t : Nat) (q : Req) (s : State) : Host.Outcome State Fault Refusal := request t 0x040B streamClearLatch q s

/-- The record of R266 for a filter with its gate and meter. -/
def filterStatus (s : State) (i : Nat) : Rec :=
  let f := filterOf s i
  let g := if fiGateEn f.rec0 then sgateOf s (fiGate f.rec0) else {}
  let m := if fiMeterEn f.rec0 then meterOf s (fiMeter f.rec0) else {}
  let a := sgateAt s g (wtNow s)
  [packW [(1, b2n f.blocked), (1, b2n g.latched), (1, b2n a.1), (1, b2n m.markRed), (1, b2n g.pending.isSome), (11, a.2.2.2.1), (16, 0)],
   word f.matched, word f.passed, word f.sduDrop, word f.blockDrop, word g.gateDrop, word g.octetDrop, word m.green, word m.yellow, word m.redDrop,
   word (m.tc / 16777216), word (m.tp / 16777216), word g.lateStart]

/-- The counters that the record returns are cleared (R266, R560). -/
def clearFilter (i : Nat) (s : State) : State :=
  let f := filterOf s i
  let s1 := setFilter i { f with matched := 0, passed := 0, sduDrop := 0, blockDrop := 0 } s
  let s2 := if fiGateEn f.rec0 then setSgate (fiGate f.rec0) { sgateOf s1 (fiGate f.rec0) with gateDrop := 0, octetDrop := 0, lateStart := 0 } s1 else s1
  if fiMeterEn f.rec0 then setMeter (fiMeter f.rec0) { meterOf s2 (fiMeter f.rec0) with green := 0, yellow := 0, redDrop := 0 } s2 else s2

def streamFilterStat (q : Req) (s : State) : Reply :=
  let i := mf q 4 11 0
  need 1 q [(4, only (mw q 4) [(11, 0)])] s (okWith (filterStatus s i) (if q.clear then clearFilter i s else s))

def execStreamFilterStatus (t : Nat) (q : Req) (s : State) : Host.Outcome State Fault Refusal := request t 0x040C streamFilterStat q s

/-- FRER status (R267). -/
def streamFrerStat (q : Req) (s : State) : Reply :=
  let gi := mf q 4 9 0
  let ri := mf q 4 25 16
  let g := genOf s gi
  let r := rcvOf s ri
  need 1 q [(4, only (mw q 4) [(25, 16), (9, 0)])] s
    (okWith [packW [(16, g.seq), (16, r.r)], packW [(1, b2n r.takeAny), (1, b2n r.latent), (30, 0)], word g.generated, word r.passed, word r.dup, word r.ooo,
             word r.oooDiscard, word r.rogue, word r.lost, word r.tagless, word r.resets]
      (if q.clear then
        setRcv ri { r with passed := 0, dup := 0, ooo := 0, oooDiscard := 0, rogue := 0, lost := 0, tagless := 0, resets := 0 } (setGen gi { g with generated := 0 } s)
       else s))

def execStreamFrerStatus (t : Nat) (q : Req) (s : State) : Host.Outcome State Fault Refusal := request t 0x040D streamFrerStat q s

end Sys2Proof.Machine
end

