-- ==== Sys2Proof/Machine/FiltRequests.lean ====
section
/-!
DEFINITION. The FILT family of requests (R570): zones, rules, banks, dry run, tracker, bypass, log.
-/
namespace Sys2Proof.Machine

/-- The shadow bank. -/
def shadowBank (s : State) : Nat := 1 - s.fw.bank

def setRule (i : Nat) (r : Rec) (s0 : State) : State :=
  let s := fwNote id s0
  { s with fw := { s.fw with rule := tset [] s.fw.rule i r, hits := tset 0 s.fw.hits i 0, shadowHits := tset 0 s.fw.shadowHits i 0, bad := s.fw.bad.filter (· ≠ i) } }

/-- A shadow write: BUSY from the arming of a swap until it is applied (R277). -/
def shadowWrite (s : State) (k : Reply) : Reply := if s.fw.swapPend then busy s else k

/-! ### Zones (R271) -/

def memberOk (w : Word) : Bool :=
  let i := bits w 28 24
  only w [(31, 17)] && (match bits w 31 29 with
    | 0 => i ≤ 30 && bits w 18 17 = 0
    | 1 => i ≤ 23 && bits w 18 17 = 0
    | 2 => i ≤ 7 && bits w 18 17 = 0
    | 3 => i ≤ 7 && bits w 18 17 = 0
    | 4 => bits w 23 19 = 0
    | _ => false)

def zoneWrite (s0 : State) (w : Word) : State :=
  let s := fwNote id s0
  let b := shadowBank s
  let k := bits w 31 29
  if k = 4 then { s with fw := { s.fw with attr := tset 0 s.fw.attr (b * 32 + bits w 28 24) (bits w 18 17) } }
  else { s with fw := { s.fw with zone := tset 0 s.fw.zone (b * 256 + k * 32 + bits w 28 24) (bits w 23 19) } }

def filtZones (q : Req) (s : State) : Reply :=
  if q.args.length = 0 || 160 < q.args.length then rangeAt 0 s
  else match q.args.findIdx? (fun w => !memberOk w) with
    | some i => rangeAt (4 + i) s
    | none => shadowWrite s (ok (q.args.foldl zoneWrite s))

def execFiltZone (t : Nat) (q : Req) (s : State) : Host.Outcome State Fault Refusal := request t 0x0501 filtZones q s

/-! ### Rules (R274 to R281) -/

/-- Whether identifier bits fit a BUS format (R279). -/
def busIdOk (fmt id : Nat) : Bool := if fmt = 1 || fmt = 3 then true else if fmt = 5 then id < 64 else id < 2048

/-- The fields of key words 2 to 11 by exact key type (R279). -/
def exactFields : Nat → List (List (Nat × Nat))
  | 0 | 1 => [[(31, 0)], [(31, 0)], [(31, 20)]]
  | 2 => [[(31, 0)], [(31, 0)], [(31, 0)], [(31, 24)]]
  | 3 => [[(31, 0)], [(31, 0)], [(31, 0)], [(31, 0)], [(31, 0)], [(31, 0)], [(31, 0)], [(31, 0)], [(31, 0)], [(31, 24)]]
  | 4 => [[(31, 0)], [(31, 0)], [(31, 20)]]
  | _ => [[(31, 23)], [(28, 0)]]

/-- The fields of key words 2 to 6 by ternary key type (R280). -/
def ternaryFields : Nat → List (List (Nat × Nat))
  | 0 => [[(31, 0)], [(31, 0)], [(31, 0)], [(31, 1)]]
  | 2 => [[(31, 0)], [(31, 0)], [(31, 0)], [(31, 6)]]
  | 3 | 6 => [[(31, 0)], [(31, 0)], [(31, 0)], [(31, 0)], [(31, 8)]]
  | 4 => [[(31, 0)], [(31, 0)], [(31, 12)]]
  | _ => [[(31, 23)], [(28, 0)]]

/-- Words from i on keep within their fields; words beyond the list are 0. -/
def withinFields (r : Rec) (i n : Nat) (f : List (List (Nat × Nat))) : Bool := (List.range n).all (fun k => only (rw r (i + k)) (f.getD k []))

/-- The same word by word, each with its message word from m on and what else it must keep. -/
def withinWords (m : Nat) (r : Rec) (i n : Nat) (f : List (List (Nat × Nat))) (more : Nat → Bool) : List (Nat × Bool) :=
  (List.range n).map (fun k => (m + k, only (rw r (i + k)) (f.getD k []) && more k))

/-- Word 0 of an entry, exact or ternary (R278, R281). -/
def ruleWord0 (r : Rec) (exact : Bool) : Bool :=
  let k := ruKtype r
  let types := if exact then k ≤ 5 else k ≠ 1 && k ≠ 7
  fld r 0 12 0 = 0 && ruAction r ≤ 4 && types && !(exact && (ruSrcAny r || ruOverride r))
    && (!ruTrack r || (ruAction r = 1 && (k = 2 || k = 3 || (!exact && k = 6))))

/-- The first message word of an exact entry at fault. -/
def exactChecks (r : Rec) : List (Nat × Bool) :=
  let bus := decide (ruKtype r = 5)
  (4, ruleWord0 r true) :: (withinWords 6 r 2 10 (exactFields (ruKtype r)) (fun k =>
    !bus || (if k = 0 then fld r 2 26 24 ≤ 5 && (!flag r 2 23 || fld r 2 26 24 ≤ 1) else k ≠ 1 || busIdOk (fld r 2 26 24) (fld r 3 28 0))))

def exactBucket (r : Rec) : Nat := crc32 ([(5, ruSrcZone r), (3, ruKtype r)] ++ (ruKey r).map (fun w => (32, w.toNat))) % 3840

/-- The ways of a bucket of the exact table. -/
def exactWays (b : Nat) : List Nat := (List.range 8).map (fun i => 8 * b + i)

/-- Whether an entry of the bucket excludes a new one (R281). -/
def exactClash (r e : Rec) : Bool :=
  e ≠ [] && ruKtype e = ruKtype r && ruKey e = ruKey r && ruSrcZone e = ruSrcZone r && ((ruInBank e 0 && ruInBank r 0) || (ruInBank e 1 && ruInBank r 1))
    && (rw e 1 &&& rw r 1) ≠ 0

/-- An exact entry is placed (R275, R281). -/
def filtExact (q : Req) (s : State) : Reply :=
  let r := q.args
  let b := exactBucket r
  need 12 q (exactChecks r) s (shadowWrite s
    (if ruInBank r s.fw.bank then conflictAt 4 s
     else match (exactWays b).find? (fun i => ruleOf s i = []) with
       | none => tableFull s
       | some i => if (exactWays b).any (fun j => exactClash r (ruleOf s j)) then conflict s else okWith [word i] (setRule i r s)))

def execFiltExactRule (t : Nat) (q : Req) (s : State) : Host.Outcome State Fault Refusal := request t 0x0502 filtExact q s

/-- A ternary entry is written (R275, R280). -/
def filtTernary (q : Req) (s : State) : Reply :=
  let i := mf q 4 14 0
  let r := q.args.drop 1
  let f := ternaryFields (ruKtype r)
  need 13 q
    ([(4, only (mw q 4) [(14, 0)] && 30720 ≤ i), (5, ruleWord0 r false)]
      ++ withinWords 7 r 2 5 f (fun k => k ≠ 0 || ruKtype r ≠ 5 || fld r 2 26 24 ≤ 5) ++ withinWords 12 r 7 5 f (fun _ => true)) s
    (shadowWrite s (if ruInBank (ruleOf s i) s.fw.bank then conflictAt 4 s
      else if ruInBank r s.fw.bank then conflictAt 5 s else ok (setRule i r s)))

def execFiltTernaryRule (t : Nat) (q : Req) (s : State) : Host.Outcome State Fault Refusal := request t 0x0503 filtTernary q s

/-- The bit of a bank in word 0 of an entry. -/
def bankBit (b : Nat) (v : Bool) (r : Rec) : Rec := r.set 0 (putBits (rw r 0) (30 - b) (30 - b) (b2n v))

/-- The shadow-bank bit of an entry is set or cleared (R275); an index that holds no entry is refused. -/
def filtMember (q : Req) (s : State) : Reply :=
  let i := mf q 4 14 0
  need 1 q [(4, only (mw q 4) [(16, 16), (14, 0)])] s (shadowWrite s
    (if ruleOf s i = [] then rangeAt 4 s
     else ok { s with fw := { (fwNote id s).fw with rule := tset [] s.fw.rule i (bankBit (shadowBank s) (bit (mw q 4) 16) (ruleOf s i)) } }))

def execFiltMembership (t : Nat) (q : Req) (s : State) : Host.Outcome State Fault Refusal := request t 0x0504 filtMember q s

/-- An entry is deleted (R275, R570). -/
def filtDelete (q : Req) (s : State) : Reply :=
  let i := mf q 4 14 0
  need 1 q [(4, only (mw q 4) [(14, 0)])] s (shadowWrite s (if ruInBank (ruleOf s i) s.fw.bank then conflictAt 4 s else ok (setRule i [] s)))

def execFiltRuleDelete (t : Nat) (q : Req) (s : State) : Host.Outcome State Fault Refusal := request t 0x0505 filtDelete q s

/-- The enforcing bank is copied into the shadow bank (R276). -/
def bankCopy (s0 : State) : State :=
  let s := fwNote id s0
  let e := s.fw.bank
  let d := shadowBank s
  let zones := (s.fw.zone.filter (fun x => x.1 / 256 ≠ d))
  let attrs := (s.fw.attr.filter (fun x => x.1 / 32 ≠ d))
  { s with fw := { s.fw with
    rule := tmap [] s.fw.rule (fun _ r => bankBit d (ruInBank r e) r)
    zone := zones.foldl (fun t x => if x.1 / 256 = e then tset 0 t (d * 256 + x.1 % 256) x.2 else t) zones
    attr := attrs.foldl (fun t x => if x.1 / 32 = e then tset 0 t (d * 32 + x.1 % 32) x.2 else t) attrs } }

def filtCopy (q : Req) (s : State) : Reply := need 0 q [] s (shadowWrite s (ok (bankCopy s)))

def execFiltBankCopy (t : Nat) (q : Req) (s : State) : Host.Outcome State Fault Refusal := request t 0x0506 filtCopy q s

/-- The swap of the banks is staged (R277). -/
def filtSwapBanks (q : Req) (s : State) : Reply := need 0 q [] s (stage .fwSwap s)

def execFiltSwap (t : Nat) (q : Req) (s : State) : Host.Outcome State Fault Refusal := request t 0x0507 filtSwapBanks q s

/-- Dry run (R293, R294). -/
def filtDry (q : Req) (s : State) : Reply :=
  let n := mf q 4 12 0
  let on := bit (mw q 4) 31
  need 1 q [(4, only (mw q 4) [(31, 31), (12, 0)] && n ≤ 4096)] s
    (ok { s with fw := { s.fw with dryRun := on, diffCapture := n, diffLeft := if on then n else s.fw.diffLeft } })

def execFiltDryRun (t : Nat) (q : Req) (s : State) : Host.Outcome State Fault Refusal := request t 0x0508 filtDry q s

/-! ### Tracker (R290, R292) -/

def filtTimeouts (q : Req) (s : State) : Reply :=
  need 2 q [(4, 1 ≤ mf q 4 31 16 && 1 ≤ mf q 4 15 0), (5, 1 ≤ mf q 5 31 16 && 1 ≤ mf q 5 15 0)] s
    (ok { s with fw := { s.fw with toNew := mf q 4 31 16, toClose := mf q 4 15 0, toUdp := mf q 5 31 16, toTcp := mf q 5 15 0 } })

def execFiltTracker (t : Nat) (q : Req) (s : State) : Host.Outcome State Fault Refusal := request t 0x0509 filtTimeouts q s

/-- Tracker entries are flushed; what the flush covers stays away in its cycle (R292, R302, R303). -/
def filtFlush (q : Req) (s0 : State) : Reply :=
  let s := fwNote (fun c => { c with flushes := mw q 4 :: c.flushes }) s0
  let keep := s.fw.tracker.filter (fun e => !flushCovers (mw q 4) e.2)
  need 1 q [(4, only (mw q 4) [(31, 20), (14, 0)] && mf q 4 31 30 ≠ 3)] s0
    (okWith [word (s.fw.tracker.length - keep.length)] (fwEvent 3 0 { s with fw := { s.fw with tracker := keep } }))

def execFiltTrackerFlush (t : Nat) (q : Req) (s : State) : Host.Outcome State Fault Refusal := request t 0x050A filtFlush q s

def filtTrackRead (q : Req) (s : State) : Reply :=
  let a := mf q 4 12 0
  let n := mf q 5 6 0
  need 2 q [(4, only (mw q 4) [(12, 0)]), (5, only (mw q 5) [(6, 0)] && 1 ≤ n && n ≤ 64)] s
    (okWith ((List.range (min n (8192 - a))).flatMap (fun i => padRec 12 (tget [] s.fw.tracker (a + i)))) s)

def execFiltTrackerRead (t : Nat) (q : Req) (s : State) : Host.Outcome State Fault Refusal := request t 0x050B filtTrackRead q s

/-! ### Bypass and log (R296, R297, R300) -/

/-- A bypass starts, or starts anew; one of the pair that has run out ends before it (R296, R303). -/
def startBypass (src dst sec : Nat) (s0 : State) : Reply :=
  let s := if bypassed s0 src dst then s0 else endBypass src dst s0
  let rest := s.fw.bypass.filter (fun b => !(b.1 = src && b.2.1 = dst))
  if 8 ≤ (rest.filter (fun b => s.time.now < b.2.2)).length then tableFull s
  else ok (fwEvent 5 0 { s with fw := { s.fw with bypass := rest ++ [(src, dst, s.time.now + sec * 1000000000)] } })

def filtBypassPair (q : Req) (s : State) : Reply :=
  let n := mf q 4 11 0
  let on := bit (mw q 4) 31
  need 1 q [(4, only (mw q 4) [(31, 21), (11, 0)] && (!on || (1 ≤ n && n ≤ 3600)))] s
    (if on then startBypass (mf q 4 30 26) (mf q 4 25 21) n s else ok (endBypass (mf q 4 30 26) (mf q 4 25 21) s))

def execFiltBypass (t : Nat) (q : Req) (s : State) : Host.Outcome State Fault Refusal := request t 0x050C filtBypassPair q s

def filtLogRate (q : Req) (s : State) : Reply :=
  let r := mf q 4 19 0
  let b := mf q 5 15 0
  need 2 q [(4, only (mw q 4) [(19, 0)] && 1 ≤ r && r ≤ 1000000), (5, only (mw q 5) [(15, 0)] && 1 ≤ b)] s
    (ok { s with fw := { s.fw with logRate := r, logBurst := b, tokens := min s.fw.tokens (b * 1000000000) } })

def execFiltLog (t : Nat) (q : Req) (s : State) : Host.Outcome State Fault Refusal := request t 0x050D filtLogRate q s

/-! ### Status (R301) -/

def filtStat (q : Req) (s : State) : Reply :=
  need 0 q [] s
    (okWith ([packW [(1, s.fw.bank), (1, b2n s.fw.dryRun), (4, (liveBypass s).length), (26, 0)], word s.fw.tracker.length]
        ++ (List.range 6).map (fun i => word (tget 0 s.fw.counts (2 + i))))
      (if q.clear then { s with fw := { s.fw with counts := recounted s 0 (fun _ => true) [] } } else s))

def execFiltStatus (t : Nat) (q : Req) (s : State) : Host.Outcome State Fault Refusal := request t 0x050E filtStat q s

def filtPairs (q : Req) (s : State) : Reply :=
  let z := mf q 4 4 0
  need 1 q [(4, only (mw q 4) [(4, 0)])] s
    (okWith ((List.range 160).map (fun i => word (tget 0 s.fw.pairs (z * 160 + i))))
      (if q.clear then { s with fw := { s.fw with pairs := recounted s 1 (fun k => k / 160 = z) (clearRange (z * 160) 160 s.fw.pairs) } } else s))

def execFiltZoneCounters (t : Nat) (q : Req) (s : State) : Host.Outcome State Fault Refusal := request t 0x050F filtPairs q s

def filtHits (q : Req) (s : State) : Reply :=
  let i := mf q 4 14 0
  need 1 q [(4, only (mw q 4) [(14, 0)])] s
    (okWith [word (tget 0 s.fw.hits i), word (tget 0 s.fw.shadowHits i)]
      (if q.clear then { s with fw := { s.fw with
          hits := recounted s 2 (· = i) (tset 0 s.fw.hits i 0), shadowHits := recounted s 3 (· = i) (tset 0 s.fw.shadowHits i 0) } } else s))

def execFiltRuleCounters (t : Nat) (q : Req) (s : State) : Host.Outcome State Fault Refusal := request t 0x0510 filtHits q s

end Sys2Proof.Machine
end

