-- ==== Sys2Proof/Machine/GwRequests.lean ====
section
/-!
DEFINITION. The GW family of requests (R571, R572): CAN controllers, LIN buses, routes, tunnels, authentication.
-/
namespace Sys2Proof.Machine

/-! ### CAN controllers -/

/-- Timing fields of a data phase word in range (R305). -/
def dataTimingOk (w : Word) : Bool :=
  let brp := bits w 31 26
  let t1 := bits w 25 19
  let t2 := bits w 18 13
  let sjw := bits w 12 7
  1 ≤ brp && brp ≤ 32 && 1 ≤ t1 && 1 ≤ t2 && 1 ≤ sjw && sjw ≤ t2

/-- The bit time of a data phase in cycles of 5 ns. -/
def dataTime (w : Word) : Nat := bits w 31 26 * (1 + bits w 25 19 + bits w 18 13)

/-- A bit time of n cycles of 5 ns is no faster than a rate in bit/s (R306). -/
def rateAtMost (rate n : Nat) : Bool := 200000000 ≤ rate * n

/-- The checks of a controller record by message word (R305, R306). -/
def controllerChecks (r : Rec) : List (Nat × Bool) :=
  let proto := fld r 0 24 22
  let pwm := flag r 0 21
  let nt := fld r 1 31 23 * (1 + fld r 1 22 14 + fld r 1 13 7)
  [(4, fld r 0 31 27 ≤ 23 && fld r 0 26 25 ≠ 3 && proto ≤ 2 && fld r 0 18 14 ≤ 16 && fld r 0 4 0 = 0),
   (5, 1 ≤ fld r 1 31 23 && fld r 1 31 23 ≤ 256 && 2 ≤ fld r 1 22 14 && fld r 1 22 14 ≤ 256 && 2 ≤ fld r 1 13 7 && 1 ≤ fld r 1 6 0 && fld r 1 6 0 ≤ fld r 1 13 7
       && rateAtMost 1000000 nt),
   (6, dataTimingOk (rw r 2) && (proto = 0 || rateAtMost 8000000 (dataTime (rw r 2)))),
   (7, dataTimingOk (rw r 3) && (proto ≠ 2 || rateAtMost (if pwm then 20000000 else 8000000) (dataTime (rw r 3)))),
   (8, 1 ≤ fld r 4 31 26 && 1 ≤ fld r 4 25 20 && fld r 4 13 0 = 0 && (!pwm || fld r 4 31 26 + fld r 4 25 20 = dataTime (rw r 3)))]

/-- A controller record waits for the end of the frame on the bus, CAN_CONTROLLER_APPLY; a controller that is off acts at once (R305, R307). -/
def gwControllerPut (q : Req) (s : State) : Reply :=
  let b := mf q 4 31 27
  need 6 q (controllerChecks q.args) s 
    (let s1 := setCan b { canOf s b with next := some q.args } s
     ok (if fld (canOf s b).rec0 0 26 25 = 0 then canApply b s1 else s1))

def execGwController (t : Nat) (q : Req) (s : State) : Host.Outcome State Fault Refusal := request t 0x0601 gwControllerPut q s

/-- Whether a length suits a format (R304, R332). -/
def lengthFits (fmt n : Nat) : Bool := if fmt < 2 then n ≤ 8 else if fmt < 4 then fdLengths.contains n else 1 ≤ n && n ≤ 2048

/-- Bits of an identifier of a format (R279). -/
def idWidth (fmt : Nat) : Nat := if fmt = 1 || fmt = 3 then 29 else if fmt = 5 then 6 else 11

/-- The frame that a CAN-send request carries (R572). -/
def sendFrame (q : Req) : CanFrame :=
  let fmt := mf q 4 26 24
  let n := mf q 4 11 0
  { format := fmt, rtr := bit (mw q 4) 23, brs := bit (mw q 4) 22, dlc := if fmt = 4 then 0 else dlcOf n, id := mf q 5 28 0
    sdt := mf q 6 31 24, vcid := mf q 6 23 16, sec := bit (mw q 6) 15, af := if fmt = 4 then mw q 7 else 0, data := (recBytes (q.args.drop 6)).take n }

/-- The host places a frame in a slot of its own (R310, R317, R572, R584). -/
def gwSend (q : Req) (s : State) : Reply :=
  let b := mf q 4 31 27
  let fmt := mf q 4 26 24
  let n := mf q 4 11 0
  let launch := if bit (mw q 4) 21 then some (ofShort (wtNow s) (mw q 9).toNat) else none
  need (6 + (n + 3) / 4) q
    [(4, b ≤ 23 && fmt ≤ 4 && mf q 4 20 12 = 0 && lengthFits fmt n && (!bit (mw q 4) 23 || fmt < 2)), (5, (mw q 5).toNat < 2 ^ idWidth fmt),
     (6, only (mw q 6) (if fmt = 4 then [(31, 24), (23, 16), (15, 15)] else []))] s
    (if !protoHas (canOf s b).rec0 fmt && canMode (canOf s b) ≠ 0 then conflictAt 4 s
     else if (canOf s b).busOff || !owns s b then busy s
     else match freeSlot (canOf s b) true with
       | none => busy s
       | some i => okWith [word i] (fillSlot b i { f := sendFrame q, route := 0, origin := srcOrigin b, launch := launch } true (mw q 8) s))

def execGwCanSend (t : Nat) (q : Req) (s : State) : Host.Outcome State Fault Refusal := request t 0x0602 gwSend q s

/-- The host aborts a slot, at the end of the cycle: an SOF of that cycle stands (R354). -/
def gwAbort (q : Req) (s : State) : Reply :=
  let b := mf q 4 31 27
  let i := mf q 4 4 0
  let c := canOf s b
  need 1 q [(4, only (mw q 4) [(31, 27), (4, 0)] && b ≤ 23)] s
    (ok (match tget none c.slots i with
      | none => s
      | some x => giveWay (.slotAbort b i) (setCan b { c with slots := tset none c.slots i (some { x with abort := true }) } s)))

def execGwCanAbort (t : Nat) (q : Req) (s : State) : Host.Outcome State Fault Refusal := request t 0x0603 gwAbort q s

/-- The recover command starts recovery where AUTO_RECOVER is clear (R317). -/
def gwRecovery (q : Req) (s : State) : Reply :=
  let b := mf q 4 4 0
  let c := canOf s b
  need 1 q [(4, only (mw q 4) [(4, 0)] && b ≤ 23)] s (ok (if c.busOff && !flag c.rec0 0 19 then setCan b { c with recovering := true } s else s))

def execGwRecover (t : Nat) (q : Req) (s : State) : Host.Outcome State Fault Refusal := request t 0x0604 gwRecovery q s

/-! ### LIN buses -/

/-- A LIN record waits for the end of the slot in progress, or acts at once (R321). -/
def gwLinPut (q : Req) (s : State) : Reply :=
  let b := mf q 4 31 29
  need 2 q [(4, mf q 4 28 27 ≤ 1 && 13 ≤ mf q 4 26 22 && mf q 4 26 22 ≤ 26 && mf q 4 19 0 = 0),
            (5, 1000 ≤ mf q 5 31 16 && mf q 5 31 16 ≤ 20000 && mf q 5 15 0 = 0)] s
    (ok (linApply b (setLin b { linOf s b with next := some q.args } s)))

def execGwLin (t : Nat) (q : Req) (s : State) : Host.Outcome State Fault Refusal := request t 0x0605 gwLinPut q s

/-- The word of a pool entry that is out of range (R322). -/
def linEntryFault (e : Word × Word) : Option Nat :=
  if 1 < bits e.1 31 30 || bits e.1 21 18 = 0 || 8 < bits e.1 21 18 || bits e.1 13 0 ≠ 0 then some 0
  else if bits e.2 31 12 = 0 || bits e.2 11 0 ≠ 0 then some 1 else none

/-- Whether a table in force, interrupted or pending on a bus holds an entry of a run of the pool (R248, R322). -/
def linPoolUsed (s : State) (a n : Nat) : Bool :=
  s.gw.lin.any (fun e =>
    let l := e.2
    let covers := fun (t : Option Nat) => match t with
      | some t => let h := linHeadOf l t; decide (fld h 0 23 13 < a + n) && decide (a < fld h 0 23 13 + fld h 0 12 6)
      | none => false
    covers l.table || covers l.back || covers (l.pend.getD none))

/-- Entries of the LIN pool are written (R322). -/
def gwPool (q : Req) (s : State) : Reply :=
  let a := mf q 4 10 0
  let n := mf q 5 11 0
  needBulk 2 n q [(4, only (mw q 4) [(10, 0)]), (5, only (mw q 5) [(11, 0)] && 1 ≤ n && n ≤ 2048 && a + n ≤ 2048)] s (fun ws =>
    match badEntry 2 q linEntryFault (pairsOf ws) with
    | some w => rangeAt w s
    | none =>
      if linPoolUsed s a n then conflictAt 4 s
      else ok { s with gw := { s.gw with pool := (pairsOf ws).zipIdx.foldl (fun p e => tset (0, 0) p (a + e.2) e.1) s.gw.pool } })

def execGwLinPool (t : Nat) (q : Req) (s : State) : Host.Outcome State Fault Refusal := request t 0x0606 gwPool q s

/-- Whether an entry suits a bus (R323): its slot is long enough, an event-triggered one does not publish, and its table has a header. -/
def linEntrySuits (l : Lin) (e : Nat × Word × Word) : Bool :=
  let r := l.next.getD l.rec0
  let bt := fld r 0 26 22 + fld r 0 21 20 + 1 + 20 + 10 * (bits e.2.1 21 18 + 1)
  14 * bt * 1000000 ≤ 10 * bits e.2.2 31 12 * fld r 1 31 16
    && (bits e.2.1 31 30 ≠ 1 || (!bit e.2.1 23 && linHeadOf l (bits e.2.1 17 14) ≠ []))

/-- The header of a LIN table is written (R322, R323). -/
def gwTable (q : Req) (s : State) : Reply :=
  let h := q.args
  let b := fld h 0 31 29
  let l := linOf s b
  let l1 := { l with head := tset [] l.head (fld h 0 28 25) h }
  need 4 q [(4, fld h 0 24 24 = 0 && fld h 0 5 0 = 0 && 1 ≤ fld h 0 12 6 && fld h 0 12 6 ≤ 64 && fld h 0 23 13 + fld h 0 12 6 ≤ 2048
               && (linEntries s h).all (linEntrySuits l1)), (7, fullOk (h.drop 1))] s
    (ok (setLin b l1 s))

def execGwLinTable (t : Nat) (q : Req) (s : State) : Host.Outcome State Fault Refusal := request t 0x0607 gwTable q s

/-- The selection of a table is staged (R325). -/
def gwSelect (q : Req) (s : State) : Reply :=
  let b := mf q 4 31 29
  let none0 := bit (mw q 4) 4
  need 1 q [(4, only (mw q 4) [(31, 29), (4, 0)] && (none0 || linHeadOf (linOf s b) (mf q 4 3 0) ≠ []))] s
    (stage (.linSelect b (if none0 then none else some (mf q 4 3 0))) s)

def execGwLinSelect (t : Nat) (q : Req) (s : State) : Host.Outcome State Fault Refusal := request t 0x0608 gwSelect q s

/-- The host writes a publish buffer (R326, R571). -/
def gwPublish (q : Req) (s : State) : Reply :=
  let b := mf q 4 31 29
  let n := mf q 4 11 8
  let fid := mf q 4 5 0
  need 3 q [(4, only (mw q 4) [(31, 29), (11, 8), (5, 0)] && 1 ≤ n && n ≤ 8 && pubLen s b fid = some n)] s
    (ok (setLin b { linOf s b with pub := tset none (linOf s b).pub fid (some ((recBytes (q.args.drop 1)).take n)) } s))

def execGwLinPublish (t : Nat) (q : Req) (s : State) : Host.Outcome State Fault Refusal := request t 0x0609 gwPublish q s

/-! ### Routes, tunnels, authentication -/

/-- The checks of a route record by message word (R328, R330). exact: the entry is exact. -/
def routeChecks (r : Rec) (exact : Bool) : List (Nat × Bool) :=
  let src := roSrc r
  let fmt := fld r 0 23 21
  let out := fld r 3 21 19
  let bus := decide (src < 32)
  let lin := fld r 2 31 24 ≠ 0
  [(5, (bus || 64 ≤ src) && fmt ≤ 5 && (!flag r 0 20 || fmt < 2) && (bus || !flag r 0 19) && fld r 0 17 16 ≠ 3 && (fld r 0 17 16 ≠ 2 || !bus) && fld r 0 15 0 = 0),
   (6, (rw r 1).toNat < 2 ^ idWidth fmt),
   (7, !lin || flag r 3 22 || (rw r 1).toNat ≤ 63),
   (8, out ≤ 4 && fld r 3 6 0 = 0 && (!flag r 3 31 || (!(decide (24 ≤ src) && bus) && fmt ≠ 4 && out ≠ 4)) && (!flag r 3 18 || out ≠ 4)),
   (9, (rw r 4).toNat < 2 ^ 29 && (!lin || (rw r 4).toNat ≤ 63)),
   (10, fld r 5 4 0 = 0), (11, !flag r 6 31), (12, if exact then rw r 7 = 0 else (rw r 7).toNat < 2 ^ 29)]

/-- Whether two exact entries have the same key (R329). -/
def routeSame (a b : Rec) : Bool := flag b 0 31 && decide (roKey a = roKey b) && decide (fld a 1 28 0 = fld b 1 28 0)

/-- The word of a route whose reference fails: its tunnel and verification, or its secured transmission (R328, R330). -/
def routeFault (s : State) (r : Rec) : Nat :=
  let p := projected s
  if (flag r 3 31 && !flag (tunnelOf p (fld r 3 30 23)).rec0 0 31) || (flag r 3 17 && !flag (authRec p (fld r 3 16 7)) 0 31) then 8 else 10

/-- A route is placed, written or removed by a staged set (R328 to R330). -/
def gwRoutePut (q : Req) (s : State) : Reply :=
  let k := mf q 4 15 0
  let r := q.args.drop 1
  let valid := flag r 0 31
  let p := projected s
  let ways := macWays (routeBucket (roSrc r) (fld r 0 23 21) (flag r 0 20) (fld r 1 28 0))
  let put := fun (k : Nat) => if routeRefs (projectedWith (.route k r) s) then ((.stage (.route k r) [word k], s) : Reply) else conflictAt (routeFault s r) s
  let twin := fun (k : Option Nat) => ways.any (fun j => decide (k ≠ some j) && routeSame r (tget [] p.gw.route j))
  need 9 q ([(4, only (mw q 4) [(15, 0)] && (k = 0xFFFF || k < 8192) && (k ≠ 0xFFFF || valid) && (!valid || k = 0xFFFF || 7680 ≤ k || ways.contains k))]
      ++ routeChecks r (k = 0xFFFF || k < 7680)) s
    (if k = 0xFFFF then
      match ways.find? (fun j => !flag (tget [] p.gw.route j) 0 31) with
      | none => tableFull s
      | some j => if twin none then conflict s else put j
     else if valid && k < 7680 && twin (some k) then conflict s
     else put k)

def execGwRoute (t : Nat) (q : Req) (s : State) : Host.Outcome State Fault Refusal := request t 0x060A gwRoutePut q s

/-- A set that must keep the references of routes is staged, or refused with CONFLICT at word n (R330). -/
def stageRouted (n : Nat) (x : SetItem) (s : State) : Reply := if routeRefs (projectedWith x s) then stage x s else conflictAt n s

/-- A transmit tunnel record is staged (R335). -/
def gwTunnelPut (q : Req) (s : State) : Reply :=
  let r := q.args
  let size := 22 + (if flag r 0 22 then 24 else 12) + fld r 5 15 0
  need 8 q
    [(4, 1 ≤ fld r 0 17 6 && fld r 0 17 6 ≤ 4094 && fld r 0 4 0 = 0), (6, 1 ≤ fld r 2 15 8 && fld r 2 15 8 ≤ 64 && fld r 2 7 0 = 0),
     (9, 24 ≤ fld r 5 15 0 && fld r 5 15 0 ≤ 1488 && size ≤ bpMaxLen (bridgeOf s 30)), (10, !flag r 6 31)] s
    (stageRouted 4 (.tunnel (fld r 0 30 23) r) s)

def execGwTunnel (t : Nat) (q : Req) (s : State) : Host.Outcome State Fault Refusal := request t 0x060B gwTunnelPut q s

/-- A receive tunnel is staged (R339). -/
def gwReceive (q : Req) (s : State) : Reply :=
  need 4 q [(4, only (mw q 4) [(31, 30), (5, 0)])] s (stage (.rxTunnel (mf q 4 5 0) q.args) s)

def execGwReceiveTunnel (t : Nat) (q : Req) (s : State) : Host.Outcome State Fault Refusal := request t 0x060C gwReceive q s

/-- The source address of the gateway (R338). -/
def gwSource (q : Req) (s : State) : Reply :=
  need 2 q [(5, only (mw q 5) [(31, 16)])] s (ok { s with gw := { s.gw with addr := (mw q 4).toNat * 65536 + mf q 5 31 16 } })

def execGwSettings (t : Nat) (q : Req) (s : State) : Host.Outcome State Fault Refusal := request t 0x060D gwSource q s

/-- FRESH as the auth command leaves it (R346). -/
def freshWritten (s : State) (e : Nat) (generate : Bool) (v : Nat) : Nat :=
  let now := tget 0 s.gw.fresh e
  if s.gw.freshLost.contains e then v
  else if generate || decide (tget 0 s.gw.freshAt e = s.time.now + 1) then max now v else v

/-- An authentication record is staged, and its FRESH written at once (R341, R346). -/
def gwAuthPut (q : Req) (s : State) : Reply :=
  let e := mf q 4 9 0
  let r := q.args.drop 1
  let v := cat64 (rw r 2) (rw r 3)
  let gen := flag r 0 30
  let r0 := (r.set 2 0).set 3 0
  need 7 q
    [(4, only (mw q 4) [(9, 0)]), (5, 3 ≤ fld r 0 20 16 && fld r 0 20 16 ≤ 16 && fld r 0 15 12 ≤ 8 && fld r 0 11 0 = 0),
     (7, !gen || tget 0 s.gw.fresh e ≤ v), (9, gen || rw r 4 ≠ 0), (10, fld r 5 15 4 ≤ 2048 && fld r 5 3 0 = 0)] s
    (if routeRefs (projectedWith (.auth e r0) s) then stage (.auth e r0) (setFresh e (freshWritten s e gen v) { s with gw := { s.gw with freshLost := s.gw.freshLost.filter (· ≠ e) } })
     else conflictAt 5 s)

def execGwAuth (t : Nat) (q : Req) (s : State) : Host.Outcome State Fault Refusal := request t 0x060E gwAuthPut q s

/-! ### Status -/

/-- The CAN record of R351. -/
def canStatus (s : State) (b : Nat) : Rec :=
  let c := canOf s b
  let st := if canMode c = 0 || c.integ then 3 else if c.busOff then 2 else if errClass c.tec c.rec1 = 2 then 1 else 0
  [packW [(2, st), (1, b2n (96 ≤ c.tec || 96 ≤ c.rec1)), (2, canModeNow s b), (6, (c.slots.filter (fun e => e.2.isSome)).length), (21, 0)],
   packW [(8, min c.tec 255), (8, min c.rec1 128), (16, c.busOffs)]] ++ (List.range 13).map (fun i => word (tget 0 c.counts (i + 2)))

def gwCanStat (q : Req) (s : State) : Reply :=
  let b := mf q 4 4 0
  need 1 q [(4, only (mw q 4) [(4, 0)] && b ≤ 23)] s
    (okWith (canStatus s b) (if q.clear then setCan b { canOf s b with counts := [], busOffs := 0 } s else s))

def execGwCanStatus (t : Nat) (q : Req) (s : State) : Host.Outcome State Fault Refusal := request t 0x060F gwCanStat q s

/-- The LIN record of R351. -/
def linStatus (s : State) (b : Nat) : Rec :=
  let l := linOf s b
  packW [(1, b2n l.table.isSome), (4, l.table.getD 0), (6, if l.table.isSome then l.idx else 0), (1, b2n l.pend.isSome), (4, (l.pend.getD none).getD 0), (16, 0)]
    :: (List.range 9).map (fun i => word (tget 0 l.counts (i + 1)))

def gwLinStat (q : Req) (s : State) : Reply :=
  let b := mf q 4 2 0
  need 1 q [(4, only (mw q 4) [(2, 0)])] s (okWith (linStatus s b) (if q.clear then setLin b { linOf s b with counts := [] } s else s))

def execGwLinStatus (t : Nat) (q : Req) (s : State) : Host.Outcome State Fault Refusal := request t 0x0610 gwLinStat q s

/-- The drops of a place, codes 0x01 to 0x12 (R349). -/
def gwDropStat (q : Req) (s : State) : Reply :=
  let p := mf q 4 5 0
  need 1 q [(4, only (mw q 4) [(5, 0)] && p ≤ 32)] s
    (okWith ((List.range 18).map (fun i => word (tget 0 s.gw.drops (p * 32 + i + 1))))
      (if q.clear then { s with gw := { s.gw with drops := clearRange (p * 32) 32 s.gw.drops } } else s))

def execGwDrops (t : Nat) (q : Req) (s : State) : Host.Outcome State Fault Refusal := request t 0x0611 gwDropStat q s

/-- The counters of a tunnel (R351). -/
def gwTunnelStat (q : Req) (s : State) : Reply :=
  let i := mf q 4 7 0
  let rx := bit (mw q 4) 8
  let x := rxTunnelOf s i
  let v := tunnelOf s i
  need 1 q [(4, only (mw q 4) [(8, 0)] && (!rx || i ≤ 63))] s
    (if rx then okWith [word x.frames, word x.messages, word x.seqGap, word x.acfOther]
        (if q.clear then setRxTunnel i { x with frames := 0, messages := 0, seqGap := 0, acfOther := 0 } s else s)
     else okWith [word v.frames, word v.messages, 0, 0] (if q.clear then setTunnel i { v with frames := 0, messages := 0 } s else s))

def execGwTunnelStatus (t : Nat) (q : Req) (s : State) : Host.Outcome State Fault Refusal := request t 0x0612 gwTunnelStat q s

/-- The frames that matched a route (R351). -/
def gwRouteStat (q : Req) (s : State) : Reply :=
  let k := mf q 4 12 0
  need 1 q [(4, only (mw q 4) [(12, 0)])] s
    (okWith [word (tget 0 s.gw.hits k)] (if q.clear then { s with gw := { s.gw with hits := tset 0 s.gw.hits k 0 } } else s))

def execGwRouteStatus (t : Nat) (q : Req) (s : State) : Host.Outcome State Fault Refusal := request t 0x0613 gwRouteStat q s

end Sys2Proof.Machine
end

