-- ==== Sys2Proof/Machine/NmRequests.lean ====
section
/-!
DEFINITION. The NM family of requests (R573): wake sources, standby, segments, host requests, settings, the offender log, status.
-/
namespace Sys2Proof.Machine

/-- A wake source is configured (R359). Fields of pins alone must be 0 elsewhere (R555). -/
def nmSourcePut (q : Req) (s : State) : Reply :=
  let i := mf q 4 31 27
  let pin := decide (i < 16)
  let second := s.nm.source.any (fun e => e.1 ≠ i && wsIgn e.2)
  need 3 q [(4, mf q 4 13 0 = 0 && (pin || (mf q 4 25 24 = 0 && mf q 4 22 14 = 0)) && !(bit (mw q 4) 22 && second)), (5, mf q 5 31 28 = 0)] s
    (ok (setSource i { sourceOf s i with rec0 := q.args } s))

def execNmWakeSource (t : Nat) (q : Req) (s : State) : Host.Outcome State Fault Refusal := request t 0x0701 nmSourcePut q s

/-- Standby entry is asked for; it is refused while a managed segment is AWAKE or in PREPARE (R363), or a download, an activation or a fuse write is in
flight (R624). -/
def nmStandbyGo (q : Req) (s : State) : Reply :=
  need 2 q [(4, only (mw q 4) [(1, 0)])] s
    (if (List.range 60).any (fun i => segManaged (segOf s i) && (segOf s i).state ≤ 1)
        || inFlight s (fun op => op = 0x0D02 || op = 0x0D03) || fuseBusy s then busy s
     else ok (startEntry (mf q 4 1 0) (regPut (rCROCUS 0x00) 31 30 (mf q 4 1 0) (regPut (rCROCUS 0x04) 31 0 (mw q 5).toNat s))))

def execNmStandby (t : Nat) (q : Req) (s : State) : Host.Outcome State Fault Refusal := request t 0x0702 nmStandbyGo q s

/-- The checks of a segment record by message word (R368). -/
def segmentChecks (r : Rec) : List (Nat × Bool) :=
  let i := fld r 0 31 26
  let port := segIsPort i
  let can := segIsCan i
  [(4, i ≤ 59 && fld r 0 4 0 = 0 && (port || (fld r 0 23 16 = 0 && fld r 0 9 7 = 0)) && (if can then fld r 0 6 5 ≠ 3 else fld r 0 6 5 = 0)
      && (!segIsLin i || !flag r 0 24)),
   (5, 100 ≤ fld r 1 31 18 && fld r 1 31 18 ≤ 10000 && fld r 1 17 7 ≤ 2000 && fld r 1 6 0 = 0),
   (6, 10 ≤ fld r 2 31 21 && fld r 2 31 21 ≤ 2000 && (!can || fld r 2 20 5 ≤ 255) && fld r 2 4 0 = 0),
   (7, if can then fld r 3 30 29 = 0 && fld r 3 28 0 ≤ fld r 4 28 0 else if port then fld r 3 31 16 = 0 else rw r 3 = 0),
   (8, if can then fld r 4 31 29 = 0 else if port then fld r 4 31 20 ≤ 4094 && fld r 4 19 0 = 0 else rw r 4 = 0),
   (9, if can then fld r 5 31 29 = 0 else rw r 5 = 0)]

/-- A segment record is staged (R368). -/
def nmSegmentPut (q : Req) (s : State) : Reply := need 8 q (segmentChecks q.args) s (stage (.segment (mf q 4 31 26) q.args) s)

def execNmSegment (t : Nat) (q : Req) (s : State) : Host.Outcome State Fault Refusal := request t 0x0703 nmSegmentPut q s

/-- A host request holds a segment or a cluster needed, and is a wake request (R370, R376, R381). -/
def hostNeeds (cluster : Bool) (n m : Nat) (s : State) : State :=
  let s1 := { s with nm := { s.nm with host := if s.nm.host.contains (cluster, n, m) then s.nm.host else s.nm.host ++ [(cluster, n, m)] } }
  firstKeepAlives (if cluster then wakeCluster n 2 64 s1 else wakeRequest n 2 0 (validateSeg n s1))

/-- A host request of a mailbox is released (R370, R373). -/
def hostReleases (cluster : Bool) (n m : Nat) (s : State) : State :=
  segCheckAll { s with nm := { s.nm with host := s.nm.host.filter (fun h => h ≠ (cluster, n, m)) } }

def nmRequestPut (q : Req) (s : State) : Reply :=
  let op := mf q 4 31 30
  let cl := bit (mw q 4) 29
  let n := mf q 4 5 0
  need 1 q [(4, only (mw q 4) [(31, 29), (5, 0)] && op ≠ 3 && (cl || n ≤ 59))] s
    (ok (if op = 0 then hostNeeds cl n q.mbx s else if op = 1 then hostReleases cl n q.mbx s else giveHint s))

def execNmRequest (t : Nat) (q : Req) (s : State) : Host.Outcome State Fault Refusal := request t 0x0704 nmRequestPut q s

/-- The settings of network management (R387). -/
def nmSettingsPut (q : Req) (s : State) : Reply :=
  let min := fun (n hi lo : Nat) => decide (1 ≤ mf q n hi lo) && decide (mf q n hi lo ≤ 1440)
  need 4 q
    [(4, 100 ≤ mf q 4 31 21 && mf q 4 31 21 ≤ 2000 && 1 ≤ mf q 4 20 13 && 10 ≤ mf q 4 12 3 && mf q 4 12 3 ≤ 1000 && mf q 4 1 0 = 0),
     (5, min 5 31 21 && min 5 20 10 && mf q 5 9 0 = 0), (6, min 6 31 21 && mf q 6 20 0 = 0)] s
    (ok { s with nm := { s.nm with settings := q.args } })

def execNmSettings (t : Nat) (q : Req) (s : State) : Host.Outcome State Fault Refusal := request t 0x0705 nmSettingsPut q s

/-- An entry of the offender log (R385). -/
def offenderWords (e : Offender) : Rec :=
  [rw e.key 0, packW [(16, fld e.key 1 31 16), (16, e.count)], rw e.key 2, rw e.key 3] ++ split64 e.first ++ split64 e.last

/-- The offender log is read, and emptied with CLEAR (R385). -/
def nmOffenderRead (q : Req) (s : State) : Reply :=
  need 0 q [] s
    (okWith (packW [(16, s.nm.logFull), (9, 0), (7, s.nm.log.length)] :: s.nm.log.flatMap offenderWords)
      (if q.clear then { s with nm := { s.nm with log := [], logFull := 0 } } else s))

def execNmOffenderRead (t : Nat) (q : Req) (s : State) : Host.Outcome State Fault Refusal := request t 0x0706 nmOffenderRead q s

/-- Milliseconds left until a local time, saturating in 16 bits. -/
def msLeft (s : State) (t : Option Nat) : Nat := match t with | some e => min 65535 ((e - s.time.now) / 1000000) | none => 0

/-- The segment record of R389. -/
def segmentStatus (s : State) (i : Nat) : Rec :=
  let g := segOf s i
  [packW [(3, g.state), (3, g.wakeKind), (5, g.wakeSrc), (21, 0)], packW [(16, msLeft s (g.timer.map (· + segReady g))), (16, msLeft s g.prep)]]
    ++ split64 (maskFrom (neededClusters s g))
    ++ [word g.sleeps, word g.wakes, word g.races, word g.held.length, word g.sleepDrop, word g.kaRx, word g.kaTx, word g.kaIgnored, word g.gtsCut]

def nmSegmentStat (q : Req) (s : State) : Reply :=
  let i := mf q 4 5 0
  need 1 q [(4, only (mw q 4) [(5, 0)] && i ≤ 59)] s
    (okWith (segmentStatus s i)
      (if q.clear then setSeg i { segOf s i with sleeps := 0, wakes := 0, races := 0, sleepDrop := 0, kaRx := 0, kaTx := 0, kaIgnored := 0, gtsCut := 0 } s else s))

def execNmSegmentStatus (t : Nat) (q : Req) (s : State) : Host.Outcome State Fault Refusal := request t 0x0707 nmSegmentStat q s

/-- The source record of R389. -/
def sourceStatus (s : State) (i : Nat) : Rec :=
  let v := sourceOf s i
  [packW [(1, b2n v.maskEnd.isSome), (8, v.inWin), (23, 0)], word v.wakes, word v.falses, word v.maskedHits, word v.maskings,
   word (match v.maskEnd with | some e => (e - s.time.now) / 1000000000 | none => 0)]

def nmSourceStat (q : Req) (s : State) : Reply :=
  let i := mf q 4 4 0
  need 1 q [(4, only (mw q 4) [(4, 0)])] s
    (okWith (sourceStatus s i) (if q.clear then setSource i { sourceOf s i with wakes := 0, falses := 0, maskedHits := 0, maskings := 0 } s else s))

def execNmWakeSourceStatus (t : Nat) (q : Req) (s : State) : Host.Outcome State Fault Refusal := request t 0x0708 nmSourceStat q s

end Sys2Proof.Machine
end

