-- ==== Sys2Proof/Machine/CipherRequests.lean ====
section
/-!
DEFINITION. The KEY and CRYPT families of requests (R574 to R576).
-/
namespace Sys2Proof.Machine

/-! ### KEY -/

def keyInfo (q : Req) (s : State) : Reply := need 1 q [(4, only (mw q 4) [(7, 0)])] s (okWith (slotRecord (slotAt s (mf q 4 7 0))) s)

def execKeySlotInfo (t : Nat) (q : Req) (s : State) : Host.Outcome State Fault Refusal := request t 0x0801 keyInfo q s

/-- Whether a slot can be written: neither slot 0 nor fixed (R397). -/
def slotFree (s : State) (i : Nat) : Bool := i ≠ 0 && !(slotAt s i).fixed

/-- Whether a slot of a type may carry USAGE bits (R393, R395). -/
def usageOk (type usage : Nat) : Bool := keyBytes type ≠ 0 && usage &&& usageFor type = usage

/-- The public key of a private key of a type (R393). -/
def publicOf (type : Nat) (key : Bytes) : Bytes :=
  match type with
  | 5 => ecdsaPublic false key
  | 6 => ecdsaPublic true key
  | _ => []

/-- A key enters a slot; the record as it then stands is answered, with the public key when it was generated (R394, R397, R574). CHILD_USAGE of a slot
that is written is not stated: a free value (log entry 26). -/
def keyPut (i type origin parent usage : Nat) (key : Bytes) (s : State) : Reply :=
  let v := freeVal s
  let k : KeySlot := { type := type, origin := origin, parent := parent, usage := usage, childUsage := v.1.toNat % 256, key := key, pub := publicOf type key }
  let s1 := writeSlot i k v.2
  okWith (slotRecord (slotAt s1 i) ++ if origin = 3 then bytesRec k.pub else []) s1

/-- A write of a slot is not served while the alarm is latched, the queue full, or a unit failed its test (R401, R404, R418). -/
def keyGate (s : State) (noKey : Bool) (slot : Nat) (op : BulkOp) (k : Reply) : Reply :=
  if !bulkRoom s 6 then busy (cipherEvent 6 0 s)
  else
    let st := startStatus s { requester := 6, op := op, slot := slot, noKey := noKey }
    if st = 0 then k else keyRefused st (keyFailed st s)

/-- A KEY command is refused under R398. -/
def unwrapFail (s : State) : Reply := keyRefused 7 (cipherEvent 12 0 s)

/-- A key is imported from a wrapped blob (R398). -/
def keyUnwrapPut (q : Req) (s : State) : Reply :=
  let kek := mf q 4 31 24
  let i := mf q 4 23 16
  let n := mf q 5 15 0
  if s.ciph.alarm then locked s
  else need (2 + (n + 3) / 4) q [(4, only (mw q 4) [(31, 16)] && slotFree s i), (5, only (mw q 5) [(15, 0)] && 24 ≤ n && n ≤ 64)] s
    (keyGate s false kek .unwrap
      (match unwrapBlob (slotSeen s kek).key ((recBytes (q.args.drop 2)).take n) with
       | none => unwrapFail s
       | some b =>
         let type := byteAt b 2
         let usage := beAt b 4 2
         let key := b.drop 8
         if beAt b 0 2 ≠ 0x5344 || byteAt b 3 ≠ 0 || b.length < 8 || keyBytes type = 0 || key.length ≠ keyBytes type || !usageOk type usage then unwrapFail s
         else if usage &&& (slotSeen s kek).childUsage ≠ usage then rangeAt 0 s
         else keyPut i type 1 kek usage key s))

def execKeyUnwrap (t : Nat) (q : Req) (s : State) : Host.Outcome State Fault Refusal := request t 0x0802 keyUnwrapPut q s

/-- A key is derived (R395, R399). -/
def keyDerivePut (q : Req) (s : State) : Reply :=
  let src := mf q 4 31 24
  let i := mf q 4 23 16
  let type := mf q 4 15 12
  let nl := mf q 4 5 0
  let usage := mf q 5 31 16
  let nc := mf q 5 6 0
  let lw := (nl + 3) / 4
  if s.ciph.alarm then locked s
  else need (2 + lw + (nc + 3) / 4) q
    [(4, only (mw q 4) [(31, 12), (5, 0)] && slotFree s i && keyBytes type ≠ 0 && nl ≤ 32), (5, only (mw q 5) [(31, 16), (6, 0)] && usageOk type usage && nc ≤ 64)] s
    (keyGate s false src .derive
      (if usage &&& (slotSeen s src).childUsage ≠ usage then rangeAt 5 s
       else keyPut i type 2 src usage
        (kdf (slotSeen s src).key ((recBytes (q.args.drop 2)).take nl) ((recBytes (q.args.drop (2 + lw))).take nc) (keyBytes type)) s))

def execKeyDerive (t : Nat) (q : Req) (s : State) : Host.Outcome State Fault Refusal := request t 0x0803 keyDerivePut q s

/-- A key is generated (R397). -/
def keyGeneratePut (q : Req) (s : State) : Reply :=
  let i := mf q 4 23 16
  let type := mf q 4 15 12
  let usage := mf q 5 31 16
  if s.ciph.alarm then locked s
  else need 2 q [(4, only (mw q 4) [(23, 12)] && slotFree s i && keyBytes type ≠ 0), (5, only (mw q 5) [(31, 16)] && usageOk type usage)] s
    (keyGate s true 0 .keyGen
      (let r := randomBytes (keyBytes type / 8) s
       keyPut i type 3 0 usage r.1 r.2))

def execKeyGenerate (t : Nat) (q : Req) (s : State) : Host.Outcome State Fault Refusal := request t 0x0804 keyGeneratePut q s

/-- A key is written in plain (R397). -/
def keyPlainPut (q : Req) (s : State) : Reply :=
  let i := mf q 4 23 16
  let type := mf q 4 15 12
  let usage := mf q 5 31 16
  if s.ciph.alarm then locked s
  else need (2 + keyBytes type / 4) q [(4, only (mw q 4) [(23, 12)] && slotFree s i && keyBytes type ≠ 0), (5, only (mw q 5) [(31, 16)] && usageOk type usage)] s
    (keyPut i type 4 0 usage (recBytes (q.args.drop 2)) s)

def execKeyPlainWrite (t : Nat) (q : Req) (s : State) : Host.Outcome State Fault Refusal := request t 0x0805 keyPlainPut q s

/-- A slot is erased (R396, R397). -/
def keyErasePut (q : Req) (s : State) : Reply :=
  let i := mf q 4 7 0
  if s.ciph.alarm then locked s
  else need 1 q [(4, only (mw q 4) [(7, 0)] && slotFree s i)] s
    (let s1 := writeSlot i {} s
     okWith (slotRecord (slotAt s1 i)) s1)

def execKeyErase (t : Nat) (q : Req) (s : State) : Host.Outcome State Fault Refusal := request t 0x0806 keyErasePut q s

/-! ### CRYPT: settings and MACsec -/

def cryptSettingsPut (q : Req) (s : State) : Reply :=
  let g := mf q 4 6 0
  let n := mf q 5 11 0
  need 2 q [(4, only (mw q 4) [(6, 0)] && 10 ≤ g && g ≤ 90), (5, only (mw q 5) [(11, 0)] && 1 ≤ n && n ≤ 3600)] s
    (ok (setCiph { s.ciph with gwShare := g, testS := n } s))

def execCryptSettings (t : Nat) (q : Req) (s : State) : Host.Outcome State Fault Refusal := request t 0x0901 cryptSettingsPut q s

/-- A port is configured as a SecY (R407). -/
def cryptSecyPut (q : Req) (s : State) : Reply :=
  let p := mf q 4 31 27
  need 6 q [(4, p ≤ 27 && (mf q 4 24 23 = 1 || mf q 4 24 23 = 2) && mf q 4 21 20 ≠ 3 && mf q 4 15 0 = 0)] s
    (ok (setSecy p { secyOf s p with rec0 := q.args, prev := (secyRec s p, s.time.now) :: (secyOf s p).prev.filter (fun e => s.time.now < e.2 + 10000000) } s))

def execCryptSecy (t : Nat) (q : Req) (s : State) : Host.Outcome State Fault Refusal := request t 0x0902 cryptSecyPut q s

/-- The status with which a valid SA record is refused for its slot, 0 for none (R403, R410). -/
def saStatus (s : State) (r : Rec) : Nat :=
  if !flag r 0 31 then 0
  else if s.ciph.zeroizing then 5
  else slotCheck s (fld r 1 31 24) (fld r 1 23 8) false 0

/-- A SA record is applied, with a copy of its slot's key (R409, R410). -/
def cryptSaPut (q : Req) (s : State) : Reply :=
  let i := mf q 4 8 0
  let r := q.args.drop 1
  let k := slotSeen s (fld r 1 31 24)
  let valid := flag r 0 31
  let fits := !valid || k.type = 0 || (k.type = 1 + fld r 0 26 26 && k.usage.testBit 0)
  let pn := cat64 (rw r 2) (rw r 3)
  let st := saStatus s r
  need 11 q [(4, only (mw q 4) [(8, 0)]), (5, fld r 0 12 0 = 0 && (!flag r 0 30 || fld r 0 25 21 ≤ 27) && fits), (6, fld r 1 7 0 = 0)] s
    (if st ≠ 0 then keyRefused st (keyFailed st s)
     else ok (setSa i { rec0 := r, next := pn, key := if valid then some k.key else none, exhausted := saLimit r < pn } s))

def execCryptSa (t : Nat) (q : Req) (s : State) : Host.Outcome State Fault Refusal := request t 0x0903 cryptSaPut q s

/-- A receive SC (R411). -/
def cryptScPut (q : Req) (s : State) : Reply :=
  let r := q.args.drop 1
  need 6 q [(4, only (mw q 4) [(7, 0)]), (5, fld r 0 25 0 = 0 && fld r 0 30 26 ≤ 27), (8, fld r 3 31 27 = 0), (9, fld r 4 22 0 = 0)] s
    (ok (setCiph { s.ciph with rxsc := tset [] s.ciph.rxsc (mf q 4 7 0) r } s))

def execCryptReceiveSc (t : Nat) (q : Req) (s : State) : Host.Outcome State Fault Refusal := request t 0x0904 cryptScPut q s

/-- The counters of a SecY by the words of the response (R415, R575). -/
def secyStatus (s : State) (p : Nat) : Rec :=
  let n := fun w => tget 0 (secyOf s p).counts w
  [word (n 4), word (n 5)] ++ split64 (n 6) ++ [word (n 8)] ++ (List.range 9).map (fun i => word (n (9 + i))) ++ split64 (n 18)

def cryptSecyStat (q : Req) (s : State) : Reply :=
  let p := mf q 4 4 0
  need 1 q [(4, only (mw q 4) [(4, 0)] && p ≤ 27)] s
    (okWith (secyStatus s p) (if q.clear then setSecy p { secyOf s p with counts := [] } s else s))

def execCryptSecyStatus (t : Nat) (q : Req) (s : State) : Host.Outcome State Fault Refusal := request t 0x0905 cryptSecyStat q s

def cryptSaStat (q : Req) (s : State) : Reply :=
  let a := saOf s (mf q 4 8 0)
  need 1 q [(4, only (mw q 4) [(8, 0)])] s (okWith (split64 a.next ++ [packW [(30, 0), (1, b2n a.exhausted), (1, b2n a.key.isSome)]]) s)

def execCryptRxSaStatus (t : Nat) (q : Req) (s : State) : Host.Outcome State Fault Refusal := request t 0x0906 cryptSaStat q s

/-! ### CRYPT: operations -/

/-- The operation of an OP code (R576). -/
def cryptOp : Nat → Option BulkOp
  | 1 => some .gcmEncrypt
  | 2 => some .gcmDecrypt
  | 3 => some .ctr
  | 4 => some .cmac
  | 5 => some .cmacVerify
  | 6 => some .sha256
  | 7 => some .sha384
  | 8 => some .hmac
  | 9 => some .hmacVerify
  | 10 => some .ecdsaSign
  | 11 => some .ecdsaVerify
  | _ => none

/-- Words of CHECK that an operation carries (R576). final: whole or last part. words: those the request has. -/
def checkWords (op : BulkOp) (final ext : Bool) (type words : Nat) : Nat :=
  match op with
  | .gcmDecrypt => if final then 4 else 0
  | .cmacVerify => if final then 4 else 0
  | .hmacVerify => if final then (if type = 4 then 12 else 8) else 0
  | .ecdsaVerify => if !final then 0 else if ext then (if words = 48 then 48 else 32) else if type = 6 then 24 else 16
  | _ => 0

/-- The status of the key of an operation at its start (R403, R404). -/
def opStart (s : State) (op : BulkOp) (slot gen : Nat) (anyGen ext : Bool) : Nat :=
  let noKey := ext || op = .sha256 || op = .sha384
  startStatus s { requester := 5, op := op, slot := slot, gen := gen, anyGen := anyGen, noKey := noKey }

/-- What an operation gives from its whole input: the status, the output stream, and the words that follow (R392, R576). aad: bytes of AAD at the head
of the input; iv, ctr: PARAM. -/
def opResult (op : BulkOp) (key : Bytes) (k : KeySlot) (ext : Bool) (aad iv ctr : Nat) (input check : Bytes) : Nat × Bytes × Bytes :=
  let verify := fun (good : Bool) => (if good then 0 else 1, ([] : Bytes), ([] : Bytes))
  match op with
  | .gcmEncrypt => let g := gcm false key iv (input.take aad) (input.drop aad); (0, g.1, g.2)
  | .gcmDecrypt => let g := gcm true key iv (input.take aad) (input.drop aad); if g.2 = check then (0, g.1, []) else (1, [], [])
  | .ctr => (0, aesCtr key ctr input, [])
  | .cmac => (0, [], cmac key input)
  | .cmacVerify => verify (cmac key input = check)
  | .sha256 => (0, [], sha false input)
  | .sha384 => (0, [], sha true input)
  | .hmac => (0, [], hmac key input)
  | .hmacVerify => verify (hmac key input = check)
  | .ecdsaSign => (0, [], ecdsaSign (k.type = 6) key input)
  | .ecdsaVerify =>
    let long := if ext then decide (check.length = 192) else decide (k.type = 6)
    let n := if long then 96 else 64
    verify (ecdsaVerify long (if ext then check.drop n else k.pub) input (check.take n))
  | _ => (0, [], [])

/-- Whether an operation is a cipher that gives output as its input comes. -/
def opStreams : BulkOp → Bool
  | .gcmEncrypt | .ctr => true
  | _ => false

/-- A part of an operation is worked: p2 the session with this part's input, old the input before it (R404, R416, R576). -/
def operate (m : Nat) (op : BulkOp) (q : Req) (p2 : Session) (old : Nat) (final : Bool) (s : State) : Reply :=
  let k := slotSeen s (mf q 4 23 16)
  let ext := bit (mw q 4) 24 && op = .ecdsaVerify
  let gcmOp := op = .gcmEncrypt || op = .gcmDecrypt
  let aad := if gcmOp then fld p2.head 1 31 16 else 0
  let iv := cat64 (rw p2.head 6) (rw p2.head 7) * 2 ^ 32 + (rw p2.head 8).toNat
  let r := opResult op k.key k ext aad iv (iv * 2 ^ 32 + (rw p2.head 9).toNat) p2.input (recBytes (q.args.drop 10))
  let piece := if opStreams op then r.2.1.drop (old - aad) else if final then r.2.1 else []
  let st := if (op = .gcmDecrypt && 32768 < p2.input.length - aad) || p2.input.length < aad || mf q 9 16 0 < piece.length then 6
            else if final then r.1 else 0
  let scrubbed := fun (s : State) => if op = .gcmDecrypt && st = 1 then scrub 28 p2.input.length s else s
  let keep := fun (x : Option Session) (s : State) => setCiph { s.ciph with session := tset none s.ciph.session m x } s
  if st ≠ 0 then keyRefused st (if mf q 4 27 26 = 0 then scrubbed s else keep none (scrubbed s))
  else
    let s1 := memBytes (0xE0000 + mf q 8 16 0) piece s
    okWith ([0, word piece.length] ++ if final then bytesRec r.2.2 else []) (if mf q 4 27 26 = 0 then s1 else keep (if final then none else some p2) s1)

/-- An operation command (R576). -/
def cryptOperate (q : Req) (s : State) : Reply :=
  let part := mf q 4 27 26
  let final := part = 0 || part = 3
  let ext := bit (mw q 4) 24
  let slot := mf q 4 23 16
  let region := fun (n : Nat) => only (mw q n) [(16, 0)] && only (mw q (n + 1)) [(16, 0)] && mf q n 16 0 + mf q (n + 1) 16 0 ≤ 131072
  match cryptOp (mf q 4 31 28) with
  | none => rangeAt 4 s
  | some op =>
    let open0 := tget none s.ciph.session q.mbx
    let wrongPart := match open0 with
      | none => part = 2 || part = 3
      | some x => part = 1 || (part ≠ 0 && x.op ≠ mf q 4 31 28)
    let input := (List.range (mf q 7 16 0)).map (fun i => tget 0 s.mem (0xE0000 + mf q 6 16 0 + i))
    let base : Session := if part = 2 || part = 3 then open0.getD ⟨mf q 4 31 28, q.args, []⟩ else ⟨mf q 4 31 28, q.args, []⟩
    let st := opStart s op slot (mf q 4 15 0) (bit (mw q 4) 25) (ext && op = .ecdsaVerify)
    need (10 + checkWords op final (ext && op = .ecdsaVerify) (slotAt s slot).type (q.args.length - 10)) q
      [(5, mf q 5 15 0 = 0 && mf q 5 31 16 ≤ 4096), (6, region 6 && mf q 7 16 0 ≤ 16384), (8, region 8)] s
      (if wrongPart then conflictAt 4 s
       else if !bulkRoom s 5 then busy (cipherEvent 6 0 s)
       else if st ≠ 0 then keyRefused st (keyFailed st (if part = 0 then s else setCiph { s.ciph with session := tset none s.ciph.session q.mbx none } s))
       else operate q.mbx op q { base with input := base.input ++ input } base.input.length final s)

def execCryptOperation (t : Nat) (q : Req) (s : State) : Host.Outcome State Fault Refusal := request t 0x0910 cryptOperate q s

end Sys2Proof.Machine
end

