-- ==== Sys2Proof/Machine/DarkRequests.lean ====
section
/-!
DEFINITION. The TRACE, DARK and PAIR families of requests (R577).
-/
namespace Sys2Proof.Machine
open Sys2Proof

def setCs (c : CsState) (s : State) : State := { s with cs := c }

/-! ### TRACE -/

/-- A frame selector is written (R458, R459). -/
def traceSelectorPut (q : Req) (s : State) : Reply :=
  let r := q.args
  let m := fld r 0 24 23
  let snap := fld r 0 22 19
  need 2 q [(4, fld r 0 30 27 ≠ 15 && m ≠ 3 && snap ≤ 8 && fld r 0 17 0 = 0), (5, if m = 0 then !flag r 1 31 else if m = 1 then fld r 1 31 12 = 0 else true)] s
    (if s.sys.fw.lifecycle = 2 && 2 < snap then locked s
     else ok (setCs { s.cs with sel := tset [] s.cs.sel (fld r 0 30 27) r } s))

def execTraceSelector (t : Nat) (q : Req) (s : State) : Host.Outcome State Fault Refusal := request t 0x0A01 traceSelectorPut q s

/-- An export channel is set (R460, R462). -/
def traceExportPut (q : Req) (s : State) : Reply :=
  let r := q.args
  let ch1 := flag r 0 30
  let us := fld r 0 15 2
  let vid := fld r 3 15 4
  let c : CsChan := { cfg := r, en := flag r 0 31, pos := if flag r 0 29 then oldestAt s else nextAt s }
  need 4 q
    [(4, fld r 0 28 24 ≤ 28 && !flag r 0 0 && (ch1 || (1 ≤ us && us ≤ 10000))), (7, fld r 3 3 0 = 0 && (ch1 || (1 ≤ vid && vid ≤ 4094)))] s
    (ok (setCs (if ch1 then { s.cs with chan1 := c } else { s.cs with chan0 := c }) s))

def execTraceExport (t : Nat) (q : Req) (s : State) : Host.Outcome State Fault Refusal := request t 0x0A02 traceExportPut q s

/-- TRACE_SNAP (R459). -/
def traceSettingsPut (q : Req) (s : State) : Reply :=
  let n := mf q 4 3 0
  need 1 q [(4, only (mw q 4) [(3, 0)] && n ≤ 8)] s
    (if s.sys.fw.lifecycle = 2 && 2 < n then locked s else ok (setCs { s.cs with snap := n } s))

def execTraceSettings (t : Nat) (q : Req) (s : State) : Host.Outcome State Fault Refusal := request t 0x0A03 traceSettingsPut q s

/-! ### DARK -/

/-- SYS.DRK_STAT (R446). -/
def darkStat (s : State) : Word :=
  packW [(1, b2n s.dark.run), (1, b2n s.dark.clkFb), (1, b2n s.dark.calBad), (1, b2n (darkCapture s)), (1, b2n (s.dark.run && freeSlots s = [])),
    (5, if s.dark.run then s.dark.images else 0), (4, if s.dark.run then s.dark.inForce.getD 0 else 0), (18, regFld s rDRK_STAT 17 0)]

/-- Two words of a slot (R577). -/
def slotWords (s : State) (i : Nat) : Rec :=
  let v := darkSlot s i
  [packW [(1, b2n (v.st = 2)), (1, b2n (v.st = 0)), (30, 0)], word v.evSeq]

/-- The status of the Darkroom (R440, R446, R561). -/
def darkStatGet (q : Req) (s : State) : Reply :=
  let a := mf q 4 7 0
  let n := mf q 5 8 0
  need 2 q [(4, only (mw q 4) [(7, 0)] && a < nSlots), (5, only (mw q 5) [(8, 0)] && n ≤ 256)] s
    (okWith ([darkStat s, word s.dark.nextEv, packW [(16, nSlots), (16, (freeSlots s).length)]]
      ++ (List.range (min n (nSlots - a))).flatMap (fun i => slotWords s (a + i))) s)

def execDarkStatus (t : Nat) (q : Req) (s : State) : Host.Outcome State Fault Refusal := request t 0x0B01 darkStatGet q s

/-- The identity (R442, R443); the public key before one is generated is not stated: free values. -/
def darkIdent (q : Req) (s : State) : Reply :=
  let id := bytesRec (drkId s)
  need 0 q [] s (match s.dark.key with
    | some k => okWith (bytesRec (beBytes k.toNat 64) ++ id) s
    | none => let r := randomBytes 8 s; okWith (bytesRec r.1 ++ id) r.2)

def execDarkIdentity (t : Nat) (q : Req) (s : State) : Host.Outcome State Fault Refusal := request t 0x0B02 darkIdent q s

/-- A calibration image (R431); one that has not been written is not stated: free values. -/
def darkCalRead (q : Req) (s : State) : Reply :=
  let i := mf q 4 3 0
  need 1 q [(4, only (mw q 4) [(3, 0)])] s
    (if i < s.dark.images then okWith (imageWords s i) s else let r := randomBytes 256 s; okWith (bytesRec r.1) r.2)

def execDarkCalibrationRead (t : Nat) (q : Req) (s : State) : Host.Outcome State Fault Refusal := request t 0x0B03 darkCalRead q s

/-- Whether the words of an image keep to R431, its digest among them. -/
def imageShape (r : Rec) : Bool :=
  fld r 0 31 16 = 1 && fld r 0 11 0 = 0
    && calKeys.zipIdx.all (fun e => decide (rw r (9 + 4 * e.2) = packW [(5, e.1.1), (4, e.1.2), (23, 0)]) && (e.1.1 < 12 || rw r (9 + 4 * e.2 + 3) = 0))
    && (r.drop 353).all (fun w => w = 0) && digestOk r

/-- A reseal starts (R433). -/
def darkResealPut (q : Req) (s : State) : Reply :=
  match bulkOf 0 q s with
  | none => rangeAt (bulkWord 0 q) s
  | some (ws, n) =>
    if s.dark.images = 16 then locked s
    else if n ≠ 2048 || !imageShape ws then rangeAt (if q.staged then 4 else 0) s
    else if s.dark.reseal.isSome || !s.dark.run then busy s
    else
      let i := s.dark.images
      (.defer [word i], setDark { s.dark with reseal := some (i, packW [(16, 1), (4, i), (12, 0)] :: ws.drop 1) } s)

def execDarkReseal (t : Nat) (q : Req) (s : State) : Host.Outcome State Fault Refusal := request t 0x0B04 darkResealPut q s

/-- The host's evidence trigger (R435, R437). -/
def darkTrig (q : Req) (s : State) : Reply :=
  need 1 q [(4, only (mw q 4) [(15, 0)])] s (let r := evidenceTrigger (.host q.mbx (mf q 4 15 0)) s; okWith [word r.1] r.2)

def execDarkTrigger (t : Nat) (q : Req) (s : State) : Host.Outcome State Fault Refusal := request t 0x0B05 darkTrig q s

/-- An entry of the trigger table (R435). -/
def darkTrigTable (q : Req) (s : State) : Reply :=
  let e := mf q 4 3 0
  let r := q.args.drop 1
  need 4 q [(4, only (mw q 4) [(3, 0)]), (5, fld r 0 25 23 ≤ 5 && fld r 0 6 0 = 0), (6, only (rw r 1) [(28, 0)]), (7, only (rw r 2) [(28, 0)])] s
    (if !s.dark.run then busy s
     else ok (setDark { s.dark with trig := tset [] s.dark.trig e r, trigHold := tset 0 s.dark.trigHold e 0 } s))

def execDarkTriggerTable (t : Nat) (q : Req) (s : State) : Host.Outcome State Fault Refusal := request t 0x0B06 darkTrigTable q s

/-- The window record (R436). -/
def darkWindowPut (q : Req) (s : State) : Reply :=
  need 3 q [(4, mf q 4 31 16 ≤ 60000 && mf q 4 15 0 ≤ 30000), (5, mf q 5 31 16 ≤ 32256 && mf q 5 15 0 = 0)] s
    (if !s.dark.run then busy s else ok (setDark { s.dark with window := q.args } s))

def execDarkWindow (t : Nat) (q : Req) (s : State) : Host.Outcome State Fault Refusal := request t 0x0B07 darkWindowPut q s

/-- What a slot holds, header page and records, as words (R438, R439). -/
def slotContent (v : DarkSlot) : Rec := v.header ++ v.recs.flatMap csWords

/-- A chunk of an acknowledged slot (R441, R577); an export is finished by the chunk that reaches its end. -/
def darkExp (q : Req) (s : State) : Reply :=
  let i := mf q 4 7 0
  let c := mf q 5 6 0
  let v := darkSlot s i
  let ws := ((slotContent v).drop (1024 * c)).take 1024
  need 2 q [(4, only (mw q 4) [(7, 0)] && i < nSlots), (5, only (mw q 5) [(6, 0)])] s
    (if !s.dark.run then busy s
     else if v.st ≠ 2 then conflictAt 4 s
     else okWith (word (4 * ws.length) :: ws) (setDarkSlot i { v with exporting := decide (1024 * (c + 1) < (slotContent v).length) } s))

def execDarkExport (t : Nat) (q : Req) (s : State) : Host.Outcome State Fault Refusal := request t 0x0B08 darkExp q s

/-- A slot is erased and freed (R441). -/
def darkRel (q : Req) (s : State) : Reply :=
  let i := mf q 4 7 0
  let v := darkSlot s i
  need 1 q [(4, only (mw q 4) [(7, 0)] && i < nSlots)] s
    (if !s.dark.run || v.exporting then busy s else if v.st = 1 then conflictAt 4 s else ok (setDarkSlot i {} s))

def execDarkRelease (t : Nat) (q : Req) (s : State) : Host.Outcome State Fault Refusal := request t 0x0B09 darkRel q s

/-- What attest signs after the nonce (R444, R577). -/
def attestWords (s : State) : Rec :=
  let i := s.dark.inForce.getD 0
  bytesRec (drkId s) ++ [packW [(21, 0), (2, s.sys.fw.lifecycle), (5, s.dark.images), (4, i)]] ++ ((imageWords s i).drop 1).take 8
    ++ bytesRec (sha false (recBytes s.dark.audit.flatten)) ++ split64 s.time.now ++ [packW [(16, 0), (16, s.time.epoch)]]

/-- The Darkroom attests (R444). -/
def darkAtt (q : Req) (s : State) : Reply :=
  need 4 q [] s
    (if !s.dark.run then busy s
     else
       let ws := attestWords s
       let sig := darkSign (recBytes (q.args ++ ws)) s
       okWith (ws ++ bytesRec sig.1) sig.2)

def execDarkAttest (t : Nat) (q : Req) (s : State) : Host.Outcome State Fault Refusal := request t 0x0B0A darkAtt q s

/-- Entries of the audit record, those written (R444, R561). -/
def darkAudit (q : Req) (s : State) : Reply :=
  let a := mf q 4 6 0
  let n := mf q 5 7 0
  need 2 q [(4, only (mw q 4) [(6, 0)]), (5, only (mw q 5) [(7, 0)] && 1 ≤ n && n ≤ 128)] s (okWith ((s.dark.audit.drop a).take n).flatten s)

def execDarkAuditRead (t : Nat) (q : Req) (s : State) : Host.Outcome State Fault Refusal := request t 0x0B0B darkAudit q s

/-! ### PAIR -/

/-- The pair is configured (R581). -/
def pairConf (q : Req) (s : State) : Reply :=
  let en := bit (mw q 4) 31
  let p := mf q 4 3 0
  let n := mf q 5 9 0
  need 2 q [(4, only (mw q 4) [(31, 31), (3, 0)] && 4 ≤ p && p ≤ 11), (5, only (mw q 5) [(9, 0)] && 10 ≤ n && n ≤ 1000)] s
    (if (en && s.pair.bound.isNone) || prMode (portRec s p) = 0 then conflictAt 4 s
     else ok (pairEnable en (setPair { s.pair with port := p, interval := n } s)))

def execPairConfig (t : Nat) (q : Req) (s : State) : Host.Outcome State Fault Refusal := request t 0x0C01 pairConf q s

/-- The object that a request names. -/
def objAsked (q : Req) : Option Nat := objNumber (mf q 4 31 30) (mf q 4 29 25)

/-- The guard of an object (R584); one that joins a group that is owned is owned with it (R586). -/
def pairGuard (q : Req) (s : State) : Reply :=
  need 1 q [(4, only (mw q 4) [(31, 24)] && (objAsked q).isSome)] s
    (match objAsked q with
     | none => ok s
     | some o =>
       if owns s o then busy s
       else
         let il := !bit (mw q 4) 24
         let s1 := setObj o { objOf s o with interlock := il, claim := none, waitFrom := (objOf s o).waitFrom } s
         ok (if il && s.pair.ilOwned then takeObj o true none s1 else s1))

def execPairObject (t : Nat) (q : Req) (s : State) : Host.Outcome State Fault Refusal := request t 0x0C02 pairGuard q s

/-- A binding as an audit entry holds it (R580). -/
def bindWord (b : Option (Bool × Nat)) : Word := match b with | some (r, id) => packW [(1, b2n r), (31, id)] | none => 0

/-- The release as the audit record holds it (R443): major in [15:8], minor in [7:0]. -/
def releaseShort (s : State) : Nat := (release s).1 % 256 * 256 + (release s).2 % 256

/-- A binding is to be fused: w4 [0] the role, w5 and w6 the partner's identity (R443, R577, R580). -/
def pairBindPut (q : Req) (s : State) : Reply :=
  need 3 q [(4, only (mw q 4) [(0, 0)])] s
    (if s.pair.binds = 8 then locked s
     else if fuseBusy s || !s.dark.run then busy s
     else (.defer [word (s.pair.binds + 1)], auditAppend 4 (s.pair.binds + 1) (bindWord s.pair.bound) (bindWord (some (bit (mw q 4) 0, cat64 (mw q 5) (mw q 6)))) (releaseShort s) s))

def execPairBind (t : Nat) (q : Req) (s : State) : Host.Outcome State Fault Refusal := request t 0x0C03 pairBindPut q s

/-- A word of the pair status (R577). -/
def objStatus (s : State) (o : Nat) : Word :=
  let x := objOf s o
  packW [(1, b2n (owns s o)), (1, b2n (!x.interlock)), (14, 0), (16, match x.lease with | some e => min 65535 ((e - s.time.now) / 100000) | none => 0)]

def pairStat (q : Req) (s : State) : Reply :=
  need 0 q [] s
    (okWith (packW [(1, b2n s.pair.up), (1, b2n s.pair.bound.isSome), (1, b2n (roleB s)), (29, 0)] :: (List.range 40).map (objStatus s)) s)

def execPairStatus (t : Nat) (q : Req) (s : State) : Host.Outcome State Fault Refusal := request t 0x0C04 pairStat q s

/-- An object is to be handed over at the next boundary (R594); a lease that runs out in this cycle has run out (R602). -/
def pairRel (q : Req) (s : State) : Reply :=
  need 1 q [(4, only (mw q 4) [(31, 25)] && (objAsked q).isSome)] s
    (match objAsked q with
     | none => ok s
     | some o =>
       let s := leaseEnds o s
       if !s.pair.en || !owns s o then conflictAt 4 s
       else
         let l := if (objOf s o).interlock then group s else [o]
         ok (setPair { s.pair with release := s.pair.release ++ l.filter (fun x => !s.pair.release.contains x) } s))

def execPairRelease (t : Nat) (q : Req) (s : State) : Host.Outcome State Fault Refusal := request t 0x0C05 pairRel q s

end Sys2Proof.Machine
end

