-- ==== Sys2Proof/Machine/TestRequests.lean ====
section
/-!
DEFINITION. The TEST family of requests (R578): loopbacks, PRBS, cable diagnostics, known-answer tests, service, scrub status (R647 to R655).
-/
namespace Sys2Proof.Machine
open Sys2Proof

/-- A test takes a port out of UP or TRAINING; its link condition is to hold anew (R135, R648, R650, R651). -/
def testPort (n : Nat) (f : Port → Port) (s : State) : State :=
  let s1 := match (portOf s n).st with
    | .up => leaveUp n .down s
    | .training => portTo n .down s
    | _ => s
  setPort n { f (portOf s1 n) with cond := false, testAt := some s.time.now } s1

/-- A test ends, and the port starts again (R649, R650). -/
def testEndsOn (n : Nat) (f : Port → Port) (s : State) : State := tryUp n (testPort n f s)

/-- Loopback (R648, R649). -/
def testLoop (q : Req) (s : State) : Reply :=
  let n := mf q 4 4 0
  let l := mf q 4 7 6
  need 1 q [(4, only (mw q 4) [(4, 0), (7, 6)] && n < 28 && !((n = 18 || n = 19) && 2 ≤ l))] s
    (if l = 0 then ok (if (portOf s n).loop = 0 then s else testEndsOn n (fun v => { v with loop := 0 }) s)
     else if (portOf s n).st = .outOfService then conflictAt 4 s
     else ok (tryUp n (testPort n (fun v => { v with loop := l }) s)))

def execTestLoopback (t : Nat) (q : Req) (s : State) : Host.Outcome State Fault Refusal := request t 0x0E01 testLoop q s

/-- What the checker of a running pattern has counted since the last look: free values (R650). -/
def prbsCounted (n : Nat) (s : State) : State :=
  let v := portOf s n
  if v.prbs.isNone then s
  else
    let a := freeVal s
    let b := freeVal a.2
    setPort n { v with prbsBits := satAdd 64 v.prbsBits a.1.toNat, prbsErrs := satAdd 32 v.prbsErrs b.1.toNat } b.2

/-- PRBS (R650). -/
def testPrbs (q : Req) (s : State) : Reply :=
  let n := mf q 4 3 0
  let s1 := prbsCounted n s
  need 1 q [(4, only (mw q 4) [(3, 0), (6, 4), (9, 8)] && n < 12 && mf q 4 6 4 ≤ 4 && mf q 4 9 8 ≠ 3)] s
    (match mf q 4 9 8 with
     | 1 => ok (testPort n (fun v => { v with prbs := some (mf q 4 6 4), prbsBits := 0, prbsErrs := 0 }) s)
     | 2 => okWith (split64 (portOf s1 n).prbsBits ++ [word (portOf s1 n).prbsErrs]) s1
     | _ => ok (if (portOf s n).prbs.isNone then s else testEndsOn n (fun v => { v with prbs := none }) s1))

def execTestPrbs (t : Nat) (q : Req) (s : State) : Host.Outcome State Fault Refusal := request t 0x0E02 testPrbs q s

/-- Cable diagnostics (R651). -/
def testCable (q : Req) (s : State) : Reply :=
  let n := mf q 4 4 0
  let g := (segOf s n).state
  need 1 q [(4, only (mw q 4) [(4, 0)] && isT n)] s
    (if (portOf s n).cable || g = 2 || g = 3 || g = 4 then busy s
     else (.defer [word n], testPort n (fun v => { v with cable := true }) s))

def execTestCable (t : Nat) (q : Req) (s : State) : Host.Outcome State Fault Refusal := request t 0x0E03 testCable q s

/-- A known-answer test on command: it runs, and its end, SELF_TEST_COMPLETE, answers (R419 to R421). -/
def testCipher (q : Req) (s : State) : Reply :=
  let u := mf q 4 1 0
  let c := s.ciph
  need 1 q [(4, only (mw q 4) [(1, 0)] && u ≠ 3)] s
    (if u = 2 then (if c.test2 || c.test3 then (.defer [2], s) else if !bulkRoom s 7 then busy (cipherEvent 6 0 s) else (.defer [2], submitTests s))
     else (.defer [word u], setCiph { c with test0 := c.test0 || u = 0, test1 := c.test1 || u = 1 } s))

def execTestCipher (t : Nat) (q : Req) (s : State) : Host.Outcome State Fault Refusal := request t 0x0E04 testCipher q s

/-- A port enters or leaves OUT_OF_SERVICE by a commit (R654). -/
def testService (q : Req) (s : State) : Reply :=
  let n := mf q 4 4 0
  need 1 q [(4, only (mw q 4) [(4, 0), (8, 8)] && n < 28)] s
    (if s.pair.en && s.pair.port = n then conflictAt 4 s else stage (.service n (bit (mw q 4) 8)) s)

def execTestService (t : Nat) (q : Req) (s : State) : Host.Outcome State Fault Refusal := request t 0x0E05 testService q s

/-- Scrub status: corrected and uncorrectable errors of the 7 regions of R32 (R652). -/
def testScrub (q : Req) (s : State) : Reply :=
  need 0 q [] s
    (okWith ((List.range 7).flatMap (fun i => let e := tget (0, 0) s.sys.test.ecc i; [word e.1, word e.2]))
      (if q.clear then setTest (fun x => { x with ecc := [] }) s else s))

def execTestScrubStatus (t : Nat) (q : Req) (s : State) : Host.Outcome State Fault Refusal := request t 0x0E06 testScrub q s

/-- The measurement of a cable ends (R651): 0 good, 1 open, 2 short, 3 noise; distance in 0.1 m. -/
def cableDone (n result distance : Nat) (s : State) : State :=
  if !(portOf s n).cable then s
  else
    let box := s.mbx.box.find? (fun e => match e.2.deferred with | some d => d.opcode = 0x0E03 && fld d.args 0 4 0 = n | none => false)
    let s1 := match box with
      | some e => finishDeferred e.1 0 [word (result % 4), word (if result % 4 = 0 then 0 else distance)] s
      | none => s
    tryUp n (setPort n { portOf s1 n with cable := false } s1)

def execCableDiagComplete (t port result distance : Nat) (s : State) : Host.Outcome State Fault Refusal :=
  act t (fun s => cableDone port result distance s) s

end Sys2Proof.Machine
end

