-- ==== Sys2Proof/Machine/TimeCommands.lean ====
section
/-!
DEFINITION. The commands of time: mappings, gPTP messages and timeouts, PAIR_TIME pulses, edges of the TIO pins (chapters 2 and 3).
-/
namespace Sys2Proof.Machine

def execMappingAnchor (t : Nat) (s : State) : Host.Outcome State Fault Refusal := act t (fun s => anchorReached s) s

def execPhaseSlewEnd (t : Nat) (s : State) : Host.Outcome State Fault Refusal := act t (fun s => slewEnd s) s

def execSyncReceiptTimeout (t slot : Nat) (s : State) : Host.Outcome State Fault Refusal := act t (fun s => syncLost slot s) s

def execAnnounceReceiptTimeout (t slot port : Nat) (s : State) : Host.Outcome State Fault Refusal :=
  act t (fun s => announceLost slot port s) s

def execHotStandbyRevert (t : Nat) (s : State) : Host.Outcome State Fault Refusal := act t (fun s => hotRevert s) s

def execGptpSyncRx (t port : Nat) (m : SyncMsg) (s : State) : Host.Outcome State Fault Refusal := act t (fun s => syncRx port m s) s

def execFollowUpRx (t port : Nat) (m : SyncMsg) (s : State) : Host.Outcome State Fault Refusal := act t (fun s => followUpRx port m s) s

def execFollowUpMatchTimeout (t slot : Nat) (s : State) : Host.Outcome State Fault Refusal := act t (fun s => followUpMissed slot s) s

def execGmSyncTx (t slot : Nat) (s : State) : Host.Outcome State Fault Refusal := act t (fun s => gmSync slot s) s

def execAnnounceRx (t port : Nat) (m : AnnounceMsg) (s : State) : Host.Outcome State Fault Refusal := act t (fun s => announceIn port m s) s

def execAnnounceTx (t slot port : Nat) (s : State) : Host.Outcome State Fault Refusal := act t (fun s => announceOut slot port s) s

def execPdelayReqTx (t port : Nat) (s : State) : Host.Outcome State Fault Refusal := act t (fun s => pdelayReqOut port s) s

def execPdelayReqRx (t port : Nat) (m : PdelayReq) (s : State) : Host.Outcome State Fault Refusal := act t (fun s => pdelayReqIn port m s) s

def execPdelayRespRx (t port : Nat) (m : PdelayResp) (s : State) : Host.Outcome State Fault Refusal := act t (fun s => pdelayRespIn port m s) s

def execPairTimePulseRx (t : Nat) (w0 w1 w2 : Word) (s : State) : Host.Outcome State Fault Refusal := act t (fun s => pulseRx w0 w1 w2 s) s

def execPairTimePulseMissing (t : Nat) (s : State) : Host.Outcome State Fault Refusal :=
  act t (fun s => if pulseOverdue s then pulseMissing s else s) s

def execTioActiveEdge (t pin : Nat) (s : State) : Host.Outcome State Fault Refusal :=
  act t (fun s => let s := anchorReached s; if pin < 32 then activeEdge pin s else s) s

def execTioInactiveEdge (t pin : Nat) (s : State) : Host.Outcome State Fault Refusal :=
  act t (fun s => if pin < 32 then pulseEnd pin s else s) s

def execTioCaptureEdge (t pin : Nat) (rising : Bool) (width : Nat) (s : State) : Host.Outcome State Fault Refusal :=
  act t (fun s => if pin < 32 then captureEdge pin rising width s else s) s

end Sys2Proof.Machine
end

