-- ==== Sys2Proof/Machine/TimeRequests.lean ====
section
/-!
DEFINITION. The TIME family of requests (R565 to R567).
-/
namespace Sys2Proof.Machine

/-- Whether a port sets a class preemptable, in its record in force or in the last one accepted (R225). -/
def preemptible (s : State) (c : Nat) : Bool :=
  s.egress.any (fun e => srPreempt (schedOf s e.1) c || (e.2.schedLast ≠ [] && srPreempt e.2.schedLast c))

/-- Where a domain record conflicts with the other slots, with a preemptable class, or with the rules of external mode (R83, R225): the domain number, the
gPTP class, the role of a port from 20 on, or two slave roles, of which neither alone is at fault. -/
def domainConflict (slot : Nat) (c : Rec) (s : State) : Option Nat :=
  let slaves := (List.range 28).filter (fun p => extRole c p = 1)
  if slotMode c ≠ 0 && (List.range 4).any (fun i => i ≠ slot && slotEnabled s i && slotDomain (slotCfg s i) = slotDomain c) then some 5
  else if slotMode c ≠ 0 && preemptible s (slotTc c) then some 6
  else if slotMode c = 2 && slaves.any (fun p => 20 ≤ p) then some 8
  else if slotMode c = 2 && 2 ≤ slaves.length then some 0 else none

/-- A slot takes a record. A new mode or domain number ends what it has learned: roles, Announces, Syncs held, offsets, and the intervals asked for; the last
grandmaster and the validity, which the receipt timeout ends, stay (the model's choice, log entry 98). -/
def domainTakes (i : Nat) (c : Rec) (s : State) : State :=
  let o := slotCfg s i
  let v := slotOf4 s i
  if slotMode o = slotMode c && slotDomain o = slotDomain c then setSlot i { v with cfg := c } s
  else
    let off := fun {α : Type} (l : Tab (Option α)) => l.filter (fun e => e.1 / 32 ≠ i)
    let s1 := setSlot i { v with cfg := c, roles := [], isGm := false, held := [], offsets := [], residualSince := none } s
    { s1 with net := { s1.net with announce := off s1.net.announce, announceTx := off s1.net.announceTx, syncTx := off s1.net.syncTx
                                   syncAsk := off s1.net.syncAsk, announceAsk := off s1.net.announceAsk } }

/-- A slot that is grandmaster of its domain is refused as the source (R84). -/
def gmSource (i : Nat) (s : State) : Reply := conflictAt 4 (timeEvent (38 + i) 0x07 s)

/-- A domain slot takes its record (R82, R83, R566). One that would make the source slot grandmaster in external mode is refused (R84; log entry 113). -/
def timeDomain (q : Req) (s : State) : Reply :=
  let i := mf q 4 1 0
  let c := q.args.drop 1
  let sync := signed 4 (fld c 1 15 12)
  let ann := signed 4 (fld c 1 11 8)
  need 7 q
    [(4, only (mw q 4) [(1, 0)]), (5, only (rw c 0) [(31, 6)] && slotMode c ≠ 3),
     (6, only (rw c 1) [(31, 5)] && decide (-7 ≤ sync) && decide (sync ≤ 0) && decide (-3 ≤ ann) && decide (ann ≤ 3)),
     (7, only (rw c 2) [(31, 16)] && 2 ≤ fld c 2 31 24 && 2 ≤ fld c 2 23 16),
     (8, fld c 3 31 24 = 0 && (List.range 12).all (fun p => extRole c (16 + p) ≠ 3)), (9, (List.range 16).all (fun p => extRole c p ≠ 3)),
     (10, only (rw c 5) [(27, 0)])] s
    (match domainConflict i c s with
     | some n => conflictAt n s
     | none =>
       let s1 := domainTakes i c s
       if slotMode c = 2 && drives s i && isGrandmaster s1 i then gmSource i s else ok (runBmca i s1))

def execTimeDomain (t : Nat) (q : Req) (s : State) : Host.Outcome State Fault Refusal := request t 0x0201 timeDomain q s

/-- Working time takes a source, when it is another one than before (R85). -/
def takeSource (src domain : Nat) (s : State) : State := if s.time.src = src && s.time.domain = domain then s else changeSource src domain s

/-- The source of working time (R84, R85, R105, R109). -/
def timeSource (q : Req) (s : State) : Reply :=
  let kind := mf q 4 2 0
  let a := mf q 4 4 3
  let b := mf q 4 6 5
  let set := fun (p : Option (Nat × Nat)) (s : State) => { s with net := { s.net with pair := p, hostSwitch := none } }
  need 1 q [(4, only (mw q 4) [(15, 0)] && kind ≤ 4 && 1 ≤ mf q 4 15 8)] s
    (match kind with
     | 0 => ok (takeSource 0 0 (set none s))
     | 1 =>
       if isGrandmaster s a then gmSource a s
       else if !slotEnabled s a then conflictAt 4 s
       else ok (takeSource 1 a (set none s))
     | 2 =>
       if isGrandmaster s a then gmSource a s
       else if isGrandmaster s b then gmSource b s
       else if a = b || !slotEnabled s a || !slotEnabled s b || (slavePort s a).isNone || (slavePort s b).isNone then conflictAt 4 s
       else
         let s1 := set (some (a, b)) s
         ok (takeSource 1 a { s1 with net := { s1.net with revert := bit (mw q 4) 7, holdOff := mf q 4 15 8 } })
     | 3 => ok (takeSource 2 0 (set none s))
     | _ => ok (takeSource 3 0 (set none s)))

def execTimeSource (t : Nat) (q : Req) (s : State) : Host.Outcome State Fault Refusal := request t 0x0202 timeSource q s

/-- The host's switch of the hot-standby pair; it acts at the next boundary (R109). A slot outside the pair is refused, and a slot that is grandmaster of
its domain (R84). -/
def timeSwitch (q : Req) (s : State) : Reply :=
  let j := mf q 4 1 0
  need 1 q [(4, only (mw q 4) [(1, 0)])] s
    (match s.net.pair with
     | some (a, b) =>
       if !(j = a || j = b) then conflictAt 4 s
       else if isGrandmaster s j then gmSource j s
       else ok { s with net := { s.net with hostSwitch := some j } }
     | none => conflictAt 4 s)

def execTimeSwitch (t : Nat) (q : Req) (s : State) : Host.Outcome State Fault Refusal := request t 0x0203 timeSwitch q s

/-- The constants of a port's peer delay (R86, R88 to R90, R93). -/
def timePort (q : Req) (s : State) : Reply :=
  let p := mf q 4 4 0
  let l := signed 4 (mf q 4 8 5)
  let s1 := setPortTime p { portTimeOf s p with cfg := q.args } s
  let v := portTimeOf s p
  need 6 q
    [(4, only (mw q 4) [(17, 0)] && p < 28 && decide (-4 ≤ l) && decide (l ≤ 3) && 1 ≤ mf q 4 16 9),
     (8, only (mw q 8) [(13, 0)] && mf q 8 13 0 ≤ 10000), (9, only (mw q 9) [(13, 0)] && mf q 9 13 0 ≤ 10000)] s
    (ok (if p < 20 && portUp s p && (v.asCap || v.samples ≠ []) then judgeAsCapable p s1 else s1))

def execTimePort (t : Nat) (q : Req) (s : State) : Host.Outcome State Fault Refusal := request t 0x0204 timePort q s

/-- The host corrects the phase of host-disciplined time (R55, R56, R565). -/
def timeCorrect (q : Req) (s : State) : Reply :=
  let c : Int := signed 32 (mw q 4).toNat * 65536
  need 1 q [] s
    (if s.time.src ≠ 2 then conflict s
     else okWith [word (b2n (correctionRefused c s))] (requestCorrection c (leaveHoldover s)))

def execTimeCorrect (t : Nat) (q : Req) (s : State) : Host.Outcome State Fault Refusal := request t 0x0205 timeCorrect q s

/-- The jump threshold (R57). -/
def timeJumpThreshold (q : Req) (s : State) : Reply :=
  let n := (mw q 4).toNat
  need 1 q [(4, 64 ≤ n && n ≤ 1000000000)] s (ok { s with time := { s.time with thr := n } })

def execTimeJumpThreshold (t : Nat) (q : Req) (s : State) : Host.Outcome State Fault Refusal := request t 0x0206 timeJumpThreshold q s

/-- The anchor at which the request last made takes effect (R48). -/
def anchorOf (s : State) : Nat :=
  match s.time.pend, s.time.wait with
  | some (a, _), some _ => a + 1000
  | some (a, _), none => a
  | none, _ => s.time.now

/-- The authenticated step (R59, R118). -/
def timeStep (q : Req) (s : State) : Reply :=
  need 4 q [(6, fullOk q.args), (7, only (mw q 7) [(0, 0)])] s
    (let s1 := requestMapping { step := some (ofFull q.args), causes := [4] } { s with ptime := { s.ptime with followStep := bit (mw q 7) 0 } }
     okWith (split64 (anchorOf s1)) s1)

def execTimeStep (t : Nat) (q : Req) (s : State) : Host.Outcome State Fault Refusal := request t 0x0207 timeStep q s

/-- The status record of a slot (R112, R567). -/
def slotStatus (s : State) (i : Nat) : Rec :=
  let v := slotOf4 s i
  split64 v.gmId ++ [packW [(16, v.steps), (16, 0)]] ++ split64 (unsigned 64 v.offset) ++ [word (unsigned 32 v.rate)]
    ++ (List.range 28).flatMap (fun p =>
      [packW [(2, roleOf s i p), (1, b2n (portTimeOf s p).asCap), (29, 0)], word (unsigned 32 (delayOf s p)), word (unsigned 32 (portTimeOf s p).nrr)]
        ++ (List.range 9).map (fun k => word (netCount s (if portCounter k then 0 else i) p k)))

/-- The counters that the status of a slot shows are cleared (R112). -/
def clearNetCounts (i : Nat) (s : State) : State :=
  { s with net := { s.net with counts := s.net.counts.filter (fun e => !(e.1 / 512 = i || portCounter (e.1 % 16))) } }

/-- Domain status (R112, R560). -/
def timeStatus (q : Req) (s : State) : Reply :=
  let i := mf q 4 1 0
  need 1 q [(4, only (mw q 4) [(1, 0)])] s
    (okWith (slotStatus s i) (if q.clear then clearNetCounts i s else s))

def execTimeStatus (t : Nat) (q : Req) (s : State) : Host.Outcome State Fault Refusal := request t 0x0208 timeStatus q s

/-- PAIR_TIME takes a role and a trace delay (R113, R115). A follower that takes another role loses its lock. -/
def timePairTime (q : Req) (s : State) : Reply :=
  let r := mf q 4 1 0
  need 2 q [(4, only (mw q 4) [(1, 0)] && r ≠ 3), (5, only (mw q 5) [(13, 0)] && mf q 5 13 0 ≤ 10000)] s
    (ok (if r = s.ptime.role then { s with ptime := { s.ptime with delay := mf q 5 13 0 } }
      else
        let s1 := loseLock s
        { s1 with ptime := { role := r, delay := mf q 5 13 0, followStep := s.ptime.followStep, stepTgl := s.ptime.stepTgl } }))

def execTimePairTime (t : Nat) (q : Req) (s : State) : Host.Outcome State Fault Refusal := request t 0x0209 timePairTime q s

end Sys2Proof.Machine
end

