-- ==== Sys2Proof/Machine/Handlers.lean ====
section
/-!
DEFINITION. The opcodes of the command reference and what serves each (R564 to R577), and those that a settings copy may hold (R611).
-/
namespace Sys2Proof.Machine

abbrev Handler := Req → State → Reply

def handlerSys (op : Nat) : Option Handler :=
  match op with
  | 0x0101 => some sysSettings
  | 0x0102 => some sysBeatLength
  | 0x0103 => some sysPort
  | 0x0104 => some sysPortStatus
  | 0x0105 => some sysMdio
  | 0x0106 => some sysBridgePort
  | 0x0107 => some sysVlan
  | 0x0108 => some sysMacWrite
  | 0x0109 => some sysMacRead
  | 0x010A => some sysAgeing
  | 0x010B => some sysMacFlush
  | 0x010C => some sysMirror
  | 0x010D => some sysBuffer
  | 0x010E => some sysBufferStatus
  | 0x010F => some sysBridgeCounters
  | _ => none

def handlerTime (op : Nat) : Option Handler :=
  match op with
  | 0x0201 => some timeDomain
  | 0x0202 => some timeSource
  | 0x0203 => some timeSwitch
  | 0x0204 => some timePort
  | 0x0205 => some timeCorrect
  | 0x0206 => some timeJumpThreshold
  | 0x0207 => some timeStep
  | 0x0208 => some timeStatus
  | 0x0209 => some timePairTime
  | _ => none

def handlerSched (op : Nat) : Option Handler :=
  match op with
  | 0x0301 => some schedPort
  | 0x0302 => some schedGateList
  | 0x0303 => some schedGateListArm
  | 0x0304 => some schedGateStatus
  | 0x0305 => some schedShaper
  | 0x0306 => some schedSample
  | 0x0307 => some schedCounters
  | _ => none

def handlerStream (op : Nat) : Option Handler :=
  match op with
  | 0x0401 => some streamProfile
  | 0x0402 => some streamIdPut
  | 0x0403 => some streamIdDrop
  | 0x0404 => some streamHandlePut
  | 0x0405 => some streamFilterPut
  | 0x0406 => some streamGatePut
  | 0x0407 => some streamPool
  | 0x0408 => some streamMeterPut
  | 0x0409 => some streamGenerationPut
  | 0x040A => some streamRecoveryPut
  | 0x040B => some streamClearLatch
  | 0x040C => some streamFilterStat
  | 0x040D => some streamFrerStat
  | _ => none

def handlerFilt (op : Nat) : Option Handler :=
  match op with
  | 0x0501 => some filtZones
  | 0x0502 => some filtExact
  | 0x0503 => some filtTernary
  | 0x0504 => some filtMember
  | 0x0505 => some filtDelete
  | 0x0506 => some filtCopy
  | 0x0507 => some filtSwapBanks
  | 0x0508 => some filtDry
  | 0x0509 => some filtTimeouts
  | 0x050A => some filtFlush
  | 0x050B => some filtTrackRead
  | 0x050C => some filtBypassPair
  | 0x050D => some filtLogRate
  | 0x050E => some filtStat
  | 0x050F => some filtPairs
  | 0x0510 => some filtHits
  | _ => none

def handlerGw (op : Nat) : Option Handler :=
  match op with
  | 0x0601 => some gwControllerPut
  | 0x0602 => some gwSend
  | 0x0603 => some gwAbort
  | 0x0604 => some gwRecovery
  | 0x0605 => some gwLinPut
  | 0x0606 => some gwPool
  | 0x0607 => some gwTable
  | 0x0608 => some gwSelect
  | 0x0609 => some gwPublish
  | 0x060A => some gwRoutePut
  | 0x060B => some gwTunnelPut
  | 0x060C => some gwReceive
  | 0x060D => some gwSource
  | 0x060E => some gwAuthPut
  | 0x060F => some gwCanStat
  | 0x0610 => some gwLinStat
  | 0x0611 => some gwDropStat
  | 0x0612 => some gwTunnelStat
  | 0x0613 => some gwRouteStat
  | _ => none

def handlerNm (op : Nat) : Option Handler :=
  match op with
  | 0x0701 => some nmSourcePut
  | 0x0702 => some nmStandbyGo
  | 0x0703 => some nmSegmentPut
  | 0x0704 => some nmRequestPut
  | 0x0705 => some nmSettingsPut
  | 0x0706 => some nmOffenderRead
  | 0x0707 => some nmSegmentStat
  | 0x0708 => some nmSourceStat
  | _ => none

def handlerCipher (op : Nat) : Option Handler :=
  match op with
  | 0x0801 => some keyInfo
  | 0x0802 => some keyUnwrapPut
  | 0x0803 => some keyDerivePut
  | 0x0804 => some keyGeneratePut
  | 0x0805 => some keyPlainPut
  | 0x0806 => some keyErasePut
  | 0x0901 => some cryptSettingsPut
  | 0x0902 => some cryptSecyPut
  | 0x0903 => some cryptSaPut
  | 0x0904 => some cryptScPut
  | 0x0905 => some cryptSecyStat
  | 0x0906 => some cryptSaStat
  | 0x0910 => some cryptOperate
  | 0x0A01 => some traceSelectorPut
  | 0x0A02 => some traceExportPut
  | 0x0A03 => some traceSettingsPut
  | _ => none

def handlerDark (op : Nat) : Option Handler :=
  match op with
  | 0x0B01 => some darkStatGet
  | 0x0B02 => some darkIdent
  | 0x0B03 => some darkCalRead
  | 0x0B04 => some darkResealPut
  | 0x0B05 => some darkTrig
  | 0x0B06 => some darkTrigTable
  | 0x0B07 => some darkWindowPut
  | 0x0B08 => some darkExp
  | 0x0B09 => some darkRel
  | 0x0B0A => some darkAtt
  | 0x0B0B => some darkAudit
  | 0x0C01 => some pairConf
  | 0x0C02 => some pairGuard
  | 0x0C03 => some pairBindPut
  | 0x0C04 => some pairStat
  | 0x0C05 => some pairRel
  | 0x0E01 => some testLoop
  | 0x0E02 => some testPrbs
  | 0x0E03 => some testCable
  | 0x0E04 => some testCipher
  | 0x0E05 => some testService
  | 0x0E06 => some testScrub
  | _ => none

/-- The read and status commands, and the A and F* commands, of the families that settings may hold. -/
def notSetting (op : Nat) : Bool :=
  [0x0101, 0x0104, 0x0109, 0x010E, 0x010F, 0x0207, 0x0208, 0x0304, 0x0306, 0x0307, 0x040C, 0x040D, 0x050B, 0x050C, 0x050E, 0x050F, 0x0510,
   0x060F, 0x0610, 0x0611, 0x0612, 0x0613, 0x0706, 0x0707, 0x0708, 0x0905, 0x0906].contains op

/-- What serves an opcode that a settings copy may hold (R611). -/
def settingHandler (op : Nat) : Option Handler :=
  if notSetting op then none
  else match op / 256 with
    | 1 => handlerSys op
    | 2 => handlerTime op
    | 3 => handlerSched op
    | 4 => handlerStream op
    | 5 => handlerFilt op
    | 6 => handlerGw op
    | 7 => handlerNm op
    | 9 | 10 => handlerCipher op
    | _ => none

end Sys2Proof.Machine
end

