-- ==== Sys2Proof/Machine/FlashOps.lean ====
section
/-!
DEFINITION. The boot flash, the image and its checks, the settings copies and their application (R603 to R615).
-/
namespace Sys2Proof.Machine
open Sys2Proof

/-! ### The flash (R603) -/

/-- A byte of the flash; erased bytes read 0xFF. -/
def flashByte (s : State) (a : Nat) : Byte := tget 0xFF s.sys.fw.flash a

/-- The word at an address, its lowest byte first (log entry 6). -/
def flashWord (s : State) (a : Nat) : Word :=
  word ((flashByte s a).toNat + (flashByte s (a + 1)).toNat * 2 ^ 8 + (flashByte s (a + 2)).toNat * 2 ^ 16 + (flashByte s (a + 3)).toNat * 2 ^ 24)

def flashWords (s : State) (a n : Nat) : Rec := (List.range n).map (fun i => flashWord s (a + 4 * i))
def flashBytes (s : State) (a n : Nat) : Bytes := (List.range n).map (fun i => flashByte s (a + i))

/-- Bytes a to b - 1 are erased. -/
def flashErase (a b : Nat) (s : State) : State :=
  setFw (fun f => { f with flash := f.flash.filter (fun e => e.1 < a || b ≤ e.1) }) s

/-- The 4 KiB sectors that n bytes at an address touch are erased. -/
def eraseSectors (a n : Nat) (s : State) : State := if n = 0 then s else flashErase (a / 4096 * 4096) ((a + n + 4095) / 4096 * 4096) s

/-- Bytes are programmed from an address on. -/
def flashProgram (a : Nat) (b : Bytes) (s : State) : State :=
  setFw (fun f => { f with flash := (b.zipIdx).foldl (fun m e => tset 0xFF m (a + e.2) e.1) f.flash }) s

/-! ### The image (R604, R605) -/

/-- The header words that carry fields. -/
def imageHeader (s : State) : Rec := flashWords s 0 46
def imBody (h : Rec) : Nat := (rw h 3).toNat
def imSvn (h : Rec) : Nat := fld h 2 5 0
def imSetLo (h : Rec) : Nat := fld h 4 15 8

/-- Check 2: the header is valid. -/
def headerValid (s : State) : Bool :=
  let h := imageHeader s
  rw h 0 = 0x53590001 && fld h 2 31 6 = 0 && 4096 ≤ imBody h && imBody h ≤ 1572864 && imBody h % 4096 = 0 && fld h 4 7 0 = 0 && rw h 5 = 0
    && (List.range 978).all (fun i => flashWord s (4 * (46 + i)) = 0)

/-- Checks 2 to 5 of R605 in order: the SL_CAUSE of the first that fails, or 0. -/
def imageCheck (s : State) : Nat :=
  let h := imageHeader s
  let key := flashBytes s 56 64
  if !headerValid s then 2
  else if bytesNat (sha false key) ≠ Config.imageKeyHash.toNat then 3
  else if !ecdsaVerify false key (flashBytes s 0 120) (flashBytes s 120 64) then 4
  else if imSvn h < s.sys.fw.floor then 5
  else 0

/-- The bytes that an activation hashes. -/
def imageLength (s : State) : Nat := 4096 + imBody (imageHeader s)

/-- The release concerned, as events carry it (R623). -/
def releaseWord (s : State) : Nat := (release s).1 * 65536 + (release s).2

def fwEvent12 (cause : Nat) (detail : Nat) (s : State) : State := systemEventD 12 cause detail s

/-! ### Settings copies (R609 to R613) -/

/-- Where a copy starts. -/
def copyBase (c : Nat) : Nat := 0x200000 + 0x100000 * c

/-- The TAG over every other byte of a copy: the bytes of its first 12 words, and of its messages. -/
def settingsTag (s : State) (head msgs : Bytes) : Bytes := cmac (slotAt s 254).key (head ++ msgs)

/-- GEN of a copy, when it is whole: its header valid, its TAG good. -/
def copyGen (s : State) (c : Nat) : Option Nat :=
  let a := copyBase c
  let n := (flashWord s (a + 12)).toNat
  if flashWord s a = 0x53540001 && 64 ≤ n && n ≤ 1048576 && n % 4 = 0
      && flashBytes s (a + 48) 16 = settingsTag s (flashBytes s a 48) (flashBytes s (a + 64) (n - 64)) then some (flashWord s (a + 4)).toNat
  else none

def copySchema (s : State) (c : Nat) : Nat := bits (flashWord s (copyBase c + 8)) 31 24

/-- The image that the settings are for: the one that runs. -/
def dvHi (s : State) : Nat := (devVersions s).2
def setLo (s : State) : Nat := if s.sys.fw.img = [] then 0x10 else imSetLo s.sys.fw.img

/-- GEN of a copy that the running image reads. -/
def readable (s : State) (c : Nat) : Option Nat := if setLo s ≤ copySchema s c && copySchema s c ≤ dvHi s then copyGen s c else none

/-- The copy in force at a start or an activation (R613). -/
def chooseCopy (s : State) : Option Nat :=
  match readable s 0, readable s 1 with
  | some a, some b => if a < b then some 1 else some 0
  | some _, none => some 0
  | none, some _ => some 1
  | none, none => none

/-- The copy that a write goes to (R612). -/
def targetCopy (s : State) : Nat :=
  match (if s.sys.fw.commitPending then s.sys.fw.base else s.sys.fw.inForce) with
  | some c => 1 - c
  | none => 0

/-- The GEN of the next copy written. -/
def newGen (s : State) : Nat := (max ((copyGen s 0).getD 0) ((copyGen s 1).getD 0) + 1) % 2 ^ 32

/-- A copy with its GEN and TAG filled in, as bytes: the 16 words of its header, and its messages. -/
def sealCopy (s : State) (gen : Nat) (head msgs : Rec) : Bytes :=
  let h := ((head.take 12).set 1 (word gen)).flatMap leBytes
  let m := msgs.flatMap leBytes
  h ++ settingsTag s h m ++ m

/-- The messages of a copy, cut by their LENGTH; none where they do not fit. -/
def cutMessages : Nat → Rec → Option (List Rec)
  | _, [] => some []
  | 0, _ => none
  | f + 1, ws =>
    let n := fld ws 0 27 16
    if n < 4 || 2048 < n || ws.length < n then none else (cutMessages f (ws.drop n)).map (fun r => ws.take n :: r)

/-- A message as a request. -/
def messageReq (m : Rec) : Req :=
  { mbx := 0, seq := rw m 1, verMaj := fld m 2 31 28, verMin := fld m 2 27 24, clear := flag m 2 22, staged := flag m 2 19, ident := rw m 3, args := m.drop 4 }

/-- Whether a message may stand in a copy of a schema (R611). -/
def messageOk (s : State) (schema : Nat) (m : Rec) : Bool :=
  let op := fld m 0 15 0
  match settingHandler op, opRule op with
  | some h, some r => fld m 0 31 28 = 1 && !flag m 2 19 && !flag m 2 23 && r.since ≤ schema && (match (h (messageReq m) s).1 with
      | .done 2 [w] => bits w 31 16 ≠ 0
      | _ => true)
  | _, _ => false

/-- Whether words are a copy that may be written (R611). -/
def copyValid (s : State) (ws : Rec) (n : Nat) : Bool :=
  let schema := fld ws 2 31 24
  rw ws 0 = 0x53540001 && rw ws 1 = 0 && fld ws 2 23 0 = 0 && (rw ws 3).toNat = n && 64 ≤ n && n % 4 = 0
    && (ws.drop 6 |>.take 10).all (fun w => w = 0) && setLo s ≤ schema && schema ≤ dvHi s
    && (match cutMessages ws.length (ws.drop 16) with
        | some l => decide (l.length = (rw ws 5).toNat) && l.all (messageOk s schema)
        | none => false)

/-! ### Application (R614, R615) -/

/-- One message is applied; none where it is refused. A set that it stages is in force at once. -/
def applyMessage (m : Rec) (s : State) : Option State :=
  match settingHandler (fld m 0 15 0) with
  | none => none
  | some h =>
    let r := h (messageReq m) s
    match r.1 with
    | .done 0 _ => some r.2
    | .stage .fwSwap _ => some (applySet (wtNow s) .fwSwap { r.2 with fw := { r.2.fw with swapPend := true } })
    | .stage x _ => some (applySet (wtNow s) x r.2)
    | _ => none

/-- Messages applied in order: the state, and the index of the one refused. -/
def applyMessages : Nat → List Rec → State → Option Nat × State
  | _, [], s => (none, s)
  | i, m :: r, s => match applyMessage m s with
    | some s1 => applyMessages (i + 1) r s1
    | none => (some i, s)

/-- The messages of a copy in flash. -/
def copyMessages (s : State) (c : Nat) : List Rec :=
  let a := copyBase c
  let n := (flashWord s (a + 12)).toNat / 4
  (cutMessages n (flashWords s (a + 64) (n - 16))).getD []

/-- The safe profile: nothing of the copy stands (R615). -/
def safeProfile (index : Nat) (s : State) : State :=
  fwEvent12 0x03 (index * 2 ^ 32 + releaseWord s) (setFw (fun f => { f with safeProfile := true, settingsGood := false }) s)

/-- A migrated copy is to be written: its target is erased (R612, R613). -/
def startMigration (s : State) : State :=
  let c := targetCopy s
  flashErase (copyBase c) (copyBase c + 0x100000) (setFw (fun f => { f with migrating := true }) s)

/-- A copy has been established: settings are good, unless it is to be migrated first (R613, R614). -/
def settingsEstablished (s : State) : State :=
  match s.sys.fw.inForce with
  | none => s
  | some c =>
    if copySchema s c < dvHi s then startMigration s
    else fwEvent12 0x05 (releaseWord s) (setFw (fun f => { f with settingsGood := true }) s)

/-- The settings of a copy are applied (R614, R615). -/
def applyCopy (c : Nat) (s : State) : State :=
  let s0 := setFw (fun f => { f with inForce := some c }) s
  match applyMessages 0 (copyMessages s c) s0 with
  | (none, s1) => settingsEstablished (setFw (fun f => { f with safeProfile := false }) s1)
  | (some i, s1) => safeProfile i { s0 with fresh := s1.fresh }

/-- The settings of a start (R613, R614). -/
def startSettings (s : State) : State :=
  match chooseCopy s with
  | some c => applyCopy c s
  | none => safeProfile 0xFFFFFFFF (setFw (fun f => { f with inForce := none }) s)

/-- The device settings key, derived into slot 254 (R610). -/
def settingsKey (s : State) : State :=
  let k := kdf rootSlot.key [0x53, 0x45, 0x54, 0x54] [] 32
  writeSlot 254 { type := 2, origin := 2, fixed := true, parent := 0, usage := 8, key := k } s

end Sys2Proof.Machine
end

