-- ==== Sys2Proof/Machine/FwRequests.lean ====
section
/-!
DEFINITION. The FW family of requests (R578): status, download, activation, commit, settings, lifecycle (R606 to R620).
-/
namespace Sys2Proof.Machine
open Sys2Proof

/-- GEN of the copy in force; 0 with none. -/
def genInForce (s : State) : Nat := match s.sys.fw.inForce with | some c => (copyGen s c).getD 0 | none => 0

/-- Status (R578). -/
def fwStat (q : Req) (s : State) : Reply :=
  let f := s.sys.fw
  need 0 q [] s
    (okWith [word (releaseWord s), flashWord s 4, packW [(24, 0), (2, f.lifecycle), (6, f.floor)], word (genInForce s),
      packW [(1, b2n f.settingsGood), (1, b2n f.safeProfile), (1, b2n f.commitPending), (29, 0)]] s)

def execFwStatus (t : Nat) (q : Req) (s : State) : Host.Outcome State Fault Refusal := request t 0x0D01 fwStat q s

/-- A download is taken: the sectors that it touches are erased, and SLOT_DIRTY is set (R606). -/
def fwLoad (q : Req) (s : State) : Reply :=
  match bulkOf 1 q s with
  | none => rangeAt (bulkWord 1 q) s
  | some (ws, n) =>
    let off := mf q 4 21 0
    if !only (mw q 4) [(21, 0)] || off % 4096 ≠ 0 || 0x200000 ≤ off || 0x200000 < off + n then rangeAt 4 s
    else if inFlight s (fun op => op = 0x0D02 || op = 0x0D03 || op = 0x0D07) then busy s
    else (.defer (word off :: word n :: ws), eraseSectors off n (setFw (fun f => { f with slotDirty := true }) s))

def execFwDownload (t : Nat) (q : Req) (s : State) : Host.Outcome State Fault Refusal := request t 0x0D02 fwLoad q s

/-- An activation is refused, and raises its cause (R608, R623). -/
def activationRefused (r : Reply) (s : State) : Reply := (r.1, fwEvent12 0x02 (rw (imageHeader s) 1).toNat s)

/-- An activation: the checks of the slot, and then the wait for the pause (R608). In Safelight the image starts as after a reset (R621). -/
def fwActivatePut (q : Req) (s : State) : Reply :=
  if q.args.length ≠ 8 then rangeAt 0 s
  else if inFlight s (fun op => op = 0x0D02 || op = 0x0D07) || s.sys.fw.act.isSome then activationRefused (busy s) s
  else
    let c := imageCheck s
    let hash := decide (recBytes q.args = sha false (flashBytes s 0 (imageLength s)))
    let bodyOk := decide (recBytes ((imageHeader s).drop 6 |>.take 8) = sha false (flashBytes s 4096 (imBody (imageHeader s))))
    if c = 2 || !hash then activationRefused (conflict s) s
    else if c = 3 || c = 4 then activationRefused (keyRefused 1 s) s
    else if c = 5 then activationRefused (locked s) s
    else if s.sys.fw.boot = .safelight then
      if bodyOk then
        (.both 0 [], setFw (fun f => { f with boot := .loaded, img := imageHeader s, slCause := 0, slotDirty := false }) s)
      else activationRefused (conflict s) s
    else
      (.defer (split64 (s.time.now + 10 * imageLength s)), setFw (fun f => { f with act := some q.mbx }) s)

def execFwActivate (t : Nat) (q : Req) (s : State) : Host.Outcome State Fault Refusal := request t 0x0D03 fwActivatePut q s

/-- Commit (R617): fuse steps are to be blown where the image's SVN exceeds the floor. -/
def fwCommitPut (q : Req) (s : State) : Reply :=
  let f := s.sys.fw
  let svn := imSvn f.img
  if q.args ≠ [] then rangeAt 0 s
  else if fuseBusy s then busy s
  else if !f.settingsGood || !f.commitPending then conflict s
  else if f.floor < svn && !s.dark.run then busy s
  else if f.floor < svn then (.defer [word svn], auditAppend 1 (svn + 1) (word f.floor) (word svn) (releaseShort s) s)
  else (.both 0 [word f.floor], setFw (fun f => { f with commitPending := false, base := none }) s)

def execFwCommit (t : Nat) (q : Req) (s : State) : Host.Outcome State Fault Refusal := request t 0x0D04 fwCommitPut q s

/-- A settings write is taken: the copy that it goes to is erased (R611, R612). -/
def fwSettingsPut (q : Req) (s : State) : Reply :=
  match bulkOf 0 q s with
  | none => rangeAt (bulkWord 0 q) s
  | some (ws, n) =>
    if !copyValid s ws n then rangeAt (if q.staged then 0 else 4) s
    else if s.sys.fw.migrating || inFlight s (fun op => op = 0x0D05) then busy s
    else
      let c := targetCopy s
      let g := newGen s
      (.defer (word c :: word g :: ws), flashErase (copyBase c) (copyBase c + (n + 4095) / 4096 * 4096) s)

def execFwSettingsWrite (t : Nat) (q : Req) (s : State) : Host.Outcome State Fault Refusal := request t 0x0D05 fwSettingsPut q s

/-- A settings read: bytes of the two copies, from an offset on, into the staging part (R557, R578). -/
def fwSettingsGet (q : Req) (s : State) : Reply :=
  let off := mf q 4 20 0
  let dst := mf q 5 31 16
  let len := mf q 5 15 0
  let n := min len (0x200000 - off)
  need 2 q [(4, only (mw q 4) [(20, 0)]), (5, dst % 4 = 0 && 4 ≤ len && dst + len ≤ 16384)] s
    (okWith [word n] (memBytes (0xE0000 + 0x4000 * q.mbx + dst) (flashBytes s (0x200000 + off) n) s))

def execFwSettingsRead (t : Nat) (q : Req) (s : State) : Host.Outcome State Fault Refusal := request t 0x0D06 fwSettingsGet q s

/-- A lifecycle change (R620). -/
def fwLifecyclePut (q : Req) (s : State) : Reply :=
  let new := mf q 4 1 0
  let old := s.sys.fw.lifecycle
  need 1 q [(4, only (mw q 4) [(1, 0)] && new = old + 1)] s
    (if fuseBusy s then busy s
     else if (new = 1 && !s.dark.run) || (new = 2 && s.sys.fw.commitPending) then conflictAt 4 s
     else if !s.dark.run then busy s
     else (.defer [word new], auditAppend 3 new (word old) (word new) (releaseShort s) s))

def execFwLifecycle (t : Nat) (q : Req) (s : State) : Host.Outcome State Fault Refusal := request t 0x0D07 fwLifecyclePut q s

/-! ### Writes complete -/

/-- The mailbox, lowest first, whose deferred command is one of some. -/
def jobOf (s : State) (op : Nat → Bool) : Option (Nat × Deferred) :=
  match flightOf s op with
  | some m => (boxOf s m).deferred.map (fun d => (m, d))
  | none => none

/-- The data of the boot flash write in flight are programmed, its response is posted (R606, R611, R615); a failed one ends with CONFLICT. -/
def flashWritten (good : Bool) (s : State) : State :=
  match jobOf s (fun op => op = 0x0D02 || op = 0x0D05) with
  | none => s
  | some (m, d) =>
    let p := d.progress
    if !good then finishDeferred m 3 [packW [(16, 0), (16, 0)]] s
    else if d.opcode = 0x0D02 then
      let n := (rw p 1).toNat
      finishDeferred m 0 [word n] (flashProgram (rw p 0).toNat (((p.drop 2).flatMap leBytes).take n) s)
    else
      let c := (rw p 0).toNat
      let ws := p.drop 2
      let s1 := flashProgram (copyBase c) (sealCopy s (rw p 1).toNat (ws.take 16) (ws.drop 16)) s
      finishDeferred m 0 [rw p 1] (if s.sys.fw.safeProfile && (readable s1 c).isSome then applyCopy c s1 else s1)

def execFlashWriteComplete (t : Nat) (good : Bool) (s : State) : Host.Outcome State Fault Refusal := act t (fun s => flashWritten good s) s

/-- Slots 1 to 253 and 255 are erased (R396, R620). -/
def eraseKeys (s : State) : State :=
  (List.range 255).foldl (fun s i =>
    let k := if i + 1 = 254 then 0 else i + 1
    if k = 0 || (slotAt s k).type = 0 then s else writeSlot k {} s) s

/-- The effects of a lifecycle change (R442, R620). -/
def lifecycleTo (new : Nat) (s : State) : State :=
  let s1 := setFw (fun f => { f with lifecycle := new }) s
  let s2 := match new with
    | 1 => darkKeys s1
    | 3 => eraseKeys (flashErase 0x200000 0x400000 (setFw (fun f => { f with inForce := none }) s1))
    | _ => s1
  fwEvent12 0x07 (releaseWord s2) s2

/-- The fuse write in flight reads back (R580, R617, R620); a failed one ends with CONFLICT. -/
def fusesWritten (good : Bool) (s : State) : State :=
  match jobOf s (fun op => op = 0x0C03 || op = 0x0D04 || op = 0x0D07) with
  | none => s
  | some (m, d) =>
    if !good then finishDeferred m 3 [packW [(16, 0), (16, 0)]] s
    else if d.opcode = 0x0C03 then
      let s1 := setPair { s.pair with bound := some (flag d.args 0 0, cat64 (rw d.args 1) (rw d.args 2)), binds := (rw d.progress 0).toNat } s
      finishDeferred m 0 [word s1.pair.binds] s1
    else if d.opcode = 0x0D04 then
      let svn := (rw d.progress 0).toNat
      finishDeferred m 0 [word svn] (fwEvent12 0x06 (releaseWord s) (setFw (fun f => { f with floor := svn, commitPending := false, base := none }) s))
    else finishDeferred m 0 [] (lifecycleTo (rw d.progress 0).toNat s)

def execFuseWriteComplete (t : Nat) (good : Bool) (s : State) : Host.Outcome State Fault Refusal := act t (fun s => fusesWritten good s) s

end Sys2Proof.Machine
end

