-- ==== Sys2Proof/Machine/BootCommands.lean ====
section
/-!
DEFINITION. Start-up, Safelight, retained wake, activation and migration (R366, R595, R605, R608, R610 to R615, R621, R641, R642).
-/
namespace Sys2Proof.Machine
open Sys2Proof

/-! ### The first steps -/

/-- A new challenge for the debug unlock (R658): free values. -/
def drawChallenge (s : State) : State :=
  let r := randomBytes 2 s
  (bytesRec r.1).zipIdx.foldl (fun s e => regSet (rTEST (4 * e.2)) e.1 s) r.2

/-- What follows a power-on reset once: logic BIST of the held core, whose outcome is a free value, and the challenge (R595, R658). -/
def firstSteps (s : State) : State :=
  if !s.sys.core.bist then s
  else
    let v := freeVal (drawChallenge s)
    let pass := v.1.getLsbD 0
    let s1 := setCore (fun c => { c with bist := false, stbyOk := pass }) v.2
    if pass then s1 else systemEventD 11 0x03 s1.sys.core.snapId s1

/-- The ROM enters Safelight: mailbox 0 is served without a journal (R605, R621). -/
def enterSafelight (cause : Nat) (s : State) : State :=
  let s1 := setFw (fun f => { f with boot := .safelight, slCause := cause, img := [] }) s
  fwEvent12 0x08 (releaseWord s1) { s1 with mbx := { s1.mbx with saved := some (s1.mbx.saved.getD s1.mbx.box), box := [] } }

/-- The ROM checks the image in flash (R605). -/
def bootVerify (answers bodyOk : Bool) (s0 : State) : State :=
  if s0.sys.fw.boot ≠ .rom then s0
  else
    let s := firstSteps s0
    let c := if !answers then 1 else if imageCheck s ≠ 0 then imageCheck s else if !bodyOk then 6 else 0
    if c = 0 then setFw (fun f => { f with boot := .loaded, img := imageHeader s, slCause := 0 }) s else enterSafelight c s

def execBootImageVerify (t : Nat) (flashAnswers bodyMatches : Bool) (s : State) : Host.Outcome State Fault Refusal :=
  act t (fun s => bootVerify flashAnswers bodyMatches s) s

/-! ### Segments at a start (R366) -/

/-- A segment starts in SLEEP. -/
def startAsleep (i : Nat) (s : State) : State :=
  let s1 := setSeg i { segOf s i with state := 3, timer := none, prep := none, commit := false, latch := none } s
  if segIsPort i && (portOf s1 i).st = .training then portTo i .down s1 else s1

/-- The lowest source set in CROCUS.PEND whose SEG_MASK names a segment. -/
def wokenBy (s : State) (i : Nat) : Option Nat :=
  (maskBits (regGet s (rCROCUS 0x0C)).toNat 32).find? (fun src => (wsMask (sourceOf s src)).testBit i)

/-- A segment that is not managed comes up as its configuration states; a validation window counts from there (R366, R381). -/
def startUnmanaged (i : Nat) (s : State) : State := validationStarts i (drivePin i false (setSeg i { segOf s i with state := 0 } s))

/-- Where the NM segments start: after a wake, a system reset, or a power-on without a wake. -/
def startSegments (s : State) : State :=
  let managed := (List.range 60).filter (fun i => segManaged (segOf s i))
  let s1 := match s.sys.pow.woke with
    | some l => ((List.range 60).filter (fun i => !segManaged (segOf s i))).foldl (fun s i => startUnmanaged i s) <| managed.foldl (fun s i => match wokenBy s i with
        | some src => startWaking i 1 src s
        | none => if l = 3 && s.nm.snapshot then s else startAsleep i s) s
    | none => if regFld s rRST_STAT 31 29 = 3 then s else managed.foldl (fun s i => startWaking i 5 0 s) s
  setPow (fun p => { p with woke := none }) s1

/-! ### Service begins -/

/-- Journals lost are reported (R36, R549). -/
def tellLost (s : State) : State :=
  (List.range 8).foldl (fun s m =>
    let b := boxOf s m
    if b.journalLost && !b.lostTold then systemEventD 10 0x03 m (setBox m { b with lostTold := true } s) else s) s

/-- The mailboxes' journals stand again after Safelight; the rings stay as they are. -/
def restoreJournals (s : State) : State :=
  match s.mbx.saved with
  | none => s
  | some t =>
    let box := (List.range 8).foldl (fun r m => tset {} r m { tget {} t m with req := (boxOf s m).req, rsp := (boxOf s m).rsp }) []
    { s with mbx := { s.mbx with box := box, saved := none } }

/-- A journalled deferred command goes on after a reset (R537, R607); a download does not, and an activation checks its slot again. -/
def resumeDeferred (s : State) : State :=
  (List.range 8).foldl (fun s m =>
    match (boxOf s m).deferred with
    | none => s
    | some d =>
      if d.opcode = 0x0D02 then finishDeferred m 3 [packW [(16, 0), (16, 0)]] s
      else if d.opcode = 0x0D03 then
        if imageCheck s = 0 && decide (recBytes d.args = sha false (flashBytes s 0 (imageLength s))) then
          setFw (fun f => { f with act := some m }) (setBox m { boxOf s m with deferred := some { d with progress := split64 (s.time.now + 10 * imageLength s) } } s)
        else fwEvent12 0x02 (rw (imageHeader s) 1).toNat (finishDeferred m 3 [packW [(16, 0), (16, 0)]] s)
      else if d.opcode = 0x0E03 then let n := fld d.args 0 4 0; setPort n { portOf s n with cable := true } s
      else s) s

/-- Validation windows of sources without segments count from the first mailbox service (R381). -/
def windowsStart (s : State) : State :=
  { s with nm := { s.nm with source := tmap {} s.nm.source (fun _ v =>
      if v.opened && v.validEnd.isNone && wsMask v = 0 then { v with validEnd := some (s.time.now + nmValidMs s) } else v) } }

/-- The mailboxes are served, and task lists run. -/
def beginService (s : State) : State :=
  windowsStart (resumeDeferred (tellLost (controlStarts (restoreJournals (setFw (fun f => { f with boot := .served }) s)))))

/-- Start-up is complete: settings applied, forwarding enabled, mailboxes served (R610, R613, R614, R641). -/
def startDone (s : State) : State :=
  if s.sys.fw.boot ≠ .loaded then s else beginService (startSegments (startSettings (settingsKey s)))

def execStartUpComplete (t : Nat) (s : State) : Host.Outcome State Fault Refusal := act t startDone s

/-! ### A wake from retained standby (R642) -/

/-- The ROM checks the resume kernel, which applies the settings and forwards. -/
def resumeKernel (good : Bool) (s0 : State) : State :=
  if s0.sys.fw.boot ≠ .resume then s0
  else if good && s0.sys.fw.kernel then
    setFw (fun f => { f with boot := .kernel }) (startSegments (startSettings (settingsKey (firstSteps s0))))
  else setFw (fun f => { f with boot := .rom }) s0

def execRetainedWakeResume (t : Nat) (kernelOk : Bool) (s : State) : Host.Outcome State Fault Refusal := act t (fun s => resumeKernel kernelOk s) s

/-- The full image takes over, or a system reset follows (R642). -/
def imageChecked (good : Bool) (s : State) : State :=
  if s.sys.fw.boot ≠ .kernel then s
  else if good && imageCheck s = 0 then beginService (setFw (fun f => { f with img := imageHeader s }) s)
  else systemReset 0x0A s

def execResumeImageChecked (t : Nat) (good : Bool) (s : State) : Host.Outcome State Fault Refusal := act t (fun s => imageChecked good s) s

/-! ### Activation (R608) -/

/-- The pause of an activation begins at a boundary, once its checks have passed. -/
def beginPause (s : State) : State :=
  match s.sys.fw.act with
  | none => s
  | some m =>
    let due := match (boxOf s m).deferred with | some d => decide (cat64 (rw d.progress 0) (rw d.progress 1) ≤ s.time.now) | none => false
    if due && !s.sys.fw.paused && s.sys.fw.boot = .served && s.sys.core.takeover.isNone && !s.sys.core.reload then
      controlStops false (setFw (fun f => { f with paused := true }) s)
    else s

/-- Mailboxes whose version the new image does not accept are closed (R539). -/
def closeOld (s : State) : State :=
  (List.range 8).foldl (fun s m =>
    let b := boxOf s m
    let v := b.verMaj * 16 + b.verMin
    if b.state ≠ 0 && (v < (devVersions s).1 || (devVersions s).2 < v) then systemEventD 10 0x02 m (setBox m { b with state := 0 } s) else s) s

/-- The body has been loaded: the new image runs, or a system reset follows. Where it reads no copy, the base copy is the one of the image before (log
entry 76). -/
def bodyLoaded (matched : Bool) (s : State) : State :=
  match s.sys.fw.act with
  | none => s
  | some m =>
    if !s.sys.fw.paused then s
    else if !matched then systemReset 0x0A s
    else
      let s1 := closeOld (controlStarts (setFw (fun f => { f with img := imageHeader s, paused := false, act := none, settingsGood := false, migrating := false }) s))
      let c := chooseCopy s1
      let s2 := setFw (fun f => { f with inForce := c, base := if f.commitPending then f.base else c.or f.inForce, commitPending := true, slotDirty := false }) s1
      let s3 := fwEvent12 0x01 (releaseWord s2) (finishDeferred m 0 [] s2)
      match c with
      | some _ => settingsEstablished s3
      | none => fwEvent12 0x03 (0xFFFFFFFF * 2 ^ 32 + releaseWord s3) s3

def execActivationBodyLoaded (t : Nat) (bodyMatches : Bool) (s : State) : Host.Outcome State Fault Refusal := act t (fun s => bodyLoaded bodyMatches s) s

/-- The migrated copy is written and its TAG read back (R613, R614); a failed write leaves the migration unfinished. -/
def migrated (good : Bool) (s : State) : State :=
  match s.sys.fw.inForce with
  | none => s
  | some c =>
    if !s.sys.fw.migrating then s
    else if !good then setFw (fun f => { f with migrating := false }) s
    else
      let a := copyBase c
      let n := (flashWord s (a + 12)).toNat / 4
      let head := ((flashWords s a 16).set 2 (packW [(8, dvHi s), (24, 0)])).set 4 (word (releaseWord s))
      let d := targetCopy s
      let s1 := flashProgram (copyBase d) (sealCopy s (newGen s) head (flashWords s (a + 64) (n - 16))) s
      let s2 := setFw (fun f => { f with inForce := some d, migrating := false, settingsGood := true }) s1
      fwEvent12 0x05 (releaseWord s2) (fwEvent12 0x04 (releaseWord s2) s2)

def execSettingsMigrationComplete (t : Nat) (good : Bool) (s : State) : Host.Outcome State Fault Refusal := act t (fun s => migrated good s) s

end Sys2Proof.Machine
end

