-- ==== Sys2Proof/Machine/DarkCommands.lean ====
section
/-!
DEFINITION. What the Darkroom does by itself (R427 to R430, R433, R437, R439, R440). It runs through every reset but its own.
-/
namespace Sys2Proof.Machine
open Sys2Proof

def execDarkWindowBeforeTaken (t : Nat) (s : State) : Host.Outcome State Fault Refusal := actAlways t takeBefore s

def execDarkWindowAfterClose (t : Nat) (s : State) : Host.Outcome State Fault Refusal := actAlways t closeWindow s

def execDarkWindowSigned (t : Nat) (s : State) : Host.Outcome State Fault Refusal := actAlways t signWindow s

def execEvidenceCommitAck (t : Nat) (s : State) : Host.Outcome State Fault Refusal := actAlways t ackWindow s

/-- The Darkroom's clock fails: it goes on from its RC oscillator (R428). -/
def clockFallsBack (s : State) : State :=
  if !s.dark.run || s.dark.clkFb then s
  else darkEvent 0x06 (setDark { s.dark with clkFb := true, cur := s.dark.cur.map (fun w => { w with clkFb := true }) } s)

def execDarkClockFallback (t : Nat) (s : State) : Host.Outcome State Fault Refusal := actAlways t clockFallsBack s

/-- 1 ms of clean clock (R428). -/
def clockComesBack (s : State) : State := if s.dark.clkFb then darkEvent 0x06 (setDark { s.dark with clkFb := false } s) else s

def execDarkClockReturn (t : Nat) (s : State) : Host.Outcome State Fault Refusal := actAlways t clockComesBack s

/-- The Darkroom's watchdog resets it (R427, R430). -/
def darkWatchdog (s : State) : State := if s.dark.run then darkEvent 0x08 (darkReset s) else s

def execDarkWatchdogReset (t : Nat) (s : State) : Host.Outcome State Fault Refusal := actAlways t darkWatchdog s

/-- VDD_DRK is lost: no new page starts, and the hold-up keeps the Darkroom running for 2 ms (R429; `holdUpEnds`). -/
def darkSupplyLost (s : State) : State :=
  if s.dark.lowAt.isSome then s else setDark { s.dark with lowAt := some s.time.now } s

def execVddDrkLoss (t : Nat) (s : State) : Host.Outcome State Fault Refusal := actAlways t darkSupplyLost s

/-- The Darkroom resets, as VDD_DRK is restored (R427, R432, R440). -/
def execDarkroomReset (t : Nat) (s : State) : Host.Outcome State Fault Refusal := actAlways t (fun s => darkReset (setDark { s.dark with lowAt := none } s)) s

/-- The new calibration image is written: it is in force, and the reseal's response is posted (R433, R443). -/
def resealDone (s : State) : State :=
  match s.dark.reseal with
  | none => s
  | some (i, ws) =>
    if !s.dark.run then s
    else
      let old := s.dark.inForce.getD 0
      let s1 := auditAppend 2 (s.dark.images + 1) (word old) (word i) (releaseShort s) s
      let s2 := setDark { s1.dark with image := tset [] s1.dark.image i ws, images := s1.dark.images + 1, reseal := none } s1
      let s3 := setDark { s2.dark with inForce := some i, calBad := false, forceWas := (s2.dark.inForce, s2.time.now + 1) } s2
      let s4 := darkEvent 0x05 s3
      match flightOf s4 (fun op => op = 0x0B04) with
      | some m => finishDeferred m 0 [word i] s4
      | none => s4

def execResealComplete (t : Nat) (s : State) : Host.Outcome State Fault Refusal := actAlways t resealDone s

end Sys2Proof.Machine
end

