-- ==== Sys2Proof/Machine/PowerCommands.lean ====
section
/-!
DEFINITION. Supplies, clocks, reset pins, reset levels and the control cores (R595 to R601, R625 to R646, R672).
-/
namespace Sys2Proof.Machine
open Sys2Proof

/-! ### Rails and VBAT (R627 to R629) -/

/-- Rails good: a reset that waited for the rails is released; a start from standby is a power-on reset (R627, R634). -/
def railsRise (s : State) : State :=
  if s.sys.pow.power ≠ .held || !s.sys.pow.rails then s
  else
    let s1 := setPow (fun p => { p with rails := false }) s
    if s.sys.pow.wokeFrom.isSome then powerOnReset 2 s1 else releaseReset s1

def execRailsGood (t : Nat) (s : State) : Host.Outcome State Fault Refusal := actAlways t railsRise s

/-- A brown-out: a system reset, held; a standby entry completes instead (R627, R646). -/
def brownOut (mv us : Nat) (s : State) : State :=
  match s.sys.pow.power with
  | .standby => s
  | .held => setPow (fun p => { p with rails := true, owed := if p.rails then p.owed else p.owed ++ [supplyPayload 4 mv us] }) s
  | .run =>
    if s.nm.entry.isSome then finishEntry (setPow (fun p => { p with owed := p.owed ++ [supplyPayload 4 mv us] }) s)
    else systemReset 5 (setPow (fun p => { p with brown := some (mv, us), rails := true }) s)

def execCoreRailBrownout (t millivolts microseconds : Nat) (s : State) : Host.Outcome State Fault Refusal :=
  actAlways t (brownOut millivolts microseconds) s

/-- A core rail falls below its off level (R627, R634). -/
def railOff (s : State) : State :=
  if s.sys.pow.power = .standby then s else powerOnReset 2 (setPow (fun p => { p with rails := true }) s)

def execCoreRailOff (t : Nat) (s : State) : Host.Outcome State Fault Refusal := actAlways t railOff s

/-- VDD_RET falls below 0.70 V (R36, R628). -/
def retentionLow (s : State) : State := loseRetention (regPut (rCROCUS 0x08) 29 29 0 s)

def execVddRetLow (t : Nat) (s : State) : Host.Outcome State Fault Refusal := actAlways t retentionLow s

/-- TYPE of a disturbance (R453). -/
def vbatType : VbatKind → Nat
  | .undervoltage => 1
  | .overvoltage => 2
  | .interruption => 3

/-- The more extreme of two levels of a type. -/
def extreme (type a b : Nat) : Nat := if type = 2 then max a b else min a b

/-- VBAT as Crocus measures it: to 20 mV while the core rails are up, to 200 mV in standby (R629). -/
def measured (s : State) (mv : Nat) : Nat := if s.sys.pow.power = .standby then mv / 200 * 200 else mv / 20 * 20

/-- A disturbance at VBAT has lasted 10 µs, or deepens (R629). -/
def vbatDisturbed (kind : VbatKind) (mv : Nat) (s : State) : State :=
  let ty := vbatType kind
  let m := measured s mv
  let d : Disturb := match s.sys.pow.disturb with
    | none => ⟨ty, s.time.now - 10000, m⟩
    | some d =>
      if (ty = 2) = (d.kind = 2) then ⟨max ty d.kind, d.start, extreme ty d.mv m⟩ else ⟨ty, s.time.now - 10000, m⟩
  setPow (fun p => { p with disturb := some d }) s

def execVbatDisturbance (t : Nat) (kind : VbatKind) (millivolts : Nat) (s : State) : Host.Outcome State Fault Refusal :=
  actAlways t (vbatDisturbed kind millivolts) s

/-- A disturbance ends: its SUPPLY record is written at once, or at the next start (R629). -/
def vbatCalm (mv : Nat) (s : State) : State :=
  match s.sys.pow.disturb with
  | none => s
  | some d =>
    let p := supplyPayload d.kind (extreme d.kind d.mv (measured s mv)) ((s.time.now - d.start) / 1000)
    let s1 := setPow (fun q => { q with disturb := none }) s
    if coreOn s then supplyRecord d.kind p s1 else setPow (fun q => { q with owed := q.owed ++ [p] }) s1

def execVbatDisturbanceEnd (t millivolts : Nat) (s : State) : Host.Outcome State Fault Refusal := actAlways t (vbatCalm millivolts) s

/-! ### Resets (R634 to R639) -/

/-- VBAT falls below 2.5 V; the start waits for the rails (R629, R634). -/
def execVbatPowerOnReset (t : Nat) (s : State) : Host.Outcome State Fault Refusal := actAlways t vbatReset s

/-- A power-on reset outside standby, where the core rails are off. -/
def powerOn (cause : Nat) (s : State) : State := if s.sys.pow.power = .standby then s else powerOnReset cause s

def execPorstNAssert (t : Nat) (s : State) : Host.Outcome State Fault Refusal := actAlways t (powerOn 3) s

def execSysrstNAssert (t : Nat) (s : State) : Host.Outcome State Fault Refusal := actAlways t (systemReset 4) s

/-- A power-on reset, TESTMODE being at a level from then on (R635, R679). -/
def execPowerOnReset (t : PowerOn) (s : State) : Host.Outcome State Fault Refusal :=
  actAlways t.t (fun s => powerOn 2 (setPow (fun p => { p with testmode := t.testmode }) s)) s

/-- Whether a reset of SYS_GO is due: 1 µs after the write, or, in the cycle of another write, after the one before (R509, R639). -/
def sysGoDue (s : State) : Bool :=
  (match s.sys.pow.sysGo with | some d => decide (d ≤ s.time.now) | none => false)
    || (match s.sys.pow.sysWas with | some (c, d) => decide (c = s.time.now) && decide (d ≤ s.time.now) | none => false)

/-- A system reset by its cause (R639, R640). -/
def resetBy (cause : Nat) (s : State) : State :=
  if cause = 8 then (if sysGoDue s then systemReset 8 s else s)
  else systemReset (cause % 32) s

def execSystemReset (t cause : Nat) (s : State) : Host.Outcome State Fault Refusal := actAlways t (resetBy cause) s

/-- A control reset (R635, R638, R640): the rings, the staging window and the notices of the mailboxes are cleared. -/
def controlReset (s : State) : State :=
  let s1 := count rRST_STAT 7 0 (resetStat 4 9 (controlStops true s))
  let s2 := { s1 with
    mbx := { s1.mbx with box := tmap {} s1.mbx.box (fun _ b => { b with req := {}, rsp := {}, noticeSeq := 0, state := if b.state = 2 then 1 else b.state }), notices := [] }
    mem := s1.mem.filter (fun c => 0x40000 ≤ c.1 && (c.1 < 0xE0000 || 0x100000 ≤ c.1)) }
  setCore (fun c => { c with reload := true, reloadGo := some s.time.now }) s2

/-- The running core has restarted from the newer snapshot (R638). In the cycle of a new CTRL_GO that is the end of the reset before it, and the new one goes
on (R509). -/
def reloaded (s : State) : State :=
  if !s.sys.core.reload || s.sys.core.reloadGo = some s.time.now then s
  else controlStarts (setCore (fun c => { c with reload := false, reloadGo := none }) s)

def execControlResetComplete (t : Nat) (s : State) : Host.Outcome State Fault Refusal := act t reloaded s

/-! ### The control cores (R597) -/

/-- The running core is held; the held one starts from a snapshot, or a system reset follows. -/
def takeover (cause : Nat) (s : State) : State :=
  if s.sys.core.takeover.isNone && s.sys.core.stbyOk && (s.sys.core.copy0.isSome || s.sys.core.copy1.isSome) then
    controlStops false (setCore (fun c => { c with takeover := some cause }) s)
  else systemReset 7 s

/-- The watchdog expires 2 ms after the last kick (R596); an activation's pause and a reload hold it. -/
def watchdogExpires (s : State) : State :=
  if s.sys.fw.paused || s.sys.core.reload || (s.sys.fw.boot ≠ .served && s.sys.fw.boot ≠ .kernel) then s else takeover 1 s

def execControlWatchdogExpiry (t : Nat) (s : State) : Host.Outcome State Fault Refusal := act t watchdogExpires s

/-- The new core serves (R597, R600, R601). -/
def takenOver (s : State) : State :=
  match s.sys.core.takeover with
  | none => s
  | some c =>
    let s1 := setCore (fun x => { x with takeover := none, core := 1 - x.core, stbyOk := false, lastCause := c }) s
    systemEventD 11 c s1.sys.core.snapId (controlStarts (setFlag rCORE_STAT 29 s1))

def execControlTakeoverComplete (t : Nat) (s : State) : Host.Outcome State Fault Refusal := act t takenOver s

/-! ### Clocks and temperature (R633, R672) -/

/-- The reference or the core PLL fails: the cipher clock alarm, and a system reset held. -/
def clockFails (s : State) : State :=
  match s.sys.pow.power with
  | .standby => s
  | .held => setPow (fun p => { p with clock := true, clockFault := true }) (if s.sys.pow.clock then s else cipherAlarm .clock s)
  | .run => systemReset 6 (setPow (fun p => { p with clock := true, clockFault := true }) (cipherAlarm .clock s))

def execClockMonitorFault (t : Nat) (s : State) : Host.Outcome State Fault Refusal := actAlways t clockFails s

/-- The reference is clean and the PLL locked: the reset is released. -/
def clockBack (s : State) : State := if s.sys.pow.clock then releaseReset (setPow (fun p => { p with clock := false }) s) else s

def execClockMonitorReturn (t : Nat) (s : State) : Host.Outcome State Fault Refusal := actAlways t clockBack s

/-- The 32.768 kHz oscillator stops: while awake, cause 0x08; in standby the wake timer stands. -/
def osc32Stops (s : State) : State :=
  if !s.sys.pow.osc32 then s
  else
    let s1 := setPow (fun p => { p with osc32 := false }) s
    if coreOn s then systemEvent 15 0x08 s1 else s1

def execOsc32kStopped (t : Nat) (s : State) : Host.Outcome State Fault Refusal := actAlways t osc32Stops s

def tempHigh (s : State) : State := if s.sys.pow.hot then s else systemEvent 15 0x05 (setPow (fun p => { p with hot := true }) s)

def execJunctionTempHigh (t : Nat) (s : State) : Host.Outcome State Fault Refusal := act t tempHigh s

def tempNormal (s : State) : State := if s.sys.pow.hot then systemEvent 15 0x06 (setPow (fun p => { p with hot := false }) s) else s

def execJunctionTempNormal (t : Nat) (s : State) : Host.Outcome State Fault Refusal := act t tempNormal s

end Sys2Proof.Machine
end

