-- ==== Sys2Proof/Machine/BeatCommands.lean ====
section
/-!
DEFINITION. The Beat: its boundaries, its task lists, commits, samples, and the coalescer (R17 to R31, R114, R234 to R236, R551, R552, R596).
-/
namespace Sys2Proof.Machine

/-! ### The coalescer at a boundary (R548, R551, R552) -/

/-- An event record. -/
def eventWords (s : State) (seq : Nat) (o : OpenEvent) : Rec :=
  [packW [(9, o.source), (8, o.cause), (1, 0), (14, seq)], packW [(16, min o.count 0xFFFF), (16, s.time.epoch)]]
    ++ split64 o.first ++ split64 o.last ++ split64 o.detail

/-- Ascending FIRST_LT, then SOURCE, then CAUSE. -/
def eventBefore (a b : OpenEvent) : Bool :=
  a.first < b.first || (a.first = b.first && (a.source < b.source || (a.source = b.source && a.cause < b.cause)))

/-- An event takes its place in a sorted list. -/
def insertEvent (o : OpenEvent) : List OpenEvent → List OpenEvent
  | [] => [o]
  | h :: r => if eventBefore o h then o :: h :: r else h :: insertEvent o r

def sortEvents (l : List OpenEvent) : List OpenEvent := l.foldl (fun r o => insertEvent o r) []

/-- The summary of pairs that are not written. -/
def summaryOf (ring : Nat) (l : List OpenEvent) : OpenEvent :=
  match sortEvents l with
  | [] => ⟨464, 1, 0, 0, 0, 0, ring⟩
  | h :: r =>
    let occ := (h :: r).foldl (fun n o => n + o.count) 0
    ⟨464, 1, l.length, h.first, (h :: r).foldl (fun m o => max m o.last) 0, pack [(32, min occ (2 ^ 32 - 1)), (9, h.source), (8, h.cause), (15, 0)], ring⟩

/-- The records of a ring at a boundary, and the COUNT of its summary. -/
def ringEvents (s : State) (e : Nat) : List OpenEvent × Nat :=
  let own := sortEvents (s.ev.opened.filter (fun o => o.ring = e))
  let sup := s.ev.suppressed.filter (fun o => o.ring = e)
  let max0 := regFld s (rEVQ e 4) 31 24
  if own.length ≤ max0 && sup = [] then (own, 0)
  else
    let k := min own.length (max0 - 1)
    let rest := own.drop k ++ sup
    (own.take k ++ [summaryOf e rest], min rest.length 0xFFFF)

/-- The coalescer writes its open records and closes them; occurrences of the boundary's own cycle belong to the Beat it opens (R551). -/
def coalescerOut (s0 : State) : State :=
  let s := if s0.ev.raised.all (fun o => o.at0 = s0.time.now) then s0 else { s0 with ev := settle s0.ev }
  let s1 := (List.range 8).foldl (fun s e =>
    let r := ringEvents s e
    countBy (rEVQ e 8) 31 0 r.2 (r.1.foldl (fun s o => ringPush (.evq e) (eventWords s s.beat.seq o) s) s)) s
  { s1 with ev := { s1.ev with opened := [], suppressed := [] } }

/-! ### Samples (R234 to R236) -/

/-- The delays of the departures of a class in the boundary's own cycle, which belong to the Beat that it opens (R233). -/
def departedNow (s : State) (p c : Nat) : List Nat :=
  let d := (egressOf s p).departs
  if d.1 = s.time.now then (d.2.filter (fun x => x.1 = c)).map (·.2) else []

/-- The depth of a queue as the boundary finds it, before the departures of its cycle. -/
def boundaryDepth (s : State) (p c : Nat) : Nat := (queueOf (egressOf s p) c).length + (departedNow s p c).length

/-- The sample of a class as its Beat closes; the mean stands in weighted. -/
def closeSample (s : State) (p c opened : Nat) : Sample :=
  let e := egressOf s p
  let q := queueOf e c
  let m := tget {} e.sample c
  let sum := m.weighted + q.length * (s.time.now - max m.since opened)
  let d := boundaryDepth s p c
  { m with
    depthMin := min m.depthMin d, depthMax := max m.depthMax d
    weighted := sum * 256 / max 1 (s.time.now - opened), since := 0
    headSoj := min (2 ^ 32 - 1) (match departedNow s p c, q with
      | x :: _, _ => x
      | [], r :: _ => s.time.now - r.admitted
      | [], [] => 0) }

/-- The queue-sample records of a port (R236, R453). -/
def sampleRecords (p : Nat) (done : Tab Sample) : List (BitVec 64) :=
  (List.range 8).map (fun c =>
    let m := tget {} done c
    pack64 [(5, p), (3, c), (13, min m.depthMin 8191), (13, min m.depthMax 8191), (14, min m.departed 16383), (16, min (m.maxDelay / 64) 65535)])

/-- A port's samples close, and those of the next Beat open. -/
def samplePort (p : Nat) (s0 : State) : State :=
  let s := if (egressOf s0 p).departs.1 = s0.time.now then s0 else flushDeparts p s0
  let e := egressOf s p
  let next := (e.schedReleased.map (·.2)).getD (schedOf s p)
  let opening := (List.range 8).foldl (fun t c =>
    let d := boundaryDepth s p c
    tset {} t c (if d = 0 then {} else { depthMin := d, depthMax := d, since := s.time.now })) []
  let after := fun (done : Tab Sample) => { e with done := done, sample := opening, binExp := fld next 0 4 1, export0 := flag next 0 5 }
  match s.beat.openedAt with
  | none => setEgress p (after e.done) s
  | some o =>
    let done := (List.range 8).foldl (fun t c => tset {} t c (closeSample s p c o)) []
    let s1 := setEgress p (after done) s
    if e.export0 then csPush 0x0E (sampleRecords p done) s1 else s1

def samplePorts (s : State) : State :=
  let s1 := (List.range 31).foldl (fun s p => samplePort p s) s
  { s1 with beat := { s1.beat with done := if s.beat.openedAt.isSome then some s.beat.seq else s.beat.done, openedAt := some s.time.now } }

/-! ### Commits (R23 to R27, R534, R596, R682) -/

/-- A commit is applied at the boundary of working time b (R23). -/
def applyCommit (b : Int) (c : Commit) (s : State) : State :=
  let s1 := c.sets.foldl (fun s x => applySet b x.set s) s
  { s1 with beat := { s1.beat with appliedId := c.id } }

/-- Whether a commit is due at a boundary: armed before its cycle, its target reached (R25, R27). -/
def commitDue (s : State) (b : Int) (c : Commit) : Bool :=
  c.at0 < s.time.now && (match c.target with | some w => decide (w ≤ b) | none => true)

/-- Every commit due is applied, in the order of arming (R26). -/
def applyCommits (b : Int) (s : State) : State :=
  (s.beat.armed.filter (commitDue s b)).foldl (fun s c => applyCommit b c s)
    { s with beat := { s.beat with armed := s.beat.armed.filter (fun c => !commitDue s b c) } }

/-! ### Task lists (R28 to R31) -/

/-- A boundary finds the list unfinished (R29). -/
def overrun (s : State) : State :=
  if s.beat.lists && s.beat.listBusy then
    systemEvent 0 0 (count rBEAT_OVR 31 0 { s with beat := { s.beat with listLate := true } })
  else s

/-- The list of the Beat in progress starts. -/
def startList (s : State) : State :=
  if s.beat.lists && !s.beat.listBusy then { s with beat := { s.beat with listBusy := true, listLate := false, listStart := s.time.now } } else s

/-- BEAT_LOAD is updated at each working-time second (R31). -/
def loadSecond (s : State) : State :=
  let b := s.beat
  { s with beat := { b with loadPeak := min b.runPeak 0xFFFF, loadMean := min (b.runSum / max 1 b.runs) 0xFFFF, runPeak := 0, runSum := 0, runs := 0 } }

/-- A task list ends: its commit is armed, unless the watchdog expires in the cycle (R602); where it was late, the list of the Beat then in progress starts
(R28, R30). -/
def listFinish (s : State) : State :=
  if !(s.beat.lists && s.beat.listBusy) then s
  else
    let run := (s.time.now - s.beat.listStart) * 1000 / (31250 * 2 ^ s.beat.k)
    let late := s.beat.listLate
    let s1 := giveWay (.arm s.beat.staged.length) { s with beat := { s.beat with
      listBusy := false, listLate := false, runPeak := max s.beat.runPeak run, runSum := s.beat.runSum + run, runs := s.beat.runs + 1 } }
    if late then startList s1 else s1

def execTaskListFinish (t : Nat) (s : State) : Host.Outcome State Fault Refusal := act t listFinish s

/-! ### The boundary -/

/-- The Beat's number, index and length at the boundary of working time b (R18, R20, R22). -/
def beatOn (b : Int) (s : State) : State :=
  let first := decide (b % wtSec = 0)
  let k := if first then kDue s else s.beat.k
  { s with beat := { s.beat with
      k := k, seq := (s.beat.seq + 1) % 2 ^ 32, inSec := ((b % wtSec) / beatLen k).toNat, next := b + beatLen k } }

/-- Sets staged again from the journal are armed at the first boundary after the firmware has started (R537). -/
def armAgain (s : State) : State :=
  if s.beat.lists && s.beat.again ≠ [] then armSets s.beat.again { s with beat := { s.beat with again := [] } } else s

/-- The leader's pulse and its code frame (R114). -/
def leaderPulse (b : Int) (s : State) : State := if s.ptime.role = 1 then emit (.pairPulse s.time.now (codeFrame s b)) s else s

/-- A boundary is issued at working time b: the Beat in progress closes, commits are applied, the next Beat opens. -/
def boundary (b : Int) (s : State) : State :=
  let s1 := applyCommits b (overrun (samplePorts (coalescerOut s)))
  let s2 := beatOn b s1
  let s3 := if b % wtSec = 0 then loadSecond s2 else s2
  let s4 := leaderPulse b (captureOn 2 (hostSwitch s3))
  let s5 := pairBoundary (nmBoundary { s4 with ciph := { s4.ciph with gwUsed := 0 } })
  entryShutDown (startList (beginPause (armAgain s5)))

/-- Working time reaches the next multiple of the Beat length (R18, R21). A mapping whose anchor has come takes effect first, so that a boundary which its step
passes over is not issued (R50). -/
def beatBoundary (s0 : State) : State :=
  let s := anchorReached s0
  if wtNow s < s.beat.next then s else boundary s.beat.next s

/-- Whether a boundary falls in this very cycle. -/
def boundaryDue (s : State) : Bool := s.beat.next ≤ wtNow s && ltOf (mapOf s.time s.time.now) s.beat.next = s.time.now

/-- What acts in a boundary's cycle acts on the new state, though its command comes before BEAT_BOUNDARY (R24, R303, R354). -/
def boundaryFirst (s : State) : State := if boundaryDue (anchorReached s) then beatBoundary s else s

def execBeatBoundary (t : Nat) (s : State) : Host.Outcome State Fault Refusal := act t beatBoundary s

end Sys2Proof.Machine
end

