-- ==== Sys2Proof/Machine/PairCommands.lean ====
section
/-!
DEFINITION. The commands of a redundant pair: partner messages and the timers of tokens, leases, claims and checkpoints (R467, R580 to R594).
-/
namespace Sys2Proof.Machine

def execPartnerTokenRx (t : Nat) (msg : Rec) (s : State) : Host.Outcome State Fault Refusal := act t (tokenRx msg) s

def execPartnerAckRx (t : Nat) (msg : Rec) (s : State) : Host.Outcome State Fault Refusal := act t (ackRx msg) s

def execPartnerCkptPartRx (t : Nat) (msg : Rec) (s : State) : Host.Outcome State Fault Refusal := act t (partRx msg) s

def execPartnerCkptAckRx (t : Nat) (msg : Rec) (s : State) : Host.Outcome State Fault Refusal := act t (ckptAckRx msg) s

def execPartnerReleaseRx (t : Nat) (msg : Rec) (s : State) : Host.Outcome State Fault Refusal := act t (releaseRx msg) s

def execPartnerMappingRx (t : Nat) (msg : Rec) (s : State) : Host.Outcome State Fault Refusal := act t (partnerMapRx msg) s

def execPartnerUpTimeout (t : Nat) (s : State) : Host.Outcome State Fault Refusal := act t partnerTimeout s

def execLeaseTokenTimer (t : Nat) (s : State) : Host.Outcome State Fault Refusal := act t tokenDue s

def execLeaseExpiry (t obj : Nat) (s : State) : Host.Outcome State Fault Refusal := act t (leaseEnds obj) s

def execClaimWaitExpiry (t obj : Nat) (s : State) : Host.Outcome State Fault Refusal := act t (giveWay (.claim obj)) s

def execClaimAckTimeout (t obj : Nat) (s : State) : Host.Outcome State Fault Refusal := act t (giveWay (.claimOver obj)) s

def execInterlockLowQualified (t : Nat) (s : State) : Host.Outcome State Fault Refusal := act t interlockLow s

def execInterlockClaimSample (t : Nat) (inHigh : Bool) (s : State) : Host.Outcome State Fault Refusal := act t (giveWay (.interlock inHigh)) s

def execCheckpointTimer (t : Nat) (s : State) : Host.Outcome State Fault Refusal := act t ckptDue s

def execCheckpointMiss (t : Nat) (s : State) : Host.Outcome State Fault Refusal := act t ckptMissed s

end Sys2Proof.Machine
end

