-- ==== Sys2Proof/Machine/CsCommands.lean ====
section
/-!
DEFINITION. The Contact Sheet recorder and its export channels (R449 to R467).
-/
namespace Sys2Proof.Machine

/-! ### The trace -/

/-- The Contact Sheet system event (R465). -/
def sheetEvent (cause : Nat) (s : State) : State := systemEvent 6 cause s

/-- The record at a place of the trace, counted from the first record ever. -/
def recordAt (s : State) (n : Nat) : Option CsRec := if n < nextAt s then s.cs.trace[nextAt s - 1 - n]? else none

/-- The sequence number of the record that stands or stood at a place, in its own run (R449). -/
def seqAt (s : State) (n : Nat) : Nat := n - (s.cs.runs.find? (fun b => b ≤ n)).getD 0

/-- A record enters the trace, which holds 262,144; an evidence window may take it (R437, R449). -/
def recordIn (kind lt : Nat) (more : Bool) (payload : BitVec 64) (s : State) : State :=
  let r : CsRec := ⟨s.cs.next, lt, kind, more, payload⟩
  windowLive r (setCs { s.cs with trace := (r :: s.cs.trace).take 262144, next := s.cs.next + 1, accepted := some s.time.now } s)

/-- An anchor (R450, R453). -/
def anchorIn (s : State) : State :=
  let p := pack64 [(23, s.time.now / 2 ^ 41), (16, s.cs.next / 65536), (16, s.time.epoch), (1, b2n s.cs.anchor.isNone), (8, s.cs.run)]
  let s1 := recordIn 0 s.time.now false p s
  setCs { s1.cs with anchor := some s.time.now, anchorDue := false } s1

/-- The gap that is pending enters as a GAP record (R455). -/
def gapIn (g : CsGap) (s : State) : State :=
  let s1 := recordIn 1 g.first false (pack64 [(2, if g.other then 1 else 2), (30, 0), (32, g.lost)]) (setCs { s.cs with gap := none, lost := (0, [], none) } s)
  sheetEvent 0x01 (count rCS_STAT 15 0 s1)

/-- The next record of the group at the head of the queue enters; a mapping goes to the partner as well (R467). -/
def groupIn (g : CsGroup) (rest : List CsGroup) (s : State) : State :=
  match g.payloads with
  | [] => setCs { s.cs with queue := rest, mid := false } s
  | p :: ps =>
    let s1 := if g.kind = 2 && !s.cs.mid && s.pair.en then pairSend 6 (split64 g.lt ++ g.payloads.flatMap (fun p => split64 p.toNat)) [] s else s
    recordIn g.kind g.lt (!ps.isEmpty) p
      (setCs { s1.cs with queue := if ps.isEmpty then rest else { g with payloads := ps } :: rest, mid := !ps.isEmpty } s1)

/-- Whether the recorder may accept a record: at most one every 4 cycles (R455). -/
def mayAccept (s : State) : Bool := match s.cs.accepted with | some a => decide (a + 4 ≤ s.time.now) | none => true

/-! ### Channel 0 (R460 to R462) -/

/-- Whether a channel exports a kind. -/
def exported (c : CsChan) (kind : Nat) : Bool := kind = 0 || kind = 1 || flag c.cfg 1 kind

/-- The GAP record of an export overrun (R461). -/
def overrunGap (s : State) (c : CsChan) : CsRec := ⟨seqAt s c.pos, s.time.now, 1, false, pack64 [(2, 3), (30, 0), (32, min (oldestAt s - c.pos) (2 ^ 32 - 1))]⟩

/-- The bytes of an export frame (R462). -/
def exportBytes (s : State) (c : CsChan) : Bytes :=
  let da := (rw c.cfg 2).toNat * 65536 + fld c.cfg 3 31 16
  let head : Rec := [packW [(8, 1), (8, c.frame.length), (16, s.time.epoch)], word c.frameSeq,
    word (match c.frame with | r :: _ => r.seq | [] => 0), packW [(8, s.cs.run), (24, 0)]]
  let b := beBytes da 6 ++ beBytes s.gw.addr 6 ++ (if flag c.cfg 0 1 then cTag (fld c.cfg 3 15 4) (fld c.cfg 0 23 21) false else [])
    ++ beBytes 0x88B5 2 ++ recBytes head ++ recBytes (c.frame.flatMap csWords)
  withFcs (b ++ List.replicate (60 - b.length) 0)

/-- The frame of channel 0 is sent as a directed frame of port 31; it waits for a cell, and for the pace of the port (R148, R184, R462). -/
def exportSend (s : State) : State :=
  let c := s.cs.chan0
  let b := exportBytes s c
  let room := (takeCells 31 false ((b.length + 63) / 64) (0, 0, 0) (releaseLines s)).1
  if c.frame = [] || s.time.now < paceNext s 31 || !room then s
  else
    injectFrame { port := 31, bytes := b, directed := some (2 ^ fld c.cfg 0 28 24), cls := some (fld c.cfg 0 23 21) }
      (setCs { s.cs with chan0 := { c with frame := [], frameSeq := (c.frameSeq + 1) % 2 ^ 32 } } s)

/-- A frame that has no room for n records more is sent. -/
def exportRoom (n : Nat) (s : State) : State := if 90 < s.cs.chan0.frame.length + n then exportSend s else s

/-- Whether the frame of channel 0 takes n records more. -/
def exportFits (n : Nat) (s : State) : Bool := decide (s.cs.chan0.frame.length + n ≤ 90)

/-- A whole group that fits is packed, and the channel goes on from a place of the trace; a frame goes at 90 records. -/
def exportPack (g : List CsRec) (pos : Nat) (s : State) : State :=
  let c := s.cs.chan0
  let s1 := setCs { s.cs with chan0 := { c with pos := pos, frame := c.frame ++ g, since := if c.frame = [] then s.time.now else c.since } } s
  if s1.cs.chan0.frame.length = 90 then exportSend s1 else s1

/-- The next group that a channel exports, from place pos on: the place of its first record, and, if the trace holds it whole, its records and the place after
it. What is not exported before it has been read; n records are left to look at. -/
def nextGroup (s : State) (c : CsChan) : Nat → Nat → Nat → List CsRec → Nat × Option (List CsRec × Nat)
  | 0, start, _, _ => (start, none)
  | n + 1, start, pos, part =>
    match recordAt s pos with
    | none => (start, none)
    | some r =>
      if !exported c r.kind then nextGroup s c n (if part = [] then pos + 1 else start) (pos + 1) part
      else if r.more || (r.kind = 0 && part ≠ []) then nextGroup s c n start (pos + 1) (part ++ [r])
      else (start, some (part ++ [r], pos + 1))

/-- The next group of a channel. -/
def groupOf (s : State) (c : CsChan) : Nat × Option (List CsRec × Nat) := nextGroup s c (nextAt s - c.pos) c.pos c.pos []

/-- Channel 0 reads one group; one for which its frame has no room waits in the trace (R461, R462). -/
def exportOne (s : State) : State :=
  let r := groupOf s s.cs.chan0
  let s0 := setCs { s.cs with chan0 := { s.cs.chan0 with pos := r.1 } } s
  match r.2 with
  | none => s0
  | some (g, pos) =>
    let s1 := exportRoom g.length s0
    if exportFits g.length s1 then exportPack g pos s1 else s1

/-- Channel 0 reads n groups. -/
def exportRead : Nat → State → State
  | 0, s => s
  | n + 1, s => exportRead n (exportOne s)

/-- Channel 0 reads what the trace holds; what has been overwritten is marked (R461). -/
def exportGo (s : State) : State :=
  let c := s.cs.chan0
  if !c.en then s
  else
    let s0 := exportRoom 1 s
    let s1 := if oldestAt s ≤ c.pos || !exportFits 1 s0 then s else sheetEvent 0x02 (exportPack [overrunGap s c] (oldestAt s) s0)
    exportRead (nextAt s - s1.cs.chan0.pos) s1

/-! ### The recorder's commands -/

/-- The recorder accepts one record: an anchor where R450 fixes its place, then a gap, then an anchor that is due (R449, R450, R455, R457). -/
def recorderAccepts (s : State) : State :=
  if !mayAccept s then s
  else if s.cs.anchor.isNone || s.cs.next % 65536 = 0 || (s.cs.anchorDue && !s.cs.mid && s.cs.gap.isNone) then exportGo (anchorIn s)
  else match s.cs.gap, s.cs.queue with
    | some g, q => if s.cs.mid then (match q with | h :: r => exportGo (groupIn h r s) | [] => s) else exportGo (gapIn g s)
    | none, h :: r => exportGo (groupIn h r s)
    | none, [] => s

def execCsRecordAccept (t : Nat) (s : State) : Host.Outcome State Fault Refusal := act t recorderAccepts s

/-- 1 ms has passed since the last anchor (R450); one that falls within a group, behind a pending GAP, or in a cycle taken, comes next. -/
def anchorTimer (s : State) : State :=
  match s.cs.anchor with
  | none => s
  | some a =>
    if s.time.now < a + 1000000 then s
    else if s.cs.mid || s.cs.gap.isSome || !mayAccept s then setCs { s.cs with anchorDue := true } s
    else exportGo (anchorIn s)

def execCsAnchorTimer (t : Nat) (s : State) : Host.Outcome State Fault Refusal := act t anchorTimer s

/-- The mapping in force is written again, once per second of local time (R454). -/
def mappingRepeat (s : State) : State :=
  if s.time.now < s.cs.repeatAt then s
  else csPushAt 0x02 s.time.map.la (mappingPayload s true) (setCs { s.cs with repeatAt := (s.time.now / 1000000000 + 1) * 1000000000 } s)

def execCsMappingRepeat (t : Nat) (s : State) : Host.Outcome State Fault Refusal := act t mappingRepeat s

/-- FLUSH_US after the first record of its frame, channel 0 sends it (R462). -/
def exportFlush (s0 : State) : State :=
  let s := exportGo s0
  let c := s.cs.chan0
  if c.en && c.frame ≠ [] && decide (c.since + fld c.cfg 0 15 2 * 1000 ≤ s.time.now) then exportSend s else s

def execCsExportFrameFlush (t : Nat) (s : State) : Host.Outcome State Fault Refusal := act t exportFlush s

/-- Channel 1 writes one group into the trace export ring, when it has room (R461, R463). -/
def exportRing (s : State) : State :=
  let c := s.cs.chan1
  if !c.en then s
  else if c.pos < oldestAt s then
    if 4 ≤ ringFree s .trace then
      sheetEvent 0x02 (ringLand .trace (csWords (overrunGap s c)) (setCs { s.cs with chan1 := { c with pos := oldestAt s } } s))
    else s
  else
    let r := groupOf s c
    let s0 := setCs { s.cs with chan1 := { c with pos := r.1 } } s
    match r.2 with
    | none => s0
    | some (g, pos) =>
      if 4 * g.length ≤ ringFree s .trace then ringLand .trace (g.flatMap csWords) (setCs { s0.cs with chan1 := { c with pos := pos } } s0) else s0

def execCsExportRingWrite (t : Nat) (s : State) : Host.Outcome State Fault Refusal := act t exportRing s

end Sys2Proof.Machine
end

