-- ==== Sys2Proof/Machine/TestCommands.lean ====
section
/-!
DEFINITION. Memory errors and their repair (R652, R653), and test access by JTAG (R656 to R659).
-/
namespace Sys2Proof.Machine
open Sys2Proof

/-! ### Lookup tables: configured entries (R653) -/

/-- The staged record of a configured entry. -/
def entryRecord (s : State) : EccTarget → Rec
  | .vlan v => vlanOf s v
  | .streamId k => tget [] s.fwd.ident k
  | .handle h => handleOf s h
  | .route i => tget [] s.gw.route i
  | .tunnel i => (tunnelOf s i).rec0
  | .rxTunnel i => (rxTunnelOf s i).rec0
  | .auth e => authRec s e
  | .macEntry k => macGet s k
  | _ => []

/-- A configured entry holds a record. -/
def entryPut (x : EccTarget) (r : Rec) (s : State) : State :=
  match x with
  | .vlan v => { s with fwd := { s.fwd with vlan := tset [] s.fwd.vlan v r } }
  | .streamId k => { s with fwd := { s.fwd with ident := tset [] s.fwd.ident k r } }
  | .handle h => { s with fwd := { s.fwd with handle := tset [] s.fwd.handle h r } }
  | .route i => { s with gw := { s.gw with route := tset [] s.gw.route i r } }
  | .tunnel i => setTunnel i { tunnelOf s i with rec0 := r } s
  | .rxTunnel i => setRxTunnel i { rxTunnelOf s i with rec0 := r } s
  | .auth e => { s with gw := { s.gw with auth := tset [] s.gw.auth e r } }
  | .macEntry k => macSet k r s
  | _ => s

/-- Whether a target is memory of the gateway (R353). -/
def gwTarget : EccTarget → Bool
  | .route _ | .tunnel _ | .rxTunnel _ | .auth _ => true
  | _ => false

/-- A configured entry counts as absent until it is rewritten. -/
def entryLost (x : EccTarget) (s : State) : State :=
  let s1 := if entryRecord s x = [] then s
    else entryPut x [] (setTest (fun v => { v with saved := v.saved ++ [(x, entryRecord s x)] }) s)
  if gwTarget x then gwEvent 0x04 s1 else s1

/-- An entry of the lookup tables meets an uncorrectable error (R653). -/
def lookupLost (x : EccTarget) (s : State) : State :=
  match x with
  | .vlan _ | .streamId _ | .handle _ | .route _ | .tunnel _ | .rxTunnel _ | .auth _ => entryLost x s
  | .fwRule i => fwEvent 8 0 { s with fw := { s.fw with bad := if s.fw.bad.contains i then s.fw.bad else s.fw.bad ++ [i] } }
  | .gateList p => setEgress p { egressOf s p with gates := { (egressOf s p).gates with ecc := true } } s
  | .macEntry k => if macType (macGet s k) = 1 then macSet k [] s else entryLost x s
  | .tracker k => fwEvent 8 0 (setTracker k [] s)
  | .meter m => let v := meterOf s m
    setMeter m { v with tc := (rw v.rec0 2).toNat * 16777216, tp := (rw v.rec0 4).toNat * 16777216 } s
  | .recovery i => setRcv i { rcvOf s i with takeAny := true, hist := 0, passedP := 0, dupD := 0, resetAt := s.time.now, testAt := s.time.now } s
  | .generation i => setGen i { genOf s i with seq := fld (genOf s i).rec0 0 15 0 } s
  | _ => s

/-! ### The other regions (R653) -/

/-- A cell of the packet buffer: the replica on a line ends now, the others at their start; the cell leaves the shared pool. -/
def cellLost (f : Nat) (s : State) : State :=
  let s1 := modFrame f (fun v => { v with bad := true }) { s with buf := { s.buf with withdrawn := s.buf.withdrawn + 1 } }
  let s2 := s1.egress.foldl (fun s e => match e.2.sending with
    | some x => if x.rep.frame = f && f ≠ 0 then onLine e.1 (.cut s.time.now e.1) (countDrop e.1 0x17 s) else s
    | none => s) s1
  bufNote s2

/-- A record of the trace becomes a gap (R653, R465). -/
def recordLost (n : Nat) (s : State) : State :=
  match if n < s.cs.next then recordAt s (s.cs.runs.headD 0 + n) else none with
  | none => s
  | some r =>
    let g : CsRec := { r with kind := 1, payload := pack64 [(2, 1), (30, 0), (32, 1)] }
    sheetEvent 0x03 (setCs { s.cs with trace := s.cs.trace.set (s.cs.next - 1 - n) g } s)

/-- The control complex's code and data (R597), or its mailbox and staging part (R543, R476). -/
def controlLost (off : Nat) (x : EccTarget) (s : State) : State :=
  if off < 2 * 2 ^ 20 then
    if s.sys.fw.paused then systemReset 0x0A s
    else if s.sys.fw.slotDirty then systemReset 7 s
    else takeover 2 s
  else match x with
    | .requestRing m => setTest (fun v => { v with badRing := if v.badRing.contains m then v.badRing else v.badRing ++ [m] }) s
    | _ =>
      let a := (off - 2 * 2 ^ 20) / 4
      setTest (fun v => { v with badMem := if v.badMem.contains a then v.badMem else v.badMem ++ [a] }) s

/-- The window being built in the Darkroom is discarded (R440). -/
def windowLost (s : State) : State :=
  match s.dark.cur with
  | none => s
  | some w => nextWindow (setDarkSlot w.slot {} (setDark { s.dark with cur := none } s))

/-- A mailbox without its journal. -/
def lostBox (b : Mailbox) : Mailbox :=
  { b with state := 0, ack := 0, statuses := [], deferred := none, journalLost := true, lostTold := true, restage := [] }

/-- Retention SRAM. -/
def retentionLost (x : EccTarget) (s : State) : State :=
  match x with
  | .journal m =>
    let s1 := match s.mbx.saved with
      | some t => { s with mbx := { s.mbx with saved := some (tset {} t m (lostBox (tget {} t m))) } }
      | none => setBox m (lostBox (boxOf s m)) s
    systemEventD 10 0x03 m s1
  | .snapshot c => setCore (fun v => if c = 0 then { v with copy0 := none } else { v with copy1 := none }) s
  | .fresh e =>
    let v := freeVal s
    let s1 := setFresh e v.1.toNat v.2
    { s1 with gw := { s1.gw with freshLost := if s1.gw.freshLost.contains e then s1.gw.freshLost else s1.gw.freshLost ++ [e] } }
  | _ => s

/-- The MACsec SA store: the SA is invalid (R410). -/
def saLost (i : Nat) (s : State) : State :=
  let a := saOf s i
  cipherEvent 13 0 (setSa i { a with rec0 := a.rec0.set 0 (putBits (rw a.rec0 0) 31 31 0), key := none } s)

/-- The consequence of an uncorrectable error, by region in the order of R32. -/
def uncorrectable (region off : Nat) (x : EccTarget) (s : State) : State :=
  match region with
  | 0 => match x with | .cell f => cellLost f s | _ => cellLost 0 s
  | 1 => lookupLost x s
  | 2 => match x with | .traceRecord n => recordLost n s | _ => sheetEvent 0x03 s
  | 3 => controlLost off x s
  | 4 => windowLost s
  | 5 => retentionLost x s
  | _ => match x with | .sa i => saLost i s | _ => cipherEvent 13 0 s

/-- An error found by the scrubber or by a reader (R652, R653). -/
def eccFound (region off : Nat) (bad : Bool) (x : EccTarget) (s : State) : State :=
  if 7 ≤ region then s
  else
    let e := tget (0, 0) s.sys.test.ecc region
    let e1 := if bad then (e.1, satAdd 32 e.2 1) else (satAdd 32 e.1 1, e.2)
    let s1 := systemEventD 14 (if bad then 2 else 1) (pack [(4, region), (28, 0), (32, off)]) (setTest (fun v => { v with ecc := tset (0, 0) v.ecc region e1 }) s)
    if bad then uncorrectable region off x s1 else s1

def execEccErrorDetected (t region off : Nat) (bad : Bool) (target : EccTarget) (s : State) : Host.Outcome State Fault Refusal :=
  act t (fun s => eccFound region off bad target s) s

/-- The firmware rewrites an entry from its staged copy (R653). An entry that has been written since keeps what was written. -/
def entryRewritten (x : EccTarget) (s : State) : State :=
  match x with
  | .fwRule i => let u := fwNote id s
    { u with fw := { u.fw with bad := u.fw.bad.filter (· ≠ i) } }
  | .gateList p => setEgress p { egressOf s p with gates := { (egressOf s p).gates with ecc := false } } s
  | _ =>
    match s.sys.test.saved.find? (fun e => e.1 = x) with
    | none => s
    | some e =>
      let s1 := setTest (fun v => { v with saved := v.saved.filter (fun e => e.1 ≠ x) }) s
      if entryRecord s1 x = [] then entryPut x e.2 s1 else s1

def execLookupEntryRewrite (t : Nat) (target : EccTarget) (s : State) : Host.Outcome State Fault Refusal := act t (fun s => entryRewritten target s) s

/-! ### JTAG (R656 to R658) -/

/-- Whether the TAP serves an instruction (R657). -/
def tapServes (s : State) (i : JtagInstr) : Bool := s.sys.fw.lifecycle ≤ 1 || i = .bypass || i = .idcode || regBit s rJTAG_CTRL 31

/-- Instructions that take the pins and hold a system reset (R656). -/
def holdsReset (i : JtagInstr) : Bool := i = .extest || i = .clamp || i = .highz

/-- An instruction that opens JTAG in Provisioned raises the debug alarm (R657). -/
def opensTap (i : JtagInstr) (s : State) : State :=
  if s.sys.fw.lifecycle = 1 && i ≠ .bypass && i ≠ .idcode && i ≠ .sample && !s.sys.test.opened then
    setTest (fun v => { v with opened := true }) (cipherAlarm .debug s)
  else s

/-- The data register of an instruction (R656). -/
def tapRegOf : JtagInstr → Option Word
  | .idcode => some Config.idcode
  | .bypass => some 0
  | _ => none

/-- The TAP takes an instruction at Update-IR; one that it does not serve acts as BYPASS. No code of RST_STAT.CAUSE names a reset by boundary scan, so
its cause is a free value. -/
def tapTakes (i : JtagInstr) (s : State) : State :=
  if s.sys.pow.power = .standby then s
  else if !tapServes s i then setTest (fun v => { v with tap := some .bypass, tapReg := tapRegOf .bypass }) s
  else
    let s1 := setTest (fun v => { v with tap := some i, tapReg := tapRegOf i }) (opensTap i s)
    if !holdsReset i || s1.sys.pow.scan then s1
    else
      let v := freeVal s1
      systemReset (v.1.toNat % 32) (setPow (fun p => { p with scan := true }) v.2)

def execJtagInstruction (t : Nat) (i : JtagInstr) (s : State) : Host.Outcome State Fault Refusal := actAlways t (tapTakes i) s

/-- TRST_N falls, or the TAP returns to Test-Logic-Reset: a reset held by boundary scan is released (R656). -/
def tapReset (s : State) : State :=
  let s1 := setTest (fun v => { v with tap := none, tapReg := none }) s
  if s1.sys.pow.scan then releaseReset (setPow (fun p => { p with scan := false }) s1) else s1

def execJtagTestLogicReset (t : Nat) (s : State) : Host.Outcome State Fault Refusal := actAlways t tapReset s

/-- GO starts a verification, a request of requester 3; a TAP locked out ignores it, and one that finds no entry in the engine's queue starts none (R401,
R658); neither does one in the cycle of a power-on reset (R659). -/
def jtagGo (s : State) : State :=
  if regBit s rJTAG_CTRL 30 || s.sys.pow.porAt = some s.time.now then s
  else if !bulkRoom s 3 then cipherEvent 6 0 s
  else setTest (fun v => { v with verify := true, verifyGo := some (s.time.now, v.verify) }) s

/-- The message that the unlock signature signs: the challenge, then the device identity (R658). -/
def unlockMessage (s : State) : Bytes :=
  recBytes ((List.range 4).map (fun i => regGet s (rTEST (4 * i)))) ++ beBytes Config.uid.toNat 8

/-- The signature in the response registers, r then s. -/
def unlockSignature (s : State) : Bytes := recBytes ((List.range 16).map (fun i => regGet s (rTEST (0x10 + 4 * i))))

/-- Whether the verification passes, as a request of requester 3 (R401, R658). -/
def unlocks (s : State) : Bool :=
  startStatus s { requester := 3, op := .ecdsaVerify, noKey := true } = 0 && ecdsaVerify false Config.debugKey (unlockMessage s) (unlockSignature s)

/-- The verification that a completion ends: none, the one under way, or, in the cycle of a GO, the one before it, behind which that of the GO goes on
(R509). -/
def verifyEnding (s : State) : Option (Bool × Option (Nat × Bool)) :=
  if !s.sys.test.verify then none
  else match s.sys.test.verifyGo with
    | some (c, was) => if c = s.time.now then (if was then some (true, some (c, false)) else none) else some (false, none)
    | none => some (false, none)

/-- The verification ends: OPEN, or one more failure, the third of which locks out; a new challenge (R658). -/
def verifyEnds (s : State) : State :=
  match verifyEnding s with
  | none => s
  | some (on, go) =>
    let s1 := drawChallenge (setTest (fun v => { v with verify := on, verifyGo := go }) s)
    if unlocks s then
      let s2 := regPut rJTAG_CTRL 31 31 1 s1
      if regBit s rJTAG_CTRL 31 then s2 else cipherAlarm .debug s2
    else
      let n := min 3 (regFld s rJTAG_CTRL 29 28 + 1)
      regPut rJTAG_CTRL 30 30 (if n = 3 then 1 else regFld s rJTAG_CTRL 30 30) (regPut rJTAG_CTRL 29 28 n s1)

def execJtagVerifyComplete (t : Nat) (s : State) : Host.Outcome State Fault Refusal := act t verifyEnds s

end Sys2Proof.Machine
end

