-- ==== Sys2Proof/Machine/RegOps.lean ====
section
/-!
DEFINITION. What a read of a register returns: the storage, and the status that the hardware keeps (R31, R62, R78, R119, R298, R422, R446, R464, R471,
R480 to R482, R492, R501, R506, R512, R514, R528, R553, R599, R600, R622, R639, R658).
-/
namespace Sys2Proof.Machine
open Sys2Proof

/-- An integer that saturates in an n-bit two's-complement field. -/
def satField (n : Nat) (v : Int) : Nat := unsigned n (clampI (-(2 : Int) ^ (n - 1)) ((2 : Int) ^ (n - 1) - 1) v)

/-- Sets armed for the next boundary (R31). -/
def armedSets (s : State) : Nat := s.beat.armed.foldl (fun n c => n + c.sets.length) 0

/-- SYS registers. -/
def sysView (s : State) (o : Nat) : Word :=
  let st := regFld s o
  let c := s.ciph
  if o = 0x0100 then
    packW [(3, s.beat.k), (3, s.beat.kNext), (1, b2n (decide (s.beat.k ≠ s.beat.kNext))), (1, b2n s.beat.listBusy), (8, min 255 (armedSets s)), (1, st 15 15), (15, s.beat.inSec)]
  else if o = 0x0104 then word s.beat.seq
  else if o = 0x010C then packW [(16, s.beat.appliedId), (16, s.beat.armedId)]
  else if o = 0x0110 then packW [(16, min 65535 s.beat.loadPeak), (16, min 65535 s.beat.loadMean)]
  else if o = rFW_STAT then
    packW [(1, st 31 31), (1, b2n (decide (liveBypass s ≠ []))), (1, b2n s.fw.dryRun), (1, s.fw.bank), (1, b2n s.fw.swapPend), (27, st 26 0)]
  else if o = 0x0300 then
    packW [(1, b2n c.alarm), (1, b2n c.almVolt), (1, b2n c.almClk), (1, b2n c.almTemp), (1, b2n c.almDbg), (1, b2n c.zeroized), (1, b2n c.pipe0Fail),
      (1, b2n c.pipe1Fail), (1, b2n (c.symFail || c.pkFail)), (1, b2n c.entropyFail), (4, st 21 18), (9, (c.slot.filter (fun e => e.2.type ≠ 0)).length),
      (9, queueUsed s)]
  else if o = rDRK_STAT then darkStat s
  else if o = 0x0500 then word s.cs.next
  else if o = rCS_STAT then packW [(1, b2n s.cs.chan0.en), (1, b2n s.cs.chan1.en), (11, csFill s), (19, st 18 0)]
  else if o = rCORE_STAT then
    packW [(1, s.sys.core.core), (1, b2n s.sys.core.stbyOk), (1, st 29 29), (3, s.sys.core.lastCause), (10, st 25 16), (16, s.sys.core.snapId)]
  else if o = 0x0700 then
    let f := s.sys.fw
    packW [(2, f.lifecycle), (1, b2n (decide (f.boot = .safelight))), (3, f.slCause), (1, b2n f.safeProfile), (1, b2n f.settingsGood), (1, b2n f.commitPending),
      (1, b2n f.slotDirty), (6, f.floor), (8, (release s).1), (8, (release s).2)]
  else if o = rRST_CTRL then packW [(16, 0), (14, st 15 2), (1, b2n s.sys.pow.sysGo.isSome), (1, b2n s.sys.core.reload)]
  else regGet s o

/-- A semaphore register (R482). -/
def semView (s : State) (n : Nat) : Word :=
  let st := regFld s (blkBRG + 0x200 + 4 * n) 26 18
  match semHeld s n with
  | none => packW [(5, 0), (9, st), (18, 0)]
  | some x => packW [(1, 1), (2, match x.origin with | .pcie => 0 | .spi => 1 | .inband => 2 | .core => 3), (1, b2n x.spi), (1, b2n x.bar2), (9, st), (18, x.line)]

/-- A word of the MSI-X table; a vector is masked after a reset (PCIe specification, R488). -/
def msixReset (i : Nat) : Word := if i % 4 = 3 then 1 else 0
def msixWord (s : State) (i : Nat) : Word := tget (msixReset i) s.bridge.msix i

/-- BRG registers. -/
def brgView (s : State) (off o : Nat) : Word :=
  let st := regFld s off
  let b := s.bridge
  if o = 0x0000 then packW [(1, b2n b.up), (3, b.rate), (2, b.width), (26, st 25 0)]
  else if 0x0010 ≤ o && o < 0x0020 then
    let f := tget (0, false) b.proofFirst ((o - 0x10) / 4)
    packW [(1, b2n f.2), (7, st 30 24), (24, f.1)]
  else if o = 0x0020 then packW [(9, st 31 23), (7, b.proof.prod), (9, st 15 7), (7, b.proof.cons)]
  else if 0x0200 ≤ o && o < 0x0240 then semView s ((o - 0x200) / 4)
  else if 0x0800 ≤ o && o < 0x1000 then tget 0 b.proofMem ((o - 0x800) / 4)
  else if 0x1000 ≤ o && o < 0x1200 then msixWord s ((o - 0x1000) / 4)
  else if o = 0x1800 then word (b.held.foldl (fun m e => m ||| 2 ^ e.1) 0)
  else if o = 0x1804 then 0
  else if o = 0x2810 then word b.txHead
  else if o = 0x2830 then word b.rxHead
  else match slotOf o 0x2000 0x20 52 with
    | some (i, 0x1C) => if 16 ≤ i && i < 49 then packW [(16, (tget {} s.rings i).prod), (16, (tget {} s.rings i).cons)] else regGet s off
    | _ => regGet s off

/-- MBX registers. -/
def mbxView (s : State) (off m d : Nat) : Word :=
  let st := regFld s off
  let b := boxOf s m
  if d = 0x00 then packW [(1, 0), (2, b.state), (4, b.verMaj), (4, b.verMin), (1, b2n b.deferred.isSome), (20, st 19 0)]
  else if d = 0x04 then packW [(3, st 31 29), (13, b.req.prod), (3, st 15 13), (13, b.req.cons)]
  else if d = 0x08 then packW [(3, st 31 29), (13, b.rsp.prod), (3, st 15 13), (13, b.rsp.cons)]
  else if d = 0x0C then b.ack
  else regGet s off

/-- EVQ registers. -/
def evqView (s : State) (off e d : Nat) : Word :=
  let r := tget {} s.ev.ring e
  if d = 0x00 then packW [(7, regFld s off 31 25), (9, r.prod), (7, regFld s off 15 9), (9, r.cons)] else regGet s off

/-- TIME.JUMP.THR_US (R62). -/
def thrUs (s : State) : Nat := if s.time.thr < 1000 then 0 else min 65535 ((s.time.thr + 999) / 1000)

/-- TIME registers. -/
def timeView (s : State) (off o : Nat) : Word :=
  let st := regFld s off
  let v := s.time
  if o = 0x0000 then
    packW [(1, b2n v.hold), (1, b2n v.clamp), (1, st 29 29), (1, st 28 28), (2, v.src), (2, v.domain), (8, st 23 16), (16, v.epoch)]
  else if o = 0x0004 then word v.map.gen
  else if o = 0x0008 then word (unsigned 32 v.map.a)
  else if o = 0x000C then word (unsigned 32 (v.corr.tdiv (2 ^ 44)))
  else if o = 0x0010 then packW [(16, st 31 16), (16, thrUs s)]
  else if o = 0x0020 then packW [(16, st 31 16), (8, v.capSeq), (5, st 7 3), (2, st 2 1), (1, b2n v.cap.isSome)]
  else if o = 0x0024 then word v.capLt
  else if o = 0x0028 then word (v.capLt / 2 ^ 32)
  else if 0x002C ≤ o && o < 0x0038 then rw v.capWt ((o - 0x2C) / 4)
  else regGet s off

/-- DISARM of a pin reads 1 while a pulse in progress keeps the arming in force that it has disarmed (R72, R506, R509). -/
def disarming (s : State) (n : Nat) : Bool := match (pinOf s n).arming with | some a => a.disarm | none => false

/-- TIO registers. -/
def tioView (s : State) (off n d : Nat) : Word :=
  let p := pinOf s n
  if d = 0x00 then putBits (regGet s off) 25 25 (b2n (disarming s n))
  else if d = 0x14 then packW [(1, b2n p.arming.isSome), (15, regFld s off 30 16), (16, p.capSeq)]
  else if d = 0x20 then word p.capLt
  else if d = 0x24 then word (p.capLt / 2 ^ 32)
  else if d = 0x28 then word p.capShort
  else regGet s off

/-- The checkpoint instant that CKPT_AGE counts from (R599). -/
def ckptAt (s : State) : Option Nat := if ownsAny s then s.pair.ckptAck else s.pair.ckpt.map (fun c => c.2.1)

/-- Whether the checkpoint applied is older than twice the interval (R592). -/
def ckptStale (s : State) : Bool :=
  match s.pair.ckpt with
  | some c => decide (2 * s.pair.interval * 1000000 < s.time.now - c.2.1)
  | none => false

/-- Objects owned, as bits from object a on. -/
def ownBits (s : State) (a n : Nat) : Nat := (List.range n).foldl (fun v i => v + b2n (owns s (a + i)) * 2 ^ i) 0

/-- PAIR registers. -/
def pairView (s : State) (off o : Nat) : Word :=
  let st := regFld s off
  let p := s.pair
  if o = 0x0000 then
    packW [(1, b2n p.en), (1, b2n p.bound.isSome), (1, b2n (roleB s)), (1, b2n p.up), (1, b2n p.ownOut), (1, b2n p.ownIn), (1, st 25 25), (1, b2n (ckptStale s)),
      (4, p.binds), (4, p.port), (16, match ckptAt s with | some a => min 65535 ((s.time.now - a) / 1000000) | none => 65535)]
  else if o = 0x0004 then word (ownBits s 0 32)
  else if o = 0x0008 then packW [(24, st 31 8), (8, ownBits s 32 8)]
  else if o = 0x0010 then word Config.uid.toNat
  else if o = 0x0014 then word (Config.uid.toNat / 2 ^ 32)
  else if o = 0x0100 then
    packW [(1, b2n s.ptime.lock), (2, s.ptime.role), (1, st 28 28), (1, b2n s.ptime.followStep), (11, st 26 16), (16, satField 16 s.ptime.err)]
  else regGet s off

/-- What a read of the register at offset reg of BAR0 returns, reg without alias. -/
def regRead (s : State) (reg : Nat) : Word :=
  let o := reg % 0x10000
  match reg / 0x10000 with
  | 0 => sysView s reg
  | 1 => brgView s reg o
  | 2 => match slotOf o 0x0000 0x20 8 with | some (m, d) => mbxView s reg m d | none => regGet s reg
  | 3 => match slotOf o 0x0000 0x10 8 with | some (e, d) => evqView s reg e d | none => regGet s reg
  | 4 => timeView s reg o
  | 5 => match slotOf o 0x1000 0x40 32 with | some (n, d) => tioView s reg n d | none => regGet s reg
  | 6 => if o = 0 then putBits (regGet s reg) 29 29 (b2n (match s.nm.entry with | some e => e.go | none => false)) else regGet s reg
  | 7 => pairView s reg o
  | 8 => if o = 0x0100 then putBits (regGet s reg) 0 0 (b2n s.sys.test.verify) else regGet s reg
  | _ => 0

/-- The device as it stood at the start of the cycle. -/
def atStart (s : State) : State := { s with toDevice := s.start }

/-- What a read of an origin returns of a register: the register at the start of the cycle in which the read is served (R512). A fence read is served after the
writes that it waits for, so it counts their failures, those of this cycle too (R481, R503). -/
def readAt (s : State) (o : Origin) (reg : Nat) : Word := regRead (if reg = rPROOF (originCode o) then s else atStart s) reg

/-- A read of BAR0 at a byte offset, alias included; none where it is unmapped (R471, R473, R504, R511). -/
def busRead (s : State) (o : Origin) (off : Nat) : Option Word :=
  let a := aliasOf (off / 4 * 4)
  if 0x90000 ≤ off || (regFields a.1).isNone || (a.2 ≠ .direct && noAlias a.1) then none else some (readAt s o a.1)

end Sys2Proof.Machine
end

