-- ==== Sys2Proof/Machine/WriteOps.lean ====
section
/-!
DEFINITION. Writes at their target: field by access code and alias (R506 to R511), refusals (R476), the commands that a write starts, BAR2 (R472), the
Proof log (R479, R480), carriage (R475, R477), semaphores' lines (R482).
-/
namespace Sys2Proof.Machine
open Sys2Proof

/-- What becomes of a write: the state, or the cause of its failure by the codes of R480. -/
abbrev Written := Except Nat State

/-! ### Fields -/

/-- The register as a write leaves it, ring pointers as read, GO fields where a command starts; a flag that the hardware has set in this cycle stays set
(R513). -/
def regAfter (s : State) (reg : Nat) (fs : List RegField) (a : Alias) (v : Word) : Word :=
  fs.foldl (fun w f =>
    let old := bits (if f.acc = .ptr then regRead s reg else regGet s reg) f.hi f.lo
    let v := bits v f.hi f.lo
    let x := if f.acc = .cnt && a = .direct then cntAfter s reg f old v else fieldAfter f.acc a (s.sys.fw.lifecycle = 2) old v
    putBits w f.hi f.lo (if f.acc = .w1c then x ||| bits (word (tget 0 (hwNow s).flags reg)) f.hi f.lo else x)) 0

/-- What this cycle keeps of a write: the bits of control fields that it wrote, and its CNT fields less what it took away (R513). -/
def noteWrite (reg : Nat) (fs : List RegField) (a : Alias) (v : Word) (s : State) : State :=
  let h := hwNow s
  let mask := fs.foldl (fun m f => if f.acc = .rw || f.acc = .rwl then m ||| (if a = .direct then 2 ^ (f.hi + 1) - 2 ^ f.lo else bits v f.hi f.lo * 2 ^ f.lo) else m) 0
  let cnt := fun (n : CntNote) => match fs.find? (fun f => f.acc = .cnt && f.lo = n.lo) with
    | some f => if n.off = reg && a = .direct then { n with base := n.base - bits v f.hi f.lo } else n
    | none => n
  { s with hw := { h with wrote := tset 0 h.wrote reg (tget 0 h.wrote reg ||| mask), counts := h.counts.map cnt } }

/-- What the storage takes of it. -/
def storeAfter (s : State) (reg : Nat) (fs : List RegField) (w : Word) : Word :=
  fs.foldl (fun x f => if f.acc = .ptr || f.acc = .go then putBits x f.hi f.lo (regFld s reg f.hi f.lo) else x) w

/-! ### Rings by source -/

/-- The ring that a source announces (R486). -/
def sourceRing (i : Nat) : Option RingId :=
  if i < 8 then some (.rsp i)
  else if i < 16 then some (.evq (i - 8))
  else if i < 40 then some (.can (i - 16))
  else if i < 48 then some (.lin (i - 40))
  else if i = 48 then some .trace
  else if i = 51 then some .proof
  else none

def sourceOfRing : RingId → Nat
  | .rsp m => m
  | .evq e => 8 + e
  | .can n => 16 + n
  | .lin n => 40 + n
  | .trace => 48
  | .proof => 51
  | .req _ => 52

def mirrored (s : State) (i : Nat) : Bool := i < 49 && regBit s (rSOURCE i 0) 31
def intSource (s : State) (i : Nat) : IntSource := tget {} s.bridge.sources i
def setSourceInt (i : Nat) (v : IntSource) (s : State) : State := { s with bridge := { s.bridge with sources := tset {} s.bridge.sources i v } }

/-- Whether a source has a packet pending (R487, R518). -/
def sourcePending (s : State) (i : Nat) : Bool :=
  if i = 49 then 0 < s.bridge.rxDone
  else if i = 50 then 0 < s.bridge.txDone
  else if mirrored s i then (intSource s i).copied ≠ (regGet s (rSOURCE i 0x14)).toNat
  else match sourceRing i with
    | some id => (ringOf s id).ends ≠ []
    | none => false

/-- A source is armed again; what it had pending behind a mask is no longer, where its packets have been consumed (R488). -/
def armSource (i : Nat) (s : State) : State :=
  let s1 := setSourceInt i { intSource s i with armed := true } s
  if sourcePending s1 i then s1 else { s1 with bridge := { s1.bridge with held := tmap [] s1.bridge.held (fun _ l => l.filter (· ≠ i)) } }

/-- In-band use of a mailbox (R498). -/
def inbandOn (s : State) (m : Nat) : Bool := regBit s (rIB_CFG m) 31

/-- Why a write of a consumer pointer fails (R476, R490, R519). -/
def consRefuses (s : State) (id : RingId) (v : Nat) : Option Nat :=
  if mirrored s (sourceOfRing id) then some cRING_OWNED else if consOk s id v then none else some cCONFIG

/-- A record of a CAN ring that the write has rescued is not counted, and its gap is no event (R320, R523). -/
def uncountRescue (id : RingId) (old s : State) : State :=
  match id with
  | .can b =>
    let c := canOf s b
    if (ringOf s id).drops < (ringOf old id).drops then
      unraise (fun src => src = 224 + 4 * b + 1) (setCan b { c with counts := tset 0 c.counts 14 (tget 0 c.counts 14 - 1) } s)
    else s
  | _ => s

/-- The consumer pointer moves, and the source is armed (R488, R518). -/
def consWritten (id : RingId) (v : Nat) (s : State) : State := armSource (sourceOfRing id) (uncountRescue id s (ringConsume id v s))

/-! ### Refusals -/

/-- Whether the doorbell of R525 is refused: more than 4,096 words, or back. -/
def doorbellRefuses (s : State) (m v : Nat) : Bool :=
  let d := ringDiff (.req m) v (ringOf s (.req m)).cons
  decide (4096 < d) || decide (d < ringDepth s (.req m)) || (boxOf s m).resetAt = some s.time.now

/-- Why a write of RING_CFGs fails (R486, R685). -/
def cfgRefuses (s : State) (i : Nat) (w : Word) : Bool :=
  let old := regGet s (rSOURCE i 0)
  let size := bits w 30 27
  let base := cat64 (regGet s (rSOURCE i 0x08)) (regGet s (rSOURCE i 0x04))
  i < 49 && (9 ≤ size || (bit old 31 && size ≠ bits old 30 27) || (bit w 31 && !bit old 31 && base % 2 ^ (12 + size) ≠ 0))

/-- Why a write fails at its register, none where it does not: w the register as it would stand, v the value written (R64, R476, R486, R498, R501, R519,
R525, R553, R638, R639). -/
def regRefuses (s : State) (o : Origin) (reg : Nat) (w v : Word) : Option Nat :=
  let x := reg % 0x10000
  match reg / 0x10000 with
  | 0 => if reg = rRST_CTRL && (bits v 31 16 ≠ 0xA5C3 || (bit w 0 && s.sys.fw.slotDirty)) then some cCONFIG else none
  | 1 =>
    if reg = rPROOF_PTR then (if consOk s .proof (bits w 6 0) then none else some cCONFIG)
    else if 0x0800 ≤ x && x < 0x1000 then some cRING_OWNED
    else if 0x2900 ≤ x && x < 0x2920 then (if regBit s rBRG_CTRL 24 then some cLOCKED else none)
    else match slotOf x 0x2000 0x20 52 with
      | none => none
      | some (i, d) =>
        if d = 0 then (if cfgRefuses s i w then some cCONFIG else none)
        else if d ≤ 0x10 then (if mirrored s i && w ≠ regGet s reg then some cCONFIG else none)
        else if d = 0x1C && 16 ≤ i && i < 49 then
          (match sourceRing i with | some id => consRefuses s id (bits w 15 0 % ringMod id) | none => none)
        else none
  | 2 => match slotOf x 0 0x20 8 with
    | some (m, 0x04) => if inbandOn s m && o ≠ .inband then some cRING_OWNED else if doorbellRefuses s m (bits w 28 16) then some cCONFIG else none
    | some (m, 0x08) => consRefuses s (.rsp m) (bits w 12 0)
    | _ => none
  | 3 => match slotOf x 0 0x10 8 with
    | some (e, 0x00) => consRefuses s (.evq e) (bits w 8 0)
    | some (_, 0x04) => if bits w 31 24 < 2 then some cCONFIG else none
    | _ => none
  | 4 => if reg = rCAP_CTRL && bit w 0 && bits w 2 1 = 3 then some cCONFIG else none
  | _ => none

/-! ### What a write starts -/

/-- The doorbell (R525); the firmware reads the new pointer from the next cycle on (R554). -/
def doorbell (m v : Nat) (s : State) : State :=
  let r := ringOf s (.req m)
  if v = r.prod then s else setRing (.req m) { r with prod := v, ends := r.ends ++ [v], landed := some (s.time.now, ringShown s (.req m)) } s

/-- A new route is the route of the occurrences of its cycle too (R554). -/
def routeWritten (n : Nat) (w : Word) (s : State) : State :=
  { s with ev := { s.ev with raised := s.ev.raised.map (fun o =>
    if o.at0 = s.time.now && o.source / 8 = n then { o with route := bits w (4 * (o.source % 8) + 3) (4 * (o.source % 8)) } else o) } }

/-- The ring reset of a mailbox (R544). -/
def ringReset (m : Nat) (s : State) : State :=
  let b := boxOf s m
  setTest (fun v => { v with badRing := v.badRing.filter (· ≠ m) })
    (setBox m { b with req := {}, state := if b.state = 0 then 0 else 1, resetAt := some s.time.now } s)

/-- Port 28 leaves UP: what waits for it is discarded, and its addresses are forgotten (R135, R637, R683). -/
def hostPortDown (s : State) : State := macFlush 0 28 (discardPort 28 s)

/-- A state in which port 28 may have left UP, the state before being s0. -/
def hostPortFollows (s0 s : State) : State := if portUp s0 28 && !portUp s 28 then hostPortDown s else s

/-- A word of the MSI-X table is written; a vector unmasked while its pending bit is set sends its message (R488). -/
def msixWrite (i : Nat) (w : Word) (s : State) : State :=
  let s1 := { s with bridge := { s.bridge with msix := tset (msixReset i) s.bridge.msix i w } }
  let v := i / 4
  match tget [] s.bridge.held v with
  | h :: _ =>
    if i % 4 = 3 && !bit w 0 && !s.bridge.pci.fnMask then
      emit (.msix s.time.now h v) { s1 with bridge := { s1.bridge with held := tset [] s1.bridge.held v [] } }
    else s1
  | [] => s1

/-- SYS.RST_CTRL: SYS_GO prevails over CTRL_GO (R639, R646). -/
def resetWritten (w : Word) (s : State) : State :=
  if bit w 1 then setPow (fun p => { p with sysGo := some (s.time.now + 1000), sysWas := p.sysGo.map (fun d => (s.time.now, d)) }) s else if bit w 0 then controlReset s else s

/-- TIO.CFGn: a new MODE, then DISARM, then ARM (R67, R72, R74). -/
def cfgWritten (n : Nat) (old w : Word) (s : State) : State :=
  let s1 := modeWritten n (bits old 31 29) s
  let s2 := if bit w 25 then disarmPin n s1 else s1
  if bit w 26 then armPin n s2 else s2

/-- CROCUS.CTRL (R363, R384). -/
def crocusWritten (w : Word) (s : State) : State :=
  let s1 := if bit w 28 then giveHint s else s
  if !bit w 29 then s1
  else
    let s2 := startEntry (bits w 31 30) s1
    { s2 with nm := { s2.nm with entry := s2.nm.entry.map (fun e => { e with go := true }) } }

/-- FAILS of an origin has been cleared in the cycle of a failure: the failure counts after the clear, and sets FIRST (R481, R503). -/
def failsCleared (o : Nat) (s : State) : State :=
  match tget (0, 0, 0, false) s.bridge.proofLast o with
  | (c, n, off, bar2) =>
    if 0 < n && c = s.time.now && regFld s (rPROOF o) 30 24 = n then
      { s with bridge := { s.bridge with proofFirst := tset (0, false) s.bridge.proofFirst o (off, bar2) } }
    else s

/-- What a write of BRG does beside its storage. -/
def brgActs (s0 : State) (x : Nat) (w : Word) (s : State) : State :=
  if x = 0x0020 then consWritten .proof (bits w 6 0) s
  else if 0x0010 ≤ x && x < 0x0020 then failsCleared ((x - 0x10) / 4) s
  else if 0x1000 ≤ x && x < 0x1200 then msixWrite ((x - 0x1000) / 4) w s
  else if x = 0x280C then armSource 50 { s with bridge := { s.bridge with txDone := 0 } }
  else if x = 0x282C then armSource 49 { s with bridge := { s.bridge with rxDone := 0 } }
  else if x = 0x2828 then hostPortFollows s0 s
  else match slotOf x 0x2000 0x20 52 with
    | some (i, 0x14) => if i < 49 then armSource i s else s
    | some (i, 0x1C) => (match sourceRing i with
        | some id => if 16 ≤ i && i < 49 then consWritten id (bits w 15 0 % ringMod id) s else s
        | none => s)
    | _ => s

/-- What a write does beside the storage of its register; old: the storage before, w: the register after. s0: the state before the write. -/
def regActs (s0 : State) (reg : Nat) (old w : Word) (s : State) : State :=
  let x := reg % 0x10000
  match reg / 0x10000 with
  | 0 => if reg = rRST_CTRL then resetWritten w s else if reg = rFW_STAT && bit w 31 && !bit old 31 then endAllBypass s else s
  | 1 => brgActs s0 x w s
  | 2 => match slotOf x 0 0x20 8 with
    | some (m, 0x00) => if bit w 31 then ringReset m s else s
    | some (m, 0x04) => doorbell m (bits w 28 16) s
    | some (m, 0x08) => consWritten (.rsp m) (bits w 12 0) s
    | _ => s
  | 3 =>
    if 0x1000 ≤ x && x < 0x1100 then routeWritten ((x - 0x1000) / 4) w s
    else match slotOf x 0 0x10 8 with
      | some (e, 0x00) => consWritten (.evq e) (bits w 8 0) s
      | _ => s
  | 4 => if reg = rCAP_CTRL && bit w 0 then startCapture s else s
  | 5 => match slotOf x 0x1000 0x40 32 with
    | some (n, 0x00) => cfgWritten n old w s
    | _ => s
  | 6 => if x = 0 then crocusWritten w s else s
  | 8 => if reg = rJTAG_CTRL && bit w 0 then jtagGo s else s
  | _ => s

/-- A write to BAR0 at a byte offset, alias included (R471, R473, R476, R504 to R511). -/
def regWrite (o : Origin) (off : Nat) (v : Word) (s : State) : Written :=
  let (reg, a) := aliasOf off
  match regFields reg with
  | none => .error (if off < 0x90000 && off % 4 ≠ 0 then cSIZE else cUNMAPPED)
  | some fs =>
    if 0x90000 ≤ off || (a ≠ .direct && noAlias reg) then .error cUNMAPPED
    else if off % 4 ≠ 0 then .error cSIZE
    else if o = .spi && regBit s rBRG_CTRL 25 then .error cLOCKED
    else
      let w := regAfter s reg fs a v
      match (if blkBRG + 0x800 ≤ reg && reg < blkBRG + 0x1000 then some cRING_OWNED
             else if fs.all (fun f => f.acc = .ro) then some cREAD_ONLY else regRefuses s o reg w v) with
      | some c => .error c
      | none => .ok (regActs s reg (regGet s reg) w (noteWrite reg fs a v (regSet reg (storeAfter s reg fs w) s)))

/-! ### BAR2 -/

/-- Why a write to a word of BAR2 fails (R472, R476, R498). -/
def bar2Refuses (s : State) (o : Origin) (a : Nat) : Option Nat :=
  if !bar2Mapped a then some cUNMAPPED
  else if o = .spi && regBit s rBRG_CTRL 25 then some cLOCKED
  else if 0xE0000 ≤ a then none
  else if a < 0x40000 && a % 0x8000 < 0x4000 then (if inbandOn s (a / 0x8000) && o ≠ .inband then some cRING_OWNED else none)
  else some cRING_OWNED

/-- Words written to BAR2; they are good again (R659). -/
def bar2Store (a : Nat) (ws : Rec) (s : State) : State :=
  setTest (fun v => { v with badMem := v.badMem.filter (fun i => !(a / 4 ≤ i && i < a / 4 + ws.length)) }) (memPutWords a ws s)

/-- A write to BAR2 of some words takes effect or fails whole (R473); the failure names its first word at fault. -/
def bar2Write (o : Origin) (off : Nat) (ws : Rec) (sizeBad : Bool) (s : State) : Except (Nat × Nat) State :=
  match ((List.range ws.length).map (fun i => (i, bar2Refuses s o (off + 4 * i)))).find? (fun e => e.2.isSome) with
  | some (i, some c) => .error (i, c)
  | _ => if sizeBad || off % 4 ≠ 0 then .error (0, cSIZE) else .ok (bar2Store off ws s)

/-- A write reaches its target: it takes effect, or fails (R476 to R479). -/
def landWrite (o : Origin) (c : Carried) (s : State) : State :=
  let v := rw c.data 0
  if c.bar2 then
    match bar2Write o c.off c.data c.sizeBad s with
    | .ok s1 => s1
    | .error (i, cause) => writeFails o c (c.off + 4 * i) (rw c.data i) cause s
  else
    let r := if c.sizeBad && (busRead s o c.off).isSome then Except.error cSIZE else regWrite o c.off v s
    match r with
    | .ok s1 => writeRecord o false c.off v s1
    | .error cause => writeFails o c c.off v cause s

/-! ### Carriage and lines -/

def carried (s : State) : Origin → List Carried
  | .pcie => s.bridge.carry0
  | .spi => s.bridge.carry1
  | .inband => s.bridge.carry2
  | .core => s.bridge.carry3

def setCarried (o : Origin) (l : List Carried) (s : State) : State :=
  { s with bridge := match o with
    | .pcie => { s.bridge with carry0 := l }
    | .spi => { s.bridge with carry1 := l }
    | .inband => { s.bridge with carry2 := l }
    | .core => { s.bridge with carry3 := l } }

/-- Whether a write must wait for a line. -/
def lineWaits (s : State) (o : Origin) (c : Carried) : Bool := (List.range c.data.length).any (fun i => lineLocked s o c.bar2 (c.off + 4 * i))

/-- Accesses of an origin join those that wait, numbered as they came (R475). -/
def carryOn (o : Origin) (l : List Carried) (s : State) : State :=
  setCarried o (carried s o ++ l.zipIdx.map (fun e => { e.1 with no := s.bridge.issued + e.2 })) { s with bridge := { s.bridge with issued := s.bridge.issued + l.length } }

/-- Whether an access of cycle a goes before one of another origin, of cycle b (R475). -/
def goesBefore (a : Nat) (o : Origin) (b : Nat) (p : Origin) : Bool := a < b || (a = b && originCode o < originCode p)

/-- The origin of a read that waits. -/
def WaitRead.origin (w : WaitRead) : Origin := if w.spi then .spi else .pcie

/-- Whether words from a byte offset on lie on a line that an origin must wait for. -/
def wordsLocked (s : State) (o : Origin) (bar2 : Bool) (off n : Nat) : Bool := (List.range n).any (fun i => lineLocked s o bar2 (off / 4 * 4 + 4 * i))

/-- Whether an AtomicOp waits for a line or a semaphore. -/
def atomicBlocked (s : State) (wide bar2 : Bool) (off : Nat) : Bool :=
  wordsLocked s .pcie bar2 off (if wide then 2 else 1) || (freeSem s).isNone

/-- Whether an access of another origin that arrived before one of cycle t, or in the same cycle from an origin that goes before, has not ended and waits for
no line (R475). -/
def arbiterWaits (s : State) (o : Origin) (t : Nat) : Bool :=
  [Origin.pcie, .spi, .inband, .core].any (fun p => match carried s p with
    | d :: _ => p ≠ o && !lineWaits s p d && goesBefore d.arrival p t o
    | [] => false)
  || (match s.bridge.waiting with
    | w :: _ => o ≠ .pcie && !atomicBlocked s w.wide w.bar2 w.off && goesBefore w.since .pcie t o
    | [] => false)
  || s.bridge.reads.any (fun w => w.origin ≠ o && !wordsLocked s w.origin w.bar2 w.off w.words && goesBefore w.since w.origin t o)

/-- Whether a write cannot take effect yet, before a line, behind an access of another origin, or behind an AtomicOp of its own (R475, R482). -/
def writeWaits (s : State) (o : Origin) (c : Carried) : Bool :=
  lineWaits s o c || arbiterWaits s o c.arrival || (o = .pcie && s.bridge.waiting.any (fun w => w.no < c.no))

/-- The tag of a register's write by its origin (R480); that of PCIe is the requester ID of the one host that the rows of registers stand for
(log entry 122). -/
def tagOf (s : State) : Origin → Nat
  | .pcie => Config.requester.toNat
  | .spi => (regGet s rSPI_CNT).toNat % 65536
  | _ => 0

/-- A write of a register by an origin as the bridge carries it. -/
def hostCarried (o : Origin) (off : Nat) (v : Word) (s : State) : Carried :=
  { arrival := s.time.now, bar2 := false, off := off, data := [v], tag := tagOf s o, no := s.bridge.issued }

/-- A write of a register by an origin, when it is to take effect: behind earlier accesses, or before a line that is held, it is carried on (R475, R477,
R482). -/
def hostWrite (o : Origin) (off : Nat) (v : Word) (s : State) : State :=
  if carried s o ≠ [] || writeWaits s o (hostCarried o off v s) then carryOn o [hostCarried o off v s] s else landWrite o (hostCarried o off v s) s

end Sys2Proof.Machine
end

