-- ==== Sys2Proof/Machine/BridgeOps.lean ====
section
/-!
DEFINITION. The host bridge: reads, atomics, semaphores, SPI frames, interrupts, mirrors, the host port, in-band frames (R473 to R500).
-/
namespace Sys2Proof.Machine
open Sys2Proof

/-! ### PCIe -/

/-- The PCIe link serves memory requests: the function is in D0 (R468). -/
def hostLink (s : State) : Bool := s.bridge.up && !s.bridge.pci.d3

/-- Whether an earlier write of an origin, of a space and offset, stands before a read of words (R475): one to BAR2 does, and one to a block that the read
touches; a read of the origin's own PROOF, through any alias, waits for all (R481). -/
def standsBefore (o : Origin) (bar2 : Bool) (off n : Nat) (wBar2 : Bool) (wOff : Nat) : Bool :=
  let offs := (List.range n).map (fun i => off / 4 * 4 + 4 * i)
  wBar2 || (!bar2 && offs.any (fun a => a / 0x10000 = wOff / 0x10000 || (aliasOf a).1 = rPROOF (originCode o)))

/-- Whether a read of an origin, of cycle t and number no, waits behind earlier accesses (R475, R481). -/
def readWaits (s : State) (o : Origin) (bar2 : Bool) (off n t no : Nat) : Bool :=
  (carried s o).any (fun c => c.no < no && standsBefore o bar2 off n c.bar2 c.off)
    || (o = .pcie && s.bridge.waiting.any (fun w => w.no < no && standsBefore o bar2 off n w.bar2 w.off))
    || arbiterWaits s o t

/-- What a read of a register returns to an origin; one of a line on which an AtomicOp has acted in this cycle comes after it (R475, R512). -/
def busWord (s : State) (o : Origin) (off : Nat) : Word :=
  if lineHeld s o false off then regRead s (aliasOf off).1 else (busRead s o off).getD 0

/-- What the words of a read hold, or the failure: 1 unmapped, 2 before a line that another origin holds, 3 with an uncorrectable error (R473, R476). -/
def readWords (s : State) (o : Origin) (bar2 : Bool) (off n : Nat) : Nat × Rec :=
  let offs := (List.range n).map (fun i => off / 4 * 4 + 4 * i)
  if offs.any (fun a => if bar2 then !bar2Mapped a else (busRead s o a).isNone) then (1, [])
  else if wordsLocked s o bar2 off n then (2, [])
  else
    let ws := offs.map (fun a => if bar2 then memWord s a else busWord s o a)
    (if bar2 && offs.any (fun a => s.sys.test.badMem.contains (a / 4)) then 3 else 0, ws)

/-- A read waits, for 20 µs at most (R476). -/
def readQueued (spi bar2 : Bool) (off n : Nat) (s : State) : State :=
  giveWayTo (s.time.now + 20000) .readsEnd
    { s with bridge := { s.bridge with reads := s.bridge.reads ++ [⟨s.time.now, spi, bar2, off, n, s.bridge.issued⟩], issued := s.bridge.issued + 1 } }

/-- A PCIe read is served, or waits behind earlier writes or before a line (R473 to R476, R482). -/
def pcieReads (bar off n : Nat) (s : State) : State :=
  if !s.bridge.up || (bar ≠ 0 && bar ≠ 2) then s
  else if s.bridge.pci.d3 then complete 1 [] s
  else
    let r := readWords s .pcie (bar = 2) off n
    if readWaits s .pcie (bar = 2) off n s.time.now s.bridge.issued || r.1 = 2 then readQueued false (bar = 2) off n s else complete r.1 r.2 s

/-- A PCIe write arrives: a write of BAR0 by registers, one of BAR2 whole (R473, R477). -/
def pcieWrites (requester bar off : Nat) (data : List (Word × Nat)) (s : State) : State :=
  let c := fun (off : Nat) (l : List (Word × Nat)) =>
    ({ arrival := s.time.now, bar2 := bar = 2, off := off, data := l.map (·.1), sizeBad := l.any (fun e => e.2 % 16 ≠ 15), tag := requester % 65536 } : Carried)
  if !hostLink s || data = [] then s
  else if bar = 0 then carryOn .pcie (data.zipIdx.map (fun e => c (off + 4 * e.2) [e.1])) s
  else if bar = 2 then carryOn .pcie [c off data] s
  else s

/-! ### Atomics (R483) -/

/-- The result of an AtomicOp on a value of n bits. -/
def atomicResult (op : AtomicOp) (n old x y : Nat) : Nat :=
  match op with
  | .fetchAdd => (old + x) % 2 ^ n
  | .swap => x % 2 ^ n
  | .cas => if old = x % 2 ^ n then y % 2 ^ n else old

/-- Whether an AtomicOp may name a word. -/
def atomicTarget (s : State) (bar2 : Bool) (a : Nat) : Bool :=
  if bar2 then (bar2Refuses s .pcie a).isNone
  else match regFields (aliasOf a).1 with
    | some fs => (aliasOf a).2 = .direct && fs.all (fun f => f.acc = .rw)
    | none => false

/-- The words of an AtomicOp, written one after the other; none when a register refuses. -/
def atomicStore (bar2 : Bool) : Nat → Rec → State → Option State
  | _, [], s => some s
  | a, w :: r, s =>
    if bar2 then atomicStore bar2 (a + 4) r (bar2Store a [w] s)
    else match regWrite .pcie a w s with
      | .ok s1 => atomicStore bar2 (a + 4) r (writeRecord .pcie false a w s1)
      | .error _ => none

/-- An AtomicOp whose line is free reads, computes, writes and answers. -/
def atomicActs (op : AtomicOp) (wide bar2 : Bool) (off x y : Nat) (s : State) : State :=
  let n := if wide then 2 else 1
  let offs := (List.range n).map (fun i => off + 4 * i)
  if offs.any (fun a => if bar2 then !bar2Mapped a else (busRead s .pcie a).isNone) then complete 1 [] s
  else if off % (4 * n) ≠ 0 || !offs.all (atomicTarget s bar2) || (bar2 && offs.any (fun a => s.sys.test.badMem.contains (a / 4))) then complete 2 [] s
  else
    let old := offs.map (fun a => if bar2 then memWord s a else regRead s a)
    let val := (rw old 0).toNat + (if wide then (rw old 1).toNat * 2 ^ 32 else 0)
    let new := atomicResult op (32 * n) val x y
    match atomicStore bar2 off (if wide then [word new, word (new / 2 ^ 32)] else [word new]) s with
    | some s1 => complete 0 old (match freeSem s1 with
      | some i => setSem i (some ⟨.pcie, false, bar2, off / 64 % 2 ^ 18, s.time.now⟩) s1
      | none => s1)
    | none => complete 2 [] s

/-- Whether an AtomicOp of cycle t and number no waits: behind earlier PCIe writes or accesses of other origins, for a line, or for a semaphore. -/
def atomicWaits (s : State) (wide bar2 : Bool) (off t no : Nat) : Bool :=
  s.bridge.carry0.any (fun c => c.no < no) || atomicBlocked s wide bar2 off || arbiterWaits s .pcie t

/-- An AtomicOp arrives. -/
def atomicArrives (op : AtomicOp) (wide : Bool) (bar off x y : Nat) (s : State) : State :=
  if !s.bridge.up || (bar ≠ 0 && bar ≠ 2) then s
  else if s.bridge.pci.d3 then complete 1 [] s
  else if s.bridge.waiting ≠ [] || atomicWaits s wide (bar = 2) off s.time.now s.bridge.issued then
    { s with bridge := { s.bridge with waiting := s.bridge.waiting ++ [⟨s.time.now, op, wide, bar = 2, off, x, y, s.bridge.issued⟩], issued := s.bridge.issued + 1 } }
  else atomicActs op wide (bar = 2) off x y s

/-- The AtomicOps that need wait no longer act, in order. -/
def retryAtomics : Nat → State → State
  | 0, s => s
  | n + 1, s =>
    match s.bridge.waiting with
    | [] => s
    | w :: r =>
      if atomicWaits s w.wide w.bar2 w.off w.since w.no then s
      else retryAtomics n (atomicActs w.op w.wide w.bar2 w.off w.x w.y { s with bridge := { s.bridge with waiting := r } })

/-- The reads that need wait no longer are served; one that has waited 20 µs ends as CA or ABORT (R475, R476). -/
def retryReads : List WaitRead → State → State
  | [], s => s
  | w :: r, s =>
    let x := readWords s w.origin w.bar2 w.off w.words
    let serve := fun (x : Nat × Rec) => if w.spi then spiServes x w.words s else complete x.1 x.2 s
    if w.since + 20000 ≤ s.time.now then retryReads r (serve (2, []))
    else if readWaits s w.origin w.bar2 w.off w.words w.since w.no || x.1 = 2 then retryReads r { s with bridge := { s.bridge with reads := s.bridge.reads ++ [w] } }
    else retryReads r (serve x)

/-- The messages for rings whose lines are free land, in order (R482, R485). -/
def retryRings : List RingWait → State → State
  | [], s => s
  | w :: r, s =>
    if s.bridge.ringWaits.any (fun x => x.ring = w.ring) || ringLocked s w.origin w.ring (ringOf s w.ring).prod w.words.length then
      retryRings r { s with bridge := { s.bridge with ringWaits := s.bridge.ringWaits ++ [w] } }
    else retryRings r (match w.ring with | .rsp m => landMessage m w.words s | id => ringLand id w.words s)

/-- A line has become free, or a write has ended. -/
def bridgeFreed (s0 : State) : State :=
  let s := retryRings s0.bridge.ringWaits { s0 with bridge := { s0.bridge with ringWaits := [] } }
  let s1 := retryAtomics s.bridge.waiting.length s
  retryReads s1.bridge.reads { s1 with bridge := { s1.bridge with reads := [] } }

/-- An AtomicOp has waited 20 µs (R483). -/
def atomicTimesOut (s : State) : State :=
  match s.bridge.waiting with
  | [] => s
  | w :: r => if w.since + 20000 ≤ s.time.now then bridgeFreed (complete 2 [] { s with bridge := { s.bridge with waiting := r } }) else s

/-! ### Carriage (R475 to R478) -/

/-- The state that a write would leave, where it can take effect. -/
def maybeLands (o : Origin) (c : Carried) (s : State) : State :=
  if c.bar2 then (match bar2Write o c.off c.data c.sizeBad s with | .ok s1 => s1 | .error _ => s)
  else match regWrite o c.off (rw c.data 0) s with | .ok s1 => if c.sizeBad then s else s1 | .error _ => s

/-- A write that has not ended within 20 µs fails, and whether it has taken effect is free (R478). -/
def writeTooLate (o : Origin) (c : Carried) (s : State) : State :=
  let v := freeVal s
  writeFails o c c.off (rw c.data 0) cTIMEOUT (if v.1.getLsbD 0 then maybeLands o c v.2 else v.2)

/-- The oldest write of an origin takes effect or fails; before a line that another origin holds, it waits. One that has not ended within 20 µs fails
(R477). -/
def carriageEnds (o : Origin) (ecc : Bool) (s : State) : State :=
  match carried s o with
  | [] => s
  | c :: r =>
    if writeWaits s o c then s
    else
      let s1 := setCarried o r s
      if c.arrival + 20000 < s.time.now then bridgeFreed (writeTooLate o c s1)
      else bridgeFreed (if ecc then writeFails o c c.off (rw c.data 0) cECC s1 else landWrite o c s1)

/-- The oldest write of an origin has not ended within 20 µs: it fails, and whether it has taken effect is free (R478). -/
def writeTimesOut (o : Origin) (s : State) : State :=
  match carried s o with
  | [] => s
  | c :: r =>
    if s.time.now < c.arrival + 20000 then s
    else
      bridgeFreed (writeTooLate o c (setCarried o r s))

/-! ### SPI (R484, R495, R496) -/

/-- The header of a frame: operation, words, ADDR; none when it is cut or its CRC fails. -/
def spiHeader (b : Bytes) : Option (Nat × Nat × Nat) :=
  if b.length < 6 || spiCrc (b.take 5) ≠ byteAt b 5 then none else some (byteAt b 0 / 64, byteAt b 0 % 64 + 1, beAt b 1 4)

def spiBar2 (addr : Nat) : Bool := addr.testBit 31
def spiOff (addr : Nat) : Nat := addr % 2 ^ 24
def spiAlign (addr : Nat) : Bool := addr / 2 ^ 24 % 128 ≠ 0 || addr % 4 ≠ 0

/-- An SPI read is served, or waits (R475, R482). -/
def spiServesOrWaits (bar2 : Bool) (off n : Nat) (s : State) : State :=
  let r := readWords s .spi bar2 off n
  if readWaits s .spi bar2 off n s.time.now s.bridge.issued || r.1 = 2 then readQueued true bar2 off n s else spiServes r n s

/-- A read frame. -/
def spiReads (b : Bytes) (s : State) : State :=
  match spiHeader b with
  | none => miso [0xFF] s
  | some (op, n, addr) =>
    let off := spiOff addr
    let bar2 := spiBar2 addr
    let fails := fun (st : Nat) => miso (spiReadBytes st (List.replicate n 0)) s
    if op ≠ 0 then s
    else if regBit s rBRG_CTRL 25 then fails 8
    else if spiAlign addr then fails 3
    else spiServesOrWaits bar2 off n s

/-- 100 µs after the lock (R484, R502). -/
def spiLockExpires (s : State) : State :=
  match spiSem s with
  | none => s
  | some i =>
    match tget none s.bridge.sems i with
    | some x => if x.since + 100000 ≤ s.time.now then bridgeFreed (systemEvent 7 0x02 (setSem i none { s with bridge := { s.bridge with lockLost := true } })) else s
    | none => s

/-- The common part of write, lock and unlock frames: header, count, SPI_LOCK, the lock-lost indication, alignment; then k. -/
def spiAct (b : Bytes) (wanted : Nat) (k : Nat → Nat → State → State) (s : State) : State :=
  match spiHeader b with
  | none => miso [0xFF] s
  | some (op, n, addr) =>
    if op ≠ wanted then s
    else
      let s1 := count rSPI_CNT 31 0 (spiLockExpires s)
      if wanted = 1 && b.length < 6 + 4 * n + 1 then miso [0xFF] s1
      else if regBit s1 rBRG_CTRL 25 then spiAnswer 8 s1
      else if s1.bridge.lockLost then spiAnswer 7 { s1 with bridge := { s1.bridge with lockLost := false } }
      else if spiAlign addr then spiAnswer 3 s1
      else k n addr s1

/-- A write frame: its words are carried when the CRC over them checks. -/
def spiWrites (b : Bytes) (s : State) : State :=
  spiAct b 1 (fun n addr s =>
    let data := (b.drop 6).take (4 * n)
    if spiCrc data ≠ byteAt b (6 + 4 * n) then spiAnswer 2 s
    else
      let l := (bytesRec data).zipIdx.map (fun e =>
        ({ arrival := s.time.now, bar2 := spiBar2 addr, off := spiOff addr + 4 * e.2, data := [e.1], tag := tagOf s .spi } : Carried))
      spiAnswer 0 (carryOn .spi l s)) s

/-- A lock frame: it is decided at the end of the cycle (R484, R503). -/
def spiLocks (b : Bytes) (s : State) : State := spiAct b 2 (fun _ addr s => giveWay (.spiLock (spiBar2 addr) (spiOff addr)) s) s

/-- An unlock frame. -/
def spiUnlocks (b : Bytes) (s : State) : State :=
  spiAct b 3 (fun _ _ s =>
    match spiSem s with
    | some i => bridgeFreed (spiAnswer 0 (setSem i none s))
    | none => spiAnswer 0 s) s

/-! ### Sources (R487 to R491) -/

/-- The level of INT_Nk: true is high (R489). -/
def intN (s : State) (k : Nat) : Bool :=
  !(List.range 52).any (fun i => regFld s (rSOURCE i 0) 20 19 = k && regBit s (rSOURCE i 0) 18 && sourcePending s i)

/-- A source sends its message, when it may; a masked vector keeps it pending (R487, R488). -/
def sendMessage (i : Nat) (s : State) : State :=
  let x := intSource s i
  let held := match x.last with | some a => decide (s.time.now < a + regFld s (rSOURCE i 0x18) 15 0) | none => false
  if 52 ≤ i || !hostLink s || !s.bridge.pci.msixOn || !regBit s (rSOURCE i 0) 26 || !sourcePending s i || !x.armed || held then s
  else
    let v := regFld s (rSOURCE i 0) 25 21
    let s1 := setSourceInt i { x with armed := false, last := some s.time.now } s
    if s.bridge.pci.fnMask || bit (msixWord s (4 * v + 3)) 0 then { s1 with bridge := { s1.bridge with held := tset [] s1.bridge.held v (tget [] s1.bridge.held v ++ [i]) } }
    else emit (.msix s.time.now i v) s1

/-- Words written by DMA into a mirror of a size, at a count of bytes. -/
def mirrorWords (base size : Nat) : Nat → Rec → State → State
  | _, [], s => s
  | n, w :: r, s => mirrorWords base size (n + 4) r (emit (.dma s.time.now (base + n % size) (leBytes w)) s)

/-- The copier writes the next whole packet of a source into its mirror, then the count (R490). -/
def copyPacket (i : Nat) (s : State) : State :=
  match sourceRing i with
  | none => s
  | some id =>
    let r := ringOf s id
    match r.ends with
    | [] => s
    | e :: _ =>
      let n := ringDiff id e r.cons * ringSlotWords id
      let x := intSource s i
      let size := 2 ^ (12 + regFld s (rSOURCE i 0) 30 27)
      let used := (x.copied + 2 ^ 32 - (regGet s (rSOURCE i 0x14)).toNat) % 2 ^ 32
      if !mirrored s i || !hostLink s || size < used + 4 * n then s
      else
        let c := (x.copied + 4 * n) % 2 ^ 32
        let s1 := mirrorWords (cat64 (regGet s (rSOURCE i 0x08)) (regGet s (rSOURCE i 0x04))) size x.copied (ringWords s id r.cons n) s
        let s2 := emit (.dma s.time.now (cat64 (regGet s (rSOURCE i 0x10)) (regGet s (rSOURCE i 0x0C))) (leBytes (word c))) s1
        setSourceInt i { x with copied := c } (ringConsume id e s2)

/-- A DMA write of a mirror fails (R491, R502). -/
def mirrorFails (i : Nat) (s : State) : State := if mirrored s i then systemEvent 7 0x03 (regTake (rSOURCE i 0) 31 0 s) else s

/-! ### The host port (R493, R494) -/

/-- A ring of descriptors: its descriptors and its base. -/
def descCount (s : State) (cfg : Nat) : Nat := 2 ^ regFld s cfg 30 27
def descBase (s : State) (lo hi : Nat) : Nat := cat64 (regGet s hi) (regGet s lo)

/-- A DMA failure of the host port: EN of the ring is cleared, and the bridge event raised (R494). -/
def hpFails (cfg : Nat) (s : State) : State := systemEvent 7 0x03 (hostPortFollows s (regTake cfg 31 0 s))

/-- The status of a transmit descriptor. -/
def txDescStatus (d : Rec) (dmaOk : Bool) : Nat :=
  let dest := (rw d 1).toNat
  if fld d 0 15 0 ≠ 0 then 4
  else if flag d 0 17 && (dest.testBit 28 || dest.testBit 31) then 2
  else if fld d 0 31 18 < 60 || 9212 < fld d 0 31 18 then 1
  else if !dmaOk then 3 else 0

/-- A transmit descriptor is read and done (R493); under the pace of port 28 it waits in its ring (R148). -/
def hpTransmit (d : Rec) (frame : Bytes) (dmaOk : Bool) (s : State) : State :=
  let n := descCount s (rHP_TX 0x08)
  let h := s.bridge.txHead
  if !hostLink s || !regBit s (rHP_TX 0x08) 31 || h = (regGet s (rHP_TX 0x0C)).toNat || s.time.now < paceNext s 28 then s
  else
    let st := txDescStatus d dmaOk
    let len := fld d 0 31 18
    let b := (frame ++ List.replicate (len - frame.length) 0).take len
    let s1 := if st = 0 then
        injectFrame { port := 28, bytes := withFcs b, directed := if flag d 0 17 then some (rw d 1).toNat else none
                      launch := if flag d 0 16 then some (rw d 2).toNat else none } s
      else s
    let back : Rec := [packW [(1, 1), (7, st), (24, 0)], if st = 0 then word s.time.now else 0]
    let s2 := emit (.dma s.time.now (descBase s (rHP_TX 0x00) (rHP_TX 0x04) + 32 * h + 24) (back.flatMap leBytes)) s1
    let s3 := { s2 with bridge := { s2.bridge with txHead := (h + 1) % n, txDone := s2.bridge.txDone + 1 } }
    if st = 3 then hpFails (rHP_TX 0x08) s3 else s3

/-- A frame that leaves port 28 is written to the buffer of a receive descriptor (R494). -/
def hpReceive (d : Rec) (dmaOk : Bool) (s : State) : State :=
  let h := s.bridge.rxHead
  if !portUp s 28 || s.bridge.pci.d3 || h = (regGet s (rHP_RX 0x0C)).toNat then s
  else
    let s1 := txStart 28 s
    match (egressOf s1 28).sending with
    | none => s1
    | some x =>
      let b := repBytes s 28 x.rep
      let room := fld d 0 31 18
      let st := if !dmaOk then 3 else if room < b.length then 5 else 0
      let f := frameOf s x.rep.frame
      let hand := f.bind (·.handle)
      let stamp := match f with | some f => stampNs f.stamp | none => x.rep.admitted
      let s2 := if dmaOk then emit (.dma s.time.now (cat64 (rw d 4) (rw d 5)) (b.take room)) s1 else s1
      let back : Rec := [packW [(1, b2n hand.isSome), (19, 0), (12, hand.getD 0)]] ++ split64 stamp
      let a := descBase s (rHP_RX 0x00) (rHP_RX 0x04) + 32 * h
      let s3 := emit (.dma s.time.now (a + 24) (leBytes (packW [(1, 1), (7, st), (5, x.rep.inPort), (3, x.cls), (2, 0), (14, b.length)])))
        (emit (.dma s.time.now (a + 4) (back.flatMap leBytes)) s2)
      let s4 := txEnd 28 { s3 with bridge := { s3.bridge with rxHead := (h + 1) % descCount s (rHP_RX 0x08), rxDone := s3.bridge.rxDone + 1 } }
      if dmaOk then s4 else hpFails (rHP_RX 0x08) s4

/-! ### In-band frames (R497 to R499) -/

/-- A frame to a mailbox is dropped and counted in a field of IB_ERR. -/
def inbandDrop (hi : Nat) (s : State) : State := systemEvent 7 0x04 (count rIB_ERR hi (hi - 7) s)

/-- The CMAC of an in-band frame, a request of requester 3 under the slot of its mailbox (R401, R498); none when the request is refused or fails. -/
def inbandMac (m : Nat) (msg : Bytes) (s : State) : Option Bytes × State :=
  let slot := regFld s (rIB_CFG m) 30 23
  let r := requestNow { requester := 3, op := .cmac, slot := slot } s
  (if r.1 then some (cmac (slotSeen s slot).key msg) else none, r.2)

/-- The VID of the frame that leaves through port 29 now, which one delivered without a C-tag no longer carries (R499). -/
def deliveredVid (s : State) : Nat :=
  match (egressOf s 29).sending with
  | some t => match frameOf s t.rep.frame with | some f => f.vid | none => 0
  | none => 0

/-- An in-band frame has been delivered to port 29. b: from the DA, without FCS. -/
def inbandArrives (b : Bytes) (s0 : State) : State :=
  let tag := beAt b 12 2 = 0x8100
  let p := if tag then 18 else 14
  let w := fun i => beAt b (p + 4 * i) 4
  let m := w 0 / 2 ^ 21 % 8
  let len := w 0 % 65536
  let fresh := w 1 * 2 ^ 32 + w 2
  let x := tget {} s0.bridge.inband m
  let mac := inbandMac m ((b.drop p).take (16 + len)) s0
  let s := mac.2
  if beAt b (p - 2) 2 ≠ 0x88B6 then s0
  else if !inbandOn s0 m || w 0 / 2 ^ 24 ≠ 1 || w 0 / 2 ^ 16 % 32 ≠ 0 || w 3 ≠ 0 || len < 16 || 1400 < len || len % 4 ≠ 0 || b.length ≠ p + 32 + len then
    inbandDrop 15 s0
  else if mac.1 ≠ some (b.drop (p + 16 + len)) then inbandDrop 31 s
  else if fresh ≤ x.rxFresh then inbandDrop 23 s
  else if ringFree s (.req m) < len / 4 then inbandDrop 7 s
  else
    let ws := bytesRec ((b.drop (p + 16)).take len)
    let waits := s.bridge.ringWaits.any (fun w => w.ring = .req m) || ringLocked s .inband (.req m) (ringOf s (.req m)).prod ws.length
    let s1 := if waits then ringQueued .inband (.req m) ws s else ringLand (.req m) ws s
    let x1 : Inband := { x with rxFresh := fresh, replySa := beAt b 6 6, replyVid := if tag then beAt b 14 2 % 4096 else deliveredVid s }
    { s1 with bridge := { s1.bridge with inband := tset {} s1.bridge.inband m x1 } }

/-! ### The link (R633, R637, R683) -/

/-- Registers that a reset of the PCIe function resets: every RING_CFGs, the HP registers, PROOF0 (R637). -/
def functionReg (reg : Nat) : Bool :=
  reg = rPROOF 0 || (blkBRG + 0x2800 ≤ reg && reg < blkBRG + 0x2840) || (match slotOf reg (blkBRG + 0x2000) 0x20 52 with | some (_, d) => d = 0 | none => false)

/-- A reset of the PCIe function. down: the link is down. -/
def functionReset (down : Bool) (s : State) : State :=
  let b := s.bridge
  hostPortDown { s with
    regs := s.regs.filter (fun e => !functionReg e.1)
    bridge := { b with
      proofFirst := tset (0, false) b.proofFirst 0 (0, false), msix := [], held := [], txHead := 0, rxHead := 0, txDone := 0, rxDone := 0
      waiting := [], reads := b.reads.filter (·.spi), up := b.up && !down, rate := if down then 0 else b.rate, width := if down then 0 else b.width, pci := {} } }

/-- The link has trained (R501, R633, R683). -/
def linkTrains (rate width : Nat) (s : State) : State :=
  if !s.sys.pow.pcieRef || rate = 0 || 4 < rate || width = 0 || 2 < width then s
  else { s with bridge := { s.bridge with up := true, rate := rate, width := width } }

/-- The PCIe reference fails (R633). -/
def referenceFails (s : State) : State :=
  if !s.sys.pow.pcieRef then s else systemEvent 15 0x09 (functionReset true (setPow (fun p => { p with pcieRef := false }) s))

/-- 1 ms of clean reference: link training starts (R633). -/
def referenceReturns (s : State) : State := if s.sys.pow.pcieRef then s else systemEvent 15 0x09 (setPow (fun p => { p with pcieRef := true }) s)

end Sys2Proof.Machine
end

