-- ==== Sys2Proof/Machine/BridgeCommands.lean ====
section
/-!
DEFINITION. The commands of the host bridge (R473 to R503, R521, R633, R637, R683).
-/
namespace Sys2Proof.Machine
open Sys2Proof

def execPcieRead (t bar off dwords : Nat) (s : State) : Host.Outcome State Fault Refusal := act t (pcieReads bar off dwords) s

def execPcieWrite (t requester bar off : Nat) (data : List (Word × Nat)) (s : State) : Host.Outcome State Fault Refusal :=
  act t (pcieWrites requester bar off data) s

def execWriteCarriageEnd (t : Nat) (o : Origin) (ecc : Bool) (s : State) : Host.Outcome State Fault Refusal := act t (carriageEnds o ecc) s

def execWriteTimeout (t : Nat) (o : Origin) (s : State) : Host.Outcome State Fault Refusal := act t (writeTimesOut o) s

/-- The fence read of an origin returns, or waits for the origin's earlier writes (R481); a read of the other origins leaves nothing that is seen. -/
def fenceReturns (o : Origin) (s : State) : State :=
  match o with
  | .pcie => pcieReads 0 (rPROOF 0) 1 s
  | .spi => if regBit s rBRG_CTRL 25 then miso (spiReadBytes 8 [0]) s else spiServesOrWaits false (rPROOF 1) 1 s
  | _ => s

def execProofFenceRead (t : Nat) (o : Origin) (s : State) : Host.Outcome State Fault Refusal := act t (fenceReturns o) s

def execPcieAtomic (t : Nat) (op : AtomicOp) (wide : Bool) (bar off x y : Nat) (s : State) : Host.Outcome State Fault Refusal :=
  act t (atomicArrives op wide bar off x y) s

def execAtomicSemaphoreTimeout (t : Nat) (s : State) : Host.Outcome State Fault Refusal := act t atomicTimesOut s

def execSpiReadFrame (t : Nat) (bytes : Bytes) (s : State) : Host.Outcome State Fault Refusal := act t (spiReads bytes) s

def execSpiWriteFrame (t : Nat) (bytes : Bytes) (s : State) : Host.Outcome State Fault Refusal := act t (spiWrites bytes) s

def execSpiLock (t : Nat) (bytes : Bytes) (s : State) : Host.Outcome State Fault Refusal := act t (spiLocks bytes) s

def execSpiUnlock (t : Nat) (bytes : Bytes) (s : State) : Host.Outcome State Fault Refusal := act t (spiUnlocks bytes) s

def execSpiLockTimeout (t : Nat) (s : State) : Host.Outcome State Fault Refusal := act t spiLockExpires s

def execMsixMessage (t source : Nat) (s : State) : Host.Outcome State Fault Refusal := act t (sendMessage source) s

/-- Whether a ring exists (R472, R480). -/
def ringExists : RingId → Bool
  | .req m | .rsp m => m < 8
  | .evq e => e < 8
  | .can n => n < 24
  | .lin n => n < 8
  | .trace | .proof => true

def execRingGapMarker (t : Nat) (ring : RingId) (s : State) : Host.Outcome State Fault Refusal :=
  act t (fun s => if ringExists ring then ringCloseGap ring s else s) s

def execMirrorCopy (t source : Nat) (s : State) : Host.Outcome State Fault Refusal := act t (copyPacket source) s

def execMirrorDmaFail (t source : Nat) (s : State) : Host.Outcome State Fault Refusal := act t (mirrorFails source) s

def execHpTxDescriptor (t : Nat) (desc : Rec) (frame : Bytes) (dmaOk : Bool) (s : State) : Host.Outcome State Fault Refusal :=
  act t (hpTransmit desc frame dmaOk) s

def execHpRxFrameWrite (t : Nat) (desc : Rec) (dmaOk : Bool) (s : State) : Host.Outcome State Fault Refusal := act t (hpReceive desc dmaOk) s

def execInbandFrameRx (t : Nat) (bytes : Bytes) (s : State) : Host.Outcome State Fault Refusal := act t (inbandArrives bytes) s

def execPcieLinkUp (t rate width : Nat) (s : State) : Host.Outcome State Fault Refusal := act t (linkTrains rate width) s

def execPcieFunctionReset (t : Nat) (linkDown : Bool) (s : State) : Host.Outcome State Fault Refusal := act t (functionReset linkDown) s

def execPcieReferenceLost (t : Nat) (s : State) : Host.Outcome State Fault Refusal := act t referenceFails s

def execPcieReferenceReturn (t : Nat) (s : State) : Host.Outcome State Fault Refusal := act t referenceReturns s

end Sys2Proof.Machine
end

