-- ==== Sys2Proof/Machine/FrameCommands.lean ====
section
/-!
DEFINITION. The commands of frames in the switch: reception, pipeline, transmission, ticks, gates, launch instants, stream gates, FRER timers, tracker
and bypass (chapters 5 to 8).
-/
namespace Sys2Proof.Machine

/-! ### Reception and pipeline -/

/-- A part of a frame arrives at an external port without MACsec (R184); a frame starts only while the port is UP (R134). -/
def cellArrives (port : Nat) (bytes : Bytes) (sof : Bool) (eof : Option Bool) (s : State) : State :=
  if 28 ≤ port || (sof && secyOn s port) || !portUp s port then s else rxCell port bytes sof eof s

def execFrameRxCell (t port : Nat) (bytes : Bytes) (sof : Bool) (eof : Option Bool) (s : State) : Host.Outcome State Fault Refusal :=
  act t (fun s => cellArrives port bytes sof eof (ringsGive (boundaryFirst s))) s

/-- GCM pipe 1 decides a whole frame of a port with MACsec, of which the MAC has taken 64 to 9,248 bytes on the line with a good FCS (R94, R190, R191,
R194, R414). bytes: DA through FCS. -/
def verifyFrame (port : Nat) (bytes : Bytes) (rx : RxEnd) (s0 : State) : State :=
  let yr := secyAt s0 port (s0.time.now - rx.held)
  if 28 ≤ port || !flag yr 0 26 || !portUp s0 port then s0
  else
    let x := ingressStamp s0 port rx.held
    let s := plcaHeard port (s0.time.now - rx.held) s0
    if bytes.length < 64 then stage1Drop port 0x01 x bytes s
    else if 9248 < bytes.length then stage1Drop port 0x03 x bytes s
    else if !rx.fcsOk then stage1Drop port 0x02 x bytes s
    else latentOrWait port yr x bytes s

def execMacsecRxVerify (t port : Nat) (bytes : Bytes) (rx : RxEnd) (s : State) : Host.Outcome State Fault Refusal :=
  act t (fun s => verifyFrame port bytes rx (ringsGive (boundaryFirst s))) s

/-- Whether a frame may pass stages 2 to 7: its parser window is in, and the frames of its port before it have passed (R145, R147, R149). -/
def classifiable (s : State) (f : Nat) (v : Frame) : Bool :=
  !v.gone && !v.waits && !v.classified && decide (v.ready ≤ s.time.now) && (v.whole || 256 ≤ v.bytes.length) && !earlierOf s f v.port (fun w => !w.classified && !w.gone)

/-- Whether a frame of a port comes behind one of a higher port that has acted on per-stream functions in this cycle: it then acts in the next cycle, so that
those of one cycle act in ascending order (R241; log entry 115). -/
def outOfTurn (s : State) (port : Nat) : Bool := s.str.acted.1 = s.time.now && decide (port < s.str.acted.2)

/-- A frame of a port has acted on per-stream functions. -/
def acted (port : Nat) (s : State) : State := { s with str := { s.str with acted := (s.time.now, port) } }

def runClassify (f : Nat) (s : State) : State :=
  match frameOf s f with
  | none => s
  | some v =>
    if classifiable s f v then
      let r0 := classify v (refillNow s)
      let r := if r0.1.handle.isSome && outOfTurn s v.port then classify v (refillNow (s.atTime (s.time.now + 1))) else r0
      setFrame f (some r.1) (if r0.1.handle.isSome then acted v.port r.2 else r.2)
    else s

def execFrameClassify (t frame : Nat) (s : State) : Host.Outcome State Fault Refusal := act t (fun s => runClassify frame (ringsGive (boundaryFirst s))) s

/-- Stage 8 acts once the frame is whole and classified, in the order of its port (R145, R147). -/
def runEnqueue (f : Nat) (s : State) : State :=
  match frameOf s f with
  | none => s
  | some v =>
    if v.classified && v.whole && v.refs = 0 && !earlierOf s f v.port (fun w => w.refs = 0 && !w.gone) then
      let s1 := if v.handle.isSome then (let s2 := if outOfTurn s v.port then s.atTime (s.time.now + 1) else s; acted v.port s2) else s
      firstKeepAlives (stage8 f v (refillNow s1))
    else s

def execFrameEnqueue (t frame : Nat) (s : State) : Host.Outcome State Fault Refusal := act t (fun s => runEnqueue frame (boundaryFirst s)) s

/-- Frames of port 28 leave it by HP_RX_FRAME_WRITE. -/
def execFrameTxStart (t port : Nat) (s : State) : Host.Outcome State Fault Refusal :=
  act t (fun s => if port < 31 && port ≠ 28 then txStart port (boundaryFirst s) else s) s

def execFrameTxEnd (t port : Nat) (s : State) : Host.Outcome State Fault Refusal := act t (fun s => txEnd port s) s

/-! ### Ticks -/

def execAgeingSweep (t : Nat) (s : State) : Host.Outcome State Fault Refusal :=
  act t (fun s => if s.fwd.ageing ≠ 0 && s.fwd.sweepAt + s.fwd.ageing * 1000000000 / 3 ≤ s.time.now then
           macSweep { s with fwd := { s.fwd with sweepAt := s.time.now } }
         else s) s

def execRefillTick (t : Nat) (s : State) : Host.Outcome State Fault Refusal := act t (fun s => refillNow s) s

/-! ### Gates and holds -/

def execGateListStart (t port : Nat) (s : State) : Host.Outcome State Fault Refusal := act t (fun s => closeCut port (gateListStart port s)) s

def execGateEntryStart (t port : Nat) (s : State) : Host.Outcome State Fault Refusal := act t (fun s => gateEntryStart port s) s

def execGateStarveDrop (t port cls : Nat) (s : State) : Host.Outcome State Fault Refusal :=
  act t (fun s => if cls < 8 then starveDrop port cls s else s) s

def execMergeHoldAssert (t port : Nat) (s : State) : Host.Outcome State Fault Refusal :=
  act t (fun s => if srGateEn (schedOf s port) && opAhead s port (srHoldAdv (schedOf s port)) = 1 then setHold port true s else s) s

def execMergeHoldRelease (t port : Nat) (s : State) : Host.Outcome State Fault Refusal :=
  act t (fun s => if srGateEn (schedOf s port) && opAhead s port (srReleaseAdv (schedOf s port)) = 2 then setHold port false s else s) s

def execLaunchInstantReached (t port cls : Nat) (s : State) : Host.Outcome State Fault Refusal :=
  act t (fun s => if cls < 8 then launchReached port cls s else s) s

/-! ### Streams -/

/-- A pending stream gate list is due (R249). -/
def sgateListStart (i : Nat) (s : State) : State := sgateListAt i (wtNow s) s

def execStreamGateListStart (t gate : Nat) (s : State) : Host.Outcome State Fault Refusal := act t (fun s => sgateListStart gate s) s

/-- A stream gate entry starts a new occurrence (R251). -/
def sgateEntryStart (i : Nat) (s0 : State) : State :=
  let s := sgateListStart i s0
  let g := sgateOf s i
  let st := (sgateAt s g (wtNow s)).2.2.2.2
  if g.octets.1 = st then s else setSgate i { g with octets := (st, 0) } s

def execStreamGateEntryStart (t gate : Nat) (s : State) : Host.Outcome State Fault Refusal := act t (fun s => sgateEntryStart gate s) s

/-- A recovery function has passed nothing for RESET_MS (R262). -/
def frerReset (i : Nat) (s : State) : State :=
  let v := rcvOf s i
  match v.timer with
  | none => s
  | some st =>
    if flag v.rec0 0 31 && decide (st + fld v.rec0 1 31 16 * 1000000 ≤ s.time.now) then
      streamEvent 0x05 i (setRcv i { v with
        takeAny := true, timer := none, expired := some (s.time.now, v.takeAny), resets := satAdd 32 v.resets 1 } s)
    else s

def execFrerResetTimeout (t fn : Nat) (s : State) : Host.Outcome State Fault Refusal := act t (fun s => frerReset fn s) s

/-- The latent error difference is computed (R265). -/
def latentTest (i : Nat) (s : State) : State :=
  let v := rcvOf s i
  if !(flag v.rec0 0 31 && flag v.rec0 0 26 && decide (v.testAt + fld v.rec0 2 31 16 * 1000000 ≤ s.time.now)) then s
  else
    let e : Int := ((fld v.rec0 0 18 15 : Int) - 1) * v.passedP - v.dupD
    let s1 := setRcv i { v with testAt := s.time.now } s
    if fld v.rec0 1 15 0 < e.natAbs then streamEvent 0x06 i (setRcv i { v with testAt := s.time.now, latent := true, latentAt := some s.time.now } s1) else s1

def execLatentTestTimer (t fn : Nat) (s : State) : Host.Outcome State Fault Refusal := act t (fun s => latentTest fn s) s

def execLatentResetTimer (t fn : Nat) (s : State) : Host.Outcome State Fault Refusal :=
  act t (fun s => let v := rcvOf s fn
         if flag v.rec0 0 31 && flag v.rec0 0 26 && decide (v.resetAt + fld v.rec0 2 15 0 * 1000000 ≤ s.time.now) then
           setRcv fn { v with resetAt := s.time.now, passedP := 0, dupD := 0 } s
         else s) s

/-! ### Firewall timers -/

def execTrackerSweep (t : Nat) (s : State) : Host.Outcome State Fault Refusal :=
  act t (fun s => if s.fw.sweepAt + 1000000000 ≤ s.time.now then trackerSweepAll { s with fw := { s.fw with sweepAt := s.time.now } } else s) s

def execBypassExpiry (t src dst : Nat) (s : State) : Host.Outcome State Fault Refusal :=
  act t (fun s => if s.fw.bypass.any (fun b => b.1 = src && b.2.1 = dst && decide (b.2.2 ≤ s.time.now)) then endBypass src dst s else s) s

end Sys2Proof.Machine
end

