-- ==== Sys2Proof/Machine/GwCommands.lean ====
section
/-!
DEFINITION. The commands of the CAN and LIN buses and of the gateway engine (chapter 9).
-/
namespace Sys2Proof.Machine

def execCanFrameValid (t bus : Nat) (f : CanFrame) (sof : Nat) (s : State) : Host.Outcome State Fault Refusal :=
  act t (fun s => if bus < 24 then canRx bus f sof s else s) s

def execTunnelFlushDeadline (t tunnel : Nat) (s : State) : Host.Outcome State Fault Refusal :=
  act t (fun s => if (tunnelOf s tunnel).n ≠ 0 && decide ((tunnelOf s tunnel).deadline ≤ wtNow s) then flushTunnel tunnel s else s) s

def execAcfFrameRx (t : Nat) (bytes : Bytes) (s : State) : Host.Outcome State Fault Refusal := act t (fun s => acfRx bytes (boundaryFirst s)) s

def execCanTxStart (t bus : Nat) (s : State) : Host.Outcome State Fault Refusal :=
  act t (fun s => if bus < 24 then canTxStart bus s else s) s

def execCanTxComplete (t bus : Nat) (s : State) : Host.Outcome State Fault Refusal :=
  act t (fun s => if bus < 24 then canTxDone bus s else s) s

def execCanTxError (t bus : Nat) (k : CanErr) (s : State) : Host.Outcome State Fault Refusal :=
  act t (fun s => if bus < 24 then canTxFailed bus k s else s) s

def execCanRxError (t bus : Nat) (k : CanErr) (s : State) : Host.Outcome State Fault Refusal :=
  act t (fun s => if bus < 24 then canRxFailed bus k s else s) s

def execCanBoDelayExpiry (t bus : Nat) (s : State) : Host.Outcome State Fault Refusal :=
  act t (fun s => match (canOf s bus).boEnd with
         | some e => if e ≤ s.time.now then setCan bus { canOf s bus with boEnd := none, recovering := true } s else s
         | none => s) s

def execCanBusOffRecovered (t bus : Nat) (s : State) : Host.Outcome State Fault Refusal := act t (fun s => busOffEnds bus s) s

def execCanMaxAgeExpiry (t bus slot : Nat) (s : State) : Host.Outcome State Fault Refusal := act t (fun s => giveWay (.slotStale bus slot) s) s

def execCanControllerApply (t bus : Nat) (s : State) : Host.Outcome State Fault Refusal := act t (fun s => canApply bus s) s

def execCanIntegrationDone (t bus : Nat) (s : State) : Host.Outcome State Fault Refusal :=
  act t (fun s => if bus < 24 then canIntegrated bus s else s) s

def execLinSlotStart (t bus : Nat) (recessive : Bool) (s : State) : Host.Outcome State Fault Refusal :=
  act t (fun s => if bus < 8 then linSlotStart bus recessive s else s) s

def execLinSlotEnd (t bus outcome : Nat) (data : Bytes) (s : State) : Host.Outcome State Fault Refusal :=
  act t (fun s => if bus < 8 then linSlotEnd bus outcome data (boundaryFirst s) else s) s

end Sys2Proof.Machine
end

