-- ==== Sys2Proof/Machine/RegCommands.lean ====
section
/-!
DEFINITION. The writes of registers by name (R63, R67, R72, R74, R297, R363, R384, R486, R488, R492, R498, R501, R506, R510, R519, R525, R544, R638, R639,
R658). Each is a write of the register through one of its aliases, whatever other fields the value sets.
-/
namespace Sys2Proof.Machine
open Sys2Proof

/-- A write of a register at core cycle t; one of an object that does not exist has no register. -/
def regRow (t : Nat) (ok : Bool) (reg : Nat) (o : Origin) (a : Alias) (v : Word) (s : State) : Host.Outcome State Fault Refusal :=
  act t (fun s => if ok then hostWrite o (aliasOff reg a) v s else s) s

/-! ### Time, Crocus, locks, resets, JTAG -/

def execTimeCapGo (t : Nat) (o : Origin) (a : Alias) (v : Word) (s : State) : Host.Outcome State Fault Refusal := regRow t true rCAP_CTRL o a v s

def execTioArm (t pin : Nat) (o : Origin) (a : Alias) (v : Word) (s : State) : Host.Outcome State Fault Refusal := regRow t (pin < 32) (rTIO pin 0) o a v s

def execTioDisarm (t pin : Nat) (o : Origin) (a : Alias) (v : Word) (s : State) : Host.Outcome State Fault Refusal := regRow t (pin < 32) (rTIO pin 0) o a v s

def execTioModeWrite (t pin : Nat) (o : Origin) (a : Alias) (v : Word) (s : State) : Host.Outcome State Fault Refusal :=
  regRow t (pin < 32) (rTIO pin 0) o a v s

def execCrocusGo (t : Nat) (o : Origin) (a : Alias) (v : Word) (s : State) : Host.Outcome State Fault Refusal := regRow t true (rCROCUS 0) o a v s

def execCrocusIgnHint (t : Nat) (o : Origin) (a : Alias) (v : Word) (s : State) : Host.Outcome State Fault Refusal := regRow t true (rCROCUS 0) o a v s

def execSysGo (t : Nat) (o : Origin) (a : Alias) (v : Word) (s : State) : Host.Outcome State Fault Refusal := regRow t true rRST_CTRL o a v s

def execCtrlGo (t : Nat) (o : Origin) (a : Alias) (v : Word) (s : State) : Host.Outcome State Fault Refusal := regRow t true rRST_CTRL o a v s

def execJtagUnlockGo (t : Nat) (o : Origin) (a : Alias) (v : Word) (s : State) : Host.Outcome State Fault Refusal := regRow t true rJTAG_CTRL o a v s

def execSysRegLockWrite (t : Nat) (o : Origin) (a : Alias) (v : Word) (s : State) : Host.Outcome State Fault Refusal := regRow t true rREG_LOCK o a v s

def execBypassLockSet (t : Nat) (o : Origin) (a : Alias) (v : Word) (s : State) : Host.Outcome State Fault Refusal := regRow t true rFW_STAT o a v s

def execSpiLockSet (t : Nat) (o : Origin) (a : Alias) (v : Word) (s : State) : Host.Outcome State Fault Refusal := regRow t true rBRG_CTRL o a v s

def execIbLockSet (t : Nat) (o : Origin) (a : Alias) (v : Word) (s : State) : Host.Outcome State Fault Refusal := regRow t true rBRG_CTRL o a v s

/-! ### Mailboxes, rings and sources -/

def execMbxDoorbell (t m : Nat) (o : Origin) (a : Alias) (v : Word) (s : State) : Host.Outcome State Fault Refusal := regRow t (m < 8) (rMBX m 0x04) o a v s

def execMbxRingReset (t m : Nat) (o : Origin) (a : Alias) (v : Word) (s : State) : Host.Outcome State Fault Refusal := regRow t (m < 8) (rMBX m 0x00) o a v s

def execMbxRspConsWrite (t m : Nat) (o : Origin) (a : Alias) (v : Word) (s : State) : Host.Outcome State Fault Refusal :=
  regRow t (m < 8) (rMBX m 0x08) o a v s

def execEvqConsWrite (t e : Nat) (o : Origin) (a : Alias) (v : Word) (s : State) : Host.Outcome State Fault Refusal := regRow t (e < 8) (rEVQ e 0x00) o a v s

def execRingPtrConsWrite (t source : Nat) (o : Origin) (a : Alias) (v : Word) (s : State) : Host.Outcome State Fault Refusal :=
  regRow t (16 ≤ source && source < 49) (rSOURCE source 0x1C) o a v s

def execProofPtrConsWrite (t : Nat) (o : Origin) (a : Alias) (v : Word) (s : State) : Host.Outcome State Fault Refusal := regRow t true rPROOF_PTR o a v s

def execMirConsWrite (t source : Nat) (o : Origin) (a : Alias) (v : Word) (s : State) : Host.Outcome State Fault Refusal :=
  regRow t (source < 52) (rSOURCE source 0x14) o a v s

def execRingCfgWrite (t source : Nat) (o : Origin) (a : Alias) (v : Word) (s : State) : Host.Outcome State Fault Refusal :=
  regRow t (source < 52) (rSOURCE source 0x00) o a v s

def execIbCfgWrite (t m : Nat) (o : Origin) (a : Alias) (v : Word) (s : State) : Host.Outcome State Fault Refusal := regRow t (m < 8) (rIB_CFG m) o a v s

def execHpTxTailWrite (t : Nat) (o : Origin) (a : Alias) (v : Word) (s : State) : Host.Outcome State Fault Refusal := regRow t true (rHP_TX 0x0C) o a v s

def execHpRxTailWrite (t : Nat) (o : Origin) (a : Alias) (v : Word) (s : State) : Host.Outcome State Fault Refusal := regRow t true (rHP_RX 0x0C) o a v s

/-- A write of any register at a byte offset, alias included (R506). -/
def execRegisterWrite (t : Nat) (o : Origin) (off : Nat) (v : Word) (s : State) : Host.Outcome State Fault Refusal := act t (fun s => hostWrite o off v s) s

/-- The chip select of the SPI port falls: a capture that waits for it completes; in standby it is wake source 31 (R63, R358, R474). -/
def chipSelectFalls (s : State) : State := if s.nm.asleep.isSome then qualify 31 s else if coreOn s then captureOn 1 s else s

def execSpiChipSelectFall (t : Nat) (s : State) : Host.Outcome State Fault Refusal := actAlways t chipSelectFalls s

end Sys2Proof.Machine
end

