-- ==== Sys2Proof/Machine/MbxCommands.lean ====
section
/-!
DEFINITION. The firmware takes requests from the rings and posts notices (R526, R527, R529 to R546).
-/
namespace Sys2Proof.Machine
open Sys2Proof

/-- What serves an opcode but HELLO (R564 to R578). -/
def handlerOf (op : Nat) : Option Handler :=
  match op with
  | 0x0D01 => some fwStat
  | 0x0D02 => some fwLoad
  | 0x0D03 => some fwActivatePut
  | 0x0D04 => some fwCommitPut
  | 0x0D05 => some fwSettingsPut
  | 0x0D06 => some fwSettingsGet
  | 0x0D07 => some fwLifecyclePut
  | _ => match op / 256 with
    | 1 => handlerSys op
    | 2 => handlerTime op
    | 3 => handlerSched op
    | 4 => handlerStream op
    | 5 => handlerFilt op
    | 6 => handlerGw op
    | 7 => handlerNm op
    | 8 | 9 | 10 => handlerCipher op
    | 11 | 12 | 14 => handlerDark op
    | _ => none

/-- The header word at the consumer pointer of a request ring. -/
def headWord (s : State) (m : Nat) : Word := rw (ringWords s (.req m) (ringOf s (.req m)).cons 1) 0

/-- The words that the firmware sees published in a request ring (R554). -/
def reqDepth (s : State) (m : Nat) : Nat := ringDiff (.req m) (ringShown s (.req m)) (ringOf s (.req m)).cons

/-- Whether a header desynchronises its ring (R543, R653). -/
def badHeader (s : State) (m : Nat) : Bool :=
  let w := headWord s m
  let n := bits w 27 16
  s.sys.test.badRing.contains m || bits w 31 28 ≠ 1 || n < 4 || 2048 < n || reqDepth s m < n

/-- The request that words spell (R529, R545). -/
def requestOf (m : Nat) (ws : Rec) : Req :=
  let auth := flag ws 2 23
  let body := ws.drop 4
  let cut := body.length - 6
  { mbx := m, seq := rw ws 1, verMaj := fld ws 2 31 28, verMin := fld ws 2 27 24, clear := flag ws 2 22, staged := flag ws 2 19, replay := flag ws 2 20
    auth := if auth then some (if body.length < 6 then ⟨0, []⟩ else ⟨cat64 (rw body cut) (rw body (cut + 1)), body.drop (cut + 2)⟩) else none
    ident := rw ws 3, args := if auth then body.take cut else body }

/-- Whether the request at the consumer pointer waits in its ring for the start's tests of the bulk engine (R420): a ring that is to be discarded or
desynchronised does not wait. -/
def headWaits (s : State) (m : Nat) : Bool :=
  let ws := ringWords s (.req m) (ringOf s (.req m)).cons (bits (headWord s m) 27 16)
  let op := fld ws 0 15 0
  (boxOf s m).state ≠ 2 && !badHeader s m && op ≠ 0x0100 && testsWait op (requestOf m ws) s

/-- Whether a mailbox has a request that the firmware may take (R420, R482, R526, R538, R541, R543, R621). -/
def ready (s : State) (m : Nat) : Bool :=
  let b := boxOf s m
  decide (0 < reqDepth s m) && !ringLocked s .core (.req m) b.req.cons (bits (headWord s m) 27 16) && !safelightShut s m && !headWaits s m
    && (b.state = 2 || (2048 ≤ ringFree s (.rsp m) && (b.deferred.isNone || bits (headWord s m) 15 0 = 0x0100)))

/-- Everything published is discarded. -/
def discardRequests (m : Nat) (s : State) : State := ringConsume (.req m) (ringOf s (.req m)).prod s

/-- A request ring desynchronises (R543). -/
def desync (m : Nat) (s : State) : State :=
  let r := ringOf s (.req m)
  let v := versionOf s m
  let ws := ringWords s (.req m) r.cons 2
  let seq := if 2 ≤ reqDepth s m then rw ws 1 else 0
  let s1 := setBox m { boxOf (discardRequests m s) m with state := 2 } (discardRequests m s)
  let s2 := respond m (bits (rw ws 0) 15 0) seq v.1 v.2 true false 7 [rw ws 0, word r.cons] s1
  systemEventD 10 0x01 m (count (rMBX m 0x10) 31 24 s2)

/-- The meaning of an opcode; header bits that must be 0 refuse a request at word 2 (R529, R555). -/
def meaningOf (op : Nat) (w2 : Word) : Handler :=
  if bits w2 18 0 ≠ 0 then fun _ s => rangeAt 2 s else (handlerOf op).getD (fun _ s => (.done 8 [], s))

/-- The request at the consumer pointer is taken. -/
def takeFrom (m : Nat) (s : State) : State :=
  if (boxOf s m).state = 2 then discardRequests m s
  else if badHeader s m then desync m s
  else
    let r := ringOf s (.req m)
    let n := bits (headWord s m) 27 16
    let ws := ringWords s (.req m) r.cons n
    let op := fld ws 0 15 0
    let s1 := ringConsume (.req m) ((r.cons + n) % ringMod (.req m)) s
    if op = 0x0100 then helloServe (requestOf m ws) s1 else serve op (meaningOf op (rw ws 2)) (requestOf m ws) s1

/-- The firmware takes the next request in round-robin order (R527). -/
def takeNext (s : State) : State :=
  if !serves s then s
  else match ((List.range 8).map (fun i => (s.mbx.turn + i) % 8)).find? (ready s) with
    | none => s
    | some m => takeFrom m { s with mbx := { s.mbx with turn := (m + 1) % 8 } }

def execRequestTake (t : Nat) (s : State) : Host.Outcome State Fault Refusal := act t takeNext s

def execNoticePost (t : Nat) (s : State) : Host.Outcome State Fault Refusal := act t postNotice s

end Sys2Proof.Machine
end

