-- ==== Sys2Proof/Machine/NmCommands.lean ====
section
/-!
DEFINITION. The commands of Crocus and of network management (chapter 10). Those of Crocus act whether the core runs or not.
-/
namespace Sys2Proof.Machine

/-! ### Wake sources and standby -/

def execWakeSourceQualify (t src : Nat) (s : State) : Host.Outcome State Fault Refusal := actAlways t (qualify src) s

/-- The wake timer, source 30, reaches its count (R361). -/
def wakeTimer (s : State) : State :=
  match s.nm.asleep with
  | some (_, start) =>
    let n := (regGet s (rCROCUS 0x04)).toNat
    if n ≠ 0 && decide (start * 32768 + n * 1000000000 ≤ s.time.now * 32768) then qualify 30 s else s
  | none => s

def execWakeTimerExpiry (t : Nat) (s : State) : Host.Outcome State Fault Refusal := actAlways t wakeTimer s

/-- The pin of the source that carries ignition changes (R359, R384). -/
def ignitionPin (active : Bool) (s : State) : State :=
  if !s.nm.source.any (fun e => wsEnabled e.2 && wsIgn e.2) then s else if active then endHint s else giveHint s

def execIgnitionPinChange (t : Nat) (active : Bool) (s : State) : Host.Outcome State Fault Refusal := actAlways t (fun s => ignitionPin active s) s

def execOffenderMinExpiry (t : Nat) (s : State) : Host.Outcome State Fault Refusal :=
  act t (fun s => match s.nm.hint with
    | some h => if !s.nm.logging && decide (h + nmOffenderMin s ≤ s.time.now) then logOffenders s else s
    | none => s) s

/-- The firmware acknowledges its snapshot and resume kernel (R364, R642). -/
def snapshotAck (s : State) : State :=
  match s.nm.entry with
  | some e =>
    if e.step = 2 then
      finishEntry { s with nm := { s.nm with snapshot := true }, sys := { s.sys with fw := { s.sys.fw with kernel := true } } }
    else s
  | none => s

def execStandbySnapshotAck (t : Nat) (s : State) : Host.Outcome State Fault Refusal := act t (completing snapshotAck) s

/-- 20 ms after the boundary of an entry that is not complete (R364). -/
def entryTimeout (s : State) : State :=
  match s.nm.entry with
  | some e =>
    if 1 ≤ e.step && decide (e.since + 20000000 ≤ s.time.now) then
      finishEntry (regPut (rCROCUS 0x08) 29 29 0 { s with nm := { s.nm with snapshot := false } })
    else s
  | none => s

def execStandbyEntryTimeout (t : Nat) (s : State) : Host.Outcome State Fault Refusal := act t (completing entryTimeout) s

/-- The hold of a wake that raced an entry ends (R365). -/
def raceEnds (s : State) : State :=
  match s.nm.raceHold, s.nm.asleep with
  | some h, some (level, _) => if h ≤ s.time.now then riseWakeOut level s else s
  | _, _ => s

def execWakeRaceHoldExpiry (t : Nat) (s : State) : Host.Outcome State Fault Refusal := actAlways t raceEnds s

def execWakeValidationExpiry (t src : Nat) (s : State) : Host.Outcome State Fault Refusal :=
  act t (fun s => windowEnds src s) s

/-- Whether the low-power time counter runs (R356, R383). -/
def lowPowerRuns (s : State) : Bool := match s.nm.asleep with | some (level, _) => level ≠ 0 && s.sys.pow.osc32 | none => true

def execFalseWinExpiry (t src : Nat) (s : State) : Host.Outcome State Fault Refusal :=
  actAlways t (fun s =>
    match (sourceOf s src).winEnd with
    | some e => if lowPowerRuns s && decide (e ≤ s.time.now) then setSource src { sourceOf s src with inWin := 0, winEnd := none } s else s
    | none => s) s

/-- A back-off ends, and its source is no longer masked (R382). -/
def unmask (src : Nat) (s : State) : State :=
  match (sourceOf s src).maskEnd with
  | some e =>
    if lowPowerRuns s && decide (e ≤ s.time.now) then sourceEvent src (regPut (rCROCUS 0x10) src src 0 (setSource src { sourceOf s src with maskEnd := none } s))
    else s
  | none => s

def execBackoffExpiry (t src : Nat) (s : State) : Host.Outcome State Fault Refusal := actAlways t (fun s => if src < 32 then unmask src s else s) s

/-! ### Segments -/

def execNeedTimerExpiry (t seg : Nat) (s : State) : Host.Outcome State Fault Refusal := act t (fun s => if seg < 60 then giveWay (.needEnds seg) s else s) s

def execClusterTimerExpiry (t cluster : Nat) (s : State) : Host.Outcome State Fault Refusal := act t (fun s => giveWay (.clusterEnds cluster) s) s

/-- The prepare-sleep time ends: the segment waits for a boundary (R373). -/
def prepareEnds (i : Nat) (s : State) : State :=
  let g := segOf s i
  match g.prep with
  | some e => if g.state = 1 && decide (e ≤ s.time.now) then setSeg i { g with commit := true } s else s
  | none => s

def execPrepareSleepTimerExpiry (t seg : Nat) (s : State) : Host.Outcome State Fault Refusal := act t (fun s => prepareEnds seg s) s

def execShutdownComplete (t seg : Nat) (s : State) : Host.Outcome State Fault Refusal := act t (fun s => if seg < 60 then shutDown seg s else s) s

def execWakeToExpiry (t seg : Nat) (s : State) : Host.Outcome State Fault Refusal := act t (fun s => giveWay (.wakeLate seg) s) s

def execKeepaliveTxTimer (t seg : Nat) (s : State) : Host.Outcome State Fault Refusal := act t (fun s => if seg < 60 then sendKeepAlive seg s else s) s

end Sys2Proof.Machine
end

