-- ==== Sys2Proof/Machine/PortCommands.lean ====
section
/-!
DEFINITION. The commands of the external ports (chapter 4). A link transition in the cycle of a boundary finds what the boundary applies, OUT_OF_SERVICE with
it (R24, R659).
-/
namespace Sys2Proof.Machine

def execPortLinkUp (t port : Nat) (speed : Option Nat) (s : State) : Host.Outcome State Fault Refusal :=
  act t (fun s => transition port (.up speed) (boundaryFirst s)) s

def execPortLinkLoss (t port : Nat) (s : State) : Host.Outcome State Fault Refusal := act t (fun s => transition port .lost (boundaryFirst s)) s

def execLinkHoldExpiry (t port : Nat) (s : State) : Host.Outcome State Fault Refusal := act t (fun s => holdExpired port (boundaryFirst s)) s

def execSerdesReferenceLost (t : Nat) (groupB : Bool) (s : State) : Host.Outcome State Fault Refusal := act t (fun s => refLost groupB s) s

def execSerdesReferenceReturn (t : Nat) (groupB : Bool) (s : State) : Host.Outcome State Fault Refusal :=
  act t (fun s => let s1 := { s with ports := if groupB then { s.ports with refB := true } else { s.ports with refA := true } }
         (groupPorts groupB).foldl (fun s n => tryUp n s) (if refOk s (if groupB then 4 else 0) then s1 else reloadGroup groupB s1)) s

def execInbandSpeedChange (t port speed : Nat) (s : State) : Host.Outcome State Fault Refusal :=
  act t (fun s => transition port (.speed speed) (boundaryFirst s)) s

def execDlcMeasurementDone (t port : Nat) (rxPos txPos offset : Int) (s : State) : Host.Outcome State Fault Refusal :=
  act t (fun s => dlcDone port rxPos txPos offset s) s

def execPlcaBeaconTx (t port : Nat) (s : State) : Host.Outcome State Fault Refusal := act t (fun s => beaconOut port s) s

def execPlcaBeaconLoss (t port : Nat) (s : State) : Host.Outcome State Fault Refusal := act t (fun s => beaconLost port (boundaryFirst s)) s

def execPlcaBeaconRestored (t port : Nat) (s : State) : Host.Outcome State Fault Refusal := act t (fun s => transition port .beacon (boundaryFirst s)) s

def execMergeVerifyDone (t port : Nat) (s : State) : Host.Outcome State Fault Refusal := act t (fun s => mergeVerified port s) s

def execT1TrainingAttemptFail (t port : Nat) (s : State) : Host.Outcome State Fault Refusal := act t (fun s => trainingFailed port s) s

def execPcsFecError (t port : Nat) (k : PcsErr) (s : State) : Host.Outcome State Fault Refusal :=
  act t (fun s => if port < 28 then pcsError port k s else s) s

end Sys2Proof.Machine
end

