-- ==== Sys2Proof/Machine/Dispatch.lean ====
section
/-! DEFINITION. The meaning of each command: one arm per constructor, each a call of its own definition. -/
namespace Sys2Proof.Machine

/-- What a command does to everything but the queue. -/
def exec (i : Instr) (s : State) : Host.Outcome State Fault Refusal :=
  match i with
  | .beatBoundary t => Sys2Proof.Machine.execBeatBoundary t s
  | .taskListFinish t => Sys2Proof.Machine.execTaskListFinish t s
  | .mappingAnchor t => Sys2Proof.Machine.execMappingAnchor t s
  | .phaseSlewEnd t => Sys2Proof.Machine.execPhaseSlewEnd t s
  | .syncReceiptTimeout t slot => Sys2Proof.Machine.execSyncReceiptTimeout t slot s
  | .announceReceiptTimeout t slot port => Sys2Proof.Machine.execAnnounceReceiptTimeout t slot port s
  | .hotStandbyRevert t => Sys2Proof.Machine.execHotStandbyRevert t s
  | .gptpSyncRx t port m => Sys2Proof.Machine.execGptpSyncRx t port m s
  | .followUpRx t port m => Sys2Proof.Machine.execFollowUpRx t port m s
  | .followUpMatchTimeout t slot => Sys2Proof.Machine.execFollowUpMatchTimeout t slot s
  | .gmSyncTx t slot => Sys2Proof.Machine.execGmSyncTx t slot s
  | .announceRx t port m => Sys2Proof.Machine.execAnnounceRx t port m s
  | .pdelayReqTx t port => Sys2Proof.Machine.execPdelayReqTx t port s
  | .pdelayReqRx t port m => Sys2Proof.Machine.execPdelayReqRx t port m s
  | .pdelayRespRx t port m => Sys2Proof.Machine.execPdelayRespRx t port m s
  | .pairTimePulseRx t w0 w1 w2 => Sys2Proof.Machine.execPairTimePulseRx t w0 w1 w2 s
  | .pairTimePulseMissing t => Sys2Proof.Machine.execPairTimePulseMissing t s
  | .timeCapGo t o a v => Sys2Proof.Machine.execTimeCapGo t o a v s
  | .tioArm t pin o a v => Sys2Proof.Machine.execTioArm t pin o a v s
  | .tioDisarm t pin o a v => Sys2Proof.Machine.execTioDisarm t pin o a v s
  | .tioModeWrite t pin o a v => Sys2Proof.Machine.execTioModeWrite t pin o a v s
  | .tioActiveEdge t pin => Sys2Proof.Machine.execTioActiveEdge t pin s
  | .tioInactiveEdge t pin => Sys2Proof.Machine.execTioInactiveEdge t pin s
  | .tioCaptureEdge t pin rising width => Sys2Proof.Machine.execTioCaptureEdge t pin rising width s
  | .portLinkUp t port speed => Sys2Proof.Machine.execPortLinkUp t port speed s
  | .portLinkLoss t port => Sys2Proof.Machine.execPortLinkLoss t port s
  | .linkHoldExpiry t port => Sys2Proof.Machine.execLinkHoldExpiry t port s
  | .serdesReferenceLost t groupB => Sys2Proof.Machine.execSerdesReferenceLost t groupB s
  | .inbandSpeedChange t port speed => Sys2Proof.Machine.execInbandSpeedChange t port speed s
  | .dlcMeasurementDone t port rxPos txPos offset => Sys2Proof.Machine.execDlcMeasurementDone t port rxPos txPos offset s
  | .plcaBeaconTx t port => Sys2Proof.Machine.execPlcaBeaconTx t port s
  | .plcaBeaconLoss t port => Sys2Proof.Machine.execPlcaBeaconLoss t port s
  | .plcaBeaconRestored t port => Sys2Proof.Machine.execPlcaBeaconRestored t port s
  | .frameRxCell t port bytes sof eof => Sys2Proof.Machine.execFrameRxCell t port bytes sof eof s
  | .macsecRxVerify t port bytes rx => Sys2Proof.Machine.execMacsecRxVerify t port bytes rx s
  | .frameClassify t frame => Sys2Proof.Machine.execFrameClassify t frame s
  | .frameEnqueue t frame => Sys2Proof.Machine.execFrameEnqueue t frame s
  | .frameTxStart t port => Sys2Proof.Machine.execFrameTxStart t port s
  | .frameTxEnd t port => Sys2Proof.Machine.execFrameTxEnd t port s
  | .ageingSweep t => Sys2Proof.Machine.execAgeingSweep t s
  | .refillTick t => Sys2Proof.Machine.execRefillTick t s
  | .gateListStart t port => Sys2Proof.Machine.execGateListStart t port s
  | .gateEntryStart t port => Sys2Proof.Machine.execGateEntryStart t port s
  | .gateStarveDrop t port cls => Sys2Proof.Machine.execGateStarveDrop t port cls s
  | .mergeHoldAssert t port => Sys2Proof.Machine.execMergeHoldAssert t port s
  | .mergeHoldRelease t port => Sys2Proof.Machine.execMergeHoldRelease t port s
  | .launchInstantReached t port cls => Sys2Proof.Machine.execLaunchInstantReached t port cls s
  | .streamGateListStart t gate => Sys2Proof.Machine.execStreamGateListStart t gate s
  | .streamGateEntryStart t gate => Sys2Proof.Machine.execStreamGateEntryStart t gate s
  | .frerResetTimeout t fn => Sys2Proof.Machine.execFrerResetTimeout t fn s
  | .latentTestTimer t fn => Sys2Proof.Machine.execLatentTestTimer t fn s
  | .latentResetTimer t fn => Sys2Proof.Machine.execLatentResetTimer t fn s
  | .trackerSweep t => Sys2Proof.Machine.execTrackerSweep t s
  | .bypassExpiry t src dst => Sys2Proof.Machine.execBypassExpiry t src dst s
  | .noticePost t => Sys2Proof.Machine.execNoticePost t s
  | .canFrameValid t bus f sof => Sys2Proof.Machine.execCanFrameValid t bus f sof s
  | .tunnelFlushDeadline t tunnel => Sys2Proof.Machine.execTunnelFlushDeadline t tunnel s
  | .acfFrameRx t bytes => Sys2Proof.Machine.execAcfFrameRx t bytes s
  | .canTxStart t bus => Sys2Proof.Machine.execCanTxStart t bus s
  | .canTxComplete t bus => Sys2Proof.Machine.execCanTxComplete t bus s
  | .canTxError t bus k => Sys2Proof.Machine.execCanTxError t bus k s
  | .canRxError t bus k => Sys2Proof.Machine.execCanRxError t bus k s
  | .canBoDelayExpiry t bus => Sys2Proof.Machine.execCanBoDelayExpiry t bus s
  | .canBusOffRecovered t bus => Sys2Proof.Machine.execCanBusOffRecovered t bus s
  | .canMaxAgeExpiry t bus slot => Sys2Proof.Machine.execCanMaxAgeExpiry t bus slot s
  | .canControllerApply t bus => Sys2Proof.Machine.execCanControllerApply t bus s
  | .canIntegrationDone t bus => Sys2Proof.Machine.execCanIntegrationDone t bus s
  | .linSlotStart t bus recessive => Sys2Proof.Machine.execLinSlotStart t bus recessive s
  | .linSlotEnd t bus outcome data => Sys2Proof.Machine.execLinSlotEnd t bus outcome data s
  | .wakeSourceQualify t src => Sys2Proof.Machine.execWakeSourceQualify t src s
  | .wakeTimerExpiry t => Sys2Proof.Machine.execWakeTimerExpiry t s
  | .ignitionPinChange t active => Sys2Proof.Machine.execIgnitionPinChange t active s
  | .offenderMinExpiry t => Sys2Proof.Machine.execOffenderMinExpiry t s
  | .needTimerExpiry t seg => Sys2Proof.Machine.execNeedTimerExpiry t seg s
  | .clusterTimerExpiry t cluster => Sys2Proof.Machine.execClusterTimerExpiry t cluster s
  | .prepareSleepTimerExpiry t seg => Sys2Proof.Machine.execPrepareSleepTimerExpiry t seg s
  | .shutdownComplete t seg => Sys2Proof.Machine.execShutdownComplete t seg s
  | .wakeToExpiry t seg => Sys2Proof.Machine.execWakeToExpiry t seg s
  | .keepaliveTxTimer t seg => Sys2Proof.Machine.execKeepaliveTxTimer t seg s
  | .wakeValidationExpiry t src => Sys2Proof.Machine.execWakeValidationExpiry t src s
  | .falseWinExpiry t src => Sys2Proof.Machine.execFalseWinExpiry t src s
  | .backoffExpiry t src => Sys2Proof.Machine.execBackoffExpiry t src s
  | .standbySnapshotAck t => Sys2Proof.Machine.execStandbySnapshotAck t s
  | .standbyEntryTimeout t => Sys2Proof.Machine.execStandbyEntryTimeout t s
  | .wakeRaceHoldExpiry t => Sys2Proof.Machine.execWakeRaceHoldExpiry t s
  | .crocusGo t o a v => Sys2Proof.Machine.execCrocusGo t o a v s
  | .crocusIgnHint t o a v => Sys2Proof.Machine.execCrocusIgnHint t o a v s
  | .bulkRequestSubmit t r => Sys2Proof.Machine.execBulkRequestSubmit t r s
  | .bulkRequestStart t requester => Sys2Proof.Machine.execBulkRequestStart t requester s
  | .bulkChunkEnd t => Sys2Proof.Machine.execBulkChunkEnd t s
  | .bulkRequestComplete t publicKey => Sys2Proof.Machine.execBulkRequestComplete t publicKey s
  | .cipherAlarm t cause => Sys2Proof.Machine.execCipherAlarm t cause s
  | .zeroizeComplete t => Sys2Proof.Machine.execZeroizeComplete t s
  | .pipeSelfTestDue t pipe => Sys2Proof.Machine.execPipeSelfTestDue t pipe s
  | .bulkSelfTestDue t => Sys2Proof.Machine.execBulkSelfTestDue t s
  | .selfTestComplete t unit pass => Sys2Proof.Machine.execSelfTestComplete t unit pass s
  | .entropyHealthFail t => Sys2Proof.Machine.execEntropyHealthFail t s
  | .darkWindowBeforeTaken t => Sys2Proof.Machine.execDarkWindowBeforeTaken t s
  | .darkWindowAfterClose t => Sys2Proof.Machine.execDarkWindowAfterClose t s
  | .darkWindowSigned t => Sys2Proof.Machine.execDarkWindowSigned t s
  | .evidenceCommitAck t => Sys2Proof.Machine.execEvidenceCommitAck t s
  | .darkClockFallback t => Sys2Proof.Machine.execDarkClockFallback t s
  | .darkClockReturn t => Sys2Proof.Machine.execDarkClockReturn t s
  | .darkWatchdogReset t => Sys2Proof.Machine.execDarkWatchdogReset t s
  | .vddDrkLoss t => Sys2Proof.Machine.execVddDrkLoss t s
  | .darkroomReset t => Sys2Proof.Machine.execDarkroomReset t s
  | .resealComplete t => Sys2Proof.Machine.execResealComplete t s
  | .csRecordAccept t => Sys2Proof.Machine.execCsRecordAccept t s
  | .csAnchorTimer t => Sys2Proof.Machine.execCsAnchorTimer t s
  | .csMappingRepeat t => Sys2Proof.Machine.execCsMappingRepeat t s
  | .csExportFrameFlush t => Sys2Proof.Machine.execCsExportFrameFlush t s
  | .csExportRingWrite t => Sys2Proof.Machine.execCsExportRingWrite t s
  | .pcieRead t bar off dwords => Sys2Proof.Machine.execPcieRead t bar off dwords s
  | .pcieWrite t requester bar off data => Sys2Proof.Machine.execPcieWrite t requester bar off data s
  | .writeCarriageEnd t o ecc => Sys2Proof.Machine.execWriteCarriageEnd t o ecc s
  | .writeTimeout t o => Sys2Proof.Machine.execWriteTimeout t o s
  | .proofFenceRead t o => Sys2Proof.Machine.execProofFenceRead t o s
  | .pcieAtomic t op wide bar off x y => Sys2Proof.Machine.execPcieAtomic t op wide bar off x y s
  | .atomicSemaphoreTimeout t => Sys2Proof.Machine.execAtomicSemaphoreTimeout t s
  | .spiReadFrame t bytes => Sys2Proof.Machine.execSpiReadFrame t bytes s
  | .spiWriteFrame t bytes => Sys2Proof.Machine.execSpiWriteFrame t bytes s
  | .spiLock t bytes => Sys2Proof.Machine.execSpiLock t bytes s
  | .spiUnlock t bytes => Sys2Proof.Machine.execSpiUnlock t bytes s
  | .spiLockTimeout t => Sys2Proof.Machine.execSpiLockTimeout t s
  | .msixMessage t source => Sys2Proof.Machine.execMsixMessage t source s
  | .ringGapMarker t ring => Sys2Proof.Machine.execRingGapMarker t ring s
  | .mirrorCopy t source => Sys2Proof.Machine.execMirrorCopy t source s
  | .mirrorDmaFail t source => Sys2Proof.Machine.execMirrorDmaFail t source s
  | .hpTxDescriptor t desc frame dmaOk => Sys2Proof.Machine.execHpTxDescriptor t desc frame dmaOk s
  | .hpRxFrameWrite t desc dmaOk => Sys2Proof.Machine.execHpRxFrameWrite t desc dmaOk s
  | .inbandFrameRx t bytes => Sys2Proof.Machine.execInbandFrameRx t bytes s
  | .pcieLinkUp t rate width => Sys2Proof.Machine.execPcieLinkUp t rate width s
  | .pcieFunctionReset t linkDown => Sys2Proof.Machine.execPcieFunctionReset t linkDown s
  | .mbxDoorbell t m o a v => Sys2Proof.Machine.execMbxDoorbell t m o a v s
  | .mbxRingReset t m o a v => Sys2Proof.Machine.execMbxRingReset t m o a v s
  | .mbxRspConsWrite t m o a v => Sys2Proof.Machine.execMbxRspConsWrite t m o a v s
  | .evqConsWrite t e o a v => Sys2Proof.Machine.execEvqConsWrite t e o a v s
  | .ringPtrConsWrite t source o a v => Sys2Proof.Machine.execRingPtrConsWrite t source o a v s
  | .proofPtrConsWrite t o a v => Sys2Proof.Machine.execProofPtrConsWrite t o a v s
  | .mirConsWrite t source o a v => Sys2Proof.Machine.execMirConsWrite t source o a v s
  | .requestTake t => Sys2Proof.Machine.execRequestTake t s
  | .partnerTokenRx t msg => Sys2Proof.Machine.execPartnerTokenRx t msg s
  | .partnerAckRx t msg => Sys2Proof.Machine.execPartnerAckRx t msg s
  | .partnerCkptPartRx t msg => Sys2Proof.Machine.execPartnerCkptPartRx t msg s
  | .partnerCkptAckRx t msg => Sys2Proof.Machine.execPartnerCkptAckRx t msg s
  | .partnerReleaseRx t msg => Sys2Proof.Machine.execPartnerReleaseRx t msg s
  | .partnerMappingRx t msg => Sys2Proof.Machine.execPartnerMappingRx t msg s
  | .partnerUpTimeout t => Sys2Proof.Machine.execPartnerUpTimeout t s
  | .leaseTokenTimer t => Sys2Proof.Machine.execLeaseTokenTimer t s
  | .leaseExpiry t obj => Sys2Proof.Machine.execLeaseExpiry t obj s
  | .claimWaitExpiry t obj => Sys2Proof.Machine.execClaimWaitExpiry t obj s
  | .claimAckTimeout t obj => Sys2Proof.Machine.execClaimAckTimeout t obj s
  | .interlockLowQualified t => Sys2Proof.Machine.execInterlockLowQualified t s
  | .interlockClaimSample t inHigh => Sys2Proof.Machine.execInterlockClaimSample t inHigh s
  | .checkpointTimer t => Sys2Proof.Machine.execCheckpointTimer t s
  | .checkpointMiss t => Sys2Proof.Machine.execCheckpointMiss t s
  | .controlWatchdogExpiry t => Sys2Proof.Machine.execControlWatchdogExpiry t s
  | .controlTakeoverComplete t => Sys2Proof.Machine.execControlTakeoverComplete t s
  | .eccErrorDetected t region off uncorrectable target => Sys2Proof.Machine.execEccErrorDetected t region off uncorrectable target s
  | .lookupEntryRewrite t target => Sys2Proof.Machine.execLookupEntryRewrite t target s
  | .activationBodyLoaded t bodyMatches => Sys2Proof.Machine.execActivationBodyLoaded t bodyMatches s
  | .settingsMigrationComplete t ok => Sys2Proof.Machine.execSettingsMigrationComplete t ok s
  | .flashWriteComplete t ok => Sys2Proof.Machine.execFlashWriteComplete t ok s
  | .fuseWriteComplete t ok => Sys2Proof.Machine.execFuseWriteComplete t ok s
  | .railsGood t => Sys2Proof.Machine.execRailsGood t s
  | .coreRailBrownout t millivolts microseconds => Sys2Proof.Machine.execCoreRailBrownout t millivolts microseconds s
  | .coreRailOff t => Sys2Proof.Machine.execCoreRailOff t s
  | .vddRetLow t => Sys2Proof.Machine.execVddRetLow t s
  | .vbatDisturbance t kind millivolts => Sys2Proof.Machine.execVbatDisturbance t kind millivolts s
  | .vbatDisturbanceEnd t millivolts => Sys2Proof.Machine.execVbatDisturbanceEnd t millivolts s
  | .vbatPowerOnReset t => Sys2Proof.Machine.execVbatPowerOnReset t s
  | .porstNAssert t => Sys2Proof.Machine.execPorstNAssert t s
  | .sysrstNAssert t => Sys2Proof.Machine.execSysrstNAssert t s
  | .powerOnReset t => Sys2Proof.Machine.execPowerOnReset t s
  | .systemReset t cause => Sys2Proof.Machine.execSystemReset t cause s
  | .sysGo t o a v => Sys2Proof.Machine.execSysGo t o a v s
  | .ctrlGo t o a v => Sys2Proof.Machine.execCtrlGo t o a v s
  | .controlResetComplete t => Sys2Proof.Machine.execControlResetComplete t s
  | .clockMonitorFault t => Sys2Proof.Machine.execClockMonitorFault t s
  | .clockMonitorReturn t => Sys2Proof.Machine.execClockMonitorReturn t s
  | .pcieReferenceLost t => Sys2Proof.Machine.execPcieReferenceLost t s
  | .pcieReferenceReturn t => Sys2Proof.Machine.execPcieReferenceReturn t s
  | .osc32kStopped t => Sys2Proof.Machine.execOsc32kStopped t s
  | .junctionTempHigh t => Sys2Proof.Machine.execJunctionTempHigh t s
  | .junctionTempNormal t => Sys2Proof.Machine.execJunctionTempNormal t s
  | .bootImageVerify t flashAnswers bodyMatches => Sys2Proof.Machine.execBootImageVerify t flashAnswers bodyMatches s
  | .startUpComplete t => Sys2Proof.Machine.execStartUpComplete t s
  | .retainedWakeResume t kernelOk => Sys2Proof.Machine.execRetainedWakeResume t kernelOk s
  | .resumeImageChecked t ok => Sys2Proof.Machine.execResumeImageChecked t ok s
  | .cableDiagComplete t port result distance => Sys2Proof.Machine.execCableDiagComplete t port result distance s
  | .jtagUnlockGo t o a v => Sys2Proof.Machine.execJtagUnlockGo t o a v s
  | .jtagVerifyComplete t => Sys2Proof.Machine.execJtagVerifyComplete t s
  | .jtagInstruction t j => Sys2Proof.Machine.execJtagInstruction t j s
  | .sysRegLockWrite t o a v => Sys2Proof.Machine.execSysRegLockWrite t o a v s
  | .bypassLockSet t o a v => Sys2Proof.Machine.execBypassLockSet t o a v s
  | .spiLockSet t o a v => Sys2Proof.Machine.execSpiLockSet t o a v s
  | .ibLockSet t o a v => Sys2Proof.Machine.execIbLockSet t o a v s
  | .ibCfgWrite t m o a v => Sys2Proof.Machine.execIbCfgWrite t m o a v s
  | .ringCfgWrite t source o a v => Sys2Proof.Machine.execRingCfgWrite t source o a v s
  | .hpTxTailWrite t o a v => Sys2Proof.Machine.execHpTxTailWrite t o a v s
  | .hpRxTailWrite t o a v => Sys2Proof.Machine.execHpRxTailWrite t o a v s
  | .registerWrite t o off v => Sys2Proof.Machine.execRegisterWrite t o off v s
  | .hello t q => Sys2Proof.Machine.execHello t q s
  | .sysSettings t q => Sys2Proof.Machine.execSysSettings t q s
  | .sysBeatLength t q => Sys2Proof.Machine.execSysBeatLength t q s
  | .sysPort t q => Sys2Proof.Machine.execSysPort t q s
  | .sysPortStatus t q => Sys2Proof.Machine.execSysPortStatus t q s
  | .sysMdio t q => Sys2Proof.Machine.execSysMdio t q s
  | .sysBridgePort t q => Sys2Proof.Machine.execSysBridgePort t q s
  | .sysVlan t q => Sys2Proof.Machine.execSysVlan t q s
  | .sysMacWrite t q => Sys2Proof.Machine.execSysMacWrite t q s
  | .sysMacRead t q => Sys2Proof.Machine.execSysMacRead t q s
  | .sysAgeing t q => Sys2Proof.Machine.execSysAgeing t q s
  | .sysMacFlush t q => Sys2Proof.Machine.execSysMacFlush t q s
  | .sysMirror t q => Sys2Proof.Machine.execSysMirror t q s
  | .sysBuffer t q => Sys2Proof.Machine.execSysBuffer t q s
  | .sysBufferStatus t q => Sys2Proof.Machine.execSysBufferStatus t q s
  | .sysBridgeCounters t q => Sys2Proof.Machine.execSysBridgeCounters t q s
  | .timeDomain t q => Sys2Proof.Machine.execTimeDomain t q s
  | .timeSource t q => Sys2Proof.Machine.execTimeSource t q s
  | .timeSwitch t q => Sys2Proof.Machine.execTimeSwitch t q s
  | .timePort t q => Sys2Proof.Machine.execTimePort t q s
  | .timeCorrect t q => Sys2Proof.Machine.execTimeCorrect t q s
  | .timeJumpThreshold t q => Sys2Proof.Machine.execTimeJumpThreshold t q s
  | .timeStep t q => Sys2Proof.Machine.execTimeStep t q s
  | .timeStatus t q => Sys2Proof.Machine.execTimeStatus t q s
  | .timePairTime t q => Sys2Proof.Machine.execTimePairTime t q s
  | .schedPortScheduler t q => Sys2Proof.Machine.execSchedPortScheduler t q s
  | .schedGateList t q => Sys2Proof.Machine.execSchedGateList t q s
  | .schedGateListArm t q => Sys2Proof.Machine.execSchedGateListArm t q s
  | .schedGateStatus t q => Sys2Proof.Machine.execSchedGateStatus t q s
  | .schedShaper t q => Sys2Proof.Machine.execSchedShaper t q s
  | .schedSample t q => Sys2Proof.Machine.execSchedSample t q s
  | .schedCounters t q => Sys2Proof.Machine.execSchedCounters t q s
  | .streamIpProfile t q => Sys2Proof.Machine.execStreamIpProfile t q s
  | .streamIdWrite t q => Sys2Proof.Machine.execStreamIdWrite t q s
  | .streamIdDelete t q => Sys2Proof.Machine.execStreamIdDelete t q s
  | .streamHandle t q => Sys2Proof.Machine.execStreamHandle t q s
  | .streamFilter t q => Sys2Proof.Machine.execStreamFilter t q s
  | .streamGate t q => Sys2Proof.Machine.execStreamGate t q s
  | .streamGatePool t q => Sys2Proof.Machine.execStreamGatePool t q s
  | .streamMeter t q => Sys2Proof.Machine.execStreamMeter t q s
  | .streamGeneration t q => Sys2Proof.Machine.execStreamGeneration t q s
  | .streamRecovery t q => Sys2Proof.Machine.execStreamRecovery t q s
  | .streamClear t q => Sys2Proof.Machine.execStreamClear t q s
  | .streamFilterStatus t q => Sys2Proof.Machine.execStreamFilterStatus t q s
  | .streamFrerStatus t q => Sys2Proof.Machine.execStreamFrerStatus t q s
  | .filtZone t q => Sys2Proof.Machine.execFiltZone t q s
  | .filtExactRule t q => Sys2Proof.Machine.execFiltExactRule t q s
  | .filtTernaryRule t q => Sys2Proof.Machine.execFiltTernaryRule t q s
  | .filtMembership t q => Sys2Proof.Machine.execFiltMembership t q s
  | .filtRuleDelete t q => Sys2Proof.Machine.execFiltRuleDelete t q s
  | .filtBankCopy t q => Sys2Proof.Machine.execFiltBankCopy t q s
  | .filtSwap t q => Sys2Proof.Machine.execFiltSwap t q s
  | .filtDryRun t q => Sys2Proof.Machine.execFiltDryRun t q s
  | .filtTracker t q => Sys2Proof.Machine.execFiltTracker t q s
  | .filtTrackerFlush t q => Sys2Proof.Machine.execFiltTrackerFlush t q s
  | .filtTrackerRead t q => Sys2Proof.Machine.execFiltTrackerRead t q s
  | .filtBypass t q => Sys2Proof.Machine.execFiltBypass t q s
  | .filtLog t q => Sys2Proof.Machine.execFiltLog t q s
  | .filtStatus t q => Sys2Proof.Machine.execFiltStatus t q s
  | .filtZoneCounters t q => Sys2Proof.Machine.execFiltZoneCounters t q s
  | .filtRuleCounters t q => Sys2Proof.Machine.execFiltRuleCounters t q s
  | .gwController t q => Sys2Proof.Machine.execGwController t q s
  | .gwCanSend t q => Sys2Proof.Machine.execGwCanSend t q s
  | .gwCanAbort t q => Sys2Proof.Machine.execGwCanAbort t q s
  | .gwRecover t q => Sys2Proof.Machine.execGwRecover t q s
  | .gwLin t q => Sys2Proof.Machine.execGwLin t q s
  | .gwLinPool t q => Sys2Proof.Machine.execGwLinPool t q s
  | .gwLinTable t q => Sys2Proof.Machine.execGwLinTable t q s
  | .gwLinSelect t q => Sys2Proof.Machine.execGwLinSelect t q s
  | .gwLinPublish t q => Sys2Proof.Machine.execGwLinPublish t q s
  | .gwRoute t q => Sys2Proof.Machine.execGwRoute t q s
  | .gwTunnel t q => Sys2Proof.Machine.execGwTunnel t q s
  | .gwReceiveTunnel t q => Sys2Proof.Machine.execGwReceiveTunnel t q s
  | .gwSettings t q => Sys2Proof.Machine.execGwSettings t q s
  | .gwAuth t q => Sys2Proof.Machine.execGwAuth t q s
  | .gwCanStatus t q => Sys2Proof.Machine.execGwCanStatus t q s
  | .gwLinStatus t q => Sys2Proof.Machine.execGwLinStatus t q s
  | .gwDrops t q => Sys2Proof.Machine.execGwDrops t q s
  | .gwTunnelStatus t q => Sys2Proof.Machine.execGwTunnelStatus t q s
  | .gwRouteStatus t q => Sys2Proof.Machine.execGwRouteStatus t q s
  | .nmWakeSource t q => Sys2Proof.Machine.execNmWakeSource t q s
  | .nmStandby t q => Sys2Proof.Machine.execNmStandby t q s
  | .nmSegment t q => Sys2Proof.Machine.execNmSegment t q s
  | .nmRequest t q => Sys2Proof.Machine.execNmRequest t q s
  | .nmSettings t q => Sys2Proof.Machine.execNmSettings t q s
  | .nmOffenderRead t q => Sys2Proof.Machine.execNmOffenderRead t q s
  | .nmSegmentStatus t q => Sys2Proof.Machine.execNmSegmentStatus t q s
  | .nmWakeSourceStatus t q => Sys2Proof.Machine.execNmWakeSourceStatus t q s
  | .keySlotInfo t q => Sys2Proof.Machine.execKeySlotInfo t q s
  | .keyUnwrap t q => Sys2Proof.Machine.execKeyUnwrap t q s
  | .keyDerive t q => Sys2Proof.Machine.execKeyDerive t q s
  | .keyGenerate t q => Sys2Proof.Machine.execKeyGenerate t q s
  | .keyPlainWrite t q => Sys2Proof.Machine.execKeyPlainWrite t q s
  | .keyErase t q => Sys2Proof.Machine.execKeyErase t q s
  | .cryptSettings t q => Sys2Proof.Machine.execCryptSettings t q s
  | .cryptSecy t q => Sys2Proof.Machine.execCryptSecy t q s
  | .cryptSa t q => Sys2Proof.Machine.execCryptSa t q s
  | .cryptReceiveSc t q => Sys2Proof.Machine.execCryptReceiveSc t q s
  | .cryptSecyStatus t q => Sys2Proof.Machine.execCryptSecyStatus t q s
  | .cryptRxSaStatus t q => Sys2Proof.Machine.execCryptRxSaStatus t q s
  | .cryptOperation t q => Sys2Proof.Machine.execCryptOperation t q s
  | .traceSelector t q => Sys2Proof.Machine.execTraceSelector t q s
  | .traceExport t q => Sys2Proof.Machine.execTraceExport t q s
  | .traceSettings t q => Sys2Proof.Machine.execTraceSettings t q s
  | .darkStatus t q => Sys2Proof.Machine.execDarkStatus t q s
  | .darkIdentity t q => Sys2Proof.Machine.execDarkIdentity t q s
  | .darkCalibrationRead t q => Sys2Proof.Machine.execDarkCalibrationRead t q s
  | .darkReseal t q => Sys2Proof.Machine.execDarkReseal t q s
  | .darkTrigger t q => Sys2Proof.Machine.execDarkTrigger t q s
  | .darkTriggerTable t q => Sys2Proof.Machine.execDarkTriggerTable t q s
  | .darkWindow t q => Sys2Proof.Machine.execDarkWindow t q s
  | .darkExport t q => Sys2Proof.Machine.execDarkExport t q s
  | .darkRelease t q => Sys2Proof.Machine.execDarkRelease t q s
  | .darkAttest t q => Sys2Proof.Machine.execDarkAttest t q s
  | .darkAuditRead t q => Sys2Proof.Machine.execDarkAuditRead t q s
  | .pairConfig t q => Sys2Proof.Machine.execPairConfig t q s
  | .pairObject t q => Sys2Proof.Machine.execPairObject t q s
  | .pairBind t q => Sys2Proof.Machine.execPairBind t q s
  | .pairStatus t q => Sys2Proof.Machine.execPairStatus t q s
  | .pairRelease t q => Sys2Proof.Machine.execPairRelease t q s
  | .fwStatus t q => Sys2Proof.Machine.execFwStatus t q s
  | .fwDownload t q => Sys2Proof.Machine.execFwDownload t q s
  | .fwActivate t q => Sys2Proof.Machine.execFwActivate t q s
  | .fwCommit t q => Sys2Proof.Machine.execFwCommit t q s
  | .fwSettingsWrite t q => Sys2Proof.Machine.execFwSettingsWrite t q s
  | .fwSettingsRead t q => Sys2Proof.Machine.execFwSettingsRead t q s
  | .fwLifecycle t q => Sys2Proof.Machine.execFwLifecycle t q s
  | .testLoopback t q => Sys2Proof.Machine.execTestLoopback t q s
  | .testPrbs t q => Sys2Proof.Machine.execTestPrbs t q s
  | .testCable t q => Sys2Proof.Machine.execTestCable t q s
  | .testCipher t q => Sys2Proof.Machine.execTestCipher t q s
  | .testService t q => Sys2Proof.Machine.execTestService t q s
  | .testScrubStatus t q => Sys2Proof.Machine.execTestScrubStatus t q s
  | .serdesReferenceReturn t groupB => Sys2Proof.Machine.execSerdesReferenceReturn t groupB s
  | .mergeVerifyDone t port => Sys2Proof.Machine.execMergeVerifyDone t port s
  | .announceTx t slot port => Sys2Proof.Machine.execAnnounceTx t slot port s
  | .spiChipSelectFall t => Sys2Proof.Machine.execSpiChipSelectFall t s
  | .t1TrainingAttemptFail t port => Sys2Proof.Machine.execT1TrainingAttemptFail t port s
  | .jtagTestLogicReset t => Sys2Proof.Machine.execJtagTestLogicReset t s
  | .pcsFecError t port k => Sys2Proof.Machine.execPcsFecError t port k s

end Sys2Proof.Machine
end

