-- ==== Sys2Proof/WellFormed.lean ====
section
/-!
DEFINITION. Which commands are well formed: their operands name objects the device has, in the ranges of the rules that number them.
-/
namespace Sys2Proof

/-- Local time is 64 bits (R41). -/
def timeOk (t : Nat) : Bool := decide (t < 2 ^ 64)

/-- A request names one of 8 mailboxes, its versions have 4 bits, its message at most 2,048 words, its CMAC 4 words (R524, R529, R530, R545). -/
def Req.ok (q : Req) : Bool :=
  decide (q.mbx < 8) && decide (q.verMaj < 16) && decide (q.verMin < 16) && decide (q.args.length + (if q.auth.isSome then 6 else 0) ≤ 2044)
    && q.auth.all (fun a => decide (a.counter < 2 ^ 64) && decide (a.mac.length = 4))

/-- A domain number has 8 bits and a sequence number 16; the TLV's fields after csro have 18 bytes (R82, R95, R96). -/
def SyncMsg.ok (m : SyncMsg) : Bool := decide (m.domain < 256) && decide (m.seqId < 65536) && decide (m.tlv.length ≤ 18)

/-- An identity has 64 bits, the priorities, class and accuracy 8, the variance 16 (R82, R112). -/
def GmInfo.ok (g : GmInfo) : Bool :=
  decide (g.priority1 < 256) && decide (g.clockClass < 256) && decide (g.accuracy < 256) && decide (g.variance < 65536) && decide (g.priority2 < 256)
    && decide (g.identity < 2 ^ 64)

/-- stepsRemoved and a port number have 16 bits, a path trace at most 179 entries of a frame (R80, R112). -/
def AnnounceMsg.ok (m : AnnounceMsg) : Bool :=
  decide (m.domain < 256) && m.gm.ok && decide (m.stepsRemoved < 65536) && decide (m.srcClock < 2 ^ 64) && decide (m.srcPort < 65536)
    && decide (m.path.length < 180) && m.path.all (fun x => decide (x < 2 ^ 64))

/-- A request for the peer delay (R86). -/
def PdelayReq.ok (m : PdelayReq) : Bool :=
  decide (m.domain < 256) && decide (m.seqId < 65536) && decide (m.srcClock < 2 ^ 64) && decide (m.srcPort < 65536)

/-- An answer to it (R87). -/
def PdelayResp.ok (m : PdelayResp) : Bool := decide (m.seqId < 65536) && decide (m.responder < 2 ^ 64)

/-- A CAN frame has a format of 0 to 4 and an identifier of 29 bits (R279, R304). -/
def CanFrame.ok (f : CanFrame) : Bool :=
  decide (f.format < 5) && decide (f.id < 2 ^ 29) && decide (f.sdt < 256) && decide (f.vcid < 256) && decide (f.data.length ≤ 2048)

/-- A requester of the bulk engine is 0 to 7, a slot one of 256 (R401, R394). -/
def BulkReq.ok (r : BulkReq) : Bool := decide (r.requester < 8) && decide (r.slot < 256)

/-- The ring exists (R515). -/
def RingId.ok : RingId → Bool
  | .req m | .rsp m | .evq m | .lin m => decide (m < 8)
  | .can n => decide (n < 24)
  | .trace | .proof => true

/-- The well-formed commands. -/
def Instr.wf : Instr → Bool
  | .beatBoundary t => timeOk t
  | .taskListFinish t => timeOk t
  | .mappingAnchor t => timeOk t
  | .phaseSlewEnd t => timeOk t
  | .syncReceiptTimeout t slot => timeOk t && decide (slot < 4)
  | .announceReceiptTimeout t slot port => timeOk t && decide (slot < 4) && decide (port < 28)
  | .hotStandbyRevert t => timeOk t
  | .gptpSyncRx t port m => timeOk t && decide (port < 28) && m.ok
  | .followUpRx t port m => timeOk t && decide (port < 28) && m.ok
  | .followUpMatchTimeout t slot => timeOk t && decide (slot < 4)
  | .gmSyncTx t slot => timeOk t && decide (slot < 4)
  | .announceRx t port m => timeOk t && decide (port < 28) && m.ok
  | .pdelayReqTx t port => timeOk t && decide (port < 28)
  | .pdelayReqRx t port m => timeOk t && decide (port < 28) && m.ok
  | .pdelayRespRx t port m => timeOk t && decide (port < 28) && m.ok
  | .pairTimePulseRx t _ _ _ => timeOk t
  | .pairTimePulseMissing t => timeOk t
  | .timeCapGo t _ _ _ => timeOk t
  | .tioArm t pin _ _ _ => timeOk t && decide (pin < 32)
  | .tioDisarm t pin _ _ _ => timeOk t && decide (pin < 32)
  | .tioModeWrite t pin _ _ _ => timeOk t && decide (pin < 32)
  | .tioActiveEdge t pin => timeOk t && decide (pin < 32)
  | .tioInactiveEdge t pin => timeOk t && decide (pin < 32)
  | .tioCaptureEdge t pin _ _ => timeOk t && decide (pin < 32)
  | .portLinkUp t port speed => timeOk t && decide (port < 28) && speed.all (fun v => v < 16)
  | .portLinkLoss t port => timeOk t && decide (port < 28)
  | .linkHoldExpiry t port => timeOk t && decide (port < 28)
  | .serdesReferenceLost t _ => timeOk t
  | .inbandSpeedChange t port speed => timeOk t && decide (port < 28) && decide (speed < 16)
  | .dlcMeasurementDone t port _ _ _ => timeOk t && decide (port < 28)
  | .plcaBeaconTx t port => timeOk t && decide (port < 28)
  | .plcaBeaconLoss t port => timeOk t && decide (port < 28)
  | .plcaBeaconRestored t port => timeOk t && decide (port < 28)
  | .frameRxCell t port bytes _ _ => timeOk t && decide (port < 28) && decide (bytes ≠ []) && decide (bytes.length ≤ 64)
  | .macsecRxVerify t port bytes rx => timeOk t && decide (port < 28) && decide (bytes.length ≤ 16384) && decide (rx.held ≤ t)
  | .frameClassify t _ => timeOk t
  | .frameEnqueue t _ => timeOk t
  | .frameTxStart t port => timeOk t && decide (port < 31)
  | .frameTxEnd t port => timeOk t && decide (port < 31)
  | .ageingSweep t => timeOk t
  | .refillTick t => timeOk t
  | .gateListStart t port => timeOk t && decide (port < 28)
  | .gateEntryStart t port => timeOk t && decide (port < 28)
  | .gateStarveDrop t port cls => timeOk t && decide (port < 28) && decide (cls < 8)
  | .mergeHoldAssert t port => timeOk t && decide (port < 28)
  | .mergeHoldRelease t port => timeOk t && decide (port < 28)
  | .launchInstantReached t port cls => timeOk t && decide (port < 28) && decide (cls < 8)
  | .streamGateListStart t gate => timeOk t && decide (gate < 2048)
  | .streamGateEntryStart t gate => timeOk t && decide (gate < 2048)
  | .frerResetTimeout t fn => timeOk t && decide (fn < 1024)
  | .latentTestTimer t fn => timeOk t && decide (fn < 1024)
  | .latentResetTimer t fn => timeOk t && decide (fn < 1024)
  | .trackerSweep t => timeOk t
  | .bypassExpiry t src dst => timeOk t && decide (src < 32) && decide (dst < 32)
  | .noticePost t => timeOk t
  | .canFrameValid t bus f _ => timeOk t && decide (bus < 24) && f.ok
  | .tunnelFlushDeadline t tunnel => timeOk t && decide (tunnel < 256)
  | .acfFrameRx t _ => timeOk t
  | .canTxStart t bus => timeOk t && decide (bus < 24)
  | .canTxComplete t bus => timeOk t && decide (bus < 24)
  | .canTxError t bus _ => timeOk t && decide (bus < 24)
  | .canRxError t bus _ => timeOk t && decide (bus < 24)
  | .canBoDelayExpiry t bus => timeOk t && decide (bus < 24)
  | .canBusOffRecovered t bus => timeOk t && decide (bus < 24)
  | .canMaxAgeExpiry t bus slot => timeOk t && decide (bus < 24) && decide (slot < 32)
  | .canControllerApply t bus => timeOk t && decide (bus < 24)
  | .canIntegrationDone t bus => timeOk t && decide (bus < 24)
  | .linSlotStart t bus _ => timeOk t && decide (bus < 8)
  | .linSlotEnd t bus outcome data => timeOk t && decide (bus < 8) && decide (outcome < 16) && decide (data.length ≤ 9)
  | .wakeSourceQualify t src => timeOk t && decide (src < 32)
  | .wakeTimerExpiry t => timeOk t
  | .ignitionPinChange t _ => timeOk t
  | .offenderMinExpiry t => timeOk t
  | .needTimerExpiry t seg => timeOk t && decide (seg < 60)
  | .clusterTimerExpiry t cluster => timeOk t && decide (cluster < 64)
  | .prepareSleepTimerExpiry t seg => timeOk t && decide (seg < 60)
  | .shutdownComplete t seg => timeOk t && decide (seg < 60)
  | .wakeToExpiry t seg => timeOk t && decide (seg < 60)
  | .keepaliveTxTimer t seg => timeOk t && decide (seg < 60)
  | .wakeValidationExpiry t src => timeOk t && decide (src < 32)
  | .falseWinExpiry t src => timeOk t && decide (src < 32)
  | .backoffExpiry t src => timeOk t && decide (src < 32)
  | .standbySnapshotAck t => timeOk t
  | .standbyEntryTimeout t => timeOk t
  | .wakeRaceHoldExpiry t => timeOk t
  | .crocusGo t _ _ _ => timeOk t
  | .crocusIgnHint t _ _ _ => timeOk t
  | .bulkRequestSubmit t r => timeOk t && r.ok
  | .bulkRequestStart t requester => timeOk t && decide (requester < 8)
  | .bulkChunkEnd t => timeOk t
  | .bulkRequestComplete t _ => timeOk t
  | .cipherAlarm t _ => timeOk t
  | .zeroizeComplete t => timeOk t
  | .pipeSelfTestDue t pipe => timeOk t && decide (pipe < 2)
  | .bulkSelfTestDue t => timeOk t
  | .selfTestComplete t unit _ => timeOk t && decide (unit < 4)
  | .entropyHealthFail t => timeOk t
  | .darkWindowBeforeTaken t => timeOk t
  | .darkWindowAfterClose t => timeOk t
  | .darkWindowSigned t => timeOk t
  | .evidenceCommitAck t => timeOk t
  | .darkClockFallback t => timeOk t
  | .darkClockReturn t => timeOk t
  | .darkWatchdogReset t => timeOk t
  | .vddDrkLoss t => timeOk t
  | .darkroomReset t => timeOk t
  | .resealComplete t => timeOk t
  | .csRecordAccept t => timeOk t
  | .csAnchorTimer t => timeOk t
  | .csMappingRepeat t => timeOk t
  | .csExportFrameFlush t => timeOk t
  | .csExportRingWrite t => timeOk t
  | .pcieRead t bar _ dwords => timeOk t && (decide (bar = 0) || decide (bar = 2)) && decide (dwords ≠ 0) && decide (dwords ≤ 1024)
  | .pcieWrite t requester bar _ data => timeOk t && decide (requester < 65536) && (decide (bar = 0) || decide (bar = 2)) && decide (data ≠ []) && data.all (fun e => e.2 < 16)
  | .writeCarriageEnd t _ _ => timeOk t
  | .writeTimeout t _ => timeOk t
  | .proofFenceRead t _ => timeOk t
  | .pcieAtomic t _ _ bar _ _ _ => timeOk t && (decide (bar = 0) || decide (bar = 2))
  | .atomicSemaphoreTimeout t => timeOk t
  | .spiReadFrame t _ => timeOk t
  | .spiWriteFrame t _ => timeOk t
  | .spiLock t _ => timeOk t
  | .spiUnlock t _ => timeOk t
  | .spiLockTimeout t => timeOk t
  | .msixMessage t source => timeOk t && decide (source < 52)
  | .ringGapMarker t ring => timeOk t && ring.ok
  | .mirrorCopy t source => timeOk t && decide (source < 49)
  | .mirrorDmaFail t source => timeOk t && decide (source < 49)
  | .hpTxDescriptor t desc _ _ => timeOk t && decide (desc.length = 8)
  | .hpRxFrameWrite t desc _ => timeOk t && decide (desc.length = 8)
  | .inbandFrameRx t _ => timeOk t
  | .pcieLinkUp t rate width => timeOk t && decide (1 ≤ rate) && decide (rate ≤ 4) && decide (1 ≤ width) && decide (width ≤ 2)
  | .pcieFunctionReset t _ => timeOk t
  | .mbxDoorbell t m _ _ _ => timeOk t && decide (m < 8)
  | .mbxRingReset t m _ _ _ => timeOk t && decide (m < 8)
  | .mbxRspConsWrite t m _ _ _ => timeOk t && decide (m < 8)
  | .evqConsWrite t e _ _ _ => timeOk t && decide (e < 8)
  | .ringPtrConsWrite t source _ _ _ => timeOk t && decide (16 ≤ source) && decide (source < 49)
  | .proofPtrConsWrite t _ _ _ => timeOk t
  | .mirConsWrite t source _ _ _ => timeOk t && decide (source < 52)
  | .requestTake t => timeOk t
  | .partnerTokenRx t _ => timeOk t
  | .partnerAckRx t _ => timeOk t
  | .partnerCkptPartRx t _ => timeOk t
  | .partnerCkptAckRx t _ => timeOk t
  | .partnerReleaseRx t _ => timeOk t
  | .partnerMappingRx t _ => timeOk t
  | .partnerUpTimeout t => timeOk t
  | .leaseTokenTimer t => timeOk t
  | .leaseExpiry t obj => timeOk t && decide (obj < 40)
  | .claimWaitExpiry t obj => timeOk t && decide (obj < 40)
  | .claimAckTimeout t obj => timeOk t && decide (obj < 40)
  | .interlockLowQualified t => timeOk t
  | .interlockClaimSample t _ => timeOk t
  | .checkpointTimer t => timeOk t
  | .checkpointMiss t => timeOk t
  | .controlWatchdogExpiry t => timeOk t
  | .controlTakeoverComplete t => timeOk t
  | .eccErrorDetected t region _ _ _ => timeOk t && decide (region < 7)
  | .lookupEntryRewrite t _ => timeOk t
  | .activationBodyLoaded t _ => timeOk t
  | .settingsMigrationComplete t _ => timeOk t
  | .flashWriteComplete t _ => timeOk t
  | .fuseWriteComplete t _ => timeOk t
  | .railsGood t => timeOk t
  | .coreRailBrownout t _ _ => timeOk t
  | .coreRailOff t => timeOk t
  | .vddRetLow t => timeOk t
  | .vbatDisturbance t _ _ => timeOk t
  | .vbatDisturbanceEnd t _ => timeOk t
  | .vbatPowerOnReset t => timeOk t
  | .porstNAssert t => timeOk t
  | .sysrstNAssert t => timeOk t
  | .powerOnReset t => timeOk t.t
  | .systemReset t cause => timeOk t && decide (cause < 32)
  | .sysGo t _ _ _ => timeOk t
  | .ctrlGo t _ _ _ => timeOk t
  | .controlResetComplete t => timeOk t
  | .clockMonitorFault t => timeOk t
  | .clockMonitorReturn t => timeOk t
  | .pcieReferenceLost t => timeOk t
  | .pcieReferenceReturn t => timeOk t
  | .osc32kStopped t => timeOk t
  | .junctionTempHigh t => timeOk t
  | .junctionTempNormal t => timeOk t
  | .bootImageVerify t _ _ => timeOk t
  | .startUpComplete t => timeOk t
  | .retainedWakeResume t _ => timeOk t
  | .resumeImageChecked t _ => timeOk t
  | .cableDiagComplete t port result distance => timeOk t && decide (port < 28) && decide (result < 256) && decide (distance < 65536)
  | .jtagUnlockGo t _ _ _ => timeOk t
  | .jtagVerifyComplete t => timeOk t
  | .jtagInstruction t _ => timeOk t
  | .sysRegLockWrite t _ _ _ => timeOk t
  | .bypassLockSet t _ _ _ => timeOk t
  | .spiLockSet t _ _ _ => timeOk t
  | .ibLockSet t _ _ _ => timeOk t
  | .ibCfgWrite t m _ _ _ => timeOk t && decide (m < 8)
  | .ringCfgWrite t source _ _ _ => timeOk t && decide (source < 52)
  | .hpTxTailWrite t _ _ _ => timeOk t
  | .hpRxTailWrite t _ _ _ => timeOk t
  | .registerWrite t _ off _ => timeOk t && decide (off < 0x200000)
  | .hello t q => timeOk t && q.ok
  | .sysSettings t q => timeOk t && q.ok
  | .sysBeatLength t q => timeOk t && q.ok
  | .sysPort t q => timeOk t && q.ok
  | .sysPortStatus t q => timeOk t && q.ok
  | .sysMdio t q => timeOk t && q.ok
  | .sysBridgePort t q => timeOk t && q.ok
  | .sysVlan t q => timeOk t && q.ok
  | .sysMacWrite t q => timeOk t && q.ok
  | .sysMacRead t q => timeOk t && q.ok
  | .sysAgeing t q => timeOk t && q.ok
  | .sysMacFlush t q => timeOk t && q.ok
  | .sysMirror t q => timeOk t && q.ok
  | .sysBuffer t q => timeOk t && q.ok
  | .sysBufferStatus t q => timeOk t && q.ok
  | .sysBridgeCounters t q => timeOk t && q.ok
  | .timeDomain t q => timeOk t && q.ok
  | .timeSource t q => timeOk t && q.ok
  | .timeSwitch t q => timeOk t && q.ok
  | .timePort t q => timeOk t && q.ok
  | .timeCorrect t q => timeOk t && q.ok
  | .timeJumpThreshold t q => timeOk t && q.ok
  | .timeStep t q => timeOk t && q.ok
  | .timeStatus t q => timeOk t && q.ok
  | .timePairTime t q => timeOk t && q.ok
  | .schedPortScheduler t q => timeOk t && q.ok
  | .schedGateList t q => timeOk t && q.ok
  | .schedGateListArm t q => timeOk t && q.ok
  | .schedGateStatus t q => timeOk t && q.ok
  | .schedShaper t q => timeOk t && q.ok
  | .schedSample t q => timeOk t && q.ok
  | .schedCounters t q => timeOk t && q.ok
  | .streamIpProfile t q => timeOk t && q.ok
  | .streamIdWrite t q => timeOk t && q.ok
  | .streamIdDelete t q => timeOk t && q.ok
  | .streamHandle t q => timeOk t && q.ok
  | .streamFilter t q => timeOk t && q.ok
  | .streamGate t q => timeOk t && q.ok
  | .streamGatePool t q => timeOk t && q.ok
  | .streamMeter t q => timeOk t && q.ok
  | .streamGeneration t q => timeOk t && q.ok
  | .streamRecovery t q => timeOk t && q.ok
  | .streamClear t q => timeOk t && q.ok
  | .streamFilterStatus t q => timeOk t && q.ok
  | .streamFrerStatus t q => timeOk t && q.ok
  | .filtZone t q => timeOk t && q.ok
  | .filtExactRule t q => timeOk t && q.ok
  | .filtTernaryRule t q => timeOk t && q.ok
  | .filtMembership t q => timeOk t && q.ok
  | .filtRuleDelete t q => timeOk t && q.ok
  | .filtBankCopy t q => timeOk t && q.ok
  | .filtSwap t q => timeOk t && q.ok
  | .filtDryRun t q => timeOk t && q.ok
  | .filtTracker t q => timeOk t && q.ok
  | .filtTrackerFlush t q => timeOk t && q.ok
  | .filtTrackerRead t q => timeOk t && q.ok
  | .filtBypass t q => timeOk t && q.ok
  | .filtLog t q => timeOk t && q.ok
  | .filtStatus t q => timeOk t && q.ok
  | .filtZoneCounters t q => timeOk t && q.ok
  | .filtRuleCounters t q => timeOk t && q.ok
  | .gwController t q => timeOk t && q.ok
  | .gwCanSend t q => timeOk t && q.ok
  | .gwCanAbort t q => timeOk t && q.ok
  | .gwRecover t q => timeOk t && q.ok
  | .gwLin t q => timeOk t && q.ok
  | .gwLinPool t q => timeOk t && q.ok
  | .gwLinTable t q => timeOk t && q.ok
  | .gwLinSelect t q => timeOk t && q.ok
  | .gwLinPublish t q => timeOk t && q.ok
  | .gwRoute t q => timeOk t && q.ok
  | .gwTunnel t q => timeOk t && q.ok
  | .gwReceiveTunnel t q => timeOk t && q.ok
  | .gwSettings t q => timeOk t && q.ok
  | .gwAuth t q => timeOk t && q.ok
  | .gwCanStatus t q => timeOk t && q.ok
  | .gwLinStatus t q => timeOk t && q.ok
  | .gwDrops t q => timeOk t && q.ok
  | .gwTunnelStatus t q => timeOk t && q.ok
  | .gwRouteStatus t q => timeOk t && q.ok
  | .nmWakeSource t q => timeOk t && q.ok
  | .nmStandby t q => timeOk t && q.ok
  | .nmSegment t q => timeOk t && q.ok
  | .nmRequest t q => timeOk t && q.ok
  | .nmSettings t q => timeOk t && q.ok
  | .nmOffenderRead t q => timeOk t && q.ok
  | .nmSegmentStatus t q => timeOk t && q.ok
  | .nmWakeSourceStatus t q => timeOk t && q.ok
  | .keySlotInfo t q => timeOk t && q.ok
  | .keyUnwrap t q => timeOk t && q.ok
  | .keyDerive t q => timeOk t && q.ok
  | .keyGenerate t q => timeOk t && q.ok
  | .keyPlainWrite t q => timeOk t && q.ok
  | .keyErase t q => timeOk t && q.ok
  | .cryptSettings t q => timeOk t && q.ok
  | .cryptSecy t q => timeOk t && q.ok
  | .cryptSa t q => timeOk t && q.ok
  | .cryptReceiveSc t q => timeOk t && q.ok
  | .cryptSecyStatus t q => timeOk t && q.ok
  | .cryptRxSaStatus t q => timeOk t && q.ok
  | .cryptOperation t q => timeOk t && q.ok
  | .traceSelector t q => timeOk t && q.ok
  | .traceExport t q => timeOk t && q.ok
  | .traceSettings t q => timeOk t && q.ok
  | .darkStatus t q => timeOk t && q.ok
  | .darkIdentity t q => timeOk t && q.ok
  | .darkCalibrationRead t q => timeOk t && q.ok
  | .darkReseal t q => timeOk t && q.ok
  | .darkTrigger t q => timeOk t && q.ok
  | .darkTriggerTable t q => timeOk t && q.ok
  | .darkWindow t q => timeOk t && q.ok
  | .darkExport t q => timeOk t && q.ok
  | .darkRelease t q => timeOk t && q.ok
  | .darkAttest t q => timeOk t && q.ok
  | .darkAuditRead t q => timeOk t && q.ok
  | .pairConfig t q => timeOk t && q.ok
  | .pairObject t q => timeOk t && q.ok
  | .pairBind t q => timeOk t && q.ok
  | .pairStatus t q => timeOk t && q.ok
  | .pairRelease t q => timeOk t && q.ok
  | .fwStatus t q => timeOk t && q.ok
  | .fwDownload t q => timeOk t && q.ok
  | .fwActivate t q => timeOk t && q.ok
  | .fwCommit t q => timeOk t && q.ok
  | .fwSettingsWrite t q => timeOk t && q.ok
  | .fwSettingsRead t q => timeOk t && q.ok
  | .fwLifecycle t q => timeOk t && q.ok
  | .testLoopback t q => timeOk t && q.ok
  | .testPrbs t q => timeOk t && q.ok
  | .testCable t q => timeOk t && q.ok
  | .testCipher t q => timeOk t && q.ok
  | .testService t q => timeOk t && q.ok
  | .testScrubStatus t q => timeOk t && q.ok
  | .serdesReferenceReturn t _ => timeOk t
  | .mergeVerifyDone t port => timeOk t && decide (port < 28)
  | .announceTx t slot port => timeOk t && decide (slot < 4) && decide (port < 28)
  | .spiChipSelectFall t => timeOk t
  | .t1TrainingAttemptFail t port => timeOk t && decide (port < 28)
  | .jtagTestLogicReset t => timeOk t
  | .pcsFecError t port _ => timeOk t && decide (port < 28)

end Sys2Proof
end

