-- ==== Sys2Proof/Safety.lean ====
section
/-!
DEFINITION. What counts as a safe state, and the terms in which statements speak of a command that acts and of a request that a mailbox serves.
-/
namespace Sys2Proof.Safety
open Sys2Proof Sys2Proof.Machine

abbrev Outcome := Host.Outcome State Fault Refusal

/-- A state answers when its next step gives a next state: no fault, no refusal. -/
def Answers (s : State) : Prop := ∃ u, step s = .next u

/-- The commands that wait are well formed. -/
def QueueWf (s : State) : Prop := ∀ c ∈ s.pending, c.wf = true

/-- BAR2 keeps its canonical form (Machine/Tab.lean). -/
def MemoryWf (s : State) : Prop := Memory.wf s.mem = true

/-- The state that a command of core cycle t finds: its time has come, and the queue stands aside. -/
def acting (t : Nat) (s : State) : State := passTo t { s with pending := [] }

/-- A command on s ends in state u, with the queue of s. -/
def ends (s u : State) : Outcome := .next { u with pending := s.pending }

/-! ### Requests -/

/-- A request is accepted: journal, acknowledgement, record (R533). -/
def accepted (t op : Nat) (q : Req) (s : State) : State := acceptReq op q 0 (acting t s)

/-- The state on which the command of an accepted request acts; an authenticated one has moved the counter of R545. -/
def entered (t op : Nat) (q : Req) (s : State) : State :=
  match q.auth with
  | some a => { accepted t op q s with mbx := { (accepted t op q s).mbx with authCount := a.counter } }
  | none => accepted t op q s

/-- The mailbox of a request takes it and executes its command: the device serves, the mailbox is open with room, the request is the next one under
its version, and its opcode is allowed as it stands (R525 to R545, R556, R557). -/
structure Taken (op t : Nat) (q : Req) (s : State) : Prop where
  mailbox : q.mbx < 8
  serving : serves (acting t s) = true
  image : (acting t s).sys.fw.boot = .served
  idle : (boxOf (acting t s) q.mbx).deferred = none
  opened : (boxOf (acting t s) q.mbx).state = 1
  room : 2048 ≤ ringFree (acting t s) (.rsp q.mbx)
  major : q.verMaj = (boxOf (acting t s) q.mbx).verMaj
  minor : q.verMin = (boxOf (acting t s) q.mbx).verMin
  next : q.seq = (boxOf (acting t s) q.mbx).ack + 1
  allowed : (opRule op).any (fun r => decide (r.since ≤ q.verMaj * 16 + q.verMin) && r.states.testBit (acting t s).sys.fw.lifecycle
    && (q.auth.isSome || !(r.authAll || (r.authField && decide ((acting t s).sys.fw.lifecycle = 2)))) && (!q.staged || r.bulk.isSome)) = true
  tested : testsWait op q (acting t s) = false
  room3 : q.auth.isSome = true → bulkRoom (accepted t op q s) 3 = true
  unlocked : bypassLocked op (acting t s) = false
  trusted : ∀ a, q.auth = some a → authentic op q a (accepted t op q s) = true

/-- The request is answered once, with a status and a payload, on the state e that its command leaves (R533, R534). -/
def answered (s : State) (op : Nat) (q : Req) (status : Nat) (payload : Rec) (e : State) : Outcome :=
  ends s (answer op q true status payload (journal q.mbx q.seq status e))

/-- The request has staged a set, and its answer comes when the commit is armed (R23, R534). -/
def staged (s : State) (op : Nat) (q : Req) (x : SetItem) (extra : Rec) (e : State) : Outcome :=
  ends s { e with beat := { e.beat with staged := e.beat.staged ++ [⟨x, q.mbx, op, q.seq, q.verMaj, q.verMin, extra, false⟩] } }

/-- The request is answered ACCEPTED, and its command goes on (R534, R538). -/
def underway (s : State) (op : Nat) (q : Req) (progress : Rec) (e : State) : Outcome :=
  ends s (let s1 := answer op q false 1 [] (journal q.mbx q.seq 1 e)
          setBox q.mbx { boxOf s1 q.mbx with deferred := some ⟨op, q.seq, q.args, progress⟩ } s1)

/-- Under P, on the state that it finds, the request c of an opcode is answered OK with a payload, and does eff. -/
def Gives (op : Nat) (c : Nat → Req → Instr) (P : Req → State → Prop) (payload : Req → State → Rec) (eff : Req → State → State) : Prop :=
  ∀ t q s, Taken op t q s → P q (entered t op q s) → exec (c t q) s = answered s op q 0 (payload q (entered t op q s)) (eff q (entered t op q s))

/-- Under P the request c is refused with a status and a payload, and changes nothing else than its answer does. -/
def Refuses (op : Nat) (c : Nat → Req → Instr) (P : Req → State → Prop) (status : Nat) (payload : Rec) : Prop :=
  ∀ t q s, Taken op t q s → P q (entered t op q s) → exec (c t q) s = answered s op q status payload (entered t op q s)

/-- Under P the request c stages a set, with words that its answer will carry after COMMIT_ID, and does eff at once. -/
def Stages (op : Nat) (c : Nat → Req → Instr) (P : Req → State → Prop) (x : Req → State → SetItem) (extra : Req → State → Rec) (eff : Req → State → State) :
    Prop :=
  ∀ t q s, Taken op t q s → P q (entered t op q s) →
    exec (c t q) s = staged s op q (x q (entered t op q s)) (extra q (entered t op q s)) (eff q (entered t op q s))

/-- Under P the request c is answered ACCEPTED, does eff, and goes on with a record of its progress. -/
def GoesOn (op : Nat) (c : Nat → Req → Instr) (P : Req → State → Prop) (progress : Req → State → Rec) (eff : Req → State → State) : Prop :=
  ∀ t q s, Taken op t q s → P q (entered t op q s) → exec (c t q) s = underway s op q (progress q (entered t op q s)) (eff q (entered t op q s))

/-! ### Other commands -/

/-- Under P, on the state that it finds, a command of the core domain does eff while the core runs. -/
def Does (c : Nat → Instr) (P : State → Prop) (eff : State → State) : Prop :=
  ∀ t s, coreOn (acting t s) = true → P (acting t s) → exec (c t) s = ends s (eff (acting t s))

/-- Under P, on the state that it finds, a command of a domain that no reset of the core stops does eff. -/
def DoesAlways (c : Nat → Instr) (P : State → Prop) (eff : State → State) : Prop :=
  ∀ t s, P (acting t s) → exec (c t) s = ends s (eff (acting t s))

/-! ### Writes of registers -/

/-- The earlier accesses, the lines and the lock of the SPI port let a write of an origin to a byte offset of BAR0 act at once (R475, R482, R496). -/
def Free (o : Origin) (off : Nat) (s : State) : Prop :=
  carried s o = [] ∧ (∀ v, writeWaits s o (hostCarried o off v s) = false) ∧ (o = .spi → regBit s rBRG_CTRL 25 = false)

/-- They let a write of a register through an alias act at once. -/
def Lands (o : Origin) (reg : Nat) (a : Alias) (s : State) : Prop := Free o (aliasOff reg a) s

/-- The register as a write of v through an alias leaves it, by the access code of each field (R506 to R508). -/
def newValue (reg : Nat) (a : Alias) (v : Word) (s : State) : Word := regAfter s reg ((regFields reg).getD []) a v

/-- Its storage after the write, and what the cycle keeps of it (R513). -/
def stored (reg : Nat) (a : Alias) (v : Word) (s : State) : State :=
  noteWrite reg ((regFields reg).getD []) a v (regSet reg (storeAfter s reg ((regFields reg).getD []) (newValue reg a v s)) s)

/-- While P holds of the origin, the value written, the register's new value and the state, a write of the register stores it, does eff, and is recorded. -/
def Writes (reg : Nat) (c : Nat → Origin → Alias → Word → Instr) (P : Origin → Word → Word → State → Prop) (eff : Word → State → State) : Prop :=
  ∀ o a v, Does (fun t => c t o a v) (fun s => Lands o reg a s ∧ P o v (newValue reg a v s) s)
    (fun s => writeRecord o false (aliasOff reg a) v (eff (newValue reg a v s) (stored reg a v s)))

/-! ### Runs -/

/-- The state that n steps leave, when each answers a next state. -/
def steps : Nat → State → Outcome
  | 0, s => .next s
  | n + 1, s => match step s with
    | .next u => steps n u
    | o => o

/-- The state that a command leaves; a command that stopped would leave s. -/
def after (s : State) (c : Instr) : State := match exec c s with
  | .next u => u
  | _ => s

/-- The fuses of the device: lifecycle state, rollback floor, binding of a pair and its count (R580, R616, R620). -/
def fuses (s : State) : Nat × Nat × Option (Bool × Nat) × Nat := (s.sys.fw.lifecycle, s.sys.fw.floor, s.pair.bound, s.pair.binds)

/-- Frames offered to the filter of handle h, by their lengths, and refill ticks of meter m (none), from state s on: the bytes that pass, and the state left. -/
def offered (h m : Nat) : List (Option Nat) → State → Nat × State
  | [], s => (0, s)
  | none :: l, s => offered h m l (meterTick m s)
  | some len :: l, s =>
    let r := filterSteps len (some h) none false s
    let q := offered h m l r.2.2
    (q.1 + if r.1 = none then len else 0, q.2)

end Sys2Proof.Safety
end

