-- ==== Sys2Proof/Certificates/Slice0/Obligations.lean ====
section
/-!
DEFINITION. The statements about the device for the provers.
-/
set_option linter.unusedVariables false
open Sys2Proof Sys2Proof.Machine Sys2Proof.Safety

/-- A step runs the command at the front of the queue on the state with the rest of the queue (R475, R513). -/
def Obligations.StepRunsFrontCommand : Prop :=
  ∀ (c : Instr) (q : List Instr) (s : State), step { s with pending := c :: q } = exec c { s with pending := q }

/-- What the passing of time changes, that it adds up, and what acts at the end of a cycle (the model's choices: log entries 13 and 116) (R41, R58, R354, R391, R429, R512). -/
def Obligations.TimePassesInCoreCycles : Prop :=
  (∀ s : State, s.pending = [] → step s = .next { passTo (s.time.now + 1) s with pending := [] }) ∧
  (∀ (s : State) t, s.late = [] → s.dark.lowAt = none → passTo t s = State.atTime t s) ∧
  (∀ t (s : State), s.time.now ≤ t → ∃ c : Int, State.atTime t s = { s with
      time := { s.time with now := t, corr := c, corrAt := t }
      start := if s.time.now = t then s.start else { s.toDevice with time := { s.time with now := t, corr := c, corrAt := t } } } ∧
    (0 ≤ s.time.corr → c = max 0 (s.time.corr - s.time.p.natAbs * (t - s.time.corrAt : Nat))) ∧
    (s.time.corr < 0 → c = min 0 (s.time.corr + s.time.p.natAbs * (t - s.time.corrAt : Nat)))) ∧
  (∀ (s : State) t0 t1 t2, t1 ≤ t2 → ((State.atTime t0 s).atTime t1).atTime t2 = (State.atTime t0 s).atTime t2) ∧
  (∀ (s : State) t, s.time.now ≤ (State.atTime t s).time.now ∧ (State.atTime t s).time.corr.natAbs ≤ s.time.corr.natAbs) ∧
  (∀ (s : State) t0 t, t ≤ (State.atTime t0 s).time.now → (State.atTime t0 s).atTime t = State.atTime t0 s) ∧
  (∀ n e (s : State), s.late.Pairwise (fun a b => lateFirst a b = true) →
    (giveWayTo n e s).late.Pairwise (fun a b => lateFirst a b = true) ∧ (giveWayTo n e s).late.Perm ((n, e) :: s.late)) ∧
  (∀ (s : State) d e r t, s.late = (d, e) :: r → s.dark.lowAt = none → t ≤ d → passTo t s = State.atTime t s) ∧
  (∀ (s : State) d e t, s.late = [(d, e)] → d < t → coreOn s = true →
    let u := runLate e (State.atTime d { s with late := [] })
    u.late = [] → u.dark.lowAt = none → passTo t s = State.atTime t u)

/-- Every command answers a next state in every state, keeps the queue, and does not depend on it (R512, R513). -/
def Obligations.EveryCommandCompletes : Prop :=
  ∀ (c : Instr) (s : State) (q : List Instr), ∃ u : State, exec c s = .next u ∧ u.pending = s.pending ∧ exec c { s with pending := q } = .next { u with pending := q }

/-- The queue runs its commands one after the other, in order, each on the state that the one before has left (R475, R512, R513). -/
def Obligations.QueueRunsInOrder : Prop :=
  ∀ (cs q : List Instr) (s : State), s.pending = cs ++ q → ∃ u : State, steps cs.length s = .next u ∧ u.pending = q ∧
    { u with pending := [] } = cs.foldl after { s with pending := [] }

/-- Every step keeps the memory of BAR2 in its canonical form (R472, R517, R638). -/
def Obligations.EveryStepKeepsMemoryCanonical : Prop :=
  ∀ (s u : State), Memory.wf s.mem = true → step s = .next u → Memory.wf u.mem = true

/-- Only the completion of a fuse write changes lifecycle state, rollback floor and binding (R580, R616, R617, R618, R620, R635, R646). -/
def Obligations.FusesChangeOnlyByAFuseWrite : Prop :=
  ∀ (c : Instr) (s u : State), exec c s = .next u → (∀ t good, c ≠ .fuseWriteComplete t good) →
    s.sys.fw.floor ≤ u.sys.fw.floor ∧ (fuseBusy s = false → fuses u = fuses s)

/-- What holds right after reset (R17, R36, R42, R57, R79, R472, R505, R539, R616, R634, R636, R640). -/
def Obligations.ResetStateIsAsTheSpecSays : Prop :=
  State.reset.pending = [] ∧ State.reset.mem = [] ∧ Memory.wf State.reset.mem = true ∧ State.reset.time.now = 0 ∧ State.reset.beat.seq = 0 ∧ State.reset.beat.k = 3 ∧
  State.reset.beat.kNext = 3 ∧ State.reset.time.thr = 1000 ∧ State.reset.time.map.a = 0 ∧ State.reset.time.map.cause = 7 ∧ State.reset.time.src = 0 ∧
  regRead State.reset rRST_STAT = 0x21000000 ∧ (∀ off, regGet State.reset off = regReset off) ∧
  (∀ m, (boxOf State.reset m).state = 0) ∧ (∀ id, ringOf State.reset id = {}) ∧ regRead State.reset rREG_LOCK = 0 ∧ State.reset.gw.fresh = [] ∧
  State.reset.sys.fw.floor = 0 ∧ State.reset.ev = { raised := [⟨373, 1, State.reset.ev.raised.head?.elim 0 (·.detail), 8, 0⟩] } ∧ State.reset.late = [] ∧ (∀ p, p < 28 → portUp State.reset p = false)

/-- What each reset leaves standing (R22, R42, R427, R634, R635, R681). -/
def Obligations.ResetsKeepWhatTheyKeep : Prop :=
  (∀ n s, (fuseBusy s = false → fuses (powerOnReset n s) = fuses s) ∧ (powerOnReset n s).sys.fw.flash = s.sys.fw.flash ∧ 
    { (powerOnReset n s).dark with trigHold := s.dark.trigHold, lowAt := s.dark.lowAt, forceWas := s.dark.forceWas, cur := s.dark.cur } = s.dark) ∧
  (∀ n s, (fuseBusy s = false → fuses (systemReset n s) = fuses s) ∧ (systemReset n s).sys.fw.flash = s.sys.fw.flash ∧ 
    { (systemReset n s).dark with trigHold := s.dark.trigHold, lowAt := s.dark.lowAt, forceWas := s.dark.forceWas, cur := s.dark.cur } = s.dark) ∧
  (∀ s, (fuseBusy s = false → fuses (vbatReset s) = fuses s) ∧ (vbatReset s).sys.fw.flash = s.sys.fw.flash ∧ (vbatReset s).dark = s.dark) ∧
  (∀ s, fuses (controlReset s) = fuses s ∧ (controlReset s).sys.fw.flash = s.sys.fw.flash ∧ (controlReset s).dark = s.dark) ∧
  (∀ n s, s.sys.pow.power = .run → s.sys.pow.porAt ≠ some s.time.now → resetHeld s = false → s.nm.asleep = none → s.ciph.zeroizing = false →
    let u := systemReset n s
    u.beat.seq = s.beat.seq ∧ u.beat.lastId = s.beat.lastId ∧ u.time.now = s.time.now ∧ u.gw = { fresh := s.gw.fresh } ∧ u.pair.ckpt = s.pair.ckpt ∧ u.nm.log = s.nm.log ∧
    u.cs.trace = s.cs.trace ∧ u.ciph = { slot := s.ciph.slot } ∧ u.sys.test.opened = s.sys.test.opened ∧ u.mem = [] ∧ u.buf = {} ∧ u.fw = {} ∧ u.fwd = {} ∧ u.egress = [] ∧
    u.rings = [] ∧ (∀ o, carried u o = []) ∧ u.dark = s.dark ∧ coreOn u = true)

/-- What the SYS requests that act at once do (R20, R31, R123, R131, R143, R171, R172, R189, R196, R545, R546, R564). -/
def Obligations.SystemRequestsTakeEffect : Prop :=
  Gives 0x0101 .sysSettings (fun q _ => q.args.length = 1 ∧ only (mw q 4) [(31, 24), (23, 21)] = true) (fun _ _ => [])
    (fun q e => { e with mbx := { e.mbx with authSlot := mf q 4 31 24, noticeMbx := mf q 4 23 21 } }) ∧
  Gives 0x0102 .sysBeatLength (fun q _ => q.args.length = 1 ∧ only (mw q 4) [(2, 0)] = true)
    (fun _ e => fullTime ((wtNow e / wtSec + 1) * wtSec)) (fun q e => { e with beat := { e.beat with kNext := mf q 4 2 0, kCmd := some (e.time.now, kDue e) } }) ∧
  Gives 0x0103 .sysPort (fun q _ => q.args.length = 3 ∧ portWord0 q.args = true ∧ portWord1 q.args = true ∧ portWord2 q.args = true) (fun _ _ => [])
    (fun q e => portCommand q.args e) ∧
  Gives 0x0104 .sysPortStatus (fun q _ => q.args.length = 1 ∧ only (mw q 4) [(4, 0)] = true ∧ mf q 4 4 0 < 28)
    (fun q e => if q.verMaj = 1 ∧ q.verMin ≤ 2 then (portStatus e (mf q 4 4 0)).take 8 else portStatus e (mf q 4 4 0))
    (fun q e => if q.clear then setPort (mf q 4 4 0)
        { portOf e (mf q 4 4 0) with down := 0, flap := 0, fecCorr := 0, fecUncorr := 0, pcsErr := 0, trainFail := 0, beaconMiss := 0 } e
      else e) ∧
  Gives 0x0105 .sysMdio (fun q _ => q.args.length = 2 ∧ only (mw q 5) [(15, 0)] = true ∧ bit (mw q 4) 29 = true) (fun _ _ => [0])
    (fun q e => { e with out := .mdio e.time.now q.args :: e.out }) ∧
  Gives 0x0105 .sysMdio (fun q _ => q.args.length = 2 ∧ only (mw q 5) [(15, 0)] = true ∧ bit (mw q 4) 29 = false)
    (fun _ e => [word ((Config.free e.fresh).toNat % 65536)]) (fun q e => { e with out := .mdio e.time.now q.args :: e.out, fresh := e.fresh + 1 }) ∧
  Gives 0x0109 .sysMacRead
    (fun q _ => q.args.length = 2 ∧ only (mw q 4) [(13, 0)] = true ∧ only (mw q 5) [(6, 0)] = true ∧ 1 ≤ mf q 5 6 0 ∧ mf q 5 6 0 ≤ 64)
    (fun q e => (List.range (min (mf q 5 6 0) (16384 - mf q 4 13 0))).flatMap (fun i => (List.range 4).map (rw (macGet e (mf q 4 13 0 + i)))))
    (fun _ e => e) ∧
  Gives 0x010A .sysAgeing (fun q _ => q.args.length = 1 ∧ ((mw q 4).toNat = 0 ∨ (10 ≤ (mw q 4).toNat ∧ (mw q 4).toNat ≤ 1000000))) (fun _ _ => [])
    (fun q e => { e with fwd := { e.fwd with ageing := (mw q 4).toNat } }) ∧
  Gives 0x010B .sysMacFlush (fun q _ => q.args.length = 1 ∧ only (mw q 4) [(31, 30), (28, 24), (11, 0)] = true ∧ mf q 4 31 30 = 0)
    (fun q e => [word (e.fwd.mac.length - (macFlush 0 (mf q 4 28 24) e).fwd.mac.length)])
    (fun q e => macFlush 0 (mf q 4 28 24) e) ∧
  Gives 0x010B .sysMacFlush (fun q _ => q.args.length = 1 ∧ only (mw q 4) [(31, 30), (28, 24), (11, 0)] = true ∧ mf q 4 31 30 = 1)
    (fun q e => [word (e.fwd.mac.length - (macFlush 1 (mf q 4 11 0) e).fwd.mac.length)])
    (fun q e => macFlush 1 (mf q 4 11 0) e) ∧
  Gives 0x010B .sysMacFlush (fun q _ => q.args.length = 1 ∧ only (mw q 4) [(31, 30), (28, 24), (11, 0)] = true ∧ mf q 4 31 30 = 2)
    (fun q e => [word (e.fwd.mac.length - (macFlush 2 (mf q 4 11 0) e).fwd.mac.length)]) (fun q e => macFlush 2 (mf q 4 11 0) e) ∧
  Gives 0x010D .sysBuffer
    (fun q _ => q.args.length = 33 ∧ only (mw q 4) [(17, 0)] = true ∧ mf q 4 17 0 ≤ 32768 ∧ only (mw q 5) [(17, 0)] = true ∧ mf q 5 17 0 ≤ 196608 ∧
      (∀ p < 31, only (rw q.args (2 + p)) [(31, 20), (13, 0)] = true) ∧ mf q 4 17 0 + (List.range 31).foldl (fun n p => n + fld q.args (2 + p) 13 0) 0 ≤ 196608)
    (fun _ _ => [])
    (fun q e =>
      let e1 := ringsGive (releaseLines e)
      bufNote { e1 with buf := { e1.buf with cfg := q.args } }) ∧
  Gives 0x010E .sysBufferStatus (fun q _ => q.args = [])
    (fun _ e0 =>
      let e := ringsGive (releaseLines e0)
      [word (bufFree e), word (sharedFree e), word e.buf.sysUsed, word e.buf.freeMin]
        ++ (List.range 31).map (fun p => packW [(18, sharedUsed e p), (14, guarUsed e p)]))
    (fun q e0 =>
      let e := ringsGive (releaseLines e0)
      if q.clear then { e with buf := { e.buf with freeMin := bufFree e } } else e) ∧
  Gives 0x010F .sysBridgeCounters (fun q _ => q.args.length = 1 ∧ only (mw q 4) [(4, 0)] = true ∧ mf q 4 4 0 ≤ 30)
    (fun q e =>
      let c := fun w => tget 0 e.fwd.counts (mf q 4 4 0 * 64 + w)
      [word (c 0)] ++ split64 (c 1) ++ [word (c 3)] ++ split64 (c 4) ++ (List.range 33).map (fun i => word (c (6 + i))))
    (fun q e => if q.clear then { e with fwd := { e.fwd with counts := e.fwd.counts.filter (fun x => x.1 < mf q 4 4 0 * 64 || mf q 4 4 0 * 64 + 64 ≤ x.1) } }
      else e)

/-- The bridge-port, VLAN, MAC write and mirror requests stage their records (R23, R152, R153, R165, R179, R181, R534, R684). -/
def Obligations.BridgeRequestsStageTheirSets : Prop :=
  Stages 0x0106 .sysBridgePort
    (fun q _ => q.args.length = 4 ∧ only (mw q 4) [(31, 4)] = true ∧ mf q 4 31 27 ≠ 31 ∧ 1 ≤ mf q 4 26 15 ∧ mf q 4 26 15 ≤ 4094 ∧ mf q 4 11 10 ≠ 3 ∧
      only (mw q 5) [(23, 0)] = true ∧ only (mw q 6) [(31, 2)] = true ∧ 1518 ≤ bpMaxLen q.args ∧ bpMaxLen q.args ≤ 9216 ∧ bpLearnLimit q.args ≤ 16384 ∧
      only (mw q 7) [(31, 26)] = true ∧ (mf q 7 29 28 = 0 ∨ (mf q 7 31 30 ≠ 0 ∧ mf q 7 29 28 ≠ mf q 7 31 30)))
    (fun q _ => .bridgePort (mf q 4 31 27) q.args) (fun _ _ => []) (fun _ e => e) ∧
  Stages 0x0107 .sysVlan
    (fun q _ => q.args.length = 4 ∧ only (mw q 4) [(11, 0)] = true ∧ mf q 4 11 0 ≠ 0 ∧ mf q 4 11 0 ≠ 4095 ∧ bit (mw q 5) 31 = false ∧ bit (mw q 6) 31 = false ∧
      only (mw q 7) [(31, 18)] = true)
    (fun q _ => .vlan (mf q 4 11 0) (q.args.drop 1)) (fun _ _ => []) (fun _ e => e) ∧
  Stages 0x0108 .sysMacWrite
    (fun q e => q.args.length = 4 ∧ ¬(macType q.args = 3 ∧ flag q.args 0 24 = false) ∧ ¬(macType q.args = 2 ∧ flag q.args 0 24 = true) ∧ macType q.args < 6 ∧
      (macType q.args = 2 ∨ macSrcLock q.args = false) ∧ macDestOk q.args = true ∧ rw q.args 3 = 0 ∧
      (macType q.args = 0 ∨ macFixed (projected e) q.args < 4) ∧ (macType q.args = 1 → macStatic e q.args = false ∧ macStatic (projected e) q.args = false))
    (fun q _ => .mac q.args) (fun _ _ => []) (fun _ e => e) ∧
  Refuses 0x0108 .sysMacWrite
    (fun q e => q.args.length = 4 ∧ ¬(macType q.args = 3 ∧ flag q.args 0 24 = false) ∧ ¬(macType q.args = 2 ∧ flag q.args 0 24 = true) ∧ macType q.args < 6 ∧
      (macType q.args = 2 ∨ macSrcLock q.args = false) ∧ macDestOk q.args = true ∧ rw q.args 3 = 0 ∧ macType q.args ≠ 0 ∧ 4 ≤ macFixed (projected e) q.args)
    5 [0] ∧
  Refuses 0x0108 .sysMacWrite
    (fun q e => q.args.length = 4 ∧ macType q.args = 1 ∧ macSrcLock q.args = false ∧ macDestOk q.args = true ∧ rw q.args 3 = 0 ∧
      macFixed (projected e) q.args < 4 ∧ (macStatic e q.args = true ∨ macStatic (projected e) q.args = true))
    3 [packW [(16, 5), (16, 0)]] ∧
  Stages 0x010C .sysMirror
    (fun q e => q.args.length = 4 ∧ only (mw q 4) [(1, 0)] = true ∧ only (mw q 5) [(31, 23)] = true ∧ mf q 5 30 26 ≤ 28 ∧ bit (mw q 6) 31 = false ∧
      bit (mw q 7) 31 = false ∧ (bit (mw q 5) 31 = false ∨ e.sys.fw.lifecycle ≠ 2))
    (fun q _ => .mirror (mf q 4 1 0) (q.args.drop 1)) (fun q e => [word (tget 0 e.fwd.mirrorDrop (mf q 4 1 0))]) (fun _ e => e) ∧
  Refuses 0x010C .sysMirror
    (fun q e => q.args.length = 4 ∧ only (mw q 4) [(1, 0)] = true ∧ only (mw q 5) [(31, 23)] = true ∧ mf q 5 30 26 ≤ 28 ∧ bit (mw q 6) 31 = false ∧
      bit (mw q 7) 31 = false ∧ bit (mw q 5) 31 = true ∧ e.sys.fw.lifecycle = 2)
    6 []

/-- What the TIME requests do (R48, R55, R57, R59, R82, R83, R84, R85, R93, R109, R112, R113). -/
def Obligations.TimeRequestsTakeEffect : Prop :=
  Gives 0x0201 .timeDomain
    (fun q e => q.args.length = 7 ∧ only (mw q 4) [(1, 0)] = true ∧ only (mw q 5) [(31, 6)] = true ∧ slotMode (q.args.drop 1) ≠ 3 ∧
      only (mw q 6) [(31, 5)] = true ∧ -7 ≤ signed 4 (mf q 6 15 12) ∧ signed 4 (mf q 6 15 12) ≤ 0 ∧ -3 ≤ signed 4 (mf q 6 11 8) ∧
      signed 4 (mf q 6 11 8) ≤ 3 ∧ only (mw q 7) [(31, 16)] = true ∧ 2 ≤ mf q 7 31 24 ∧ 2 ≤ mf q 7 23 16 ∧ mf q 8 31 24 = 0 ∧
      (∀ p < 28, extRole (q.args.drop 1) p ≠ 3) ∧ only (mw q 10) [(27, 0)] = true ∧ domainConflict (mf q 4 1 0) (q.args.drop 1) e = none ∧
      (slotMode (q.args.drop 1) = 2 → drives e (mf q 4 1 0) = true → isGrandmaster (domainTakes (mf q 4 1 0) (q.args.drop 1) e) (mf q 4 1 0) = false))
    (fun _ _ => []) (fun q e => runBmca (mf q 4 1 0) (domainTakes (mf q 4 1 0) (q.args.drop 1) e)) ∧
  (∀ t q s, Taken 0x0201 t q s → q.args.length = 7 → only (mw q 4) [(1, 0)] = true → only (mw q 5) [(31, 6)] = true → slotMode (q.args.drop 1) = 2 →
    only (mw q 6) [(31, 5)] = true → -7 ≤ signed 4 (mf q 6 15 12) → signed 4 (mf q 6 15 12) ≤ 0 → -3 ≤ signed 4 (mf q 6 11 8) →
    signed 4 (mf q 6 11 8) ≤ 3 → only (mw q 7) [(31, 16)] = true → 2 ≤ mf q 7 31 24 → 2 ≤ mf q 7 23 16 → mf q 8 31 24 = 0 →
    (∀ p < 28, extRole (q.args.drop 1) p ≠ 3) → only (mw q 10) [(27, 0)] = true →
    domainConflict (mf q 4 1 0) (q.args.drop 1) (entered t 0x0201 q s) = none → drives (entered t 0x0201 q s) (mf q 4 1 0) = true →
    isGrandmaster (domainTakes (mf q 4 1 0) (q.args.drop 1) (entered t 0x0201 q s)) (mf q 4 1 0) = true →
    exec (.timeDomain t q) s = answered s 0x0201 q 3 [packW [(16, 4), (16, 0)]] (timeEvent (38 + mf q 4 1 0) 7 (entered t 0x0201 q s))) ∧
  (∀ n, Refuses 0x0201 .timeDomain
    (fun q e => q.args.length = 7 ∧ only (mw q 4) [(1, 0)] = true ∧ only (mw q 5) [(31, 6)] = true ∧ slotMode (q.args.drop 1) ≠ 3 ∧
      only (mw q 6) [(31, 5)] = true ∧ -7 ≤ signed 4 (mf q 6 15 12) ∧ signed 4 (mf q 6 15 12) ≤ 0 ∧ -3 ≤ signed 4 (mf q 6 11 8) ∧
      signed 4 (mf q 6 11 8) ≤ 3 ∧ only (mw q 7) [(31, 16)] = true ∧ 2 ≤ mf q 7 31 24 ∧ 2 ≤ mf q 7 23 16 ∧ mf q 8 31 24 = 0 ∧
      (∀ p < 28, extRole (q.args.drop 1) p ≠ 3) ∧ only (mw q 10) [(27, 0)] = true ∧ domainConflict (mf q 4 1 0) (q.args.drop 1) e = some n)
    3 [packW [(16, n), (16, 0)]]) ∧
  (∀ k src, (k = 0 ∧ src = 0) ∨ (k = 3 ∧ src = 2) ∨ (k = 4 ∧ src = 3) → Gives 0x0202 .timeSource
    (fun q _ => q.args.length = 1 ∧ only (mw q 4) [(15, 0)] = true ∧ 1 ≤ mf q 4 15 8 ∧ mf q 4 2 0 = k) (fun _ _ => [])
    (fun _ e =>
      let u := { e with net := { e.net with pair := none, hostSwitch := none } }
      if e.time.src = src ∧ e.time.domain = 0 then u else changeSource src 0 u)) ∧
  Gives 0x0202 .timeSource
    (fun q e => q.args.length = 1 ∧ only (mw q 4) [(15, 0)] = true ∧ 1 ≤ mf q 4 15 8 ∧ mf q 4 2 0 = 1 ∧ isGrandmaster e (mf q 4 4 3) = false ∧
      slotEnabled e (mf q 4 4 3) = true)
    (fun _ _ => [])
    (fun q e =>
      let u := { e with net := { e.net with pair := none, hostSwitch := none } }
      if e.time.src = 1 ∧ e.time.domain = mf q 4 4 3 then u else changeSource 1 (mf q 4 4 3) u) ∧
  (∀ a b, Gives 0x0202 .timeSource
    (fun q e => q.args.length = 1 ∧ only (mw q 4) [(15, 0)] = true ∧ 1 ≤ mf q 4 15 8 ∧ mf q 4 2 0 = 2 ∧ mf q 4 4 3 = a ∧ mf q 4 6 5 = b ∧ a ≠ b ∧
      isGrandmaster e a = false ∧ isGrandmaster e b = false ∧ slotEnabled e a = true ∧ slotEnabled e b = true ∧ (slavePort e a).isSome = true ∧
      (slavePort e b).isSome = true)
    (fun _ _ => [])
    (fun q e =>
      let u := { e with net := { e.net with pair := some (a, b), hostSwitch := none, revert := bit (mw q 4) 7, holdOff := mf q 4 15 8 } }
      if e.time.src = 1 ∧ e.time.domain = a then u else changeSource 1 a u)) ∧
  (∀ t q s, Taken 0x0202 t q s → q.args.length = 1 → only (mw q 4) [(15, 0)] = true → 1 ≤ mf q 4 15 8 → mf q 4 2 0 = 1 →
    isGrandmaster (entered t 0x0202 q s) (mf q 4 4 3) = true →
    exec (.timeSource t q) s = answered s 0x0202 q 3 [packW [(16, 4), (16, 0)]] (timeEvent (38 + mf q 4 4 3) 7 (entered t 0x0202 q s))) ∧
  Refuses 0x0202 .timeSource
    (fun q e => q.args.length = 1 ∧ only (mw q 4) [(15, 0)] = true ∧ 1 ≤ mf q 4 15 8 ∧ mf q 4 2 0 = 1 ∧ isGrandmaster e (mf q 4 4 3) = false ∧
      slotEnabled e (mf q 4 4 3) = false)
    3 [packW [(16, 4), (16, 0)]] ∧
  Gives 0x0203 .timeSwitch
    (fun q e => q.args.length = 1 ∧ only (mw q 4) [(1, 0)] = true ∧ isGrandmaster e (mf q 4 1 0) = false ∧
      ∃ a b, e.net.pair = some (a, b) ∧ (mf q 4 1 0 = a ∨ mf q 4 1 0 = b))
    (fun _ _ => []) (fun q e => { e with net := { e.net with hostSwitch := some (mf q 4 1 0) } }) ∧
  Refuses 0x0203 .timeSwitch (fun q e => q.args.length = 1 ∧ only (mw q 4) [(1, 0)] = true ∧ e.net.pair = none) 3 [packW [(16, 4), (16, 0)]] ∧
  Gives 0x0204 .timePort
    (fun q e => q.args.length = 6 ∧ only (mw q 4) [(17, 0)] = true ∧ mf q 4 4 0 < 28 ∧ -4 ≤ signed 4 (mf q 4 8 5) ∧ signed 4 (mf q 4 8 5) ≤ 3 ∧
      1 ≤ mf q 4 16 9 ∧ only (mw q 8) [(13, 0)] = true ∧ mf q 8 13 0 ≤ 10000 ∧ only (mw q 9) [(13, 0)] = true ∧ mf q 9 13 0 ≤ 10000 ∧
      portUp e (mf q 4 4 0) = false)
    (fun _ _ => []) (fun q e => setPortTime (mf q 4 4 0) { portTimeOf e (mf q 4 4 0) with cfg := q.args } e) ∧
  Gives 0x0205 .timeCorrect (fun q e => q.args.length = 1 ∧ e.time.src = 2)
    (fun q e => [word (b2n (correctionRefused (signed 32 (mw q 4).toNat * 65536) e))])
    (fun q e => requestCorrection (signed 32 (mw q 4).toNat * 65536) (leaveHoldover e)) ∧
  Refuses 0x0205 .timeCorrect (fun q e => q.args.length = 1 ∧ e.time.src ≠ 2) 3 [0] ∧
  Gives 0x0206 .timeJumpThreshold (fun q _ => q.args.length = 1 ∧ 64 ≤ (mw q 4).toNat ∧ (mw q 4).toNat ≤ 1000000000) (fun _ _ => [])
    (fun q e => { e with time := { e.time with thr := (mw q 4).toNat } }) ∧
  Gives 0x0207 .timeStep (fun q _ => q.args.length = 4 ∧ fullOk q.args = true ∧ only (mw q 7) [(0, 0)] = true)
    (fun q e => split64 (anchorOf (requestMapping { step := some (ofFull q.args), causes := [4] }
      { e with ptime := { e.ptime with followStep := bit (mw q 7) 0 } })))
    (fun q e => requestMapping { step := some (ofFull q.args), causes := [4] } { e with ptime := { e.ptime with followStep := bit (mw q 7) 0 } }) ∧
  Gives 0x0208 .timeStatus (fun q _ => q.args.length = 1 ∧ only (mw q 4) [(1, 0)] = true) (fun q e => slotStatus e (mf q 4 1 0))
    (fun q e => if q.clear then
        { e with net := { e.net with counts := e.net.counts.filter (fun x => !(x.1 / 512 = mf q 4 1 0 || portCounter (x.1 % 16))) } }
      else e) ∧
  Gives 0x0209 .timePairTime
    (fun q e => q.args.length = 2 ∧ only (mw q 4) [(1, 0)] = true ∧ only (mw q 5) [(13, 0)] = true ∧ mf q 5 13 0 ≤ 10000 ∧ mf q 4 1 0 = e.ptime.role ∧
      mf q 4 1 0 ≠ 3)
    (fun _ _ => []) (fun q e => { e with ptime := { e.ptime with delay := mf q 5 13 0 } }) ∧
  Gives 0x0209 .timePairTime
    (fun q e => q.args.length = 2 ∧ only (mw q 4) [(1, 0)] = true ∧ only (mw q 5) [(13, 0)] = true ∧ mf q 5 13 0 ≤ 10000 ∧ mf q 4 1 0 ≠ e.ptime.role ∧
      mf q 4 1 0 ≠ 3)
    (fun _ _ => [])
    (fun q e => { loseLock e with ptime := { role := mf q 4 1 0, delay := mf q 5 13 0, followStep := e.ptime.followStep, stepTgl := e.ptime.stepTgl } })

/-- What the SCHED requests do (R204, R205, R206, R207, R208, R214, R217, R218, R235, R237, R557, R568). -/
def Obligations.SchedulerRequestsTakeEffect : Prop :=
  Stages 0x0301 .schedPortScheduler
    (fun q e => q.args.length = 11 ∧ mf q 4 31 27 ≤ 30 ∧ (28 ≤ mf q 4 31 27 → mf q 4 26 6 = 0) ∧ bit (mw q 4) 0 = false ∧ mf q 4 4 1 ≤ 11 ∧
      only (mw q 6) [(31, 16)] = true ∧
      (∀ c < 8, srAlg q.args c ≠ 3 ∧ (28 ≤ mf q 4 31 27 → srAlg q.args c = 0) ∧ 1 ≤ srQmax q.args c ∧ 1 ≤ srYmax q.args c ∧ srYmax q.args c ≤ srQmax q.args c ∧ only (rw q.args (3 + c)) [(31, 4)] = true) ∧
      schedConflict e q.args = none)
    (fun q _ => .portSched (mf q 4 31 27) q.args) (fun _ _ => [])
    (fun q e => setEgress (mf q 4 31 27) { egressOf e (mf q 4 31 27) with schedLast := q.args } e) ∧
  (∀ n, Refuses 0x0301 .schedPortScheduler
    (fun q e => q.args.length = 11 ∧ mf q 4 31 27 ≤ 30 ∧ (28 ≤ mf q 4 31 27 → mf q 4 26 6 = 0) ∧ bit (mw q 4) 0 = false ∧ mf q 4 4 1 ≤ 11 ∧
      only (mw q 6) [(31, 16)] = true ∧
      (∀ c < 8, srAlg q.args c ≠ 3 ∧ (28 ≤ mf q 4 31 27 → srAlg q.args c = 0) ∧ 1 ≤ srQmax q.args c ∧ 1 ≤ srYmax q.args c ∧ srYmax q.args c ≤ srQmax q.args c ∧ only (rw q.args (3 + c)) [(31, 4)] = true) ∧
      schedConflict e q.args = some n)
    3 [packW [(16, n), (16, 0)]]) ∧
  Gives 0x0302 .schedGateList
    (fun q e => ∃ ws, 5 ≤ q.args.length ∧ bulkOf 5 q e = some (ws, 8 * mf q 4 26 16) ∧ mf q 4 31 27 < 28 ∧ mf q 4 26 16 ≤ 1024 ∧ mf q 4 7 0 = 0 ∧
      (mf q 4 26 16 ≠ 0 ∨ q.staged = false) ∧ fullOk (q.args.drop 1) = true ∧ 1000 ≤ (mw q 8).toNat ∧ (mw q 8).toNat ≤ 1000000000 ∧
      badEntry 5 q gateEntryFault (pairsOf ws) = none ∧ (egressOf e (mf q 4 31 27)).gates.busy = false)
    (fun _ _ => [])
    (fun q e =>
      let g := (egressOf e (mf q 4 31 27)).gates
      let l : GateList := { init := mf q 4 15 8, base := ofFull (q.args.drop 1), cycle := (mw q 8).toNat,
                            entries := (pairsOf (((bulkOf 5 q e).map (·.1)).getD [])).map (fun x => (x.1, x.2.toNat)) }
      setEgress (mf q 4 31 27) { egressOf e (mf q 4 31 27) with gates := { setBank (1 - g.force) l g with written := true } } e) ∧
  Refuses 0x0302 .schedGateList
    (fun q e => ∃ ws, 5 ≤ q.args.length ∧ bulkOf 5 q e = some (ws, 8 * mf q 4 26 16) ∧ mf q 4 31 27 < 28 ∧ mf q 4 26 16 ≤ 1024 ∧ mf q 4 7 0 = 0 ∧
      (mf q 4 26 16 ≠ 0 ∨ q.staged = false) ∧ fullOk (q.args.drop 1) = true ∧ 1000 ≤ (mw q 8).toNat ∧ (mw q 8).toNat ≤ 1000000000 ∧
      badEntry 5 q gateEntryFault (pairsOf ws) = none ∧ (egressOf e (mf q 4 31 27)).gates.busy = true)
    4 [] ∧
  Stages 0x0303 .schedGateListArm
    (fun q e => q.args.length = 1 ∧ only (mw q 4) [(31, 27)] = true ∧ mf q 4 31 27 < 28 ∧ (egressOf e (mf q 4 31 27)).gates.written = true)
    (fun q _ => .gateSwap (mf q 4 31 27)) (fun _ _ => [])
    (fun q e => setEgress (mf q 4 31 27) { egressOf e (mf q 4 31 27) with gates := { (egressOf e (mf q 4 31 27)).gates with busy := true } } e) ∧
  Refuses 0x0303 .schedGateListArm
    (fun q e => q.args.length = 1 ∧ only (mw q 4) [(31, 27)] = true ∧ mf q 4 31 27 < 28 ∧ (egressOf e (mf q 4 31 27)).gates.written = false)
    3 [packW [(16, 4), (16, 0)]] ∧
  Gives 0x0304 .schedGateStatus (fun q _ => q.args.length = 1 ∧ only (mw q 4) [(4, 0)] = true ∧ mf q 4 4 0 < 28) (fun q e => gateStatus e (mf q 4 4 0))
    (fun q e => if q.clear then setEgress (mf q 4 4 0) { egressOf e (mf q 4 4 0) with gates := { (egressOf e (mf q 4 4 0)).gates with late := false } } e
      else e) ∧
  Stages 0x0305 .schedShaper
    (fun q e => q.args.length = 4 ∧ mf q 4 31 27 < 28 ∧ mf q 4 23 0 = 0 ∧ 1 ≤ (mw q 5).toNat ∧ (mw q 5).toNat ≤ 3125000000 ∧
      (mw q 5).toNat ≤ lineRate e (mf q 4 31 27) * 125000 ∧ bit (mw q 6) 31 = false ∧ (mw q 7 = 0 ∨ bit (mw q 7) 31 = true) ∧
      (srAlg (schedAsked e (mf q 4 31 27)) (mf q 4 26 24) = 2 → 84 ≤ (mw q 6).toNat ∧ mw q 7 = 0))
    (fun q _ => .shaper (mf q 4 31 27) (mf q 4 26 24) q.args) (fun _ _ => [])
    (fun q e => setShaper (mf q 4 31 27) (mf q 4 26 24) { shaperOf e (mf q 4 31 27) (mf q 4 26 24) with last := q.args } e) ∧
  Gives 0x0306 .schedSample (fun q _ => q.args.length = 1 ∧ only (mw q 4) [(4, 0)] = true ∧ mf q 4 4 0 ≤ 30) (fun q e => sampleRecord e (mf q 4 4 0))
    (fun _ e => e) ∧
  Gives 0x0307 .schedCounters (fun q _ => q.args.length = 1 ∧ only (mw q 4) [(4, 0)] = true ∧ mf q 4 4 0 ≤ 30)
    (fun q e =>
      let c := fun w => word (tget 0 (egressOf e (mf q 4 4 0)).counts w)
      [c 0, c 1, c 2] ++ (List.range 8).flatMap (fun k =>
        (List.range 7).map (fun i => c (3 + 8 * k + i)) ++ [packW [(1, b2n (rateCapped e (mf q 4 4 0) k)), (31, 0)]]))
    (fun q e => if q.clear then setEgress (mf q 4 4 0) { egressOf e (mf q 4 4 0) with counts := [] } e else e)

/-- What the STREAM requests do (R159, R161, R163, R243, R245, R248, R249, R252, R253, R259, R261, R569). -/
def Obligations.StreamRequestsTakeEffect : Prop :=
  Stages 0x0401 .streamIpProfile
    (fun q e => q.args.length = 1 ∧ only (mw q 4) [(14, 8), (1, 0)] = true ∧
      (mf q 4 14 8 = ipProfileOf (projected e) (mf q 4 1 0) ∨
        (projected e).fwd.ident.any (fun x => identFunc x.2 = 3 && identProfile x.2 = mf q 4 1 0) = false))
    (fun q _ => .ipProfile (mf q 4 1 0) (mf q 4 14 8)) (fun _ _ => []) (fun _ e => e) ∧
  Refuses 0x0401 .streamIpProfile
    (fun q e => q.args.length = 1 ∧ only (mw q 4) [(14, 8), (1, 0)] = true ∧ mf q 4 14 8 ≠ ipProfileOf (projected e) (mf q 4 1 0) ∧
      (projected e).fwd.ident.any (fun x => identFunc x.2 = 3 && identProfile x.2 = mf q 4 1 0) = true)
    3 [packW [(16, 4), (16, 0)]] ∧
  Stages 0x0402 .streamIdWrite
    (fun q e => q.args.length = (if identV6 q.args && identFunc q.args = 3 then 16 else 8) ∧ (identChecks q.args).all (·.2) = true ∧
      (let p := projected e
       let b := identBucket (identKey (ipProfileOf p (identProfile q.args)) q.args)
       (identPlace p b (identV6 q.args && decide (identFunc q.args = 3))).isSome = true ∧ (macWays b).any (fun j => identSame p q.args (tget [] p.fwd.ident j)) = false))
    (fun q e =>
      let p := projected e
      .streamId ((identPlace p (identBucket (identKey (ipProfileOf p (identProfile q.args)) q.args)) (identV6 q.args && decide (identFunc q.args = 3))).getD 0) q.args)
    (fun q e =>
      let p := projected e
      [word ((identPlace p (identBucket (identKey (ipProfileOf p (identProfile q.args)) q.args)) (identV6 q.args && decide (identFunc q.args = 3))).getD 0)])
    (fun _ e => e) ∧
  Refuses 0x0402 .streamIdWrite
    (fun q e => q.args.length = (if identV6 q.args && identFunc q.args = 3 then 16 else 8) ∧ (identChecks q.args).all (·.2) = true ∧
      (let p := projected e
       identPlace p (identBucket (identKey (ipProfileOf p (identProfile q.args)) q.args)) (identV6 q.args && decide (identFunc q.args = 3)) = none))
    5 [0] ∧
  Refuses 0x0402 .streamIdWrite
    (fun q e => q.args.length = (if identV6 q.args && identFunc q.args = 3 then 16 else 8) ∧ (identChecks q.args).all (·.2) = true ∧
      (let p := projected e
       let b := identBucket (identKey (ipProfileOf p (identProfile q.args)) q.args)
       (identPlace p b (identV6 q.args && decide (identFunc q.args = 3))).isSome = true ∧ (macWays b).any (fun j => identSame p q.args (tget [] p.fwd.ident j)) = true))
    3 [0] ∧
  Stages 0x0403 .streamIdDelete (fun q _ => q.args.length = 1 ∧ only (mw q 4) [(11, 0)] = true) (fun q _ => .streamId (mf q 4 11 0) []) (fun _ _ => []) (fun _ e => e) ∧
  Stages 0x0404 .streamHandle
    (fun q e => q.args.length = 3 ∧ only (mw q 4) [(11, 0)] = true ∧ only (mw q 5) [(31, 14)] = true ∧ only (mw q 6) [(31, 10)] = true ∧
      streamRefs (projectedWith (.handle (mf q 4 11 0) (q.args.drop 1)) e) = true)
    (fun q _ => .handle (mf q 4 11 0) (q.args.drop 1)) (fun _ _ => []) (fun _ e => e) ∧
  (∀ n, Refuses 0x0404 .streamHandle
    (fun q e => q.args.length = 3 ∧ only (mw q 4) [(11, 0)] = true ∧ only (mw q 5) [(31, 14)] = true ∧ only (mw q 6) [(31, 10)] = true ∧
      streamRefs (projectedWith (.handle (mf q 4 11 0) (q.args.drop 1)) e) = false ∧ handleFault e (q.args.drop 1) = n)
    3 [packW [(16, n), (16, 0)]]) ∧
  Stages 0x0405 .streamFilter
    (fun q e => q.args.length = 3 ∧ only (mw q 4) [(11, 0)] = true ∧ only (mw q 5) [(31, 4)] = true ∧
      (mf q 5 30 17 = 0 ∨ (64 ≤ mf q 5 30 17 ∧ mf q 5 30 17 ≤ 9216)) ∧ only (mw q 6) [(31, 19)] = true ∧
      streamRefs (projectedWith (.filter (mf q 4 11 0) (q.args.drop 1)) e) = true)
    (fun q _ => .filter (mf q 4 11 0) (q.args.drop 1)) (fun _ _ => []) (fun _ e => e) ∧
  (∀ n, Refuses 0x0405 .streamFilter
    (fun q e => q.args.length = 3 ∧ only (mw q 4) [(11, 0)] = true ∧ only (mw q 5) [(31, 4)] = true ∧
      (mf q 5 30 17 = 0 ∨ (64 ≤ mf q 5 30 17 ∧ mf q 5 30 17 ≤ 9216)) ∧ only (mw q 6) [(31, 19)] = true ∧
      streamRefs (projectedWith (.filter (mf q 4 11 0) (q.args.drop 1)) e) = false ∧ filterFault e (q.args.drop 1) = n)
    3 [packW [(16, n), (16, 0)]]) ∧
  Refuses 0x0406 .streamGate
    (fun q e => q.args.length = 6 ∧ only (mw q 4) [(10, 0)] = true ∧ mf q 5 10 0 ≤ 1024 ∧ mf q 5 23 11 + mf q 5 10 0 ≤ 8192 ∧
      fullOk (q.args.drop 2) = true ∧ 1000 ≤ (mw q 9).toNat ∧ (mw q 9).toNat ≤ 1000000000 ∧ (sgateOf e (mf q 4 10 0)).busy = false ∧
      streamRefs (projectedWith (.gate (mf q 4 10 0) (q.args.drop 1)) e) = false)
    3 [packW [(16, 5), (16, 0)]] ∧
  Stages 0x0406 .streamGate
    (fun q e => q.args.length = 6 ∧ only (mw q 4) [(10, 0)] = true ∧ mf q 5 10 0 ≤ 1024 ∧ mf q 5 23 11 + mf q 5 10 0 ≤ 8192 ∧
      fullOk (q.args.drop 2) = true ∧ 1000 ≤ (mw q 9).toNat ∧ (mw q 9).toNat ≤ 1000000000 ∧ (sgateOf e (mf q 4 10 0)).busy = false ∧
      streamRefs (projectedWith (.gate (mf q 4 10 0) (q.args.drop 1)) e) = true)
    (fun q _ => .gate (mf q 4 10 0) (q.args.drop 1)) (fun _ _ => [])
    (fun q e => setSgate (mf q 4 10 0) { sgateOf e (mf q 4 10 0) with busy := true } e) ∧
  Refuses 0x0406 .streamGate
    (fun q e => q.args.length = 6 ∧ only (mw q 4) [(10, 0)] = true ∧ mf q 5 10 0 ≤ 1024 ∧ mf q 5 23 11 + mf q 5 10 0 ≤ 8192 ∧
      fullOk (q.args.drop 2) = true ∧ 1000 ≤ (mw q 9).toNat ∧ (mw q 9).toNat ≤ 1000000000 ∧ (sgateOf e (mf q 4 10 0)).busy = true)
    4 [] ∧
  Gives 0x0407 .streamGatePool
    (fun q e => ∃ ws, 2 ≤ q.args.length ∧ bulkOf 2 q e = some (ws, 8 * mf q 5 11 0) ∧ only (mw q 4) [(12, 0)] = true ∧ only (mw q 5) [(11, 0)] = true ∧
      1 ≤ mf q 5 11 0 ∧ mf q 5 11 0 ≤ 2048 ∧ mf q 4 12 0 + mf q 5 11 0 ≤ 8192 ∧ badEntry 2 q poolEntryFault (pairsOf ws) = none ∧
      poolUsed e (mf q 4 12 0) (mf q 5 11 0) = false)
    (fun _ _ => [])
    (fun q e => { e with str := { e.str with
      pool := (pairsOf (((bulkOf 2 q e).map (·.1)).getD [])).zipIdx.foldl (fun p x => tset (0, 0) p (mf q 4 12 0 + x.2) x.1) e.str.pool } }) ∧
  Refuses 0x0407 .streamGatePool
    (fun q e => ∃ ws, 2 ≤ q.args.length ∧ bulkOf 2 q e = some (ws, 8 * mf q 5 11 0) ∧ only (mw q 4) [(12, 0)] = true ∧ only (mw q 5) [(11, 0)] = true ∧
      1 ≤ mf q 5 11 0 ∧ mf q 5 11 0 ≤ 2048 ∧ mf q 4 12 0 + mf q 5 11 0 ≤ 8192 ∧ badEntry 2 q poolEntryFault (pairsOf ws) = none ∧
      poolUsed e (mf q 4 12 0) (mf q 5 11 0) = true)
    3 [packW [(16, 4), (16, 0)]] ∧
  Refuses 0x0408 .streamMeter
    (fun q e => q.args.length = 6 ∧ only (mw q 4) [(11, 0)] = true ∧ only (mw q 5) [(31, 27)] = true ∧
      (mw q 6).toNat ≤ (if bit (mw q 5) 30 then 16777215 else 3125000000) ∧ (mw q 7).toNat ≤ (if bit (mw q 5) 30 then 65535 else 2147483647) ∧
      (mw q 8).toNat ≤ (if bit (mw q 5) 30 then 16777215 else 3125000000) ∧ (mw q 6).toNat ≤ (mw q 8).toNat ∧
      (mw q 9).toNat ≤ (if bit (mw q 5) 30 then 65535 else 2147483647) ∧ streamRefs (projectedWith (.meter (mf q 4 11 0) (q.args.drop 1)) e) = false)
    3 [packW [(16, 5), (16, 0)]] ∧
  Stages 0x0408 .streamMeter
    (fun q e => q.args.length = 6 ∧ only (mw q 4) [(11, 0)] = true ∧ only (mw q 5) [(31, 27)] = true ∧
      (mw q 6).toNat ≤ (if bit (mw q 5) 30 then 16777215 else 3125000000) ∧ (mw q 7).toNat ≤ (if bit (mw q 5) 30 then 65535 else 2147483647) ∧
      (mw q 8).toNat ≤ (if bit (mw q 5) 30 then 16777215 else 3125000000) ∧ (mw q 6).toNat ≤ (mw q 8).toNat ∧
      (mw q 9).toNat ≤ (if bit (mw q 5) 30 then 65535 else 2147483647) ∧ streamRefs (projectedWith (.meter (mf q 4 11 0) (q.args.drop 1)) e) = true)
    (fun q _ => .meter (mf q 4 11 0) (q.args.drop 1)) (fun _ _ => []) (fun _ e => e) ∧
  Stages 0x0409 .streamGeneration
    (fun q e => q.args.length = 2 ∧ only (mw q 4) [(9, 0)] = true ∧ only (mw q 5) [(31, 30), (15, 0)] = true ∧
      streamRefs (projectedWith (.generation (mf q 4 9 0) (q.args.drop 1)) e) = true)
    (fun q _ => .generation (mf q 4 9 0) (q.args.drop 1)) (fun _ _ => []) (fun _ e => e) ∧
  Stages 0x040A .streamRecovery
    (fun q e => q.args.length = 4 ∧ only (mw q 4) [(9, 0)] = true ∧ only (mw q 5) [(31, 15)] = true ∧
      (bit (mw q 5) 30 = true ∨ (2 ≤ rvHistory (q.args.drop 1) ∧ rvHistory (q.args.drop 1) ≤ 32)) ∧ 2 ≤ mf q 5 18 15 ∧ mf q 5 18 15 ≤ 8 ∧
      1 ≤ mf q 6 31 16 ∧ 1 ≤ mf q 7 31 16 ∧ 1 ≤ mf q 7 15 0 ∧ mf q 7 31 16 ≤ mf q 7 15 0 ∧
      streamRefs (projectedWith (.recovery (mf q 4 9 0) (q.args.drop 1)) e) = true)
    (fun q _ => .recovery (mf q 4 9 0) (q.args.drop 1)) (fun _ _ => []) (fun _ e => e) ∧
  Refuses 0x0409 .streamGeneration
    (fun q e => q.args.length = 2 ∧ only (mw q 4) [(9, 0)] = true ∧ only (mw q 5) [(31, 30), (15, 0)] = true ∧
      streamRefs (projectedWith (.generation (mf q 4 9 0) (q.args.drop 1)) e) = false)
    3 [packW [(16, 5), (16, 0)]] ∧
  Refuses 0x040A .streamRecovery
    (fun q e => q.args.length = 4 ∧ only (mw q 4) [(9, 0)] = true ∧ only (mw q 5) [(31, 15)] = true ∧
      (bit (mw q 5) 30 = true ∨ (2 ≤ rvHistory (q.args.drop 1) ∧ rvHistory (q.args.drop 1) ≤ 32)) ∧ 2 ≤ mf q 5 18 15 ∧ mf q 5 18 15 ≤ 8 ∧
      1 ≤ mf q 6 31 16 ∧ 1 ≤ mf q 7 31 16 ∧ 1 ≤ mf q 7 15 0 ∧ mf q 7 31 16 ≤ mf q 7 15 0 ∧
      streamRefs (projectedWith (.recovery (mf q 4 9 0) (q.args.drop 1)) e) = false)
    3 [packW [(16, 5), (16, 0)]] ∧
  Gives 0x040B .streamClear (fun q _ => q.args.length = 1 ∧ only (mw q 4) [(31, 29), (11, 0)] = true ∧ mf q 4 31 29 = 0) (fun _ _ => [])
    (fun q e => setFilter (mf q 4 11 0) { filterOf e (mf q 4 11 0) with
      blocked := (filterOf e (mf q 4 11 0)).blocked && decide ((filterOf e (mf q 4 11 0)).blockedAt = some e.time.now) } e) ∧
  Gives 0x040B .streamClear (fun q _ => q.args.length = 1 ∧ only (mw q 4) [(31, 29), (11, 0)] = true ∧ mf q 4 31 29 = 1 ∧ mf q 4 11 0 < 2048) (fun _ _ => [])
    (fun q e => setSgate (mf q 4 11 0) { sgateOf e (mf q 4 11 0) with
      latched := (sgateOf e (mf q 4 11 0)).latched && decide ((sgateOf e (mf q 4 11 0)).latchedAt = some e.time.now) } e) ∧
  Gives 0x040B .streamClear (fun q _ => q.args.length = 1 ∧ only (mw q 4) [(31, 29), (11, 0)] = true ∧ mf q 4 31 29 = 2) (fun _ _ => [])
    (fun q e =>
      let m := meterOf e (mf q 4 11 0)
      if m.markRed = true ∧ m.redAt ≠ some e.time.now then setMeter (mf q 4 11 0) { m with markRed := false, unmarked := some e.time.now } e else e) ∧
  Gives 0x040B .streamClear (fun q _ => q.args.length = 1 ∧ only (mw q 4) [(31, 29), (11, 0)] = true ∧ mf q 4 31 29 = 3 ∧ mf q 4 11 0 < 1024) (fun _ _ => [])
    (fun q e => setRcv (mf q 4 11 0) { rcvOf e (mf q 4 11 0) with
      latent := (rcvOf e (mf q 4 11 0)).latent && decide ((rcvOf e (mf q 4 11 0)).latentAt = some e.time.now) } e) ∧
  Gives 0x040C .streamFilterStatus (fun q _ => q.args.length = 1 ∧ only (mw q 4) [(11, 0)] = true) (fun q e => filterStatus e (mf q 4 11 0))
    (fun q e => if q.clear then clearFilter (mf q 4 11 0) e else e) ∧
  Gives 0x040D .streamFrerStatus (fun q _ => q.args.length = 1 ∧ only (mw q 4) [(25, 16), (9, 0)] = true)
    (fun q e =>
      let g := genOf e (mf q 4 9 0)
      let r := rcvOf e (mf q 4 25 16)
      [packW [(16, g.seq), (16, r.r)], packW [(1, b2n r.takeAny), (1, b2n r.latent), (30, 0)], word g.generated, word r.passed, word r.dup, word r.ooo,
       word r.oooDiscard, word r.rogue, word r.lost, word r.tagless, word r.resets])
    (fun q e => if q.clear then
        setRcv (mf q 4 25 16) { rcvOf e (mf q 4 25 16) with passed := 0, dup := 0, ooo := 0, oooDiscard := 0, rogue := 0, lost := 0, tagless := 0, resets := 0 }
          (setGen (mf q 4 9 0) { genOf e (mf q 4 9 0) with generated := 0 } e)
      else e)

/-- What the FILT requests do (R271, R275, R276, R277, R281, R290, R292, R293, R296, R297, R300, R301). -/
def Obligations.FirewallRequestsTakeEffect : Prop :=
  Gives 0x0501 .filtZone
    (fun q e => q.args ≠ [] ∧ q.args.length ≤ 160 ∧ q.args.all memberOk = true ∧ e.fw.swapPend = false) (fun _ _ => [])
    (fun q e => q.args.foldl zoneWrite e) ∧
  Refuses 0x0501 .filtZone (fun q e => q.args ≠ [] ∧ q.args.length ≤ 160 ∧ q.args.all memberOk = true ∧ e.fw.swapPend = true) 4 [] ∧
  (∀ i, Gives 0x0502 .filtExactRule
    (fun q e => q.args.length = 12 ∧ (exactChecks q.args).all (·.2) = true ∧ e.fw.swapPend = false ∧ ruInBank q.args e.fw.bank = false ∧
      (exactWays (exactBucket q.args)).find? (fun j => ruleOf e j = []) = some i ∧
      (exactWays (exactBucket q.args)).any (fun j => exactClash q.args (ruleOf e j)) = false)
    (fun _ _ => [word i]) (fun q e => setRule i q.args e)) ∧
  Refuses 0x0502 .filtExactRule
    (fun q e => q.args.length = 12 ∧ (exactChecks q.args).all (·.2) = true ∧ e.fw.swapPend = false ∧ ruInBank q.args e.fw.bank = true) 3 [packW [(16, 4), (16, 0)]] ∧
  Refuses 0x0502 .filtExactRule
    (fun q e => q.args.length = 12 ∧ (exactChecks q.args).all (·.2) = true ∧ e.fw.swapPend = false ∧ ruInBank q.args e.fw.bank = false ∧
      (exactWays (exactBucket q.args)).find? (fun j => ruleOf e j = []) = none) 5 [0] ∧
  Gives 0x0503 .filtTernaryRule
    (fun q e => q.args.length = 13 ∧ only (mw q 4) [(14, 0)] = true ∧ 30720 ≤ mf q 4 14 0 ∧ ruleWord0 (q.args.drop 1) false = true ∧
      withinFields (q.args.drop 1) 2 5 (ternaryFields (ruKtype (q.args.drop 1))) = true ∧
      (ruKtype (q.args.drop 1) = 5 → fld (q.args.drop 1) 2 26 24 ≤ 5) ∧ withinFields (q.args.drop 1) 7 5 (ternaryFields (ruKtype (q.args.drop 1))) = true ∧
      e.fw.swapPend = false ∧ ruInBank (ruleOf e (mf q 4 14 0)) e.fw.bank = false ∧ ruInBank (q.args.drop 1) e.fw.bank = false)
    (fun _ _ => []) (fun q e => setRule (mf q 4 14 0) (q.args.drop 1) e) ∧
  Gives 0x0504 .filtMembership
    (fun q e => q.args.length = 1 ∧ only (mw q 4) [(16, 16), (14, 0)] = true ∧ e.fw.swapPend = false ∧ ruleOf e (mf q 4 14 0) ≠ [])
    (fun _ _ => [])
    (fun q e => { e with fw := { (fwNote id e).fw with
      rule := tset [] e.fw.rule (mf q 4 14 0) (bankBit (1 - e.fw.bank) (bit (mw q 4) 16) (ruleOf e (mf q 4 14 0))) } }) ∧
  Gives 0x0505 .filtRuleDelete
    (fun q e => q.args.length = 1 ∧ only (mw q 4) [(14, 0)] = true ∧ e.fw.swapPend = false ∧ ruInBank (ruleOf e (mf q 4 14 0)) e.fw.bank = false)
    (fun _ _ => []) (fun q e => setRule (mf q 4 14 0) [] e) ∧
  Refuses 0x0505 .filtRuleDelete
    (fun q e => q.args.length = 1 ∧ only (mw q 4) [(14, 0)] = true ∧ e.fw.swapPend = false ∧ ruInBank (ruleOf e (mf q 4 14 0)) e.fw.bank = true) 3 [packW [(16, 4), (16, 0)]] ∧
  Gives 0x0506 .filtBankCopy (fun q e => q.args = [] ∧ e.fw.swapPend = false) (fun _ _ => []) (fun _ e => bankCopy e) ∧
  Refuses 0x0506 .filtBankCopy (fun q e => q.args = [] ∧ e.fw.swapPend = true) 4 [] ∧
  Stages 0x0507 .filtSwap (fun q _ => q.args = []) (fun _ _ => .fwSwap) (fun _ _ => []) (fun _ e => e) ∧
  Gives 0x0508 .filtDryRun (fun q _ => q.args.length = 1 ∧ only (mw q 4) [(31, 31), (12, 0)] = true ∧ mf q 4 12 0 ≤ 4096) (fun _ _ => [])
    (fun q e => { e with fw := { e.fw with dryRun := bit (mw q 4) 31, diffCapture := mf q 4 12 0,
                                           diffLeft := if bit (mw q 4) 31 then mf q 4 12 0 else e.fw.diffLeft } }) ∧
  Gives 0x0509 .filtTracker (fun q _ => q.args.length = 2 ∧ 1 ≤ mf q 4 31 16 ∧ 1 ≤ mf q 4 15 0 ∧ 1 ≤ mf q 5 31 16 ∧ 1 ≤ mf q 5 15 0) (fun _ _ => [])
    (fun q e => { e with fw := { e.fw with toNew := mf q 4 31 16, toClose := mf q 4 15 0, toUdp := mf q 5 31 16, toTcp := mf q 5 15 0 } }) ∧
  (∀ k (gone : Req → Rec → Bool), (k = 0 ∧ gone = fun q r => fld r 0 27 23 = mf q 4 29 25 && fld r 0 22 18 = mf q 4 24 20) ∨
      (k = 1 ∧ gone = fun q r => decide (trRule r = mf q 4 14 0)) ∨ (k = 2 ∧ gone = fun _ _ => true) →
    Gives 0x050A .filtTrackerFlush (fun q _ => q.args.length = 1 ∧ only (mw q 4) [(31, 20), (14, 0)] = true ∧ mf q 4 31 30 = k)
      (fun q e => [word (e.fw.tracker.length - (e.fw.tracker.filter (fun x => !gone q x.2)).length)])
      (fun q e =>
        let u := fwNote (fun c => { c with flushes := mw q 4 :: c.flushes }) e
        fwEvent 3 0 { u with fw := { u.fw with tracker := e.fw.tracker.filter (fun x => !gone q x.2) } })) ∧
  Gives 0x050B .filtTrackerRead
    (fun q _ => q.args.length = 2 ∧ only (mw q 4) [(12, 0)] = true ∧ only (mw q 5) [(6, 0)] = true ∧ 1 ≤ mf q 5 6 0 ∧ mf q 5 6 0 ≤ 64)
    (fun q e => (List.range (min (mf q 5 6 0) (8192 - mf q 4 12 0))).flatMap (fun i => (List.range 12).map (rw (tget [] e.fw.tracker (mf q 4 12 0 + i)))))
    (fun _ e => e) ∧
  Gives 0x050C .filtBypass
    (fun q e => q.args.length = 1 ∧ only (mw q 4) [(31, 21), (11, 0)] = true ∧ bit (mw q 4) 31 = true ∧ 1 ≤ mf q 4 11 0 ∧ mf q 4 11 0 ≤ 3600 ∧
      bypassed e (mf q 4 30 26) (mf q 4 25 21) = true ∧
      (e.fw.bypass.filter (fun b => !(b.1 = mf q 4 30 26 && b.2.1 = mf q 4 25 21) && decide (e.time.now < b.2.2))).length < 8)
    (fun _ _ => [])
    (fun q e => fwEvent 5 0 { e with fw := { e.fw with
      bypass := e.fw.bypass.filter (fun b => !(b.1 = mf q 4 30 26 && b.2.1 = mf q 4 25 21)) ++
        [(mf q 4 30 26, mf q 4 25 21, e.time.now + mf q 4 11 0 * 1000000000)] } }) ∧
  Gives 0x050C .filtBypass
    (fun q e => q.args.length = 1 ∧ only (mw q 4) [(31, 21), (11, 0)] = true ∧ bit (mw q 4) 31 = true ∧ 1 ≤ mf q 4 11 0 ∧ mf q 4 11 0 ≤ 3600 ∧
      e.fw.bypass.any (fun b => b.1 = mf q 4 30 26 && b.2.1 = mf q 4 25 21) = false ∧ (liveBypass e).length < 8)
    (fun _ _ => [])
    (fun q e => fwEvent 5 0 { e with fw := { e.fw with bypass := e.fw.bypass ++ [(mf q 4 30 26, mf q 4 25 21, e.time.now + mf q 4 11 0 * 1000000000)] } }) ∧
  Refuses 0x050C .filtBypass
    (fun q e => q.args.length = 1 ∧ only (mw q 4) [(31, 21), (11, 0)] = true ∧ bit (mw q 4) 31 = true ∧ 1 ≤ mf q 4 11 0 ∧ mf q 4 11 0 ≤ 3600 ∧
      e.fw.bypass.any (fun b => b.1 = mf q 4 30 26 && b.2.1 = mf q 4 25 21) = false ∧ 8 ≤ (liveBypass e).length) 5 [0] ∧
  Gives 0x050C .filtBypass
    (fun q e => q.args.length = 1 ∧ only (mw q 4) [(31, 21), (11, 0)] = true ∧ bit (mw q 4) 31 = false ∧
      e.fw.bypass.any (fun b => b.1 = mf q 4 30 26 && b.2.1 = mf q 4 25 21) = true)
    (fun _ _ => [])
    (fun q e => fwEvent 6 0 { e with fw := { e.fw with bypass := e.fw.bypass.filter (fun b => !(b.1 = mf q 4 30 26 && b.2.1 = mf q 4 25 21)) } }) ∧
  (∀ t q s, q.mbx < 8 → serves (acting t s) = true → (acting t s).sys.fw.boot = .served → (boxOf (acting t s) q.mbx).deferred = none →
    (boxOf (acting t s) q.mbx).state = 1 → 2048 ≤ ringFree (acting t s) (.rsp q.mbx) → q.verMaj = (boxOf (acting t s) q.mbx).verMaj →
    q.verMin = (boxOf (acting t s) q.mbx).verMin → q.seq = (boxOf (acting t s) q.mbx).ack + 1 → regBit (acting t s) rFW_STAT 31 = true →
    exec (.filtBypass t q) s = answered s 0x050C q 6 [] (fwEvent 7 0 (accepted t 0x050C q s))) ∧
  Gives 0x050D .filtLog
    (fun q _ => q.args.length = 2 ∧ only (mw q 4) [(19, 0)] = true ∧ 1 ≤ mf q 4 19 0 ∧ mf q 4 19 0 ≤ 1000000 ∧ only (mw q 5) [(15, 0)] = true ∧ 1 ≤ mf q 5 15 0)
    (fun _ _ => [])
    (fun q e => { e with fw := { e.fw with logRate := mf q 4 19 0, logBurst := mf q 5 15 0, tokens := min e.fw.tokens (mf q 5 15 0 * 1000000000) } }) ∧
  Gives 0x050E .filtStatus (fun q _ => q.args = [])
    (fun _ e => [packW [(1, e.fw.bank), (1, b2n e.fw.dryRun), (4, (e.fw.bypass.filter (fun b => e.time.now < b.2.2)).length), (26, 0)], word e.fw.tracker.length]
      ++ (List.range 6).map (fun i => word (tget 0 e.fw.counts (2 + i))))
    (fun q e => if q.clear then { e with fw := { e.fw with counts := recounted e 0 (fun _ => true) [] } } else e) ∧
  Gives 0x050F .filtZoneCounters (fun q _ => q.args.length = 1 ∧ only (mw q 4) [(4, 0)] = true)
    (fun q e => (List.range 160).map (fun i => word (tget 0 e.fw.pairs (mf q 4 4 0 * 160 + i))))
    (fun q e => if q.clear then { e with fw := { e.fw with
        pairs := recounted e 1 (fun k => k / 160 = mf q 4 4 0) (e.fw.pairs.filter (fun x => x.1 < mf q 4 4 0 * 160 || mf q 4 4 0 * 160 + 160 ≤ x.1)) } }
      else e) ∧
  Gives 0x0510 .filtRuleCounters (fun q _ => q.args.length = 1 ∧ only (mw q 4) [(14, 0)] = true)
    (fun q e => [word (tget 0 e.fw.hits (mf q 4 14 0)), word (tget 0 e.fw.shadowHits (mf q 4 14 0))])
    (fun q e => if q.clear then
        { e with fw := { e.fw with
          hits := recounted e 2 (fun k => k = mf q 4 14 0) (tset 0 e.fw.hits (mf q 4 14 0) 0)
          shadowHits := recounted e 3 (fun k => k = mf q 4 14 0) (tset 0 e.fw.shadowHits (mf q 4 14 0) 0) } }
      else e)

/-- What the FW requests do (R578, R606, R608, R611, R612, R617, R620, R621, R623). -/
def Obligations.FirmwareRequestsTakeEffect : Prop :=
  Gives 0x0D01 .fwStatus (fun q _ => q.args = [])
    (fun _ e => [word (releaseWord e), flashWord e 4, packW [(24, 0), (2, e.sys.fw.lifecycle), (6, e.sys.fw.floor)], word (genInForce e),
      packW [(1, b2n e.sys.fw.settingsGood), (1, b2n e.sys.fw.safeProfile), (1, b2n e.sys.fw.commitPending), (29, 0)]])
    (fun _ e => e) ∧
  (∀ ws n, GoesOn 0x0D02 .fwDownload
    (fun q e => bulkOf 1 q e = some (ws, n) ∧ only (mw q 4) [(21, 0)] = true ∧ mf q 4 21 0 % 4096 = 0 ∧ mf q 4 21 0 < 0x200000 ∧
      mf q 4 21 0 + n ≤ 0x200000 ∧ inFlight e (fun op => op = 0x0D02 || op = 0x0D03 || op = 0x0D07) = false)
    (fun q _ => word (mf q 4 21 0) :: word n :: ws)
    (fun q e => eraseSectors (mf q 4 21 0) n (setFw (fun f => { f with slotDirty := true }) e))) ∧
  (∀ ws n, Refuses 0x0D02 .fwDownload
    (fun q e => bulkOf 1 q e = some (ws, n) ∧ only (mw q 4) [(21, 0)] = true ∧ mf q 4 21 0 % 4096 = 0 ∧ mf q 4 21 0 < 0x200000 ∧
      mf q 4 21 0 + n ≤ 0x200000 ∧ inFlight e (fun op => op = 0x0D02 || op = 0x0D03 || op = 0x0D07) = true) 4 []) ∧
  GoesOn 0x0D03 .fwActivate
    (fun q e => q.args.length = 8 ∧ inFlight e (fun op => op = 0x0D02 || op = 0x0D07) = false ∧ e.sys.fw.act = none ∧ imageCheck e ≠ 2 ∧ imageCheck e ≠ 3 ∧
      imageCheck e ≠ 4 ∧ imageCheck e ≠ 5 ∧ recBytes q.args = sha false (flashBytes e 0 (imageLength e)) ∧ e.sys.fw.boot ≠ .safelight)
    (fun _ e => split64 (e.time.now + 10 * imageLength e)) (fun q e => setFw (fun f => { f with act := some q.mbx }) e) ∧
  (∀ t q s, Taken 0x0D03 t q s → q.args.length = 8 →
    inFlight (entered t 0x0D03 q s) (fun op => op = 0x0D02 || op = 0x0D07) = false → (entered t 0x0D03 q s).sys.fw.act = none →
    (imageCheck (entered t 0x0D03 q s) = 2 ∨
      recBytes q.args ≠ sha false (flashBytes (entered t 0x0D03 q s) 0 (imageLength (entered t 0x0D03 q s)))) →
    exec (.fwActivate t q) s =
      answered s 0x0D03 q 3 [0] (fwEvent12 0x02 (rw (imageHeader (entered t 0x0D03 q s)) 1).toNat (entered t 0x0D03 q s))) ∧
  GoesOn 0x0D04 .fwCommit
    (fun q e => q.args = [] ∧ fuseBusy e = false ∧ e.sys.fw.settingsGood = true ∧ e.sys.fw.commitPending = true ∧ e.sys.fw.floor < imSvn e.sys.fw.img ∧
      e.dark.run = true)
    (fun _ e => [word (imSvn e.sys.fw.img)])
    (fun _ e => auditAppend 1 (imSvn e.sys.fw.img + 1) (word e.sys.fw.floor) (word (imSvn e.sys.fw.img)) (releaseShort e) e) ∧
  Refuses 0x0D04 .fwCommit
    (fun q e => q.args = [] ∧ fuseBusy e = false ∧ e.sys.fw.settingsGood = true ∧ e.sys.fw.commitPending = true ∧ e.sys.fw.floor < imSvn e.sys.fw.img ∧
      e.dark.run = false) 4 [] ∧
  Refuses 0x0D04 .fwCommit (fun q e => q.args = [] ∧ fuseBusy e = false ∧ (e.sys.fw.settingsGood = false ∨ e.sys.fw.commitPending = false)) 3 [0] ∧
  (∀ t q s, Taken 0x0D04 t q s → q.args = [] → fuseBusy (entered t 0x0D04 q s) = false → (entered t 0x0D04 q s).sys.fw.settingsGood = true →
    (entered t 0x0D04 q s).sys.fw.commitPending = true → imSvn (entered t 0x0D04 q s).sys.fw.img ≤ (entered t 0x0D04 q s).sys.fw.floor →
    let e := entered t 0x0D04 q s
    exec (.fwCommit t q) s = ends s (conclude 0x0D04 q (.both 0 [word e.sys.fw.floor])
      { e with sys := { e.sys with fw := { e.sys.fw with commitPending := false, base := none } } })) ∧
  (∀ ws n, GoesOn 0x0D05 .fwSettingsWrite
    (fun q e => bulkOf 0 q e = some (ws, n) ∧ copyValid e ws n = true ∧ e.sys.fw.migrating = false ∧ inFlight e (fun op => op = 0x0D05) = false)
    (fun _ e => word (targetCopy e) :: word (newGen e) :: ws)
    (fun _ e => flashErase (copyBase (targetCopy e)) (copyBase (targetCopy e) + (n + 4095) / 4096 * 4096) e)) ∧
  Gives 0x0D06 .fwSettingsRead
    (fun q _ => q.args.length = 2 ∧ only (mw q 4) [(20, 0)] = true ∧ mf q 5 31 16 % 4 = 0 ∧ 4 ≤ mf q 5 15 0 ∧ mf q 5 31 16 + mf q 5 15 0 ≤ 16384)
    (fun q _ => [word (min (mf q 5 15 0) (0x200000 - mf q 4 20 0))])
    (fun q e => memBytes (0xE0000 + 0x4000 * q.mbx + mf q 5 31 16) (flashBytes e (0x200000 + mf q 4 20 0) (min (mf q 5 15 0) (0x200000 - mf q 4 20 0))) e) ∧
  GoesOn 0x0D07 .fwLifecycle
    (fun q e => q.args.length = 1 ∧ only (mw q 4) [(1, 0)] = true ∧ mf q 4 1 0 = e.sys.fw.lifecycle + 1 ∧ fuseBusy e = false ∧
      e.dark.run = true ∧ (mf q 4 1 0 = 2 → e.sys.fw.commitPending = false))
    (fun q _ => [word (mf q 4 1 0)])
    (fun q e => auditAppend 3 (mf q 4 1 0) (word e.sys.fw.lifecycle) (word (mf q 4 1 0)) (releaseShort e) e) ∧
  Refuses 0x0D07 .fwLifecycle
    (fun q e => q.args.length = 1 ∧ (only (mw q 4) [(1, 0)] = false ∨ mf q 4 1 0 ≠ e.sys.fw.lifecycle + 1)) 2 [0x00040000]

/-- What the GW requests do (R305, R307, R310, R317, R322, R326, R330, R338, R346, R351, R354, R571). -/
def Obligations.GatewayRequestsTakeEffect : Prop :=
  Gives 0x0601 .gwController (fun q _ => q.args.length = 6 ∧ (controllerChecks q.args).all (·.2) = true) (fun _ _ => [])
    (fun q e =>
      let e1 := setCan (mf q 4 31 27) { canOf e (mf q 4 31 27) with next := some q.args } e
      if fld (canOf e (mf q 4 31 27)).rec0 0 26 25 = 0 then canApply (mf q 4 31 27) e1 else e1) ∧
  (∀ i, Gives 0x0602 .gwCanSend
    (fun q e => q.args.length = 6 + (mf q 4 11 0 + 3) / 4 ∧ mf q 4 31 27 ≤ 23 ∧ mf q 4 26 24 ≤ 4 ∧ mf q 4 20 12 = 0 ∧ lengthFits (mf q 4 26 24) (mf q 4 11 0) = true ∧
      (bit (mw q 4) 23 = true → mf q 4 26 24 < 2) ∧ (mw q 5).toNat < 2 ^ idWidth (mf q 4 26 24) ∧
      only (mw q 6) (if mf q 4 26 24 = 4 then [(31, 24), (23, 16), (15, 15)] else []) = true ∧
      (protoHas (canOf e (mf q 4 31 27)).rec0 (mf q 4 26 24) = true ∨ canMode (canOf e (mf q 4 31 27)) = 0) ∧ (canOf e (mf q 4 31 27)).busOff = false ∧
      owns e (mf q 4 31 27) = true ∧ freeSlot (canOf e (mf q 4 31 27)) true = some i)
    (fun _ _ => [word i])
    (fun q e => fillSlot (mf q 4 31 27) i
      { f := sendFrame q, route := 0, origin := srcOrigin (mf q 4 31 27),
        launch := if bit (mw q 4) 21 then some (ofShort (wtNow e) (mw q 9).toNat) else none } true (mw q 8) e)) ∧
  Refuses 0x0602 .gwCanSend
    (fun q e => q.args.length = 6 + (mf q 4 11 0 + 3) / 4 ∧ mf q 4 31 27 ≤ 23 ∧ mf q 4 26 24 ≤ 4 ∧ mf q 4 20 12 = 0 ∧ lengthFits (mf q 4 26 24) (mf q 4 11 0) = true ∧
      (bit (mw q 4) 23 = true → mf q 4 26 24 < 2) ∧ (mw q 5).toNat < 2 ^ idWidth (mf q 4 26 24) ∧
      only (mw q 6) (if mf q 4 26 24 = 4 then [(31, 24), (23, 16), (15, 15)] else []) = true ∧
      (protoHas (canOf e (mf q 4 31 27)).rec0 (mf q 4 26 24) = true ∨ canMode (canOf e (mf q 4 31 27)) = 0) ∧
      ((canOf e (mf q 4 31 27)).busOff = true ∨ owns e (mf q 4 31 27) = false ∨ freeSlot (canOf e (mf q 4 31 27)) true = none))
    4 [] ∧
  Refuses 0x0602 .gwCanSend
    (fun q e => q.args.length = 6 + (mf q 4 11 0 + 3) / 4 ∧ mf q 4 31 27 ≤ 23 ∧ mf q 4 26 24 ≤ 4 ∧ mf q 4 20 12 = 0 ∧ lengthFits (mf q 4 26 24) (mf q 4 11 0) = true ∧
      (bit (mw q 4) 23 = true → mf q 4 26 24 < 2) ∧ (mw q 5).toNat < 2 ^ idWidth (mf q 4 26 24) ∧
      only (mw q 6) (if mf q 4 26 24 = 4 then [(31, 24), (23, 16), (15, 15)] else []) = true ∧
      protoHas (canOf e (mf q 4 31 27)).rec0 (mf q 4 26 24) = false ∧ canMode (canOf e (mf q 4 31 27)) ≠ 0)
    3 [packW [(16, 4), (16, 0)]] ∧
  (∀ x, Gives 0x0603 .gwCanAbort
    (fun q e => q.args.length = 1 ∧ only (mw q 4) [(31, 27), (4, 0)] = true ∧ mf q 4 31 27 ≤ 23 ∧ tget none (canOf e (mf q 4 31 27)).slots (mf q 4 4 0) = some x)
    (fun _ _ => [])
    (fun q e => giveWay (.slotAbort (mf q 4 31 27) (mf q 4 4 0)) (setCan (mf q 4 31 27) { canOf e (mf q 4 31 27) with
      slots := tset none (canOf e (mf q 4 31 27)).slots (mf q 4 4 0) (some { x with abort := true }) } e))) ∧
  (∀ b i x s, tget none (canOf s b).slots i = some x → x.abort = true →
    runLate (.slotAbort b i) s = if (canOf s b).sending.map (·.1) = some i then s else slotEnds b i x 0x09 0 s.time.now s) ∧
  Gives 0x0603 .gwCanAbort
    (fun q e => q.args.length = 1 ∧ only (mw q 4) [(31, 27), (4, 0)] = true ∧ mf q 4 31 27 ≤ 23 ∧ tget none (canOf e (mf q 4 31 27)).slots (mf q 4 4 0) = none)
    (fun _ _ => []) (fun _ e => e) ∧
  Gives 0x0604 .gwRecover
    (fun q e => q.args.length = 1 ∧ only (mw q 4) [(4, 0)] = true ∧ mf q 4 4 0 ≤ 23 ∧ (canOf e (mf q 4 4 0)).busOff = true ∧
      flag (canOf e (mf q 4 4 0)).rec0 0 19 = false)
    (fun _ _ => []) (fun q e => setCan (mf q 4 4 0) { canOf e (mf q 4 4 0) with recovering := true } e) ∧
  Gives 0x0605 .gwLin
    (fun q _ => q.args.length = 2 ∧ mf q 4 28 27 ≤ 1 ∧ 13 ≤ mf q 4 26 22 ∧ mf q 4 26 22 ≤ 26 ∧ mf q 4 19 0 = 0 ∧ 1000 ≤ mf q 5 31 16 ∧ mf q 5 31 16 ≤ 20000 ∧
      mf q 5 15 0 = 0)
    (fun _ _ => []) (fun q e => linApply (mf q 4 31 29) (setLin (mf q 4 31 29) { linOf e (mf q 4 31 29) with next := some q.args } e)) ∧
  Gives 0x0606 .gwLinPool
    (fun q e => ∃ ws, 2 ≤ q.args.length ∧ bulkOf 2 q e = some (ws, 8 * mf q 5 11 0) ∧ only (mw q 4) [(10, 0)] = true ∧ only (mw q 5) [(11, 0)] = true ∧
      1 ≤ mf q 5 11 0 ∧ mf q 4 10 0 + mf q 5 11 0 ≤ 2048 ∧ badEntry 2 q linEntryFault (pairsOf ws) = none ∧ linPoolUsed e (mf q 4 10 0) (mf q 5 11 0) = false)
    (fun _ _ => [])
    (fun q e => { e with gw := { e.gw with
      pool := (pairsOf (((bulkOf 2 q e).map (·.1)).getD [])).zipIdx.foldl (fun p x => tset (0, 0) p (mf q 4 10 0 + x.2) x.1) e.gw.pool } }) ∧
  Gives 0x0607 .gwLinTable
    (fun q e => q.args.length = 4 ∧ mf q 4 24 24 = 0 ∧ mf q 4 5 0 = 0 ∧ 1 ≤ mf q 4 12 6 ∧ mf q 4 12 6 ≤ 64 ∧ mf q 4 23 13 + mf q 4 12 6 ≤ 2048 ∧
      (linEntries e q.args).all (linEntrySuits { linOf e (mf q 4 31 29) with head := tset [] (linOf e (mf q 4 31 29)).head (mf q 4 28 25) q.args }) = true ∧
      fullOk (q.args.drop 1) = true)
    (fun _ _ => []) (fun q e => setLin (mf q 4 31 29) { linOf e (mf q 4 31 29) with head := tset [] (linOf e (mf q 4 31 29)).head (mf q 4 28 25) q.args } e) ∧
  Stages 0x0608 .gwLinSelect
    (fun q e => q.args.length = 1 ∧ only (mw q 4) [(31, 29), (4, 0)] = true ∧ bit (mw q 4) 4 = false ∧ linHeadOf (linOf e (mf q 4 31 29)) (mf q 4 3 0) ≠ [])
    (fun q _ => .linSelect (mf q 4 31 29) (some (mf q 4 3 0))) (fun _ _ => []) (fun _ e => e) ∧
  Stages 0x0608 .gwLinSelect (fun q _ => q.args.length = 1 ∧ only (mw q 4) [(31, 29), (4, 0)] = true ∧ bit (mw q 4) 4 = true)
    (fun q _ => .linSelect (mf q 4 31 29) none) (fun _ _ => []) (fun _ e => e) ∧
  Gives 0x0609 .gwLinPublish
    (fun q e => q.args.length = 3 ∧ only (mw q 4) [(31, 29), (11, 8), (5, 0)] = true ∧ 1 ≤ mf q 4 11 8 ∧ mf q 4 11 8 ≤ 8 ∧
      pubLen e (mf q 4 31 29) (mf q 4 5 0) = some (mf q 4 11 8))
    (fun _ _ => [])
    (fun q e => setLin (mf q 4 31 29) { linOf e (mf q 4 31 29) with
      pub := tset none (linOf e (mf q 4 31 29)).pub (mf q 4 5 0) (some ((recBytes (q.args.drop 1)).take (mf q 4 11 8))) } e) ∧
  Stages 0x060A .gwRoute
    (fun q e => q.args.length = 9 ∧ only (mw q 4) [(15, 0)] = true ∧ 7680 ≤ mf q 4 15 0 ∧ mf q 4 15 0 < 8192 ∧ (routeChecks (q.args.drop 1) false).all (·.2) = true ∧
      routeRefs (projectedWith (.route (mf q 4 15 0) (q.args.drop 1)) e) = true)
    (fun q _ => .route (mf q 4 15 0) (q.args.drop 1)) (fun q _ => [word (mf q 4 15 0)]) (fun _ e => e) ∧
  (∀ n, Refuses 0x060A .gwRoute
    (fun q e => q.args.length = 9 ∧ only (mw q 4) [(15, 0)] = true ∧ 7680 ≤ mf q 4 15 0 ∧ mf q 4 15 0 < 8192 ∧ (routeChecks (q.args.drop 1) false).all (·.2) = true ∧
      routeRefs (projectedWith (.route (mf q 4 15 0) (q.args.drop 1)) e) = false ∧ routeFault e (q.args.drop 1) = n)
    3 [packW [(16, n), (16, 0)]]) ∧
  (∀ k, Stages 0x060A .gwRoute
    (fun q e => q.args.length = 9 ∧ only (mw q 4) [(15, 0)] = true ∧ mf q 4 15 0 = k ∧ k < 7680 ∧ (routeChecks (q.args.drop 1) true).all (·.2) = true ∧
      (flag (q.args.drop 1) 0 31 = true →
        (macWays (routeBucket (roSrc (q.args.drop 1)) (mf q 5 23 21) (bit (mw q 5) 20) (mf q 6 28 0))).contains k = true ∧
        (macWays (routeBucket (roSrc (q.args.drop 1)) (mf q 5 23 21) (bit (mw q 5) 20) (mf q 6 28 0))).any (fun j => decide (k ≠ j) && routeSame (q.args.drop 1) (tget [] (projected e).gw.route j)) = false) ∧
      routeRefs (projectedWith (.route k (q.args.drop 1)) e) = true)
    (fun q _ => .route k (q.args.drop 1)) (fun _ _ => [word k]) (fun _ e => e)) ∧
  (∀ j, Stages 0x060A .gwRoute
    (fun q e => q.args.length = 9 ∧ mf q 4 15 0 = 0xFFFF ∧ only (mw q 4) [(15, 0)] = true ∧ (routeChecks (q.args.drop 1) true).all (·.2) = true ∧
      flag (q.args.drop 1) 0 31 = true ∧ (macWays (routeBucket (roSrc (q.args.drop 1)) (mf q 5 23 21) (bit (mw q 5) 20) (mf q 6 28 0))).find? (fun j => !flag (tget [] (projected e).gw.route j) 0 31) = some j ∧
      (macWays (routeBucket (roSrc (q.args.drop 1)) (mf q 5 23 21) (bit (mw q 5) 20) (mf q 6 28 0))).any (fun j => routeSame (q.args.drop 1) (tget [] (projected e).gw.route j)) = false ∧
      routeRefs (projectedWith (.route j (q.args.drop 1)) e) = true)
    (fun q _ => .route j (q.args.drop 1)) (fun _ _ => [word j]) (fun _ e => e)) ∧
  Refuses 0x060A .gwRoute
    (fun q e => q.args.length = 9 ∧ mf q 4 15 0 = 0xFFFF ∧ only (mw q 4) [(15, 0)] = true ∧ (routeChecks (q.args.drop 1) true).all (·.2) = true ∧
      flag (q.args.drop 1) 0 31 = true ∧ (macWays (routeBucket (roSrc (q.args.drop 1)) (mf q 5 23 21) (bit (mw q 5) 20) (mf q 6 28 0))).find? (fun j => !flag (tget [] (projected e).gw.route j) 0 31) = none)
    5 [0] ∧
  Refuses 0x060A .gwRoute
    (fun q e => q.args.length = 9 ∧ mf q 4 15 0 = 0xFFFF ∧ only (mw q 4) [(15, 0)] = true ∧ (routeChecks (q.args.drop 1) true).all (·.2) = true ∧
      flag (q.args.drop 1) 0 31 = true ∧ ((macWays (routeBucket (roSrc (q.args.drop 1)) (mf q 5 23 21) (bit (mw q 5) 20) (mf q 6 28 0))).find? (fun j => !flag (tget [] (projected e).gw.route j) 0 31)).isSome = true ∧
      (macWays (routeBucket (roSrc (q.args.drop 1)) (mf q 5 23 21) (bit (mw q 5) 20) (mf q 6 28 0))).any (fun j => routeSame (q.args.drop 1) (tget [] (projected e).gw.route j)) = true)
    3 [0] ∧
  Stages 0x060B .gwTunnel
    (fun q e => q.args.length = 8 ∧ 1 ≤ mf q 4 17 6 ∧ mf q 4 17 6 ≤ 4094 ∧ mf q 4 4 0 = 0 ∧ 1 ≤ mf q 6 15 8 ∧ mf q 6 15 8 ≤ 64 ∧ mf q 6 7 0 = 0 ∧ 24 ≤ mf q 9 15 0 ∧
      mf q 9 15 0 ≤ 1488 ∧ 22 + (if bit (mw q 4) 22 then 24 else 12) + mf q 9 15 0 ≤ bpMaxLen (bridgeOf e 30) ∧ bit (mw q 10) 31 = false ∧
      routeRefs (projectedWith (.tunnel (mf q 4 30 23) q.args) e) = true)
    (fun q _ => .tunnel (mf q 4 30 23) q.args) (fun _ _ => []) (fun _ e => e) ∧
  Stages 0x060C .gwReceiveTunnel (fun q _ => q.args.length = 4 ∧ only (mw q 4) [(31, 30), (5, 0)] = true) (fun q _ => .rxTunnel (mf q 4 5 0) q.args)
    (fun _ _ => []) (fun _ e => e) ∧
  Gives 0x060D .gwSettings (fun q _ => q.args.length = 2 ∧ only (mw q 5) [(31, 16)] = true) (fun _ _ => [])
    (fun q e => { e with gw := { e.gw with addr := (mw q 4).toNat * 65536 + mf q 5 31 16 } }) ∧
  Stages 0x060E .gwAuth
    (fun q e => q.args.length = 7 ∧ only (mw q 4) [(9, 0)] = true ∧ 3 ≤ mf q 5 20 16 ∧ mf q 5 20 16 ≤ 16 ∧ mf q 5 15 12 ≤ 8 ∧ mf q 5 11 0 = 0 ∧
      (bit (mw q 5) 30 = true → tget 0 e.gw.fresh (mf q 4 9 0) ≤ cat64 (mw q 7) (mw q 8)) ∧ (bit (mw q 5) 30 = true ∨ mw q 9 ≠ 0) ∧ mf q 10 15 4 ≤ 2048 ∧
      mf q 10 3 0 = 0 ∧
      routeRefs (projectedWith (.auth (mf q 4 9 0) (((q.args.drop 1).set 2 0).set 3 0)) e) = true)
    (fun q _ => .auth (mf q 4 9 0) (((q.args.drop 1).set 2 0).set 3 0)) (fun _ _ => [])
    (fun q e => setFresh (mf q 4 9 0) (freshWritten e (mf q 4 9 0) (bit (mw q 5) 30) (cat64 (mw q 7) (mw q 8))) { e with gw := { e.gw with freshLost := e.gw.freshLost.filter (· ≠ mf q 4 9 0) } }) ∧
  Gives 0x060F .gwCanStatus (fun q _ => q.args.length = 1 ∧ only (mw q 4) [(4, 0)] = true ∧ mf q 4 4 0 ≤ 23) (fun q e => canStatus e (mf q 4 4 0))
    (fun q e => if q.clear then setCan (mf q 4 4 0) { canOf e (mf q 4 4 0) with counts := [], busOffs := 0 } e else e) ∧
  Gives 0x0610 .gwLinStatus (fun q _ => q.args.length = 1 ∧ only (mw q 4) [(2, 0)] = true) (fun q e => linStatus e (mf q 4 2 0))
    (fun q e => if q.clear then setLin (mf q 4 2 0) { linOf e (mf q 4 2 0) with counts := [] } e else e) ∧
  Gives 0x0611 .gwDrops (fun q _ => q.args.length = 1 ∧ only (mw q 4) [(5, 0)] = true ∧ mf q 4 5 0 ≤ 32)
    (fun q e => (List.range 18).map (fun i => word (tget 0 e.gw.drops (mf q 4 5 0 * 32 + i + 1))))
    (fun q e => if q.clear then { e with gw := { e.gw with drops := e.gw.drops.filter (fun x => x.1 < mf q 4 5 0 * 32 || mf q 4 5 0 * 32 + 32 ≤ x.1) } } else e) ∧
  Gives 0x0612 .gwTunnelStatus (fun q _ => q.args.length = 1 ∧ only (mw q 4) [(8, 0)] = true ∧ bit (mw q 4) 8 = false)
    (fun q e => [word (tunnelOf e (mf q 4 7 0)).frames, word (tunnelOf e (mf q 4 7 0)).messages, 0, 0])
    (fun q e => if q.clear then setTunnel (mf q 4 7 0) { tunnelOf e (mf q 4 7 0) with frames := 0, messages := 0 } e else e) ∧
  Gives 0x0612 .gwTunnelStatus (fun q _ => q.args.length = 1 ∧ only (mw q 4) [(8, 0)] = true ∧ bit (mw q 4) 8 = true ∧ mf q 4 7 0 ≤ 63)
    (fun q e =>
      let x := rxTunnelOf e (mf q 4 7 0)
      [word x.frames, word x.messages, word x.seqGap, word x.acfOther])
    (fun q e => if q.clear then setRxTunnel (mf q 4 7 0) { rxTunnelOf e (mf q 4 7 0) with frames := 0, messages := 0, seqGap := 0, acfOther := 0 } e else e) ∧
  Gives 0x0613 .gwRouteStatus (fun q _ => q.args.length = 1 ∧ only (mw q 4) [(12, 0)] = true) (fun q e => [word (tget 0 e.gw.hits (mf q 4 12 0))])
    (fun q e => if q.clear then { e with gw := { e.gw with hits := tset 0 e.gw.hits (mf q 4 12 0) 0 } } else e)

/-- What the NM requests do (R359, R363, R368, R370, R376, R384, R385, R387, R389, R573, R624). -/
def Obligations.NetworkManagementRequestsTakeEffect : Prop :=
  Gives 0x0701 .nmWakeSource
    (fun q e => q.args.length = 3 ∧ mf q 4 13 0 = 0 ∧ (mf q 4 31 27 < 16 ∨ (mf q 4 25 24 = 0 ∧ mf q 4 22 14 = 0)) ∧
      (bit (mw q 4) 22 = false ∨ e.nm.source.any (fun x => x.1 ≠ mf q 4 31 27 && wsIgn x.2) = false) ∧ mf q 5 31 28 = 0)
    (fun _ _ => []) (fun q e => setSource (mf q 4 31 27) { sourceOf e (mf q 4 31 27) with rec0 := q.args } e) ∧
  Gives 0x0702 .nmStandby
    (fun q e => q.args.length = 2 ∧ only (mw q 4) [(1, 0)] = true ∧ (List.range 60).any (fun i => segManaged (segOf e i) && (segOf e i).state ≤ 1) = false ∧
      inFlight e (fun op => op = 0x0D02 || op = 0x0D03) = false ∧ fuseBusy e = false)
    (fun _ _ => [])
    (fun q e => startEntry (mf q 4 1 0) (regPut (rCROCUS 0x00) 31 30 (mf q 4 1 0) (regPut (rCROCUS 0x04) 31 0 (mw q 5).toNat e))) ∧
  Refuses 0x0702 .nmStandby
    (fun q e => q.args.length = 2 ∧ only (mw q 4) [(1, 0)] = true ∧ ((List.range 60).any (fun i => segManaged (segOf e i) && (segOf e i).state ≤ 1) = true ∨
      inFlight e (fun op => op = 0x0D02 || op = 0x0D03) = true ∨ fuseBusy e = true)) 4 [] ∧
  Stages 0x0703 .nmSegment (fun q _ => q.args.length = 8 ∧ (segmentChecks q.args).all (·.2) = true) (fun q _ => .segment (mf q 4 31 26) q.args) (fun _ _ => [])
    (fun _ e => e) ∧
  Gives 0x0704 .nmRequest (fun q _ => q.args.length = 1 ∧ only (mw q 4) [(31, 29), (5, 0)] = true ∧ mf q 4 31 30 = 0 ∧ (bit (mw q 4) 29 = true ∨ mf q 4 5 0 ≤ 59))
    (fun _ _ => []) (fun q e => hostNeeds (bit (mw q 4) 29) (mf q 4 5 0) q.mbx e) ∧
  Gives 0x0704 .nmRequest (fun q _ => q.args.length = 1 ∧ only (mw q 4) [(31, 29), (5, 0)] = true ∧ mf q 4 31 30 = 1 ∧ (bit (mw q 4) 29 = true ∨ mf q 4 5 0 ≤ 59))
    (fun _ _ => [])
    (fun q e => segCheckAll { e with nm := { e.nm with host := e.nm.host.filter (fun h => h ≠ (bit (mw q 4) 29, mf q 4 5 0, q.mbx)) } }) ∧
  Gives 0x0704 .nmRequest (fun q _ => q.args.length = 1 ∧ only (mw q 4) [(31, 29), (5, 0)] = true ∧ mf q 4 31 30 = 2 ∧ (bit (mw q 4) 29 = true ∨ mf q 4 5 0 ≤ 59))
    (fun _ _ => []) (fun _ e => giveHint e) ∧
  Gives 0x0705 .nmSettings
    (fun q _ => q.args.length = 4 ∧ 100 ≤ mf q 4 31 21 ∧ mf q 4 31 21 ≤ 2000 ∧ 1 ≤ mf q 4 20 13 ∧ 10 ≤ mf q 4 12 3 ∧ mf q 4 12 3 ≤ 1000 ∧ mf q 4 1 0 = 0 ∧
      1 ≤ mf q 5 31 21 ∧ mf q 5 31 21 ≤ 1440 ∧ 1 ≤ mf q 5 20 10 ∧ mf q 5 20 10 ≤ 1440 ∧ mf q 5 9 0 = 0 ∧ 1 ≤ mf q 6 31 21 ∧ mf q 6 31 21 ≤ 1440 ∧ mf q 6 20 0 = 0)
    (fun _ _ => []) (fun q e => { e with nm := { e.nm with settings := q.args } }) ∧
  Gives 0x0706 .nmOffenderRead (fun q _ => q.args = [])
    (fun _ e => packW [(16, e.nm.logFull), (9, 0), (7, e.nm.log.length)] :: e.nm.log.flatMap offenderWords)
    (fun q e => if q.clear then { e with nm := { e.nm with log := [], logFull := 0 } } else e) ∧
  Gives 0x0707 .nmSegmentStatus (fun q _ => q.args.length = 1 ∧ only (mw q 4) [(5, 0)] = true ∧ mf q 4 5 0 ≤ 59) (fun q e => segmentStatus e (mf q 4 5 0))
    (fun q e => if q.clear then
        setSeg (mf q 4 5 0) { segOf e (mf q 4 5 0) with sleeps := 0, wakes := 0, races := 0, sleepDrop := 0, kaRx := 0, kaTx := 0, kaIgnored := 0, gtsCut := 0 } e
      else e) ∧
  Gives 0x0708 .nmWakeSourceStatus (fun q _ => q.args.length = 1 ∧ only (mw q 4) [(4, 0)] = true) (fun q e => sourceStatus e (mf q 4 4 0))
    (fun q e => if q.clear then setSource (mf q 4 4 0) { sourceOf e (mf q 4 4 0) with wakes := 0, falses := 0, maskedHits := 0, maskings := 0 } e else e)

/-- What the KEY, CRYPT and TRACE requests do (R394, R396, R397, R398, R399, R402, R407, R410, R411, R415, R459, R576). -/
def Obligations.CipherAndTraceRequestsTakeEffect : Prop :=
  Gives 0x0801 .keySlotInfo (fun q _ => q.args.length = 1 ∧ only (mw q 4) [(7, 0)] = true) (fun q e => slotRecord (slotAt e (mf q 4 7 0))) (fun _ e => e) ∧
  (∀ b : Bytes, ∀ t q s, Taken 0x0802 t q s →
    let e := entered t 0x0802 q s
    e.ciph.alarm = false → q.args.length = 2 + (mf q 5 15 0 + 3) / 4 → only (mw q 4) [(31, 16)] = true → mf q 4 23 16 ≠ 0 →
    (slotAt e (mf q 4 23 16)).fixed = false → only (mw q 5) [(15, 0)] = true → 24 ≤ mf q 5 15 0 → mf q 5 15 0 ≤ 64 → bulkRoom e 6 = true →
    startStatus e { requester := 6, op := .unwrap, slot := mf q 4 31 24 } = 0 →
    unwrapBlob (slotSeen e (mf q 4 31 24)).key ((recBytes (q.args.drop 2)).take (mf q 5 15 0)) = some b →
    beAt b 0 2 = 0x5344 → byteAt b 3 = 0 → b.length = 8 + keyBytes (byteAt b 2) → keyBytes (byteAt b 2) ≠ 0 → usageOk (byteAt b 2) (beAt b 4 2) = true →
    beAt b 4 2 &&& (slotSeen e (mf q 4 31 24)).childUsage = beAt b 4 2 →
    exec (.keyUnwrap t q) s =
      (let r := keyPut (mf q 4 23 16) (byteAt b 2) 1 (mf q 4 31 24) (beAt b 4 2) (b.drop 8) e
       ends s (conclude 0x0802 q r.1 r.2))) ∧
  (∀ t q s, Taken 0x0803 t q s →
    let e := entered t 0x0803 q s
    let lw := (mf q 4 5 0 + 3) / 4
    e.ciph.alarm = false → q.args.length = 2 + lw + (mf q 5 6 0 + 3) / 4 → only (mw q 4) [(31, 12), (5, 0)] = true → mf q 4 23 16 ≠ 0 →
    (slotAt e (mf q 4 23 16)).fixed = false → keyBytes (mf q 4 15 12) ≠ 0 → mf q 4 5 0 ≤ 32 → only (mw q 5) [(31, 16), (6, 0)] = true →
    usageOk (mf q 4 15 12) (mf q 5 31 16) = true → mf q 5 6 0 ≤ 64 → bulkRoom e 6 = true →
    startStatus e { requester := 6, op := .derive, slot := mf q 4 31 24 } = 0 →
    mf q 5 31 16 &&& (slotSeen e (mf q 4 31 24)).childUsage = mf q 5 31 16 →
    exec (.keyDerive t q) s =
      (let r := keyPut (mf q 4 23 16) (mf q 4 15 12) 2 (mf q 4 31 24) (mf q 5 31 16)
          (kdf (slotSeen e (mf q 4 31 24)).key ((recBytes (q.args.drop 2)).take (mf q 4 5 0)) ((recBytes (q.args.drop (2 + lw))).take (mf q 5 6 0))
            (keyBytes (mf q 4 15 12))) e
       ends s (conclude 0x0803 q r.1 r.2))) ∧
  (∀ t q s, Taken 0x0804 t q s →
    let e := entered t 0x0804 q s
    e.ciph.alarm = false → q.args.length = 2 → only (mw q 4) [(23, 12)] = true → mf q 4 23 16 ≠ 0 → (slotAt e (mf q 4 23 16)).fixed = false →
    keyBytes (mf q 4 15 12) ≠ 0 → only (mw q 5) [(31, 16)] = true → usageOk (mf q 4 15 12) (mf q 5 31 16) = true → bulkRoom e 6 = true →
    startStatus e { requester := 6, op := .keyGen, slot := 0, noKey := true } = 0 →
    exec (.keyGenerate t q) s =
      (let b := randomBytes (keyBytes (mf q 4 15 12) / 8) e
       let r := keyPut (mf q 4 23 16) (mf q 4 15 12) 3 0 (mf q 5 31 16) b.1 b.2
       ends s (conclude 0x0804 q r.1 r.2))) ∧
  (∀ t q s, Taken 0x0805 t q s →
    let e := entered t 0x0805 q s
    e.ciph.alarm = false → q.args.length = 2 + keyBytes (mf q 4 15 12) / 4 → only (mw q 4) [(23, 12)] = true → mf q 4 23 16 ≠ 0 →
    (slotAt e (mf q 4 23 16)).fixed = false → keyBytes (mf q 4 15 12) ≠ 0 → only (mw q 5) [(31, 16)] = true →
    usageOk (mf q 4 15 12) (mf q 5 31 16) = true →
    exec (.keyPlainWrite t q) s =
      (let r := keyPut (mf q 4 23 16) (mf q 4 15 12) 4 0 (mf q 5 31 16) (recBytes (q.args.drop 2)) e
       ends s (conclude 0x0805 q r.1 r.2))) ∧
  Gives 0x0806 .keyErase
    (fun q e => e.ciph.alarm = false ∧ q.args.length = 1 ∧ only (mw q 4) [(7, 0)] = true ∧ mf q 4 7 0 ≠ 0 ∧ (slotAt e (mf q 4 7 0)).fixed = false)
    (fun q e => slotRecord (slotAt (writeSlot (mf q 4 7 0) {} e) (mf q 4 7 0))) (fun q e => writeSlot (mf q 4 7 0) {} e) ∧
  Refuses 0x0806 .keyErase (fun _ e => e.ciph.alarm = true) 6 [] ∧
  Refuses 0x0806 .keyErase (fun q e => e.ciph.alarm = false ∧ q.args.length = 1 ∧ mf q 4 7 0 = 0) 2 [0x00040000] ∧
  Gives 0x0901 .cryptSettings
    (fun q _ => q.args.length = 2 ∧ only (mw q 4) [(6, 0)] = true ∧ 10 ≤ mf q 4 6 0 ∧ mf q 4 6 0 ≤ 90 ∧ only (mw q 5) [(11, 0)] = true ∧ 1 ≤ mf q 5 11 0 ∧
      mf q 5 11 0 ≤ 3600)
    (fun _ _ => []) (fun q e => { e with ciph := { e.ciph with gwShare := mf q 4 6 0, testS := mf q 5 11 0 } }) ∧
  Gives 0x0902 .cryptSecy
    (fun q _ => q.args.length = 6 ∧ mf q 4 31 27 ≤ 27 ∧ (mf q 4 24 23 = 1 ∨ mf q 4 24 23 = 2) ∧ mf q 4 21 20 ≠ 3 ∧ mf q 4 15 0 = 0) (fun _ _ => [])
    (fun q e => setSecy (mf q 4 31 27) { secyOf e (mf q 4 31 27) with
      rec0 := q.args, prev := (secyRec e (mf q 4 31 27), e.time.now) :: (secyOf e (mf q 4 31 27)).prev.filter (fun x => decide (e.time.now < x.2 + 10000000)) } e) ∧
  Gives 0x0903 .cryptSa
    (fun q e => q.args.length = 11 ∧ only (mw q 4) [(8, 0)] = true ∧ mf q 5 12 0 = 0 ∧ (bit (mw q 5) 30 = true → mf q 5 25 21 ≤ 27) ∧ bit (mw q 5) 31 = true ∧
      (slotSeen e (mf q 6 31 24)).type = 1 + mf q 5 26 26 ∧ (slotSeen e (mf q 6 31 24)).usage.testBit 0 = true ∧ mf q 6 7 0 = 0 ∧ saStatus e (q.args.drop 1) = 0)
    (fun _ _ => [])
    (fun q e => setSa (mf q 4 8 0)
      { rec0 := q.args.drop 1, next := cat64 (mw q 7) (mw q 8), key := some (slotSeen e (mf q 6 31 24)).key,
        exhausted := decide (saLimit (q.args.drop 1) < cat64 (mw q 7) (mw q 8)) } e) ∧
  Gives 0x0903 .cryptSa
    (fun q _ => q.args.length = 11 ∧ only (mw q 4) [(8, 0)] = true ∧ mf q 5 12 0 = 0 ∧ (bit (mw q 5) 30 = true → mf q 5 25 21 ≤ 27) ∧ bit (mw q 5) 31 = false ∧
      mf q 6 7 0 = 0)
    (fun _ _ => [])
    (fun q e => setSa (mf q 4 8 0)
      { rec0 := q.args.drop 1, next := cat64 (mw q 7) (mw q 8), key := none, exhausted := decide (saLimit (q.args.drop 1) < cat64 (mw q 7) (mw q 8)) } e) ∧
  Gives 0x0904 .cryptReceiveSc
    (fun q _ => q.args.length = 6 ∧ only (mw q 4) [(7, 0)] = true ∧ mf q 5 25 0 = 0 ∧ mf q 5 30 26 ≤ 27 ∧ mf q 8 31 27 = 0 ∧ mf q 9 22 0 = 0) (fun _ _ => [])
    (fun q e => { e with ciph := { e.ciph with rxsc := tset [] e.ciph.rxsc (mf q 4 7 0) (q.args.drop 1) } }) ∧
  Gives 0x0905 .cryptSecyStatus (fun q _ => q.args.length = 1 ∧ only (mw q 4) [(4, 0)] = true ∧ mf q 4 4 0 ≤ 27) (fun q e => secyStatus e (mf q 4 4 0))
    (fun q e => if q.clear then setSecy (mf q 4 4 0) { secyOf e (mf q 4 4 0) with counts := [] } e else e) ∧
  Gives 0x0906 .cryptRxSaStatus (fun q _ => q.args.length = 1 ∧ only (mw q 4) [(8, 0)] = true)
    (fun q e => split64 (saOf e (mf q 4 8 0)).next ++ [packW [(30, 0), (1, b2n (saOf e (mf q 4 8 0)).exhausted), (1, b2n (saOf e (mf q 4 8 0)).key.isSome)]])
    (fun _ e => e) ∧
  Gives 0x0910 .cryptOperation
    (fun q e => q.args.length = 10 ∧ mf q 4 31 28 = 6 ∧ mf q 4 27 26 = 0 ∧ mf q 5 15 0 = 0 ∧ mf q 5 31 16 ≤ 4096 ∧ only (mw q 6) [(16, 0)] = true ∧
      only (mw q 7) [(16, 0)] = true ∧ mf q 6 16 0 + mf q 7 16 0 ≤ 131072 ∧ mf q 7 16 0 ≤ 16384 ∧ only (mw q 8) [(16, 0)] = true ∧
      only (mw q 9) [(16, 0)] = true ∧ mf q 8 16 0 + mf q 9 16 0 ≤ 131072 ∧ bulkRoom e 5 = true ∧
      opStart e .sha256 (mf q 4 23 16) (mf q 4 15 0) (bit (mw q 4) 25) false = 0)
    (fun q e => [0, 0] ++ bytesRec (sha false ((List.range (mf q 7 16 0)).map (fun i => memGet e (0xE0000 + mf q 6 16 0 + i))))) (fun _ e => e) ∧
  Gives 0x0A01 .traceSelector
    (fun q e => q.args.length = 2 ∧ mf q 4 30 27 ≠ 15 ∧ mf q 4 24 23 ≠ 3 ∧ mf q 4 22 19 ≤ 8 ∧ mf q 4 17 0 = 0 ∧
      (mf q 4 24 23 = 0 → bit (mw q 5) 31 = false) ∧ (mf q 4 24 23 = 1 → mf q 5 31 12 = 0) ∧ (e.sys.fw.lifecycle ≠ 2 ∨ mf q 4 22 19 ≤ 2))
    (fun _ _ => []) (fun q e => { e with cs := { e.cs with sel := tset [] e.cs.sel (mf q 4 30 27) q.args } }) ∧
  Refuses 0x0A01 .traceSelector
    (fun q e => q.args.length = 2 ∧ mf q 4 30 27 ≠ 15 ∧ mf q 4 24 23 ≠ 3 ∧ mf q 4 22 19 ≤ 8 ∧ mf q 4 17 0 = 0 ∧
      (mf q 4 24 23 = 0 → bit (mw q 5) 31 = false) ∧ (mf q 4 24 23 = 1 → mf q 5 31 12 = 0) ∧ e.sys.fw.lifecycle = 2 ∧ 2 < mf q 4 22 19)
    6 [] ∧
  Gives 0x0A02 .traceExport
    (fun q _ => q.args.length = 4 ∧ bit (mw q 4) 30 = true ∧ mf q 4 28 24 ≤ 28 ∧ bit (mw q 4) 0 = false ∧ mf q 7 3 0 = 0) (fun _ _ => [])
    (fun q e => { e with cs := { e.cs with
      chan1 := { cfg := q.args, en := bit (mw q 4) 31, pos := if bit (mw q 4) 29 then oldestAt e else nextAt e } } }) ∧
  Gives 0x0A02 .traceExport
    (fun q _ => q.args.length = 4 ∧ bit (mw q 4) 30 = false ∧ mf q 4 28 24 ≤ 28 ∧ bit (mw q 4) 0 = false ∧ 1 ≤ mf q 4 15 2 ∧ mf q 4 15 2 ≤ 10000 ∧ mf q 7 3 0 = 0 ∧
      1 ≤ mf q 7 15 4 ∧ mf q 7 15 4 ≤ 4094) (fun _ _ => [])
    (fun q e => { e with cs := { e.cs with
      chan0 := { cfg := q.args, en := bit (mw q 4) 31, pos := if bit (mw q 4) 29 then oldestAt e else nextAt e } } }) ∧
  Gives 0x0A03 .traceSettings (fun q e => q.args.length = 1 ∧ only (mw q 4) [(3, 0)] = true ∧ mf q 4 3 0 ≤ 8 ∧ (e.sys.fw.lifecycle ≠ 2 ∨ mf q 4 3 0 ≤ 2))
    (fun _ _ => []) (fun q e => { e with cs := { e.cs with snap := mf q 4 3 0 } })

/-- What the DARK requests do (R431, R433, R435, R436, R437, R441, R442, R444, R446). -/
def Obligations.DarkroomRequestsTakeEffect : Prop :=
  Gives 0x0B01 .darkStatus (fun q _ => q.args.length = 2 ∧ only (mw q 4) [(7, 0)] = true ∧ mf q 4 7 0 < nSlots ∧ only (mw q 5) [(8, 0)] = true ∧ mf q 5 8 0 ≤ 256)
    (fun q e => [darkStat e, word e.dark.nextEv, packW [(16, nSlots), (16, (freeSlots e).length)]]
      ++ (List.range (min (mf q 5 8 0) (nSlots - mf q 4 7 0))).flatMap (fun i => slotWords e (mf q 4 7 0 + i)))
    (fun _ e => e) ∧
  (∀ k, Gives 0x0B02 .darkIdentity (fun q e => q.args = [] ∧ e.dark.key = some k)
    (fun _ e => bytesRec (beBytes k.toNat 64) ++ bytesRec (drkId e)) (fun _ e => e)) ∧
  Gives 0x0B03 .darkCalibrationRead (fun q e => q.args.length = 1 ∧ only (mw q 4) [(3, 0)] = true ∧ mf q 4 3 0 < e.dark.images)
    (fun q e => imageWords e (mf q 4 3 0)) (fun _ e => e) ∧
  (∀ ws, GoesOn 0x0B04 .darkReseal
    (fun q e => bulkOf 0 q e = some (ws, 2048) ∧ e.dark.images ≠ 16 ∧ imageShape ws = true ∧ e.dark.reseal = none ∧ e.dark.run = true)
    (fun _ e => [word e.dark.images])
    (fun _ e => { e with dark := { e.dark with reseal := some (e.dark.images, packW [(16, 1), (4, e.dark.images), (12, 0)] :: ws.drop 1) } })) ∧
  (∀ ws n, Refuses 0x0B04 .darkReseal (fun q e => bulkOf 0 q e = some (ws, n) ∧ e.dark.images = 16) 6 []) ∧
  Gives 0x0B05 .darkTrigger (fun q _ => q.args.length = 1 ∧ only (mw q 4) [(15, 0)] = true)
    (fun q e => [word (evidenceTrigger (.host q.mbx (mf q 4 15 0)) e).1]) (fun q e => (evidenceTrigger (.host q.mbx (mf q 4 15 0)) e).2) ∧
  Gives 0x0B06 .darkTriggerTable
    (fun q e => q.args.length = 4 ∧ only (mw q 4) [(3, 0)] = true ∧ mf q 5 25 23 ≤ 5 ∧ mf q 5 6 0 = 0 ∧ only (mw q 6) [(28, 0)] = true ∧
      only (mw q 7) [(28, 0)] = true ∧ e.dark.run = true)
    (fun _ _ => [])
    (fun q e => { e with dark := { e.dark with trig := tset [] e.dark.trig (mf q 4 3 0) (q.args.drop 1), trigHold := tset 0 e.dark.trigHold (mf q 4 3 0) 0 } }) ∧
  Gives 0x0B07 .darkWindow
    (fun q e => q.args.length = 3 ∧ mf q 4 31 16 ≤ 60000 ∧ mf q 4 15 0 ≤ 30000 ∧ mf q 5 31 16 ≤ 32256 ∧ mf q 5 15 0 = 0 ∧ e.dark.run = true) (fun _ _ => [])
    (fun q e => { e with dark := { e.dark with window := q.args } }) ∧
  Refuses 0x0B07 .darkWindow
    (fun q e => q.args.length = 3 ∧ mf q 4 31 16 ≤ 60000 ∧ mf q 4 15 0 ≤ 30000 ∧ mf q 5 31 16 ≤ 32256 ∧ mf q 5 15 0 = 0 ∧ e.dark.run = false) 4 [] ∧
  Gives 0x0B08 .darkExport
    (fun q e => q.args.length = 2 ∧ only (mw q 4) [(7, 0)] = true ∧ mf q 4 7 0 < nSlots ∧ only (mw q 5) [(6, 0)] = true ∧ e.dark.run = true ∧
      (darkSlot e (mf q 4 7 0)).st = 2)
    (fun q e =>
      let ws := ((slotContent (darkSlot e (mf q 4 7 0))).drop (1024 * mf q 5 6 0)).take 1024
      word (4 * ws.length) :: ws)
    (fun q e => setDarkSlot (mf q 4 7 0) { darkSlot e (mf q 4 7 0) with
      exporting := decide (1024 * (mf q 5 6 0 + 1) < (slotContent (darkSlot e (mf q 4 7 0))).length) } e) ∧
  Refuses 0x0B08 .darkExport
    (fun q e => q.args.length = 2 ∧ only (mw q 4) [(7, 0)] = true ∧ mf q 4 7 0 < nSlots ∧ only (mw q 5) [(6, 0)] = true ∧ e.dark.run = true ∧
      (darkSlot e (mf q 4 7 0)).st ≠ 2) 3 [packW [(16, 4), (16, 0)]] ∧
  Gives 0x0B09 .darkRelease
    (fun q e => q.args.length = 1 ∧ only (mw q 4) [(7, 0)] = true ∧ mf q 4 7 0 < nSlots ∧ e.dark.run = true ∧ (darkSlot e (mf q 4 7 0)).exporting = false ∧
      (darkSlot e (mf q 4 7 0)).st ≠ 1)
    (fun _ _ => []) (fun q e => setDarkSlot (mf q 4 7 0) {} e) ∧
  Gives 0x0B0A .darkAttest (fun q e => q.args.length = 4 ∧ e.dark.run = true)
    (fun q e => attestWords e ++ bytesRec (darkSign (recBytes (q.args ++ attestWords e)) e).1)
    (fun q e => (darkSign (recBytes (q.args ++ attestWords e)) e).2) ∧
  Refuses 0x0B0A .darkAttest (fun q e => q.args.length = 4 ∧ e.dark.run = false) 4 [] ∧
  Gives 0x0B0B .darkAuditRead
    (fun q _ => q.args.length = 2 ∧ only (mw q 4) [(6, 0)] = true ∧ only (mw q 5) [(7, 0)] = true ∧ 1 ≤ mf q 5 7 0 ∧ mf q 5 7 0 ≤ 128)
    (fun q e => ((e.dark.audit.drop (mf q 4 6 0)).take (mf q 5 7 0)).flatten) (fun _ e => e)

/-- What the PAIR and TEST requests do (R577, R578, R580, R581, R584, R594, R648, R650, R651, R652, R654). -/
def Obligations.PairAndTestRequestsTakeEffect : Prop :=
  Gives 0x0C01 .pairConfig
    (fun q e => q.args.length = 2 ∧ only (mw q 4) [(31, 31), (3, 0)] = true ∧ 4 ≤ mf q 4 3 0 ∧ mf q 4 3 0 ≤ 11 ∧ only (mw q 5) [(9, 0)] = true ∧
      10 ≤ mf q 5 9 0 ∧ mf q 5 9 0 ≤ 1000 ∧ (bit (mw q 4) 31 = true → e.pair.bound.isSome = true) ∧ prMode (portRec e (mf q 4 3 0)) ≠ 0)
    (fun _ _ => []) (fun q e => pairEnable (bit (mw q 4) 31) { e with pair := { e.pair with port := mf q 4 3 0, interval := mf q 5 9 0 } }) ∧
  Refuses 0x0C01 .pairConfig
    (fun q e => q.args.length = 2 ∧ only (mw q 4) [(31, 31), (3, 0)] = true ∧ 4 ≤ mf q 4 3 0 ∧ mf q 4 3 0 ≤ 11 ∧ only (mw q 5) [(9, 0)] = true ∧
      10 ≤ mf q 5 9 0 ∧ mf q 5 9 0 ≤ 1000 ∧ bit (mw q 4) 31 = true ∧ e.pair.bound = none) 3 [packW [(16, 4), (16, 0)]] ∧
  (∀ o, Gives 0x0C02 .pairObject
    (fun q e => q.args.length = 1 ∧ only (mw q 4) [(31, 24)] = true ∧ objNumber (mf q 4 31 30) (mf q 4 29 25) = some o ∧ owns e o = false ∧
      bit (mw q 4) 24 = true)
    (fun _ _ => []) (fun _ e => setObj o { objOf e o with interlock := false, claim := none } e)) ∧
  (∀ o, Gives 0x0C02 .pairObject
    (fun q e => q.args.length = 1 ∧ only (mw q 4) [(31, 24)] = true ∧ objNumber (mf q 4 31 30) (mf q 4 29 25) = some o ∧ owns e o = false ∧
      bit (mw q 4) 24 = false)
    (fun _ _ => [])
    (fun _ e =>
      let e1 := setObj o { objOf e o with interlock := true, claim := none } e
      if e.pair.ilOwned then takeObj o true none e1 else e1)) ∧
  (∀ o, Refuses 0x0C02 .pairObject
    (fun q e => q.args.length = 1 ∧ only (mw q 4) [(31, 24)] = true ∧ objNumber (mf q 4 31 30) (mf q 4 29 25) = some o ∧ owns e o = true) 4 []) ∧
  GoesOn 0x0C03 .pairBind (fun q e => q.args.length = 3 ∧ only (mw q 4) [(0, 0)] = true ∧ e.pair.binds ≠ 8 ∧ fuseBusy e = false ∧ e.dark.run = true) (fun _ e => [word (e.pair.binds + 1)])
    (fun q e => auditAppend 4 (e.pair.binds + 1) (bindWord e.pair.bound) (bindWord (some (bit (mw q 4) 0, cat64 (mw q 5) (mw q 6)))) (releaseShort e) e) ∧
  Refuses 0x0C03 .pairBind (fun q e => q.args.length = 3 ∧ only (mw q 4) [(0, 0)] = true ∧ e.pair.binds = 8) 6 [] ∧
  Gives 0x0C04 .pairStatus (fun q _ => q.args = [])
    (fun _ e => packW [(1, b2n e.pair.up), (1, b2n e.pair.bound.isSome), (1, b2n (roleB e)), (29, 0)] :: (List.range 40).map (objStatus e)) (fun _ e => e) ∧
  (∀ o, Gives 0x0C05 .pairRelease
    (fun q e => q.args.length = 1 ∧ only (mw q 4) [(31, 25)] = true ∧ objNumber (mf q 4 31 30) (mf q 4 29 25) = some o ∧ (leaseEnds o e).pair.en = true ∧
      owns (leaseEnds o e) o = true)
    (fun _ _ => [])
    (fun _ e =>
      let e1 := leaseEnds o e
      let l := if (objOf e1 o).interlock then group e1 else [o]
      { e1 with pair := { e1.pair with release := e1.pair.release ++ l.filter (fun x => !e1.pair.release.contains x) } })) ∧
  (∀ o t q s, Taken 0x0C05 t q s →
    let e := entered t 0x0C05 q s
    q.args.length = 1 → only (mw q 4) [(31, 25)] = true → objNumber (mf q 4 31 30) (mf q 4 29 25) = some o →
    ((leaseEnds o e).pair.en = false ∨ owns (leaseEnds o e) o = false) →
    exec (.pairRelease t q) s = answered s 0x0C05 q 3 [packW [(16, 4), (16, 0)]] (leaseEnds o e)) ∧
  Gives 0x0E01 .testLoopback
    (fun q e => q.args.length = 1 ∧ only (mw q 4) [(4, 0), (7, 6)] = true ∧ mf q 4 4 0 < 28 ∧ ((mf q 4 4 0 ≠ 18 ∧ mf q 4 4 0 ≠ 19) ∨ mf q 4 7 6 < 2) ∧
      mf q 4 7 6 ≠ 0 ∧ (portOf e (mf q 4 4 0)).st ≠ .outOfService)
    (fun _ _ => []) (fun q e => tryUp (mf q 4 4 0) (testPort (mf q 4 4 0) (fun v => { v with loop := mf q 4 7 6 }) e)) ∧
  Gives 0x0E02 .testPrbs
    (fun q _ => q.args.length = 1 ∧ only (mw q 4) [(3, 0), (6, 4), (9, 8)] = true ∧ mf q 4 3 0 < 12 ∧ mf q 4 6 4 ≤ 4 ∧ mf q 4 9 8 = 1) (fun _ _ => [])
    (fun q e => testPort (mf q 4 3 0) (fun v => { v with prbs := some (mf q 4 6 4), prbsBits := 0, prbsErrs := 0 }) e) ∧
  Gives 0x0E02 .testPrbs
    (fun q _ => q.args.length = 1 ∧ only (mw q 4) [(3, 0), (6, 4), (9, 8)] = true ∧ mf q 4 3 0 < 12 ∧ mf q 4 6 4 ≤ 4 ∧ mf q 4 9 8 = 2)
    (fun q e => split64 (portOf (prbsCounted (mf q 4 3 0) e) (mf q 4 3 0)).prbsBits ++ [word (portOf (prbsCounted (mf q 4 3 0) e) (mf q 4 3 0)).prbsErrs])
    (fun q e => prbsCounted (mf q 4 3 0) e) ∧
  GoesOn 0x0E03 .testCable
    (fun q e => q.args.length = 1 ∧ only (mw q 4) [(4, 0)] = true ∧ isT (mf q 4 4 0) = true ∧ (portOf e (mf q 4 4 0)).cable = false ∧
      (segOf e (mf q 4 4 0)).state ≠ 2 ∧ (segOf e (mf q 4 4 0)).state ≠ 3 ∧ (segOf e (mf q 4 4 0)).state ≠ 4)
    (fun q _ => [word (mf q 4 4 0)]) (fun q e => testPort (mf q 4 4 0) (fun v => { v with cable := true }) e) ∧
  GoesOn 0x0E04 .testCipher
    (fun q e => q.args.length = 1 ∧ only (mw q 4) [(1, 0)] = true ∧ mf q 4 1 0 = 2 ∧ e.ciph.test2 = false ∧ e.ciph.test3 = false ∧ bulkRoom e 7 = true)
    (fun _ _ => [2]) (fun _ e => submitTests e) ∧
  GoesOn 0x0E04 .testCipher (fun q _ => q.args.length = 1 ∧ only (mw q 4) [(1, 0)] = true ∧ mf q 4 1 0 = 0) (fun _ _ => [0])
    (fun _ e => { e with ciph := { e.ciph with test0 := true } }) ∧
  GoesOn 0x0E04 .testCipher (fun q _ => q.args.length = 1 ∧ only (mw q 4) [(1, 0)] = true ∧ mf q 4 1 0 = 1) (fun _ _ => [1])
    (fun _ e => { e with ciph := { e.ciph with test1 := true } }) ∧
  Stages 0x0E05 .testService
    (fun q e => q.args.length = 1 ∧ only (mw q 4) [(4, 0), (8, 8)] = true ∧ mf q 4 4 0 < 28 ∧ (e.pair.en = false ∨ e.pair.port ≠ mf q 4 4 0))
    (fun q _ => .service (mf q 4 4 0) (bit (mw q 4) 8)) (fun _ _ => []) (fun _ e => e) ∧
  Refuses 0x0E05 .testService
    (fun q e => q.args.length = 1 ∧ only (mw q 4) [(4, 0), (8, 8)] = true ∧ mf q 4 4 0 < 28 ∧ e.pair.en = true ∧ e.pair.port = mf q 4 4 0) 3 [packW [(16, 4), (16, 0)]] ∧
  Gives 0x0E06 .testScrubStatus (fun q _ => q.args = [])
    (fun _ e => (List.range 7).flatMap (fun i => [word (tget (0, 0) e.sys.test.ecc i).1, word (tget (0, 0) e.sys.test.ecc i).2]))
    (fun q e => if q.clear then { e with sys := { e.sys with test := { e.sys.test with ecc := [] } } } else e)

/-- What the events of the Beat, of the mapping and of the sources of working time do (R20, R21, R23, R28, R30, R45, R47, R48, R58, R59, R60, R85). -/
def Obligations.BeatAndMappingEventsTakeEffect : Prop :=
  Does .beatBoundary (fun s => (anchorReached s).beat.next ≤ wtNow (anchorReached s)) (fun s => boundary (anchorReached s).beat.next (anchorReached s)) ∧
  Does .taskListFinish (fun s => s.beat.lists = true ∧ s.beat.listBusy = true)
    (fun s =>
      let run := (s.time.now - s.beat.listStart) * 1000 / (31250 * 2 ^ s.beat.k)
      let e := giveWay (.arm s.beat.staged.length) { s with beat := { s.beat with
        listBusy := false, listLate := false, runPeak := max s.beat.runPeak run, runSum := s.beat.runSum + run, runs := s.beat.runs + 1 } }
      if s.beat.listLate = true then startList e else e) ∧
  (∀ n s, runLate (.arm n) s = armSets (s.beat.staged.take n) { s with beat := { s.beat with staged := s.beat.staged.drop n } }) ∧
  (∀ a q, q.step = none → q.jump = none → Does .mappingAnchor (fun s => s.time.pend = some (a, q) ∧ a ≤ s.time.now) (fun s => takeMapping a q s)) ∧
  (∀ a q, q.step.isSome = true ∨ q.jump.isSome = true → Does .mappingAnchor (fun s => s.time.pend = some (a, q) ∧ a ≤ s.time.now)
    (fun s =>
      let w := wtAt s.time.map a
      let e := sgateListsAt w (gateListsAt w (takeMapping a q s))
      skipAll { e with
        beat := { e.beat with next := boundaryFrom e.beat.k (wtAt e.time.map a) }
        ptime := { e.ptime with stepTgl := if e.ptime.role = 1 then !e.ptime.stepTgl else e.ptime.stepTgl } })) ∧
  Does .phaseSlewEnd
    (fun s => s.time.corrOn = true ∧ s.time.corr = 0 ∧ (∀ a q, s.time.pend = some (a, q) → q.corr = none) ∧ ∀ q, s.time.wait = some q → q.corr = none)
    (fun s => requestMapping { p := some 0, causes := [3] } { s with time := { s.time with corrOn := false } }) ∧
  (∀ a b r since, Does .hotStandbyRevert
    (fun s => s.net.pair = some (a, b) ∧ residualOf s a = some r ∧ (slotOf4 s a).residualSince = some since ∧ s.net.revert = true ∧ s.time.src = 1 ∧
      s.time.domain ≠ a ∧ since + s.net.holdOff * 1000000000 ≤ s.time.now)
    (fun s => if s.net.hostDone.map (·.1) = some s.time.now then hostTo ((s.net.hostDone.map (·.2)).getD 0) (switchTo a r s) else switchTo a r s)) ∧
  (∀ i, Does (fun t => .syncReceiptTimeout t i)
    (fun s => (slotOf4 s i).valid = true ∧ lastSyncOf s i + syncTimeout (slotCfg s i) ≤ s.time.now)
    (fun s => sourceLost i 0x02 (match slavePort s i with | some p => countNet i p 7 s | none => s))) ∧
  (∀ i port v, Does (fun t => .announceReceiptTimeout t i port)
    (fun s => tget none s.net.announce (i * 32 + port) = some v ∧ slotEnabled s i = true ∧ v.at0 + announceTimeout (slotCfg s i) ≤ s.time.now)
    (fun s => runBmca i (timeEvent (38 + i) 0x03 (countNet i port 7 (setAnnounce i port none s)))))

/-- The mapping that is in force once its anchor has come (R45, R46, R47, R48, R49, R58, R59). -/
def Obligations.MappingInForceAfterItsAnchor : Prop :=
  ∀ t s a q, coreOn (acting t s) = true → (acting t s).time.pend = some (a, q) → a ≤ (acting t s).time.now →
    let e := acting t s
    ∃ u, exec (.mappingAnchor t) s = ends s u ∧ u.time.map.la = a ∧ u.time.map.wa = q.step.getD (wtAt e.time.map a + q.jump.getD 0) ∧
      u.time.map.gen = (e.time.map.gen + 1) % 2 ^ 32 ∧ u.time.map.cause = causeOf q.causes ∧
      u.time.f = clampI (-slewClamp) slewClamp (q.f.getD e.time.fAsk) ∧ u.time.map.a = u.time.f + u.time.p ∧
      -slewClamp ≤ u.time.map.a ∧ u.time.map.a ≤ slewClamp ∧
      (u.time.clamp = true ↔ u.time.f ≠ q.f.getD e.time.fAsk) ∧ u.time.corr = q.corr.getD e.time.corr ∧
      (q.p = some 0 → u.time.p = 0)

/-- A boundary counts one in the Beat sequence number, and finds the next boundary one Beat length later (R22). -/
def Obligations.BoundaryNumbersTheBeat : Prop :=
  ∀ t s, coreOn (acting t s) = true → (anchorReached (acting t s)).beat.next ≤ wtNow (anchorReached (acting t s)) →
    let e := anchorReached (acting t s)
    ∃ u, exec (.beatBoundary t) s = ends s u ∧ u.beat.seq = (e.beat.seq + 1) % 2 ^ 32 ∧
      u.beat.k = (if e.beat.next % wtSec = 0 then kDue e else e.beat.k) ∧
      u.beat.inSec = ((e.beat.next % wtSec) / beatLen u.beat.k).toNat ∧ u.beat.next = e.beat.next + beatLen u.beat.k

/-- What gPTP messages and timers do (R80, R81, R84, R86, R87, R88, R95, R98, R101, R102, R103, R112). -/
def Obligations.NetworkTimeEventsTakeEffect : Prop :=
  (∀ port m, Does (fun t => .gptpSyncRx t port m) (fun s => 20 ≤ port ∨ slotByDomain s m.domain = none) (fun s => countGptpDrop port s)) ∧
  (∀ port m i, m.twoStep = true → Does (fun t => .gptpSyncRx t port m)
    (fun s => port < 20 ∧ slotByDomain s m.domain = some i ∧ slavePort s i = some port ∧ portUp s port = true ∧ (portTimeOf s port).asCap = true)
    (fun s =>
      let e := countNet i port 0 s
      setSlot i { slotOf4 e i with held := (slotOf4 e i).held ++ [⟨port, ingressStamp s port m.held, m, delayOf s port, (portTimeOf s port).nrr⟩] } e)) ∧
  (∀ port m i, m.twoStep = false → Does (fun t => .gptpSyncRx t port m)
    (fun s => port < 20 ∧ slotByDomain s m.domain = some i ∧ slavePort s i = some port ∧ portUp s port = true ∧ (portTimeOf s port).asCap = true)
    (fun s =>
      let h : HeldSync := ⟨port, ingressStamp s port m.held, m, delayOf s port, (portTimeOf s port).nrr⟩
      servoSync i h m (relaySync i h m (countNet i port 0 s)))) ∧
  (∀ port m i h, Does (fun t => .followUpRx t port m)
    (fun s => port < 20 ∧ slotByDomain s m.domain = some i ∧ slavePort s i = some port ∧ portUp s port = true ∧ (portTimeOf s port).asCap = true ∧
      (slotOf4 s i).held = [h] ∧ h.port = port ∧ h.msg.seqId = m.seqId ∧ s.time.now ≤ (h.stamp / 65536).toNat + 100000000)
    (fun s => servoSync i h m (relaySync i h m (setSlot i { slotOf4 s i with held := [] } s)))) ∧
  (∀ i h, Does (fun t => .followUpMatchTimeout t i)
    (fun s => (slotOf4 s i).held = [h] ∧ (h.stamp / 65536).toNat + 100000000 ≤ s.time.now)
    (fun s => countNet i h.port 3 (setSlot i { slotOf4 s i with held := [] } s))) ∧
  (∀ i, Does (fun t => .gmSyncTx t i) (fun s => isGrandmaster s i = true)
    (fun s =>
      let due := (masterPorts s i).filter (fun p => intervalDue s.time.now (tget none s.net.syncTx (i * 32 + p))
        (logInterval ((tget none s.net.syncAsk (i * 32 + p)).getD (slotSyncLog (slotCfg s i)))))
      due.foldl (fun e p =>
        let seq := tget 0 e.net.syncSeq (i * 32 + p)
        sendGptp p (slotTc (slotCfg e i)) { kind := 0, slot := i, seqId := seq, csro := (mapOf e.time e.time.now).a.tdiv 8, twoStep := slotTwoStep (slotCfg e i) p }
          { e with net := { e.net with syncTx := tset none e.net.syncTx (i * 32 + p) (some e.time.now), syncSeq := tset 0 e.net.syncSeq (i * 32 + p) ((seq + 1) % 65536) } }) s)) ∧
  (∀ port m, Does (fun t => .announceRx t port m) (fun s => 20 ≤ port ∨ slotByDomain s m.domain = none) (fun s => countGptpDrop port s)) ∧
  (∀ port m i, Does (fun t => .announceRx t port m)
    (fun s => port < 20 ∧ slotByDomain s m.domain = some i ∧ bmcaPort s port = true ∧ fwRuns s = true ∧
      announceFits m ⟨m.gm, m.stepsRemoved, m.srcClock, m.srcPort, m.path, s.time.now⟩ (tget none s.net.announce (i * 32 + port)) = true)
    (fun s =>
      let v : PortInfo := ⟨m.gm, m.stepsRemoved, m.srcClock, m.srcPort, m.path, s.time.now⟩
      let e := { s with net := { s.net with announce := tset none s.net.announce (i * 32 + port) (some v) } }
      if slotMode (slotCfg s i) = 1 then runBmca i e else if slavePort s i = some port then takeGm i v e else e)) ∧
  (∀ i port, Does (fun t => .announceTx t i port)
    (fun s => roleOf s i port = 2 ∧ intervalDue s.time.now (tget none s.net.announceTx (i * 32 + port))
      (logInterval ((tget none s.net.announceAsk (i * 32 + port)).getD (slotAnnLog (slotCfg s i)))) = true)
    (fun s =>
      let seq := tget 0 s.net.announceSeq (i * 32 + port)
      sendGptp port (slotTc (slotCfg s i)) { kind := 11, slot := i, seqId := seq, announce := some (announceSays s i) }
        { s with net := { s.net with announceTx := tset none s.net.announceTx (i * 32 + port) (some s.time.now)
                                     announceSeq := tset 0 s.net.announceSeq (i * 32 + port) ((seq + 1) % 65536) } })) ∧
  (∀ port, Does (fun t => .pdelayReqTx t port)
    (fun s => port < 20 ∧ liveSlots s ≠ [] ∧ portUp s port = true ∧ fwRuns s = true ∧ intervalDue s.time.now (portTimeOf s port).lastReq
      (logInterval ((portTimeOf s port).pdelayAsk.getD (ptPdelayLog (portTimeCfg s port)))) = true)
    (fun s =>
      let v := portTimeOf s port
      let e := if v.reqT1.isSome then judgeAsCapable port (countNet 0 port 6 (setPortTime port { v with lost := v.lost + 1, reqT1 := none } s)) else s
      let seq := ((portTimeOf e port).reqSeq + 1) % 65536
      sendGptp port (pdelayClass e) { kind := 2, slot := 0, cmlds := true, seqId := seq }
        (setPortTime port { portTimeOf e port with reqSeq := seq, lastReq := some s.time.now, responder := none } e))) ∧
  (∀ port m, Does (fun t => .pdelayReqRx t port m) (fun s => port < 20 ∧ liveSlots s ≠ [] ∧ portUp s port = true ∧ (m.cmlds = true ∨ m.domain = 0))
    (fun s => sendGptp port (pdelayClass s) { kind := 3, slot := (slotByDomain s 0).getD 0, cmlds := m.cmlds, seqId := m.seqId, twoStep := true
                                              peer := (m.srcClock, m.srcPort), stamp := ingressStamp s port m.held }
      (countNet 0 port 5 s))) ∧
  (∀ port m t1, Does (fun t => .pdelayRespRx t port m)
    (fun s => port < 20 ∧ fwRuns s = true ∧ (portTimeOf s port).responder = none ∧ (portTimeOf s port).reqT1 = some t1 ∧ m.seqId = (portTimeOf s port).reqSeq)
    (fun s =>
      let v := portTimeOf s port
      let t4 : Int := ingressStamp s port m.held
      let turns := ((m.t3, t4) :: v.turns).take 9
      let nrr := nrrOf turns v.nrr
      let samples := (((t4 - t1) - (m.t3 - m.t2) * (2 ^ 41 + nrr) / 2 ^ 41) / 2 :: v.samples).take 8
      judgeAsCapable port (setPortTime port { v with
        turns := turns, nrr := nrr, samples := samples, lost := 0, reqT1 := none, responder := some (m.seqId, m.responder)
        dUp := if ptStoredEn (portTimeCfg s port) = true ∧ samples.length < 8 then v.dUp else meanI samples } s))) ∧
  (∀ port m r, Does (fun t => .pdelayRespRx t port m)
    (fun s => port < 20 ∧ fwRuns s = true ∧ (portTimeOf s port).responder = some (m.seqId, r) ∧ r ≠ m.responder)
    (fun s => judgeAsCapable port (setPortTime port { portTimeOf s port with multi := true } s)))

/-- What PAIR_TIME pulses and the edges of the TIO pins do (R69, R70, R72, R74, R76, R77, R114, R115, R116, R117, R118). -/
def Obligations.PairTimeAndPinEventsTakeEffect : Prop :=
  (∀ w0 w1 w2, Does (fun t => .pairTimePulseRx t w0 w1 w2) (fun s => s.ptime.role = 2 ∧ bits w2 7 0 ≠ codeCrc w0 w1 w2)
    (fun s => badPulse (count rTIME_CNT 31 16 s))) ∧
  (∀ w0 w1 w2, Does (fun t => .pairTimePulseRx t w0 w1 w2) (fun s => s.ptime.role = 2 ∧ bits w2 7 0 = codeCrc w0 w1 w2 ∧ bits w2 15 13 ≠ s.beat.k)
    (fun s => setFlag rTIME_STAT 28 (count rTIME_CNT 31 16 { s with ptime := { s.ptime with good := 0, bad := 0, edge := none } }))) ∧
  (∀ w0 w1 w2, Does (fun t => .pairTimePulseRx t w0 w1 w2)
    (fun s => s.ptime.role = 2 ∧ bits w2 7 0 = codeCrc w0 w1 w2 ∧ bits w2 15 13 = s.beat.k ∧ s.time.src ≠ 3 ∧
      ((wtOfStamp s (s.time.now * 65536 - (s.ptime.delay * 65536 / 1000 : Nat)) - codeInstant w0 w1 w2).natAbs : Int) ≤ 100 * 65536 ∧
      (s.ptime.lock = true ∨ s.ptime.good < 7))
    (fun s =>
      let d : Int := (s.ptime.delay * 65536 / 1000 : Nat)
      let e := wtOfStamp s (s.time.now * 65536 - d) - codeInstant w0 w1 w2
      { s with ptime := { s.ptime with
        err := clampI (-32767) 32767 (e * 4 / 65536), good := if bit w1 0 = true ∧ e.natAbs ≤ 20 * 65536 then s.ptime.good + 1 else 0, bad := 0
        edge := some (s.time.now * 65536 - d, codeInstant w0 w1 w2), seenTgl := some (bit w2 8) } })) ∧
  Does .pairTimePulseMissing (fun s => s.ptime.role = 2 ∧ pulseOverdue s = true) (fun s => badPulse (count rTIME_CNT 15 0 s)) ∧
  (∀ n w a, Does (fun t => .tioActiveEdge t n)
    (fun s0 =>
      let s := anchorReached s0
      n < 32 ∧ (pinOf s n).pulse = none ∧ (pinOf s n).arming = some a ∧ nextEdge (pinOf s n) = some w ∧ w ≤ wtNow s)
    (fun s0 =>
      let s := anchorReached s0
      count (rTIO n 0x18) 31 0 (setPin n { pinOf s n with pulse := some (ltOf (mapOf s.time s.time.now) (w + a.width * wtNs), a.pol), arming := some { a with k := a.k + 1, issued := a.issued + 1 } } s))) ∧
  (∀ n e pol a, Does (fun t => .tioInactiveEdge t n)
    (fun s => n < 32 ∧ (pinOf s n).pulse = some (e, pol) ∧ e ≤ s.time.now ∧ (pinOf s n).take = false ∧ (pinOf s n).arming = some a ∧
      armingDone a = false ∧ a.stop = false)
    (fun s => setPin n { pinOf s n with pulse := none } s)) ∧
  (∀ n e pol a, Does (fun t => .tioInactiveEdge t n)
    (fun s => n < 32 ∧ (pinOf s n).pulse = some (e, pol) ∧ e ≤ s.time.now ∧ (pinOf s n).take = false ∧ (pinOf s n).arming = some a ∧
      armingDone a = true)
    (fun s => timeEvent n 0x04 (setFlag (rTIO n 0x14) 27
      (setPin n { pinOf s n with pulse := none, arming := none, ended := some (s.time.now, a.pol) } (setPin n { pinOf s n with pulse := none } s))))) ∧
  (∀ n rising width c, Does (fun t => .tioCaptureEdge t n rising width)
    (fun s => n < 32 ∧ 4 ≤ (pinOf s n).mode ∧ edgeQualifies (pinOf s n).mode rising = true ∧ (pinOf s n).glitch ≠ some s.time.now ∧ 4 ≤ width ∧ (pinOf s n).lastCap = some c ∧ s.time.now < c + 16)
    (fun s => count (rTIO n 0x1C) 31 0 s)) ∧
  (∀ n rising width, Does (fun t => .tioCaptureEdge t n rising width)
    (fun s => n < 32 ∧ 4 ≤ (pinOf s n).mode ∧ edgeQualifies (pinOf s n).mode rising = true ∧ (pinOf s n).glitch ≠ some s.time.now ∧ 4 ≤ width ∧ ∀ c, (pinOf s n).lastCap = some c → c + 16 ≤ s.time.now)
    (fun s =>
      let seq := ((pinOf s n).capSeq + 1) % 65536
      timeEvent n 0x01 (csPush 0x04 [pack64 [(5, n), (1, b2n (!rising)), (16, seq), (10, 0), (32, shortTime (wtNow s))]]
        (setPin n { pinOf s n with capSeq := seq, capLt := s.time.now, capShort := shortTime (wtNow s), lastCap := some s.time.now } s))))

/-- What the events of the external ports do (R122, R124, R125, R126, R127, R129, R134, R136, R137, R139, R143, R225). -/
def Obligations.PortEventsTakeEffect : Prop :=
  (∀ n speed, Does (fun t => .portLinkUp t n speed)
    (fun s0 =>
      let s := boundaryFirst s0
      n < 28 ∧ (portOf s n).cmdAt ≠ some s.time.now ∧ holdEndsNow s n = false ∧ prMode (portRec s n) ≠ 0 ∧ (portOf s n).st ≠ .up)
    (fun s0 =>
      let s := noteMove n (.up speed) (boundaryFirst s0)
      let v := portOf s n
      let an := inbandMode (prMode (portRec s n)) && prAn (portRec s n) && speed.isSome
      let sp := if an then speed.getD v.speed else v.speed
      let e := setPort n { v with cond := true, anDone := v.anDone || an, speed := sp } s
      let e2 := if isS n = true ∧ plcaEn (portRec s n) = true then setPlca n true e else e
      tryUp n (if sp ≠ v.speed then portEvent n 2 0 e2 else e2))) ∧
  (∀ n h, Does (fun t => .portLinkUp t n none)
    (fun s0 =>
      let s := boundaryFirst s0
      n < 28 ∧ (portOf s n).cmdAt ≠ some s.time.now ∧ holdEndsNow s n = false ∧ prMode (portRec s n) ≠ 0 ∧ (portOf s n).st = .up ∧ (portOf s n).hold = some h)
    (fun s0 =>
      let s := noteMove n (.up none) (boundaryFirst s0)
      let e := setPort n { portOf s n with cond := true } s
      let e2 := if isS n = true ∧ plcaEn (portRec s n) = true then setPlca n true e else e
      portEvent n 3 0 (setPort n { portOf e2 n with hold := none, flap := satAdd 16 (portOf e2 n).flap 1 } e2))) ∧
  (∀ n, Does (fun t => .portLinkLoss t n)
    (fun s0 =>
      let s := boundaryFirst s0
      n < 28 ∧ (portOf s n).cmdAt ≠ some s.time.now ∧ (portOf s n).st = .up ∧ isS n = false ∧ prHold (portRec s n) = 0)
    (fun s0 =>
      let s := noteMove n .lost (boundaryFirst s0)
      tryUp n (leaveUp n .down (setPort n { portOf s n with cond := false } s)))) ∧
  (∀ n, Does (fun t => .portLinkLoss t n)
    (fun s0 =>
      let s := noteMove n .lost (boundaryFirst s0)
      n < 28 ∧ (portOf s n).cmdAt ≠ some s.time.now ∧ isS n = true ∧
      upReady (setPlca n false (setPort n { portOf s n with cond := false } s)) n = true)
    (fun s0 =>
      let s := noteMove n .lost (boundaryFirst s0)
      setPlca n false (setPort n { portOf s n with cond := false } s))) ∧
  (∀ n, Does (fun t => .portLinkLoss t n)
    (fun s0 =>
      let s := noteMove n .lost (boundaryFirst s0)
      n < 28 ∧ (portOf s n).cmdAt ≠ some s.time.now ∧ isS n = true ∧ (portOf s n).st = .up ∧ prHold (portRec s n) = 0 ∧
      upReady (setPlca n false (setPort n { portOf s n with cond := false } s)) n = false)
    (fun s0 =>
      let s := noteMove n .lost (boundaryFirst s0)
      tryUp n (leaveUp n .down (setPlca n false (setPort n { portOf s n with cond := false } s))))) ∧
  (∀ n, Does (fun t => .portLinkLoss t n)
    (fun s0 =>
      let s := boundaryFirst s0
      n < 28 ∧ (portOf s n).cmdAt ≠ some s.time.now ∧ (portOf s n).st = .up ∧ isS n = false ∧ prHold (portRec s n) ≠ 0 ∧ (portOf s n).hold = none)
    (fun s0 =>
      let s := noteMove n .lost (boundaryFirst s0)
      setPort n { portOf s n with cond := false, hold := some (s.time.now, prHold (portRec s n) * 1000000) } s)) ∧
  (∀ n, Does (fun t => .portLinkLoss t n)
    (fun s0 =>
      let s := boundaryFirst s0
      n < 28 ∧ (portOf s n).cmdAt ≠ some s.time.now ∧ (portOf s n).st = .training ∧ isT n = false ∧ isS n = false)
    (fun s0 =>
      let s := noteMove n .lost (boundaryFirst s0)
      portTo n .down (setPort n { portOf s n with cond := false } s))) ∧
  (∀ n st len, Does (fun t => .linkHoldExpiry t n)
    (fun s => (portOf (boundaryFirst s) n).hold = some (st, len) ∧ st + len ≤ (boundaryFirst s).time.now)
    (fun s => tryUp n (leaveUp n .down (noteMove n .lost (boundaryFirst s))))) ∧
  (∀ b, Does (fun t => .serdesReferenceLost t b) (fun _ => True)
    (fun s => (groupPorts b).foldl (fun e n =>
        let e2 := setPort n { portOf e n with cond := false } e
        match (portOf e n).st with
        | .up => leaveUp n .down e2
        | .training => portEvent n 1 0 (portTo n .down e2)
        | _ => e2)
      { s with ports := if b then { s.ports with refB := false } else { s.ports with refA := false } })) ∧
  (∀ b, Does (fun t => .serdesReferenceReturn t b) (fun _ => True)
    (fun s =>
      let e := { s with ports := if b then { s.ports with refB := true } else { s.ports with refA := true } }
      (groupPorts b).foldl (fun e n => tryUp n e) (if refOk e (if b then 4 else 0) = true then e else reloadGroup b e))) ∧
  (∀ n speed, Does (fun t => .inbandSpeedChange t n speed)
    (fun s0 =>
      let s := boundaryFirst s0
      n < 28 ∧ (portOf s n).cmdAt ≠ some s.time.now ∧ holdEndsNow s n = false ∧ (portOf s n).st = .up ∧ inbandMode (prMode (portRec s n)) = true ∧
      prAn (portRec s n) = true ∧ (portOf s n).speed ≠ speed)
    (fun s =>
      let e := leaveUp n .down (noteMove n (.speed speed) (boundaryFirst s))
      tryUp n (portEvent n 2 0 (setPort n { portOf e n with speed := speed, anDone := true, cond := true } e)))) ∧
  (∀ n rxPos txPos offset lo hi, Does (fun t => .dlcMeasurementDone t n rxPos txPos offset)
    (fun s => n < 12 ∧ prDlc (portRec s n) = true ∧ prMode (portRec s n) ≠ 0 ∧ (portOf s n).dlcRange = some (lo, hi))
    (fun s =>
      let bad := decide (rxPos < lo ∨ hi < rxPos ∨ txPos < lo ∨ hi < txPos)
      let e := setPort n { portOf s n with measured := true, dlcOffset := offset, dlcFault := bad || !(portOf s n).sealed } s
      tryUp n (if bad then portEvent n 7 0 e else e))) ∧
  (∀ n, Does (fun t => .plcaBeaconTx t n)
    (fun s => isS n = true ∧ plcaEn (portRec s n) = true ∧ plcaCoord (portRec s n) = true ∧ portUp s n = true ∧ plcaHeld s n = false ∧ (portOf s n).loop = 0 ∧
      plcaCycleOver s n = true)
    (fun s => plcaStarts n (s.time.now + 20 * plcaBit) { s with out := .beacon s.time.now n :: s.out })) ∧
  (∀ n fallback, Does (fun t => .plcaBeaconLoss t n)
    (fun s0 =>
      let s := boundaryFirst s0
      isS n = true ∧ n < 28 ∧ plcaEn (portRec s n) = true ∧ plcaCoord (portRec s n) = false ∧ (portOf s n).plcaAct = true ∧
      (portOf s n).beaconAt + beaconLimit (portRec s n) * 1000000 ≤ s.time.now ∧ (portOf s n).cmdAt ≠ some s.time.now ∧
      plcaFallback (portRec s n) = fallback ∧ (fallback = false → (portOf s n).st = .up ∧ prHold (portRec s n) = 0))
    (fun s0 =>
      let s := boundaryFirst s0
      let e := noteMove n .lost (setPort n { portOf s n with beaconMiss := satAdd 16 (portOf s n).beaconMiss 1 } s)
      let u := setPlca n false (setPort n { portOf e n with cond := false } e)
      if fallback then u else tryUp n (leaveUp n .down u))) ∧
  (∀ n, Does (fun t => .plcaBeaconRestored t n)
    (fun s0 =>
      let s := boundaryFirst s0
      n < 28 ∧ (portOf s n).cmdAt ≠ some s.time.now ∧ holdEndsNow s n = false ∧ isS n = true ∧ plcaEn (portRec s n) = true ∧ plcaCoord (portRec s n) = false ∧
      prMode (portRec s n) ≠ 0 ∧ (portOf s n).st ≠ .up)
    (fun s0 =>
      let s := noteMove n .beacon (boundaryFirst s0)
      let u := plcaStarts n s.time.now (tryUp n (setPlca n true (setPort n { portOf s n with cond := true } s)))
      setPort n { portOf u n with beaconAt := s.time.now } u)) ∧
  (∀ n, Does (fun t => .mergeVerifyDone t n) (fun s => n < 20 ∧ prMerge (portRec s n) = true ∧ portUp s n = true)
    (fun s => setPort n { portOf s n with mergeAct := true } s)) ∧
  (∀ n, Does (fun t => .t1TrainingAttemptFail t n) (fun s => 12 ≤ n ∧ n < 18 ∧ (portOf s n).st = .training)
    (fun s => setPort n { portOf s n with trainFail := satAdd 16 (portOf s n).trainFail 1 } s)) ∧
  (∀ n, n < 28 → Does (fun t => .pcsFecError t n .fecCorrected) (fun _ => True)
    (fun s => setPort n { portOf s n with fecCorr := satAdd 32 (portOf s n).fecCorr 1 } s)) ∧
  (∀ n, n < 28 → Does (fun t => .pcsFecError t n .fecUncorrectable) (fun _ => True)
    (fun s => portEvent n 5 0 (setPort n { portOf s n with fecUncorr := satAdd 32 (portOf s n).fecUncorr 1 } s))) ∧
  (∀ n, n < 28 → Does (fun t => .pcsFecError t n .erroredBlock) (fun _ => True)
    (fun s => setPort n { portOf s n with pcsErr := satAdd 32 (portOf s n).pcsErr 1 } s)) ∧
  (∀ n k, n < 28 → k = .localFault ∨ k = .remoteFault ∨ k = .highBer → Does (fun t => .pcsFecError t n k) (fun _ => True)
    (fun s => portEvent n 4 0 s))

/-- What the events of frames, gates and holds do (R145, R147, R149, R184, R186, R203, R210, R211, R216, R227, R231, R414). -/
def Obligations.FrameEventsTakeEffect : Prop :=
  (∀ n b sof eof, Does (fun t => .frameRxCell t n b sof eof)
    (fun s => n < 28 ∧ (sof = true → secyOn (ringsGive (boundaryFirst s)) n = false) ∧ portUp (ringsGive (boundaryFirst s)) n = true)
    (fun s => rxCell n b sof eof (ringsGive (boundaryFirst s)))) ∧
  (∀ n b rx, Does (fun t => .macsecRxVerify t n b rx)
    (fun s0 =>
      let s := ringsGive (boundaryFirst s0)
      n < 28 ∧ flag (secyAt s n (s.time.now - rx.held)) 0 26 = true ∧ portUp s n = true ∧ (b.length < 64 ∨ 9248 < b.length ∨ rx.fcsOk = false))
    (fun s0 =>
      let s := ringsGive (boundaryFirst s0)
      stage1Drop n (if b.length < 64 then 0x01 else if 9248 < b.length then 0x03 else 0x02) (ingressStamp s n rx.held) b (plcaHeard n (s.time.now - rx.held) s))) ∧
  (∀ n b rx, Does (fun t => .macsecRxVerify t n b rx)
    (fun s0 =>
      let s := ringsGive (boundaryFirst s0)
      n < 28 ∧ flag (secyAt s n (s.time.now - rx.held)) 0 26 = true ∧ portUp s n = true ∧ 64 ≤ b.length ∧ b.length ≤ 9248 ∧ rx.fcsOk = true ∧
        tget 0 (plcaHeard n (s.time.now - rx.held) s).ciph.scrub n ≤ (plcaHeard n (s.time.now - rx.held) s).time.now)
    (fun s0 =>
      let s := ringsGive (boundaryFirst s0)
      let u := plcaHeard n (s.time.now - rx.held) s
      let v := macsecRx n (secyAt s n (s.time.now - rx.held)) b.dropLast.dropLast.dropLast.dropLast u
      match v.1 with
      | some p => storeFrame (loopMark u { port := n, bytes := withFcs p, stamp := ingressStamp s n rx.held }) v.2
      | none => stage1Drop n 0x04 (ingressStamp s n rx.held) b (countRx n (securedLen b) b v.2))) ∧
  (∀ n b rx, Does (fun t => .macsecRxVerify t n b rx)
    (fun s0 =>
      let s := ringsGive (boundaryFirst s0)
      n < 28 ∧ flag (secyAt s n (s.time.now - rx.held)) 0 26 = true ∧ portUp s n = true ∧ 64 ≤ b.length ∧ b.length ≤ 9248 ∧ rx.fcsOk = true ∧
        (plcaHeard n (s.time.now - rx.held) s).time.now < tget 0 (plcaHeard n (s.time.now - rx.held) s).ciph.scrub n)
    (fun s0 =>
      let s := ringsGive (boundaryFirst s0)
      let u := plcaHeard n (s.time.now - rx.held) s
      giveWayTo (tget 0 u.ciph.scrub n) (.verify n (secyAt s n (s.time.now - rx.held)) (ingressStamp s n rx.held) b) u)) ∧
  (∀ f v, Does (fun t => .frameClassify t f)
    (fun s0 =>
      let s := ringsGive (boundaryFirst s0)
      frameOf s f = some v ∧ v.gone = false ∧ v.waits = false ∧ v.classified = false ∧ v.ready ≤ s.time.now ∧ (v.whole = true ∨ 256 ≤ v.bytes.length) ∧
      earlierOf s f v.port (fun w => !w.classified && !w.gone) = false ∧ outOfTurn s v.port = false)
    (fun s0 =>
      let r := classify v (refillNow (ringsGive (boundaryFirst s0)))
      setFrame f (some r.1) (if r.1.handle.isSome = true then acted v.port r.2 else r.2))) ∧
  (∀ f v, Does (fun t => .frameClassify t f)
    (fun s0 =>
      let s := ringsGive (boundaryFirst s0)
      frameOf s f = some v ∧ v.gone = false ∧ v.waits = false ∧ v.classified = false ∧ v.ready ≤ s.time.now ∧ (v.whole = true ∨ 256 ≤ v.bytes.length) ∧
      earlierOf s f v.port (fun w => !w.classified && !w.gone) = false ∧ outOfTurn s v.port = true ∧ (classify v (refillNow s)).1.handle.isSome = true)
    (fun s0 =>
      let s := ringsGive (boundaryFirst s0)
      let r := classify v (refillNow (s.atTime (s.time.now + 1)))
      setFrame f (some r.1) (acted v.port r.2))) ∧
  (∀ f v, Does (fun t => .frameEnqueue t f)
    (fun s0 =>
      let s := boundaryFirst s0
      frameOf s f = some v ∧ v.classified = true ∧ v.whole = true ∧ v.refs = 0 ∧ earlierOf s f v.port (fun w => w.refs = 0 && !w.gone) = false)
    (fun s0 =>
      let s := boundaryFirst s0
      let s1 := if v.handle.isSome = true then acted v.port (if outOfTurn s v.port = true then s.atTime (s.time.now + 1) else s) else s
      firstKeepAlives (stage8 f v (refillNow s1)))) ∧
  (∀ p d, Does (fun t => .frameTxStart t p)
    (fun s => p < 31 ∧ p ≠ 28 ∧
      let e := txEnd p (refillNow (settleRefused p (boundaryFirst s)))
      portUp e p = true ∧ fwdOff e = false ∧ mayTransmit e p = true ∧ (egressOf e p).sending = some d ∧ d.express = false ∧
      (choose p true (classes.filter (fun c => preemptedClass e p ≠ some c)) e).1.isSome = true)
    (fun s =>
      let e := txEnd p (refillNow (settleRefused p (boundaryFirst s)))
      endFragment p (choose p true (classes.filter (fun c => preemptedClass e p ≠ some c)) e).2)) ∧
  (∀ p c, Does (fun t => .frameTxStart t p)
    (fun s => p < 31 ∧ p ≠ 28 ∧
      let e := txEnd p (refillNow (settleRefused p (boundaryFirst s)))
      portUp e p = true ∧ fwdOff e = false ∧ mayTransmit e p = true ∧ (egressOf e p).sending = none ∧ (egressOf e p).free ≤ e.time.now ∧
      (choose p true (classes.filter (fun c => preemptedClass e p ≠ some c)) e).1 = some c)
    (fun s =>
      let e := txEnd p (refillNow (settleRefused p (boundaryFirst s)))
      startHead p c (choose p true (classes.filter (fun c => preemptedClass e p ≠ some c)) e).2)) ∧
  (∀ p d left, Does (fun t => .frameTxStart t p)
    (fun s => p < 31 ∧ p ≠ 28 ∧
      let e := txEnd p (refillNow (settleRefused p (boundaryFirst s)))
      let u := (choose p true (classes.filter (fun c => preemptedClass e p ≠ some c)) e).2
      portUp e p = true ∧ fwdOff e = false ∧ mayTransmit e p = true ∧ (egressOf e p).sending = none ∧ (egressOf e p).free ≤ e.time.now ∧
      (choose p true (classes.filter (fun c => preemptedClass e p ≠ some c)) e).1 = none ∧ holdStands u p = false ∧
      (egressOf u p).preempted = some (d, left) ∧ gateOpenAt u p d.cls (wtNow u) = true)
    (fun s =>
      let e := txEnd p (refillNow (settleRefused p (boundaryFirst s)))
      resume p (choose p true (classes.filter (fun c => preemptedClass e p ≠ some c)) e).2)) ∧
  (∀ p c, Does (fun t => .frameTxStart t p)
    (fun s => p < 31 ∧ p ≠ 28 ∧
      let e := txEnd p (refillNow (settleRefused p (boundaryFirst s)))
      let u := (choose p true (classes.filter (fun c => preemptedClass e p ≠ some c)) e).2
      portUp e p = true ∧ fwdOff e = false ∧ mayTransmit e p = true ∧ (egressOf e p).sending = none ∧ (egressOf e p).free ≤ e.time.now ∧
      (choose p true (classes.filter (fun c => preemptedClass e p ≠ some c)) e).1 = none ∧ holdStands u p = false ∧
      (egressOf u p).preempted = none ∧ (choose p false classes u).1 = some c)
    (fun s =>
      let e := txEnd p (refillNow (settleRefused p (boundaryFirst s)))
      startHead p c (choose p false classes (choose p true (classes.filter (fun c => preemptedClass e p ≠ some c)) e).2).2)) ∧
  (∀ p d, Does (fun t => .frameTxEnd t p) (fun s => (egressOf (txRelease p s) p).sending = some d ∧ d.done ≤ (txRelease p s).time.now)
    (fun s => dropSending d (setEgress p { egressOf (txRelease p s) p with sending := none } (txRelease p s)))) ∧
  (∀ p st, Does (fun t => .gateListStart t p) (fun s => (egressOf s p).gates.pending = some st ∧ st ≤ wtNow s)
    (fun s => closeCut p (setEgress p { egressOf s p with gates := { (egressOf s p).gates with
      force := 1 - (egressOf s p).gates.force, start := st, pending := none, busy := false, ecc := false
      late := (egressOf s p).gates.late && (egressOf s p).gates.pendLate } } s))) ∧
  (∀ p, Does (fun t => .gateEntryStart t p) (fun s => (egressOf s p).gates.pending = none ∧ srGateEn (schedOf s p) = true ∧ gateOpAt s p s.time.now = 2)
    (fun s => closeCut p (setHold p false s))) ∧
  (∀ p, Does (fun t => .gateEntryStart t p)
    (fun s => (egressOf s p).gates.pending = none ∧ srGateEn (schedOf s p) = true ∧ gateOpAt s p s.time.now = 1 ∧
      (egressOf s p).sending.all (fun d => d.express || decide (d.done ≤ s.time.now)) = true ∧ (egressOf s p).cutEnd ≤ s.time.now)
    (fun s => closeCut p (setHold p true s))) ∧
  (∀ p c r q n, Does (fun t => .gateStarveDrop t p c)
    (fun s => c < 8 ∧ queueOf (egressOf s p) c = r :: q ∧ expressClass s p c = true ∧ srGateEn (schedOf s p) = true ∧
      longestWindow (gateBank (egressOf s p).gates (egressOf s p).gates.force) c = some n ∧ n < wireTime s p r ∧
      tget 0 (egressOf s p).headAt c + (gateBank (egressOf s p).gates (egressOf s p).gates.force).cycle ≤ s.time.now)
    (fun s => schedEvent p c 0x02 (dropReplica p c 0x16 r (schedCount p (6 + 8 * c) (departed p c q s))))) ∧
  (∀ p, Does (fun t => .mergeHoldAssert t p)
    (fun s => srGateEn (schedOf s p) = true ∧ opAhead s p (fld (schedOf s p) 1 31 16) = 1 ∧ (portOf s p).mergeAct = true)
    (fun s => endFragment p (setEgress p { egressOf s p with hold := true } s))) ∧
  (∀ p, Does (fun t => .mergeHoldRelease t p)
    (fun s => srGateEn (schedOf s p) = true ∧ opAhead s p (fld (schedOf s p) 1 15 0) = 2 ∧ (portOf s p).mergeAct = true)
    (fun s => setEgress p { egressOf s p with hold := false } s)) ∧
  (∀ p c r q w, Does (fun t => .launchInstantReached t p c)
    (fun s => c < 8 ∧ queueOf (egressOf s p) c = r :: q ∧ r.launch = some w ∧ heldForLaunch s p c r = false) (fun s => txStart p s))

/-- What ageing, refill, stream gates, FRER timers, the tracker sweep and the bypass expiry do (R171, R219, R249, R251, R254, R262, R265, R290, R296, R300). -/
def Obligations.TickAndStreamEventsTakeEffect : Prop :=
  Does .ageingSweep (fun s => s.fwd.ageing ≠ 0 ∧ s.fwd.sweepAt + s.fwd.ageing * 1000000000 / 3 ≤ s.time.now)
    (fun s => macSweep { s with fwd := { s.fwd with sweepAt := s.time.now } }) ∧
  Does .refillTick (fun s => s.time.now % 128 = 0 ∧ s.str.tickAt ≠ some s.time.now)
    (fun s =>
      let e := s.egress.foldl (fun e x => portTick x.1 e) { s with str := { s.str with tickAt := some s.time.now } }
      logTick (e.str.meter.foldl (fun e x => meterTick x.1 e) e)) ∧
  (∀ i l, Does (fun t => .streamGateListStart t i) (fun s => (sgateOf s i).pending = some l ∧ l.start ≤ wtNow s)
    (fun s => setSgate i { sgateOf s i with force := some l, pending := none, busy := false, prev := (sgateOf s i).force, since := s.time.now, octets := (l.start, 0) } s)) ∧
  (∀ i, Does (fun t => .streamGateEntryStart t i)
    (fun s => (sgateOf s i).pending = none ∧ (sgateOf s i).octets.1 ≠ (sgateAt s (sgateOf s i) (wtNow s)).2.2.2.2)
    (fun s => setSgate i { sgateOf s i with octets := ((sgateAt s (sgateOf s i) (wtNow s)).2.2.2.2, 0) } s)) ∧
  (∀ i st, Does (fun t => .frerResetTimeout t i)
    (fun s => (rcvOf s i).timer = some st ∧ flag (rcvOf s i).rec0 0 31 = true ∧ st + fld (rcvOf s i).rec0 1 31 16 * 1000000 ≤ s.time.now)
    (fun s => streamEvent 0x05 i (setRcv i { rcvOf s i with takeAny := true, timer := none, expired := some (s.time.now, (rcvOf s i).takeAny), resets := satAdd 32 (rcvOf s i).resets 1 } s))) ∧
  (∀ i, Does (fun t => .latentTestTimer t i)
    (fun s => flag (rcvOf s i).rec0 0 31 = true ∧ flag (rcvOf s i).rec0 0 26 = true ∧
      (rcvOf s i).testAt + fld (rcvOf s i).rec0 2 31 16 * 1000000 ≤ s.time.now ∧
      fld (rcvOf s i).rec0 1 15 0 < (((fld (rcvOf s i).rec0 0 18 15 : Int) - 1) * (rcvOf s i).passedP - (rcvOf s i).dupD).natAbs)
    (fun s => streamEvent 0x06 i (setRcv i { rcvOf s i with testAt := s.time.now, latent := true, latentAt := some s.time.now } (setRcv i { rcvOf s i with testAt := s.time.now } s)))) ∧
  (∀ i, Does (fun t => .latentTestTimer t i)
    (fun s => flag (rcvOf s i).rec0 0 31 = true ∧ flag (rcvOf s i).rec0 0 26 = true ∧
      (rcvOf s i).testAt + fld (rcvOf s i).rec0 2 31 16 * 1000000 ≤ s.time.now ∧
      (((fld (rcvOf s i).rec0 0 18 15 : Int) - 1) * (rcvOf s i).passedP - (rcvOf s i).dupD).natAbs ≤ fld (rcvOf s i).rec0 1 15 0)
    (fun s => setRcv i { rcvOf s i with testAt := s.time.now } s)) ∧
  (∀ i, Does (fun t => .latentResetTimer t i)
    (fun s => flag (rcvOf s i).rec0 0 31 = true ∧ flag (rcvOf s i).rec0 0 26 = true ∧
      (rcvOf s i).resetAt + fld (rcvOf s i).rec0 2 15 0 * 1000000 ≤ s.time.now)
    (fun s => setRcv i { rcvOf s i with resetAt := s.time.now, passedP := 0, dupD := 0 } s)) ∧
  Does .trackerSweep (fun s => s.fw.sweepAt + 1000000000 ≤ s.time.now ∧ (fwCycle s).touched = [])
    (fun s =>
      let e := fwNote (fun c => { c with swept := s.fw.tracker.filter (fun x => decide (fld x.2 10 31 16 ≤ 1)) }) { s with fw := { s.fw with sweepAt := s.time.now } }
      { e with fw := { e.fw with tracker := tmap [] e.fw.tracker (fun _ r =>
        if fld r 10 31 16 ≤ 1 then [] else r.set 10 (packW [(16, fld r 10 31 16 - 1), (1, 0), (15, trRule r)])) } }) ∧
  (∀ a b e, Does (fun t => .bypassExpiry t a b) (fun s => (a, b, e) ∈ s.fw.bypass ∧ e ≤ s.time.now)
    (fun s => fwEvent 6 0 { s with fw := { s.fw with bypass := s.fw.bypass.filter (fun x => !(x.1 = a && x.2.1 = b)) } }))

/-- What the events of wake sources, standby entry and the ignition do (R356, R360, R361, R362, R364, R365, R381, R382, R384, R390, R391). -/
def Obligations.WakeAndStandbyEventsTakeEffect : Prop :=
  (∀ i, i < 32 → DoesAlways (fun t => .wakeSourceQualify t i)
    (fun s0 =>
      let s := if coreOn s0 = true then windowEnds i s0 else s0
      wsEnabled (sourceOf s i) = true ∧ watched s i = true ∧ (sourceOf s i).maskEnd.isSome = true)
    (fun s0 =>
      let s := if coreOn s0 = true then windowEnds i s0 else s0
      setSource i { sourceOf s i with maskedHits := satAdd 32 (sourceOf s i).maskedHits 1 } s)) ∧
  (∀ i, i < 32 → DoesAlways (fun t => .wakeSourceQualify t i)
    (fun s0 =>
      let s := windowEnds i s0
      coreOn s0 = true ∧ wsEnabled (sourceOf s i) = true ∧ watched s i = true ∧ (sourceOf s i).maskEnd = none ∧ coreOn s = true ∧ s.nm.entry = none ∧
      ∀ g ∈ maskBits (wsMask (sourceOf s i)) 60, segManaged (segOf s g) = false ∨ (segOf s g).state ≠ 3)
    (fun s0 =>
      let s := windowEnds i s0
      sourceEvent i ((maskBits (wsMask (sourceOf s i)) 60).foldl (fun e g => wakeRequest g 1 i e)
      (setFlag (rCROCUS 0x0C) i (setSource i { sourceOf s i with wakes := satAdd 32 (sourceOf s i).wakes 1 } s))))) ∧
  (∀ i level start, i < 32 → DoesAlways (fun t => .wakeSourceQualify t i)
    (fun s => wsEnabled (sourceOf s i) = true ∧ watched s i = true ∧ (sourceOf s i).maskEnd = none ∧ coreOn s = false ∧ s.nm.asleep = some (level, start) ∧
      s.nm.raceHold = none ∧ s.nm.wakeOut = false)
    (fun s =>
      let e := setFlag (rCROCUS 0x0C) i (setSource i { sourceOf s i with wakes := satAdd 32 (sourceOf s i).wakes 1 } s)
      riseWakeOut level { e with nm := { e.nm with wakes := e.nm.wakes ++ [(i, s.time.now)] } })) ∧
  (∀ level start, DoesAlways .wakeTimerExpiry
    (fun s => s.nm.asleep = some (level, start) ∧ (regGet s (rCROCUS 0x04)).toNat ≠ 0 ∧
      start * 32768 + (regGet s (rCROCUS 0x04)).toNat * 1000000000 ≤ s.time.now * 32768)
    (fun s => qualify 30 s)) ∧
  DoesAlways (fun t => .ignitionPinChange t false) (fun s => s.nm.source.any (fun e => wsEnabled e.2 && wsIgn e.2) = true ∧ s.nm.ignBack ≠ s.time.now + 1)
    (fun s => hintEvent { s with nm := { s.nm with hint := some s.time.now, logging := false } }) ∧
  DoesAlways (fun t => .ignitionPinChange t true) (fun s => s.nm.source.any (fun e => wsEnabled e.2 && wsIgn e.2) = true)
    (fun s => hintEvent { s with nm := { s.nm with ignBack := s.time.now + 1, hint := none, logging := false, log := s.nm.log.map (fun e => { e with live := false }) } }) ∧
  (∀ h, Does .offenderMinExpiry (fun s => s.nm.hint = some h ∧ s.nm.logging = false ∧ h + nmOffenderMin s ≤ s.time.now) (fun s => logOffenders s)) ∧
  (∀ e, Does .standbySnapshotAck (fun s => s.nm.entry = some e ∧ e.step = 2 ∧ s.nm.entryWas.map (·.1) ≠ some s.time.now)
    (fun s => finishEntry { s with nm := { s.nm with snapshot := true }, sys := { s.sys with fw := { s.sys.fw with kernel := true } } })) ∧
  (∀ e, Does .standbyEntryTimeout (fun s => s.nm.entry = some e ∧ 1 ≤ e.step ∧ e.since + 20000000 ≤ s.time.now ∧
      s.nm.entryWas.map (·.1) ≠ some s.time.now)
    (fun s => finishEntry (regPut (rCROCUS 0x08) 29 29 0 { s with nm := { s.nm with snapshot := false } }))) ∧
  (∀ h level start, DoesAlways .wakeRaceHoldExpiry (fun s => s.nm.raceHold = some h ∧ s.nm.asleep = some (level, start) ∧ h ≤ s.time.now)
    (fun s => riseWakeOut level s)) ∧
  (∀ i e, Does (fun t => .wakeValidationExpiry t i) (fun s => (sourceOf s i).opened = true ∧ (sourceOf s i).validEnd = some e ∧ e ≤ s.time.now)
    (fun s =>
      let v0 := sourceOf s i
      let v := if (match v0.winEnd with | some e => decide (e ≤ s.time.now) | none => false) then { v0 with inWin := 0, winEnd := none } else v0
      let n := satAdd 8 v.inWin 1
      let masks := decide (nmFalseMax s ≤ n) && !wsNoMask v
      let e := setSource i { v with
        opened := false, validEnd := none, falses := satAdd 32 v.falses 1, inWin := n
        winEnd := if v.inWin = 0 then some (s.time.now + nmFalseWin s) else v.winEnd
        maskEnd := if masks then some (s.time.now + nmBackoff s) else v.maskEnd
        maskings := if masks then satAdd 32 v.maskings 1 else v.maskings } s
      sourceEvent i (if masks then regPut (rCROCUS 0x10) i i 1 e else e))) ∧
  (∀ i e, DoesAlways (fun t => .falseWinExpiry t i) (fun s => (sourceOf s i).winEnd = some e ∧ lowPowerRuns s = true ∧ e ≤ s.time.now)
    (fun s => setSource i { sourceOf s i with inWin := 0, winEnd := none } s)) ∧
  (∀ i e, i < 32 → DoesAlways (fun t => .backoffExpiry t i) (fun s => (sourceOf s i).maskEnd = some e ∧ lowPowerRuns s = true ∧ e ≤ s.time.now)
    (fun s => sourceEvent i (regPut (rCROCUS 0x10) i i 0 (setSource i { sourceOf s i with maskEnd := none } s))))

/-- What the timers and shutdowns of the network segments do (R369, R370, R371, R373, R374, R375, R377, R378, R379, R380). -/
def Obligations.SegmentEventsTakeEffect : Prop :=
  (∀ i, i < 60 → Does (fun t => .needTimerExpiry t i) (fun _ => True) (giveWay (.needEnds i))) ∧
  (∀ i a s, (segOf s i).timer = some a → a + segReady (segOf s i) ≤ s.time.now →
    runLate (.needEnds i) s = segCheck i (setSeg i { segOf s i with timer := none } s)) ∧
  (∀ c, Does (fun t => .clusterTimerExpiry t c) (fun _ => True) (giveWay (.clusterEnds c))) ∧
  (∀ c a i s, tget none s.nm.cluster c = some (a, i) → a + segReady (segOf s i) ≤ s.time.now →
    runLate (.clusterEnds c) s = segCheckAll { s with nm := { s.nm with cluster := tset none s.nm.cluster c none } }) ∧
  (∀ i e, Does (fun t => .prepareSleepTimerExpiry t i) (fun s => (segOf s i).prep = some e ∧ (segOf s i).state = 1 ∧ e ≤ s.time.now)
    (fun s => setSeg i { segOf s i with commit := true } s)) ∧
  (∀ i, i < 60 → Does (fun t => .shutdownComplete t i) (fun s => (segOf s i).state = 2 ∧ segIsCan i = false ∧ (segOf s i).latch = none)
    (fun s =>
      let e := setSeg i { segOf s i with sleeps := satAdd 32 (segOf s i).sleeps 1 } s
      completing entryShutDown (segTo i 3 (setSeg i { segOf e i with latch := none } e)))) ∧
  (∀ i, i < 60 → Does (fun t => .shutdownComplete t i)
    (fun s => (segOf s i).state = 2 ∧ segIsCan i = true ∧ (canOf s (i - 28)).sending = none ∧ (segOf s i).latch = none)
    (fun s =>
      let d := drivePin i true (discardSlots (i - 28) 0x06 s)
      let e := setSeg i { segOf d i with sleeps := satAdd 32 (segOf s i).sleeps 1 } d
      completing entryShutDown (segTo i 3 (setSeg i { segOf e i with latch := none } e)))) ∧
  (∀ i kind src, i < 60 → Does (fun t => .shutdownComplete t i)
    (fun s => (segOf s i).state = 2 ∧ segIsCan i = false ∧ (segOf s i).latch = some (kind, src) ∧ s.nm.entry = none)
    (fun s => startWaking i kind src ((setSeg i { segOf s i with sleeps := satAdd 32 (segOf s i).sleeps 1 } s).atTime (s.time.now + 1)))) ∧
  (∀ i, Does (fun t => .wakeToExpiry t i) (fun _ => True) (giveWay (.wakeLate i))) ∧
  (∀ i s, (segOf s i).state = 4 → (segOf s i).wakingAt + nmWakeTo s ≤ s.time.now → (segOf s i).held ≠ [] →
    runLate (.wakeLate i) s = nmEvent 25 i ((segOf s i).held.foldl (fun e h => sleepDropped i (dropHeld i h e)) (setSeg i { segOf s i with held := [] } s))) ∧
  (∀ i s, (segOf s i).state ≠ 4 → runLate (.wakeLate i) s = s) ∧
  (∀ i, i < 28 → Does (fun t => .keepaliveTxTimer t i)
    (fun s => segManaged (segOf s i) = true ∧ flag (segOf s i).rec0 0 24 = true ∧ (segOf s i).state = 0 ∧ neededElse s i = true ∧
      ∀ a, (segOf s i).kaLast = some a → a + segTxMs (segOf s i) ≤ s.time.now)
    (fun s =>
      let e := setSeg i { segOf s i with kaLast := some s.time.now, kaTx := satAdd 32 (segOf s i).kaTx 1 } s
      injectFrame { port := 29, bytes := keepAliveFrame e (segOf s i) (neededClusters s (segOf s i)), directed := some (2 ^ i)
                    cls := some (fld (segOf s i).rec0 0 9 7) } e))

/-- What the events of the cipher complex do (R396, R400, R402, R403, R405, R417, R419, R420, R421, R422, R423). -/
def Obligations.CipherEventsTakeEffect : Prop :=
  (∀ r, r.requester < 8 → Does (fun t => .bulkRequestSubmit t r) (fun s => bulkRoom s r.requester = true ∨ r.requester = 0)
    (fun s => { s with ciph := { s.ciph with queue := s.ciph.queue ++ [{ req := r, left := r.bytes }] } })) ∧
  (∀ r, r.requester < 8 → r.requester ≠ 0 → Does (fun t => .bulkRequestSubmit t r) (fun s => bulkRoom s r.requester = false) (fun s => cipherEvent 6 0 s)) ∧
  (∀ r i e, Does (fun t => .bulkRequestStart t r)
    (fun s => headOf s r = some (i, e) ∧ e.status = none ∧ opPublic e.req.op = true ∧ s.ciph.pk = none ∧ nextOf true s = some r)
    (fun s =>
      let st := if e.lost then 5 else startStatus s e.req
      let u := keyFailed st (setEntry i { e with status := some st, key := if st = 0 ∧ e.req.noKey = false then (slotSeen s e.req.slot).key else [] } s)
      { u with ciph := { u.ciph with pk := some r } })) ∧
  (∀ r i e, Does (fun t => .bulkRequestStart t r)
    (fun s => headOf s r = some (i, e) ∧ e.status = none ∧ opPublic e.req.op = false ∧ s.ciph.sym = none ∧ nextOf false s = some r)
    (fun s =>
      let st := if e.lost then 5 else startStatus s e.req
      let u := keyFailed st (setEntry i { e with status := some st, key := if st = 0 ∧ e.req.noKey = false then (slotSeen s e.req.slot).key else [] } s)
      { u with ciph := { u.ciph with sym := some r } })) ∧
  (∀ r i e, Does .bulkChunkEnd (fun s => s.ciph.sym = some r ∧ headOf s r = some (i, e))
    (fun s =>
      let n := min e.left (chunkBytes e)
      let u := setEntry i { e with left := e.left - n } s
      let u := { u with ciph := { u.ciph with gwUsed := u.ciph.gwUsed + (if r = 0 then n * 2048 / chunkBytes e else 0), turn := r, sym := none } }
      match nextRequester u with
      | none => u
      | some q => match headOf u q with
        | some (_, e2) => if e2.status = none then bulkStart q u else { u with ciph := { u.ciph with sym := some q } }
        | none => u)) ∧
  (∀ pub, Does (fun t => .bulkRequestComplete t pub) (fun _ => True) (giveWay (.bulkDone pub))) ∧
  (∀ e st s, s.ciph.queue.find? (fun e => opPublic e.req.op = true && e.status.isSome) = some e → e.status = some st → e.req.requester ≠ 0 →
    runLate (.bulkDone true) s =
      (let v := endStatus e { s with ciph := { s.ciph with queue := s.ciph.queue.erase e, pk := none, pkTurn := e.req.requester } }
       { v.2 with out := .bulkResult s.time.now e.req.requester v.1 :: v.2.out })) ∧
  (∀ c, Does (fun t => .cipherAlarm t c) (fun s => c ≠ .debug ∨ s.sys.fw.lifecycle ≠ 0)
    (fun s => raiseEvent 400 0 (some (match c with | .voltage => 0 | .clock => 1 | .temperature => 2 | .debug => 3)) (count rCIPHER_CNT 31 16 { s with ciph := { s.ciph with
      alarm := true, zeroizing := true, almVolt := s.ciph.almVolt || c = .voltage, almClk := s.ciph.almClk || c = .clock
      almTemp := s.ciph.almTemp || c = .temperature, almDbg := s.ciph.almDbg || c = .debug
      queue := s.ciph.queue.map (fun e => if e.status.isSome then { e with status := some 5, key := [] } else { e with lost := true })
      sa := tmap {} s.ciph.sa (fun _ a => { a with key := none }), session := [] } }))) ∧
  (∀ c, DoesAlways (fun t => .cipherAlarm t c) (fun s => s.sys.pow.power = .held ∧ (c ≠ .debug ∨ s.sys.fw.lifecycle ≠ 0))
    (fun s => { s with ciph := { s.ciph with
      slot := (List.range 255).foldl (fun l i => tset {} l (i + 1) { gen := nextGen (tget {} s.ciph.slot (i + 1)).gen }) s.ciph.slot } })) ∧
  Does .zeroizeComplete (fun s => s.ciph.zeroizing = true)
    (fun s => cipherEvent 1 0 { s with ciph := { s.ciph with
      slot := (List.range 255).foldl (fun l i => tset {} l (i + 1) { gen := nextGen (tget {} s.ciph.slot (i + 1)).gen }) s.ciph.slot
      zeroizing := false, zeroized := true } }) ∧
  Does (fun t => .pipeSelfTestDue t 0) (fun s => s.ciph.test0At + s.ciph.testS * 1000000000 ≤ s.time.now)
    (fun s => { s with ciph := { s.ciph with test0 := true, test0At := s.time.now } }) ∧
  Does (fun t => .pipeSelfTestDue t 1) (fun s => s.ciph.test1At + s.ciph.testS * 1000000000 ≤ s.time.now)
    (fun s => { s with ciph := { s.ciph with test1 := true, test1At := s.time.now } }) ∧
  Does .bulkSelfTestDue
    (fun s => s.ciph.test2 = false ∧ s.ciph.test3 = false ∧ (s.ciph.test2At = 0 ∨ s.ciph.test2At + s.ciph.testS * 1000000000 ≤ s.time.now))
    (fun s => [BulkOp.gcmEncrypt, .ctr, .cmac, .sha256, .sha384, .hmac, .ecdsaVerify, .derive].foldl
      (fun u op => (bulkSubmit { requester := 7, op := op, noKey := true } u).2) { s with ciph := { s.ciph with test2 := true, test3 := true } }) ∧
  (∀ pass, Does (fun t => .selfTestComplete t 0 pass) (fun s => s.ciph.test0 = true)
    (fun s =>
      let u := { s with ciph := { s.ciph with test0 := false, pipe0Fail := !pass } }
      testAnswers 0 (if pass = false ∨ s.ciph.pipe0Fail = true then cipherEvent 2 0 u else u))) ∧
  (∀ pass, Does (fun t => .selfTestComplete t 1 pass) (fun s => s.ciph.test1 = true)
    (fun s =>
      let u := { s with ciph := { s.ciph with test1 := false, pipe1Fail := !pass } }
      testAnswers 1 (if pass = false ∨ s.ciph.pipe1Fail = true then cipherEvent 3 0 u else u))) ∧
  (∀ pass, Does (fun t => .selfTestComplete t 2 pass) (fun s => s.ciph.test2 = true)
    (fun s =>
      let u := { s with ciph := { s.ciph with
        test2 := false, symFail := !pass, test2At := if s.ciph.test3 = true then s.ciph.test2At else max 1 s.time.now
        queue := s.ciph.queue.filter (fun e => ¬ (e.req.requester = 7 ∧ opPublic e.req.op = false))
        sym := if s.ciph.sym = some 7 then none else s.ciph.sym } }
      testAnswers 2 (if pass = false ∨ s.ciph.symFail = true then cipherEvent 4 0 u else u))) ∧
  (∀ pass, Does (fun t => .selfTestComplete t 3 pass) (fun s => s.ciph.test3 = true)
    (fun s =>
      let u := { s with ciph := { s.ciph with
        test3 := false, pkFail := !pass, test2At := if s.ciph.test2 = true then s.ciph.test2At else max 1 s.time.now
        queue := s.ciph.queue.filter (fun e => ¬ (e.req.requester = 7 ∧ opPublic e.req.op = true))
        pk := if s.ciph.pk = some 7 then none else s.ciph.pk } }
      testAnswers 3 (if pass = false ∨ s.ciph.pkFail = true then cipherEvent 4 0 u else u))) ∧
  Does .entropyHealthFail (fun _ => True) (fun s => cipherEvent 5 0 { s with ciph := { s.ciph with entropyFail := true } })

/-- What the Darkroom does by itself (R427, R428, R429, R430, R433, R437, R439, R440, R443, R447). -/
def Obligations.DarkroomEventsTakeEffect : Prop :=
  (∀ w, DoesAlways .darkWindowBeforeTaken (fun s => s.dark.cur = some w ∧ w.phase = 0 ∧ s.dark.run = true)
    (fun s =>
      let from0 := w.lt - fld w.cfg 0 31 16 * 1000000
      let til := w.lt + fld w.cfg 0 15 0 * 1000000
      let sel := s.cs.trace.reverse.filter (windowTakes w)
      let bef := sel.filter (fun r => from0 ≤ r.lt && r.lt ≤ w.lt)
      let aft := sel.filter (fun r => w.lt < r.lt && r.lt ≤ til)
      let room := 32256 - fld w.cfg 1 31 16
      { s with dark := { s.dark with cur := some { w with
        phase := 1, before := bef.drop (bef.length - room)
        truncBefore := decide (room < bef.length) || (match s.cs.trace.reverse with | r :: _ => decide (from0 < r.lt && 0 < oldestAt s) | [] => false)
        after := aft.take (32256 - min bef.length room), truncAfter := decide (32256 - min bef.length room < aft.length) } } })) ∧
  (∀ w, DoesAlways .darkWindowAfterClose
    (fun s => s.dark.cur = some w ∧ w.phase = 1 ∧ s.dark.run = true ∧ (w.truncAfter = true ∨ w.epoch ≠ s.time.epoch ∨ w.lt + fld w.cfg 0 15 0 * 1000000 ≤ s.time.now))
    (fun s =>
      let u := { s with dark := { s.dark with cur := some { w with phase := 2, clkFb := w.clkFb || s.dark.clkFb } } }
      if w.truncBefore = true ∨ w.truncAfter = true then darkEvent 0x04 u else u)) ∧
  (∀ w, DoesAlways .darkWindowSigned (fun s => s.dark.cur = some w ∧ w.phase = 2 ∧ s.dark.run = true ∧ s.dark.lowAt = none)
    (fun s =>
      let h := windowHeader s w s.dark.nextEv
      let sig := darkSign (recBytes h) s
      let full := h ++ bytesRec sig.1 ++ List.replicate 5 0
      { sig.2 with dark := { sig.2.dark with
          cur := some { w with phase := 3, evSeq := s.dark.nextEv, header := full, wrote := sig.2.time.now }
          nextEv := sig.2.dark.nextEv + 1
          slot := tset {} sig.2.dark.slot w.slot { st := 1, evSeq := s.dark.nextEv, header := full, recs := w.before ++ w.after } } })) ∧
  (∀ w, DoesAlways .evidenceCommitAck (fun s => s.dark.cur = some w ∧ w.phase = 3 ∧ s.dark.run = true ∧
      (s.dark.lowAt = none ∧ commitFrom w ≤ s.time.now ∨ ∃ a, s.dark.lowAt = some a ∧ commitFrom w ≤ a))
    (fun s => nextWindow (darkEvent 0x01 (setDarkSlot w.slot { darkSlot s w.slot with st := 2 }
      (count rDRK_STAT 15 0 { s with dark := { s.dark with cur := none } }))))) ∧
  DoesAlways .darkClockFallback (fun s => s.dark.run = true ∧ s.dark.clkFb = false)
    (fun s => darkEvent 0x06 { s with dark := { s.dark with clkFb := true, cur := s.dark.cur.map (fun w => { w with clkFb := true }) } }) ∧
  DoesAlways .darkClockReturn (fun s => s.dark.clkFb = true) (fun s => darkEvent 0x06 { s with dark := { s.dark with clkFb := false } }) ∧
  DoesAlways .darkWatchdogReset (fun s => s.dark.run = true) (fun s => darkEvent 0x08 (darkReset s)) ∧
  DoesAlways .darkroomReset (fun _ => True) (fun s => darkReset { s with dark := { s.dark with lowAt := none } }) ∧
  DoesAlways .vddDrkLoss (fun s => s.dark.lowAt = none) (fun s => { s with dark := { s.dark with lowAt := some s.time.now } }) ∧
  (∀ a t s, s.dark.lowAt = some a → s.dark.run = true → a + 2000000 ≤ t →
    holdUpEnds t s = { s with dark := { s.dark with run := false, cur := none, queue := none } }) ∧
  (∀ i ws, DoesAlways .resealComplete (fun s => s.dark.reseal = some (i, ws) ∧ s.dark.run = true)
    (fun s =>
      let a := auditAppend 2 (s.dark.images + 1) (word (s.dark.inForce.getD 0)) (word i) (releaseShort s) s
      let b := { a with dark := { a.dark with image := tset [] a.dark.image i ws, images := a.dark.images + 1, reseal := none } }
      let c := { b with dark := { b.dark with inForce := some i, calBad := false, forceWas := (b.dark.inForce, b.time.now + 1) } }
      let d := darkEvent 0x05 c
      match flightOf d (fun op => op = 0x0B04) with
      | some m => finishDeferred m 0 [word i] d
      | none => d))

/-- What the Contact Sheet recorder and its export channels do (R449, R450, R453, R454, R455, R460, R461, R462, R463, R467). -/
def Obligations.RecorderEventsTakeEffect : Prop :=
  Does .csRecordAccept
    (fun s => (∀ a, s.cs.accepted = some a → a + 4 ≤ s.time.now) ∧ (s.cs.anchor = none ∨ s.cs.next % 65536 = 0 ∨ (s.cs.anchorDue = true ∧ s.cs.mid = false ∧ s.cs.gap = none)))
    (fun s => exportGo (anchorIn s)) ∧
  (∀ g, Does .csRecordAccept
    (fun s => (∀ a, s.cs.accepted = some a → a + 4 ≤ s.time.now) ∧ s.cs.anchor.isSome = true ∧ s.cs.next % 65536 ≠ 0 ∧
      s.cs.gap = some g ∧ s.cs.mid = false)
    (fun s => exportGo (gapIn g s))) ∧
  (∀ g r, Does .csRecordAccept
    (fun s => (∀ a, s.cs.accepted = some a → a + 4 ≤ s.time.now) ∧ s.cs.anchor.isSome = true ∧ s.cs.next % 65536 ≠ 0 ∧
      (s.cs.gap = none ∧ s.cs.anchorDue = false ∨ s.cs.mid = true) ∧ s.cs.queue = g :: r)
    (fun s => exportGo (groupIn g r s))) ∧
  (∀ a, Does .csAnchorTimer
    (fun s => s.cs.anchor = some a ∧ a + 1000000 ≤ s.time.now ∧ s.cs.mid = false ∧ s.cs.gap = none ∧ ∀ a, s.cs.accepted = some a → a + 4 ≤ s.time.now)
    (fun s => exportGo (anchorIn s))) ∧
  (∀ a, Does .csAnchorTimer (fun s => s.cs.anchor = some a ∧ a + 1000000 ≤ s.time.now ∧ (s.cs.mid = true ∨ s.cs.gap.isSome = true))
    (fun s => { s with cs := { s.cs with anchorDue := true } })) ∧
  Does .csMappingRepeat (fun s => s.cs.repeatAt ≤ s.time.now)
    (fun s => csPushAt 0x02 s.time.map.la (mappingPayload s true) { s with cs := { s.cs with repeatAt := (s.time.now / 1000000000 + 1) * 1000000000 } }) ∧
  Does .csExportFrameFlush
    (fun s => (exportGo s).cs.chan0.en = true ∧ (exportGo s).cs.chan0.frame ≠ [] ∧
      (exportGo s).cs.chan0.since + fld (exportGo s).cs.chan0.cfg 0 15 2 * 1000 ≤ (exportGo s).time.now)
    (fun s => exportSend (exportGo s)) ∧
  Does .csExportRingWrite (fun s => s.cs.chan1.en = true ∧ s.cs.chan1.pos < oldestAt s ∧ 4 ≤ ringFree s .trace)
    (fun s => sheetEvent 0x02 (ringLand .trace (csWords (overrunGap s s.cs.chan1)) { s with cs := { s.cs with chan1 := { s.cs.chan1 with pos := oldestAt s } } })) ∧
  (∀ start g pos, Does .csExportRingWrite
    (fun s => s.cs.chan1.en = true ∧ oldestAt s ≤ s.cs.chan1.pos ∧ groupOf s s.cs.chan1 = (start, some (g, pos)) ∧
      4 * g.length ≤ ringFree s .trace)
    (fun s => ringLand .trace (g.flatMap csWords) { s with cs := { s.cs with chan1 := { s.cs.chan1 with pos := pos } } }))

/-- What the events of the CAN buses do (R307, R309, R311, R313, R315, R316, R317, R318, R319, R329, R331, R354). -/
def Obligations.CanEventsTakeEffect : Prop :=
  (∀ b f sof, b < 24 → Does (fun t => .canFrameValid t b f sof)
    (fun s => canTakesPart s b (canRecAt (canOf s b) sof).1 (canRecAt (canOf s b) sof).2 = true ∧ (canOf s b).busOff = false ∧
      protoHas (canRecAt (canOf s b) sof).1 f.format = true ∧ (canOf s b).rec1 ≤ 127)
    (fun s => giveWay (.frame { src := b, f := f, bus := b, stamp := sof })
      (gatewayTrigger b f (firstKeepAlives (observeCan b f (canCount b 2 (setErr b (canOf s b).tec ((canOf s b).rec1 - 1) s))))))) ∧
  (∀ g s, 24 ≤ g.src ∨ owns s g.src = true → runLate (.frame g) s = engine g s) ∧
  (∀ b i x, b < 24 → Does (fun t => .canTxStart t b)
    (fun s => canLive s b = true ∧ canModeNow s b = 1 ∧ (canOf s b).busOff = false ∧ (canOf s b).sending = none ∧ offered s b = some (i, x))
    (fun s =>
      let e := countCanLate b i x s
      let u := setCan b { canOf e b with
        sending := some (i, s.time.now)
        slots := tset none (canOf e b).slots i (some { (tget none (canOf e b).slots i).getD x with tries := x.tries + 1 }) } e
      { u with out := .can s.time.now b x.out.f :: u.out })) ∧
  (∀ b i sof x, b < 24 → Does (fun t => .canTxComplete t b)
    (fun s => (canOf s b).sending = some (i, sof) ∧ tget none (canOf s b).slots i = some x)
    (fun s => slotEnds b i x 0 (match x.out.launch with | some w => ((wtOf s sof - w) / 65536).toNat | none => 0) sof
      (canCount b 3 (setErr b ((canOf s b).tec - 1) (canOf s b).rec1 s)))) ∧
  (∀ b i sof k, b < 24 → Does (fun t => .canTxError t b k)
    (fun s => (canOf s b).sending = some (i, sof) ∧
      ∀ x, tget none (canOf (tecUp b k (countErr b k s)) b).slots i = some x →
        x.abort = false ∧ (fld (canOf s b).rec0 0 13 6 = 0 ∨ x.tries < fld (canOf s b).rec0 0 13 6))
    (fun s =>
      let e := tecUp b k (countErr b k s)
      setCan b { canOf e b with sending := none } e)) ∧
  (∀ b i sof k x, b < 24 → Does (fun t => .canTxError t b k)
    (fun s => (canOf s b).sending = some (i, sof) ∧ tget none (canOf (tecUp b k (countErr b k s)) b).slots i = some x ∧ x.abort = false ∧
      fld (canOf s b).rec0 0 13 6 ≠ 0 ∧ fld (canOf s b).rec0 0 13 6 ≤ x.tries)
    (fun s =>
      let e := tecUp b k (countErr b k s)
      slotEnds b i x 0x09 0 s.time.now (canEvent b 2 0 (canCount b 13 (gwDrop b 0x09 (setCan b { canOf e b with sending := none } e)))))) ∧
  (∀ b k, b < 24 → Does (fun t => .canRxError t b k)
    (fun s => canLive s b = true ∧ (canOf s b).busOff = false)
    (fun s =>
      let e := countErr b k s
      setErr b (canOf e b).tec (min 128 ((canOf e b).rec1 + recStep k)) e)) ∧
  (∀ b e, Does (fun t => .canBoDelayExpiry t b) (fun s => (canOf s b).boEnd = some e ∧ e ≤ s.time.now)
    (fun s => setCan b { canOf s b with boEnd := none, recovering := true } s)) ∧
  (∀ b, Does (fun t => .canBusOffRecovered t b) (fun s => (canOf s b).busOff = true ∧ (canOf s b).recovering = true)
    (fun s => canEvent b 0 0 (setCan b { canOf s b with busOff := false, recovering := false, tec := 0, rec1 := 0 } s))) ∧
  (∀ b i, Does (fun t => .canMaxAgeExpiry t b i) (fun _ => True) (giveWay (.slotStale b i))) ∧
  (∀ b i x s, tget none (canOf s b).slots i = some x → x.out.maxAge ≠ 0 → x.tries = 0 → x.placed + x.out.maxAge * 1000 ≤ s.time.now →
    (∀ w, x.out.launch = some w → w + (x.out.maxAge * 1000 : Nat) * wtNs ≤ wtNow s) →
    runLate (.slotStale b i) s = slotEnds b i x 0x08 0 s.time.now (canEvent b 2 0 (canCount b 12 (gwDrop b 0x08 s)))) ∧
  (∀ b i x s, tget none (canOf s b).slots i = some x → 0 < x.tries → runLate (.slotStale b i) s = s) ∧
  (∀ b r, Does (fun t => .canControllerApply t b) (fun s => (canOf s b).next = some r ∧ (canOf s b).sending = none)
    (fun s =>
      let e := discardSlots b 0x04 s
      setCan b { canOf e b with 
        rec0 := r, next := none, prev := some ((canOf s b).rec0, (canOf s b).integ, s.time.now), integ := decide (fld r 0 26 25 ≠ 0)
        boEnd := boEndUnder (canOf s b) r s.time.now } e)) ∧
  (∀ b, b < 24 → Does (fun t => .canIntegrationDone t b) (fun s => (canOf s b).integ = true ∧ (segOf s (28 + b)).state ≠ 4)
    (fun s => setCan b { canOf s b with integ := false } s)) ∧
  (∀ b, b < 24 → Does (fun t => .canIntegrationDone t b) (fun s => (canOf s b).integ = true ∧ (segOf s (28 + b)).state = 4)
    (fun s => segAwake (28 + b) (setCan b { canOf s b with integ := false } s)))

/-- What the slots of the LIN buses and the tunnels do (R324, R325, R326, R327, R336, R337, R339, R340). -/
def Obligations.LinAndTunnelEventsTakeEffect : Prop :=
  (∀ b tb, b < 8 → Does (fun t => .linSlotStart t b true)
    (fun s => linWakes b s = s ∧ linTakePending b s = s ∧ ((linOf s b).slot = none → linSkip b s = s) ∧ (linOf s b).table = some tb ∧ linLive s b = true ∧ (linOf s b).slot = none ∧
      (linOf s b).cycle + linOffset s (linHeadOf (linOf s b) tb) (linOf s b).idx ≤ wtNow s)
    (fun s =>
      let k := fld (linHeadOf (linOf s b) tb) 0 23 13 + (linOf s b).idx
      let e := (tget (0, 0) s.gw.pool k).1
      let u := setLin b { linOf s b with slot := some (k, s.time.now), sent := if bit e 23 then tget none (linOf s b).pub (bits e 29 24) else none } s
      let h := { u with out := .linHeader s.time.now b (bits e 29 24) :: u.out }
      if bit e 23 = false then h
      else match tget none (linOf s b).pub (bits e 29 24) with
        | some d => { h with out := .linData s.time.now b (bits e 29 24) (d ++ [linChecksum (bit e 22) (bits e 29 24) d]) :: h.out }
        | none => u)) ∧
  (∀ b tb, b < 8 → Does (fun t => .linSlotStart t b false)
    (fun s => linWakes b s = s ∧ linTakePending b s = s ∧ ((linOf s b).slot = none → linSkip b s = s) ∧ (linOf s b).table = some tb ∧ linLive s b = true ∧ (linOf s b).slot = none ∧
      (linOf s b).cycle + linOffset s (linHeadOf (linOf s b) tb) (linOf s b).idx ≤ wtNow s)
    (fun s => linEvent b 1 0 (linCount b 8 s))) ∧
  (∀ b d k start, b < 8 → Does (fun t => .linSlotEnd t b 0 d)
    (fun s0 =>
      let s := boundaryFirst s0
      (linOf s b).slot = some (k, start) ∧ bit (tget (0, 0) s.gw.pool k).1 23 = false ∧ d.length = bits (tget (0, 0) s.gw.pool k).1 21 18)
    (fun s0 =>
      let s := boundaryFirst s0
      let e := (tget (0, 0) s.gw.pool k).1
      let data := d.take (bits e 21 18)
      let f : CanFrame := { format := 5, id := bits e 29 24, dlc := data.length, data := data }
      let a := linCount b 1 (setLin b { linOf s b with slot := none, sent := none } s)
      let r := ringPush (.lin b) (ringEntry a 1 b f false (routeOf a (24 + b) f).isSome 0 start 0 0) a
      giveWay (.frame { src := 24 + b, f := f, bus := 24 + b, stamp := start })
        (gatewayTrigger (24 + b) f (validateSeg (52 + b) (linApply b (linTakePending b (sendGts (52 + b) (linAdvance b r)))))))) ∧
  (∀ b d k start o, b < 8 → o = 1 ∨ o = 2 ∨ o = 3 ∨ o = 4 →
    Does (fun t => .linSlotEnd t b o d)
    (fun s0 =>
      let s := boundaryFirst s0
      (linOf s b).slot = some (k, start) ∧ bit (tget (0, 0) s.gw.pool k).1 23 = false ∧ bits (tget (0, 0) s.gw.pool k).1 31 30 ≠ 1)
    (fun s0 =>
      let s := boundaryFirst s0
      let data := d.take 8
      let f : CanFrame := { format := 5, id := bits (tget (0, 0) s.gw.pool k).1 29 24, dlc := data.length, data := data }
      let a := linCount b (o + 1) (setLin b { linOf s b with slot := none, sent := none } s)
      let r := ringPush (.lin b) (ringEntry a 1 b f false false 0 start o 0) a
      linApply b (linTakePending b (sendGts (52 + b) (linAdvance b (linEvent b 0 0 r)))))) ∧
  (∀ (e : Word) d, bit e 23 = false → bits e 31 30 ≠ 1 → d.length = bits e 21 18 + 1 →
    d.drop (bits e 21 18) ≠ [linChecksum (bit e 22) (bits e 29 24) (d.take (bits e 21 18))] → linOutcome e false 0 d = 2) ∧
  (∀ i, Does (fun t => .tunnelFlushDeadline t i) (fun s => (tunnelOf s i).n ≠ 0 ∧ (tunnelOf s i).deadline ≤ wtNow s) (fun s => flushTunnel i s)) ∧
  (∀ p, Does (fun t => .acfFrameRx t p)
    (fun s => (parse p).etype = some 0x22F0 ∧ (boundaryFirst s).gw.rxTunnel = []) (fun s => gwEvent 0x02 (gwDrop 32 0x10 (boundaryFirst s)))) ∧
  (∀ p i v, (parse p).etype = some 0x22F0 → (parse p).rtag = none → flag v.rec0 0 31 = true → flag v.rec0 0 30 = false →
    byteAt p (14 + (parse p).tagLen) = 0x82 → beAt p (18 + (parse p).tagLen) 8 = cat64 (rw v.rec0 1) (rw v.rec0 2) →
    Does (fun t => .acfFrameRx t p) (fun s => (boundaryFirst s).gw.rxTunnel = [(i, v)])
    (fun s =>
      let l := 14 + (parse p).tagLen
      let q := byteAt p (l + 3)
      let gap := match v.last with | some o => (q + 511 - o) % 256 | none => 0
      let a := setRxTunnel i { v with last := some q, frames := satAdd 32 v.frames 1, seqGap := satAdd 32 v.seqGap gap } (boundaryFirst s)
      let body := (p.drop (l + 12)).take (beAt p (l + 1) 2 % 2048)
      acfMessages i body.length body (if gap ≠ 0 then gwEvent 0x01 a else a)))

/-- What the messages of the partner do (R467, R582, R583, R588, R589, R590, R591, R593, R594). -/
def Obligations.PartnerMessagesTakeEffect : Prop :=
  (∀ m, Does (fun t => .partnerTokenRx t m)
    (fun s => s.pair.en = true ∧ portUp s s.pair.port = true ∧ pairValid 1 m s = true)
    (fun s => pairSend 2 [rw m 1] [] (pairAccept m s))) ∧
  (∀ m, Does (fun t => .partnerCkptAckRx t m)
    (fun s => s.pair.en = true ∧ portUp s s.pair.port = true ∧ pairValid 4 m s = true)
    (fun s => let e := pairSend 2 [rw m 1] [] (pairAccept m s); { e with pair := { e.pair with ckptAck := some e.time.now } })) ∧
  (∀ m, Does (fun t => .partnerMappingRx t m)
    (fun s => s.pair.en = true ∧ portUp s s.pair.port = true ∧ pairValid 6 m s = true)
    (fun s => csPush 0x03 ((List.range 4).map (fun i => BitVec.ofNat 64 (cat64 (rw (msgBody m) (2 * i)) (rw (msgBody m) (2 * i + 1))))) (pairSend 2 [rw m 1] [] (pairAccept m s)))) ∧
  (∀ m, Does (fun t => .partnerTokenRx t m)
    (fun s => s.pair.en = true ∧ portUp s s.pair.port = true ∧ pairValid 1 m s = false)
    (fun s => pairEvent 0x07 none (count (rPAIR 0x0C) 31 24 s))) ∧
  (∀ m, Does (fun t => .partnerAckRx t m)
    (fun s => s.pair.en = true ∧ portUp s s.pair.port = true ∧ pairValid 2 m s = false)
    (fun s => pairEvent 0x07 none (count (rPAIR 0x0C) 31 24 s))) ∧
  (∀ m, Does (fun t => .partnerCkptPartRx t m)
    (fun s => s.pair.en = true ∧ portUp s s.pair.port = true ∧ pairValid 3 m s = false)
    (fun s => pairEvent 0x07 none (count (rPAIR 0x0C) 31 24 s))) ∧
  (∀ m, Does (fun t => .partnerCkptAckRx t m)
    (fun s => s.pair.en = true ∧ portUp s s.pair.port = true ∧ pairValid 4 m s = false)
    (fun s => pairEvent 0x07 none (count (rPAIR 0x0C) 31 24 s))) ∧
  (∀ m, Does (fun t => .partnerReleaseRx t m)
    (fun s => s.pair.en = true ∧ portUp s s.pair.port = true ∧ pairValid 5 m s = false)
    (fun s => pairEvent 0x07 none (count (rPAIR 0x0C) 31 24 s))) ∧
  (∀ m, Does (fun t => .partnerMappingRx t m)
    (fun s => s.pair.en = true ∧ portUp s s.pair.port = true ∧ pairValid 6 m s = false)
    (fun s => pairEvent 0x07 none (count (rPAIR 0x0C) 31 24 s))) ∧
  (∀ m n at0 objs, n = (rw (msgBody m) 0).toNat → Does (fun t => .partnerAckRx t m)
    (fun s => s.pair.en = true ∧ portUp s s.pair.port = true ∧ pairValid 2 m s = true ∧
      (pairAccept m s).pair.tokens.find? (fun t => t.1 = n) = some (n, at0, objs))
    (fun s =>
      let a := objs.foldl (fun s o =>
        let x := objOf s o
        if x.owned && !x.interlock then setObj o { x with lease := some (max (x.lease.getD 0) (at0 + 20000000)) } s else s) (pairAccept m s)
      giveWay (.acked n) { a with pair := { a.pair with tokens := a.pair.tokens.filter (fun t => t.1 ≠ n) } })) ∧
  (∀ n s, runLate (.acked n) s = (List.range 40).foldl (fun s o => match (objOf s o).claim with
    | some (k, c) => if k = n && decide (s.time.now ≤ c + 1000000) then takeObj o true (some (c + 20000000)) s else s
    | none => s) s) ∧
  (∀ m n, n = (rw (msgBody m) 0).toNat → 0 < fld (msgBody m) 1 15 0 → fld (msgBody m) 1 15 0 ≤ 14 → fld (msgBody m) 1 31 16 < fld (msgBody m) 1 15 0 →
    Does (fun t => .partnerCkptPartRx t m)
    (fun s => s.pair.en = true ∧ portUp s s.pair.port = true ∧ pairValid 3 m s = true)
    (fun s =>
      let e := pairSend 2 [rw m 1] [] (pairAccept m s)
      let parts := tset [] (if e.pair.partNum = n then e.pair.parts else []) (fld (msgBody m) 1 31 16) ((msgBody m).drop 2)
      if (List.range (fld (msgBody m) 1 15 0)).all (fun i => tget [] parts i ≠ []) = true then
        pairSend 4 [word n] [] { e with pair := { e.pair with
          ckpt := some (n, e.time.now, (List.range (fld (msgBody m) 1 15 0)).flatMap (fun i => tget [] parts i)), parts := [], partNum := n
          missFrom := e.time.now } }
      else { e with pair := { e.pair with partNum := n, parts := parts } })) ∧
  (∀ m o, objNumber (fld (msgBody m) 0 31 30) (fld (msgBody m) 0 29 25) = some o → Does (fun t => .partnerReleaseRx t m)
    (fun s => s.pair.en = true ∧ portUp s s.pair.port = true ∧ pairValid 5 m s = true)
    (fun s => giveWay (.handed o) (pairSend 2 [rw m 1] [] (pairAccept m s)))) ∧
  (∀ o s, s.pair.en = true → runLate (.handed o) s = if (objOf s o).interlock = true then takeGroup false s else takeObj o false none s) ∧
  (∀ o k s, s.pair.en = false → runLate (.handed o) s = s ∧ runLate (.acked k) s = s)

/-- What the timers and pins of a redundant pair do (R583, R585, R586, R587, R588, R589, R591, R592). -/
def Obligations.PairTimersTakeEffect : Prop :=
  Does .partnerUpTimeout (fun s => s.pair.up = true ∧ ∀ a, s.pair.lastAt = some a → a + 20000000 ≤ s.time.now)
    (fun s => pairEvent 0x04 none { s with pair := { s.pair with up := false } }) ∧
  Does .leaseTokenTimer (fun s => s.pair.en = true ∧ leased s ≠ [] ∧ ∀ a, s.pair.lastToken = some a → a + 5000000 ≤ s.time.now)
    (fun s => sendToken [] { s with pair := { s.pair with lastToken := some s.time.now } }) ∧
  (∀ o e, Does (fun t => .leaseExpiry t o)
    (fun s => (objOf s o).lease = some e ∧ (objOf s o).owned = true ∧ (objOf s o).interlock = false ∧ e ≤ s.time.now)
    (fun s => pairEvent 0x08 (some o) (setObj o { objOf (dropObj o s) o with notBefore := s.time.now + 1000000000 } (dropObj o s)))) ∧
  (∀ o, Does (fun t => .claimWaitExpiry t o) (fun _ => True) (giveWay (.claim o))) ∧
  (∀ o s, o < 40 → s.pair.en = true → (objOf s o).owned = false → (objOf s o).interlock = false → (objOf s o).claim = none → (objOf s o).notBefore ≤ s.time.now →
    (objOf s o).waitFrom + claimWait s ≤ s.time.now → (∀ a, s.pair.lastAt = some a → a + 25000000 ≤ s.time.now) →
    runLate (.claim o) s = takeObj o true none s) ∧
  (∀ o a s, o < 40 → s.pair.en = true → (objOf s o).owned = false → (objOf s o).interlock = false → (objOf s o).claim = none →
    (objOf s o).notBefore ≤ s.time.now → (objOf s o).waitFrom + claimWait s ≤ s.time.now → s.pair.lastAt = some a → s.time.now < a + 25000000 →
    runLate (.claim o) s = setObj o { objOf (sendToken [o] s) o with claim := some (s.pair.txSeq, s.time.now) } (sendToken [o] s)) ∧
  (∀ o s, s.time.now < (objOf s o).waitFrom + claimWait s → runLate (.claim o) s = s) ∧
  (∀ o, Does (fun t => .claimAckTimeout t o) (fun _ => True) (giveWay (.claimOver o))) ∧
  (∀ o n a s, (objOf s o).claim = some (n, a) → a + 1000000 ≤ s.time.now →
    runLate (.claimOver o) s = setObj o { objOf s o with claim := none, waitFrom := a + 1000000 } s) ∧
  Does .interlockLowQualified (fun s => s.pair.en = true ∧ s.pair.ilOwned = false ∧ s.pair.ilClaim = none ∧ group s ≠ [])
    (fun s => { s with pair := { s.pair with ownOut := true, ownIn := false, ilClaim := some s.time.now } }) ∧
  (∀ high, Does (fun t => .interlockClaimSample t high) (fun _ => True) (giveWay (.interlock high))) ∧
  (∀ a s, s.pair.ilClaim = some a → a + 2000 ≤ s.time.now →
    runLate (.interlock false) s = takeGroup true { s with pair := { s.pair with ownIn := false } }) ∧
  (∀ a s, s.pair.ilClaim = some a → a + 2000 ≤ s.time.now → roleB s = true →
    runLate (.interlock true) s = { s with pair := { s.pair with ownIn := true, ownOut := false, ilClaim := none } }) ∧
  (∀ a s, s.pair.ilClaim = some a → a + 2000 ≤ s.time.now → roleB s = false →
    runLate (.interlock true) s = { s with pair := { s.pair with ownIn := true, ilClaim := some s.time.now } }) ∧
  Does .checkpointTimer
    (fun s => s.pair.en = true ∧ ownsAny s = true ∧ ∀ a, s.pair.ckptSent = some a → a + s.pair.interval * 1000000 ≤ s.time.now)
    (fun s => sendCheckpoint s) ∧
  Does .checkpointMiss
    (fun s => s.pair.en = true ∧ ownsAny s = false ∧ s.pair.up = true ∧ s.pair.missFrom + s.pair.interval * 1000000 + 5000000 ≤ s.time.now)
    (fun s => pairEvent 0x06 none (count (rPAIR 0x0C) 15 0 { s with pair := { s.pair with missFrom := s.time.now } }))

/-- What the supplies, clocks, reset pins and control cores do (R597, R627, R628, R629, R633, R634, R635, R638, R640, R646, R672). -/
def Obligations.PowerAndResetEventsTakeEffect : Prop :=
  DoesAlways .railsGood (fun s => s.sys.pow.power = .held ∧ s.sys.pow.rails = true ∧ s.sys.pow.wokeFrom.isSome = true)
    (fun s => powerOnReset 2 { s with sys := { s.sys with pow := { s.sys.pow with rails := false } } }) ∧
  DoesAlways .railsGood (fun s => s.sys.pow.power = .held ∧ s.sys.pow.rails = true ∧ s.sys.pow.wokeFrom = none)
    (fun s => releaseReset { s with sys := { s.sys with pow := { s.sys.pow with rails := false } } }) ∧
  (∀ mv us, DoesAlways (fun t => .coreRailBrownout t mv us) (fun s => s.sys.pow.power = .run ∧ s.nm.entry = none)
    (fun s => systemReset 5 { s with sys := { s.sys with pow := { s.sys.pow with brown := some (mv, us), rails := true } } })) ∧
  (∀ mv us, DoesAlways (fun t => .coreRailBrownout t mv us) (fun s => s.sys.pow.power = .run ∧ s.nm.entry.isSome = true)
    (fun s => finishEntry { s with sys := { s.sys with pow := { s.sys.pow with owed := s.sys.pow.owed ++ [supplyPayload 4 mv us] } } })) ∧
  DoesAlways .coreRailOff (fun s => s.sys.pow.power ≠ .standby)
    (fun s => powerOnReset 2 { s with sys := { s.sys with pow := { s.sys.pow with rails := true } } }) ∧
  DoesAlways .vddRetLow (fun _ => True) (fun s => loseRetention (regPut (rCROCUS 0x08) 29 29 0 s)) ∧
  (∀ k mv, DoesAlways (fun t => .vbatDisturbance t k mv) (fun s => s.sys.pow.disturb = none ∧ s.sys.pow.power = .run)
    (fun s => { s with sys := { s.sys with pow := { s.sys.pow with disturb := some ⟨vbatType k, s.time.now - 10000, mv / 20 * 20⟩ } } })) ∧
  (∀ d mv, DoesAlways (fun t => .vbatDisturbanceEnd t mv) (fun s => s.sys.pow.disturb = some d ∧ s.sys.pow.power = .run)
    (fun s => supplyRecord d.kind (supplyPayload d.kind (extreme d.kind d.mv (mv / 20 * 20)) ((s.time.now - d.start) / 1000))
      { s with sys := { s.sys with pow := { s.sys.pow with disturb := none } } })) ∧
  DoesAlways .vbatPowerOnReset (fun _ => True) (fun s => vbatReset s) ∧
  DoesAlways .porstNAssert (fun s => s.sys.pow.power ≠ .standby) (fun s => powerOnReset 3 s) ∧
  DoesAlways .sysrstNAssert (fun s => s.sys.pow.power = .run ∧ s.sys.pow.porAt ≠ some s.time.now)
    (fun s => releaseReset (count rRST_STAT 15 8 (resetStat 3 4
      { systemClear (interrupted s) with sys := { (systemClear (interrupted s)).sys with pow :=
          { (systemClear (interrupted s)).sys.pow with power := .held, sysGo := none, sysWas := none, sysAt := some (s.time.now, regFld s rRST_STAT 15 8) } } }))) ∧
  DoesAlways .sysrstNAssert (fun s => s.sys.pow.porAt = some s.time.now) (fun s => s) ∧
  (∀ mode, DoesAlways (fun t => .powerOnReset ⟨t, mode⟩) (fun s => s.sys.pow.power ≠ .standby)
    (fun s =>
      let e := powerOnClear (interrupted (takesIn { s with sys := { s.sys with pow := { s.sys.pow with testmode := mode } } }))
      let u := releaseReset (resetStat 2 2 { e with sys := { e.sys with pow := { e.sys.pow with power := .held, sysGo := none, sysWas := none, sysAt := none } } })
      { u with sys := { u.sys with pow := { u.sys.pow with porAt := some u.time.now } } })) ∧
  (∀ c, c ≠ 8 → c < 32 → DoesAlways (fun t => .systemReset t c) (fun _ => True) (fun s => systemReset c s)) ∧
  (∀ d, DoesAlways (fun t => .systemReset t 8) (fun s => s.sys.pow.sysGo = some d ∧ d ≤ s.time.now) (fun s => systemReset 8 s)) ∧
  Does .controlResetComplete (fun s => s.sys.core.reload = true ∧ s.sys.core.reloadGo ≠ some s.time.now)
    (fun s => controlStarts { s with sys := { s.sys with core := { s.sys.core with reload := false, reloadGo := none } } }) ∧
  Does .controlWatchdogExpiry
    (fun s => s.sys.fw.paused = false ∧ s.sys.core.reload = false ∧ (s.sys.fw.boot = .served ∨ s.sys.fw.boot = .kernel) ∧ s.sys.core.takeover = none ∧
      s.sys.core.stbyOk = true ∧ s.sys.core.copy0.isSome = true)
    (fun s => controlStops false { s with sys := { s.sys with core := { s.sys.core with takeover := some 1 } } }) ∧
  Does .controlWatchdogExpiry
    (fun s => s.sys.fw.paused = false ∧ s.sys.core.reload = false ∧ (s.sys.fw.boot = .served ∨ s.sys.fw.boot = .kernel) ∧ s.sys.core.stbyOk = false)
    (fun s => systemReset 7 s) ∧
  (∀ c, Does .controlTakeoverComplete (fun s => s.sys.core.takeover = some c)
    (fun s =>
      let e := { s with sys := { s.sys with core := { s.sys.core with takeover := none, core := 1 - s.sys.core.core, stbyOk := false, lastCause := c } } }
      systemEventD 11 c e.sys.core.snapId (controlStarts (setFlag rCORE_STAT 29 e)))) ∧
  DoesAlways .clockMonitorFault (fun s => s.sys.pow.power = .run)
    (fun s =>
      let e := cipherAlarm .clock s
      systemReset 6 { e with sys := { e.sys with pow := { e.sys.pow with clock := true, clockFault := true } } }) ∧
  DoesAlways .clockMonitorReturn (fun s => s.sys.pow.clock = true)
    (fun s => releaseReset { s with sys := { s.sys with pow := { s.sys.pow with clock := false } } }) ∧
  DoesAlways .osc32kStopped (fun s => s.sys.pow.osc32 = true ∧ s.sys.pow.power = .run)
    (fun s => systemEvent 15 0x08 { s with sys := { s.sys with pow := { s.sys.pow with osc32 := false } } }) ∧
  Does .junctionTempHigh (fun s => s.sys.pow.hot = false)
    (fun s => systemEvent 15 0x05 { s with sys := { s.sys with pow := { s.sys.pow with hot := true } } }) ∧
  Does .junctionTempNormal (fun s => s.sys.pow.hot = true)
    (fun s => systemEvent 15 0x06 { s with sys := { s.sys with pow := { s.sys.pow with hot := false } } })

/-- What start-up, activation, and the writes of flash and fuses do (R595, R605, R608, R610, R613, R614, R617, R620, R621, R641, R642, R644). -/
def Obligations.BootAndWriteEventsTakeEffect : Prop :=
  (∀ good, Does (fun t => .bootImageVerify t true good) (fun s => s.sys.fw.boot = .rom ∧ good = true ∧ imageCheck (firstSteps s) = 0)
    (fun s =>
      let e := firstSteps s
      { e with sys := { e.sys with fw := { e.sys.fw with boot := .loaded, img := imageHeader e, slCause := 0 } } })) ∧
  (∀ good, Does (fun t => .bootImageVerify t false good) (fun s => s.sys.fw.boot = .rom) (fun s => enterSafelight 1 (firstSteps s))) ∧
  (∀ good, Does (fun t => .bootImageVerify t true good) (fun s => s.sys.fw.boot = .rom ∧ imageCheck (firstSteps s) ≠ 0)
    (fun s => enterSafelight (imageCheck (firstSteps s)) (firstSteps s))) ∧
  Does (fun t => .bootImageVerify t true false) (fun s => s.sys.fw.boot = .rom ∧ imageCheck (firstSteps s) = 0)
    (fun s => enterSafelight 6 (firstSteps s)) ∧
  Does .startUpComplete (fun s => s.sys.fw.boot = .loaded) (fun s => beginService (startSegments (startSettings (settingsKey s)))) ∧
  Does (fun t => .retainedWakeResume t true) (fun s => s.sys.fw.boot = .resume ∧ s.sys.fw.kernel = true)
    (fun s =>
      let e := startSegments (startSettings (settingsKey (firstSteps s)))
      { e with sys := { e.sys with fw := { e.sys.fw with boot := .kernel } } }) ∧
  Does (fun t => .retainedWakeResume t false) (fun s => s.sys.fw.boot = .resume)
    (fun s => { s with sys := { s.sys with fw := { s.sys.fw with boot := .rom } } }) ∧
  Does (fun t => .resumeImageChecked t true) (fun s => s.sys.fw.boot = .kernel ∧ imageCheck s = 0)
    (fun s => beginService { s with sys := { s.sys with fw := { s.sys.fw with img := imageHeader s } } }) ∧
  Does (fun t => .resumeImageChecked t false) (fun s => s.sys.fw.boot = .kernel) (fun s => systemReset 0x0A s) ∧
  (∀ m, Does (fun t => .activationBodyLoaded t false) (fun s => s.sys.fw.act = some m ∧ s.sys.fw.paused = true) (fun s => systemReset 0x0A s)) ∧
  (∀ m, Does (fun t => .activationBodyLoaded t true) (fun s => s.sys.fw.act = some m ∧ s.sys.fw.paused = true)
    (fun s =>
      let a := closeOld (controlStarts { s with sys := { s.sys with fw := { s.sys.fw with
        img := imageHeader s, paused := false, act := none, settingsGood := false, migrating := false } } })
      let c := chooseCopy a
      let b := { a with sys := { a.sys with fw := { a.sys.fw with
        inForce := c, base := if a.sys.fw.commitPending then a.sys.fw.base else c.or a.sys.fw.inForce, commitPending := true, slotDirty := false } } }
      let d := fwEvent12 0x01 (releaseWord b) (finishDeferred m 0 [] b)
      match c with
      | some _ => settingsEstablished d
      | none => fwEvent12 0x03 (0xFFFFFFFF * 2 ^ 32 + releaseWord d) d)) ∧
  (∀ c, Does (fun t => .settingsMigrationComplete t true) (fun s => s.sys.fw.inForce = some c ∧ s.sys.fw.migrating = true)
    (fun s =>
      let a := copyBase c
      let n := (flashWord s (a + 12)).toNat / 4
      let head := ((flashWords s a 16).set 2 (packW [(8, dvHi s), (24, 0)])).set 4 (word (releaseWord s))
      let e := flashProgram (copyBase (targetCopy s)) (sealCopy s (newGen s) head (flashWords s (a + 64) (n - 16))) s
      let f := { e with sys := { e.sys with fw := { e.sys.fw with inForce := some (targetCopy s), migrating := false, settingsGood := true } } }
      fwEvent12 0x05 (releaseWord f) (fwEvent12 0x04 (releaseWord f) f))) ∧
  (∀ m d, Does (fun t => .flashWriteComplete t false) (fun s => jobOf s (fun op => op = 0x0D02 || op = 0x0D05) = some (m, d))
    (fun s => finishDeferred m 3 [packW [(16, 0), (16, 0)]] s)) ∧
  (∀ m d, d.opcode = 0x0D02 → Does (fun t => .flashWriteComplete t true) (fun s => jobOf s (fun op => op = 0x0D02 || op = 0x0D05) = some (m, d))
    (fun s => finishDeferred m 0 [word (rw d.progress 1).toNat]
      (flashProgram (rw d.progress 0).toNat (((d.progress.drop 2).flatMap leBytes).take (rw d.progress 1).toNat) s))) ∧
  (∀ m d, d.opcode = 0x0D04 → Does (fun t => .fuseWriteComplete t true)
    (fun s => jobOf s (fun op => op = 0x0C03 || op = 0x0D04 || op = 0x0D07) = some (m, d))
    (fun s => finishDeferred m 0 [word (rw d.progress 0).toNat] (fwEvent12 0x06 (releaseWord s)
      { s with sys := { s.sys with fw := { s.sys.fw with floor := (rw d.progress 0).toNat, commitPending := false, base := none } } }))) ∧
  (∀ m d, d.opcode = 0x0C03 → Does (fun t => .fuseWriteComplete t true)
    (fun s => jobOf s (fun op => op = 0x0C03 || op = 0x0D04 || op = 0x0D07) = some (m, d))
    (fun s => finishDeferred m 0 [word (rw d.progress 0).toNat]
      { s with pair := { s.pair with bound := some (flag d.args 0 0, cat64 (rw d.args 1) (rw d.args 2)), binds := (rw d.progress 0).toNat } })) ∧
  (∀ m d, d.opcode = 0x0D07 → Does (fun t => .fuseWriteComplete t true)
    (fun s => jobOf s (fun op => op = 0x0C03 || op = 0x0D04 || op = 0x0D07) = some (m, d))
    (fun s => finishDeferred m 0 [] (lifecycleTo (rw d.progress 0).toNat s))) ∧
  (∀ n result distance m b, Does (fun t => .cableDiagComplete t n result distance)
    (fun s => (portOf s n).cable = true ∧ s.mbx.box.find? (fun e => match e.2.deferred with | some d => d.opcode = 0x0E03 && fld d.args 0 4 0 = n | none => false)
      = some (m, b))
    (fun s =>
      let e := finishDeferred m 0 [word (result % 4), word (if result % 4 = 0 then 0 else distance)] s
      tryUp n (setPort n { portOf e n with cable := false } e)))

/-- What memory errors, their repair, and the JTAG port do (R32, R410, R440, R543, R597, R652, R653, R656, R657, R658). -/
def Obligations.MemoryErrorsAndTestAccessTakeEffect : Prop :=
  (∀ r off x, r < 7 → Does (fun t => .eccErrorDetected t r off false x) (fun _ => True)
    (fun s => systemEventD 14 1 (pack [(4, r), (28, 0), (32, off)]) { s with sys := { s.sys with test := { s.sys.test with
      ecc := tset (0, 0) s.sys.test.ecc r (satAdd 32 (tget (0, 0) s.sys.test.ecc r).1 1, (tget (0, 0) s.sys.test.ecc r).2) } } })) ∧
  (∀ r off x, r < 7 → Does (fun t => .eccErrorDetected t r off true x) (fun _ => True)
    (fun s => uncorrectable r off x (systemEventD 14 2 (pack [(4, r), (28, 0), (32, off)]) { s with sys := { s.sys with test := { s.sys.test with
      ecc := tset (0, 0) s.sys.test.ecc r ((tget (0, 0) s.sys.test.ecc r).1, satAdd 32 (tget (0, 0) s.sys.test.ecc r).2 1) } } }))) ∧
  (∀ s off f, uncorrectable 0 off (.cell f) s =
    let e := modFrame f (fun v => { v with bad := true }) { s with buf := { s.buf with withdrawn := s.buf.withdrawn + 1 } }
    bufNote (e.egress.foldl (fun e x => match x.2.sending with
      | some y => if y.rep.frame = f && f ≠ 0 then onLine x.1 (.cut e.time.now x.1) (countDrop x.1 0x17 e) else e
      | none => e) e)) ∧
  (∀ s off i, i ∉ s.fw.bad → uncorrectable 1 off (.fwRule i) s = fwEvent 8 0 { s with fw := { s.fw with bad := s.fw.bad ++ [i] } }) ∧
  (∀ s off p, uncorrectable 1 off (.gateList p) s = setEgress p { egressOf s p with gates := { (egressOf s p).gates with ecc := true } } s) ∧
  (∀ s off k, macType (macGet s k) = 1 → uncorrectable 1 off (.macEntry k) s = macSet k [] s) ∧
  (∀ s off k, uncorrectable 1 off (.tracker k) s = fwEvent 8 0 (setTracker k [] s)) ∧
  (∀ s off m, uncorrectable 1 off (.meter m) s = setMeter m { meterOf s m with
      tc := (rw (meterOf s m).rec0 2).toNat * 16777216, tp := (rw (meterOf s m).rec0 4).toNat * 16777216 } s) ∧
  (∀ s off i, uncorrectable 1 off (.recovery i) s =
    setRcv i { rcvOf s i with takeAny := true, hist := 0, passedP := 0, dupD := 0, resetAt := s.time.now, testAt := s.time.now } s) ∧
  (∀ s off i, uncorrectable 1 off (.generation i) s = setGen i { genOf s i with seq := fld (genOf s i).rec0 0 15 0 } s) ∧
  (∀ s off n r, n < s.cs.next → recordAt s (s.cs.runs.headD 0 + n) = some r → uncorrectable 2 off (.traceRecord n) s = sheetEvent 0x03 { s with cs := { s.cs with
      trace := s.cs.trace.set (s.cs.next - 1 - n) { r with kind := 1, payload := pack64 [(2, 1), (30, 0), (32, 1)] } } }) ∧
  (∀ s off x, off < 2097152 → s.sys.fw.paused = false → s.sys.fw.slotDirty = false → uncorrectable 3 off x s = takeover 2 s) ∧
  (∀ s off m, 2097152 ≤ off → m ∉ s.sys.test.badRing → uncorrectable 3 off (.requestRing m) s =
    { s with sys := { s.sys with test := { s.sys.test with badRing := s.sys.test.badRing ++ [m] } } }) ∧
  (∀ s off x w, s.dark.cur = some w → uncorrectable 4 off x s =
    nextWindow (setDarkSlot w.slot {} { s with dark := { s.dark with cur := none } })) ∧
  (∀ s off m, s.mbx.saved = none → uncorrectable 5 off (.journal m) s = systemEventD 10 0x03 m (setBox m { boxOf s m with
      state := 0, ack := 0, statuses := [], deferred := none, journalLost := true, lostTold := true, restage := [] } s)) ∧
  (∀ s off i, uncorrectable 6 off (.sa i) s =
    cipherEvent 13 0 (setSa i { saOf s i with rec0 := (saOf s i).rec0.set 0 (putBits (rw (saOf s i).rec0 0) 31 31 0), key := none } s)) ∧
  (∀ i, Does (fun t => .lookupEntryRewrite t (.fwRule i)) (fun _ => True)
    (fun s => { fwNote id s with fw := { (fwNote id s).fw with bad := (fwNote id s).fw.bad.filter (· ≠ i) } })) ∧
  (∀ p, Does (fun t => .lookupEntryRewrite t (.gateList p)) (fun _ => True)
    (fun s => setEgress p { egressOf s p with gates := { (egressOf s p).gates with ecc := false } } s)) ∧
  (∀ j, DoesAlways (fun t => .jtagInstruction t j) (fun s => s.sys.pow.power ≠ .standby ∧ tapServes s j = false)
    (fun s => { s with sys := { s.sys with test := { s.sys.test with tap := some .bypass, tapReg := some 0 } } })) ∧
  (∀ j, holdsReset j = false → DoesAlways (fun t => .jtagInstruction t j) (fun s => s.sys.pow.power ≠ .standby ∧ s.sys.fw.lifecycle = 0)
    (fun s => { s with sys := { s.sys with test := { s.sys.test with tap := some j, tapReg := tapRegOf j } } })) ∧
  (∀ j, holdsReset j = true → DoesAlways (fun t => .jtagInstruction t j)
    (fun s => s.sys.pow.power ≠ .standby ∧ s.sys.fw.lifecycle = 0 ∧ s.sys.pow.scan = false)
    (fun s => systemReset ((Config.free s.fresh).toNat % 32)
      { s with fresh := s.fresh + 1, sys := { s.sys with test := { s.sys.test with tap := some j, tapReg := tapRegOf j }, pow := { s.sys.pow with scan := true } } })) ∧
  DoesAlways .jtagTestLogicReset (fun s => s.sys.pow.scan = false)
    (fun s => { s with sys := { s.sys with test := { s.sys.test with tap := none, tapReg := none } } }) ∧
  DoesAlways .jtagTestLogicReset (fun s => s.sys.pow.scan = true)
    (fun s => releaseReset { s with sys := { s.sys with test := { s.sys.test with tap := none, tapReg := none }, pow := { s.sys.pow with scan := false } } }) ∧
  Does .jtagVerifyComplete (fun s => s.sys.test.verify = true ∧ s.sys.test.verifyGo.map (·.1) ≠ some s.time.now ∧ unlocks s = true ∧ regBit s rJTAG_CTRL 31 = true)
    (fun s => regPut rJTAG_CTRL 31 31 1 (drawChallenge { s with sys := { s.sys with test := { s.sys.test with verify := false, verifyGo := none } } })) ∧
  Does .jtagVerifyComplete (fun s => s.sys.test.verify = true ∧ s.sys.test.verifyGo.map (·.1) ≠ some s.time.now ∧ unlocks s = true ∧ regBit s rJTAG_CTRL 31 = false)
    (fun s => cipherAlarm .debug (regPut rJTAG_CTRL 31 31 1 (drawChallenge { s with sys := { s.sys with test := { s.sys.test with verify := false, verifyGo := none } } }))) ∧
  Does .jtagVerifyComplete (fun s => s.sys.test.verify = true ∧ s.sys.test.verifyGo.map (·.1) ≠ some s.time.now ∧ unlocks s = false)
    (fun s =>
      let n := min 3 (regFld s rJTAG_CTRL 29 28 + 1)
      regPut rJTAG_CTRL 30 30 (if n = 3 then 1 else regFld s rJTAG_CTRL 30 30) (regPut rJTAG_CTRL 29 28 n
        (drawChallenge { s with sys := { s.sys with test := { s.sys.test with verify := false, verifyGo := none } } })))

/-- What reads, writes and atomics on the PCIe link do (R471, R473, R475, R476, R477, R481, R483, R503). -/
def Obligations.PcieTransactionsTakeEffect : Prop :=
  (∀ off n, Does (fun t => .pcieRead t 0 off n)
    (fun s => s.bridge.pci.d3 = false ∧ readWaits s .pcie false off n s.time.now s.bridge.issued = false ∧ (readWords s .pcie false off n).1 ≠ 2)
    (fun s => complete (readWords s .pcie false off n).1 (readWords s .pcie false off n).2 s)) ∧
  (∀ off n, Does (fun t => .pcieRead t 2 off n)
    (fun s => s.bridge.pci.d3 = false ∧ readWaits s .pcie true off n s.time.now s.bridge.issued = false ∧ (readWords s .pcie true off n).1 ≠ 2)
    (fun s => complete (readWords s .pcie true off n).1 (readWords s .pcie true off n).2 s)) ∧
  (∀ off n, Does (fun t => .pcieRead t 2 off n)
    (fun s => s.bridge.up = true ∧ s.bridge.pci.d3 = false ∧
      (readWaits s .pcie true off n s.time.now s.bridge.issued = true ∨ (readWords s .pcie true off n).1 = 2))
    (fun s => giveWayTo (s.time.now + 20000) .readsEnd
      { s with bridge := { s.bridge with reads := s.bridge.reads ++ [⟨s.time.now, false, true, off, n, s.bridge.issued⟩], issued := s.bridge.issued + 1 } })) ∧
  (∀ s, runLate .readsEnd s = waitsExpire s) ∧
  (∀ w s, s.bridge.reads = [w] → w.spi = false → w.since + 20000 ≤ s.time.now →
    readsExpire s = complete 2 [] { s with bridge := { s.bridge with reads := [] } }) ∧
  (∀ off n, Does (fun t => .pcieRead t 0 off n) (fun s => s.bridge.up = true ∧ s.bridge.pci.d3 = true) (fun s => complete 1 [] s)) ∧
  (∀ r off v, Does (fun t => .pcieWrite t r 0 off [(v, 15)]) (fun s => s.bridge.up = true ∧ s.bridge.pci.d3 = false)
    (fun s => { s with bridge := { s.bridge with
      carry0 := s.bridge.carry0 ++ [{ arrival := s.time.now, bar2 := false, off := off, data := [v], sizeBad := false, tag := r % 65536, no := s.bridge.issued }]
      issued := s.bridge.issued + 1 } })) ∧
  (∀ r off data, data ≠ [] → Does (fun t => .pcieWrite t r 2 off data) (fun s => s.bridge.up = true ∧ s.bridge.pci.d3 = false)
    (fun s => { s with bridge := { s.bridge with
      carry0 := s.bridge.carry0 ++ [{ arrival := s.time.now, bar2 := true, off := off, data := data.map (·.1),
                                      sizeBad := data.any (fun e => e.2 % 16 ≠ 15), tag := r % 65536, no := s.bridge.issued }]
      issued := s.bridge.issued + 1 } })) ∧
  (∀ a op off x y old w e, Does (fun t => .pcieAtomic t op false 0 off x y)
    (fun s => s.bridge.up = true ∧ s.bridge.pci.d3 = false ∧ s.bridge.waiting = [] ∧
      atomicWaits s false false off s.time.now s.bridge.issued = false ∧ off % 4 = 0 ∧ busRead s .pcie off = some a ∧
      atomicTarget s false off = true ∧ regRead s off = old ∧ word (atomicResult op 32 old.toNat x y) = w ∧ regWrite .pcie off w s = .ok e)
    (fun s =>
      let u := writeRecord .pcie false off w e
      complete 0 [old] (match freeSem u with
        | some i => setSem i (some ⟨.pcie, false, false, off / 64 % 2 ^ 18, s.time.now⟩) u
        | none => u))) ∧
  (∀ op off x y, Does (fun t => .pcieAtomic t op false 2 off x y)
    (fun s => s.bridge.up = true ∧ s.bridge.pci.d3 = false ∧ s.bridge.waiting = [] ∧
      atomicWaits s false true off s.time.now s.bridge.issued = false ∧ off % 4 = 0 ∧ bar2Mapped off = true ∧
      atomicTarget s true off = true ∧ s.sys.test.badMem.contains (off / 4) = false)
    (fun s =>
      let u := bar2Store off [word (atomicResult op 32 (memWord s off).toNat x y)] s
      complete 0 [memWord s off] (match freeSem u with
        | some i => setSem i (some ⟨.pcie, false, true, off / 64 % 2 ^ 18, s.time.now⟩) u
        | none => u))) ∧
  (∀ op off x y, Does (fun t => .pcieAtomic t op false 0 off x y)
    (fun s => s.bridge.up = true ∧ s.bridge.pci.d3 = false ∧ s.bridge.waiting = [] ∧
      atomicWaits s false false off s.time.now s.bridge.issued = false ∧ busRead s .pcie off = none) (fun s => complete 1 [] s)) ∧
  (∀ op off x y, Does (fun t => .pcieAtomic t op false 2 off x y)
    (fun s => s.bridge.up = true ∧ s.bridge.pci.d3 = false ∧ s.bridge.waiting = [] ∧
      atomicWaits s false true off s.time.now s.bridge.issued = false ∧ bar2Mapped off = true ∧ atomicTarget s true off = false)
    (fun s => complete 2 [] s)) ∧
  (∀ op wide off x y, Does (fun t => .pcieAtomic t op wide 2 off x y) 
    (fun s => s.bridge.up = true ∧ s.bridge.pci.d3 = false ∧ atomicWaits s wide true off s.time.now s.bridge.issued = true)
    (fun s => { s with bridge := { s.bridge with
      waiting := s.bridge.waiting ++ [⟨s.time.now, op, wide, true, off, x, y, s.bridge.issued⟩]
      issued := s.bridge.issued + 1 } })) ∧
  (∀ w, Does .atomicSemaphoreTimeout (fun s => s.bridge.waiting = [w] ∧ w.since + 20000 ≤ s.time.now)
    (fun s => bridgeFreed (complete 2 [] { s with bridge := { s.bridge with waiting := [] } }))) ∧
  Does (fun t => .proofFenceRead t .pcie)
    (fun s => s.bridge.pci.d3 = false ∧ readWaits s .pcie false (rPROOF 0) 1 s.time.now s.bridge.issued = false ∧ (readWords s .pcie false (rPROOF 0) 1).1 ≠ 2)
    (fun s => complete (readWords s .pcie false (rPROOF 0) 1).1 (readWords s .pcie false (rPROOF 0) 1).2 s) ∧
  (∀ s c, c ∈ s.bridge.carry0 → c.no < s.bridge.issued → readWaits s .pcie false (rPROOF 0) 1 s.time.now s.bridge.issued = true) ∧
  Does (fun t => .proofFenceRead t .spi)
    (fun s => regBit s rBRG_CTRL 25 = false ∧ readWaits s .spi false (rPROOF 1) 1 s.time.now s.bridge.issued = false ∧ (readWords s .spi false (rPROOF 1) 1).1 ≠ 2)
    (fun s => spiServes (readWords s .spi false (rPROOF 1) 1) 1 s)

/-- How a carried write takes effect, fails, or times out (R475, R476, R477, R478, R479, R480). -/
def Obligations.CarriedWritesEnd : Prop :=
  (∀ o c r, Does (fun t => .writeCarriageEnd t o false) (fun s => carried s o = c :: r ∧ writeWaits s o c = false ∧ s.time.now ≤ c.arrival + 20000)
    (fun s => bridgeFreed (landWrite o c (setCarried o r s)))) ∧
  (∀ o c r, Does (fun t => .writeCarriageEnd t o true) (fun s => carried s o = c :: r ∧ writeWaits s o c = false ∧ s.time.now ≤ c.arrival + 20000)
    (fun s => bridgeFreed (writeFails o c c.off (rw c.data 0) 7 (setCarried o r s)))) ∧
  (∀ o e c r, Does (fun t => .writeCarriageEnd t o e) (fun s => carried s o = c :: r ∧ writeWaits s o c = false ∧ c.arrival + 20000 < s.time.now)
    (fun s => bridgeFreed (writeTooLate o c (setCarried o r s)))) ∧
  (∀ o c r, Does (fun t => .writeTimeout t o) (fun s => carried s o = c :: r ∧ c.arrival + 20000 ≤ s.time.now ∧ (freeVal s).1.getLsbD 0 = true)
    (fun s => bridgeFreed (writeFails o c c.off (rw c.data 0) 6 (maybeLands o c (freeVal (setCarried o r s)).2)))) ∧
  (∀ o c r, Does (fun t => .writeTimeout t o) (fun s => carried s o = c :: r ∧ c.arrival + 20000 ≤ s.time.now ∧ (freeVal s).1.getLsbD 0 = false)
    (fun s => bridgeFreed (writeFails o c c.off (rw c.data 0) 6 (freeVal (setCarried o r s)).2))) ∧
  (∀ o off v tag now s e, regWrite o off v s = .ok e →
    landWrite o { arrival := now, bar2 := false, off := off, data := [v], tag := tag } s = writeRecord o false off v e) ∧
  (∀ o off v tag now s c, regWrite o off v s = .error c →
    landWrite o { arrival := now, bar2 := false, off := off, data := [v], tag := tag } s =
      writeFails o { arrival := now, bar2 := false, off := off, data := [v], tag := tag } off v c s) ∧
  (∀ o off ws tag now s, off % 4 = 0 → (∀ i, i < ws.length → bar2Refuses s o (off + 4 * i) = none) →
    landWrite o { arrival := now, bar2 := true, off := off, data := ws, tag := tag } s = bar2Store off ws s) ∧
  (∀ o off ws tag now s i c, i < ws.length → bar2Refuses s o (off + 4 * i) = some c → (∀ j, j < i → bar2Refuses s o (off + 4 * j) = none) →
    landWrite o { arrival := now, bar2 := true, off := off, data := ws, tag := tag } s =
      writeFails o { arrival := now, bar2 := true, off := off, data := ws, tag := tag } (off + 4 * i) (rw ws i) c s)

/-- What frames on the SPI port do (R63, R358, R476, R482, R484, R495, R496, R502). -/
def Obligations.SpiFramesAreAnswered : Prop :=
  (∀ b, spiHeader b = none → Does (fun t => .spiReadFrame t b) (fun _ => True) (fun s => emit (.spi s.time.now (some [0xFF])) s) ∧
    Does (fun t => .spiWriteFrame t b) (fun _ => True) (fun s => emit (.spi s.time.now (some [0xFF])) s) ∧
    Does (fun t => .spiLock t b) (fun _ => True) (fun s => emit (.spi s.time.now (some [0xFF])) s) ∧
    Does (fun t => .spiUnlock t b) (fun _ => True) (fun s => emit (.spi s.time.now (some [0xFF])) s)) ∧
  (∀ b n addr ws, spiHeader b = some (0, n, addr) → spiAlign addr = false → Does (fun t => .spiReadFrame t b)
    (fun s => readWaits s .spi (spiBar2 addr) (spiOff addr) n s.time.now s.bridge.issued = false ∧ regBit s rBRG_CTRL 25 = false ∧ readWords s .spi (spiBar2 addr) (spiOff addr) n = (0, ws))
    (fun s => miso (spiReadBytes 0 ws) s)) ∧
  (∀ b n addr, spiHeader b = some (0, n, addr) → spiAlign addr = false → Does (fun t => .spiReadFrame t b)
    (fun s => regBit s rBRG_CTRL 25 = false ∧
      (readWaits s .spi (spiBar2 addr) (spiOff addr) n s.time.now s.bridge.issued = true ∨ (readWords s .spi (spiBar2 addr) (spiOff addr) n).1 = 2))
    (fun s => giveWayTo (s.time.now + 20000) .readsEnd { s with bridge := { s.bridge with
      reads := s.bridge.reads ++ [⟨s.time.now, true, spiBar2 addr, spiOff addr, n, s.bridge.issued⟩]
      issued := s.bridge.issued + 1 } })) ∧
  (∀ b n addr c ws, spiHeader b = some (0, n, addr) → spiAlign addr = false → c ≠ 0 → c ≠ 2 → Does (fun t => .spiReadFrame t b)
    (fun s => readWaits s .spi (spiBar2 addr) (spiOff addr) n s.time.now s.bridge.issued = false ∧ regBit s rBRG_CTRL 25 = false ∧ readWords s .spi (spiBar2 addr) (spiOff addr) n = (c, ws))
    (fun s => miso (spiReadBytes (if c = 1 then 4 else 5) (List.replicate n 0)) s)) ∧
  (∀ b n addr, spiHeader b = some (1, n, addr) → spiAlign addr = false → 7 + 4 * n ≤ b.length → spiCrc ((b.drop 6).take (4 * n)) = byteAt b (6 + 4 * n) →
    Does (fun t => .spiWriteFrame t b) (fun s => regBit (count rSPI_CNT 31 0 (spiLockExpires s)) rBRG_CTRL 25 = false ∧ (count rSPI_CNT 31 0 (spiLockExpires s)).bridge.lockLost = false)
      (fun s =>
        let e := (count rSPI_CNT 31 0 (spiLockExpires s))
        spiAnswer 0 (carryOn .spi ((bytesRec ((b.drop 6).take (4 * n))).zipIdx.map (fun x =>
          { arrival := e.time.now, bar2 := spiBar2 addr, off := spiOff addr + 4 * x.2, data := [x.1], tag := tagOf e .spi })) e))) ∧
  (∀ b n addr, spiHeader b = some (1, n, addr) → spiAlign addr = false → 7 + 4 * n ≤ b.length → spiCrc ((b.drop 6).take (4 * n)) ≠ byteAt b (6 + 4 * n) →
    Does (fun t => .spiWriteFrame t b) (fun s => regBit (count rSPI_CNT 31 0 (spiLockExpires s)) rBRG_CTRL 25 = false ∧ (count rSPI_CNT 31 0 (spiLockExpires s)).bridge.lockLost = false)
      (fun s => spiAnswer 2 (count rSPI_CNT 31 0 (spiLockExpires s)))) ∧
  (∀ b n addr, spiHeader b = some (2, n, addr) → spiAlign addr = false →
    Does (fun t => .spiLock t b) (fun s => regBit (count rSPI_CNT 31 0 (spiLockExpires s)) rBRG_CTRL 25 = false ∧ (count rSPI_CNT 31 0 (spiLockExpires s)).bridge.lockLost = false)
      (fun s => giveWay (.spiLock (spiBar2 addr) (spiOff addr)) (count rSPI_CNT 31 0 (spiLockExpires s)))) ∧
  (∀ bar2 off i s, freeSem s = some i → spiSem s = none → lineHeld s .spi bar2 off = false →
    (∀ w ∈ s.bridge.waiting, ¬ (w.since = s.time.now ∧ w.bar2 = bar2 ∧ w.off / 64 = off / 64)) →
    runLate (.spiLock bar2 off) s = spiAnswer 0 (setSem i (some ⟨.spi, true, bar2, off / 64, s.time.now⟩) s)) ∧
  (∀ bar2 off s, (freeSem s = none ∨ (spiSem s).isSome = true) → runLate (.spiLock bar2 off) s = spiAnswer 6 s) ∧
  (∀ bar2 off w s, w ∈ s.bridge.waiting → w.since = s.time.now → w.bar2 = bar2 → w.off / 64 = off / 64 → runLate (.spiLock bar2 off) s = spiAnswer 6 s) ∧
  (∀ b n addr i, spiHeader b = some (3, n, addr) → spiAlign addr = false →
    Does (fun t => .spiUnlock t b) (fun s => regBit (count rSPI_CNT 31 0 (spiLockExpires s)) rBRG_CTRL 25 = false ∧ (count rSPI_CNT 31 0 (spiLockExpires s)).bridge.lockLost = false ∧ spiSem (count rSPI_CNT 31 0 (spiLockExpires s)) = some i)
      (fun s => bridgeFreed (spiAnswer 0 (setSem i none (count rSPI_CNT 31 0 (spiLockExpires s)))))) ∧
  (∀ b n addr, spiHeader b = some (1, n, addr) → 7 + 4 * n ≤ b.length →
    Does (fun t => .spiWriteFrame t b) (fun s => regBit (count rSPI_CNT 31 0 (spiLockExpires s)) rBRG_CTRL 25 = true) (fun s => spiAnswer 8 (count rSPI_CNT 31 0 (spiLockExpires s)))) ∧
  (∀ i x, Does .spiLockTimeout (fun s => spiSem s = some i ∧ tget none s.bridge.sems i = some x ∧ x.since + 100000 ≤ s.time.now)
    (fun s => bridgeFreed (systemEvent 7 0x02 (setSem i none { s with bridge := { s.bridge with lockLost := true } })))) ∧
  (∀ b n addr, spiHeader b = some (2, n, addr) → Does (fun t => .spiLock t b)
    (fun s => regBit (count rSPI_CNT 31 0 (spiLockExpires s)) rBRG_CTRL 25 = false ∧ (count rSPI_CNT 31 0 (spiLockExpires s)).bridge.lockLost = true)
    (fun s => spiAnswer 7 (let e := (count rSPI_CNT 31 0 (spiLockExpires s)); { e with bridge := { e.bridge with lockLost := false } }))) ∧
  DoesAlways .spiChipSelectFall (fun s => s.nm.asleep.isSome = true) (fun s => qualify 31 s) ∧
  DoesAlways .spiChipSelectFall (fun s => s.nm.asleep = none ∧ coreOn s = true) (fun s => captureOn 1 s)

/-- What interrupts, mirrors, the host port, in-band frames and the PCIe link do (R480, R487, R488, R490, R491, R493, R494, R497, R498, R502, R633, R637). -/
def Obligations.InterruptsMirrorsAndLinkTakeEffect : Prop :=
  (∀ i, i < 52 → Does (fun t => .msixMessage t i)
    (fun s => hostLink s = true ∧ s.bridge.pci.msixOn = true ∧ regBit s (rSOURCE i 0) 26 = true ∧ sourcePending s i = true ∧ (intSource s i).armed = true ∧
      (intSource s i).last = none ∧ s.bridge.pci.fnMask = false ∧ bit (msixWord s (4 * regFld s (rSOURCE i 0) 25 21 + 3)) 0 = false)
    (fun s => emit (.msix s.time.now i (regFld s (rSOURCE i 0) 25 21))
      { s with bridge := { s.bridge with sources := tset {} s.bridge.sources i { intSource s i with armed := false, last := some s.time.now } } })) ∧
  (∀ i, i < 52 → Does (fun t => .msixMessage t i)
    (fun s => hostLink s = true ∧ s.bridge.pci.msixOn = true ∧ regBit s (rSOURCE i 0) 26 = true ∧ sourcePending s i = true ∧ (intSource s i).armed = true ∧
      (intSource s i).last = none ∧ (s.bridge.pci.fnMask = true ∨ bit (msixWord s (4 * regFld s (rSOURCE i 0) 25 21 + 3)) 0 = true))
    (fun s => { s with bridge := { s.bridge with
      sources := tset {} s.bridge.sources i { intSource s i with armed := false, last := some s.time.now }
      held := tset [] s.bridge.held (regFld s (rSOURCE i 0) 25 21) (tget [] s.bridge.held (regFld s (rSOURCE i 0) 25 21) ++ [i]) } })) ∧
  (∀ r, ringExists r = true → Does (fun t => .ringGapMarker t r) (fun _ => True) (fun s => ringCloseGap r s)) ∧
  (∀ i id e r n c, sourceRing i = some id → Does (fun t => .mirrorCopy t i)
    (fun s => (ringOf s id).ends = e :: r ∧ mirrored s i = true ∧ hostLink s = true ∧ n = ringDiff id e (ringOf s id).cons * ringSlotWords id ∧
      ((intSource s i).copied + 2 ^ 32 - (regGet s (rSOURCE i 0x14)).toNat) % 2 ^ 32 + 4 * n ≤ 2 ^ (12 + regFld s (rSOURCE i 0) 30 27) ∧
      c = ((intSource s i).copied + 4 * n) % 2 ^ 32)
    (fun s =>
      let s1 := mirrorWords (cat64 (regGet s (rSOURCE i 0x08)) (regGet s (rSOURCE i 0x04))) (2 ^ (12 + regFld s (rSOURCE i 0) 30 27)) (intSource s i).copied
        (ringWords s id (ringOf s id).cons n) s
      let s2 := emit (.dma s.time.now (cat64 (regGet s (rSOURCE i 0x10)) (regGet s (rSOURCE i 0x0C))) (leBytes (word c))) s1
      setSourceInt i { intSource s i with copied := c } (ringConsume id e s2))) ∧
  (∀ i, Does (fun t => .mirrorDmaFail t i) (fun s => mirrored s i = true) (fun s => systemEvent 7 0x03 (regTake (rSOURCE i 0) 31 0 s))) ∧
  (∀ d b, b.length = fld d 0 31 18 → txDescStatus d true = 0 → flag d 0 16 = false → flag d 0 17 = false → Does (fun t => .hpTxDescriptor t d b true)
    (fun s => hostLink s = true ∧ regBit s (rHP_TX 0x08) 31 = true ∧ s.bridge.txHead ≠ (regGet s (rHP_TX 0x0C)).toNat ∧ paceNext s 28 ≤ s.time.now)
    (fun s =>
      let s1 := injectFrame { port := 28, bytes := withFcs b, directed := none, launch := none } s
      let s2 := emit (.dma s.time.now (descBase s (rHP_TX 0x00) (rHP_TX 0x04) + 32 * s.bridge.txHead + 24)
        (List.flatMap leBytes [packW [(1, 1), (7, 0), (24, 0)], word s.time.now])) s1
      { s2 with bridge := { s2.bridge with txHead := (s.bridge.txHead + 1) % descCount s (rHP_TX 0x08), txDone := s2.bridge.txDone + 1 } })) ∧
  (∀ d b, fld d 0 15 0 ≠ 0 → Does (fun t => .hpTxDescriptor t d b true)
    (fun s => hostLink s = true ∧ regBit s (rHP_TX 0x08) 31 = true ∧ s.bridge.txHead ≠ (regGet s (rHP_TX 0x0C)).toNat ∧ paceNext s 28 ≤ s.time.now)
    (fun s =>
      let s2 := emit (.dma s.time.now (descBase s (rHP_TX 0x00) (rHP_TX 0x04) + 32 * s.bridge.txHead + 24)
        (List.flatMap leBytes [packW [(1, 1), (7, 4), (24, 0)], 0])) s
      { s2 with bridge := { s2.bridge with txHead := (s.bridge.txHead + 1) % descCount s (rHP_TX 0x08), txDone := s2.bridge.txDone + 1 } })) ∧
  (∀ d x f, Does (fun t => .hpRxFrameWrite t d true)
    (fun s => portUp s 28 = true ∧ s.bridge.pci.d3 = false ∧ s.bridge.rxHead ≠ (regGet s (rHP_RX 0x0C)).toNat ∧ (egressOf (txStart 28 s) 28).sending = some x ∧
      frameOf s x.rep.frame = some f ∧ f.handle = none ∧ (repBytes s 28 x.rep).length ≤ fld d 0 31 18)
    (fun s =>
      let b := repBytes s 28 x.rep
      let a := descBase s (rHP_RX 0x00) (rHP_RX 0x04) + 32 * s.bridge.rxHead
      let s2 := emit (.dma s.time.now (cat64 (rw d 4) (rw d 5)) b) (txStart 28 s)
      let s3 := emit (.dma s.time.now (a + 4) (List.flatMap leBytes ([0] ++ split64 (stampNs f.stamp)))) s2
      let s4 := emit (.dma s.time.now (a + 24) (leBytes (packW [(1, 1), (7, 0), (5, x.rep.inPort), (3, x.cls), (2, 0), (14, b.length)]))) s3
      txEnd 28 { s4 with bridge := { s4.bridge with rxHead := (s.bridge.rxHead + 1) % descCount s (rHP_RX 0x08), rxDone := s4.bridge.rxDone + 1 } })) ∧
  (∀ b, beAt b 12 2 = 0x88B6 → Does (fun t => .inbandFrameRx t b)
    (fun s =>
      let m := beAt b 14 4 / 2 ^ 21 % 8
      let len := beAt b 14 4 % 65536
      let fresh := beAt b 18 4 * 2 ^ 32 + beAt b 22 4
      inbandOn s m = true ∧ beAt b 14 4 / 2 ^ 24 = 1 ∧ beAt b 14 4 / 2 ^ 16 % 32 = 0 ∧ beAt b 26 4 = 0 ∧ 16 ≤ len ∧ len ≤ 1400 ∧ len % 4 = 0 ∧ b.length = 46 + len ∧
      (inbandMac m ((b.drop 14).take (16 + len)) s).1 = some (b.drop (30 + len)) ∧ (tget {} s.bridge.inband m).rxFresh < fresh ∧
      len / 4 ≤ ringFree (inbandMac m ((b.drop 14).take (16 + len)) s).2 (.req m) ∧ (inbandMac m ((b.drop 14).take (16 + len)) s).2.bridge.ringWaits = [] ∧
      (inbandMac m ((b.drop 14).take (16 + len)) s).2.bridge.sems = [])
    (fun s =>
      let m := beAt b 14 4 / 2 ^ 21 % 8
      let len := beAt b 14 4 % 65536
      let s0 := (inbandMac m ((b.drop 14).take (16 + len)) s).2
      let s1 := ringLand (.req m) (bytesRec ((b.drop 30).take len)) s0
      let x : Inband := { tget {} s.bridge.inband m with rxFresh := beAt b 18 4 * 2 ^ 32 + beAt b 22 4, replySa := beAt b 6 6, replyVid := deliveredVid s0 }
      { s1 with bridge := { s1.bridge with inband := tset {} s1.bridge.inband m x } })) ∧
  (∀ b, beAt b 12 2 = 0x88B6 → Does (fun t => .inbandFrameRx t b)
    (fun s =>
      let m := beAt b 14 4 / 2 ^ 21 % 8
      let len := beAt b 14 4 % 65536
      inbandOn s m = true ∧ beAt b 14 4 / 2 ^ 24 = 1 ∧ beAt b 14 4 / 2 ^ 16 % 32 = 0 ∧ beAt b 26 4 = 0 ∧ 16 ≤ len ∧ len ≤ 1400 ∧ len % 4 = 0 ∧ b.length = 46 + len ∧
      (inbandMac m ((b.drop 14).take (16 + len)) s).1 ≠ some (b.drop (30 + len)))
    (fun s => systemEvent 7 0x04 (count rIB_ERR 31 24 (inbandMac (beAt b 14 4 / 2 ^ 21 % 8) ((b.drop 14).take (16 + beAt b 14 4 % 65536)) s).2))) ∧
  (∀ r w, 1 ≤ r → r ≤ 4 → 1 ≤ w → w ≤ 2 → Does (fun t => .pcieLinkUp t r w) (fun s => s.sys.pow.pcieRef = true)
    (fun s => { s with bridge := { s.bridge with up := true, rate := r, width := w } })) ∧
  (∀ d, Does (fun t => .pcieFunctionReset t d) (fun _ => True) (functionReset d)) ∧
  Does .pcieReferenceLost (fun s => s.sys.pow.pcieRef = true)
    (fun s => systemEvent 15 0x09 (functionReset true { s with sys := { s.sys with pow := { s.sys.pow with pcieRef := false } } })) ∧
  Does .pcieReferenceReturn (fun s => s.sys.pow.pcieRef = false)
    (fun s => systemEvent 15 0x09 { s with sys := { s.sys with pow := { s.sys.pow with pcieRef := true } } })

/-- What writes of time, pin, standby, reset, debug and lock registers do (R63, R67, R72, R297, R363, R384, R476, R506, R509, R510, R639, R658). -/
def Obligations.RegisterWritesStartTheirCommands : Prop :=
  Writes rCAP_CTRL .timeCapGo (fun _ _ w _ => bit w 0 = true ∧ bits w 2 1 ≠ 3) (fun _ => startCapture) ∧
  (∀ n, n < 32 → Writes (rTIO n 0) (fun t => .tioArm t n)
    (fun _ _ w s => bit w 26 = true ∧ bit w 25 = false ∧ bits w 31 29 = cfgMode s n) (fun _ => armPin n)) ∧
  (∀ n, n < 32 → Writes (rTIO n 0) (fun t => .tioDisarm t n)
    (fun _ _ w s => bit w 25 = true ∧ bit w 26 = false ∧ bits w 31 29 = cfgMode s n) (fun _ => disarmPin n)) ∧
  (∀ n m, n < 32 → Writes (rTIO n 0) (fun t => .tioModeWrite t n) (fun _ _ w s => bit w 25 = false ∧ bit w 26 = false ∧ cfgMode s n = m)
    (fun _ => modeWritten n m)) ∧
  Writes (rCROCUS 0) .crocusGo (fun _ _ w _ => bit w 29 = true ∧ bit w 28 = false)
    (fun w s => { s with nm := { s.nm with
      entry := some { level := bits w 31 30, go := true }
      entryWas := s.nm.entry.map (fun e => (s.time.now, e))
      wakes := if s.nm.entry.isSome = true then s.nm.wakes else [] } }) ∧
  Writes (rCROCUS 0) .crocusIgnHint (fun _ _ w _ => bit w 28 = true ∧ bit w 29 = false) (fun _ => giveHint) ∧
  Writes rRST_CTRL .sysGo (fun _ v w s => bits v 31 16 = 0xA5C3 ∧ bit w 1 = true ∧ (bit w 0 = true → s.sys.fw.slotDirty = false))
    (fun _ s => { s with sys := { s.sys with pow := { s.sys.pow with
      sysGo := some (s.time.now + 1000), sysWas := s.sys.pow.sysGo.map (fun d => (s.time.now, d)) } } }) ∧
  Writes rRST_CTRL .ctrlGo (fun _ v w s => bits v 31 16 = 0xA5C3 ∧ bit w 1 = false ∧ bit w 0 = true ∧ s.sys.fw.slotDirty = false) (fun _ => controlReset) ∧
  Writes rJTAG_CTRL .jtagUnlockGo (fun _ _ w _ => bit w 0 = true) (fun _ => jtagGo) ∧
  Writes rREG_LOCK .sysRegLockWrite (fun _ _ _ _ => True) (fun _ s => s) ∧
  Writes rFW_STAT .bypassLockSet (fun _ _ w s => bit w 31 = true ∧ regBit s rFW_STAT 31 = false) (fun _ => endAllBypass) ∧
  Writes rFW_STAT .bypassLockSet (fun _ _ w s => bit w 31 = regBit s rFW_STAT 31) (fun _ s => s) ∧
  Writes rBRG_CTRL .spiLockSet (fun _ _ _ _ => True) (fun _ s => s) ∧
  Writes rBRG_CTRL .ibLockSet (fun _ _ _ _ => True) (fun _ s => s) ∧
  (∀ o off v reg a fs, aliasOf off = (reg, a) → regFields reg = some fs → a = .direct ∨ noAlias reg = false → off % 4 = 0 → off < 0x90000 →
    ¬ (blkBRG + 0x800 ≤ reg ∧ reg < blkBRG + 0x1000) → (∃ f, f ∈ fs ∧ f.acc ≠ .ro) → Does (fun t => .registerWrite t o off v)
      (fun s => Free o off s ∧ regRefuses s o reg (newValue reg a v s) v = none)
      (fun s => writeRecord o false off v (regActs s reg (regGet s reg) (newValue reg a v s) (stored reg a v s)))) ∧
  (∀ o off v reg a fs c, aliasOf off = (reg, a) → regFields reg = some fs → a = .direct ∨ noAlias reg = false → off % 4 = 0 → off < 0x90000 →
    ¬ (blkBRG + 0x800 ≤ reg ∧ reg < blkBRG + 0x1000) → (∃ f, f ∈ fs ∧ f.acc ≠ .ro) → Does (fun t => .registerWrite t o off v)
      (fun s => Free o off s ∧ regRefuses s o reg (newValue reg a v s) v = some c)
      (fun s => writeFails o (hostCarried o off v s) off v c s)) ∧
  (∀ o off v reg a fs, aliasOf off = (reg, a) → regFields reg = some fs → a = .direct ∨ noAlias reg = false → off % 4 = 0 → off < 0x90000 →
    ¬ (blkBRG + 0x800 ≤ reg ∧ reg < blkBRG + 0x1000) → (∀ f, f ∈ fs → f.acc = .ro) → Does (fun t => .registerWrite t o off v)
      (fun s => Free o off s)
      (fun s => writeFails o (hostCarried o off v s) off v 3 s))

/-- What writes of ring, source, mailbox and host-port registers do (R476, R486, R488, R490, R498, R519, R525, R544). -/
def Obligations.RingRegisterWritesTakeEffect : Prop :=
  (∀ m, m < 8 → Writes (rMBX m 0x04) (fun t => .mbxDoorbell t m)
    (fun o _ w s => (inbandOn s m = true → o = .inband) ∧ doorbellRefuses s m (bits w 28 16) = false ∧ bits w 28 16 ≠ (ringOf s (.req m)).prod)
    (fun w s =>
      let r := ringOf s (.req m)
      setRing (.req m) { r with prod := bits w 28 16, ends := r.ends ++ [bits w 28 16], landed := some (s.time.now, ringShown s (.req m)) } s)) ∧
  (∀ m, m < 8 → Writes (rMBX m 0x00) (fun t => .mbxRingReset t m) (fun _ _ w _ => bit w 31 = true) (fun _ => ringReset m)) ∧
  (∀ m, m < 8 → Writes (rMBX m 0x08) (fun t => .mbxRspConsWrite t m)
    (fun _ _ w s => mirrored s m = false ∧ consOk s (.rsp m) (bits w 12 0) = true)
    (fun w s => armSource m (ringConsume (.rsp m) (bits w 12 0) s))) ∧
  (∀ e, e < 8 → Writes (rEVQ e 0x00) (fun t => .evqConsWrite t e)
    (fun _ _ w s => mirrored s (8 + e) = false ∧ consOk s (.evq e) (bits w 8 0) = true)
    (fun w s => armSource (8 + e) (ringConsume (.evq e) (bits w 8 0) s))) ∧
  (∀ i id, 16 ≤ i → i < 49 → sourceRing i = some id → Writes (rSOURCE i 0x1C) (fun t => .ringPtrConsWrite t i)
    (fun _ _ w s => mirrored s i = false ∧ consOk s id (bits w 15 0 % ringMod id) = true)
    (fun w s => armSource i (uncountRescue id s (ringConsume id (bits w 15 0 % ringMod id) s)))) ∧
  Writes rPROOF_PTR .proofPtrConsWrite (fun _ _ w s => consOk s .proof (bits w 6 0) = true)
    (fun w s => armSource 51 (ringConsume .proof (bits w 6 0) s)) ∧
  (∀ i, i < 49 → Writes (rSOURCE i 0x14) (fun t => .mirConsWrite t i) (fun _ _ _ _ => True) (fun _ => armSource i)) ∧
  (∀ i, 49 ≤ i → i < 52 → Writes (rSOURCE i 0x14) (fun t => .mirConsWrite t i) (fun _ _ _ _ => True) (fun _ s => s)) ∧
  (∀ i, i < 52 → Writes (rSOURCE i 0x00) (fun t => .ringCfgWrite t i) (fun _ _ w s => cfgRefuses s i w = false) (fun _ s => s)) ∧
  (∀ m, m < 8 → Writes (rIB_CFG m) (fun t => .ibCfgWrite t m) (fun _ _ _ s => regBit s rBRG_CTRL 24 = false) (fun _ s => s)) ∧
  Writes (rHP_TX 0x0C) .hpTxTailWrite (fun _ _ _ _ => True) (fun _ s => armSource 50 { s with bridge := { s.bridge with txDone := 0 } }) ∧
  Writes (rHP_RX 0x0C) .hpRxTailWrite (fun _ _ _ _ => True) (fun _ s => armSource 49 { s with bridge := { s.bridge with rxDone := 0 } })

/-- What the firmware does when it takes requests and posts notices, and what HELLO answers (R526, R527, R529, R533, R540, R541, R543, R544, R546). -/
def Obligations.MailboxServiceTakesEffect : Prop :=
  (∀ m, Does .requestTake
    (fun s => serves s = true ∧ ((List.range 8).map (fun i => (s.mbx.turn + i) % 8)).find? (ready s) = some m ∧ (boxOf s m).state = 2)
    (fun s => discardRequests m { s with mbx := { s.mbx with turn := (m + 1) % 8 } })) ∧
  (∀ m, Does .requestTake
    (fun s => serves s = true ∧ ((List.range 8).map (fun i => (s.mbx.turn + i) % 8)).find? (ready s) = some m ∧ (boxOf s m).state ≠ 2 ∧ badHeader s m = true)
    (fun s =>
      let e := { s with mbx := { s.mbx with turn := (m + 1) % 8 } }
      let ws := ringWords s (.req m) (ringOf s (.req m)).cons 2
      let d := discardRequests m e
      let d1 := respond m (bits (rw ws 0) 15 0) (if 2 ≤ reqDepth s m then rw ws 1 else 0) (versionOf s m).1 (versionOf s m).2 true false 7
        [rw ws 0, word (ringOf s (.req m)).cons] (setBox m { boxOf d m with state := 2 } d)
      raiseEvent 466 1 (some m) (count (rMBX m 0x10) 31 24 d1))) ∧
  (∀ m, Does .requestTake
    (fun s => serves s = true ∧ ((List.range 8).map (fun i => (s.mbx.turn + i) % 8)).find? (ready s) = some m ∧ (boxOf s m).state ≠ 2 ∧ badHeader s m = false ∧
      bits (headWord s m) 15 0 ≠ 0x0100)
    (fun s =>
      let e := { s with mbx := { s.mbx with turn := (m + 1) % 8 } }
      let n := bits (headWord s m) 27 16
      let ws := ringWords s (.req m) (ringOf s (.req m)).cons n
      serve (fld ws 0 15 0) (meaningOf (fld ws 0 15 0) (rw ws 2)) (requestOf m ws) (ringConsume (.req m) (((ringOf s (.req m)).cons + n) % ringMod (.req m)) e))) ∧
  (∀ n r, Does .noticePost
    (fun s => serves s = true ∧ s.mbx.notices = n :: r ∧ 4 + n.payload.length ≤ ringFree s (.rsp s.mbx.noticeMbx))
    (fun s =>
      let m := s.mbx.noticeMbx
      let b := boxOf s m
      let e := { s with mbx := { s.mbx with notices := r } }
      postMessage m (message s 3 n.opcode (word b.noticeSeq) (versionOf s m).1 (versionOf s m).2 true false 0 n.payload)
        (setBox m { boxOf e m with noticeSeq := (b.noticeSeq + 1) % 2 ^ 32 } e))) ∧
  (∀ q v, q.mbx < 8 → q.args.length = 1 → mf q 4 15 0 = 0 → Does (fun t => .hello t q)
    (fun s => serves s = true ∧ s.sys.fw.boot = .served ∧ 2048 ≤ ringFree s (.rsp q.mbx) ∧ (boxOf s q.mbx).state ≠ 2 ∧ (boxOf s q.mbx).deferred = none ∧
      v = min (mf q 4 23 16) (devVersions s).2 ∧ mf q 4 31 24 ≤ v ∧ (devVersions s).1 ≤ v)
    (fun s =>
      let b := boxOf s q.mbx
      let ack := if b.state = 0 then q.seq - 1 else b.ack
      let e := setBox q.mbx { b with state := 1, verMaj := v / 16, verMin := v % 16, ack := ack, journalLost := false } s
      respond q.mbx 0x0100 q.seq 1 0 true false 0
        [packW [(8, v), (8, (devVersions s).1), (8, (devVersions s).2), (1, b2n b.journalLost), (1, b2n (b.state = 1)), (6, 0)], word ack.toNat,
         packW [(16, (release s).1), (16, (release s).2)], packW [(16, s.time.epoch), (16, s.sys.fw.lifecycle)]] e)) ∧
  (∀ q v, q.mbx < 8 → q.args.length = 1 → mf q 4 15 0 = 0 → Does (fun t => .hello t q)
    (fun s => serves s = true ∧ s.sys.fw.boot = .served ∧ 2048 ≤ ringFree s (.rsp q.mbx) ∧ (boxOf s q.mbx).state = 0 ∧ (boxOf s q.mbx).deferred = none ∧
      v = min (mf q 4 23 16) (devVersions s).2 ∧ (v < mf q 4 31 24 ∨ v < (devVersions s).1))
    (fun s =>
      respond q.mbx 0x0100 q.seq 1 0 true false 9
        [packW [(8, 0), (8, (devVersions s).1), (8, (devVersions s).2), (1, 0), (1, 0), (6, 0)], word (boxOf s q.mbx).ack.toNat,
         packW [(16, (release s).1), (16, (release s).2)], packW [(16, s.time.epoch), (16, s.sys.fw.lifecycle)]] s))

/-- A carried write of BAR2 reads back, and touches no other byte (R472, R473, R477, R659). -/
def Obligations.MemoryReadsBackWhatAWriteStored : Prop :=
  ∀ o off ws tag now s, off % 4 = 0 → (∀ i, i < ws.length → bar2Refuses s o (off + 4 * i) = none) →
    ∃ u, landWrite o { arrival := now, bar2 := true, off := off, data := ws, tag := tag } s = u ∧ memWords u off ws.length = ws ∧
      (∀ a, a < off ∨ off + 4 * ws.length ≤ a → memGet u a = memGet s a) ∧
      (∀ i, i ∈ u.sys.test.badMem ↔ i ∈ s.sys.test.badMem ∧ ¬ (off / 4 ≤ i ∧ i < off / 4 + ws.length)) ∧
      u = { s with mem := u.mem, sys := { s.sys with test := { s.sys.test with badMem := u.sys.test.badMem } } }

/-- A packet that lands in a ring with room reads back from its slots, and leaves the rest of the ring and of memory as they were (R515, R516, R517, R518, R519, R520, R523). -/
def Obligations.RingPacketsReadBack : Prop :=
  (∀ id ws s, ringSlotWords id = 1 → (ringOf s id).gap = none → (∀ c p n, (ringOf s id).marker = some (c, p, n) → c ≠ s.time.now) →
    (ringOf s id).prod < ringMod id → (ringOf s id).cons < ringMod id → ringDepth s id + ws.length ≤ 2 ^ ringBits id →
    let u := ringPush id ws s
    (ringOf u id).prod = ((ringOf s id).prod + ws.length) % ringMod id ∧ (ringOf u id).ends = (ringOf s id).ends ++ [(ringOf u id).prod] ∧
      ringDepth u id = ringDepth s id + ws.length ∧ ringWords u id (ringOf s id).prod ws.length = ws ∧
      ringWords u id (ringOf s id).cons (ringDepth s id) = ringWords s id (ringOf s id).cons (ringDepth s id) ∧
      (∀ a, a < ringBase id ∨ ringBase id + 4 * 2 ^ ringBits id ≤ a → memGet u a = memGet s a) ∧
      ringDepth (ringConsume id (ringOf u id).prod u) id = 0) ∧
  (∀ id ws s, (ringOf s id).gap = none → (∀ c p n, (ringOf s id).marker = some (c, p, n) → c ≠ s.time.now) → ringFree s id < slotsFor id ws →
    let u := ringPush id ws s
    u.mem = s.mem ∧ ringDepth u id = ringDepth s id ∧ (ringOf u id).ends = (ringOf s id).ends ∧ (ringOf u id).drops = satAdd 32 (ringOf s id).drops 1 ∧
      (ringOf u id).gap.isSome = true) ∧
  (∀ id ws s p n, (ringOf s id).gap = none → (ringOf s id).marker = some (s.time.now, p, n) →
    let u := ringPush id ws s
    (ringOf u id).prod = (ringOf s id).prod ∧ (ringOf u id).ends = (ringOf s id).ends ∧ ringDepth u id = ringDepth s id ∧
      (ringOf u id).drops = satAdd 32 (ringOf s id).drops 1 ∧ (ringOf u id).gap = none ∧ (ringOf u id).marker = some (s.time.now, p, satAdd 32 n 1))

/-- A CNT field counts to its all-ones value, and a write takes its value off (R508). -/
def Obligations.CountFieldsCountAndTakeWrites : Prop :=
  ∀ reg fs f s, regFields reg = some fs → f ∈ fs → f.acc = .cnt →
    regFld (count reg f.hi f.lo s) reg f.hi f.lo = min (2 ^ (f.hi + 1 - f.lo) - 1) (regFld s reg f.hi f.lo + 1) ∧
    (cntNote s reg f.lo = none →
      (∀ v, bits v f.hi f.lo ≤ regFld s reg f.hi f.lo → regFld (stored reg .direct v s) reg f.hi f.lo = regFld s reg f.hi f.lo - bits v f.hi f.lo) ∧
      (∀ v, regFld s reg f.hi f.lo < bits v f.hi f.lo → regFld (stored reg .direct v s) reg f.hi f.lo = 0) ∧
      (∀ v, regFld (stored reg .direct v (count reg f.hi f.lo s)) reg f.hi f.lo = min (2 ^ (f.hi + 1 - f.lo) - 1) (regFld s reg f.hi f.lo - bits v f.hi f.lo + 1)))

/-- What a write through an alias leaves in each field, by its access code (R506, R507, R510, R511, R513). -/
def Obligations.FieldsTakeWritesByTheirCode : Prop :=
  (∀ reg fs f s v, regFields reg = some fs → f ∈ fs → f.acc = .rw →
    regFld (stored reg .direct v s) reg f.hi f.lo = bits v f.hi f.lo ∧
    regFld (stored reg .set v s) reg f.hi f.lo = regFld s reg f.hi f.lo ||| bits v f.hi f.lo ∧
    regFld (stored reg .clear v s) reg f.hi f.lo = regFld s reg f.hi f.lo - (regFld s reg f.hi f.lo &&& bits v f.hi f.lo) ∧
    regFld (stored reg .toggle v s) reg f.hi f.lo = regFld s reg f.hi f.lo ^^^ bits v f.hi f.lo) ∧
  (∀ reg fs f s v a, regFields reg = some fs → f ∈ fs → f.acc = .w1c → a = .direct ∨ a = .clear →
    regFld (stored reg a v s) reg f.hi f.lo =
      (regFld s reg f.hi f.lo - (regFld s reg f.hi f.lo &&& bits v f.hi f.lo)) ||| bits (word (tget 0 (hwNow s).flags reg)) f.hi f.lo) ∧
  (∀ reg fs f s v a i, regFields reg = some fs → f ∈ fs → f.acc = .lock → (regFld s reg f.hi f.lo).testBit i = true →
    (regFld (stored reg a v s) reg f.hi f.lo).testBit i = true) ∧
  (∀ reg fs f s v a, regFields reg = some fs → f ∈ fs → f.acc = .ro → regFld (stored reg a v s) reg f.hi f.lo = regFld s reg f.hi f.lo) ∧
  (∀ reg r s v a, r ≠ reg → regGet (stored reg a v s) r = regGet s r)

/-- Short time is the low 32 bits of whole nanoseconds, and names the nearest instant (R53). -/
def Obligations.ShortTimeWraps : Prop :=
  (∀ w : Int, (shortTime w : Int) = (w / 65536000000000 * 1000000000 + w % 65536000000000 / 65536) % 4294967296) ∧
  (∀ w : Int, shortTime (w + 4294967296 * 65536) = shortTime w) ∧
  (∀ w v : Int, -2147483648 ≤ v / 65536 - w / 65536 → v / 65536 - w / 65536 < 2147483648 →
    ofShort w (shortTime v) = v / 65536 * 65536 ∧ shortDist w (shortTime v) = v / 65536 - w / 65536)

/-- A working time written as a full time reads back whole (R51, R52). -/
def Obligations.FullTimesRoundTrip : Prop :=
  ∀ w : Int, 0 ≤ w → w < 2 ^ 48 * 65536000000000 → fullOk (fullTime w) = true ∧ ofFull (fullTime w) = w ∧ (fullTime w).length = 3 ∧
    (∀ v : Int, 0 ≤ v → v < 2 ^ 48 * 65536000000000 → fullTime v = fullTime w → v = w)

/-- A recovery function that has passed a sequence number discards the next frame with it (R262, R38). -/
def Obligations.RecoveryNeverPassesTwice : Prop :=
  ∀ fr now later n, n < 65536 → (∀ e, fr.expired = some e → later = now ∨ (e.1 ≠ now ∧ e.1 ≠ later)) → (recover fr now (some n)).1 = true →
    (recover (recover fr now (some n)).2 later (some n)).1 = false ∧
    ((0 < rvHistory fr.rec0 ∨ flag fr.rec0 0 30 = true) →
      (recover (recover fr now (some n)).2 later (some n)).2.dup = satAdd 32 (recover fr now (some n)).2.dup 1) ∧
    (recover (recover fr now (some n)).2 later (some n)).2.passed = (recover fr now (some n)).2.passed

/-- A meter never lets more bytes pass than its peak bucket and its refills hold (R239, R240, R254, R255, R256). -/
def Obligations.MetersBoundWhatPasses : Prop :=
  (∀ h i m s (l : List (Option Nat)), filterIndex s (some h) = some i → fiMeterEn (filterOf s i).rec0 = true → fiMeter (filterOf s i).rec0 = m →
    flag (meterOf s m).rec0 0 30 = false → (meterOf s m).released = none →
    (offered h m l s).1 * 16777216 ≤ (meterOf s m).tp + (l.filter (fun e => e.isNone)).length * refill (rw (meterOf s m).rec0 3).toNat) ∧
  (∀ m s, (meterOf (meterTick m s) m).tp ≤ (rw (meterOf (meterTick m s) m).rec0 4).toNat * 16777216 ∧
    (meterOf (meterTick m s) m).tc ≤ (rw (meterOf (meterTick m s) m).rec0 2).toNat * 16777216)

/-- Which firewall entry decides (R273, R275, R280, R282, R283, R653, R659). -/
def Obligations.FirewallEntriesPrevailInOrder : Prop :=
  (∀ s bank src k z i r, verdict s bank src k z = .rule i r →
    (i, r) ∈ (fwCycle s).rule ∧ covers bank src z r = true ∧ ruleMatches k i r = true ∧ ruAction r ≠ 4 ∧
    (∀ e, e ∈ candidates s bank src k z → ruAction e.2 ≠ 4 →
      (30720 ≤ e.1 → ruOverride e.2 = true → 30720 ≤ i ∧ ruOverride r = true) ∧
      (e.1 < 30720 → ruKtype e.2 < 6 → 30720 ≤ i → ruOverride r = true) ∧
      (e.1 < 30720 → i < 30720 → ruKtype e.2 < 6 → [5, 3, 2, 4, 0, 1].idxOf (ruKtype r) ≤ [5, 3, 2, 4, 0, 1].idxOf (ruKtype e.2)))) ∧
  (∀ s bank src k z, (∀ e, e ∈ candidates s bank src k z → ruAction e.2 = 4) →
    verdict s bank src k z = .dflt (src = z && !intraRules s bank src)) ∧
  (∀ s bank src k z e, e ∈ candidates s bank src k z → ruAction e.2 ≠ 4 → e.1 ∈ s.fw.bad ∨ e.1 ∈ (fwCycle s).bad → verdict s bank src k z = .dflt false)

/-- When a replica enters its queue (R181, R199, R200, R201, R224, R237). -/
def Obligations.QueuesKeepTheirLimits : Prop :=
  (∀ p c short r s, srCqf (schedOf s p) c = false → (∀ x, x ∈ queueOf (egressOf s p) c → x.admitted = s.time.now → x.inPort ≤ r.inPort) →
    (queueOf (egressOf s p) c).length < srQmax (schedOf s p) c →
    (r.dei = true → (queueOf (egressOf s p) c).length < srYmax (schedOf s p) c) →
    let u := enterClass p c short r s
    (∃ r1 : Replica, queueOf (egressOf u p) c = queueOf (egressOf s p) c ++ [r1] ∧ r1 = { r with admitted := s.time.now, launch := r1.launch, late := r1.late }) ∧
      (∀ d, d ≠ c → queueOf (egressOf u p) d = queueOf (egressOf s p) d) ∧ (∀ q, q ≠ p → egressOf u q = egressOf s q)) ∧
  (∀ p c short r s d, srCqf (schedOf s p) c = false → (∀ x, x ∈ queueOf (egressOf s p) c → x.admitted = s.time.now → x.inPort ≤ r.inPort) →
    admission s p c (queueOf (egressOf s p) c).length r.dei ≠ 0 →
    queueOf (egressOf (enterClass p c short r s) p) d = queueOf (egressOf s p) d) ∧
  (∀ p c short r s, srCqf (schedOf s p) c = false →
    ∃ a b l, queueOf (egressOf s p) c = a ++ b ∧ queueOf (egressOf (enterClass p c short r s) p) c = a ++ l ∧ l.length ≤ b.length + 1 ∧
      ∀ x, x ∈ b → x.admitted = s.time.now ∧ r.inPort < x.inPort)

/-- What an event changes (R452, R455, R457, R550, R551). -/
def Obligations.EventsAreRecordedAndCoalesced : Prop :=
  (∀ src cause d s,
    let u := raiseDetailed src cause d s
    let g : CsGroup := ⟨5, s.time.now, [pack64 [(9, src), (8, cause), (47, d)]], s.time.now⟩
    u = { s with cs := u.cs, regs := u.regs, hw := u.hw, ev := u.ev } ∧ (∀ r, r ≠ rCS_LOST → regGet u r = regGet s r) ∧
    (csFill s < 768 → (s.cs.lost.1 ≠ s.time.now ∨ s.cs.lost.2.1 = []) → u.regs = s.regs ∧ u.hw = s.hw ∧ u.cs = { s.cs with queue := u.cs.queue } ∧
      ∃ a b, s.cs.queue = a ++ b ∧ u.cs.queue = a ++ g :: b ∧ (∀ x, x ∈ b.head? → x.at0 = s.time.now ∧ csRank g < csRank x)) ∧
    (768 ≤ csFill s → u.cs.lost.1 = s.time.now ∧ (g ∈ u.cs.queue ∨ g ∈ u.cs.lost.2.1) ∧ (u.cs.lost.2.1 ≠ [] → u.cs.gap.isSome = true)) ∧
    (1024 ≤ csFill s → (∀ x, x ∈ s.cs.queue → x.at0 ≠ s.time.now) → s.cs.lost.1 ≠ s.time.now →
      u.cs.queue = s.cs.queue ∧ regFld u rCS_LOST 31 0 = min (2 ^ 32 - 1) (regFld s rCS_LOST 31 0 + 1)) ∧
    csFill u ≤ max 1024 (csFill s)) ∧
  (∀ src cause d s, let route := regFld s (rROUTE (src / 8)) (4 * (src % 8) + 3) (4 * (src % 8))
    let u := raiseDetailed src cause d s
    (∃ l, u.ev.raised = l ++ [⟨src, cause, d % 2 ^ 64, route, s.time.now⟩] ∧ ∀ x, x ∈ l → x.at0 = s.time.now) ∧
      u.ev.opened.length ≤ max 1024 s.ev.opened.length ∧
      settle u.ev = (if route < 8 then settle s.ev else coalesce src cause (d % 2 ^ 64) (route - 8) s.time.now (settle s.ev))) ∧
  (∀ src cause d ring now e, (coalesce src cause d ring now e).opened.length ≤ max 1024 e.opened.length ∧
    (∀ o, o ∈ e.opened → o.source = src → o.cause = cause →
      { o with count := satAdd 16 o.count 1, last := now } ∈ (coalesce src cause d ring now e).opened) ∧
    ((∀ o, o ∈ e.opened → ¬ (o.source = src ∧ o.cause = cause)) → e.opened.length < 1024 →
      (coalesce src cause d ring now e).opened = e.opened ++ [⟨src, cause, 1, now, now, d, ring⟩]))

/-- Which requests a mailbox executes, and how it answers the others (R526, R533, R535, R536, R539, R542). -/
def Obligations.RequestsAreServedOnceAndInSequence : Prop :=
  (∀ op h q s, q.mbx < 8 → serves s = true → s.sys.fw.boot = .served → (boxOf s q.mbx).deferred = none → 2048 ≤ ringFree s (.rsp q.mbx) →
    testsWait op q s = false →
    ((boxOf s q.mbx).state = 0 → serve op h q s = answer op q true 10 [] s) ∧
    ((boxOf s q.mbx).state = 1 → (q.verMaj, q.verMin) ≠ ((boxOf s q.mbx).verMaj, (boxOf s q.mbx).verMin) → serve op h q s = answer op q true 9 [] s) ∧
    ((boxOf s q.mbx).state = 1 → q.verMaj = (boxOf s q.mbx).verMaj → q.verMin = (boxOf s q.mbx).verMin →
      ((boxOf s q.mbx).ack - q.seq).toNat < 2 ^ 31 →
      serve op h q s = count (rMBX q.mbx 0x10) 15 0 (respond q.mbx op q.seq q.verMaj q.verMin true true 12
        [word (match (boxOf s q.mbx).statuses.find? (fun e => e.1 = q.seq) with | some e => e.2 | none => 0xFFFF)] s)) ∧
    ((boxOf s q.mbx).state = 1 → q.verMaj = (boxOf s q.mbx).verMaj → q.verMin = (boxOf s q.mbx).verMin →
      1 < (q.seq - (boxOf s q.mbx).ack).toNat → (q.seq - (boxOf s q.mbx).ack).toNat < 2 ^ 31 → serve op h q s = answer op q true 11 [] s)) ∧
  (∀ op q s st p, q.mbx < 8 → (boxOf (answer op q true st p s) q.mbx).ack = (boxOf s q.mbx).ack) ∧
  (∀ op q st s, (boxOf (acceptReq op q st s) q.mbx).ack = q.seq)

/-- An answer is one message in the response ring (R453, R517, R529, R533). -/
def Obligations.AnswersEnterTheRing : Prop :=
  ∀ op q final st p s, q.mbx < 8 → inbandOn s q.mbx = false → (ringOf s (.rsp q.mbx)).gap = none →
    (∀ c n k, (ringOf s (.rsp q.mbx)).marker = some (c, n, k) → c ≠ s.time.now) → (ringOf s (.rsp q.mbx)).prod < 8192 →
    (ringOf s (.rsp q.mbx)).cons < 8192 → ringDepth s (.rsp q.mbx) + 4 + p.length ≤ 4096 →
    (∀ w, w ∈ s.bridge.ringWaits → w.ring ≠ .rsp q.mbx) → ringLocked s .core (.rsp q.mbx) (ringOf s (.rsp q.mbx)).prod (4 + p.length) = false →
    let u := answer op q final st p s
    ringWords u (.rsp q.mbx) (ringOf s (.rsp q.mbx)).prod (4 + p.length) =
      [packW [(4, 2), (12, 4 + p.length), (16, op)], q.seq, packW [(4, (versionOf s q.mbx).1), (4, (versionOf s q.mbx).2), (2, 0), (1, b2n final), (1, 0), (4, 0), (16, st)], word s.time.now] ++ p ∧
    (ringOf u (.rsp q.mbx)).ends = (ringOf s (.rsp q.mbx)).ends ++ [((ringOf s (.rsp q.mbx)).prod + 4 + p.length) % 8192] ∧
    boxOf u q.mbx = { boxOf s q.mbx with rsp := ringOf u (.rsp q.mbx) } ∧ (∀ m, m ≠ q.mbx → boxOf u m = boxOf s m) ∧
    (csFill s < 768 → (s.cs.lost.1 ≠ s.time.now ∨ s.cs.lost.2.1 = []) → csFill u = csFill s + 1)
end

