-- ==== Sys2Proof/Laws/State.lean ====
section
/-!
SUPPORT. What each update of one part of the state leaves: one lemma per field per update.
-/
namespace Sys2Proof.Machine

/-! setFrame changes buf alone. -/
@[simp] theorem setFrame_beat (f : Nat) (v : Option Frame) (s : State) : (setFrame f v s).beat = s.beat := rfl
@[simp] theorem setFrame_time (f : Nat) (v : Option Frame) (s : State) : (setFrame f v s).time = s.time := rfl
@[simp] theorem setFrame_pins (f : Nat) (v : Option Frame) (s : State) : (setFrame f v s).pins = s.pins := rfl
@[simp] theorem setFrame_net (f : Nat) (v : Option Frame) (s : State) : (setFrame f v s).net = s.net := rfl
@[simp] theorem setFrame_ptime (f : Nat) (v : Option Frame) (s : State) : (setFrame f v s).ptime = s.ptime := rfl
@[simp] theorem setFrame_ports (f : Nat) (v : Option Frame) (s : State) : (setFrame f v s).ports = s.ports := rfl
@[simp] theorem setFrame_egress (f : Nat) (v : Option Frame) (s : State) : (setFrame f v s).egress = s.egress := rfl
@[simp] theorem setFrame_fwd (f : Nat) (v : Option Frame) (s : State) : (setFrame f v s).fwd = s.fwd := rfl
@[simp] theorem setFrame_str (f : Nat) (v : Option Frame) (s : State) : (setFrame f v s).str = s.str := rfl
@[simp] theorem setFrame_fw (f : Nat) (v : Option Frame) (s : State) : (setFrame f v s).fw = s.fw := rfl
@[simp] theorem setFrame_nm (f : Nat) (v : Option Frame) (s : State) : (setFrame f v s).nm = s.nm := rfl
@[simp] theorem setFrame_gw (f : Nat) (v : Option Frame) (s : State) : (setFrame f v s).gw = s.gw := rfl
@[simp] theorem setFrame_ciph (f : Nat) (v : Option Frame) (s : State) : (setFrame f v s).ciph = s.ciph := rfl
@[simp] theorem setFrame_dark (f : Nat) (v : Option Frame) (s : State) : (setFrame f v s).dark = s.dark := rfl
@[simp] theorem setFrame_pair (f : Nat) (v : Option Frame) (s : State) : (setFrame f v s).pair = s.pair := rfl
@[simp] theorem setFrame_sys (f : Nat) (v : Option Frame) (s : State) : (setFrame f v s).sys = s.sys := rfl
@[simp] theorem setFrame_cs (f : Nat) (v : Option Frame) (s : State) : (setFrame f v s).cs = s.cs := rfl
@[simp] theorem setFrame_bridge (f : Nat) (v : Option Frame) (s : State) : (setFrame f v s).bridge = s.bridge := rfl
@[simp] theorem setFrame_mbx (f : Nat) (v : Option Frame) (s : State) : (setFrame f v s).mbx = s.mbx := rfl
@[simp] theorem setFrame_ev (f : Nat) (v : Option Frame) (s : State) : (setFrame f v s).ev = s.ev := rfl
@[simp] theorem setFrame_rings (f : Nat) (v : Option Frame) (s : State) : (setFrame f v s).rings = s.rings := rfl
@[simp] theorem setFrame_regs (f : Nat) (v : Option Frame) (s : State) : (setFrame f v s).regs = s.regs := rfl
@[simp] theorem setFrame_hw (f : Nat) (v : Option Frame) (s : State) : (setFrame f v s).hw = s.hw := rfl
@[simp] theorem setFrame_mem (f : Nat) (v : Option Frame) (s : State) : (setFrame f v s).mem = s.mem := rfl
@[simp] theorem setFrame_out (f : Nat) (v : Option Frame) (s : State) : (setFrame f v s).out = s.out := rfl
@[simp] theorem setFrame_fresh (f : Nat) (v : Option Frame) (s : State) : (setFrame f v s).fresh = s.fresh := rfl
@[simp] theorem setFrame_start (f : Nat) (v : Option Frame) (s : State) : (setFrame f v s).start = s.start := rfl
@[simp] theorem setFrame_late (f : Nat) (v : Option Frame) (s : State) : (setFrame f v s).late = s.late := rfl
@[simp] theorem setFrame_pending (f : Nat) (v : Option Frame) (s : State) : (setFrame f v s).pending = s.pending := rfl

/-! setCiph changes ciph alone. -/
@[simp] theorem setCiph_beat (c : Cipher) (s : State) : (setCiph c s).beat = s.beat := rfl
@[simp] theorem setCiph_time (c : Cipher) (s : State) : (setCiph c s).time = s.time := rfl
@[simp] theorem setCiph_pins (c : Cipher) (s : State) : (setCiph c s).pins = s.pins := rfl
@[simp] theorem setCiph_net (c : Cipher) (s : State) : (setCiph c s).net = s.net := rfl
@[simp] theorem setCiph_ptime (c : Cipher) (s : State) : (setCiph c s).ptime = s.ptime := rfl
@[simp] theorem setCiph_ports (c : Cipher) (s : State) : (setCiph c s).ports = s.ports := rfl
@[simp] theorem setCiph_egress (c : Cipher) (s : State) : (setCiph c s).egress = s.egress := rfl
@[simp] theorem setCiph_fwd (c : Cipher) (s : State) : (setCiph c s).fwd = s.fwd := rfl
@[simp] theorem setCiph_buf (c : Cipher) (s : State) : (setCiph c s).buf = s.buf := rfl
@[simp] theorem setCiph_str (c : Cipher) (s : State) : (setCiph c s).str = s.str := rfl
@[simp] theorem setCiph_fw (c : Cipher) (s : State) : (setCiph c s).fw = s.fw := rfl
@[simp] theorem setCiph_nm (c : Cipher) (s : State) : (setCiph c s).nm = s.nm := rfl
@[simp] theorem setCiph_gw (c : Cipher) (s : State) : (setCiph c s).gw = s.gw := rfl
@[simp] theorem setCiph_dark (c : Cipher) (s : State) : (setCiph c s).dark = s.dark := rfl
@[simp] theorem setCiph_pair (c : Cipher) (s : State) : (setCiph c s).pair = s.pair := rfl
@[simp] theorem setCiph_sys (c : Cipher) (s : State) : (setCiph c s).sys = s.sys := rfl
@[simp] theorem setCiph_cs (c : Cipher) (s : State) : (setCiph c s).cs = s.cs := rfl
@[simp] theorem setCiph_bridge (c : Cipher) (s : State) : (setCiph c s).bridge = s.bridge := rfl
@[simp] theorem setCiph_mbx (c : Cipher) (s : State) : (setCiph c s).mbx = s.mbx := rfl
@[simp] theorem setCiph_ev (c : Cipher) (s : State) : (setCiph c s).ev = s.ev := rfl
@[simp] theorem setCiph_rings (c : Cipher) (s : State) : (setCiph c s).rings = s.rings := rfl
@[simp] theorem setCiph_regs (c : Cipher) (s : State) : (setCiph c s).regs = s.regs := rfl
@[simp] theorem setCiph_hw (c : Cipher) (s : State) : (setCiph c s).hw = s.hw := rfl
@[simp] theorem setCiph_mem (c : Cipher) (s : State) : (setCiph c s).mem = s.mem := rfl
@[simp] theorem setCiph_out (c : Cipher) (s : State) : (setCiph c s).out = s.out := rfl
@[simp] theorem setCiph_fresh (c : Cipher) (s : State) : (setCiph c s).fresh = s.fresh := rfl
@[simp] theorem setCiph_start (c : Cipher) (s : State) : (setCiph c s).start = s.start := rfl
@[simp] theorem setCiph_late (c : Cipher) (s : State) : (setCiph c s).late = s.late := rfl
@[simp] theorem setCiph_pending (c : Cipher) (s : State) : (setCiph c s).pending = s.pending := rfl

/-! setRxTunnel changes gw alone. -/
@[simp] theorem setRxTunnel_beat (i : Nat) (v : RxTunnel) (s : State) : (setRxTunnel i v s).beat = s.beat := rfl
@[simp] theorem setRxTunnel_time (i : Nat) (v : RxTunnel) (s : State) : (setRxTunnel i v s).time = s.time := rfl
@[simp] theorem setRxTunnel_pins (i : Nat) (v : RxTunnel) (s : State) : (setRxTunnel i v s).pins = s.pins := rfl
@[simp] theorem setRxTunnel_net (i : Nat) (v : RxTunnel) (s : State) : (setRxTunnel i v s).net = s.net := rfl
@[simp] theorem setRxTunnel_ptime (i : Nat) (v : RxTunnel) (s : State) : (setRxTunnel i v s).ptime = s.ptime := rfl
@[simp] theorem setRxTunnel_ports (i : Nat) (v : RxTunnel) (s : State) : (setRxTunnel i v s).ports = s.ports := rfl
@[simp] theorem setRxTunnel_egress (i : Nat) (v : RxTunnel) (s : State) : (setRxTunnel i v s).egress = s.egress := rfl
@[simp] theorem setRxTunnel_fwd (i : Nat) (v : RxTunnel) (s : State) : (setRxTunnel i v s).fwd = s.fwd := rfl
@[simp] theorem setRxTunnel_buf (i : Nat) (v : RxTunnel) (s : State) : (setRxTunnel i v s).buf = s.buf := rfl
@[simp] theorem setRxTunnel_str (i : Nat) (v : RxTunnel) (s : State) : (setRxTunnel i v s).str = s.str := rfl
@[simp] theorem setRxTunnel_fw (i : Nat) (v : RxTunnel) (s : State) : (setRxTunnel i v s).fw = s.fw := rfl
@[simp] theorem setRxTunnel_nm (i : Nat) (v : RxTunnel) (s : State) : (setRxTunnel i v s).nm = s.nm := rfl
@[simp] theorem setRxTunnel_ciph (i : Nat) (v : RxTunnel) (s : State) : (setRxTunnel i v s).ciph = s.ciph := rfl
@[simp] theorem setRxTunnel_dark (i : Nat) (v : RxTunnel) (s : State) : (setRxTunnel i v s).dark = s.dark := rfl
@[simp] theorem setRxTunnel_pair (i : Nat) (v : RxTunnel) (s : State) : (setRxTunnel i v s).pair = s.pair := rfl
@[simp] theorem setRxTunnel_sys (i : Nat) (v : RxTunnel) (s : State) : (setRxTunnel i v s).sys = s.sys := rfl
@[simp] theorem setRxTunnel_cs (i : Nat) (v : RxTunnel) (s : State) : (setRxTunnel i v s).cs = s.cs := rfl
@[simp] theorem setRxTunnel_bridge (i : Nat) (v : RxTunnel) (s : State) : (setRxTunnel i v s).bridge = s.bridge := rfl
@[simp] theorem setRxTunnel_mbx (i : Nat) (v : RxTunnel) (s : State) : (setRxTunnel i v s).mbx = s.mbx := rfl
@[simp] theorem setRxTunnel_ev (i : Nat) (v : RxTunnel) (s : State) : (setRxTunnel i v s).ev = s.ev := rfl
@[simp] theorem setRxTunnel_rings (i : Nat) (v : RxTunnel) (s : State) : (setRxTunnel i v s).rings = s.rings := rfl
@[simp] theorem setRxTunnel_regs (i : Nat) (v : RxTunnel) (s : State) : (setRxTunnel i v s).regs = s.regs := rfl
@[simp] theorem setRxTunnel_hw (i : Nat) (v : RxTunnel) (s : State) : (setRxTunnel i v s).hw = s.hw := rfl
@[simp] theorem setRxTunnel_mem (i : Nat) (v : RxTunnel) (s : State) : (setRxTunnel i v s).mem = s.mem := rfl
@[simp] theorem setRxTunnel_out (i : Nat) (v : RxTunnel) (s : State) : (setRxTunnel i v s).out = s.out := rfl
@[simp] theorem setRxTunnel_fresh (i : Nat) (v : RxTunnel) (s : State) : (setRxTunnel i v s).fresh = s.fresh := rfl
@[simp] theorem setRxTunnel_start (i : Nat) (v : RxTunnel) (s : State) : (setRxTunnel i v s).start = s.start := rfl
@[simp] theorem setRxTunnel_late (i : Nat) (v : RxTunnel) (s : State) : (setRxTunnel i v s).late = s.late := rfl
@[simp] theorem setRxTunnel_pending (i : Nat) (v : RxTunnel) (s : State) : (setRxTunnel i v s).pending = s.pending := rfl

/-! setKeySlot changes ciph alone. -/
@[simp] theorem setKeySlot_beat (i : Nat) (k : KeySlot) (s : State) : (setKeySlot i k s).beat = s.beat := rfl
@[simp] theorem setKeySlot_time (i : Nat) (k : KeySlot) (s : State) : (setKeySlot i k s).time = s.time := rfl
@[simp] theorem setKeySlot_pins (i : Nat) (k : KeySlot) (s : State) : (setKeySlot i k s).pins = s.pins := rfl
@[simp] theorem setKeySlot_net (i : Nat) (k : KeySlot) (s : State) : (setKeySlot i k s).net = s.net := rfl
@[simp] theorem setKeySlot_ptime (i : Nat) (k : KeySlot) (s : State) : (setKeySlot i k s).ptime = s.ptime := rfl
@[simp] theorem setKeySlot_ports (i : Nat) (k : KeySlot) (s : State) : (setKeySlot i k s).ports = s.ports := rfl
@[simp] theorem setKeySlot_egress (i : Nat) (k : KeySlot) (s : State) : (setKeySlot i k s).egress = s.egress := rfl
@[simp] theorem setKeySlot_fwd (i : Nat) (k : KeySlot) (s : State) : (setKeySlot i k s).fwd = s.fwd := rfl
@[simp] theorem setKeySlot_buf (i : Nat) (k : KeySlot) (s : State) : (setKeySlot i k s).buf = s.buf := rfl
@[simp] theorem setKeySlot_str (i : Nat) (k : KeySlot) (s : State) : (setKeySlot i k s).str = s.str := rfl
@[simp] theorem setKeySlot_fw (i : Nat) (k : KeySlot) (s : State) : (setKeySlot i k s).fw = s.fw := rfl
@[simp] theorem setKeySlot_nm (i : Nat) (k : KeySlot) (s : State) : (setKeySlot i k s).nm = s.nm := rfl
@[simp] theorem setKeySlot_gw (i : Nat) (k : KeySlot) (s : State) : (setKeySlot i k s).gw = s.gw := rfl
@[simp] theorem setKeySlot_dark (i : Nat) (k : KeySlot) (s : State) : (setKeySlot i k s).dark = s.dark := rfl
@[simp] theorem setKeySlot_pair (i : Nat) (k : KeySlot) (s : State) : (setKeySlot i k s).pair = s.pair := rfl
@[simp] theorem setKeySlot_sys (i : Nat) (k : KeySlot) (s : State) : (setKeySlot i k s).sys = s.sys := rfl
@[simp] theorem setKeySlot_cs (i : Nat) (k : KeySlot) (s : State) : (setKeySlot i k s).cs = s.cs := rfl
@[simp] theorem setKeySlot_bridge (i : Nat) (k : KeySlot) (s : State) : (setKeySlot i k s).bridge = s.bridge := rfl
@[simp] theorem setKeySlot_mbx (i : Nat) (k : KeySlot) (s : State) : (setKeySlot i k s).mbx = s.mbx := rfl
@[simp] theorem setKeySlot_ev (i : Nat) (k : KeySlot) (s : State) : (setKeySlot i k s).ev = s.ev := rfl
@[simp] theorem setKeySlot_rings (i : Nat) (k : KeySlot) (s : State) : (setKeySlot i k s).rings = s.rings := rfl
@[simp] theorem setKeySlot_regs (i : Nat) (k : KeySlot) (s : State) : (setKeySlot i k s).regs = s.regs := rfl
@[simp] theorem setKeySlot_hw (i : Nat) (k : KeySlot) (s : State) : (setKeySlot i k s).hw = s.hw := rfl
@[simp] theorem setKeySlot_mem (i : Nat) (k : KeySlot) (s : State) : (setKeySlot i k s).mem = s.mem := rfl
@[simp] theorem setKeySlot_out (i : Nat) (k : KeySlot) (s : State) : (setKeySlot i k s).out = s.out := rfl
@[simp] theorem setKeySlot_fresh (i : Nat) (k : KeySlot) (s : State) : (setKeySlot i k s).fresh = s.fresh := rfl
@[simp] theorem setKeySlot_start (i : Nat) (k : KeySlot) (s : State) : (setKeySlot i k s).start = s.start := rfl
@[simp] theorem setKeySlot_late (i : Nat) (k : KeySlot) (s : State) : (setKeySlot i k s).late = s.late := rfl
@[simp] theorem setKeySlot_pending (i : Nat) (k : KeySlot) (s : State) : (setKeySlot i k s).pending = s.pending := rfl

/-! setSecy changes ciph alone. -/
@[simp] theorem setSecy_beat (p : Nat) (y : SecY) (s : State) : (setSecy p y s).beat = s.beat := rfl
@[simp] theorem setSecy_time (p : Nat) (y : SecY) (s : State) : (setSecy p y s).time = s.time := rfl
@[simp] theorem setSecy_pins (p : Nat) (y : SecY) (s : State) : (setSecy p y s).pins = s.pins := rfl
@[simp] theorem setSecy_net (p : Nat) (y : SecY) (s : State) : (setSecy p y s).net = s.net := rfl
@[simp] theorem setSecy_ptime (p : Nat) (y : SecY) (s : State) : (setSecy p y s).ptime = s.ptime := rfl
@[simp] theorem setSecy_ports (p : Nat) (y : SecY) (s : State) : (setSecy p y s).ports = s.ports := rfl
@[simp] theorem setSecy_egress (p : Nat) (y : SecY) (s : State) : (setSecy p y s).egress = s.egress := rfl
@[simp] theorem setSecy_fwd (p : Nat) (y : SecY) (s : State) : (setSecy p y s).fwd = s.fwd := rfl
@[simp] theorem setSecy_buf (p : Nat) (y : SecY) (s : State) : (setSecy p y s).buf = s.buf := rfl
@[simp] theorem setSecy_str (p : Nat) (y : SecY) (s : State) : (setSecy p y s).str = s.str := rfl
@[simp] theorem setSecy_fw (p : Nat) (y : SecY) (s : State) : (setSecy p y s).fw = s.fw := rfl
@[simp] theorem setSecy_nm (p : Nat) (y : SecY) (s : State) : (setSecy p y s).nm = s.nm := rfl
@[simp] theorem setSecy_gw (p : Nat) (y : SecY) (s : State) : (setSecy p y s).gw = s.gw := rfl
@[simp] theorem setSecy_dark (p : Nat) (y : SecY) (s : State) : (setSecy p y s).dark = s.dark := rfl
@[simp] theorem setSecy_pair (p : Nat) (y : SecY) (s : State) : (setSecy p y s).pair = s.pair := rfl
@[simp] theorem setSecy_sys (p : Nat) (y : SecY) (s : State) : (setSecy p y s).sys = s.sys := rfl
@[simp] theorem setSecy_cs (p : Nat) (y : SecY) (s : State) : (setSecy p y s).cs = s.cs := rfl
@[simp] theorem setSecy_bridge (p : Nat) (y : SecY) (s : State) : (setSecy p y s).bridge = s.bridge := rfl
@[simp] theorem setSecy_mbx (p : Nat) (y : SecY) (s : State) : (setSecy p y s).mbx = s.mbx := rfl
@[simp] theorem setSecy_ev (p : Nat) (y : SecY) (s : State) : (setSecy p y s).ev = s.ev := rfl
@[simp] theorem setSecy_rings (p : Nat) (y : SecY) (s : State) : (setSecy p y s).rings = s.rings := rfl
@[simp] theorem setSecy_regs (p : Nat) (y : SecY) (s : State) : (setSecy p y s).regs = s.regs := rfl
@[simp] theorem setSecy_hw (p : Nat) (y : SecY) (s : State) : (setSecy p y s).hw = s.hw := rfl
@[simp] theorem setSecy_mem (p : Nat) (y : SecY) (s : State) : (setSecy p y s).mem = s.mem := rfl
@[simp] theorem setSecy_out (p : Nat) (y : SecY) (s : State) : (setSecy p y s).out = s.out := rfl
@[simp] theorem setSecy_fresh (p : Nat) (y : SecY) (s : State) : (setSecy p y s).fresh = s.fresh := rfl
@[simp] theorem setSecy_start (p : Nat) (y : SecY) (s : State) : (setSecy p y s).start = s.start := rfl
@[simp] theorem setSecy_late (p : Nat) (y : SecY) (s : State) : (setSecy p y s).late = s.late := rfl
@[simp] theorem setSecy_pending (p : Nat) (y : SecY) (s : State) : (setSecy p y s).pending = s.pending := rfl

/-! setSa changes ciph alone. -/
@[simp] theorem setSa_beat (i : Nat) (a : Sa) (s : State) : (setSa i a s).beat = s.beat := rfl
@[simp] theorem setSa_time (i : Nat) (a : Sa) (s : State) : (setSa i a s).time = s.time := rfl
@[simp] theorem setSa_pins (i : Nat) (a : Sa) (s : State) : (setSa i a s).pins = s.pins := rfl
@[simp] theorem setSa_net (i : Nat) (a : Sa) (s : State) : (setSa i a s).net = s.net := rfl
@[simp] theorem setSa_ptime (i : Nat) (a : Sa) (s : State) : (setSa i a s).ptime = s.ptime := rfl
@[simp] theorem setSa_ports (i : Nat) (a : Sa) (s : State) : (setSa i a s).ports = s.ports := rfl
@[simp] theorem setSa_egress (i : Nat) (a : Sa) (s : State) : (setSa i a s).egress = s.egress := rfl
@[simp] theorem setSa_fwd (i : Nat) (a : Sa) (s : State) : (setSa i a s).fwd = s.fwd := rfl
@[simp] theorem setSa_buf (i : Nat) (a : Sa) (s : State) : (setSa i a s).buf = s.buf := rfl
@[simp] theorem setSa_str (i : Nat) (a : Sa) (s : State) : (setSa i a s).str = s.str := rfl
@[simp] theorem setSa_fw (i : Nat) (a : Sa) (s : State) : (setSa i a s).fw = s.fw := rfl
@[simp] theorem setSa_nm (i : Nat) (a : Sa) (s : State) : (setSa i a s).nm = s.nm := rfl
@[simp] theorem setSa_gw (i : Nat) (a : Sa) (s : State) : (setSa i a s).gw = s.gw := rfl
@[simp] theorem setSa_dark (i : Nat) (a : Sa) (s : State) : (setSa i a s).dark = s.dark := rfl
@[simp] theorem setSa_pair (i : Nat) (a : Sa) (s : State) : (setSa i a s).pair = s.pair := rfl
@[simp] theorem setSa_sys (i : Nat) (a : Sa) (s : State) : (setSa i a s).sys = s.sys := rfl
@[simp] theorem setSa_cs (i : Nat) (a : Sa) (s : State) : (setSa i a s).cs = s.cs := rfl
@[simp] theorem setSa_bridge (i : Nat) (a : Sa) (s : State) : (setSa i a s).bridge = s.bridge := rfl
@[simp] theorem setSa_mbx (i : Nat) (a : Sa) (s : State) : (setSa i a s).mbx = s.mbx := rfl
@[simp] theorem setSa_ev (i : Nat) (a : Sa) (s : State) : (setSa i a s).ev = s.ev := rfl
@[simp] theorem setSa_rings (i : Nat) (a : Sa) (s : State) : (setSa i a s).rings = s.rings := rfl
@[simp] theorem setSa_regs (i : Nat) (a : Sa) (s : State) : (setSa i a s).regs = s.regs := rfl
@[simp] theorem setSa_hw (i : Nat) (a : Sa) (s : State) : (setSa i a s).hw = s.hw := rfl
@[simp] theorem setSa_mem (i : Nat) (a : Sa) (s : State) : (setSa i a s).mem = s.mem := rfl
@[simp] theorem setSa_out (i : Nat) (a : Sa) (s : State) : (setSa i a s).out = s.out := rfl
@[simp] theorem setSa_fresh (i : Nat) (a : Sa) (s : State) : (setSa i a s).fresh = s.fresh := rfl
@[simp] theorem setSa_start (i : Nat) (a : Sa) (s : State) : (setSa i a s).start = s.start := rfl
@[simp] theorem setSa_late (i : Nat) (a : Sa) (s : State) : (setSa i a s).late = s.late := rfl
@[simp] theorem setSa_pending (i : Nat) (a : Sa) (s : State) : (setSa i a s).pending = s.pending := rfl

/-! setDark changes dark alone. -/
@[simp] theorem setDark_beat (d : Dark) (s : State) : (setDark d s).beat = s.beat := rfl
@[simp] theorem setDark_time (d : Dark) (s : State) : (setDark d s).time = s.time := rfl
@[simp] theorem setDark_pins (d : Dark) (s : State) : (setDark d s).pins = s.pins := rfl
@[simp] theorem setDark_net (d : Dark) (s : State) : (setDark d s).net = s.net := rfl
@[simp] theorem setDark_ptime (d : Dark) (s : State) : (setDark d s).ptime = s.ptime := rfl
@[simp] theorem setDark_ports (d : Dark) (s : State) : (setDark d s).ports = s.ports := rfl
@[simp] theorem setDark_egress (d : Dark) (s : State) : (setDark d s).egress = s.egress := rfl
@[simp] theorem setDark_fwd (d : Dark) (s : State) : (setDark d s).fwd = s.fwd := rfl
@[simp] theorem setDark_buf (d : Dark) (s : State) : (setDark d s).buf = s.buf := rfl
@[simp] theorem setDark_str (d : Dark) (s : State) : (setDark d s).str = s.str := rfl
@[simp] theorem setDark_fw (d : Dark) (s : State) : (setDark d s).fw = s.fw := rfl
@[simp] theorem setDark_nm (d : Dark) (s : State) : (setDark d s).nm = s.nm := rfl
@[simp] theorem setDark_gw (d : Dark) (s : State) : (setDark d s).gw = s.gw := rfl
@[simp] theorem setDark_ciph (d : Dark) (s : State) : (setDark d s).ciph = s.ciph := rfl
@[simp] theorem setDark_pair (d : Dark) (s : State) : (setDark d s).pair = s.pair := rfl
@[simp] theorem setDark_sys (d : Dark) (s : State) : (setDark d s).sys = s.sys := rfl
@[simp] theorem setDark_cs (d : Dark) (s : State) : (setDark d s).cs = s.cs := rfl
@[simp] theorem setDark_bridge (d : Dark) (s : State) : (setDark d s).bridge = s.bridge := rfl
@[simp] theorem setDark_mbx (d : Dark) (s : State) : (setDark d s).mbx = s.mbx := rfl
@[simp] theorem setDark_ev (d : Dark) (s : State) : (setDark d s).ev = s.ev := rfl
@[simp] theorem setDark_rings (d : Dark) (s : State) : (setDark d s).rings = s.rings := rfl
@[simp] theorem setDark_regs (d : Dark) (s : State) : (setDark d s).regs = s.regs := rfl
@[simp] theorem setDark_hw (d : Dark) (s : State) : (setDark d s).hw = s.hw := rfl
@[simp] theorem setDark_mem (d : Dark) (s : State) : (setDark d s).mem = s.mem := rfl
@[simp] theorem setDark_out (d : Dark) (s : State) : (setDark d s).out = s.out := rfl
@[simp] theorem setDark_fresh (d : Dark) (s : State) : (setDark d s).fresh = s.fresh := rfl
@[simp] theorem setDark_start (d : Dark) (s : State) : (setDark d s).start = s.start := rfl
@[simp] theorem setDark_late (d : Dark) (s : State) : (setDark d s).late = s.late := rfl
@[simp] theorem setDark_pending (d : Dark) (s : State) : (setDark d s).pending = s.pending := rfl

/-! setCs changes cs alone. -/
@[simp] theorem setCs_beat (c : CsState) (s : State) : (setCs c s).beat = s.beat := rfl
@[simp] theorem setCs_time (c : CsState) (s : State) : (setCs c s).time = s.time := rfl
@[simp] theorem setCs_pins (c : CsState) (s : State) : (setCs c s).pins = s.pins := rfl
@[simp] theorem setCs_net (c : CsState) (s : State) : (setCs c s).net = s.net := rfl
@[simp] theorem setCs_ptime (c : CsState) (s : State) : (setCs c s).ptime = s.ptime := rfl
@[simp] theorem setCs_ports (c : CsState) (s : State) : (setCs c s).ports = s.ports := rfl
@[simp] theorem setCs_egress (c : CsState) (s : State) : (setCs c s).egress = s.egress := rfl
@[simp] theorem setCs_fwd (c : CsState) (s : State) : (setCs c s).fwd = s.fwd := rfl
@[simp] theorem setCs_buf (c : CsState) (s : State) : (setCs c s).buf = s.buf := rfl
@[simp] theorem setCs_str (c : CsState) (s : State) : (setCs c s).str = s.str := rfl
@[simp] theorem setCs_fw (c : CsState) (s : State) : (setCs c s).fw = s.fw := rfl
@[simp] theorem setCs_nm (c : CsState) (s : State) : (setCs c s).nm = s.nm := rfl
@[simp] theorem setCs_gw (c : CsState) (s : State) : (setCs c s).gw = s.gw := rfl
@[simp] theorem setCs_ciph (c : CsState) (s : State) : (setCs c s).ciph = s.ciph := rfl
@[simp] theorem setCs_dark (c : CsState) (s : State) : (setCs c s).dark = s.dark := rfl
@[simp] theorem setCs_pair (c : CsState) (s : State) : (setCs c s).pair = s.pair := rfl
@[simp] theorem setCs_sys (c : CsState) (s : State) : (setCs c s).sys = s.sys := rfl
@[simp] theorem setCs_bridge (c : CsState) (s : State) : (setCs c s).bridge = s.bridge := rfl
@[simp] theorem setCs_mbx (c : CsState) (s : State) : (setCs c s).mbx = s.mbx := rfl
@[simp] theorem setCs_ev (c : CsState) (s : State) : (setCs c s).ev = s.ev := rfl
@[simp] theorem setCs_rings (c : CsState) (s : State) : (setCs c s).rings = s.rings := rfl
@[simp] theorem setCs_regs (c : CsState) (s : State) : (setCs c s).regs = s.regs := rfl
@[simp] theorem setCs_hw (c : CsState) (s : State) : (setCs c s).hw = s.hw := rfl
@[simp] theorem setCs_mem (c : CsState) (s : State) : (setCs c s).mem = s.mem := rfl
@[simp] theorem setCs_out (c : CsState) (s : State) : (setCs c s).out = s.out := rfl
@[simp] theorem setCs_fresh (c : CsState) (s : State) : (setCs c s).fresh = s.fresh := rfl
@[simp] theorem setCs_start (c : CsState) (s : State) : (setCs c s).start = s.start := rfl
@[simp] theorem setCs_late (c : CsState) (s : State) : (setCs c s).late = s.late := rfl
@[simp] theorem setCs_pending (c : CsState) (s : State) : (setCs c s).pending = s.pending := rfl

/-! setTracker changes fw alone. -/
@[simp] theorem setTracker_beat (k : Nat) (r : Rec) (s : State) : (setTracker k r s).beat = s.beat := rfl
@[simp] theorem setTracker_time (k : Nat) (r : Rec) (s : State) : (setTracker k r s).time = s.time := rfl
@[simp] theorem setTracker_pins (k : Nat) (r : Rec) (s : State) : (setTracker k r s).pins = s.pins := rfl
@[simp] theorem setTracker_net (k : Nat) (r : Rec) (s : State) : (setTracker k r s).net = s.net := rfl
@[simp] theorem setTracker_ptime (k : Nat) (r : Rec) (s : State) : (setTracker k r s).ptime = s.ptime := rfl
@[simp] theorem setTracker_ports (k : Nat) (r : Rec) (s : State) : (setTracker k r s).ports = s.ports := rfl
@[simp] theorem setTracker_egress (k : Nat) (r : Rec) (s : State) : (setTracker k r s).egress = s.egress := rfl
@[simp] theorem setTracker_fwd (k : Nat) (r : Rec) (s : State) : (setTracker k r s).fwd = s.fwd := rfl
@[simp] theorem setTracker_buf (k : Nat) (r : Rec) (s : State) : (setTracker k r s).buf = s.buf := rfl
@[simp] theorem setTracker_str (k : Nat) (r : Rec) (s : State) : (setTracker k r s).str = s.str := rfl
@[simp] theorem setTracker_nm (k : Nat) (r : Rec) (s : State) : (setTracker k r s).nm = s.nm := rfl
@[simp] theorem setTracker_gw (k : Nat) (r : Rec) (s : State) : (setTracker k r s).gw = s.gw := rfl
@[simp] theorem setTracker_ciph (k : Nat) (r : Rec) (s : State) : (setTracker k r s).ciph = s.ciph := rfl
@[simp] theorem setTracker_dark (k : Nat) (r : Rec) (s : State) : (setTracker k r s).dark = s.dark := rfl
@[simp] theorem setTracker_pair (k : Nat) (r : Rec) (s : State) : (setTracker k r s).pair = s.pair := rfl
@[simp] theorem setTracker_sys (k : Nat) (r : Rec) (s : State) : (setTracker k r s).sys = s.sys := rfl
@[simp] theorem setTracker_cs (k : Nat) (r : Rec) (s : State) : (setTracker k r s).cs = s.cs := rfl
@[simp] theorem setTracker_bridge (k : Nat) (r : Rec) (s : State) : (setTracker k r s).bridge = s.bridge := rfl
@[simp] theorem setTracker_mbx (k : Nat) (r : Rec) (s : State) : (setTracker k r s).mbx = s.mbx := rfl
@[simp] theorem setTracker_ev (k : Nat) (r : Rec) (s : State) : (setTracker k r s).ev = s.ev := rfl
@[simp] theorem setTracker_rings (k : Nat) (r : Rec) (s : State) : (setTracker k r s).rings = s.rings := rfl
@[simp] theorem setTracker_regs (k : Nat) (r : Rec) (s : State) : (setTracker k r s).regs = s.regs := rfl
@[simp] theorem setTracker_hw (k : Nat) (r : Rec) (s : State) : (setTracker k r s).hw = s.hw := rfl
@[simp] theorem setTracker_mem (k : Nat) (r : Rec) (s : State) : (setTracker k r s).mem = s.mem := rfl
@[simp] theorem setTracker_out (k : Nat) (r : Rec) (s : State) : (setTracker k r s).out = s.out := rfl
@[simp] theorem setTracker_fresh (k : Nat) (r : Rec) (s : State) : (setTracker k r s).fresh = s.fresh := rfl
@[simp] theorem setTracker_start (k : Nat) (r : Rec) (s : State) : (setTracker k r s).start = s.start := rfl
@[simp] theorem setTracker_late (k : Nat) (r : Rec) (s : State) : (setTracker k r s).late = s.late := rfl
@[simp] theorem setTracker_pending (k : Nat) (r : Rec) (s : State) : (setTracker k r s).pending = s.pending := rfl

/-! setPort changes ports alone. -/
@[simp] theorem setPort_beat (n : Nat) (p : Port) (s : State) : (setPort n p s).beat = s.beat := rfl
@[simp] theorem setPort_time (n : Nat) (p : Port) (s : State) : (setPort n p s).time = s.time := rfl
@[simp] theorem setPort_pins (n : Nat) (p : Port) (s : State) : (setPort n p s).pins = s.pins := rfl
@[simp] theorem setPort_net (n : Nat) (p : Port) (s : State) : (setPort n p s).net = s.net := rfl
@[simp] theorem setPort_ptime (n : Nat) (p : Port) (s : State) : (setPort n p s).ptime = s.ptime := rfl
@[simp] theorem setPort_egress (n : Nat) (p : Port) (s : State) : (setPort n p s).egress = s.egress := rfl
@[simp] theorem setPort_fwd (n : Nat) (p : Port) (s : State) : (setPort n p s).fwd = s.fwd := rfl
@[simp] theorem setPort_buf (n : Nat) (p : Port) (s : State) : (setPort n p s).buf = s.buf := rfl
@[simp] theorem setPort_str (n : Nat) (p : Port) (s : State) : (setPort n p s).str = s.str := rfl
@[simp] theorem setPort_fw (n : Nat) (p : Port) (s : State) : (setPort n p s).fw = s.fw := rfl
@[simp] theorem setPort_nm (n : Nat) (p : Port) (s : State) : (setPort n p s).nm = s.nm := rfl
@[simp] theorem setPort_gw (n : Nat) (p : Port) (s : State) : (setPort n p s).gw = s.gw := rfl
@[simp] theorem setPort_ciph (n : Nat) (p : Port) (s : State) : (setPort n p s).ciph = s.ciph := rfl
@[simp] theorem setPort_dark (n : Nat) (p : Port) (s : State) : (setPort n p s).dark = s.dark := rfl
@[simp] theorem setPort_pair (n : Nat) (p : Port) (s : State) : (setPort n p s).pair = s.pair := rfl
@[simp] theorem setPort_sys (n : Nat) (p : Port) (s : State) : (setPort n p s).sys = s.sys := rfl
@[simp] theorem setPort_cs (n : Nat) (p : Port) (s : State) : (setPort n p s).cs = s.cs := rfl
@[simp] theorem setPort_bridge (n : Nat) (p : Port) (s : State) : (setPort n p s).bridge = s.bridge := rfl
@[simp] theorem setPort_mbx (n : Nat) (p : Port) (s : State) : (setPort n p s).mbx = s.mbx := rfl
@[simp] theorem setPort_ev (n : Nat) (p : Port) (s : State) : (setPort n p s).ev = s.ev := rfl
@[simp] theorem setPort_rings (n : Nat) (p : Port) (s : State) : (setPort n p s).rings = s.rings := rfl
@[simp] theorem setPort_regs (n : Nat) (p : Port) (s : State) : (setPort n p s).regs = s.regs := rfl
@[simp] theorem setPort_hw (n : Nat) (p : Port) (s : State) : (setPort n p s).hw = s.hw := rfl
@[simp] theorem setPort_mem (n : Nat) (p : Port) (s : State) : (setPort n p s).mem = s.mem := rfl
@[simp] theorem setPort_out (n : Nat) (p : Port) (s : State) : (setPort n p s).out = s.out := rfl
@[simp] theorem setPort_fresh (n : Nat) (p : Port) (s : State) : (setPort n p s).fresh = s.fresh := rfl
@[simp] theorem setPort_start (n : Nat) (p : Port) (s : State) : (setPort n p s).start = s.start := rfl
@[simp] theorem setPort_late (n : Nat) (p : Port) (s : State) : (setPort n p s).late = s.late := rfl
@[simp] theorem setPort_pending (n : Nat) (p : Port) (s : State) : (setPort n p s).pending = s.pending := rfl

/-! macSet changes fwd alone. -/
@[simp] theorem macSet_beat (k : Nat) (r : Rec) (s : State) : (macSet k r s).beat = s.beat := rfl
@[simp] theorem macSet_time (k : Nat) (r : Rec) (s : State) : (macSet k r s).time = s.time := rfl
@[simp] theorem macSet_pins (k : Nat) (r : Rec) (s : State) : (macSet k r s).pins = s.pins := rfl
@[simp] theorem macSet_net (k : Nat) (r : Rec) (s : State) : (macSet k r s).net = s.net := rfl
@[simp] theorem macSet_ptime (k : Nat) (r : Rec) (s : State) : (macSet k r s).ptime = s.ptime := rfl
@[simp] theorem macSet_ports (k : Nat) (r : Rec) (s : State) : (macSet k r s).ports = s.ports := rfl
@[simp] theorem macSet_egress (k : Nat) (r : Rec) (s : State) : (macSet k r s).egress = s.egress := rfl
@[simp] theorem macSet_buf (k : Nat) (r : Rec) (s : State) : (macSet k r s).buf = s.buf := rfl
@[simp] theorem macSet_str (k : Nat) (r : Rec) (s : State) : (macSet k r s).str = s.str := rfl
@[simp] theorem macSet_fw (k : Nat) (r : Rec) (s : State) : (macSet k r s).fw = s.fw := rfl
@[simp] theorem macSet_nm (k : Nat) (r : Rec) (s : State) : (macSet k r s).nm = s.nm := rfl
@[simp] theorem macSet_gw (k : Nat) (r : Rec) (s : State) : (macSet k r s).gw = s.gw := rfl
@[simp] theorem macSet_ciph (k : Nat) (r : Rec) (s : State) : (macSet k r s).ciph = s.ciph := rfl
@[simp] theorem macSet_dark (k : Nat) (r : Rec) (s : State) : (macSet k r s).dark = s.dark := rfl
@[simp] theorem macSet_pair (k : Nat) (r : Rec) (s : State) : (macSet k r s).pair = s.pair := rfl
@[simp] theorem macSet_sys (k : Nat) (r : Rec) (s : State) : (macSet k r s).sys = s.sys := rfl
@[simp] theorem macSet_cs (k : Nat) (r : Rec) (s : State) : (macSet k r s).cs = s.cs := rfl
@[simp] theorem macSet_bridge (k : Nat) (r : Rec) (s : State) : (macSet k r s).bridge = s.bridge := rfl
@[simp] theorem macSet_mbx (k : Nat) (r : Rec) (s : State) : (macSet k r s).mbx = s.mbx := rfl
@[simp] theorem macSet_ev (k : Nat) (r : Rec) (s : State) : (macSet k r s).ev = s.ev := rfl
@[simp] theorem macSet_rings (k : Nat) (r : Rec) (s : State) : (macSet k r s).rings = s.rings := rfl
@[simp] theorem macSet_regs (k : Nat) (r : Rec) (s : State) : (macSet k r s).regs = s.regs := rfl
@[simp] theorem macSet_hw (k : Nat) (r : Rec) (s : State) : (macSet k r s).hw = s.hw := rfl
@[simp] theorem macSet_mem (k : Nat) (r : Rec) (s : State) : (macSet k r s).mem = s.mem := rfl
@[simp] theorem macSet_out (k : Nat) (r : Rec) (s : State) : (macSet k r s).out = s.out := rfl
@[simp] theorem macSet_fresh (k : Nat) (r : Rec) (s : State) : (macSet k r s).fresh = s.fresh := rfl
@[simp] theorem macSet_start (k : Nat) (r : Rec) (s : State) : (macSet k r s).start = s.start := rfl
@[simp] theorem macSet_late (k : Nat) (r : Rec) (s : State) : (macSet k r s).late = s.late := rfl
@[simp] theorem macSet_pending (k : Nat) (r : Rec) (s : State) : (macSet k r s).pending = s.pending := rfl

/-! setEgress changes egress alone. -/
@[simp] theorem setEgress_beat (p : Nat) (e : Egress) (s : State) : (setEgress p e s).beat = s.beat := rfl
@[simp] theorem setEgress_time (p : Nat) (e : Egress) (s : State) : (setEgress p e s).time = s.time := rfl
@[simp] theorem setEgress_pins (p : Nat) (e : Egress) (s : State) : (setEgress p e s).pins = s.pins := rfl
@[simp] theorem setEgress_net (p : Nat) (e : Egress) (s : State) : (setEgress p e s).net = s.net := rfl
@[simp] theorem setEgress_ptime (p : Nat) (e : Egress) (s : State) : (setEgress p e s).ptime = s.ptime := rfl
@[simp] theorem setEgress_ports (p : Nat) (e : Egress) (s : State) : (setEgress p e s).ports = s.ports := rfl
@[simp] theorem setEgress_fwd (p : Nat) (e : Egress) (s : State) : (setEgress p e s).fwd = s.fwd := rfl
@[simp] theorem setEgress_buf (p : Nat) (e : Egress) (s : State) : (setEgress p e s).buf = s.buf := rfl
@[simp] theorem setEgress_str (p : Nat) (e : Egress) (s : State) : (setEgress p e s).str = s.str := rfl
@[simp] theorem setEgress_fw (p : Nat) (e : Egress) (s : State) : (setEgress p e s).fw = s.fw := rfl
@[simp] theorem setEgress_nm (p : Nat) (e : Egress) (s : State) : (setEgress p e s).nm = s.nm := rfl
@[simp] theorem setEgress_gw (p : Nat) (e : Egress) (s : State) : (setEgress p e s).gw = s.gw := rfl
@[simp] theorem setEgress_ciph (p : Nat) (e : Egress) (s : State) : (setEgress p e s).ciph = s.ciph := rfl
@[simp] theorem setEgress_dark (p : Nat) (e : Egress) (s : State) : (setEgress p e s).dark = s.dark := rfl
@[simp] theorem setEgress_pair (p : Nat) (e : Egress) (s : State) : (setEgress p e s).pair = s.pair := rfl
@[simp] theorem setEgress_sys (p : Nat) (e : Egress) (s : State) : (setEgress p e s).sys = s.sys := rfl
@[simp] theorem setEgress_cs (p : Nat) (e : Egress) (s : State) : (setEgress p e s).cs = s.cs := rfl
@[simp] theorem setEgress_bridge (p : Nat) (e : Egress) (s : State) : (setEgress p e s).bridge = s.bridge := rfl
@[simp] theorem setEgress_mbx (p : Nat) (e : Egress) (s : State) : (setEgress p e s).mbx = s.mbx := rfl
@[simp] theorem setEgress_ev (p : Nat) (e : Egress) (s : State) : (setEgress p e s).ev = s.ev := rfl
@[simp] theorem setEgress_rings (p : Nat) (e : Egress) (s : State) : (setEgress p e s).rings = s.rings := rfl
@[simp] theorem setEgress_regs (p : Nat) (e : Egress) (s : State) : (setEgress p e s).regs = s.regs := rfl
@[simp] theorem setEgress_hw (p : Nat) (e : Egress) (s : State) : (setEgress p e s).hw = s.hw := rfl
@[simp] theorem setEgress_mem (p : Nat) (e : Egress) (s : State) : (setEgress p e s).mem = s.mem := rfl
@[simp] theorem setEgress_out (p : Nat) (e : Egress) (s : State) : (setEgress p e s).out = s.out := rfl
@[simp] theorem setEgress_fresh (p : Nat) (e : Egress) (s : State) : (setEgress p e s).fresh = s.fresh := rfl
@[simp] theorem setEgress_start (p : Nat) (e : Egress) (s : State) : (setEgress p e s).start = s.start := rfl
@[simp] theorem setEgress_late (p : Nat) (e : Egress) (s : State) : (setEgress p e s).late = s.late := rfl
@[simp] theorem setEgress_pending (p : Nat) (e : Egress) (s : State) : (setEgress p e s).pending = s.pending := rfl

/-! setSgate changes str alone. -/
@[simp] theorem setSgate_beat (i : Nat) (g : StreamGate) (s : State) : (setSgate i g s).beat = s.beat := rfl
@[simp] theorem setSgate_time (i : Nat) (g : StreamGate) (s : State) : (setSgate i g s).time = s.time := rfl
@[simp] theorem setSgate_pins (i : Nat) (g : StreamGate) (s : State) : (setSgate i g s).pins = s.pins := rfl
@[simp] theorem setSgate_net (i : Nat) (g : StreamGate) (s : State) : (setSgate i g s).net = s.net := rfl
@[simp] theorem setSgate_ptime (i : Nat) (g : StreamGate) (s : State) : (setSgate i g s).ptime = s.ptime := rfl
@[simp] theorem setSgate_ports (i : Nat) (g : StreamGate) (s : State) : (setSgate i g s).ports = s.ports := rfl
@[simp] theorem setSgate_egress (i : Nat) (g : StreamGate) (s : State) : (setSgate i g s).egress = s.egress := rfl
@[simp] theorem setSgate_fwd (i : Nat) (g : StreamGate) (s : State) : (setSgate i g s).fwd = s.fwd := rfl
@[simp] theorem setSgate_buf (i : Nat) (g : StreamGate) (s : State) : (setSgate i g s).buf = s.buf := rfl
@[simp] theorem setSgate_fw (i : Nat) (g : StreamGate) (s : State) : (setSgate i g s).fw = s.fw := rfl
@[simp] theorem setSgate_nm (i : Nat) (g : StreamGate) (s : State) : (setSgate i g s).nm = s.nm := rfl
@[simp] theorem setSgate_gw (i : Nat) (g : StreamGate) (s : State) : (setSgate i g s).gw = s.gw := rfl
@[simp] theorem setSgate_ciph (i : Nat) (g : StreamGate) (s : State) : (setSgate i g s).ciph = s.ciph := rfl
@[simp] theorem setSgate_dark (i : Nat) (g : StreamGate) (s : State) : (setSgate i g s).dark = s.dark := rfl
@[simp] theorem setSgate_pair (i : Nat) (g : StreamGate) (s : State) : (setSgate i g s).pair = s.pair := rfl
@[simp] theorem setSgate_sys (i : Nat) (g : StreamGate) (s : State) : (setSgate i g s).sys = s.sys := rfl
@[simp] theorem setSgate_cs (i : Nat) (g : StreamGate) (s : State) : (setSgate i g s).cs = s.cs := rfl
@[simp] theorem setSgate_bridge (i : Nat) (g : StreamGate) (s : State) : (setSgate i g s).bridge = s.bridge := rfl
@[simp] theorem setSgate_mbx (i : Nat) (g : StreamGate) (s : State) : (setSgate i g s).mbx = s.mbx := rfl
@[simp] theorem setSgate_ev (i : Nat) (g : StreamGate) (s : State) : (setSgate i g s).ev = s.ev := rfl
@[simp] theorem setSgate_rings (i : Nat) (g : StreamGate) (s : State) : (setSgate i g s).rings = s.rings := rfl
@[simp] theorem setSgate_regs (i : Nat) (g : StreamGate) (s : State) : (setSgate i g s).regs = s.regs := rfl
@[simp] theorem setSgate_hw (i : Nat) (g : StreamGate) (s : State) : (setSgate i g s).hw = s.hw := rfl
@[simp] theorem setSgate_mem (i : Nat) (g : StreamGate) (s : State) : (setSgate i g s).mem = s.mem := rfl
@[simp] theorem setSgate_out (i : Nat) (g : StreamGate) (s : State) : (setSgate i g s).out = s.out := rfl
@[simp] theorem setSgate_fresh (i : Nat) (g : StreamGate) (s : State) : (setSgate i g s).fresh = s.fresh := rfl
@[simp] theorem setSgate_start (i : Nat) (g : StreamGate) (s : State) : (setSgate i g s).start = s.start := rfl
@[simp] theorem setSgate_late (i : Nat) (g : StreamGate) (s : State) : (setSgate i g s).late = s.late := rfl
@[simp] theorem setSgate_pending (i : Nat) (g : StreamGate) (s : State) : (setSgate i g s).pending = s.pending := rfl

/-! setCan changes gw alone. -/
@[simp] theorem setCan_beat (b : Nat) (c : Can) (s : State) : (setCan b c s).beat = s.beat := rfl
@[simp] theorem setCan_time (b : Nat) (c : Can) (s : State) : (setCan b c s).time = s.time := rfl
@[simp] theorem setCan_pins (b : Nat) (c : Can) (s : State) : (setCan b c s).pins = s.pins := rfl
@[simp] theorem setCan_net (b : Nat) (c : Can) (s : State) : (setCan b c s).net = s.net := rfl
@[simp] theorem setCan_ptime (b : Nat) (c : Can) (s : State) : (setCan b c s).ptime = s.ptime := rfl
@[simp] theorem setCan_ports (b : Nat) (c : Can) (s : State) : (setCan b c s).ports = s.ports := rfl
@[simp] theorem setCan_egress (b : Nat) (c : Can) (s : State) : (setCan b c s).egress = s.egress := rfl
@[simp] theorem setCan_fwd (b : Nat) (c : Can) (s : State) : (setCan b c s).fwd = s.fwd := rfl
@[simp] theorem setCan_buf (b : Nat) (c : Can) (s : State) : (setCan b c s).buf = s.buf := rfl
@[simp] theorem setCan_str (b : Nat) (c : Can) (s : State) : (setCan b c s).str = s.str := rfl
@[simp] theorem setCan_fw (b : Nat) (c : Can) (s : State) : (setCan b c s).fw = s.fw := rfl
@[simp] theorem setCan_nm (b : Nat) (c : Can) (s : State) : (setCan b c s).nm = s.nm := rfl
@[simp] theorem setCan_ciph (b : Nat) (c : Can) (s : State) : (setCan b c s).ciph = s.ciph := rfl
@[simp] theorem setCan_dark (b : Nat) (c : Can) (s : State) : (setCan b c s).dark = s.dark := rfl
@[simp] theorem setCan_pair (b : Nat) (c : Can) (s : State) : (setCan b c s).pair = s.pair := rfl
@[simp] theorem setCan_sys (b : Nat) (c : Can) (s : State) : (setCan b c s).sys = s.sys := rfl
@[simp] theorem setCan_cs (b : Nat) (c : Can) (s : State) : (setCan b c s).cs = s.cs := rfl
@[simp] theorem setCan_bridge (b : Nat) (c : Can) (s : State) : (setCan b c s).bridge = s.bridge := rfl
@[simp] theorem setCan_mbx (b : Nat) (c : Can) (s : State) : (setCan b c s).mbx = s.mbx := rfl
@[simp] theorem setCan_ev (b : Nat) (c : Can) (s : State) : (setCan b c s).ev = s.ev := rfl
@[simp] theorem setCan_rings (b : Nat) (c : Can) (s : State) : (setCan b c s).rings = s.rings := rfl
@[simp] theorem setCan_regs (b : Nat) (c : Can) (s : State) : (setCan b c s).regs = s.regs := rfl
@[simp] theorem setCan_hw (b : Nat) (c : Can) (s : State) : (setCan b c s).hw = s.hw := rfl
@[simp] theorem setCan_mem (b : Nat) (c : Can) (s : State) : (setCan b c s).mem = s.mem := rfl
@[simp] theorem setCan_out (b : Nat) (c : Can) (s : State) : (setCan b c s).out = s.out := rfl
@[simp] theorem setCan_fresh (b : Nat) (c : Can) (s : State) : (setCan b c s).fresh = s.fresh := rfl
@[simp] theorem setCan_start (b : Nat) (c : Can) (s : State) : (setCan b c s).start = s.start := rfl
@[simp] theorem setCan_late (b : Nat) (c : Can) (s : State) : (setCan b c s).late = s.late := rfl
@[simp] theorem setCan_pending (b : Nat) (c : Can) (s : State) : (setCan b c s).pending = s.pending := rfl

/-! setLin changes gw alone. -/
@[simp] theorem setLin_beat (b : Nat) (l : Lin) (s : State) : (setLin b l s).beat = s.beat := rfl
@[simp] theorem setLin_time (b : Nat) (l : Lin) (s : State) : (setLin b l s).time = s.time := rfl
@[simp] theorem setLin_pins (b : Nat) (l : Lin) (s : State) : (setLin b l s).pins = s.pins := rfl
@[simp] theorem setLin_net (b : Nat) (l : Lin) (s : State) : (setLin b l s).net = s.net := rfl
@[simp] theorem setLin_ptime (b : Nat) (l : Lin) (s : State) : (setLin b l s).ptime = s.ptime := rfl
@[simp] theorem setLin_ports (b : Nat) (l : Lin) (s : State) : (setLin b l s).ports = s.ports := rfl
@[simp] theorem setLin_egress (b : Nat) (l : Lin) (s : State) : (setLin b l s).egress = s.egress := rfl
@[simp] theorem setLin_fwd (b : Nat) (l : Lin) (s : State) : (setLin b l s).fwd = s.fwd := rfl
@[simp] theorem setLin_buf (b : Nat) (l : Lin) (s : State) : (setLin b l s).buf = s.buf := rfl
@[simp] theorem setLin_str (b : Nat) (l : Lin) (s : State) : (setLin b l s).str = s.str := rfl
@[simp] theorem setLin_fw (b : Nat) (l : Lin) (s : State) : (setLin b l s).fw = s.fw := rfl
@[simp] theorem setLin_nm (b : Nat) (l : Lin) (s : State) : (setLin b l s).nm = s.nm := rfl
@[simp] theorem setLin_ciph (b : Nat) (l : Lin) (s : State) : (setLin b l s).ciph = s.ciph := rfl
@[simp] theorem setLin_dark (b : Nat) (l : Lin) (s : State) : (setLin b l s).dark = s.dark := rfl
@[simp] theorem setLin_pair (b : Nat) (l : Lin) (s : State) : (setLin b l s).pair = s.pair := rfl
@[simp] theorem setLin_sys (b : Nat) (l : Lin) (s : State) : (setLin b l s).sys = s.sys := rfl
@[simp] theorem setLin_cs (b : Nat) (l : Lin) (s : State) : (setLin b l s).cs = s.cs := rfl
@[simp] theorem setLin_bridge (b : Nat) (l : Lin) (s : State) : (setLin b l s).bridge = s.bridge := rfl
@[simp] theorem setLin_mbx (b : Nat) (l : Lin) (s : State) : (setLin b l s).mbx = s.mbx := rfl
@[simp] theorem setLin_ev (b : Nat) (l : Lin) (s : State) : (setLin b l s).ev = s.ev := rfl
@[simp] theorem setLin_rings (b : Nat) (l : Lin) (s : State) : (setLin b l s).rings = s.rings := rfl
@[simp] theorem setLin_regs (b : Nat) (l : Lin) (s : State) : (setLin b l s).regs = s.regs := rfl
@[simp] theorem setLin_hw (b : Nat) (l : Lin) (s : State) : (setLin b l s).hw = s.hw := rfl
@[simp] theorem setLin_mem (b : Nat) (l : Lin) (s : State) : (setLin b l s).mem = s.mem := rfl
@[simp] theorem setLin_out (b : Nat) (l : Lin) (s : State) : (setLin b l s).out = s.out := rfl
@[simp] theorem setLin_fresh (b : Nat) (l : Lin) (s : State) : (setLin b l s).fresh = s.fresh := rfl
@[simp] theorem setLin_start (b : Nat) (l : Lin) (s : State) : (setLin b l s).start = s.start := rfl
@[simp] theorem setLin_late (b : Nat) (l : Lin) (s : State) : (setLin b l s).late = s.late := rfl
@[simp] theorem setLin_pending (b : Nat) (l : Lin) (s : State) : (setLin b l s).pending = s.pending := rfl

/-! setTunnel changes gw alone. -/
@[simp] theorem setTunnel_beat (i : Nat) (t : Tunnel) (s : State) : (setTunnel i t s).beat = s.beat := rfl
@[simp] theorem setTunnel_time (i : Nat) (t : Tunnel) (s : State) : (setTunnel i t s).time = s.time := rfl
@[simp] theorem setTunnel_pins (i : Nat) (t : Tunnel) (s : State) : (setTunnel i t s).pins = s.pins := rfl
@[simp] theorem setTunnel_net (i : Nat) (t : Tunnel) (s : State) : (setTunnel i t s).net = s.net := rfl
@[simp] theorem setTunnel_ptime (i : Nat) (t : Tunnel) (s : State) : (setTunnel i t s).ptime = s.ptime := rfl
@[simp] theorem setTunnel_ports (i : Nat) (t : Tunnel) (s : State) : (setTunnel i t s).ports = s.ports := rfl
@[simp] theorem setTunnel_egress (i : Nat) (t : Tunnel) (s : State) : (setTunnel i t s).egress = s.egress := rfl
@[simp] theorem setTunnel_fwd (i : Nat) (t : Tunnel) (s : State) : (setTunnel i t s).fwd = s.fwd := rfl
@[simp] theorem setTunnel_buf (i : Nat) (t : Tunnel) (s : State) : (setTunnel i t s).buf = s.buf := rfl
@[simp] theorem setTunnel_str (i : Nat) (t : Tunnel) (s : State) : (setTunnel i t s).str = s.str := rfl
@[simp] theorem setTunnel_fw (i : Nat) (t : Tunnel) (s : State) : (setTunnel i t s).fw = s.fw := rfl
@[simp] theorem setTunnel_nm (i : Nat) (t : Tunnel) (s : State) : (setTunnel i t s).nm = s.nm := rfl
@[simp] theorem setTunnel_ciph (i : Nat) (t : Tunnel) (s : State) : (setTunnel i t s).ciph = s.ciph := rfl
@[simp] theorem setTunnel_dark (i : Nat) (t : Tunnel) (s : State) : (setTunnel i t s).dark = s.dark := rfl
@[simp] theorem setTunnel_pair (i : Nat) (t : Tunnel) (s : State) : (setTunnel i t s).pair = s.pair := rfl
@[simp] theorem setTunnel_sys (i : Nat) (t : Tunnel) (s : State) : (setTunnel i t s).sys = s.sys := rfl
@[simp] theorem setTunnel_cs (i : Nat) (t : Tunnel) (s : State) : (setTunnel i t s).cs = s.cs := rfl
@[simp] theorem setTunnel_bridge (i : Nat) (t : Tunnel) (s : State) : (setTunnel i t s).bridge = s.bridge := rfl
@[simp] theorem setTunnel_mbx (i : Nat) (t : Tunnel) (s : State) : (setTunnel i t s).mbx = s.mbx := rfl
@[simp] theorem setTunnel_ev (i : Nat) (t : Tunnel) (s : State) : (setTunnel i t s).ev = s.ev := rfl
@[simp] theorem setTunnel_rings (i : Nat) (t : Tunnel) (s : State) : (setTunnel i t s).rings = s.rings := rfl
@[simp] theorem setTunnel_regs (i : Nat) (t : Tunnel) (s : State) : (setTunnel i t s).regs = s.regs := rfl
@[simp] theorem setTunnel_hw (i : Nat) (t : Tunnel) (s : State) : (setTunnel i t s).hw = s.hw := rfl
@[simp] theorem setTunnel_mem (i : Nat) (t : Tunnel) (s : State) : (setTunnel i t s).mem = s.mem := rfl
@[simp] theorem setTunnel_out (i : Nat) (t : Tunnel) (s : State) : (setTunnel i t s).out = s.out := rfl
@[simp] theorem setTunnel_fresh (i : Nat) (t : Tunnel) (s : State) : (setTunnel i t s).fresh = s.fresh := rfl
@[simp] theorem setTunnel_start (i : Nat) (t : Tunnel) (s : State) : (setTunnel i t s).start = s.start := rfl
@[simp] theorem setTunnel_late (i : Nat) (t : Tunnel) (s : State) : (setTunnel i t s).late = s.late := rfl
@[simp] theorem setTunnel_pending (i : Nat) (t : Tunnel) (s : State) : (setTunnel i t s).pending = s.pending := rfl

/-! gwAwait changes gw alone. -/
@[simp] theorem gwAwait_beat (w : GwWait) (s : State) : (gwAwait w s).beat = s.beat := rfl
@[simp] theorem gwAwait_time (w : GwWait) (s : State) : (gwAwait w s).time = s.time := rfl
@[simp] theorem gwAwait_pins (w : GwWait) (s : State) : (gwAwait w s).pins = s.pins := rfl
@[simp] theorem gwAwait_net (w : GwWait) (s : State) : (gwAwait w s).net = s.net := rfl
@[simp] theorem gwAwait_ptime (w : GwWait) (s : State) : (gwAwait w s).ptime = s.ptime := rfl
@[simp] theorem gwAwait_ports (w : GwWait) (s : State) : (gwAwait w s).ports = s.ports := rfl
@[simp] theorem gwAwait_egress (w : GwWait) (s : State) : (gwAwait w s).egress = s.egress := rfl
@[simp] theorem gwAwait_fwd (w : GwWait) (s : State) : (gwAwait w s).fwd = s.fwd := rfl
@[simp] theorem gwAwait_buf (w : GwWait) (s : State) : (gwAwait w s).buf = s.buf := rfl
@[simp] theorem gwAwait_str (w : GwWait) (s : State) : (gwAwait w s).str = s.str := rfl
@[simp] theorem gwAwait_fw (w : GwWait) (s : State) : (gwAwait w s).fw = s.fw := rfl
@[simp] theorem gwAwait_nm (w : GwWait) (s : State) : (gwAwait w s).nm = s.nm := rfl
@[simp] theorem gwAwait_ciph (w : GwWait) (s : State) : (gwAwait w s).ciph = s.ciph := rfl
@[simp] theorem gwAwait_dark (w : GwWait) (s : State) : (gwAwait w s).dark = s.dark := rfl
@[simp] theorem gwAwait_pair (w : GwWait) (s : State) : (gwAwait w s).pair = s.pair := rfl
@[simp] theorem gwAwait_sys (w : GwWait) (s : State) : (gwAwait w s).sys = s.sys := rfl
@[simp] theorem gwAwait_cs (w : GwWait) (s : State) : (gwAwait w s).cs = s.cs := rfl
@[simp] theorem gwAwait_bridge (w : GwWait) (s : State) : (gwAwait w s).bridge = s.bridge := rfl
@[simp] theorem gwAwait_mbx (w : GwWait) (s : State) : (gwAwait w s).mbx = s.mbx := rfl
@[simp] theorem gwAwait_ev (w : GwWait) (s : State) : (gwAwait w s).ev = s.ev := rfl
@[simp] theorem gwAwait_rings (w : GwWait) (s : State) : (gwAwait w s).rings = s.rings := rfl
@[simp] theorem gwAwait_regs (w : GwWait) (s : State) : (gwAwait w s).regs = s.regs := rfl
@[simp] theorem gwAwait_hw (w : GwWait) (s : State) : (gwAwait w s).hw = s.hw := rfl
@[simp] theorem gwAwait_mem (w : GwWait) (s : State) : (gwAwait w s).mem = s.mem := rfl
@[simp] theorem gwAwait_out (w : GwWait) (s : State) : (gwAwait w s).out = s.out := rfl
@[simp] theorem gwAwait_fresh (w : GwWait) (s : State) : (gwAwait w s).fresh = s.fresh := rfl
@[simp] theorem gwAwait_start (w : GwWait) (s : State) : (gwAwait w s).start = s.start := rfl
@[simp] theorem gwAwait_late (w : GwWait) (s : State) : (gwAwait w s).late = s.late := rfl
@[simp] theorem gwAwait_pending (w : GwWait) (s : State) : (gwAwait w s).pending = s.pending := rfl

/-! setFresh changes gw alone. -/
@[simp] theorem setFresh_beat (e v : Nat) (s : State) : (setFresh e v s).beat = s.beat := rfl
@[simp] theorem setFresh_time (e v : Nat) (s : State) : (setFresh e v s).time = s.time := rfl
@[simp] theorem setFresh_pins (e v : Nat) (s : State) : (setFresh e v s).pins = s.pins := rfl
@[simp] theorem setFresh_net (e v : Nat) (s : State) : (setFresh e v s).net = s.net := rfl
@[simp] theorem setFresh_ptime (e v : Nat) (s : State) : (setFresh e v s).ptime = s.ptime := rfl
@[simp] theorem setFresh_ports (e v : Nat) (s : State) : (setFresh e v s).ports = s.ports := rfl
@[simp] theorem setFresh_egress (e v : Nat) (s : State) : (setFresh e v s).egress = s.egress := rfl
@[simp] theorem setFresh_fwd (e v : Nat) (s : State) : (setFresh e v s).fwd = s.fwd := rfl
@[simp] theorem setFresh_buf (e v : Nat) (s : State) : (setFresh e v s).buf = s.buf := rfl
@[simp] theorem setFresh_str (e v : Nat) (s : State) : (setFresh e v s).str = s.str := rfl
@[simp] theorem setFresh_fw (e v : Nat) (s : State) : (setFresh e v s).fw = s.fw := rfl
@[simp] theorem setFresh_nm (e v : Nat) (s : State) : (setFresh e v s).nm = s.nm := rfl
@[simp] theorem setFresh_ciph (e v : Nat) (s : State) : (setFresh e v s).ciph = s.ciph := rfl
@[simp] theorem setFresh_dark (e v : Nat) (s : State) : (setFresh e v s).dark = s.dark := rfl
@[simp] theorem setFresh_pair (e v : Nat) (s : State) : (setFresh e v s).pair = s.pair := rfl
@[simp] theorem setFresh_sys (e v : Nat) (s : State) : (setFresh e v s).sys = s.sys := rfl
@[simp] theorem setFresh_cs (e v : Nat) (s : State) : (setFresh e v s).cs = s.cs := rfl
@[simp] theorem setFresh_bridge (e v : Nat) (s : State) : (setFresh e v s).bridge = s.bridge := rfl
@[simp] theorem setFresh_mbx (e v : Nat) (s : State) : (setFresh e v s).mbx = s.mbx := rfl
@[simp] theorem setFresh_ev (e v : Nat) (s : State) : (setFresh e v s).ev = s.ev := rfl
@[simp] theorem setFresh_rings (e v : Nat) (s : State) : (setFresh e v s).rings = s.rings := rfl
@[simp] theorem setFresh_regs (e v : Nat) (s : State) : (setFresh e v s).regs = s.regs := rfl
@[simp] theorem setFresh_hw (e v : Nat) (s : State) : (setFresh e v s).hw = s.hw := rfl
@[simp] theorem setFresh_mem (e v : Nat) (s : State) : (setFresh e v s).mem = s.mem := rfl
@[simp] theorem setFresh_out (e v : Nat) (s : State) : (setFresh e v s).out = s.out := rfl
@[simp] theorem setFresh_fresh (e v : Nat) (s : State) : (setFresh e v s).fresh = s.fresh := rfl
@[simp] theorem setFresh_start (e v : Nat) (s : State) : (setFresh e v s).start = s.start := rfl
@[simp] theorem setFresh_late (e v : Nat) (s : State) : (setFresh e v s).late = s.late := rfl
@[simp] theorem setFresh_pending (e v : Nat) (s : State) : (setFresh e v s).pending = s.pending := rfl

/-! setSlot changes net alone. -/
@[simp] theorem setSlot_beat (i : Nat) (v : Slot) (s : State) : (setSlot i v s).beat = s.beat := rfl
@[simp] theorem setSlot_time (i : Nat) (v : Slot) (s : State) : (setSlot i v s).time = s.time := rfl
@[simp] theorem setSlot_pins (i : Nat) (v : Slot) (s : State) : (setSlot i v s).pins = s.pins := rfl
@[simp] theorem setSlot_ptime (i : Nat) (v : Slot) (s : State) : (setSlot i v s).ptime = s.ptime := rfl
@[simp] theorem setSlot_ports (i : Nat) (v : Slot) (s : State) : (setSlot i v s).ports = s.ports := rfl
@[simp] theorem setSlot_egress (i : Nat) (v : Slot) (s : State) : (setSlot i v s).egress = s.egress := rfl
@[simp] theorem setSlot_fwd (i : Nat) (v : Slot) (s : State) : (setSlot i v s).fwd = s.fwd := rfl
@[simp] theorem setSlot_buf (i : Nat) (v : Slot) (s : State) : (setSlot i v s).buf = s.buf := rfl
@[simp] theorem setSlot_str (i : Nat) (v : Slot) (s : State) : (setSlot i v s).str = s.str := rfl
@[simp] theorem setSlot_fw (i : Nat) (v : Slot) (s : State) : (setSlot i v s).fw = s.fw := rfl
@[simp] theorem setSlot_nm (i : Nat) (v : Slot) (s : State) : (setSlot i v s).nm = s.nm := rfl
@[simp] theorem setSlot_gw (i : Nat) (v : Slot) (s : State) : (setSlot i v s).gw = s.gw := rfl
@[simp] theorem setSlot_ciph (i : Nat) (v : Slot) (s : State) : (setSlot i v s).ciph = s.ciph := rfl
@[simp] theorem setSlot_dark (i : Nat) (v : Slot) (s : State) : (setSlot i v s).dark = s.dark := rfl
@[simp] theorem setSlot_pair (i : Nat) (v : Slot) (s : State) : (setSlot i v s).pair = s.pair := rfl
@[simp] theorem setSlot_sys (i : Nat) (v : Slot) (s : State) : (setSlot i v s).sys = s.sys := rfl
@[simp] theorem setSlot_cs (i : Nat) (v : Slot) (s : State) : (setSlot i v s).cs = s.cs := rfl
@[simp] theorem setSlot_bridge (i : Nat) (v : Slot) (s : State) : (setSlot i v s).bridge = s.bridge := rfl
@[simp] theorem setSlot_mbx (i : Nat) (v : Slot) (s : State) : (setSlot i v s).mbx = s.mbx := rfl
@[simp] theorem setSlot_ev (i : Nat) (v : Slot) (s : State) : (setSlot i v s).ev = s.ev := rfl
@[simp] theorem setSlot_rings (i : Nat) (v : Slot) (s : State) : (setSlot i v s).rings = s.rings := rfl
@[simp] theorem setSlot_regs (i : Nat) (v : Slot) (s : State) : (setSlot i v s).regs = s.regs := rfl
@[simp] theorem setSlot_hw (i : Nat) (v : Slot) (s : State) : (setSlot i v s).hw = s.hw := rfl
@[simp] theorem setSlot_mem (i : Nat) (v : Slot) (s : State) : (setSlot i v s).mem = s.mem := rfl
@[simp] theorem setSlot_out (i : Nat) (v : Slot) (s : State) : (setSlot i v s).out = s.out := rfl
@[simp] theorem setSlot_fresh (i : Nat) (v : Slot) (s : State) : (setSlot i v s).fresh = s.fresh := rfl
@[simp] theorem setSlot_start (i : Nat) (v : Slot) (s : State) : (setSlot i v s).start = s.start := rfl
@[simp] theorem setSlot_late (i : Nat) (v : Slot) (s : State) : (setSlot i v s).late = s.late := rfl
@[simp] theorem setSlot_pending (i : Nat) (v : Slot) (s : State) : (setSlot i v s).pending = s.pending := rfl

/-! setPortTime changes net alone. -/
@[simp] theorem setPortTime_beat (p : Nat) (v : PortTime) (s : State) : (setPortTime p v s).beat = s.beat := rfl
@[simp] theorem setPortTime_time (p : Nat) (v : PortTime) (s : State) : (setPortTime p v s).time = s.time := rfl
@[simp] theorem setPortTime_pins (p : Nat) (v : PortTime) (s : State) : (setPortTime p v s).pins = s.pins := rfl
@[simp] theorem setPortTime_ptime (p : Nat) (v : PortTime) (s : State) : (setPortTime p v s).ptime = s.ptime := rfl
@[simp] theorem setPortTime_ports (p : Nat) (v : PortTime) (s : State) : (setPortTime p v s).ports = s.ports := rfl
@[simp] theorem setPortTime_egress (p : Nat) (v : PortTime) (s : State) : (setPortTime p v s).egress = s.egress := rfl
@[simp] theorem setPortTime_fwd (p : Nat) (v : PortTime) (s : State) : (setPortTime p v s).fwd = s.fwd := rfl
@[simp] theorem setPortTime_buf (p : Nat) (v : PortTime) (s : State) : (setPortTime p v s).buf = s.buf := rfl
@[simp] theorem setPortTime_str (p : Nat) (v : PortTime) (s : State) : (setPortTime p v s).str = s.str := rfl
@[simp] theorem setPortTime_fw (p : Nat) (v : PortTime) (s : State) : (setPortTime p v s).fw = s.fw := rfl
@[simp] theorem setPortTime_nm (p : Nat) (v : PortTime) (s : State) : (setPortTime p v s).nm = s.nm := rfl
@[simp] theorem setPortTime_gw (p : Nat) (v : PortTime) (s : State) : (setPortTime p v s).gw = s.gw := rfl
@[simp] theorem setPortTime_ciph (p : Nat) (v : PortTime) (s : State) : (setPortTime p v s).ciph = s.ciph := rfl
@[simp] theorem setPortTime_dark (p : Nat) (v : PortTime) (s : State) : (setPortTime p v s).dark = s.dark := rfl
@[simp] theorem setPortTime_pair (p : Nat) (v : PortTime) (s : State) : (setPortTime p v s).pair = s.pair := rfl
@[simp] theorem setPortTime_sys (p : Nat) (v : PortTime) (s : State) : (setPortTime p v s).sys = s.sys := rfl
@[simp] theorem setPortTime_cs (p : Nat) (v : PortTime) (s : State) : (setPortTime p v s).cs = s.cs := rfl
@[simp] theorem setPortTime_bridge (p : Nat) (v : PortTime) (s : State) : (setPortTime p v s).bridge = s.bridge := rfl
@[simp] theorem setPortTime_mbx (p : Nat) (v : PortTime) (s : State) : (setPortTime p v s).mbx = s.mbx := rfl
@[simp] theorem setPortTime_ev (p : Nat) (v : PortTime) (s : State) : (setPortTime p v s).ev = s.ev := rfl
@[simp] theorem setPortTime_rings (p : Nat) (v : PortTime) (s : State) : (setPortTime p v s).rings = s.rings := rfl
@[simp] theorem setPortTime_regs (p : Nat) (v : PortTime) (s : State) : (setPortTime p v s).regs = s.regs := rfl
@[simp] theorem setPortTime_hw (p : Nat) (v : PortTime) (s : State) : (setPortTime p v s).hw = s.hw := rfl
@[simp] theorem setPortTime_mem (p : Nat) (v : PortTime) (s : State) : (setPortTime p v s).mem = s.mem := rfl
@[simp] theorem setPortTime_out (p : Nat) (v : PortTime) (s : State) : (setPortTime p v s).out = s.out := rfl
@[simp] theorem setPortTime_fresh (p : Nat) (v : PortTime) (s : State) : (setPortTime p v s).fresh = s.fresh := rfl
@[simp] theorem setPortTime_start (p : Nat) (v : PortTime) (s : State) : (setPortTime p v s).start = s.start := rfl
@[simp] theorem setPortTime_late (p : Nat) (v : PortTime) (s : State) : (setPortTime p v s).late = s.late := rfl
@[simp] theorem setPortTime_pending (p : Nat) (v : PortTime) (s : State) : (setPortTime p v s).pending = s.pending := rfl

/-! setSeg changes nm alone. -/
@[simp] theorem setSeg_beat (i : Nat) (g : Segment) (s : State) : (setSeg i g s).beat = s.beat := rfl
@[simp] theorem setSeg_time (i : Nat) (g : Segment) (s : State) : (setSeg i g s).time = s.time := rfl
@[simp] theorem setSeg_pins (i : Nat) (g : Segment) (s : State) : (setSeg i g s).pins = s.pins := rfl
@[simp] theorem setSeg_net (i : Nat) (g : Segment) (s : State) : (setSeg i g s).net = s.net := rfl
@[simp] theorem setSeg_ptime (i : Nat) (g : Segment) (s : State) : (setSeg i g s).ptime = s.ptime := rfl
@[simp] theorem setSeg_ports (i : Nat) (g : Segment) (s : State) : (setSeg i g s).ports = s.ports := rfl
@[simp] theorem setSeg_egress (i : Nat) (g : Segment) (s : State) : (setSeg i g s).egress = s.egress := rfl
@[simp] theorem setSeg_fwd (i : Nat) (g : Segment) (s : State) : (setSeg i g s).fwd = s.fwd := rfl
@[simp] theorem setSeg_buf (i : Nat) (g : Segment) (s : State) : (setSeg i g s).buf = s.buf := rfl
@[simp] theorem setSeg_str (i : Nat) (g : Segment) (s : State) : (setSeg i g s).str = s.str := rfl
@[simp] theorem setSeg_fw (i : Nat) (g : Segment) (s : State) : (setSeg i g s).fw = s.fw := rfl
@[simp] theorem setSeg_gw (i : Nat) (g : Segment) (s : State) : (setSeg i g s).gw = s.gw := rfl
@[simp] theorem setSeg_ciph (i : Nat) (g : Segment) (s : State) : (setSeg i g s).ciph = s.ciph := rfl
@[simp] theorem setSeg_dark (i : Nat) (g : Segment) (s : State) : (setSeg i g s).dark = s.dark := rfl
@[simp] theorem setSeg_pair (i : Nat) (g : Segment) (s : State) : (setSeg i g s).pair = s.pair := rfl
@[simp] theorem setSeg_sys (i : Nat) (g : Segment) (s : State) : (setSeg i g s).sys = s.sys := rfl
@[simp] theorem setSeg_cs (i : Nat) (g : Segment) (s : State) : (setSeg i g s).cs = s.cs := rfl
@[simp] theorem setSeg_bridge (i : Nat) (g : Segment) (s : State) : (setSeg i g s).bridge = s.bridge := rfl
@[simp] theorem setSeg_mbx (i : Nat) (g : Segment) (s : State) : (setSeg i g s).mbx = s.mbx := rfl
@[simp] theorem setSeg_ev (i : Nat) (g : Segment) (s : State) : (setSeg i g s).ev = s.ev := rfl
@[simp] theorem setSeg_rings (i : Nat) (g : Segment) (s : State) : (setSeg i g s).rings = s.rings := rfl
@[simp] theorem setSeg_regs (i : Nat) (g : Segment) (s : State) : (setSeg i g s).regs = s.regs := rfl
@[simp] theorem setSeg_hw (i : Nat) (g : Segment) (s : State) : (setSeg i g s).hw = s.hw := rfl
@[simp] theorem setSeg_mem (i : Nat) (g : Segment) (s : State) : (setSeg i g s).mem = s.mem := rfl
@[simp] theorem setSeg_out (i : Nat) (g : Segment) (s : State) : (setSeg i g s).out = s.out := rfl
@[simp] theorem setSeg_fresh (i : Nat) (g : Segment) (s : State) : (setSeg i g s).fresh = s.fresh := rfl
@[simp] theorem setSeg_start (i : Nat) (g : Segment) (s : State) : (setSeg i g s).start = s.start := rfl
@[simp] theorem setSeg_late (i : Nat) (g : Segment) (s : State) : (setSeg i g s).late = s.late := rfl
@[simp] theorem setSeg_pending (i : Nat) (g : Segment) (s : State) : (setSeg i g s).pending = s.pending := rfl

/-! setSource changes nm alone. -/
@[simp] theorem setSource_beat (i : Nat) (v : WakeSource) (s : State) : (setSource i v s).beat = s.beat := rfl
@[simp] theorem setSource_time (i : Nat) (v : WakeSource) (s : State) : (setSource i v s).time = s.time := rfl
@[simp] theorem setSource_pins (i : Nat) (v : WakeSource) (s : State) : (setSource i v s).pins = s.pins := rfl
@[simp] theorem setSource_net (i : Nat) (v : WakeSource) (s : State) : (setSource i v s).net = s.net := rfl
@[simp] theorem setSource_ptime (i : Nat) (v : WakeSource) (s : State) : (setSource i v s).ptime = s.ptime := rfl
@[simp] theorem setSource_ports (i : Nat) (v : WakeSource) (s : State) : (setSource i v s).ports = s.ports := rfl
@[simp] theorem setSource_egress (i : Nat) (v : WakeSource) (s : State) : (setSource i v s).egress = s.egress := rfl
@[simp] theorem setSource_fwd (i : Nat) (v : WakeSource) (s : State) : (setSource i v s).fwd = s.fwd := rfl
@[simp] theorem setSource_buf (i : Nat) (v : WakeSource) (s : State) : (setSource i v s).buf = s.buf := rfl
@[simp] theorem setSource_str (i : Nat) (v : WakeSource) (s : State) : (setSource i v s).str = s.str := rfl
@[simp] theorem setSource_fw (i : Nat) (v : WakeSource) (s : State) : (setSource i v s).fw = s.fw := rfl
@[simp] theorem setSource_gw (i : Nat) (v : WakeSource) (s : State) : (setSource i v s).gw = s.gw := rfl
@[simp] theorem setSource_ciph (i : Nat) (v : WakeSource) (s : State) : (setSource i v s).ciph = s.ciph := rfl
@[simp] theorem setSource_dark (i : Nat) (v : WakeSource) (s : State) : (setSource i v s).dark = s.dark := rfl
@[simp] theorem setSource_pair (i : Nat) (v : WakeSource) (s : State) : (setSource i v s).pair = s.pair := rfl
@[simp] theorem setSource_sys (i : Nat) (v : WakeSource) (s : State) : (setSource i v s).sys = s.sys := rfl
@[simp] theorem setSource_cs (i : Nat) (v : WakeSource) (s : State) : (setSource i v s).cs = s.cs := rfl
@[simp] theorem setSource_bridge (i : Nat) (v : WakeSource) (s : State) : (setSource i v s).bridge = s.bridge := rfl
@[simp] theorem setSource_mbx (i : Nat) (v : WakeSource) (s : State) : (setSource i v s).mbx = s.mbx := rfl
@[simp] theorem setSource_ev (i : Nat) (v : WakeSource) (s : State) : (setSource i v s).ev = s.ev := rfl
@[simp] theorem setSource_rings (i : Nat) (v : WakeSource) (s : State) : (setSource i v s).rings = s.rings := rfl
@[simp] theorem setSource_regs (i : Nat) (v : WakeSource) (s : State) : (setSource i v s).regs = s.regs := rfl
@[simp] theorem setSource_hw (i : Nat) (v : WakeSource) (s : State) : (setSource i v s).hw = s.hw := rfl
@[simp] theorem setSource_mem (i : Nat) (v : WakeSource) (s : State) : (setSource i v s).mem = s.mem := rfl
@[simp] theorem setSource_out (i : Nat) (v : WakeSource) (s : State) : (setSource i v s).out = s.out := rfl
@[simp] theorem setSource_fresh (i : Nat) (v : WakeSource) (s : State) : (setSource i v s).fresh = s.fresh := rfl
@[simp] theorem setSource_start (i : Nat) (v : WakeSource) (s : State) : (setSource i v s).start = s.start := rfl
@[simp] theorem setSource_late (i : Nat) (v : WakeSource) (s : State) : (setSource i v s).late = s.late := rfl
@[simp] theorem setSource_pending (i : Nat) (v : WakeSource) (s : State) : (setSource i v s).pending = s.pending := rfl

/-! emit changes out alone. -/
@[simp] theorem emit_beat (o : Output) (s : State) : (emit o s).beat = s.beat := rfl
@[simp] theorem emit_time (o : Output) (s : State) : (emit o s).time = s.time := rfl
@[simp] theorem emit_pins (o : Output) (s : State) : (emit o s).pins = s.pins := rfl
@[simp] theorem emit_net (o : Output) (s : State) : (emit o s).net = s.net := rfl
@[simp] theorem emit_ptime (o : Output) (s : State) : (emit o s).ptime = s.ptime := rfl
@[simp] theorem emit_ports (o : Output) (s : State) : (emit o s).ports = s.ports := rfl
@[simp] theorem emit_egress (o : Output) (s : State) : (emit o s).egress = s.egress := rfl
@[simp] theorem emit_fwd (o : Output) (s : State) : (emit o s).fwd = s.fwd := rfl
@[simp] theorem emit_buf (o : Output) (s : State) : (emit o s).buf = s.buf := rfl
@[simp] theorem emit_str (o : Output) (s : State) : (emit o s).str = s.str := rfl
@[simp] theorem emit_fw (o : Output) (s : State) : (emit o s).fw = s.fw := rfl
@[simp] theorem emit_nm (o : Output) (s : State) : (emit o s).nm = s.nm := rfl
@[simp] theorem emit_gw (o : Output) (s : State) : (emit o s).gw = s.gw := rfl
@[simp] theorem emit_ciph (o : Output) (s : State) : (emit o s).ciph = s.ciph := rfl
@[simp] theorem emit_dark (o : Output) (s : State) : (emit o s).dark = s.dark := rfl
@[simp] theorem emit_pair (o : Output) (s : State) : (emit o s).pair = s.pair := rfl
@[simp] theorem emit_sys (o : Output) (s : State) : (emit o s).sys = s.sys := rfl
@[simp] theorem emit_cs (o : Output) (s : State) : (emit o s).cs = s.cs := rfl
@[simp] theorem emit_bridge (o : Output) (s : State) : (emit o s).bridge = s.bridge := rfl
@[simp] theorem emit_mbx (o : Output) (s : State) : (emit o s).mbx = s.mbx := rfl
@[simp] theorem emit_ev (o : Output) (s : State) : (emit o s).ev = s.ev := rfl
@[simp] theorem emit_rings (o : Output) (s : State) : (emit o s).rings = s.rings := rfl
@[simp] theorem emit_regs (o : Output) (s : State) : (emit o s).regs = s.regs := rfl
@[simp] theorem emit_hw (o : Output) (s : State) : (emit o s).hw = s.hw := rfl
@[simp] theorem emit_mem (o : Output) (s : State) : (emit o s).mem = s.mem := rfl
@[simp] theorem emit_fresh (o : Output) (s : State) : (emit o s).fresh = s.fresh := rfl
@[simp] theorem emit_start (o : Output) (s : State) : (emit o s).start = s.start := rfl
@[simp] theorem emit_late (o : Output) (s : State) : (emit o s).late = s.late := rfl
@[simp] theorem emit_pending (o : Output) (s : State) : (emit o s).pending = s.pending := rfl

/-! regSet changes regs alone. -/
@[simp] theorem regSet_beat (off : Nat) (v : Word) (s : State) : (regSet off v s).beat = s.beat := rfl
@[simp] theorem regSet_time (off : Nat) (v : Word) (s : State) : (regSet off v s).time = s.time := rfl
@[simp] theorem regSet_pins (off : Nat) (v : Word) (s : State) : (regSet off v s).pins = s.pins := rfl
@[simp] theorem regSet_net (off : Nat) (v : Word) (s : State) : (regSet off v s).net = s.net := rfl
@[simp] theorem regSet_ptime (off : Nat) (v : Word) (s : State) : (regSet off v s).ptime = s.ptime := rfl
@[simp] theorem regSet_ports (off : Nat) (v : Word) (s : State) : (regSet off v s).ports = s.ports := rfl
@[simp] theorem regSet_egress (off : Nat) (v : Word) (s : State) : (regSet off v s).egress = s.egress := rfl
@[simp] theorem regSet_fwd (off : Nat) (v : Word) (s : State) : (regSet off v s).fwd = s.fwd := rfl
@[simp] theorem regSet_buf (off : Nat) (v : Word) (s : State) : (regSet off v s).buf = s.buf := rfl
@[simp] theorem regSet_str (off : Nat) (v : Word) (s : State) : (regSet off v s).str = s.str := rfl
@[simp] theorem regSet_fw (off : Nat) (v : Word) (s : State) : (regSet off v s).fw = s.fw := rfl
@[simp] theorem regSet_nm (off : Nat) (v : Word) (s : State) : (regSet off v s).nm = s.nm := rfl
@[simp] theorem regSet_gw (off : Nat) (v : Word) (s : State) : (regSet off v s).gw = s.gw := rfl
@[simp] theorem regSet_ciph (off : Nat) (v : Word) (s : State) : (regSet off v s).ciph = s.ciph := rfl
@[simp] theorem regSet_dark (off : Nat) (v : Word) (s : State) : (regSet off v s).dark = s.dark := rfl
@[simp] theorem regSet_pair (off : Nat) (v : Word) (s : State) : (regSet off v s).pair = s.pair := rfl
@[simp] theorem regSet_sys (off : Nat) (v : Word) (s : State) : (regSet off v s).sys = s.sys := rfl
@[simp] theorem regSet_cs (off : Nat) (v : Word) (s : State) : (regSet off v s).cs = s.cs := rfl
@[simp] theorem regSet_bridge (off : Nat) (v : Word) (s : State) : (regSet off v s).bridge = s.bridge := rfl
@[simp] theorem regSet_mbx (off : Nat) (v : Word) (s : State) : (regSet off v s).mbx = s.mbx := rfl
@[simp] theorem regSet_ev (off : Nat) (v : Word) (s : State) : (regSet off v s).ev = s.ev := rfl
@[simp] theorem regSet_rings (off : Nat) (v : Word) (s : State) : (regSet off v s).rings = s.rings := rfl
@[simp] theorem regSet_hw (off : Nat) (v : Word) (s : State) : (regSet off v s).hw = s.hw := rfl
@[simp] theorem regSet_mem (off : Nat) (v : Word) (s : State) : (regSet off v s).mem = s.mem := rfl
@[simp] theorem regSet_out (off : Nat) (v : Word) (s : State) : (regSet off v s).out = s.out := rfl
@[simp] theorem regSet_fresh (off : Nat) (v : Word) (s : State) : (regSet off v s).fresh = s.fresh := rfl
@[simp] theorem regSet_start (off : Nat) (v : Word) (s : State) : (regSet off v s).start = s.start := rfl
@[simp] theorem regSet_late (off : Nat) (v : Word) (s : State) : (regSet off v s).late = s.late := rfl
@[simp] theorem regSet_pending (off : Nat) (v : Word) (s : State) : (regSet off v s).pending = s.pending := rfl

/-! memSet changes mem alone. -/
@[simp] theorem memSet_beat (a : Nat) (b : Byte) (s : State) : (memSet a b s).beat = s.beat := rfl
@[simp] theorem memSet_time (a : Nat) (b : Byte) (s : State) : (memSet a b s).time = s.time := rfl
@[simp] theorem memSet_pins (a : Nat) (b : Byte) (s : State) : (memSet a b s).pins = s.pins := rfl
@[simp] theorem memSet_net (a : Nat) (b : Byte) (s : State) : (memSet a b s).net = s.net := rfl
@[simp] theorem memSet_ptime (a : Nat) (b : Byte) (s : State) : (memSet a b s).ptime = s.ptime := rfl
@[simp] theorem memSet_ports (a : Nat) (b : Byte) (s : State) : (memSet a b s).ports = s.ports := rfl
@[simp] theorem memSet_egress (a : Nat) (b : Byte) (s : State) : (memSet a b s).egress = s.egress := rfl
@[simp] theorem memSet_fwd (a : Nat) (b : Byte) (s : State) : (memSet a b s).fwd = s.fwd := rfl
@[simp] theorem memSet_buf (a : Nat) (b : Byte) (s : State) : (memSet a b s).buf = s.buf := rfl
@[simp] theorem memSet_str (a : Nat) (b : Byte) (s : State) : (memSet a b s).str = s.str := rfl
@[simp] theorem memSet_fw (a : Nat) (b : Byte) (s : State) : (memSet a b s).fw = s.fw := rfl
@[simp] theorem memSet_nm (a : Nat) (b : Byte) (s : State) : (memSet a b s).nm = s.nm := rfl
@[simp] theorem memSet_gw (a : Nat) (b : Byte) (s : State) : (memSet a b s).gw = s.gw := rfl
@[simp] theorem memSet_ciph (a : Nat) (b : Byte) (s : State) : (memSet a b s).ciph = s.ciph := rfl
@[simp] theorem memSet_dark (a : Nat) (b : Byte) (s : State) : (memSet a b s).dark = s.dark := rfl
@[simp] theorem memSet_pair (a : Nat) (b : Byte) (s : State) : (memSet a b s).pair = s.pair := rfl
@[simp] theorem memSet_sys (a : Nat) (b : Byte) (s : State) : (memSet a b s).sys = s.sys := rfl
@[simp] theorem memSet_cs (a : Nat) (b : Byte) (s : State) : (memSet a b s).cs = s.cs := rfl
@[simp] theorem memSet_bridge (a : Nat) (b : Byte) (s : State) : (memSet a b s).bridge = s.bridge := rfl
@[simp] theorem memSet_mbx (a : Nat) (b : Byte) (s : State) : (memSet a b s).mbx = s.mbx := rfl
@[simp] theorem memSet_ev (a : Nat) (b : Byte) (s : State) : (memSet a b s).ev = s.ev := rfl
@[simp] theorem memSet_rings (a : Nat) (b : Byte) (s : State) : (memSet a b s).rings = s.rings := rfl
@[simp] theorem memSet_regs (a : Nat) (b : Byte) (s : State) : (memSet a b s).regs = s.regs := rfl
@[simp] theorem memSet_hw (a : Nat) (b : Byte) (s : State) : (memSet a b s).hw = s.hw := rfl
@[simp] theorem memSet_out (a : Nat) (b : Byte) (s : State) : (memSet a b s).out = s.out := rfl
@[simp] theorem memSet_fresh (a : Nat) (b : Byte) (s : State) : (memSet a b s).fresh = s.fresh := rfl
@[simp] theorem memSet_start (a : Nat) (b : Byte) (s : State) : (memSet a b s).start = s.start := rfl
@[simp] theorem memSet_late (a : Nat) (b : Byte) (s : State) : (memSet a b s).late = s.late := rfl
@[simp] theorem memSet_pending (a : Nat) (b : Byte) (s : State) : (memSet a b s).pending = s.pending := rfl

/-! setBox changes mbx alone. -/
@[simp] theorem setBox_beat (m : Nat) (b : Mailbox) (s : State) : (setBox m b s).beat = s.beat := rfl
@[simp] theorem setBox_time (m : Nat) (b : Mailbox) (s : State) : (setBox m b s).time = s.time := rfl
@[simp] theorem setBox_pins (m : Nat) (b : Mailbox) (s : State) : (setBox m b s).pins = s.pins := rfl
@[simp] theorem setBox_net (m : Nat) (b : Mailbox) (s : State) : (setBox m b s).net = s.net := rfl
@[simp] theorem setBox_ptime (m : Nat) (b : Mailbox) (s : State) : (setBox m b s).ptime = s.ptime := rfl
@[simp] theorem setBox_ports (m : Nat) (b : Mailbox) (s : State) : (setBox m b s).ports = s.ports := rfl
@[simp] theorem setBox_egress (m : Nat) (b : Mailbox) (s : State) : (setBox m b s).egress = s.egress := rfl
@[simp] theorem setBox_fwd (m : Nat) (b : Mailbox) (s : State) : (setBox m b s).fwd = s.fwd := rfl
@[simp] theorem setBox_buf (m : Nat) (b : Mailbox) (s : State) : (setBox m b s).buf = s.buf := rfl
@[simp] theorem setBox_str (m : Nat) (b : Mailbox) (s : State) : (setBox m b s).str = s.str := rfl
@[simp] theorem setBox_fw (m : Nat) (b : Mailbox) (s : State) : (setBox m b s).fw = s.fw := rfl
@[simp] theorem setBox_nm (m : Nat) (b : Mailbox) (s : State) : (setBox m b s).nm = s.nm := rfl
@[simp] theorem setBox_gw (m : Nat) (b : Mailbox) (s : State) : (setBox m b s).gw = s.gw := rfl
@[simp] theorem setBox_ciph (m : Nat) (b : Mailbox) (s : State) : (setBox m b s).ciph = s.ciph := rfl
@[simp] theorem setBox_dark (m : Nat) (b : Mailbox) (s : State) : (setBox m b s).dark = s.dark := rfl
@[simp] theorem setBox_pair (m : Nat) (b : Mailbox) (s : State) : (setBox m b s).pair = s.pair := rfl
@[simp] theorem setBox_sys (m : Nat) (b : Mailbox) (s : State) : (setBox m b s).sys = s.sys := rfl
@[simp] theorem setBox_cs (m : Nat) (b : Mailbox) (s : State) : (setBox m b s).cs = s.cs := rfl
@[simp] theorem setBox_bridge (m : Nat) (b : Mailbox) (s : State) : (setBox m b s).bridge = s.bridge := rfl
@[simp] theorem setBox_ev (m : Nat) (b : Mailbox) (s : State) : (setBox m b s).ev = s.ev := rfl
@[simp] theorem setBox_rings (m : Nat) (b : Mailbox) (s : State) : (setBox m b s).rings = s.rings := rfl
@[simp] theorem setBox_regs (m : Nat) (b : Mailbox) (s : State) : (setBox m b s).regs = s.regs := rfl
@[simp] theorem setBox_hw (m : Nat) (b : Mailbox) (s : State) : (setBox m b s).hw = s.hw := rfl
@[simp] theorem setBox_mem (m : Nat) (b : Mailbox) (s : State) : (setBox m b s).mem = s.mem := rfl
@[simp] theorem setBox_out (m : Nat) (b : Mailbox) (s : State) : (setBox m b s).out = s.out := rfl
@[simp] theorem setBox_fresh (m : Nat) (b : Mailbox) (s : State) : (setBox m b s).fresh = s.fresh := rfl
@[simp] theorem setBox_start (m : Nat) (b : Mailbox) (s : State) : (setBox m b s).start = s.start := rfl
@[simp] theorem setBox_late (m : Nat) (b : Mailbox) (s : State) : (setBox m b s).late = s.late := rfl
@[simp] theorem setBox_pending (m : Nat) (b : Mailbox) (s : State) : (setBox m b s).pending = s.pending := rfl

/-! setPair changes pair alone. -/
@[simp] theorem setPair_beat (p : Pair) (s : State) : (setPair p s).beat = s.beat := rfl
@[simp] theorem setPair_time (p : Pair) (s : State) : (setPair p s).time = s.time := rfl
@[simp] theorem setPair_pins (p : Pair) (s : State) : (setPair p s).pins = s.pins := rfl
@[simp] theorem setPair_net (p : Pair) (s : State) : (setPair p s).net = s.net := rfl
@[simp] theorem setPair_ptime (p : Pair) (s : State) : (setPair p s).ptime = s.ptime := rfl
@[simp] theorem setPair_ports (p : Pair) (s : State) : (setPair p s).ports = s.ports := rfl
@[simp] theorem setPair_egress (p : Pair) (s : State) : (setPair p s).egress = s.egress := rfl
@[simp] theorem setPair_fwd (p : Pair) (s : State) : (setPair p s).fwd = s.fwd := rfl
@[simp] theorem setPair_buf (p : Pair) (s : State) : (setPair p s).buf = s.buf := rfl
@[simp] theorem setPair_str (p : Pair) (s : State) : (setPair p s).str = s.str := rfl
@[simp] theorem setPair_fw (p : Pair) (s : State) : (setPair p s).fw = s.fw := rfl
@[simp] theorem setPair_nm (p : Pair) (s : State) : (setPair p s).nm = s.nm := rfl
@[simp] theorem setPair_gw (p : Pair) (s : State) : (setPair p s).gw = s.gw := rfl
@[simp] theorem setPair_ciph (p : Pair) (s : State) : (setPair p s).ciph = s.ciph := rfl
@[simp] theorem setPair_dark (p : Pair) (s : State) : (setPair p s).dark = s.dark := rfl
@[simp] theorem setPair_sys (p : Pair) (s : State) : (setPair p s).sys = s.sys := rfl
@[simp] theorem setPair_cs (p : Pair) (s : State) : (setPair p s).cs = s.cs := rfl
@[simp] theorem setPair_bridge (p : Pair) (s : State) : (setPair p s).bridge = s.bridge := rfl
@[simp] theorem setPair_mbx (p : Pair) (s : State) : (setPair p s).mbx = s.mbx := rfl
@[simp] theorem setPair_ev (p : Pair) (s : State) : (setPair p s).ev = s.ev := rfl
@[simp] theorem setPair_rings (p : Pair) (s : State) : (setPair p s).rings = s.rings := rfl
@[simp] theorem setPair_regs (p : Pair) (s : State) : (setPair p s).regs = s.regs := rfl
@[simp] theorem setPair_hw (p : Pair) (s : State) : (setPair p s).hw = s.hw := rfl
@[simp] theorem setPair_mem (p : Pair) (s : State) : (setPair p s).mem = s.mem := rfl
@[simp] theorem setPair_out (p : Pair) (s : State) : (setPair p s).out = s.out := rfl
@[simp] theorem setPair_fresh (p : Pair) (s : State) : (setPair p s).fresh = s.fresh := rfl
@[simp] theorem setPair_start (p : Pair) (s : State) : (setPair p s).start = s.start := rfl
@[simp] theorem setPair_late (p : Pair) (s : State) : (setPair p s).late = s.late := rfl
@[simp] theorem setPair_pending (p : Pair) (s : State) : (setPair p s).pending = s.pending := rfl

/-! setPow changes sys alone. -/
@[simp] theorem setPow_beat (f : PowerState → PowerState) (s : State) : (setPow f s).beat = s.beat := rfl
@[simp] theorem setPow_time (f : PowerState → PowerState) (s : State) : (setPow f s).time = s.time := rfl
@[simp] theorem setPow_pins (f : PowerState → PowerState) (s : State) : (setPow f s).pins = s.pins := rfl
@[simp] theorem setPow_net (f : PowerState → PowerState) (s : State) : (setPow f s).net = s.net := rfl
@[simp] theorem setPow_ptime (f : PowerState → PowerState) (s : State) : (setPow f s).ptime = s.ptime := rfl
@[simp] theorem setPow_ports (f : PowerState → PowerState) (s : State) : (setPow f s).ports = s.ports := rfl
@[simp] theorem setPow_egress (f : PowerState → PowerState) (s : State) : (setPow f s).egress = s.egress := rfl
@[simp] theorem setPow_fwd (f : PowerState → PowerState) (s : State) : (setPow f s).fwd = s.fwd := rfl
@[simp] theorem setPow_buf (f : PowerState → PowerState) (s : State) : (setPow f s).buf = s.buf := rfl
@[simp] theorem setPow_str (f : PowerState → PowerState) (s : State) : (setPow f s).str = s.str := rfl
@[simp] theorem setPow_fw (f : PowerState → PowerState) (s : State) : (setPow f s).fw = s.fw := rfl
@[simp] theorem setPow_nm (f : PowerState → PowerState) (s : State) : (setPow f s).nm = s.nm := rfl
@[simp] theorem setPow_gw (f : PowerState → PowerState) (s : State) : (setPow f s).gw = s.gw := rfl
@[simp] theorem setPow_ciph (f : PowerState → PowerState) (s : State) : (setPow f s).ciph = s.ciph := rfl
@[simp] theorem setPow_dark (f : PowerState → PowerState) (s : State) : (setPow f s).dark = s.dark := rfl
@[simp] theorem setPow_pair (f : PowerState → PowerState) (s : State) : (setPow f s).pair = s.pair := rfl
@[simp] theorem setPow_cs (f : PowerState → PowerState) (s : State) : (setPow f s).cs = s.cs := rfl
@[simp] theorem setPow_bridge (f : PowerState → PowerState) (s : State) : (setPow f s).bridge = s.bridge := rfl
@[simp] theorem setPow_mbx (f : PowerState → PowerState) (s : State) : (setPow f s).mbx = s.mbx := rfl
@[simp] theorem setPow_ev (f : PowerState → PowerState) (s : State) : (setPow f s).ev = s.ev := rfl
@[simp] theorem setPow_rings (f : PowerState → PowerState) (s : State) : (setPow f s).rings = s.rings := rfl
@[simp] theorem setPow_regs (f : PowerState → PowerState) (s : State) : (setPow f s).regs = s.regs := rfl
@[simp] theorem setPow_hw (f : PowerState → PowerState) (s : State) : (setPow f s).hw = s.hw := rfl
@[simp] theorem setPow_mem (f : PowerState → PowerState) (s : State) : (setPow f s).mem = s.mem := rfl
@[simp] theorem setPow_out (f : PowerState → PowerState) (s : State) : (setPow f s).out = s.out := rfl
@[simp] theorem setPow_fresh (f : PowerState → PowerState) (s : State) : (setPow f s).fresh = s.fresh := rfl
@[simp] theorem setPow_start (f : PowerState → PowerState) (s : State) : (setPow f s).start = s.start := rfl
@[simp] theorem setPow_late (f : PowerState → PowerState) (s : State) : (setPow f s).late = s.late := rfl
@[simp] theorem setPow_pending (f : PowerState → PowerState) (s : State) : (setPow f s).pending = s.pending := rfl

/-! setFw changes sys alone. -/
@[simp] theorem setFw_beat (f : FwState → FwState) (s : State) : (setFw f s).beat = s.beat := rfl
@[simp] theorem setFw_time (f : FwState → FwState) (s : State) : (setFw f s).time = s.time := rfl
@[simp] theorem setFw_pins (f : FwState → FwState) (s : State) : (setFw f s).pins = s.pins := rfl
@[simp] theorem setFw_net (f : FwState → FwState) (s : State) : (setFw f s).net = s.net := rfl
@[simp] theorem setFw_ptime (f : FwState → FwState) (s : State) : (setFw f s).ptime = s.ptime := rfl
@[simp] theorem setFw_ports (f : FwState → FwState) (s : State) : (setFw f s).ports = s.ports := rfl
@[simp] theorem setFw_egress (f : FwState → FwState) (s : State) : (setFw f s).egress = s.egress := rfl
@[simp] theorem setFw_fwd (f : FwState → FwState) (s : State) : (setFw f s).fwd = s.fwd := rfl
@[simp] theorem setFw_buf (f : FwState → FwState) (s : State) : (setFw f s).buf = s.buf := rfl
@[simp] theorem setFw_str (f : FwState → FwState) (s : State) : (setFw f s).str = s.str := rfl
@[simp] theorem setFw_fw (f : FwState → FwState) (s : State) : (setFw f s).fw = s.fw := rfl
@[simp] theorem setFw_nm (f : FwState → FwState) (s : State) : (setFw f s).nm = s.nm := rfl
@[simp] theorem setFw_gw (f : FwState → FwState) (s : State) : (setFw f s).gw = s.gw := rfl
@[simp] theorem setFw_ciph (f : FwState → FwState) (s : State) : (setFw f s).ciph = s.ciph := rfl
@[simp] theorem setFw_dark (f : FwState → FwState) (s : State) : (setFw f s).dark = s.dark := rfl
@[simp] theorem setFw_pair (f : FwState → FwState) (s : State) : (setFw f s).pair = s.pair := rfl
@[simp] theorem setFw_cs (f : FwState → FwState) (s : State) : (setFw f s).cs = s.cs := rfl
@[simp] theorem setFw_bridge (f : FwState → FwState) (s : State) : (setFw f s).bridge = s.bridge := rfl
@[simp] theorem setFw_mbx (f : FwState → FwState) (s : State) : (setFw f s).mbx = s.mbx := rfl
@[simp] theorem setFw_ev (f : FwState → FwState) (s : State) : (setFw f s).ev = s.ev := rfl
@[simp] theorem setFw_rings (f : FwState → FwState) (s : State) : (setFw f s).rings = s.rings := rfl
@[simp] theorem setFw_regs (f : FwState → FwState) (s : State) : (setFw f s).regs = s.regs := rfl
@[simp] theorem setFw_hw (f : FwState → FwState) (s : State) : (setFw f s).hw = s.hw := rfl
@[simp] theorem setFw_mem (f : FwState → FwState) (s : State) : (setFw f s).mem = s.mem := rfl
@[simp] theorem setFw_out (f : FwState → FwState) (s : State) : (setFw f s).out = s.out := rfl
@[simp] theorem setFw_fresh (f : FwState → FwState) (s : State) : (setFw f s).fresh = s.fresh := rfl
@[simp] theorem setFw_start (f : FwState → FwState) (s : State) : (setFw f s).start = s.start := rfl
@[simp] theorem setFw_late (f : FwState → FwState) (s : State) : (setFw f s).late = s.late := rfl
@[simp] theorem setFw_pending (f : FwState → FwState) (s : State) : (setFw f s).pending = s.pending := rfl

/-! setCore changes sys alone. -/
@[simp] theorem setCore_beat (f : CoreState → CoreState) (s : State) : (setCore f s).beat = s.beat := rfl
@[simp] theorem setCore_time (f : CoreState → CoreState) (s : State) : (setCore f s).time = s.time := rfl
@[simp] theorem setCore_pins (f : CoreState → CoreState) (s : State) : (setCore f s).pins = s.pins := rfl
@[simp] theorem setCore_net (f : CoreState → CoreState) (s : State) : (setCore f s).net = s.net := rfl
@[simp] theorem setCore_ptime (f : CoreState → CoreState) (s : State) : (setCore f s).ptime = s.ptime := rfl
@[simp] theorem setCore_ports (f : CoreState → CoreState) (s : State) : (setCore f s).ports = s.ports := rfl
@[simp] theorem setCore_egress (f : CoreState → CoreState) (s : State) : (setCore f s).egress = s.egress := rfl
@[simp] theorem setCore_fwd (f : CoreState → CoreState) (s : State) : (setCore f s).fwd = s.fwd := rfl
@[simp] theorem setCore_buf (f : CoreState → CoreState) (s : State) : (setCore f s).buf = s.buf := rfl
@[simp] theorem setCore_str (f : CoreState → CoreState) (s : State) : (setCore f s).str = s.str := rfl
@[simp] theorem setCore_fw (f : CoreState → CoreState) (s : State) : (setCore f s).fw = s.fw := rfl
@[simp] theorem setCore_nm (f : CoreState → CoreState) (s : State) : (setCore f s).nm = s.nm := rfl
@[simp] theorem setCore_gw (f : CoreState → CoreState) (s : State) : (setCore f s).gw = s.gw := rfl
@[simp] theorem setCore_ciph (f : CoreState → CoreState) (s : State) : (setCore f s).ciph = s.ciph := rfl
@[simp] theorem setCore_dark (f : CoreState → CoreState) (s : State) : (setCore f s).dark = s.dark := rfl
@[simp] theorem setCore_pair (f : CoreState → CoreState) (s : State) : (setCore f s).pair = s.pair := rfl
@[simp] theorem setCore_cs (f : CoreState → CoreState) (s : State) : (setCore f s).cs = s.cs := rfl
@[simp] theorem setCore_bridge (f : CoreState → CoreState) (s : State) : (setCore f s).bridge = s.bridge := rfl
@[simp] theorem setCore_mbx (f : CoreState → CoreState) (s : State) : (setCore f s).mbx = s.mbx := rfl
@[simp] theorem setCore_ev (f : CoreState → CoreState) (s : State) : (setCore f s).ev = s.ev := rfl
@[simp] theorem setCore_rings (f : CoreState → CoreState) (s : State) : (setCore f s).rings = s.rings := rfl
@[simp] theorem setCore_regs (f : CoreState → CoreState) (s : State) : (setCore f s).regs = s.regs := rfl
@[simp] theorem setCore_hw (f : CoreState → CoreState) (s : State) : (setCore f s).hw = s.hw := rfl
@[simp] theorem setCore_mem (f : CoreState → CoreState) (s : State) : (setCore f s).mem = s.mem := rfl
@[simp] theorem setCore_out (f : CoreState → CoreState) (s : State) : (setCore f s).out = s.out := rfl
@[simp] theorem setCore_fresh (f : CoreState → CoreState) (s : State) : (setCore f s).fresh = s.fresh := rfl
@[simp] theorem setCore_start (f : CoreState → CoreState) (s : State) : (setCore f s).start = s.start := rfl
@[simp] theorem setCore_late (f : CoreState → CoreState) (s : State) : (setCore f s).late = s.late := rfl
@[simp] theorem setCore_pending (f : CoreState → CoreState) (s : State) : (setCore f s).pending = s.pending := rfl

/-! setTest changes sys alone. -/
@[simp] theorem setTest_beat (f : TestState → TestState) (s : State) : (setTest f s).beat = s.beat := rfl
@[simp] theorem setTest_time (f : TestState → TestState) (s : State) : (setTest f s).time = s.time := rfl
@[simp] theorem setTest_pins (f : TestState → TestState) (s : State) : (setTest f s).pins = s.pins := rfl
@[simp] theorem setTest_net (f : TestState → TestState) (s : State) : (setTest f s).net = s.net := rfl
@[simp] theorem setTest_ptime (f : TestState → TestState) (s : State) : (setTest f s).ptime = s.ptime := rfl
@[simp] theorem setTest_ports (f : TestState → TestState) (s : State) : (setTest f s).ports = s.ports := rfl
@[simp] theorem setTest_egress (f : TestState → TestState) (s : State) : (setTest f s).egress = s.egress := rfl
@[simp] theorem setTest_fwd (f : TestState → TestState) (s : State) : (setTest f s).fwd = s.fwd := rfl
@[simp] theorem setTest_buf (f : TestState → TestState) (s : State) : (setTest f s).buf = s.buf := rfl
@[simp] theorem setTest_str (f : TestState → TestState) (s : State) : (setTest f s).str = s.str := rfl
@[simp] theorem setTest_fw (f : TestState → TestState) (s : State) : (setTest f s).fw = s.fw := rfl
@[simp] theorem setTest_nm (f : TestState → TestState) (s : State) : (setTest f s).nm = s.nm := rfl
@[simp] theorem setTest_gw (f : TestState → TestState) (s : State) : (setTest f s).gw = s.gw := rfl
@[simp] theorem setTest_ciph (f : TestState → TestState) (s : State) : (setTest f s).ciph = s.ciph := rfl
@[simp] theorem setTest_dark (f : TestState → TestState) (s : State) : (setTest f s).dark = s.dark := rfl
@[simp] theorem setTest_pair (f : TestState → TestState) (s : State) : (setTest f s).pair = s.pair := rfl
@[simp] theorem setTest_cs (f : TestState → TestState) (s : State) : (setTest f s).cs = s.cs := rfl
@[simp] theorem setTest_bridge (f : TestState → TestState) (s : State) : (setTest f s).bridge = s.bridge := rfl
@[simp] theorem setTest_mbx (f : TestState → TestState) (s : State) : (setTest f s).mbx = s.mbx := rfl
@[simp] theorem setTest_ev (f : TestState → TestState) (s : State) : (setTest f s).ev = s.ev := rfl
@[simp] theorem setTest_rings (f : TestState → TestState) (s : State) : (setTest f s).rings = s.rings := rfl
@[simp] theorem setTest_regs (f : TestState → TestState) (s : State) : (setTest f s).regs = s.regs := rfl
@[simp] theorem setTest_hw (f : TestState → TestState) (s : State) : (setTest f s).hw = s.hw := rfl
@[simp] theorem setTest_mem (f : TestState → TestState) (s : State) : (setTest f s).mem = s.mem := rfl
@[simp] theorem setTest_out (f : TestState → TestState) (s : State) : (setTest f s).out = s.out := rfl
@[simp] theorem setTest_fresh (f : TestState → TestState) (s : State) : (setTest f s).fresh = s.fresh := rfl
@[simp] theorem setTest_start (f : TestState → TestState) (s : State) : (setTest f s).start = s.start := rfl
@[simp] theorem setTest_late (f : TestState → TestState) (s : State) : (setTest f s).late = s.late := rfl
@[simp] theorem setTest_pending (f : TestState → TestState) (s : State) : (setTest f s).pending = s.pending := rfl

/-! setSem changes bridge alone. -/
@[simp] theorem setSem_beat (i : Nat) (x : Option Sem) (s : State) : (setSem i x s).beat = s.beat := rfl
@[simp] theorem setSem_time (i : Nat) (x : Option Sem) (s : State) : (setSem i x s).time = s.time := rfl
@[simp] theorem setSem_pins (i : Nat) (x : Option Sem) (s : State) : (setSem i x s).pins = s.pins := rfl
@[simp] theorem setSem_net (i : Nat) (x : Option Sem) (s : State) : (setSem i x s).net = s.net := rfl
@[simp] theorem setSem_ptime (i : Nat) (x : Option Sem) (s : State) : (setSem i x s).ptime = s.ptime := rfl
@[simp] theorem setSem_ports (i : Nat) (x : Option Sem) (s : State) : (setSem i x s).ports = s.ports := rfl
@[simp] theorem setSem_egress (i : Nat) (x : Option Sem) (s : State) : (setSem i x s).egress = s.egress := rfl
@[simp] theorem setSem_fwd (i : Nat) (x : Option Sem) (s : State) : (setSem i x s).fwd = s.fwd := rfl
@[simp] theorem setSem_buf (i : Nat) (x : Option Sem) (s : State) : (setSem i x s).buf = s.buf := rfl
@[simp] theorem setSem_str (i : Nat) (x : Option Sem) (s : State) : (setSem i x s).str = s.str := rfl
@[simp] theorem setSem_fw (i : Nat) (x : Option Sem) (s : State) : (setSem i x s).fw = s.fw := rfl
@[simp] theorem setSem_nm (i : Nat) (x : Option Sem) (s : State) : (setSem i x s).nm = s.nm := rfl
@[simp] theorem setSem_gw (i : Nat) (x : Option Sem) (s : State) : (setSem i x s).gw = s.gw := rfl
@[simp] theorem setSem_ciph (i : Nat) (x : Option Sem) (s : State) : (setSem i x s).ciph = s.ciph := rfl
@[simp] theorem setSem_dark (i : Nat) (x : Option Sem) (s : State) : (setSem i x s).dark = s.dark := rfl
@[simp] theorem setSem_pair (i : Nat) (x : Option Sem) (s : State) : (setSem i x s).pair = s.pair := rfl
@[simp] theorem setSem_sys (i : Nat) (x : Option Sem) (s : State) : (setSem i x s).sys = s.sys := rfl
@[simp] theorem setSem_cs (i : Nat) (x : Option Sem) (s : State) : (setSem i x s).cs = s.cs := rfl
@[simp] theorem setSem_mbx (i : Nat) (x : Option Sem) (s : State) : (setSem i x s).mbx = s.mbx := rfl
@[simp] theorem setSem_ev (i : Nat) (x : Option Sem) (s : State) : (setSem i x s).ev = s.ev := rfl
@[simp] theorem setSem_rings (i : Nat) (x : Option Sem) (s : State) : (setSem i x s).rings = s.rings := rfl
@[simp] theorem setSem_regs (i : Nat) (x : Option Sem) (s : State) : (setSem i x s).regs = s.regs := rfl
@[simp] theorem setSem_hw (i : Nat) (x : Option Sem) (s : State) : (setSem i x s).hw = s.hw := rfl
@[simp] theorem setSem_mem (i : Nat) (x : Option Sem) (s : State) : (setSem i x s).mem = s.mem := rfl
@[simp] theorem setSem_out (i : Nat) (x : Option Sem) (s : State) : (setSem i x s).out = s.out := rfl
@[simp] theorem setSem_fresh (i : Nat) (x : Option Sem) (s : State) : (setSem i x s).fresh = s.fresh := rfl
@[simp] theorem setSem_start (i : Nat) (x : Option Sem) (s : State) : (setSem i x s).start = s.start := rfl
@[simp] theorem setSem_late (i : Nat) (x : Option Sem) (s : State) : (setSem i x s).late = s.late := rfl
@[simp] theorem setSem_pending (i : Nat) (x : Option Sem) (s : State) : (setSem i x s).pending = s.pending := rfl

/-! setFilter changes str alone. -/
@[simp] theorem setFilter_beat (i : Nat) (f : Filter) (s : State) : (setFilter i f s).beat = s.beat := rfl
@[simp] theorem setFilter_time (i : Nat) (f : Filter) (s : State) : (setFilter i f s).time = s.time := rfl
@[simp] theorem setFilter_pins (i : Nat) (f : Filter) (s : State) : (setFilter i f s).pins = s.pins := rfl
@[simp] theorem setFilter_net (i : Nat) (f : Filter) (s : State) : (setFilter i f s).net = s.net := rfl
@[simp] theorem setFilter_ptime (i : Nat) (f : Filter) (s : State) : (setFilter i f s).ptime = s.ptime := rfl
@[simp] theorem setFilter_ports (i : Nat) (f : Filter) (s : State) : (setFilter i f s).ports = s.ports := rfl
@[simp] theorem setFilter_egress (i : Nat) (f : Filter) (s : State) : (setFilter i f s).egress = s.egress := rfl
@[simp] theorem setFilter_fwd (i : Nat) (f : Filter) (s : State) : (setFilter i f s).fwd = s.fwd := rfl
@[simp] theorem setFilter_buf (i : Nat) (f : Filter) (s : State) : (setFilter i f s).buf = s.buf := rfl
@[simp] theorem setFilter_fw (i : Nat) (f : Filter) (s : State) : (setFilter i f s).fw = s.fw := rfl
@[simp] theorem setFilter_nm (i : Nat) (f : Filter) (s : State) : (setFilter i f s).nm = s.nm := rfl
@[simp] theorem setFilter_gw (i : Nat) (f : Filter) (s : State) : (setFilter i f s).gw = s.gw := rfl
@[simp] theorem setFilter_ciph (i : Nat) (f : Filter) (s : State) : (setFilter i f s).ciph = s.ciph := rfl
@[simp] theorem setFilter_dark (i : Nat) (f : Filter) (s : State) : (setFilter i f s).dark = s.dark := rfl
@[simp] theorem setFilter_pair (i : Nat) (f : Filter) (s : State) : (setFilter i f s).pair = s.pair := rfl
@[simp] theorem setFilter_sys (i : Nat) (f : Filter) (s : State) : (setFilter i f s).sys = s.sys := rfl
@[simp] theorem setFilter_cs (i : Nat) (f : Filter) (s : State) : (setFilter i f s).cs = s.cs := rfl
@[simp] theorem setFilter_bridge (i : Nat) (f : Filter) (s : State) : (setFilter i f s).bridge = s.bridge := rfl
@[simp] theorem setFilter_mbx (i : Nat) (f : Filter) (s : State) : (setFilter i f s).mbx = s.mbx := rfl
@[simp] theorem setFilter_ev (i : Nat) (f : Filter) (s : State) : (setFilter i f s).ev = s.ev := rfl
@[simp] theorem setFilter_rings (i : Nat) (f : Filter) (s : State) : (setFilter i f s).rings = s.rings := rfl
@[simp] theorem setFilter_regs (i : Nat) (f : Filter) (s : State) : (setFilter i f s).regs = s.regs := rfl
@[simp] theorem setFilter_hw (i : Nat) (f : Filter) (s : State) : (setFilter i f s).hw = s.hw := rfl
@[simp] theorem setFilter_mem (i : Nat) (f : Filter) (s : State) : (setFilter i f s).mem = s.mem := rfl
@[simp] theorem setFilter_out (i : Nat) (f : Filter) (s : State) : (setFilter i f s).out = s.out := rfl
@[simp] theorem setFilter_fresh (i : Nat) (f : Filter) (s : State) : (setFilter i f s).fresh = s.fresh := rfl
@[simp] theorem setFilter_start (i : Nat) (f : Filter) (s : State) : (setFilter i f s).start = s.start := rfl
@[simp] theorem setFilter_late (i : Nat) (f : Filter) (s : State) : (setFilter i f s).late = s.late := rfl
@[simp] theorem setFilter_pending (i : Nat) (f : Filter) (s : State) : (setFilter i f s).pending = s.pending := rfl

/-! setMeter changes str alone. -/
@[simp] theorem setMeter_beat (i : Nat) (m : Meter) (s : State) : (setMeter i m s).beat = s.beat := rfl
@[simp] theorem setMeter_time (i : Nat) (m : Meter) (s : State) : (setMeter i m s).time = s.time := rfl
@[simp] theorem setMeter_pins (i : Nat) (m : Meter) (s : State) : (setMeter i m s).pins = s.pins := rfl
@[simp] theorem setMeter_net (i : Nat) (m : Meter) (s : State) : (setMeter i m s).net = s.net := rfl
@[simp] theorem setMeter_ptime (i : Nat) (m : Meter) (s : State) : (setMeter i m s).ptime = s.ptime := rfl
@[simp] theorem setMeter_ports (i : Nat) (m : Meter) (s : State) : (setMeter i m s).ports = s.ports := rfl
@[simp] theorem setMeter_egress (i : Nat) (m : Meter) (s : State) : (setMeter i m s).egress = s.egress := rfl
@[simp] theorem setMeter_fwd (i : Nat) (m : Meter) (s : State) : (setMeter i m s).fwd = s.fwd := rfl
@[simp] theorem setMeter_buf (i : Nat) (m : Meter) (s : State) : (setMeter i m s).buf = s.buf := rfl
@[simp] theorem setMeter_fw (i : Nat) (m : Meter) (s : State) : (setMeter i m s).fw = s.fw := rfl
@[simp] theorem setMeter_nm (i : Nat) (m : Meter) (s : State) : (setMeter i m s).nm = s.nm := rfl
@[simp] theorem setMeter_gw (i : Nat) (m : Meter) (s : State) : (setMeter i m s).gw = s.gw := rfl
@[simp] theorem setMeter_ciph (i : Nat) (m : Meter) (s : State) : (setMeter i m s).ciph = s.ciph := rfl
@[simp] theorem setMeter_dark (i : Nat) (m : Meter) (s : State) : (setMeter i m s).dark = s.dark := rfl
@[simp] theorem setMeter_pair (i : Nat) (m : Meter) (s : State) : (setMeter i m s).pair = s.pair := rfl
@[simp] theorem setMeter_sys (i : Nat) (m : Meter) (s : State) : (setMeter i m s).sys = s.sys := rfl
@[simp] theorem setMeter_cs (i : Nat) (m : Meter) (s : State) : (setMeter i m s).cs = s.cs := rfl
@[simp] theorem setMeter_bridge (i : Nat) (m : Meter) (s : State) : (setMeter i m s).bridge = s.bridge := rfl
@[simp] theorem setMeter_mbx (i : Nat) (m : Meter) (s : State) : (setMeter i m s).mbx = s.mbx := rfl
@[simp] theorem setMeter_ev (i : Nat) (m : Meter) (s : State) : (setMeter i m s).ev = s.ev := rfl
@[simp] theorem setMeter_rings (i : Nat) (m : Meter) (s : State) : (setMeter i m s).rings = s.rings := rfl
@[simp] theorem setMeter_regs (i : Nat) (m : Meter) (s : State) : (setMeter i m s).regs = s.regs := rfl
@[simp] theorem setMeter_hw (i : Nat) (m : Meter) (s : State) : (setMeter i m s).hw = s.hw := rfl
@[simp] theorem setMeter_mem (i : Nat) (m : Meter) (s : State) : (setMeter i m s).mem = s.mem := rfl
@[simp] theorem setMeter_out (i : Nat) (m : Meter) (s : State) : (setMeter i m s).out = s.out := rfl
@[simp] theorem setMeter_fresh (i : Nat) (m : Meter) (s : State) : (setMeter i m s).fresh = s.fresh := rfl
@[simp] theorem setMeter_start (i : Nat) (m : Meter) (s : State) : (setMeter i m s).start = s.start := rfl
@[simp] theorem setMeter_late (i : Nat) (m : Meter) (s : State) : (setMeter i m s).late = s.late := rfl
@[simp] theorem setMeter_pending (i : Nat) (m : Meter) (s : State) : (setMeter i m s).pending = s.pending := rfl

/-! setGen changes str alone. -/
@[simp] theorem setGen_beat (i : Nat) (g : Generation) (s : State) : (setGen i g s).beat = s.beat := rfl
@[simp] theorem setGen_time (i : Nat) (g : Generation) (s : State) : (setGen i g s).time = s.time := rfl
@[simp] theorem setGen_pins (i : Nat) (g : Generation) (s : State) : (setGen i g s).pins = s.pins := rfl
@[simp] theorem setGen_net (i : Nat) (g : Generation) (s : State) : (setGen i g s).net = s.net := rfl
@[simp] theorem setGen_ptime (i : Nat) (g : Generation) (s : State) : (setGen i g s).ptime = s.ptime := rfl
@[simp] theorem setGen_ports (i : Nat) (g : Generation) (s : State) : (setGen i g s).ports = s.ports := rfl
@[simp] theorem setGen_egress (i : Nat) (g : Generation) (s : State) : (setGen i g s).egress = s.egress := rfl
@[simp] theorem setGen_fwd (i : Nat) (g : Generation) (s : State) : (setGen i g s).fwd = s.fwd := rfl
@[simp] theorem setGen_buf (i : Nat) (g : Generation) (s : State) : (setGen i g s).buf = s.buf := rfl
@[simp] theorem setGen_fw (i : Nat) (g : Generation) (s : State) : (setGen i g s).fw = s.fw := rfl
@[simp] theorem setGen_nm (i : Nat) (g : Generation) (s : State) : (setGen i g s).nm = s.nm := rfl
@[simp] theorem setGen_gw (i : Nat) (g : Generation) (s : State) : (setGen i g s).gw = s.gw := rfl
@[simp] theorem setGen_ciph (i : Nat) (g : Generation) (s : State) : (setGen i g s).ciph = s.ciph := rfl
@[simp] theorem setGen_dark (i : Nat) (g : Generation) (s : State) : (setGen i g s).dark = s.dark := rfl
@[simp] theorem setGen_pair (i : Nat) (g : Generation) (s : State) : (setGen i g s).pair = s.pair := rfl
@[simp] theorem setGen_sys (i : Nat) (g : Generation) (s : State) : (setGen i g s).sys = s.sys := rfl
@[simp] theorem setGen_cs (i : Nat) (g : Generation) (s : State) : (setGen i g s).cs = s.cs := rfl
@[simp] theorem setGen_bridge (i : Nat) (g : Generation) (s : State) : (setGen i g s).bridge = s.bridge := rfl
@[simp] theorem setGen_mbx (i : Nat) (g : Generation) (s : State) : (setGen i g s).mbx = s.mbx := rfl
@[simp] theorem setGen_ev (i : Nat) (g : Generation) (s : State) : (setGen i g s).ev = s.ev := rfl
@[simp] theorem setGen_rings (i : Nat) (g : Generation) (s : State) : (setGen i g s).rings = s.rings := rfl
@[simp] theorem setGen_regs (i : Nat) (g : Generation) (s : State) : (setGen i g s).regs = s.regs := rfl
@[simp] theorem setGen_hw (i : Nat) (g : Generation) (s : State) : (setGen i g s).hw = s.hw := rfl
@[simp] theorem setGen_mem (i : Nat) (g : Generation) (s : State) : (setGen i g s).mem = s.mem := rfl
@[simp] theorem setGen_out (i : Nat) (g : Generation) (s : State) : (setGen i g s).out = s.out := rfl
@[simp] theorem setGen_fresh (i : Nat) (g : Generation) (s : State) : (setGen i g s).fresh = s.fresh := rfl
@[simp] theorem setGen_start (i : Nat) (g : Generation) (s : State) : (setGen i g s).start = s.start := rfl
@[simp] theorem setGen_late (i : Nat) (g : Generation) (s : State) : (setGen i g s).late = s.late := rfl
@[simp] theorem setGen_pending (i : Nat) (g : Generation) (s : State) : (setGen i g s).pending = s.pending := rfl

/-! setRcv changes str alone. -/
@[simp] theorem setRcv_beat (i : Nat) (r : Recovery) (s : State) : (setRcv i r s).beat = s.beat := rfl
@[simp] theorem setRcv_time (i : Nat) (r : Recovery) (s : State) : (setRcv i r s).time = s.time := rfl
@[simp] theorem setRcv_pins (i : Nat) (r : Recovery) (s : State) : (setRcv i r s).pins = s.pins := rfl
@[simp] theorem setRcv_net (i : Nat) (r : Recovery) (s : State) : (setRcv i r s).net = s.net := rfl
@[simp] theorem setRcv_ptime (i : Nat) (r : Recovery) (s : State) : (setRcv i r s).ptime = s.ptime := rfl
@[simp] theorem setRcv_ports (i : Nat) (r : Recovery) (s : State) : (setRcv i r s).ports = s.ports := rfl
@[simp] theorem setRcv_egress (i : Nat) (r : Recovery) (s : State) : (setRcv i r s).egress = s.egress := rfl
@[simp] theorem setRcv_fwd (i : Nat) (r : Recovery) (s : State) : (setRcv i r s).fwd = s.fwd := rfl
@[simp] theorem setRcv_buf (i : Nat) (r : Recovery) (s : State) : (setRcv i r s).buf = s.buf := rfl
@[simp] theorem setRcv_fw (i : Nat) (r : Recovery) (s : State) : (setRcv i r s).fw = s.fw := rfl
@[simp] theorem setRcv_nm (i : Nat) (r : Recovery) (s : State) : (setRcv i r s).nm = s.nm := rfl
@[simp] theorem setRcv_gw (i : Nat) (r : Recovery) (s : State) : (setRcv i r s).gw = s.gw := rfl
@[simp] theorem setRcv_ciph (i : Nat) (r : Recovery) (s : State) : (setRcv i r s).ciph = s.ciph := rfl
@[simp] theorem setRcv_dark (i : Nat) (r : Recovery) (s : State) : (setRcv i r s).dark = s.dark := rfl
@[simp] theorem setRcv_pair (i : Nat) (r : Recovery) (s : State) : (setRcv i r s).pair = s.pair := rfl
@[simp] theorem setRcv_sys (i : Nat) (r : Recovery) (s : State) : (setRcv i r s).sys = s.sys := rfl
@[simp] theorem setRcv_cs (i : Nat) (r : Recovery) (s : State) : (setRcv i r s).cs = s.cs := rfl
@[simp] theorem setRcv_bridge (i : Nat) (r : Recovery) (s : State) : (setRcv i r s).bridge = s.bridge := rfl
@[simp] theorem setRcv_mbx (i : Nat) (r : Recovery) (s : State) : (setRcv i r s).mbx = s.mbx := rfl
@[simp] theorem setRcv_ev (i : Nat) (r : Recovery) (s : State) : (setRcv i r s).ev = s.ev := rfl
@[simp] theorem setRcv_rings (i : Nat) (r : Recovery) (s : State) : (setRcv i r s).rings = s.rings := rfl
@[simp] theorem setRcv_regs (i : Nat) (r : Recovery) (s : State) : (setRcv i r s).regs = s.regs := rfl
@[simp] theorem setRcv_hw (i : Nat) (r : Recovery) (s : State) : (setRcv i r s).hw = s.hw := rfl
@[simp] theorem setRcv_mem (i : Nat) (r : Recovery) (s : State) : (setRcv i r s).mem = s.mem := rfl
@[simp] theorem setRcv_out (i : Nat) (r : Recovery) (s : State) : (setRcv i r s).out = s.out := rfl
@[simp] theorem setRcv_fresh (i : Nat) (r : Recovery) (s : State) : (setRcv i r s).fresh = s.fresh := rfl
@[simp] theorem setRcv_start (i : Nat) (r : Recovery) (s : State) : (setRcv i r s).start = s.start := rfl
@[simp] theorem setRcv_late (i : Nat) (r : Recovery) (s : State) : (setRcv i r s).late = s.late := rfl
@[simp] theorem setRcv_pending (i : Nat) (r : Recovery) (s : State) : (setRcv i r s).pending = s.pending := rfl

/-! setPin changes pins alone. -/
@[simp] theorem setPin_beat (n : Nat) (p : Pin) (s : State) : (setPin n p s).beat = s.beat := rfl
@[simp] theorem setPin_time (n : Nat) (p : Pin) (s : State) : (setPin n p s).time = s.time := rfl
@[simp] theorem setPin_net (n : Nat) (p : Pin) (s : State) : (setPin n p s).net = s.net := rfl
@[simp] theorem setPin_ptime (n : Nat) (p : Pin) (s : State) : (setPin n p s).ptime = s.ptime := rfl
@[simp] theorem setPin_ports (n : Nat) (p : Pin) (s : State) : (setPin n p s).ports = s.ports := rfl
@[simp] theorem setPin_egress (n : Nat) (p : Pin) (s : State) : (setPin n p s).egress = s.egress := rfl
@[simp] theorem setPin_fwd (n : Nat) (p : Pin) (s : State) : (setPin n p s).fwd = s.fwd := rfl
@[simp] theorem setPin_buf (n : Nat) (p : Pin) (s : State) : (setPin n p s).buf = s.buf := rfl
@[simp] theorem setPin_str (n : Nat) (p : Pin) (s : State) : (setPin n p s).str = s.str := rfl
@[simp] theorem setPin_fw (n : Nat) (p : Pin) (s : State) : (setPin n p s).fw = s.fw := rfl
@[simp] theorem setPin_nm (n : Nat) (p : Pin) (s : State) : (setPin n p s).nm = s.nm := rfl
@[simp] theorem setPin_gw (n : Nat) (p : Pin) (s : State) : (setPin n p s).gw = s.gw := rfl
@[simp] theorem setPin_ciph (n : Nat) (p : Pin) (s : State) : (setPin n p s).ciph = s.ciph := rfl
@[simp] theorem setPin_dark (n : Nat) (p : Pin) (s : State) : (setPin n p s).dark = s.dark := rfl
@[simp] theorem setPin_pair (n : Nat) (p : Pin) (s : State) : (setPin n p s).pair = s.pair := rfl
@[simp] theorem setPin_sys (n : Nat) (p : Pin) (s : State) : (setPin n p s).sys = s.sys := rfl
@[simp] theorem setPin_cs (n : Nat) (p : Pin) (s : State) : (setPin n p s).cs = s.cs := rfl
@[simp] theorem setPin_bridge (n : Nat) (p : Pin) (s : State) : (setPin n p s).bridge = s.bridge := rfl
@[simp] theorem setPin_mbx (n : Nat) (p : Pin) (s : State) : (setPin n p s).mbx = s.mbx := rfl
@[simp] theorem setPin_ev (n : Nat) (p : Pin) (s : State) : (setPin n p s).ev = s.ev := rfl
@[simp] theorem setPin_rings (n : Nat) (p : Pin) (s : State) : (setPin n p s).rings = s.rings := rfl
@[simp] theorem setPin_regs (n : Nat) (p : Pin) (s : State) : (setPin n p s).regs = s.regs := rfl
@[simp] theorem setPin_hw (n : Nat) (p : Pin) (s : State) : (setPin n p s).hw = s.hw := rfl
@[simp] theorem setPin_mem (n : Nat) (p : Pin) (s : State) : (setPin n p s).mem = s.mem := rfl
@[simp] theorem setPin_out (n : Nat) (p : Pin) (s : State) : (setPin n p s).out = s.out := rfl
@[simp] theorem setPin_fresh (n : Nat) (p : Pin) (s : State) : (setPin n p s).fresh = s.fresh := rfl
@[simp] theorem setPin_start (n : Nat) (p : Pin) (s : State) : (setPin n p s).start = s.start := rfl
@[simp] theorem setPin_late (n : Nat) (p : Pin) (s : State) : (setPin n p s).late = s.late := rfl
@[simp] theorem setPin_pending (n : Nat) (p : Pin) (s : State) : (setPin n p s).pending = s.pending := rfl

/-! setSourceInt changes bridge alone. -/
@[simp] theorem setSourceInt_beat (i : Nat) (v : IntSource) (s : State) : (setSourceInt i v s).beat = s.beat := rfl
@[simp] theorem setSourceInt_time (i : Nat) (v : IntSource) (s : State) : (setSourceInt i v s).time = s.time := rfl
@[simp] theorem setSourceInt_pins (i : Nat) (v : IntSource) (s : State) : (setSourceInt i v s).pins = s.pins := rfl
@[simp] theorem setSourceInt_net (i : Nat) (v : IntSource) (s : State) : (setSourceInt i v s).net = s.net := rfl
@[simp] theorem setSourceInt_ptime (i : Nat) (v : IntSource) (s : State) : (setSourceInt i v s).ptime = s.ptime := rfl
@[simp] theorem setSourceInt_ports (i : Nat) (v : IntSource) (s : State) : (setSourceInt i v s).ports = s.ports := rfl
@[simp] theorem setSourceInt_egress (i : Nat) (v : IntSource) (s : State) : (setSourceInt i v s).egress = s.egress := rfl
@[simp] theorem setSourceInt_fwd (i : Nat) (v : IntSource) (s : State) : (setSourceInt i v s).fwd = s.fwd := rfl
@[simp] theorem setSourceInt_buf (i : Nat) (v : IntSource) (s : State) : (setSourceInt i v s).buf = s.buf := rfl
@[simp] theorem setSourceInt_str (i : Nat) (v : IntSource) (s : State) : (setSourceInt i v s).str = s.str := rfl
@[simp] theorem setSourceInt_fw (i : Nat) (v : IntSource) (s : State) : (setSourceInt i v s).fw = s.fw := rfl
@[simp] theorem setSourceInt_nm (i : Nat) (v : IntSource) (s : State) : (setSourceInt i v s).nm = s.nm := rfl
@[simp] theorem setSourceInt_gw (i : Nat) (v : IntSource) (s : State) : (setSourceInt i v s).gw = s.gw := rfl
@[simp] theorem setSourceInt_ciph (i : Nat) (v : IntSource) (s : State) : (setSourceInt i v s).ciph = s.ciph := rfl
@[simp] theorem setSourceInt_dark (i : Nat) (v : IntSource) (s : State) : (setSourceInt i v s).dark = s.dark := rfl
@[simp] theorem setSourceInt_pair (i : Nat) (v : IntSource) (s : State) : (setSourceInt i v s).pair = s.pair := rfl
@[simp] theorem setSourceInt_sys (i : Nat) (v : IntSource) (s : State) : (setSourceInt i v s).sys = s.sys := rfl
@[simp] theorem setSourceInt_cs (i : Nat) (v : IntSource) (s : State) : (setSourceInt i v s).cs = s.cs := rfl
@[simp] theorem setSourceInt_mbx (i : Nat) (v : IntSource) (s : State) : (setSourceInt i v s).mbx = s.mbx := rfl
@[simp] theorem setSourceInt_ev (i : Nat) (v : IntSource) (s : State) : (setSourceInt i v s).ev = s.ev := rfl
@[simp] theorem setSourceInt_rings (i : Nat) (v : IntSource) (s : State) : (setSourceInt i v s).rings = s.rings := rfl
@[simp] theorem setSourceInt_regs (i : Nat) (v : IntSource) (s : State) : (setSourceInt i v s).regs = s.regs := rfl
@[simp] theorem setSourceInt_hw (i : Nat) (v : IntSource) (s : State) : (setSourceInt i v s).hw = s.hw := rfl
@[simp] theorem setSourceInt_mem (i : Nat) (v : IntSource) (s : State) : (setSourceInt i v s).mem = s.mem := rfl
@[simp] theorem setSourceInt_out (i : Nat) (v : IntSource) (s : State) : (setSourceInt i v s).out = s.out := rfl
@[simp] theorem setSourceInt_fresh (i : Nat) (v : IntSource) (s : State) : (setSourceInt i v s).fresh = s.fresh := rfl
@[simp] theorem setSourceInt_start (i : Nat) (v : IntSource) (s : State) : (setSourceInt i v s).start = s.start := rfl
@[simp] theorem setSourceInt_late (i : Nat) (v : IntSource) (s : State) : (setSourceInt i v s).late = s.late := rfl
@[simp] theorem setSourceInt_pending (i : Nat) (v : IntSource) (s : State) : (setSourceInt i v s).pending = s.pending := rfl

/-! atTime changes time and the start of the cycle alone. -/
@[simp] theorem atTime_beat (t : Nat) (s : State) : (s.atTime t).beat = s.beat := rfl
@[simp] theorem atTime_pins (t : Nat) (s : State) : (s.atTime t).pins = s.pins := rfl
@[simp] theorem atTime_net (t : Nat) (s : State) : (s.atTime t).net = s.net := rfl
@[simp] theorem atTime_ptime (t : Nat) (s : State) : (s.atTime t).ptime = s.ptime := rfl
@[simp] theorem atTime_ports (t : Nat) (s : State) : (s.atTime t).ports = s.ports := rfl
@[simp] theorem atTime_egress (t : Nat) (s : State) : (s.atTime t).egress = s.egress := rfl
@[simp] theorem atTime_fwd (t : Nat) (s : State) : (s.atTime t).fwd = s.fwd := rfl
@[simp] theorem atTime_buf (t : Nat) (s : State) : (s.atTime t).buf = s.buf := rfl
@[simp] theorem atTime_str (t : Nat) (s : State) : (s.atTime t).str = s.str := rfl
@[simp] theorem atTime_fw (t : Nat) (s : State) : (s.atTime t).fw = s.fw := rfl
@[simp] theorem atTime_nm (t : Nat) (s : State) : (s.atTime t).nm = s.nm := rfl
@[simp] theorem atTime_gw (t : Nat) (s : State) : (s.atTime t).gw = s.gw := rfl
@[simp] theorem atTime_ciph (t : Nat) (s : State) : (s.atTime t).ciph = s.ciph := rfl
@[simp] theorem atTime_dark (t : Nat) (s : State) : (s.atTime t).dark = s.dark := rfl
@[simp] theorem atTime_pair (t : Nat) (s : State) : (s.atTime t).pair = s.pair := rfl
@[simp] theorem atTime_sys (t : Nat) (s : State) : (s.atTime t).sys = s.sys := rfl
@[simp] theorem atTime_cs (t : Nat) (s : State) : (s.atTime t).cs = s.cs := rfl
@[simp] theorem atTime_bridge (t : Nat) (s : State) : (s.atTime t).bridge = s.bridge := rfl
@[simp] theorem atTime_mbx (t : Nat) (s : State) : (s.atTime t).mbx = s.mbx := rfl
@[simp] theorem atTime_ev (t : Nat) (s : State) : (s.atTime t).ev = s.ev := rfl
@[simp] theorem atTime_rings (t : Nat) (s : State) : (s.atTime t).rings = s.rings := rfl
@[simp] theorem atTime_regs (t : Nat) (s : State) : (s.atTime t).regs = s.regs := rfl
@[simp] theorem atTime_hw (t : Nat) (s : State) : (s.atTime t).hw = s.hw := rfl
@[simp] theorem atTime_mem (t : Nat) (s : State) : (s.atTime t).mem = s.mem := rfl
@[simp] theorem atTime_out (t : Nat) (s : State) : (s.atTime t).out = s.out := rfl
@[simp] theorem atTime_fresh (t : Nat) (s : State) : (s.atTime t).fresh = s.fresh := rfl
@[simp] theorem atTime_late (t : Nat) (s : State) : (s.atTime t).late = s.late := rfl
@[simp] theorem atTime_pending (t : Nat) (s : State) : (s.atTime t).pending = s.pending := rfl

end Sys2Proof.Machine
end

