-- ==== Sys2Proof/Laws/Tab.lean ====
section
/-!
SUPPORT. Laws of sparse tables: read after write, and the canonical form.
-/
namespace Sys2Proof.Machine

variable {α : Type}

/-- Nothing is listed below the lower bound of a canonical table. -/
theorem tget_below [DecidableEq α] (d : α) (t : List (Nat × α)) (b k : Nat) (h : tabFrom d b t = true) (hk : k < b) : tget d t k = d := by
  induction t generalizing b with
  | nil => rfl
  | cons p r ih =>
    obtain ⟨i, x⟩ := p
    simp only [tabFrom, Bool.and_eq_true, decide_eq_true_eq] at h
    simp only [tget, if_neg (show ¬ i = k by omega)]
    exact ih (i + 1) h.2 (by omega)

/-- A lower bound may be lowered. -/
theorem tabFrom_mono [DecidableEq α] (d : α) (t : List (Nat × α)) (b c : Nat) (h : tabFrom d b t = true) (hc : c ≤ b) : tabFrom d c t = true := by
  cases t with
  | nil => rfl
  | cons p r =>
    obtain ⟨i, x⟩ := p
    simp only [tabFrom, Bool.and_eq_true, decide_eq_true_eq] at h ⊢
    exact ⟨⟨by omega, h.1.2⟩, h.2⟩

/-- The entry written reads back. -/
theorem tget_tset_same [DecidableEq α] (d : α) (t : List (Nat × α)) (k : Nat) (v : α) : tget d (tset d t k v) k = v := by
  induction t with
  | nil => by_cases hv : v = d <;> simp [tset, tget, hv]
  | cons p r ih =>
    obtain ⟨i, x⟩ := p
    simp only [tset]
    split
    · split
      · exact ih
      · rename_i hk
        simp only [tget, if_neg (show ¬ i = k from fun e => hk e.symm)]
        exact ih
    · split
      · simp [tget]
      · split
        · simp [tget]
        · rename_i hk
          simp only [tget, if_neg (show ¬ i = k from fun e => hk e.symm)]
          exact ih

/-- Every other entry keeps its value, whatever its own default. -/
theorem tget_tset_ne [DecidableEq α] (d e : α) (t : List (Nat × α)) (k j : Nat) (v : α) (hj : j ≠ k) : tget e (tset d t k v) j = tget e t j := by
  have hne : ¬ k = j := fun e => hj e.symm
  induction t with
  | nil => by_cases hv : v = d <;> simp [tset, tget, hv, hne]
  | cons p r ih =>
    obtain ⟨i, x⟩ := p
    simp only [tset]
    split
    · split
      · rename_i hk
        subst hk
        simp only [tget, if_neg hne]
        exact ih
      · simp only [tget]
        split
        · rfl
        · exact ih
    · split
      · simp [tget, hne]
      · split
        · rename_i hk
          subst hk
          simp [tget, hne]
        · simp only [tget]
          split
          · rfl
          · exact ih

/-- Removing an entry keeps the canonical form. -/
theorem tabFrom_unset [DecidableEq α] (d : α) (t : List (Nat × α)) (b k : Nat) (v : α) (h : tabFrom d b t = true) (hv : v = d) :
    tabFrom d b (tset d t k v) = true := by
  induction t generalizing b with
  | nil => simp [tset, tabFrom, hv]
  | cons p r ih =>
    obtain ⟨i, x⟩ := p
    simp only [tabFrom, Bool.and_eq_true, decide_eq_true_eq] at h
    simp only [tset, if_pos hv]
    split
    · exact tabFrom_mono d _ (i + 1) b (ih (i + 1) h.2) (by omega)
    · simp only [tabFrom, Bool.and_eq_true, decide_eq_true_eq]
      exact ⟨h.1, ih (i + 1) h.2⟩

/-- Writing an entry at or above the lower bound keeps the canonical form. -/
theorem tabFrom_tset [DecidableEq α] (d : α) (t : List (Nat × α)) (b k : Nat) (v : α) (h : tabFrom d b t = true) (hk : b ≤ k) :
    tabFrom d b (tset d t k v) = true := by
  induction t generalizing b with
  | nil =>
    by_cases hv : v = d <;> simp [tset, tabFrom, hv, hk]
  | cons p r ih =>
    obtain ⟨i, x⟩ := p
    simp only [tabFrom, Bool.and_eq_true, decide_eq_true_eq] at h
    simp only [tset]
    split
    · split
      · exact tabFrom_mono d _ (i + 1) b (tabFrom_unset d r (i + 1) k v h.2 ‹_›) (by omega)
      · simp only [tabFrom, Bool.and_eq_true, decide_eq_true_eq]
        exact ⟨h.1, tabFrom_unset d r (i + 1) k v h.2 ‹_›⟩
    · rename_i hv
      split
      · simp only [tabFrom, Bool.and_eq_true, decide_eq_true_eq]
        exact ⟨⟨hk, hv⟩, ⟨by omega, h.1.2⟩, h.2⟩
      · split
        · rename_i hki
          subst hki
          simp only [tabFrom, Bool.and_eq_true, decide_eq_true_eq]
          exact ⟨⟨hk, hv⟩, h.2⟩
        · simp only [tabFrom, Bool.and_eq_true, decide_eq_true_eq]
          exact ⟨h.1, ih (i + 1) h.2 (by omega)⟩

/-- Writing an entry keeps the canonical form. -/
theorem tabWf_tset [DecidableEq α] (d : α) (t : List (Nat × α)) (k : Nat) (v : α) (h : tabWf d t = true) : tabWf d (tset d t k v) = true :=
  tabFrom_tset d t 0 k v h (Nat.zero_le _)

/-- Read after write. -/
theorem tget_tset [DecidableEq α] (d : α) (t : List (Nat × α)) (k j : Nat) (v : α) : tget d (tset d t k v) j = if j = k then v else tget d t j := by
  split
  · rename_i e; subst e; exact tget_tset_same d t j v
  · rename_i e; exact tget_tset_ne d d t k j v e

/-- Of two writes of one entry the second stands. -/
theorem tset_tset [DecidableEq α] (d : α) (t : List (Nat × α)) (k : Nat) (v w : α) (hv : v ≠ d) : tset d (tset d t k v) k w = tset d t k w := by
  induction t with
  | nil => by_cases hw : w = d <;> simp [tset, hv, hw]
  | cons p r ih =>
    obtain ⟨i, x⟩ := p
    by_cases h1 : k < i
    · have : k ≠ i := by omega
      by_cases hw : w = d <;> simp [tset, hv, hw, h1, this]
    · by_cases h2 : k = i
      · subst h2
        by_cases hw : w = d <;> simp [tset, hv, hw]
      · by_cases hw : w = d
        · subst hw; simp [tset, hv, h1, h2, ih]
        · simp [tset, hv, hw, h1, h2, ih]

/-- Leaving entries out keeps the canonical form. -/
theorem tabFrom_filter [DecidableEq α] (d : α) (f : Nat × α → Bool) (t : List (Nat × α)) (b : Nat) (h : tabFrom d b t = true) :
    tabFrom d b (t.filter f) = true := by
  induction t generalizing b with
  | nil => rfl
  | cons p r ih =>
    obtain ⟨i, x⟩ := p
    simp only [tabFrom, Bool.and_eq_true, decide_eq_true_eq] at h
    simp only [List.filter_cons]
    split
    · simp only [tabFrom, Bool.and_eq_true, decide_eq_true_eq]
      exact ⟨h.1, ih (i + 1) h.2⟩
    · exact tabFrom_mono d _ (i + 1) b (ih (i + 1) h.2) (by omega)

theorem tabWf_filter [DecidableEq α] (d : α) (f : Nat × α → Bool) (t : List (Nat × α)) (h : tabWf d t = true) : tabWf d (t.filter f) = true :=
  tabFrom_filter d f t 0 h

/-- Mapping the entries of a canonical table gives a canonical one. -/
theorem tabWf_tmap [DecidableEq α] (d : α) (t : List (Nat × α)) (f : Nat → α → α) (h : tabWf d t = true) : tabWf d (tmap d t f) = true := by
  have go : ∀ (l r : List (Nat × α)), tabWf d r = true → tabWf d (l.foldl (fun r p => tset d r p.1 (f p.1 p.2)) r) = true := by
    intro l
    induction l with
    | nil => intro r h; exact h
    | cons p l ih => intro r h; exact ih _ (tabWf_tset d r p.1 _ h)
  exact go t t h

end Sys2Proof.Machine
end

