-- ==== Sys2Proof/Laws/Ops.lean ====
section
/-!
SUPPORT. What the shared operations do: commands, register storage, the memory of BAR2, records, events, rings.
-/
namespace Sys2Proof.Machine
open Sys2Proof

/-! ### Commands -/

/-- A command of the core domain answers a next state with the queue it found: its effect while the core runs, the passing of time alone else. -/
theorem act_next (t : Nat) (f : State → State) (s : State) :
    act t f s = .next { (if coreOn (passTo t { s with pending := [] }) then f (passTo t { s with pending := [] }) else passTo t { s with pending := [] }) with
      pending := s.pending } := rfl

/-- So does one of a domain that no reset stops. -/
theorem actAlways_next (t : Nat) (f : State → State) (s : State) :
    actAlways t f s = .next { f (passTo t { s with pending := [] }) with pending := s.pending } := rfl

/-! ### Register storage -/

@[simp] theorem regGet_regSet (off : Nat) (v : Word) (s : State) : regGet (regSet off v s) off = v := tget_tset_same _ _ _ _

/-- A write of one register leaves the others. -/
theorem regGet_regSet_ne (off j : Nat) (v : Word) (s : State) (h : j ≠ off) : regGet (regSet off v s) j = regGet s j := tget_tset_ne _ _ _ _ _ _ h

@[simp] theorem regPut_mem (off hi lo v : Nat) (s : State) : (regPut off hi lo v s).mem = s.mem := rfl
@[simp] theorem countBy_mem (off hi lo k : Nat) (s : State) : (countBy off hi lo k s).mem = s.mem := rfl
@[simp] theorem count_mem (off hi lo : Nat) (s : State) : (count off hi lo s).mem = s.mem := rfl
@[simp] theorem setFlag_mem (off i : Nat) (s : State) : (setFlag off i s).mem = s.mem := rfl

/-- A count changes the storage of its register, and the record of the cycle. -/
theorem countBy_frame (off hi lo k : Nat) (s : State) :
    countBy off hi lo k s = { s with regs := (countBy off hi lo k s).regs, hw := (countBy off hi lo k s).hw } := rfl

theorem regGet_countBy_ne (off hi lo k j : Nat) (s : State) (h : j ≠ off) : regGet (countBy off hi lo k s) j = regGet s j := regGet_regSet_ne _ _ _ _ h

/-! ### The memory of BAR2 -/

@[simp] theorem memGet_memSet (a : Nat) (b : Byte) (s : State) : memGet (memSet a b s) a = b := tget_tset_same _ _ _ _

theorem memGet_memSet_ne (a j : Nat) (b : Byte) (s : State) (h : j ≠ a) : memGet (memSet a b s) j = memGet s j := tget_tset_ne _ _ _ _ _ _ h

/-- Bytes outside those written keep their value. -/
theorem memGet_memBytes_out (bs : Bytes) (a j : Nat) (s : State) (h : j < a ∨ a + bs.length ≤ j) : memGet (memBytes a bs s) j = memGet s j := by
  induction bs generalizing a s with
  | nil => rfl
  | cons b r ih =>
    rw [memBytes, ih]
    · exact memGet_memSet_ne _ _ _ _ (by rw [List.length_cons] at h; omega)
    · rw [List.length_cons] at h; omega

/-- The bytes written read back. -/
theorem memGet_memBytes_in (bs : Bytes) (a i : Nat) (s : State) (h : i < bs.length) : memGet (memBytes a bs s) (a + i) = bs.getD i 0 := by
  induction bs generalizing a i s with
  | nil => simp at h
  | cons b r ih =>
    rw [memBytes]
    cases i with
    | zero =>
      rw [memGet_memBytes_out _ _ _ _ (.inl (by omega))]
      simp
    | succ n =>
      rw [show a + (n + 1) = a + 1 + n by omega, ih _ _ _ (by simpa using h)]
      simp

/-- Bytes written change the memory alone. -/
theorem memBytes_frame (bs : Bytes) (a : Nat) (s : State) : memBytes a bs s = { s with mem := (memBytes a bs s).mem } := by
  induction bs generalizing a s with
  | nil => rfl
  | cons b r ih => rw [memBytes, ih]; rfl

/-- Bytes written keep the canonical form. -/
theorem memBytes_wf (bs : Bytes) (a : Nat) (s : State) (h : Memory.wf s.mem = true) : Memory.wf (memBytes a bs s).mem = true := by
  induction bs generalizing a s with
  | nil => exact h
  | cons b r ih => exact ih _ _ (tabWf_tset _ _ _ _ h)

theorem memPutWord_wf (a : Nat) (w : Word) (s : State) (h : Memory.wf s.mem = true) : Memory.wf (memPutWord a w s).mem = true := memBytes_wf _ _ _ h
theorem memPutWords_wf (a : Nat) (ws : Rec) (s : State) (h : Memory.wf s.mem = true) : Memory.wf (memPutWords a ws s).mem = true := memBytes_wf _ _ _ h

theorem memPutWord_frame (a : Nat) (w : Word) (s : State) : memPutWord a w s = { s with mem := (memPutWord a w s).mem } := memBytes_frame _ _ _
theorem memPutWords_frame (a : Nat) (ws : Rec) (s : State) : memPutWords a ws s = { s with mem := (memPutWords a ws s).mem } := memBytes_frame _ _ _

/-- Two writes in a row. -/
theorem memBytes_append (b c : Bytes) (a : Nat) (s : State) : memBytes a (b ++ c) s = memBytes (a + b.length) c (memBytes a b s) := by
  induction b generalizing a s with
  | nil => rfl
  | cons x r ih => rw [List.cons_append, memBytes, ih, memBytes]; congr 1; simp; omega

/-- A word of four bytes is the word of its bytes. -/
theorem word_leBytes (w : Word) :
    word ((w.extractLsb' 0 8).toNat + (w.extractLsb' 8 8).toNat * 2 ^ 8 + (w.extractLsb' 16 8).toNat * 2 ^ 16 + (w.extractLsb' 24 8).toNat * 2 ^ 24) = w := by
  apply BitVec.eq_of_toNat_eq
  simp [word, BitVec.extractLsb'_toNat, Nat.shiftRight_eq_div_pow]
  omega

/-- A word written reads back. -/
theorem memWord_memPutWord (a : Nat) (w : Word) (s : State) : memWord (memPutWord a w s) a = w := by
  have h := fun i hi => memGet_memBytes_in (leBytes w) a i s hi
  have h0 := h 0 (by simp [leBytes])
  have h1 := h 1 (by simp [leBytes])
  have h2 := h 2 (by simp [leBytes])
  have h3 := h 3 (by simp [leBytes])
  simp only [memWord, memPutWord, Nat.add_zero] at *
  rw [h0, h1, h2, h3]
  exact word_leBytes w

/-- A word that does not meet the bytes written keeps its value. -/
theorem memWord_memBytes_out (bs : Bytes) (a j : Nat) (s : State) (h : j + 4 ≤ a ∨ a + bs.length ≤ j) : memWord (memBytes a bs s) j = memWord s j := by
  simp only [memWord]
  rw [memGet_memBytes_out _ _ _ _ (by omega), memGet_memBytes_out _ _ _ _ (by omega), memGet_memBytes_out _ _ _ _ (by omega),
    memGet_memBytes_out _ _ _ _ (by omega)]

theorem leBytes_length (w : Word) : (leBytes w).length = 4 := rfl

theorem flatMap_leBytes_length (ws : Rec) : (ws.flatMap leBytes).length = 4 * ws.length := by
  induction ws with
  | nil => rfl
  | cons w r ih => simp [leBytes_length, ih]; omega

/-- Words written read back, each in its place. -/
theorem memWord_memPutWords (ws : Rec) (a i : Nat) (s : State) (h : i < ws.length) : memWord (memPutWords a ws s) (a + 4 * i) = ws.getD i 0 := by
  induction ws generalizing a i s with
  | nil => simp at h
  | cons w r ih =>
    have e : memPutWords a (w :: r) s = memPutWords (a + 4) r (memPutWord a w s) := by
      simp only [memPutWords, memPutWord, List.flatMap_cons, memBytes_append, leBytes_length]
    rw [e]
    cases i with
    | zero =>
      simp only [memPutWords, Nat.mul_zero, Nat.add_zero]
      rw [memWord_memBytes_out _ _ _ _ (.inl (by omega)), memWord_memPutWord]
      rfl
    | succ n =>
      rw [show a + 4 * (n + 1) = a + 4 + 4 * n by omega, ih _ _ _ (by simpa using h)]
      simp

/-! ### Records and events -/

theorem csRecount_frame (a b : List CsGroup) (s : State) : csRecount a b s = { s with regs := (csRecount a b s).regs, hw := (csRecount a b s).hw } := by
  unfold csRecount
  split <;> rfl

/-- A group offered to the recorder changes the recorder and, where it is lost, the count of losses. -/
theorem csPushAt_frame (kind lt : Nat) (ps : List (BitVec 64)) (s : State) :
    csPushAt kind lt ps s = { s with cs := (csPushAt kind lt ps s).cs, regs := (csPushAt kind lt ps s).regs, hw := (csPushAt kind lt ps s).hw } := by
  unfold csPushAt
  dsimp only
  split
  · rfl
  · unfold csSettle
    rw [csRecount_frame]

@[simp] theorem csPushAt_mem (kind lt : Nat) (ps : List (BitVec 64)) (s : State) : (csPushAt kind lt ps s).mem = s.mem := by rw [csPushAt_frame]
@[simp] theorem csPush_mem (kind : Nat) (ps : List (BitVec 64)) (s : State) : (csPush kind ps s).mem = s.mem := csPushAt_mem _ _ _ _

theorem csPush_frame (kind : Nat) (ps : List (BitVec 64)) (s : State) :
    csPush kind ps s = { s with cs := (csPush kind ps s).cs, regs := (csPush kind ps s).regs, hw := (csPush kind ps s).hw } := csPushAt_frame _ _ _ _

/-- An event changes the recorder, its count of losses and the coalescer. -/
theorem raiseDetailed_frame (src cause d : Nat) (s : State) :
    raiseDetailed src cause d s =
      { s with cs := (raiseDetailed src cause d s).cs, regs := (raiseDetailed src cause d s).regs, hw := (raiseDetailed src cause d s).hw, ev := (raiseDetailed src cause d s).ev } := by
  have h := csPush_frame 5 [pack64 [(9, src), (8, cause), (47, d)]] s
  unfold raiseDetailed
  generalize csPush 5 [pack64 [(9, src), (8, cause), (47, d)]] s = u at h
  dsimp only
  rw [h]

/-- An event whose detail may be free changes the next free value as well. -/
theorem raiseEvent_frame (src cause : Nat) (d : Option Nat) (s : State) :
    raiseEvent src cause d s =
      { s with cs := (raiseEvent src cause d s).cs, regs := (raiseEvent src cause d s).regs, hw := (raiseEvent src cause d s).hw, ev := (raiseEvent src cause d s).ev,
               fresh := (raiseEvent src cause d s).fresh } := by
  cases d with
  | some d => rw [raiseEvent, raiseDetailed_frame]
  | none => rw [raiseEvent, raiseDetailed_frame]; rfl

@[simp] theorem raiseEvent_mem (src cause : Nat) (d : Option Nat) (s : State) : (raiseEvent src cause d s).mem = s.mem := by rw [raiseEvent_frame]
@[simp] theorem systemEvent_mem (i cause : Nat) (s : State) : (systemEvent i cause s).mem = s.mem := raiseEvent_mem _ _ _ _
@[simp] theorem systemEventD_mem (i cause d : Nat) (s : State) : (systemEventD i cause d s).mem = s.mem := raiseEvent_mem _ _ _ _

/-! ### Mailboxes and rings -/

@[simp] theorem boxOf_setBox (m : Nat) (b : Mailbox) (s : State) : boxOf (setBox m b s) m = b := tget_tset_same _ _ _ _

theorem boxOf_setBox_ne (m j : Nat) (b : Mailbox) (s : State) (h : j ≠ m) : boxOf (setBox m b s) j = boxOf s j := tget_tset_ne _ _ _ _ _ _ h

/-- The pointers that a ring takes are those that it has. -/
@[simp] theorem ringOf_setRing (id : RingId) (r : Ring) (s : State) : ringOf (setRing id r s) id = r := by
  cases id
  case req m => exact congrArg Mailbox.req (boxOf_setBox m _ s)
  case rsp m => exact congrArg Mailbox.rsp (boxOf_setBox m _ s)
  case proof => rfl
  case evq e => exact tget_tset_same {} s.ev.ring e r
  case can n => exact tget_tset_same {} s.rings (16 + n) r
  case lin n => exact tget_tset_same {} s.rings (40 + n) r
  case trace => exact tget_tset_same {} s.rings 48 r

@[simp] theorem setRing_mem (id : RingId) (r : Ring) (s : State) : (setRing id r s).mem = s.mem := by cases id <;> rfl

theorem ringSlotPut_wf (id : RingId) (ptr w : Nat) (v : Word) (s : State) (h : Memory.wf s.mem = true) : Memory.wf (ringSlotPut id ptr w v s).mem = true := by
  cases id
  case proof => exact h
  all_goals exact memPutWord_wf _ _ _ h

theorem ringWrite_wf (id : RingId) (ptr i : Nat) (ws : Rec) (s : State) (h : Memory.wf s.mem = true) : Memory.wf (ringWrite id ptr i ws s).mem = true := by
  induction ws generalizing i s with
  | nil => exact h
  | cons v r ih => exact ih _ _ (ringSlotPut_wf _ _ _ _ _ h)

theorem ringLand_wf (id : RingId) (ws : Rec) (s : State) (h : Memory.wf s.mem = true) : Memory.wf (ringLand id ws s).mem = true := by
  simp only [ringLand, setRing_mem]
  exact ringWrite_wf _ _ _ _ _ h

theorem ringOffer_wf (id : RingId) (ws : Rec) (s : State) (h : Memory.wf s.mem = true) : Memory.wf (ringOffer id ws s).mem = true := by
  unfold ringOffer
  dsimp only
  split
  · exact ringLand_wf _ _ _ h
  · simpa using h

/-- A packet offered to a ring keeps the canonical form of the memory. -/
theorem ringPush_wf (id : RingId) (ws : Rec) (s : State) (h : Memory.wf s.mem = true) : Memory.wf (ringPush id ws s).mem = true := by
  unfold ringPush
  dsimp only
  split
  · simpa using h
  · split
    · simpa using ringWrite_wf _ _ _ _ _ h
    · exact ringOffer_wf _ _ _ h
  · exact ringOffer_wf _ _ _ h

theorem ringCloseGap_wf (id : RingId) (s : State) (h : Memory.wf s.mem = true) : Memory.wf (ringCloseGap id s).mem = true := by
  unfold ringCloseGap
  dsimp only
  split
  · exact h
  · split
    · exact ringLand_wf _ _ _ (by simpa using h)
    · exact h

theorem ringRescue_wf (id : RingId) (s : State) (h : Memory.wf s.mem = true) : Memory.wf (ringRescue id s).mem = true := by
  unfold ringRescue
  dsimp only
  split
  · split
    · exact ringLand_wf _ _ _ (by simpa using h)
    · exact h
  · exact h

theorem ringConsume_wf (id : RingId) (v : Nat) (s : State) (h : Memory.wf s.mem = true) : Memory.wf (ringConsume id v s).mem = true := by
  unfold ringConsume
  exact ringRescue_wf _ _ (by simpa using h)

/-- A ring whose gap no packet of this cycle opened rescues none. -/
theorem ringRescue_none (id : RingId) (s : State) (h : (ringOf s id).gap = none ∨ (ringOf s id).late = none) : ringRescue id s = s := by
  unfold ringRescue
  dsimp only
  split
  · rename_i h1 h2
    rcases h with h | h
    · rw [h] at h2; cases h2
    · rw [h] at h1; cases h1
  · rfl

/-- A packet that finds no room, or a gap, changes no memory, but for a marker of the same cycle, which counts it. -/
theorem ringPush_full_mem (id : RingId) (ws : Rec) (s : State) (h : (ringOf s id).gap ≠ none ∨ ringFree s id < slotsFor id ws)
    (hm : (ringOf s id).gap = none → ∀ c p n, (ringOf s id).marker = some (c, p, n) → c ≠ s.time.now) :
    (ringPush id ws s).mem = s.mem := by
  have ho : (ringOf s id).gap = none → (ringOffer id ws s).mem = s.mem := by
    intro hg
    have hf : ¬ slotsFor id ws ≤ ringFree s id := by
      rcases h with h | h
      · exact absurd hg h
      · omega
    simp [ringOffer, hf]
  unfold ringPush
  dsimp only
  split
  · simp
  · rename_i hg hk
    rw [if_neg (hm hg _ _ _ hk)]
    exact ho hg
  · rename_i hg _
    exact ho hg

/-- Words stored in BAR2 keep the canonical form. -/
theorem bar2Store_wf (a : Nat) (ws : Rec) (s : State) (h : Memory.wf s.mem = true) : Memory.wf (bar2Store a ws s).mem = true := memPutWords_wf a ws s h

/-- Words stored in BAR2 change its memory, and which of its words are in error. -/
theorem bar2Store_frame (a : Nat) (ws : Rec) (s : State) :
    bar2Store a ws s = { s with
      mem := (memPutWords a ws s).mem
      sys := { s.sys with test := { s.sys.test with badMem := s.sys.test.badMem.filter (fun i => !(a / 4 ≤ i && i < a / 4 + ws.length)) } } } := by
  unfold bar2Store
  rw [memPutWords_frame]
  rfl

end Sys2Proof.Machine
end

