-- ==== Sys2Proof/Laws/Commands.lean ====
section
/-!
SUPPORT. How statements about commands follow from what the commands are made of: requests, commands of a domain, writes of registers.
-/
namespace Sys2Proof.Safety
open Sys2Proof Sys2Proof.Machine

/-- Accepting a request changes nothing of the system state. -/
theorem accepted_sys (op : Nat) (q : Req) (st : Nat) (s : State) : (acceptReq op q st s).sys = s.sys := by
  have hc : ∀ k ps (u : State), (csPush k ps u).sys = u.sys := fun k ps u => by rw [csPush_frame]
  unfold acceptReq validateEmpty mbxRecord journal
  dsimp only
  (repeat' split) <;> simp [hc]

theorem accepted_ciph (op : Nat) (q : Req) (st : Nat) (s : State) : (acceptReq op q st s).ciph = s.ciph := by
  have hc : ∀ k ps (u : State), (csPush k ps u).ciph = u.ciph := fun k ps u => by rw [csPush_frame]
  unfold acceptReq validateEmpty mbxRecord journal
  dsimp only
  (repeat' split) <;> simp [hc]

/-- A request that its mailbox takes is concluded with what its handler answers on the state that it enters. -/
theorem request_taken (t op : Nat) (h : Req → State → Reply) (q : Req) (s : State) (hk : Taken op t q s) :
    request t op h q s = ends s (conclude op q (h q (entered t op q s)).1 (h q (entered t op q s)).2) := by
  obtain ⟨h1, h2, h3, h4, h5, h6, h7, h8, h9, h10, htest, hroom, hlock, h11⟩ := hk
  have hon : coreOn (acting t s) = true := by
    simp [serves] at h2; exact h2.1.1.1.1.1
  cases hr : opRule op with
  | none => simp [hr] at h10
  | some r =>
    simp only [hr, Option.any_some, Bool.and_eq_true, decide_eq_true_eq, Bool.or_eq_true, Bool.not_eq_true'] at h10
    obtain ⟨⟨⟨ha, hb⟩, hc⟩, hd⟩ := h10
    have hsys : (accepted t op q s).sys = (acting t s).sys := by
      unfold accepted; rw [accepted_sys]
    have hserve : serve op h q (acting t s) = conclude op q (execute op h q (accepted t op q s)).1 (execute op h q (accepted t op q s)).2 := by
      unfold serve
      simp only [h2, h3, h4, h5, safelightShut]
      have hs : signed 32 (q.seq - (boxOf (acting t s) q.mbx).ack).toNat = 1 := by
        have : q.seq - (boxOf (acting t s) q.mbx).ack = 1#32 := by rw [h9]; generalize (boxOf (acting t s) q.mbx).ack = a; bv_omega
        rw [this]; decide
      rw [hs]
      have hb' : bypassLocked op (acting t s) = false := hlock
      simp [Nat.not_le.mpr h1, Nat.not_lt.mpr h6, h7, h8, hb', htest]
      rfl
    have hexec : execute op h q (accepted t op q s) = h q (entered t op q s) := by
      unfold execute
      have hl : (accepted t op q s).sys.fw.lifecycle = (acting t s).sys.fw.lifecycle := by rw [hsys]
      have hbt : (accepted t op q s).sys.fw.boot = .served := by rw [hsys, h3]
      simp only [hl, hr, hbt]
      unfold entered
      cases hq : q.auth with
      | none =>
        simp [hq] at hc
        have : ¬ (q.verMaj * 16 + q.verMin < r.since) := by omega
        simp [this, hb]
        rcases hc with ⟨hc1, hc2⟩
        simp [hc1]
        by_cases hf : r.authField = true
        · simp [hf] at hc2 ⊢
          simp [hc2]
          intro x y; simp [x, y] at hd
        · simp [hf]
          intro x y; simp [x, y] at hd
      | some a =>
        have := h11 a hq
        have h' : ¬ (q.verMaj * 16 + q.verMin < r.since) := by omega
        have hr3 := hroom (by simp [hq])
        simp only [h', hb, this, hr3]
        rcases hd with hd | hd <;> simp [hd]
        all_goals first | done | (intro x y; simp [y] at hd)
    unfold request act actAlways ends
    change Host.Outcome.next { (if coreOn (acting t s) = true then serve op h q (acting t s) else acting t s) with pending := s.pending } = _
    rw [if_pos hon, hserve, hexec]

/-- How a statement of an answered request follows from its handler. -/
theorem gives_of {op c P payload eff} (h : Req → State → Reply) (hc : ∀ t q s, exec (c t q) s = request t op h q s)
    (hr : ∀ q e, P q e → h q e = (.done 0 (payload q e), eff q e)) : Gives op c P payload eff := by
  intro t q s hk hp
  rw [hc, request_taken _ _ _ _ _ hk, hr q _ hp]; rfl

/-- How a statement of a refusal follows from the handler. -/
theorem refuses_of {op c P st payload} (h : Req → State → Reply) (hc : ∀ t q s, exec (c t q) s = request t op h q s)
    (hr : ∀ q e, P q e → h q e = (.done st payload, e)) : Refuses op c P st payload := by
  intro t q s hk hp
  rw [hc, request_taken _ _ _ _ _ hk, hr q _ hp]; rfl

/-- How a statement of a staged set follows from the handler. -/
theorem stages_of {op c P x extra eff} (h : Req → State → Reply) (hc : ∀ t q s, exec (c t q) s = request t op h q s)
    (hr : ∀ q e, P q e → h q e = (.stage (x q e) (extra q e), eff q e)) : Stages op c P x extra eff := by
  intro t q s hk hp
  rw [hc, request_taken _ _ _ _ _ hk, hr q _ hp]; rfl

/-- How a statement of a request that goes on follows from the handler. -/
theorem goes_of {op c P progress eff} (h : Req → State → Reply) (hc : ∀ t q s, exec (c t q) s = request t op h q s)
    (hr : ∀ q e, P q e → h q e = (.defer (progress q e), eff q e)) : GoesOn op c P progress eff := by
  intro t q s hk hp
  rw [hc, request_taken _ _ _ _ _ hk, hr q _ hp]; rfl

/-- How a statement of a core-domain command follows from its effect. -/
theorem does_of {c P eff} (f : State → State) (hc : ∀ t s, exec (c t) s = act t f s) (hr : ∀ s, coreOn s = true → P s → f s = eff s) : Does c P eff := by
  intro t s hon hp
  rw [hc]; unfold act actAlways ends
  have : coreOn (acting t s) = true := hon
  change Host.Outcome.next { (if coreOn (acting t s) = true then f (acting t s) else acting t s) with pending := s.pending } = _
  rw [if_pos this, hr _ this hp]

/-- How a statement of a command of another domain follows from its effect. -/
theorem doesAlways_of {c P eff} (f : State → State) (hc : ∀ t s, exec (c t) s = actAlways t f s) (hr : ∀ s, P s → f s = eff s) : DoesAlways c P eff := by
  intro t s hp
  rw [hc]; unfold actAlways ends
  change Host.Outcome.next { f (acting t s) with pending := s.pending } = _
  rw [hr _ hp]

/-- A request whose words are as its handler needs them goes on. -/
theorem need_ok {len q l s k} (h1 : q.args.length = len) (h2 : ∀ e ∈ l, e.2 = true) : need len q l s k = k := by
  unfold need
  have : l.find? (fun e => !e.2) = none := by
    rw [List.find?_eq_none]; intro x hx; simp [h2 x hx]
  simp [h1, this]

/-- Words of the rest of a record. -/
@[simp] theorem rw_drop (k i : Nat) (r : Rec) : Machine.rw (r.drop k) i = Machine.rw r (k + i) := by simp [Machine.rw, List.getD]

@[simp] theorem packW_zero : packW [(16, 0), (16, 0)] = 0 := rfl

/-- The alias of a register names the register and the alias. -/
theorem aliasOf_aliasOff (reg : Nat) (a : Alias) (h : reg % 0x10000 < 0x4000) : aliasOf (aliasOff reg a) = (reg, a) := by
  cases a <;> simp only [aliasOf, aliasOff]
  · have h1 : reg % 0x10000 / 0x4000 = 0 := by omega
    rw [h1]; simp; omega
  · have h1 : (reg+0x4000) % 0x10000 / 0x4000 = 1 := by omega
    rw [h1]; simp; omega
  · have h1 : (reg+0x8000) % 0x10000 / 0x4000 = 2 := by omega
    rw [h1]; simp; omega
  · have h1 : (reg+0xC000) % 0x10000 / 0x4000 = 3 := by omega
    rw [h1]; simp; omega

/-- A write that nothing refuses stores the register and starts what it starts. -/
theorem regWrite_ok {o reg a v s fs} (h1 : reg % 0x10000 < 0x4000) (h2 : reg < 0x90000) (h3 : reg % 4 = 0) (hf : regFields reg = some fs)
   (hn : noAlias reg = false) (hp : ¬ (blkBRG + 0x800 ≤ reg ∧ reg < blkBRG + 0x1000)) (hro : fs.all (fun f => f.acc = .ro) = false)
   (hl : o = .spi → regBit s rBRG_CTRL 25 = false) (hr : regRefuses s o reg (newValue reg a v s) v = none) :
   regWrite o (aliasOff reg a) v s = .ok (regActs s reg (regGet s reg) (newValue reg a v s) (stored reg a v s)) := by
  unfold regWrite stored newValue
  unfold newValue at hr
  rw [aliasOf_aliasOff _ _ h1]
  rw [hf] at hr ⊢
  change regRefuses s o reg (regAfter s reg fs a v) v = none at hr
  dsimp only
  simp only [hf]
  change _ = Except.ok (regActs s reg (regGet s reg) (regAfter s reg fs a v) (noteWrite reg fs a v (regSet reg (storeAfter s reg fs (regAfter s reg fs a v)) s)))
  have h4 : ¬ (0x90000 ≤ aliasOff reg a) := by cases a <;> simp [aliasOff] <;> omega
  have h5 : aliasOff reg a % 4 = 0 := by cases a <;> simp [aliasOff] <;> omega
  have h6 : (decide (o = Origin.spi) && regBit s rBRG_CTRL 25) = false := by
    by_cases e : o = .spi
    · simp [hl e]
    · simp [e]
  rw [if_neg (by simp [hn, h4]), if_neg (by omega), if_neg (by rw [h6]; decide)]
  have h7 : (decide (blkBRG + 0x800 ≤ reg) && decide (reg < blkBRG + 0x1000)) = false := by
    simp only [Bool.and_eq_false_iff, decide_eq_false_iff_not]
    by_cases q : blkBRG + 0x800 ≤ reg
    · exact .inr (fun q2 => hp ⟨q, q2⟩)
    · exact .inl q
  rw [h7, hro]
  simp only [Bool.false_eq_true, if_false, hr]

/-- How a statement of a register write follows from its refusals and its effects. -/
theorem writes_of {reg c P eff} {fs} (hc : ∀ t o a v s, exec (c t o a v) s = act t (fun s => hostWrite o (aliasOff reg a) v s) s)
   (h1 : reg % 0x10000 < 0x4000) (h2 : reg < 0x90000) (h3 : reg % 4 = 0) (hf : regFields reg = some fs)
   (hn : noAlias reg = false) (hp : ¬ (blkBRG + 0x800 ≤ reg ∧ reg < blkBRG + 0x1000)) (hro : fs.all (fun f => f.acc = .ro) = false)
   (hr : ∀ s o a v, P o v (newValue reg a v s) s → regRefuses s o reg (newValue reg a v s) v = none)
   (he : ∀ s o a v, P o v (newValue reg a v s) s → regActs s reg (regGet s reg) (newValue reg a v s) (stored reg a v s) = eff (newValue reg a v s) (stored reg a v s)) :
   Writes reg c P eff := by
  intro o a v
  refine does_of _ (fun t s => hc t o a v s) ?_
  intro s hon ⟨⟨l1, l2, l3⟩, hP⟩
  unfold hostWrite
  simp only [l1, l2 v]
  unfold landWrite hostCarried
  simp only [rw, List.getD_cons_zero]
  simp [regWrite_ok h1 h2 h3 hf hn hp hro l3 (hr s o a v hP), he s o a v hP]

end Sys2Proof.Safety
end

