-- ==== Sys2Proof/Laws/Primitives.lean ====
section
/-!
SUPPORT. The lengths of what the algorithms of the cipher complex give (R393).
-/
namespace Sys2Proof.Machine

theorem length_beBytes : ∀ k n : Nat, (beBytes n k).length = k
  | 0, _ => rfl
  | k + 1, n => by simp [beBytes, length_beBytes k]

theorem length_shaRound (k : ShaKind) (v : List Nat) (c x : Nat) (h : v.length = 8) : (shaRound k v c x).length = 8 := by
  unfold shaRound
  split
  · rfl
  · exact h

theorem length_shaRounds (k : ShaKind) : ∀ (l : List (Nat × Nat)) (v : List Nat), v.length = 8 →
    (l.foldl (fun v p => shaRound k v (p.2 / 2 ^ (64 - k.w)) p.1) v).length = 8
  | [], _, h => h
  | _ :: l, v, h => length_shaRounds k l _ (length_shaRound k v _ _ h)

theorem length_shaBlock (k : ShaKind) (h : List Nat) (b : Bytes) (hh : h.length = 8) : (shaBlock k h b).length = 8 := by
  simp [shaBlock, hh, length_shaRounds k _ h hh]

theorem length_shaBlocks (k : ShaKind) : ∀ (l : List Bytes) (h : List Nat), h.length = 8 → (l.foldl (shaBlock k) h).length = 8
  | [], _, h => h
  | b :: l, h, hh => length_shaBlocks k l _ (length_shaBlock k h b hh)

/-- A hash has 48 bytes where long, else 32. -/
theorem length_sha (long : Bool) (b : Bytes) : (sha long b).length = if long then 48 else 32 := by
  have h : ∀ (w : Nat) (l : List Nat), (l.flatMap (fun x => beBytes x w)).length = w * l.length := by
    intro w l
    induction l with
    | nil => rfl
    | cons x l ih => rw [List.flatMap_cons, List.length_append, ih, length_beBytes, List.length_cons, Nat.mul_succ, Nat.add_comm]
  unfold sha
  cases long
  · simp only [Bool.false_eq_true, if_false, List.length_take, h, shaWords]
    rw [length_shaBlocks _ _ _ rfl]
    rfl
  · simp only [if_true, List.length_take, h, shaWords]
    rw [length_shaBlocks _ _ _ rfl]
    rfl

/-- An AES-CMAC has 16 bytes. -/
theorem length_cmac (key msg : Bytes) : (cmac key msg).length = 16 := length_beBytes 16 _

end Sys2Proof.Machine
end

