-- ==== Sys2Proof/Tests/Slice0.lean ====
section
/-!
SUPPORT. Tests of the model, and for every statement with hypotheses a state and operands that meet them.
-/
namespace Sys2Proof.Tests
set_option Elab.async false
open Sys2Proof Sys2Proof.Machine Sys2Proof.Safety

/-! ### States -/

/-- A device that serves mailbox 0 under version 2.3; its recorder has nothing to write. -/
def live : State :=
  { State.reset with
    sys := { State.reset.sys with fw := { State.reset.sys.fw with boot := .served } }
    mbx := { State.reset.mbx with box := [(0, { state := 1, verMaj := 2, verMin := 3 })] }
    cs := {} }

/-- The next request of mailbox 0. -/
def ask (args : Rec) : Req := { mbx := 0, seq := 1, args := args }

/-- What Taken asks of a request without a trailer. -/
def takes (op : Nat) (q : Req) (s : State) : Bool :=
  decide (q.mbx < 8) && serves s && decide (s.sys.fw.boot = .served) && decide ((boxOf s q.mbx).deferred = none) && decide ((boxOf s q.mbx).state = 1)
    && decide (2048 ≤ ringFree s (.rsp q.mbx)) && decide (q.verMaj = (boxOf s q.mbx).verMaj) && decide (q.verMin = (boxOf s q.mbx).verMin)
    && decide (q.seq = (boxOf s q.mbx).ack + 1)
    && (opRule op).any (fun r => decide (r.since ≤ q.verMaj * 16 + q.verMin) && r.states.testBit s.sys.fw.lifecycle
      && (q.auth.isSome || !(r.authAll || (r.authField && decide (s.sys.fw.lifecycle = 2)))) && (!q.staged || r.bulk.isSome))
    && !bypassLocked op s && !testsWait op q s

theorem taken {op : Nat} {q : Req} {s : State} (h : takes op q (acting 0 s) = true) (ha : q.auth = none) : Taken op 0 q s := by
  simp only [takes, Bool.and_eq_true, decide_eq_true_eq] at h
  obtain ⟨⟨⟨⟨⟨⟨⟨⟨⟨⟨⟨h1, h2⟩, h3⟩, h4⟩, h5⟩, h6⟩, h7⟩, h8⟩, h9⟩, h10⟩, h11⟩, h12⟩ := h
  exact ⟨h1, h2, h3, h4, h5, h6, h7, h8, h9, h10, by simpa using h12, by simp [ha], by simpa using h11, by simp [ha]⟩

/-- Words of bytes in whole words hold those bytes. -/
theorem recBytes_bytesRec : ∀ l : Bytes, l.length % 4 = 0 → recBytes (bytesRec l) = l
  | [], _ => rfl
  | [_], h => by simp at h
  | [_, _], h => by simp at h
  | [_, _, _], h => by simp at h
  | a :: b :: c :: d :: r, h => by
    have hr := recBytes_bytesRec r (by simp at h; omega)
    have hw : wordBytes (word (beAt [a, b, c, d] 0 4)) = [a, b, c, d] := by
      have := a.isLt; have := b.isLt; have := c.isLt; have := d.isLt
      simp only [wordBytes, word, beAt, byteAt, beBytes, List.cons.injEq, List.getD, and_true]
      refine ⟨?_, ?_, ?_, ?_⟩ <;> apply BitVec.eq_of_toNat_eq <;> simp <;> omega
    simp only [recBytes, bytesRec, List.flatMap_cons] at hr ⊢
    rw [hw, hr]; rfl

/-- The device with a key for trailers in slot 1. -/
def keyed : State :=
  { live with
    ciph := { live.ciph with slot := [(0, rootSlot), (1, { type := 1, usage := 8, key := List.replicate 16 7 })], test2At := 1 }
    mbx := { live.mbx with authSlot := 1 } }

/-- That device, its Darkroom running too. -/
def running : State := { keyed with dark := { keyed.dark with run := true } }

/-- A request with its trailer under that key. -/
def sealedAsk (op : Nat) (args : Rec) : Req :=
  { ask args with auth := some ⟨1, bytesRec (cmac (List.replicate 16 7) (recBytes (signedWords op { ask args with auth := some ⟨1, []⟩ } ⟨1, []⟩)))⟩ }

/-- A request with its trailer under the key of the device is authentic, as the model computes its CMAC. -/
theorem taken_sealed {op : Nat} {args : Rec} {s : State} (h : takes op (sealedAsk op args) (acting 0 s) = true)
    (hr : bulkRoom (accepted 0 op (sealedAsk op args) s) 3 = true)
    (hs : startStatus (accepted 0 op (sealedAsk op args) s) { requester := 3, op := .cmac, slot := (accepted 0 op (sealedAsk op args) s).mbx.authSlot } = 0)
    (hc : (accepted 0 op (sealedAsk op args) s).mbx.authCount = 0)
    (hk : (slotAt (accepted 0 op (sealedAsk op args) s) (accepted 0 op (sealedAsk op args) s).mbx.authSlot).key = List.replicate 16 7) :
    Taken op 0 (sealedAsk op args) s := by
  simp only [takes, Bool.and_eq_true, decide_eq_true_eq] at h
  obtain ⟨⟨⟨⟨⟨⟨⟨⟨⟨⟨⟨h1, h2⟩, h3⟩, h4⟩, h5⟩, h6⟩, h7⟩, h8⟩, h9⟩, h10⟩, h11⟩, h12⟩ := h
  refine ⟨h1, h2, h3, h4, h5, h6, h7, h8, h9, h10, by simpa using h12, fun _ => hr, by simpa using h11, ?_⟩
  intro a ha
  simp only [sealedAsk, Option.some.injEq] at ha
  subst ha
  unfold authentic
  rw [hs, hc, hk]
  simp only [decide_true, Bool.true_and, Bool.and_eq_true, decide_eq_true_eq]
  refine ⟨by decide, ?_⟩
  rw [recBytes_bytesRec]
  · rfl
  · rw [length_cmac]

theorem length_bytesRec : ∀ l : Bytes, l.length % 4 = 0 → (bytesRec l).length * 4 = l.length
  | [], _ => rfl
  | [_], h => by simp at h
  | [_, _], h => by simp at h
  | [_, _, _], h => by simp at h
  | _ :: _ :: _ :: _ :: r, h => by
    have := length_bytesRec r (by simp at h; omega)
    simp only [bytesRec, List.length_cons] at this ⊢
    omega

theorem imageCheck_congr {a b : State} (h : a.sys = b.sys) : imageCheck a = imageCheck b := by
  change imageCheck { b with sys := a.sys } = imageCheck b
  rw [h]

/-- The device with an image in its flash. -/
def flashed (f : List (Nat × Byte)) : State := { live with sys := { live.sys with fw := { live.sys.fw with flash := f } } }

/-- An image that passes the checks, whatever its bytes, can be activated by a request with the hash of its bytes. -/
theorem activation_witness (f : List (Nat × Byte)) (hf : imageCheck (flashed f) = 0) :
    ∃ q s, Taken 0x0D03 0 q s ∧
    (fun q e => q.args.length = 8 ∧ inFlight e (fun op => op = 0x0D02 || op = 0x0D07) = false ∧ e.sys.fw.act = none ∧ imageCheck e ≠ 2 ∧ imageCheck e ≠ 3 ∧
      imageCheck e ≠ 4 ∧ imageCheck e ≠ 5 ∧ recBytes q.args = sha false (flashBytes e 0 (imageLength e)) ∧ e.sys.fw.boot ≠ .safelight) q (entered 0 0x0D03 q s) := by
  let s : State := flashed f
  obtain ⟨b, hb⟩ : ∃ b, b = sha false (flashBytes s 0 (imageLength s)) := ⟨_, rfl⟩
  have hl : b.length = 32 := by rw [hb, length_sha]; rfl
  let q : Req := ask (bytesRec b)
  have he : ∀ q', (entered 0 0x0D03 q' s).sys = s.sys := fun q' => by
    unfold entered; split <;> simp [accepted, Sys2Proof.Safety.accepted_sys] <;> rfl
  have ht : ∀ a, takes 0x0D03 (ask a) (acting 0 (flashed f)) = true := fun a =>
    show takes 0x0D03 (ask []) (acting 0 live) = true by decide
  have hc : imageCheck (entered 0 0x0D03 q s) = 0 := (imageCheck_congr (he q)).trans hf
  refine ⟨q, s, taken (ht _) rfl, ?_, rfl, ?_, by omega, by omega, by omega, by omega, ?_, ?_⟩
  · have h := length_bytesRec b (by omega)
    exact (by omega : (bytesRec b).length = 8)
  · rw [he]; rfl
  · have : flashBytes (entered 0 0x0D03 q s) 0 (imageLength (entered 0 0x0D03 q s)) = flashBytes s 0 (imageLength s) := by
      simp only [imageLength, imageHeader, flashWords, flashWord, flashBytes, flashByte, he]
    rw [this, ← hb]; exact recBytes_bytesRec b (by omega)
  · rw [he]; exact (show live.sys.fw.boot ≠ .safelight by decide)

/-- Entering a request changes nothing of the cipher complex. -/
theorem entered_ciph (op : Nat) (q : Req) (s : State) (h : (acting 0 s).ciph = s.ciph) : (entered 0 op q s).ciph = s.ciph := by
  unfold entered
  split <;> exact (accepted_ciph op q 0 (acting 0 s)).trans h

/-- The device with one external port. -/
def withPort (n : Nat) (p : Port) : State := { live with ports := { port := [(n, p)] } }

/-- The device as a relay of domain 5 in slot 1: port 5 is the slave, port 6 a master. -/
def relaying (v : Slot) (p : PortTime) : State :=
  { live with
    net := { slot := [(1, { v with cfg := [0x82800000, 0, 0x02020000, 0, 0x2400, 0] })], port := [(5, { p with asCap := true })] }
    ports := { port := [(5, { st := .up })] } }

/-- The egress side of a port that is up. -/
def sendingPort (n : Nat) (e : Egress) (p : Port) : State := { withPort n { p with st := .up } with egress := [(n, e)] }

/-- The device with a key in slot 1 that may unwrap others, its tests over. -/
def unwrapping : State :=
  { live with ciph := { live.ciph with slot := [(0, rootSlot), (1, { type := 2, usage := 0x40, childUsage := 1, key := List.replicate 16 7 })], test2At := 1 } }

theorem lt_nSlots {n : Nat} (h : n < 16) : n < nSlots := Nat.lt_add_right _ h

/-- A calibration image of the shape of R432; its digest is SHA-256 by hashlib of Python. -/
def someImage : Rec :=
  0x00010000 :: [0x260C4648, 0x12512CC0, 0xA780D426, 0xE9DFCA10, 0xDA554DEB, 0x2C52BDF1, 0x9A5EBA5F, 0xED709780] ++ calKeys.flatMap (fun k => [packW [(5, k.1), (4, k.2), (23, 0)], 0, 0, 0]) ++ List.replicate 191 0

/-- A frame of port 5 with a stream handle, behind one of port 27 that the stages have already taken in this cycle. -/
def turned : State :=
  { live with
    buf := { frames := [(1, some { port := 5, whole := true, bytes := List.replicate 64 0 })] }
    str := { acted := (0, 27) }
    fwd := { bridge := [(5, [0x28008370, 0x00FAC681, 0x17C90000, 0x40000000])], vlan := [(1, [0x20, 0, 0x80000000])]
             ident := [(2864, [0x50000001, 0, 5])], handle := [(5, [0x80000000])] } }

/-- The device of role A of a pair with partner 7, pairing enabled on the port that is up, with the pairing key. -/
def paired (p : Pair) : State :=
  { withPort 11 { st := .up } with
    pair := { p with en := true, bound := some (false, 7) }
    ciph := { live.ciph with slot := [(0, rootSlot), (255, { type := 1, usage := 8, key := List.replicate 16 7 })], test2At := 1 } }

/-- A message with its CMAC under that key. -/
def sealedMsg (body : Rec) : Rec := body ++ bytesRec (cmac (List.replicate 16 7) (recBytes body))

/-- The device as its image is checked, its BIST over, with an image in its flash. -/
def booting (b : Boot) (f : List (Nat × Byte)) : State :=
  { live with sys := { live.sys with core := { live.sys.core with bist := false }, fw := { live.sys.fw with boot := b, flash := f } } }

/-- The device as it verifies a debug unlock, whatever its registers hold: no signature of the key of the debug port is known to the model. -/
def verifying (r : Tab Word) : State := { live with sys := { live.sys with test := { verify := true } }, regs := r }

/-- A frame of the SPI port: an operation on n words at an address, with data. -/
def spiFrame (op n addr : Nat) (data : Bytes) : Bytes :=
  byteOf (64 * op + n - 1) :: beBytes addr 4 ++ [byteOf (spiCrc (byteOf (64 * op + n - 1) :: beBytes addr 4))] ++ data ++ [byteOf (spiCrc data)]

/-- An in-band frame to mailbox 0 with a fresh message of 16 bytes. -/
def inbandMsg : Bytes := [1, 0, 0, 16, 0, 0, 0, 0, 0, 0, 0, 1, 0, 0, 0, 0] ++ List.replicate 16 0
def inbandHead : Bytes := List.replicate 12 2 ++ [0x88, 0xB6]

def inbandState : State := { live with ciph := { live.ciph with slot := [(0, rootSlot), (1, { type := 1, usage := 8, key := List.replicate 16 7 })], test2At := 1 }, regs := [(rIB_CFG 0, 0x80800000)] }

/-- States and operands that meet the hypotheses of Obligations.SystemRequestsTakeEffect, each case of it on its own. -/
theorem witness_SystemRequestsTakeEffect :
  (∃ q s, Taken 0x0101 0 q s ∧ (fun q _ => q.args.length = 1 ∧ only (mw q 4) [(31, 24), (23, 21)] = true) q (entered 0 0x0101 q s)) ∧
  (∃ q s, Taken 0x0102 0 q s ∧ (fun q _ => q.args.length = 1 ∧ only (mw q 4) [(2, 0)] = true) q (entered 0 0x0102 q s)) ∧
  (∃ q s, Taken 0x0103 0 q s ∧ (fun q _ => q.args.length = 3 ∧ portWord0 q.args = true ∧ portWord1 q.args = true ∧ portWord2 q.args = true) q (entered 0 0x0103 q s)) ∧
  (∃ q s, Taken 0x0104 0 q s ∧ (fun q _ => q.args.length = 1 ∧ only (mw q 4) [(4, 0)] = true ∧ mf q 4 4 0 < 28) q (entered 0 0x0104 q s)) ∧
  (∃ q s, Taken 0x0105 0 q s ∧ (fun q _ => q.args.length = 2 ∧ only (mw q 5) [(15, 0)] = true ∧ bit (mw q 4) 29 = true) q (entered 0 0x0105 q s)) ∧
  (∃ q s, Taken 0x0105 0 q s ∧ (fun q _ => q.args.length = 2 ∧ only (mw q 5) [(15, 0)] = true ∧ bit (mw q 4) 29 = false) q (entered 0 0x0105 q s)) ∧
  (∃ q s, Taken 0x0109 0 q s ∧ (fun q _ => q.args.length = 2 ∧ only (mw q 4) [(13, 0)] = true ∧ only (mw q 5) [(6, 0)] = true ∧ 1 ≤ mf q 5 6 0 ∧ mf q 5 6 0 ≤ 64) q (entered 0 0x0109 q s)) ∧
  (∃ q s, Taken 0x010A 0 q s ∧ (fun q _ => q.args.length = 1 ∧ ((mw q 4).toNat = 0 ∨ (10 ≤ (mw q 4).toNat ∧ (mw q 4).toNat ≤ 1000000))) q (entered 0 0x010A q s)) ∧
  (∃ q s, Taken 0x010B 0 q s ∧ (fun q _ => q.args.length = 1 ∧ only (mw q 4) [(31, 30), (28, 24), (11, 0)] = true ∧ mf q 4 31 30 = 0) q (entered 0 0x010B q s)) ∧
  (∃ q s, Taken 0x010B 0 q s ∧ (fun q _ => q.args.length = 1 ∧ only (mw q 4) [(31, 30), (28, 24), (11, 0)] = true ∧ mf q 4 31 30 = 1) q (entered 0 0x010B q s)) ∧
  (∃ q s, Taken 0x010B 0 q s ∧ (fun q _ => q.args.length = 1 ∧ only (mw q 4) [(31, 30), (28, 24), (11, 0)] = true ∧ mf q 4 31 30 = 2) q (entered 0 0x010B q s)) ∧
  (∃ q s, Taken 0x010D 0 q s ∧ (fun q _ => q.args.length = 33 ∧ only (mw q 4) [(17, 0)] = true ∧ mf q 4 17 0 ≤ 32768 ∧ only (mw q 5) [(17, 0)] = true ∧ mf q 5 17 0 ≤ 196608 ∧
      (∀ p < 31, only (rw q.args (2 + p)) [(31, 20), (13, 0)] = true) ∧ mf q 4 17 0 + (List.range 31).foldl (fun n p => n + fld q.args (2 + p) 13 0) 0 ≤ 196608) q (entered 0 0x010D q s)) ∧
  (∃ q s, Taken 0x010E 0 q s ∧ (fun q _ => q.args = []) q (entered 0 0x010E q s)) ∧
  (∃ q s, Taken 0x010F 0 q s ∧ (fun q _ => q.args.length = 1 ∧ only (mw q 4) [(4, 0)] = true ∧ mf q 4 4 0 ≤ 30) q (entered 0 0x010F q s)) := by
  refine ⟨⟨ask [0x1200000], live, taken (by decide) rfl, by decide⟩,
    ⟨ask [7], live, taken (by decide) rfl, by decide⟩,
    ⟨ask [0, 0, 0], live, taken (by decide) rfl, by decide⟩,
    ⟨ask [0x1B], live, taken (by decide) rfl, by decide⟩,
    ⟨ask [0x20000000, 0x1234], live, taken (by decide) rfl, by decide⟩,
    ⟨ask [0, 0], live, taken (by decide) rfl, by decide⟩,
    ⟨ask [0x3FFF, 0x40], live, taken (by decide) rfl, by decide⟩,
    ⟨ask [0xF4240], live, taken (by decide) rfl, by decide⟩,
    ⟨ask [0x1E000000], live, taken (by decide) rfl, by decide⟩,
    ⟨ask [0x40000FFF], live, taken (by decide) rfl, by decide⟩,
    ⟨ask [0x80000000], live, taken (by decide) rfl, by decide⟩,
    ⟨ask ([0x1000, 0x20000] ++ List.replicate 31 0x100010), live, taken (by decide) rfl, by decide⟩,
    ⟨ask [], live, taken (by decide) rfl, by decide⟩,
    ⟨ask [0x1E], live, taken (by decide) rfl, by decide⟩⟩

/-- States and operands that meet the hypotheses of Obligations.BridgeRequestsStageTheirSets, each case of it on its own. -/
theorem witness_BridgeRequestsStageTheirSets :
  (∃ q s, Taken 0x0106 0 q s ∧ (fun q _ => q.args.length = 4 ∧ only (mw q 4) [(31, 4)] = true ∧ mf q 4 31 27 ≠ 31 ∧ 1 ≤ mf q 4 26 15 ∧ mf q 4 26 15 ≤ 4094 ∧ mf q 4 11 10 ≠ 3 ∧
      only (mw q 5) [(23, 0)] = true ∧ only (mw q 6) [(31, 2)] = true ∧ 1518 ≤ bpMaxLen q.args ∧ bpMaxLen q.args ≤ 9216 ∧ bpLearnLimit q.args ≤ 16384 ∧
      only (mw q 7) [(31, 26)] = true ∧ (mf q 7 29 28 = 0 ∨ (mf q 7 31 30 ≠ 0 ∧ mf q 7 29 28 ≠ mf q 7 31 30))) q (entered 0 0x0106 q s)) ∧
  (∃ q s, Taken 0x0107 0 q s ∧ (fun q _ => q.args.length = 4 ∧ only (mw q 4) [(11, 0)] = true ∧ mf q 4 11 0 ≠ 0 ∧ mf q 4 11 0 ≠ 4095 ∧ bit (mw q 5) 31 = false ∧ bit (mw q 6) 31 = false ∧
      only (mw q 7) [(31, 18)] = true) q (entered 0 0x0107 q s)) ∧
  (∃ q s, Taken 0x0108 0 q s ∧ (fun q e => q.args.length = 4 ∧ ¬(macType q.args = 3 ∧ flag q.args 0 24 = false) ∧ ¬(macType q.args = 2 ∧ flag q.args 0 24 = true) ∧ macType q.args < 6 ∧
      (macType q.args = 2 ∨ macSrcLock q.args = false) ∧ macDestOk q.args = true ∧ rw q.args 3 = 0 ∧
      (macType q.args = 0 ∨ macFixed (projected e) q.args < 4) ∧ (macType q.args = 1 → macStatic e q.args = false ∧ macStatic (projected e) q.args = false)) q (entered 0 0x0108 q s)) ∧
  (∃ q s, Taken 0x0108 0 q s ∧ (fun q e => q.args.length = 4 ∧ ¬(macType q.args = 3 ∧ flag q.args 0 24 = false) ∧ ¬(macType q.args = 2 ∧ flag q.args 0 24 = true) ∧ macType q.args < 6 ∧
      (macType q.args = 2 ∨ macSrcLock q.args = false) ∧ macDestOk q.args = true ∧ rw q.args 3 = 0 ∧ macType q.args ≠ 0 ∧ 4 ≤ macFixed (projected e) q.args) q (entered 0 0x0108 q s)) ∧
  (∃ q s, Taken 0x0108 0 q s ∧ (fun q e => q.args.length = 4 ∧ macType q.args = 1 ∧ macSrcLock q.args = false ∧ macDestOk q.args = true ∧ rw q.args 3 = 0 ∧
      macFixed (projected e) q.args < 4 ∧ (macStatic e q.args = true ∨ macStatic (projected e) q.args = true)) q (entered 0 0x0108 q s)) ∧
  (∃ q s, Taken 0x010C 0 q s ∧ (fun q e => q.args.length = 4 ∧ only (mw q 4) [(1, 0)] = true ∧ only (mw q 5) [(31, 23)] = true ∧ mf q 5 30 26 ≤ 28 ∧ bit (mw q 6) 31 = false ∧
      bit (mw q 7) 31 = false ∧ (bit (mw q 5) 31 = false ∨ e.sys.fw.lifecycle ≠ 2)) q (entered 0 0x010C q s)) ∧
  (∃ q s, Taken 0x010C 0 q s ∧ (fun q e => q.args.length = 4 ∧ only (mw q 4) [(1, 0)] = true ∧ only (mw q 5) [(31, 23)] = true ∧ mf q 5 30 26 ≤ 28 ∧ bit (mw q 6) 31 = false ∧
      bit (mw q 7) 31 = false ∧ bit (mw q 5) 31 = true ∧ e.sys.fw.lifecycle = 2) q (entered 0 0x010C q s)) := by
  refine ⟨⟨ask [0xF7FF0000, 0, 0x90000000, 0], live, taken (by decide) rfl, by decide⟩,
    ⟨ask [0xFFE, 0, 0, 0], live, taken (by decide) rfl, by decide⟩,
    ⟨ask [0, 4, 0, 0], live, taken (by decide) rfl, by decide⟩,
    ⟨ask [5, 2, 4, 0], { live with fwd := { mac := (macWays (macBucket 0 0x50000)).map (fun k => (k, [7, 4, 0, 0])) } }, taken (by decide +kernel) rfl, by decide +kernel⟩,
    ⟨ask [5, 2, 4, 0], { live with fwd := { mac := (macWays (macBucket 0 0x50000)).map (fun k => (k, [5, 4, 0, 0])) } }, taken (by decide +kernel) rfl, by decide +kernel⟩,
    ⟨ask [3, 0x70000000, 0, 0], live, taken (by decide) rfl, by decide⟩,
    ⟨ask [0, 0xF0000000, 0, 0], { live with sys := { live.sys with fw := { live.sys.fw with lifecycle := 2 } } }, taken (by decide) rfl, by decide⟩⟩

/-- States and operands that meet the hypotheses of Obligations.TimeRequestsTakeEffect, each case of it on its own. -/
theorem witness_TimeRequestsTakeEffect :
  (∃ q s, Taken 0x0201 0 q s ∧ (fun q e => q.args.length = 7 ∧ only (mw q 4) [(1, 0)] = true ∧ only (mw q 5) [(31, 6)] = true ∧ slotMode (q.args.drop 1) ≠ 3 ∧
      only (mw q 6) [(31, 5)] = true ∧ -7 ≤ signed 4 (mf q 6 15 12) ∧ signed 4 (mf q 6 15 12) ≤ 0 ∧ -3 ≤ signed 4 (mf q 6 11 8) ∧
      signed 4 (mf q 6 11 8) ≤ 3 ∧ only (mw q 7) [(31, 16)] = true ∧ 2 ≤ mf q 7 31 24 ∧ 2 ≤ mf q 7 23 16 ∧ mf q 8 31 24 = 0 ∧
      (∀ p < 28, extRole (q.args.drop 1) p ≠ 3) ∧ only (mw q 10) [(27, 0)] = true ∧ domainConflict (mf q 4 1 0) (q.args.drop 1) e = none ∧
      (slotMode (q.args.drop 1) = 2 → drives e (mf q 4 1 0) = true → isGrandmaster (domainTakes (mf q 4 1 0) (q.args.drop 1) e) (mf q 4 1 0) = false)) q (entered 0 0x0201 q s)) ∧
  (∃  q s, Taken 0x0201 0 q s ∧ q.args.length = 7 ∧ only (mw q 4) [(1, 0)] = true ∧ only (mw q 5) [(31, 6)] = true ∧ slotMode (q.args.drop 1) = 2 ∧ only (mw q 6) [(31, 5)] = true ∧ -7 ≤ signed 4 (mf q 6 15 12) ∧ signed 4 (mf q 6 15 12) ≤ 0 ∧ -3 ≤ signed 4 (mf q 6 11 8) ∧ signed 4 (mf q 6 11 8) ≤ 3 ∧ only (mw q 7) [(31, 16)] = true ∧ 2 ≤ mf q 7 31 24 ∧ 2 ≤ mf q 7 23 16 ∧ mf q 8 31 24 = 0 ∧ (∀ p < 28, extRole (q.args.drop 1) p ≠ 3) ∧ only (mw q 10) [(27, 0)] = true ∧ domainConflict (mf q 4 1 0) (q.args.drop 1) (entered 0 0x0201 q s) = none ∧ drives (entered 0 0x0201 q s) (mf q 4 1 0) = true ∧ isGrandmaster (domainTakes (mf q 4 1 0) (q.args.drop 1) (entered 0 0x0201 q s)) (mf q 4 1 0) = true) ∧
  (∃ n q s, Taken 0x0201 0 q s ∧ (fun q e => q.args.length = 7 ∧ only (mw q 4) [(1, 0)] = true ∧ only (mw q 5) [(31, 6)] = true ∧ slotMode (q.args.drop 1) ≠ 3 ∧
      only (mw q 6) [(31, 5)] = true ∧ -7 ≤ signed 4 (mf q 6 15 12) ∧ signed 4 (mf q 6 15 12) ≤ 0 ∧ -3 ≤ signed 4 (mf q 6 11 8) ∧
      signed 4 (mf q 6 11 8) ≤ 3 ∧ only (mw q 7) [(31, 16)] = true ∧ 2 ≤ mf q 7 31 24 ∧ 2 ≤ mf q 7 23 16 ∧ mf q 8 31 24 = 0 ∧
      (∀ p < 28, extRole (q.args.drop 1) p ≠ 3) ∧ only (mw q 10) [(27, 0)] = true ∧ domainConflict (mf q 4 1 0) (q.args.drop 1) e = some n) q (entered 0 0x0201 q s)) ∧
  (∃ k src q s, Taken 0x0202 0 q s ∧ ((k = 0 ∧ src = 0) ∨ (k = 3 ∧ src = 2) ∨ (k = 4 ∧ src = 3)) ∧ (fun q _ => q.args.length = 1 ∧ only (mw q 4) [(15, 0)] = true ∧ 1 ≤ mf q 4 15 8 ∧ mf q 4 2 0 = k) q (entered 0 0x0202 q s)) ∧
  (∃ q s, Taken 0x0202 0 q s ∧ (fun q e => q.args.length = 1 ∧ only (mw q 4) [(15, 0)] = true ∧ 1 ≤ mf q 4 15 8 ∧ mf q 4 2 0 = 1 ∧ isGrandmaster e (mf q 4 4 3) = false ∧
      slotEnabled e (mf q 4 4 3) = true) q (entered 0 0x0202 q s)) ∧
  (∃ a b q s, Taken 0x0202 0 q s ∧ (fun q e => q.args.length = 1 ∧ only (mw q 4) [(15, 0)] = true ∧ 1 ≤ mf q 4 15 8 ∧ mf q 4 2 0 = 2 ∧ mf q 4 4 3 = a ∧ mf q 4 6 5 = b ∧ a ≠ b ∧
      isGrandmaster e a = false ∧ isGrandmaster e b = false ∧ slotEnabled e a = true ∧ slotEnabled e b = true ∧ (slavePort e a).isSome = true ∧
      (slavePort e b).isSome = true) q (entered 0 0x0202 q s)) ∧
  (∃  q s, Taken 0x0202 0 q s ∧ q.args.length = 1 ∧ only (mw q 4) [(15, 0)] = true ∧ 1 ≤ mf q 4 15 8 ∧ mf q 4 2 0 = 1 ∧ isGrandmaster (entered 0 0x0202 q s) (mf q 4 4 3) = true) ∧
  (∃ q s, Taken 0x0202 0 q s ∧ (fun q e => q.args.length = 1 ∧ only (mw q 4) [(15, 0)] = true ∧ 1 ≤ mf q 4 15 8 ∧ mf q 4 2 0 = 1 ∧ isGrandmaster e (mf q 4 4 3) = false ∧
      slotEnabled e (mf q 4 4 3) = false) q (entered 0 0x0202 q s)) ∧
  (∃ q s, Taken 0x0203 0 q s ∧ (fun q e => q.args.length = 1 ∧ only (mw q 4) [(1, 0)] = true ∧ isGrandmaster e (mf q 4 1 0) = false ∧
      ∃ a b, e.net.pair = some (a, b) ∧ (mf q 4 1 0 = a ∨ mf q 4 1 0 = b)) q (entered 0 0x0203 q s)) ∧
  (∃ q s, Taken 0x0203 0 q s ∧ (fun q e => q.args.length = 1 ∧ only (mw q 4) [(1, 0)] = true ∧ e.net.pair = none) q (entered 0 0x0203 q s)) ∧
  (∃ q s, Taken 0x0204 0 q s ∧ (fun q e => q.args.length = 6 ∧ only (mw q 4) [(17, 0)] = true ∧ mf q 4 4 0 < 28 ∧ -4 ≤ signed 4 (mf q 4 8 5) ∧ signed 4 (mf q 4 8 5) ≤ 3 ∧
      1 ≤ mf q 4 16 9 ∧ only (mw q 8) [(13, 0)] = true ∧ mf q 8 13 0 ≤ 10000 ∧ only (mw q 9) [(13, 0)] = true ∧ mf q 9 13 0 ≤ 10000 ∧
      portUp e (mf q 4 4 0) = false) q (entered 0 0x0204 q s)) ∧
  (∃ q s, Taken 0x0205 0 q s ∧ (fun q e => q.args.length = 1 ∧ e.time.src = 2) q (entered 0 0x0205 q s)) ∧
  (∃ q s, Taken 0x0205 0 q s ∧ (fun q e => q.args.length = 1 ∧ e.time.src ≠ 2) q (entered 0 0x0205 q s)) ∧
  (∃ q s, Taken 0x0206 0 q s ∧ (fun q _ => q.args.length = 1 ∧ 64 ≤ (mw q 4).toNat ∧ (mw q 4).toNat ≤ 1000000000) q (entered 0 0x0206 q s)) ∧
  (∃ q s, Taken 0x0207 0 q s ∧ (fun q _ => q.args.length = 4 ∧ fullOk q.args = true ∧ only (mw q 7) [(0, 0)] = true) q (entered 0 0x0207 q s)) ∧
  (∃ q s, Taken 0x0208 0 q s ∧ (fun q _ => q.args.length = 1 ∧ only (mw q 4) [(1, 0)] = true) q (entered 0 0x0208 q s)) ∧
  (∃ q s, Taken 0x0209 0 q s ∧ (fun q e => q.args.length = 2 ∧ only (mw q 4) [(1, 0)] = true ∧ only (mw q 5) [(13, 0)] = true ∧ mf q 5 13 0 ≤ 10000 ∧ mf q 4 1 0 = e.ptime.role ∧
      mf q 4 1 0 ≠ 3) q (entered 0 0x0209 q s)) ∧
  (∃ q s, Taken 0x0209 0 q s ∧ (fun q e => q.args.length = 2 ∧ only (mw q 4) [(1, 0)] = true ∧ only (mw q 5) [(13, 0)] = true ∧ mf q 5 13 0 ≤ 10000 ∧ mf q 4 1 0 ≠ e.ptime.role ∧
      mf q 4 1 0 ≠ 3) q (entered 0 0x0209 q s)) := by
  refine ⟨⟨ask [1, 0x42800000, 0x300, 0x2020000, 0, 0, 0], live, taken (by decide) rfl, ⟨by decide, by decide, by decide, by decide, by decide, by decide, by decide, by decide, by decide, by decide, by decide, by decide, by decide, by decide, by decide, by decide, by decide⟩⟩,
    ⟨ask [1, 0x82C00000, 0x300, 0x2020000, 0, 0, 0], { live with time := { src := 1, domain := 1 } }, taken (by decide) rfl, by decide⟩,
    ⟨0, ask [1, 0x82800000, 0x300, 0x2020000, 0, 5, 0], live, taken (by decide) rfl, by decide⟩,
    ⟨3, 2, ask [0xFF03], live, taken (by decide) rfl, .inr (.inl ⟨rfl, rfl⟩), by decide⟩,
    ⟨ask [0x109], { live with net := { slot := [(1, { cfg := [0x40000000, 0, 0, 0, 0, 0] })] } }, taken (by decide) rfl, by decide⟩,
    ⟨0, 1, ask [0x122], { live with net := { slot := [(0, { cfg := [0x80000000, 0, 0, 0, 0x400, 0] }), (1, { cfg := [0x80800000, 0, 0, 0, 0x1000, 0] })] } }, taken (by decide) rfl, by decide⟩,
    ⟨ask [0x109], { live with net := { slot := [(1, { cfg := [0x40400000, 0, 0, 0, 0, 0], isGm := true })] } }, taken (by decide) rfl, by decide⟩,
    ⟨ask [0x109], live, taken (by decide) rfl, by decide⟩,
    ⟨ask [1], { live with net := { pair := some (0, 1) } }, taken (by decide) rfl, ⟨by decide, by decide, by decide, 0, 1, by decide⟩⟩,
    ⟨ask [1], live, taken (by decide) rfl, by decide⟩,
    ⟨ask [0x39B, 0, 0, 0, 0x2710, 0x2710], live, taken (by decide) rfl, by decide⟩,
    ⟨ask [0xFFFFFFFF], { live with time := { src := 2 } }, taken (by decide) rfl, by decide⟩,
    ⟨ask [1], live, taken (by decide) rfl, by decide⟩,
    ⟨ask [0x40], live, taken (by decide) rfl, by decide⟩,
    ⟨sealedAsk 0x0207 [0, 5, 999999999, 1], keyed, taken_sealed (by decide) (by decide) (by decide) (by decide) (by decide), by decide⟩,
    ⟨ask [3], live, taken (by decide) rfl, by decide⟩,
    ⟨ask [0, 0x2710], live, taken (by decide) rfl, by decide⟩,
    ⟨ask [2, 0], live, taken (by decide) rfl, by decide⟩⟩

/-- States and operands that meet the hypotheses of Obligations.SchedulerRequestsTakeEffect, each case of it on its own. -/
theorem witness_SchedulerRequestsTakeEffect :
  (∃ q s, Taken 0x0301 0 q s ∧ (fun q e => q.args.length = 11 ∧ mf q 4 31 27 ≤ 30 ∧ (28 ≤ mf q 4 31 27 → mf q 4 26 6 = 0) ∧ bit (mw q 4) 0 = false ∧ mf q 4 4 1 ≤ 11 ∧
      only (mw q 6) [(31, 16)] = true ∧
      (∀ c < 8, srAlg q.args c ≠ 3 ∧ (28 ≤ mf q 4 31 27 → srAlg q.args c = 0) ∧ 1 ≤ srQmax q.args c ∧ 1 ≤ srYmax q.args c ∧ srYmax q.args c ≤ srQmax q.args c ∧ only (rw q.args (3 + c)) [(31, 4)] = true) ∧
      schedConflict e q.args = none) q (entered 0 0x0301 q s)) ∧
  (∃ n q s, Taken 0x0301 0 q s ∧ (fun q e => q.args.length = 11 ∧ mf q 4 31 27 ≤ 30 ∧ (28 ≤ mf q 4 31 27 → mf q 4 26 6 = 0) ∧ bit (mw q 4) 0 = false ∧ mf q 4 4 1 ≤ 11 ∧
      only (mw q 6) [(31, 16)] = true ∧
      (∀ c < 8, srAlg q.args c ≠ 3 ∧ (28 ≤ mf q 4 31 27 → srAlg q.args c = 0) ∧ 1 ≤ srQmax q.args c ∧ 1 ≤ srYmax q.args c ∧ srYmax q.args c ≤ srQmax q.args c ∧ only (rw q.args (3 + c)) [(31, 4)] = true) ∧
      schedConflict e q.args = some n) q (entered 0 0x0301 q s)) ∧
  (∃ q s, Taken 0x0302 0 q s ∧ (fun q e => ∃ ws, 5 ≤ q.args.length ∧ bulkOf 5 q e = some (ws, 8 * mf q 4 26 16) ∧ mf q 4 31 27 < 28 ∧ mf q 4 26 16 ≤ 1024 ∧ mf q 4 7 0 = 0 ∧
      (mf q 4 26 16 ≠ 0 ∨ q.staged = false) ∧ fullOk (q.args.drop 1) = true ∧ 1000 ≤ (mw q 8).toNat ∧ (mw q 8).toNat ≤ 1000000000 ∧
      badEntry 5 q gateEntryFault (pairsOf ws) = none ∧ (egressOf e (mf q 4 31 27)).gates.busy = false) q (entered 0 0x0302 q s)) ∧
  (∃ q s, Taken 0x0302 0 q s ∧ (fun q e => ∃ ws, 5 ≤ q.args.length ∧ bulkOf 5 q e = some (ws, 8 * mf q 4 26 16) ∧ mf q 4 31 27 < 28 ∧ mf q 4 26 16 ≤ 1024 ∧ mf q 4 7 0 = 0 ∧
      (mf q 4 26 16 ≠ 0 ∨ q.staged = false) ∧ fullOk (q.args.drop 1) = true ∧ 1000 ≤ (mw q 8).toNat ∧ (mw q 8).toNat ≤ 1000000000 ∧
      badEntry 5 q gateEntryFault (pairsOf ws) = none ∧ (egressOf e (mf q 4 31 27)).gates.busy = true) q (entered 0 0x0302 q s)) ∧
  (∃ q s, Taken 0x0303 0 q s ∧ (fun q e => q.args.length = 1 ∧ only (mw q 4) [(31, 27)] = true ∧ mf q 4 31 27 < 28 ∧ (egressOf e (mf q 4 31 27)).gates.written = true) q (entered 0 0x0303 q s)) ∧
  (∃ q s, Taken 0x0303 0 q s ∧ (fun q e => q.args.length = 1 ∧ only (mw q 4) [(31, 27)] = true ∧ mf q 4 31 27 < 28 ∧ (egressOf e (mf q 4 31 27)).gates.written = false) q (entered 0 0x0303 q s)) ∧
  (∃ q s, Taken 0x0304 0 q s ∧ (fun q _ => q.args.length = 1 ∧ only (mw q 4) [(4, 0)] = true ∧ mf q 4 4 0 < 28) q (entered 0 0x0304 q s)) ∧
  (∃ q s, Taken 0x0305 0 q s ∧ (fun q e => q.args.length = 4 ∧ mf q 4 31 27 < 28 ∧ mf q 4 23 0 = 0 ∧ 1 ≤ (mw q 5).toNat ∧ (mw q 5).toNat ≤ 3125000000 ∧
      (mw q 5).toNat ≤ lineRate e (mf q 4 31 27) * 125000 ∧ bit (mw q 6) 31 = false ∧ (mw q 7 = 0 ∨ bit (mw q 7) 31 = true) ∧
      (srAlg (schedAsked e (mf q 4 31 27)) (mf q 4 26 24) = 2 → 84 ≤ (mw q 6).toNat ∧ mw q 7 = 0)) q (entered 0 0x0305 q s)) ∧
  (∃ q s, Taken 0x0306 0 q s ∧ (fun q _ => q.args.length = 1 ∧ only (mw q 4) [(4, 0)] = true ∧ mf q 4 4 0 ≤ 30) q (entered 0 0x0306 q s)) ∧
  (∃ q s, Taken 0x0307 0 q s ∧ (fun q _ => q.args.length = 1 ∧ only (mw q 4) [(4, 0)] = true ∧ mf q 4 4 0 ≤ 30) q (entered 0 0x0307 q s)) := by
  refine ⟨⟨ask [0xD8000000, 0, 0, 0xC80640, 0xC80640, 0xC80640, 0xC80640, 0xC80640, 0xC80640, 0xC80640, 0xC80640], live, taken (by decide) rfl, by decide⟩,
    ⟨7, ask [0xD8000000, 0, 0, 0x40C80640, 0xC80640, 0xC80640, 0xC80640, 0xC80640, 0xC80640, 0xC80640, 0xC80640], live, taken (by decide) rfl, by decide⟩,
    ⟨ask [0xD801FF00, 0, 0, 0x3B9AC9FF, 0x3E8, 0x400000, 8], live, taken (by decide) rfl, ⟨[0x00400000, 8], by decide⟩⟩,
    ⟨ask [0x1801FF00, 0, 0, 0, 0x3B9ACA00, 0x400000, 8], { live with egress := [(3, { gates := { busy := true } })] }, taken (by decide) rfl, ⟨[0x00400000, 8], by decide⟩⟩,
    ⟨ask [0x18000000], { live with egress := [(3, { gates := { written := true } })] }, taken (by decide) rfl, by decide⟩,
    ⟨ask [0x18000000], live, taken (by decide) rfl, by decide⟩,
    ⟨ask [0x1B], live, taken (by decide) rfl, by decide⟩,
    ⟨ask [0xA0000000, 1, 0x54, 0], live, taken (by decide) rfl, by decide⟩,
    ⟨ask [0x1E], live, taken (by decide) rfl, by decide⟩,
    ⟨ask [0x1E], live, taken (by decide) rfl, by decide⟩⟩

/-- States and operands that meet the hypotheses of Obligations.StreamRequestsTakeEffect, each case of it on its own. -/
theorem witness_StreamRequestsTakeEffect :
  (∃ q s, Taken 0x0401 0 q s ∧ (fun q e => q.args.length = 1 ∧ only (mw q 4) [(14, 8), (1, 0)] = true ∧
      (mf q 4 14 8 = ipProfileOf (projected e) (mf q 4 1 0) ∨
        (projected e).fwd.ident.any (fun x => identFunc x.2 = 3 && identProfile x.2 = mf q 4 1 0) = false)) q (entered 0 0x0401 q s)) ∧
  (∃ q s, Taken 0x0401 0 q s ∧ (fun q e => q.args.length = 1 ∧ only (mw q 4) [(14, 8), (1, 0)] = true ∧ mf q 4 14 8 ≠ ipProfileOf (projected e) (mf q 4 1 0) ∧
      (projected e).fwd.ident.any (fun x => identFunc x.2 = 3 && identProfile x.2 = mf q 4 1 0) = true) q (entered 0 0x0401 q s)) ∧
  (∃ q s, Taken 0x0402 0 q s ∧ (fun q e => q.args.length = (if identV6 q.args && identFunc q.args = 3 then 16 else 8) ∧ (identChecks q.args).all (·.2) = true ∧
      (let p := projected e
       let b := identBucket (identKey (ipProfileOf p (identProfile q.args)) q.args)
       (identPlace p b (identV6 q.args && decide (identFunc q.args = 3))).isSome = true ∧ (macWays b).any (fun j => identSame p q.args (tget [] p.fwd.ident j)) = false)) q (entered 0 0x0402 q s)) ∧
  (∃ q s, Taken 0x0402 0 q s ∧ (fun q e => q.args.length = (if identV6 q.args && identFunc q.args = 3 then 16 else 8) ∧ (identChecks q.args).all (·.2) = true ∧
      (let p := projected e
       identPlace p (identBucket (identKey (ipProfileOf p (identProfile q.args)) q.args)) (identV6 q.args && decide (identFunc q.args = 3)) = none)) q (entered 0 0x0402 q s)) ∧
  (∃ q s, Taken 0x0402 0 q s ∧ (fun q e => q.args.length = (if identV6 q.args && identFunc q.args = 3 then 16 else 8) ∧ (identChecks q.args).all (·.2) = true ∧
      (let p := projected e
       let b := identBucket (identKey (ipProfileOf p (identProfile q.args)) q.args)
       (identPlace p b (identV6 q.args && decide (identFunc q.args = 3))).isSome = true ∧ (macWays b).any (fun j => identSame p q.args (tget [] p.fwd.ident j)) = true)) q (entered 0 0x0402 q s)) ∧
  (∃ q s, Taken 0x0403 0 q s ∧ (fun q _ => q.args.length = 1 ∧ only (mw q 4) [(11, 0)] = true) q (entered 0 0x0403 q s)) ∧
  (∃ q s, Taken 0x0404 0 q s ∧ (fun q e => q.args.length = 3 ∧ only (mw q 4) [(11, 0)] = true ∧ only (mw q 5) [(31, 14)] = true ∧ only (mw q 6) [(31, 10)] = true ∧
      streamRefs (projectedWith (.handle (mf q 4 11 0) (q.args.drop 1)) e) = true) q (entered 0 0x0404 q s)) ∧
  (∃ n q s, Taken 0x0404 0 q s ∧ (fun q e => q.args.length = 3 ∧ only (mw q 4) [(11, 0)] = true ∧ only (mw q 5) [(31, 14)] = true ∧ only (mw q 6) [(31, 10)] = true ∧
      streamRefs (projectedWith (.handle (mf q 4 11 0) (q.args.drop 1)) e) = false ∧ handleFault e (q.args.drop 1) = n) q (entered 0 0x0404 q s)) ∧
  (∃ q s, Taken 0x0405 0 q s ∧ (fun q e => q.args.length = 3 ∧ only (mw q 4) [(11, 0)] = true ∧ only (mw q 5) [(31, 4)] = true ∧
      (mf q 5 30 17 = 0 ∨ (64 ≤ mf q 5 30 17 ∧ mf q 5 30 17 ≤ 9216)) ∧ only (mw q 6) [(31, 19)] = true ∧
      streamRefs (projectedWith (.filter (mf q 4 11 0) (q.args.drop 1)) e) = true) q (entered 0 0x0405 q s)) ∧
  (∃ n q s, Taken 0x0405 0 q s ∧ (fun q e => q.args.length = 3 ∧ only (mw q 4) [(11, 0)] = true ∧ only (mw q 5) [(31, 4)] = true ∧
      (mf q 5 30 17 = 0 ∨ (64 ≤ mf q 5 30 17 ∧ mf q 5 30 17 ≤ 9216)) ∧ only (mw q 6) [(31, 19)] = true ∧
      streamRefs (projectedWith (.filter (mf q 4 11 0) (q.args.drop 1)) e) = false ∧ filterFault e (q.args.drop 1) = n) q (entered 0 0x0405 q s)) ∧
  (∃ q s, Taken 0x0406 0 q s ∧ (fun q e => q.args.length = 6 ∧ only (mw q 4) [(10, 0)] = true ∧ mf q 5 10 0 ≤ 1024 ∧ mf q 5 23 11 + mf q 5 10 0 ≤ 8192 ∧
      fullOk (q.args.drop 2) = true ∧ 1000 ≤ (mw q 9).toNat ∧ (mw q 9).toNat ≤ 1000000000 ∧ (sgateOf e (mf q 4 10 0)).busy = false ∧
      streamRefs (projectedWith (.gate (mf q 4 10 0) (q.args.drop 1)) e) = false) q (entered 0 0x0406 q s)) ∧
  (∃ q s, Taken 0x0406 0 q s ∧ (fun q e => q.args.length = 6 ∧ only (mw q 4) [(10, 0)] = true ∧ mf q 5 10 0 ≤ 1024 ∧ mf q 5 23 11 + mf q 5 10 0 ≤ 8192 ∧
      fullOk (q.args.drop 2) = true ∧ 1000 ≤ (mw q 9).toNat ∧ (mw q 9).toNat ≤ 1000000000 ∧ (sgateOf e (mf q 4 10 0)).busy = false ∧
      streamRefs (projectedWith (.gate (mf q 4 10 0) (q.args.drop 1)) e) = true) q (entered 0 0x0406 q s)) ∧
  (∃ q s, Taken 0x0406 0 q s ∧ (fun q e => q.args.length = 6 ∧ only (mw q 4) [(10, 0)] = true ∧ mf q 5 10 0 ≤ 1024 ∧ mf q 5 23 11 + mf q 5 10 0 ≤ 8192 ∧
      fullOk (q.args.drop 2) = true ∧ 1000 ≤ (mw q 9).toNat ∧ (mw q 9).toNat ≤ 1000000000 ∧ (sgateOf e (mf q 4 10 0)).busy = true) q (entered 0 0x0406 q s)) ∧
  (∃ q s, Taken 0x0407 0 q s ∧ (fun q e => ∃ ws, 2 ≤ q.args.length ∧ bulkOf 2 q e = some (ws, 8 * mf q 5 11 0) ∧ only (mw q 4) [(12, 0)] = true ∧ only (mw q 5) [(11, 0)] = true ∧
      1 ≤ mf q 5 11 0 ∧ mf q 5 11 0 ≤ 2048 ∧ mf q 4 12 0 + mf q 5 11 0 ≤ 8192 ∧ badEntry 2 q poolEntryFault (pairsOf ws) = none ∧
      poolUsed e (mf q 4 12 0) (mf q 5 11 0) = false) q (entered 0 0x0407 q s)) ∧
  (∃ q s, Taken 0x0407 0 q s ∧ (fun q e => ∃ ws, 2 ≤ q.args.length ∧ bulkOf 2 q e = some (ws, 8 * mf q 5 11 0) ∧ only (mw q 4) [(12, 0)] = true ∧ only (mw q 5) [(11, 0)] = true ∧
      1 ≤ mf q 5 11 0 ∧ mf q 5 11 0 ≤ 2048 ∧ mf q 4 12 0 + mf q 5 11 0 ≤ 8192 ∧ badEntry 2 q poolEntryFault (pairsOf ws) = none ∧
      poolUsed e (mf q 4 12 0) (mf q 5 11 0) = true) q (entered 0 0x0407 q s)) ∧
  (∃ q s, Taken 0x0408 0 q s ∧ (fun q e => q.args.length = 6 ∧ only (mw q 4) [(11, 0)] = true ∧ only (mw q 5) [(31, 27)] = true ∧
      (mw q 6).toNat ≤ (if bit (mw q 5) 30 then 16777215 else 3125000000) ∧ (mw q 7).toNat ≤ (if bit (mw q 5) 30 then 65535 else 2147483647) ∧
      (mw q 8).toNat ≤ (if bit (mw q 5) 30 then 16777215 else 3125000000) ∧ (mw q 6).toNat ≤ (mw q 8).toNat ∧
      (mw q 9).toNat ≤ (if bit (mw q 5) 30 then 65535 else 2147483647) ∧ streamRefs (projectedWith (.meter (mf q 4 11 0) (q.args.drop 1)) e) = false) q (entered 0 0x0408 q s)) ∧
  (∃ q s, Taken 0x0408 0 q s ∧ (fun q e => q.args.length = 6 ∧ only (mw q 4) [(11, 0)] = true ∧ only (mw q 5) [(31, 27)] = true ∧
      (mw q 6).toNat ≤ (if bit (mw q 5) 30 then 16777215 else 3125000000) ∧ (mw q 7).toNat ≤ (if bit (mw q 5) 30 then 65535 else 2147483647) ∧
      (mw q 8).toNat ≤ (if bit (mw q 5) 30 then 16777215 else 3125000000) ∧ (mw q 6).toNat ≤ (mw q 8).toNat ∧
      (mw q 9).toNat ≤ (if bit (mw q 5) 30 then 65535 else 2147483647) ∧ streamRefs (projectedWith (.meter (mf q 4 11 0) (q.args.drop 1)) e) = true) q (entered 0 0x0408 q s)) ∧
  (∃ q s, Taken 0x0409 0 q s ∧ (fun q e => q.args.length = 2 ∧ only (mw q 4) [(9, 0)] = true ∧ only (mw q 5) [(31, 30), (15, 0)] = true ∧
      streamRefs (projectedWith (.generation (mf q 4 9 0) (q.args.drop 1)) e) = true) q (entered 0 0x0409 q s)) ∧
  (∃ q s, Taken 0x040A 0 q s ∧ (fun q e => q.args.length = 4 ∧ only (mw q 4) [(9, 0)] = true ∧ only (mw q 5) [(31, 15)] = true ∧
      (bit (mw q 5) 30 = true ∨ (2 ≤ rvHistory (q.args.drop 1) ∧ rvHistory (q.args.drop 1) ≤ 32)) ∧ 2 ≤ mf q 5 18 15 ∧ mf q 5 18 15 ≤ 8 ∧
      1 ≤ mf q 6 31 16 ∧ 1 ≤ mf q 7 31 16 ∧ 1 ≤ mf q 7 15 0 ∧ mf q 7 31 16 ≤ mf q 7 15 0 ∧
      streamRefs (projectedWith (.recovery (mf q 4 9 0) (q.args.drop 1)) e) = true) q (entered 0 0x040A q s)) ∧
  (∃ q s, Taken 0x0409 0 q s ∧ (fun q e => q.args.length = 2 ∧ only (mw q 4) [(9, 0)] = true ∧ only (mw q 5) [(31, 30), (15, 0)] = true ∧
      streamRefs (projectedWith (.generation (mf q 4 9 0) (q.args.drop 1)) e) = false) q (entered 0 0x0409 q s)) ∧
  (∃ q s, Taken 0x040A 0 q s ∧ (fun q e => q.args.length = 4 ∧ only (mw q 4) [(9, 0)] = true ∧ only (mw q 5) [(31, 15)] = true ∧
      (bit (mw q 5) 30 = true ∨ (2 ≤ rvHistory (q.args.drop 1) ∧ rvHistory (q.args.drop 1) ≤ 32)) ∧ 2 ≤ mf q 5 18 15 ∧ mf q 5 18 15 ≤ 8 ∧
      1 ≤ mf q 6 31 16 ∧ 1 ≤ mf q 7 31 16 ∧ 1 ≤ mf q 7 15 0 ∧ mf q 7 31 16 ≤ mf q 7 15 0 ∧
      streamRefs (projectedWith (.recovery (mf q 4 9 0) (q.args.drop 1)) e) = false) q (entered 0 0x040A q s)) ∧
  (∃ q s, Taken 0x040B 0 q s ∧ (fun q _ => q.args.length = 1 ∧ only (mw q 4) [(31, 29), (11, 0)] = true ∧ mf q 4 31 29 = 0) q (entered 0 0x040B q s)) ∧
  (∃ q s, Taken 0x040B 0 q s ∧ (fun q _ => q.args.length = 1 ∧ only (mw q 4) [(31, 29), (11, 0)] = true ∧ mf q 4 31 29 = 1 ∧ mf q 4 11 0 < 2048) q (entered 0 0x040B q s)) ∧
  (∃ q s, Taken 0x040B 0 q s ∧ (fun q _ => q.args.length = 1 ∧ only (mw q 4) [(31, 29), (11, 0)] = true ∧ mf q 4 31 29 = 2) q (entered 0 0x040B q s)) ∧
  (∃ q s, Taken 0x040B 0 q s ∧ (fun q _ => q.args.length = 1 ∧ only (mw q 4) [(31, 29), (11, 0)] = true ∧ mf q 4 31 29 = 3 ∧ mf q 4 11 0 < 1024) q (entered 0 0x040B q s)) ∧
  (∃ q s, Taken 0x040C 0 q s ∧ (fun q _ => q.args.length = 1 ∧ only (mw q 4) [(11, 0)] = true) q (entered 0 0x040C q s)) ∧
  (∃ q s, Taken 0x040D 0 q s ∧ (fun q _ => q.args.length = 1 ∧ only (mw q 4) [(25, 16), (9, 0)] = true) q (entered 0 0x040D q s)) := by
  refine ⟨⟨ask [0x7F03], live, taken (by decide) rfl, by decide⟩,
    ⟨ask [0x303], { live with fwd := { live.fwd with ident := [(0, [0xC0600000])] } }, taken (by decide) rfl, by decide⟩,
    ⟨ask [0x40000000, 0, 0, 0, 0, 0, 0, 0], live, taken (by decide +kernel) rfl, by decide +kernel⟩,
    ⟨ask [0x40000000, 0, 0, 0, 0, 0, 0, 0], { live with fwd := { live.fwd with ident := (macWays (identBucket (identKey 0 [0x40000000, 0, 0, 0, 0, 0, 0, 0]))).map (fun k => (k, [0x40000001])) } }, taken (by decide +kernel) rfl, by decide +kernel⟩,
    ⟨ask [0x40000000, 0, 0, 0, 0, 0, 0, 0], { live with fwd := { live.fwd with ident := ((macWays (identBucket (identKey 0 [0x40000000, 0, 0, 0, 0, 0, 0, 0]))).take 1).map (fun k => (k, [0x40000000, 0, 0, 0, 0, 0, 0, 0])) } }, taken (by decide +kernel) rfl, by decide +kernel⟩,
    ⟨ask [0xFFF], live, taken (by decide) rfl, by decide⟩,
    ⟨ask [0xFFF, 0, 0], live, taken (by decide) rfl, by decide⟩,
    ⟨5, ask [1, 0x84000000, 0], live, taken (by decide) rfl, by decide⟩,
    ⟨ask [0xFFF, 0x48000000, 0], live, taken (by decide) rfl, by decide⟩,
    ⟨5, ask [1, 0x80008050, 0], live, taken (by decide) rfl, by decide⟩,
    ⟨ask [5, 0xE00400, 0, 0, 0, 0x3E8], { live with str := { filter := [(7, { rec0 := [0x80008050, 0] })], gate := [(5, { rec0 := [0x80000000] })] } }, taken (by decide) rfl, by decide⟩,
    ⟨ask [0x7FF, 0xE00400, 0, 0, 0, 0x3E8], live, taken (by decide) rfl, by decide⟩,
    ⟨ask [0x7FF, 0xE00400, 0, 0, 0, 0x3E8], { live with str := { gate := [(2047, { busy := true })] } }, taken (by decide) rfl, by decide⟩,
    ⟨ask [0x1FFF, 1, 0, 8], live, taken (by decide) rfl, ⟨[0, 8], by decide⟩⟩,
    ⟨ask [0x1FFF, 1, 0, 8], { live with str := { gate := [(2047, { rec0 := [0x80000000], force := some { initOpen := true, initIpv := none, off := 8191, len := 1, cycle := 1000, start := 0 } })] } }, taken (by decide) rfl, ⟨[0, 8], by decide⟩⟩,
    ⟨ask [5, 0, 5, 0, 5, 0], { live with str := { filter := [(7, { rec0 := [0x80000000, 0x80280000] })], meter := [(5, { rec0 := [0x80000000] })] } }, taken (by decide) rfl, by decide⟩,
    ⟨ask [0xFFF, 0, 5, 0, 5, 0], live, taken (by decide) rfl, by decide⟩,
    ⟨ask [0x3FF, 0x8000FFFF], live, taken (by decide) rfl, by decide⟩,
    ⟨ask [0x3FF, 0x40040000, 0x10000, 0x10001], live, taken (by decide) rfl, by decide⟩,
    ⟨ask [5, 0], { live with fwd := { live.fwd with handle := [(1, [0x80000000, 0x80A00000, 0])] }, str := { gen := [(5, { rec0 := [0x80000000] })] } }, taken (by decide) rfl, by decide⟩,
    ⟨ask [5, 0x40040000, 0x10000, 0x10001], { live with fwd := { live.fwd with handle := [(1, [0x80000000, 0x101400, 0])] }, str := { rcv := [(5, { rec0 := [0x80000000] })] } }, taken (by decide) rfl, by decide⟩,
    ⟨ask [0xFFF], live, taken (by decide) rfl, by decide⟩,
    ⟨ask [0x200007FF], live, taken (by decide) rfl, by decide⟩,
    ⟨ask [0x40000FFF], live, taken (by decide) rfl, by decide⟩,
    ⟨ask [0x600003FF], live, taken (by decide) rfl, by decide⟩,
    ⟨ask [0xFFF], live, taken (by decide) rfl, by decide⟩,
    ⟨ask [0x3FF03FF], live, taken (by decide) rfl, by decide⟩⟩

/-- States and operands that meet the hypotheses of Obligations.FirewallRequestsTakeEffect, each case of it on its own. -/
theorem witness_FirewallRequestsTakeEffect :
  (∃ q s, Taken 0x0501 0 q s ∧ (fun q e => q.args ≠ [] ∧ q.args.length ≤ 160 ∧ q.args.all memberOk = true ∧ e.fw.swapPend = false) q (entered 0 0x0501 q s)) ∧
  (∃ q s, Taken 0x0501 0 q s ∧ (fun q e => q.args ≠ [] ∧ q.args.length ≤ 160 ∧ q.args.all memberOk = true ∧ e.fw.swapPend = true) q (entered 0 0x0501 q s)) ∧
  (∃ i q s, Taken 0x0502 0 q s ∧ (fun q e => q.args.length = 12 ∧ (exactChecks q.args).all (·.2) = true ∧ e.fw.swapPend = false ∧ ruInBank q.args e.fw.bank = false ∧
      (exactWays (exactBucket q.args)).find? (fun j => ruleOf e j = []) = some i ∧
      (exactWays (exactBucket q.args)).any (fun j => exactClash q.args (ruleOf e j)) = false) q (entered 0 0x0502 q s)) ∧
  (∃ q s, Taken 0x0502 0 q s ∧ (fun q e => q.args.length = 12 ∧ (exactChecks q.args).all (·.2) = true ∧ e.fw.swapPend = false ∧ ruInBank q.args e.fw.bank = true) q (entered 0 0x0502 q s)) ∧
  (∃ q s, Taken 0x0502 0 q s ∧ (fun q e => q.args.length = 12 ∧ (exactChecks q.args).all (·.2) = true ∧ e.fw.swapPend = false ∧ ruInBank q.args e.fw.bank = false ∧
      (exactWays (exactBucket q.args)).find? (fun j => ruleOf e j = []) = none) q (entered 0 0x0502 q s)) ∧
  (∃ q s, Taken 0x0503 0 q s ∧ (fun q e => q.args.length = 13 ∧ only (mw q 4) [(14, 0)] = true ∧ 30720 ≤ mf q 4 14 0 ∧ ruleWord0 (q.args.drop 1) false = true ∧
      withinFields (q.args.drop 1) 2 5 (ternaryFields (ruKtype (q.args.drop 1))) = true ∧
      (ruKtype (q.args.drop 1) = 5 → fld (q.args.drop 1) 2 26 24 ≤ 5) ∧ withinFields (q.args.drop 1) 7 5 (ternaryFields (ruKtype (q.args.drop 1))) = true ∧
      e.fw.swapPend = false ∧ ruInBank (ruleOf e (mf q 4 14 0)) e.fw.bank = false ∧ ruInBank (q.args.drop 1) e.fw.bank = false) q (entered 0 0x0503 q s)) ∧
  (∃ q s, Taken 0x0504 0 q s ∧ (fun q e => q.args.length = 1 ∧ only (mw q 4) [(16, 16), (14, 0)] = true ∧ e.fw.swapPend = false ∧ ruleOf e (mf q 4 14 0) ≠ []) q (entered 0 0x0504 q s)) ∧
  (∃ q s, Taken 0x0505 0 q s ∧ (fun q e => q.args.length = 1 ∧ only (mw q 4) [(14, 0)] = true ∧ e.fw.swapPend = false ∧ ruInBank (ruleOf e (mf q 4 14 0)) e.fw.bank = false) q (entered 0 0x0505 q s)) ∧
  (∃ q s, Taken 0x0505 0 q s ∧ (fun q e => q.args.length = 1 ∧ only (mw q 4) [(14, 0)] = true ∧ e.fw.swapPend = false ∧ ruInBank (ruleOf e (mf q 4 14 0)) e.fw.bank = true) q (entered 0 0x0505 q s)) ∧
  (∃ q s, Taken 0x0506 0 q s ∧ (fun q e => q.args = [] ∧ e.fw.swapPend = false) q (entered 0 0x0506 q s)) ∧
  (∃ q s, Taken 0x0506 0 q s ∧ (fun q e => q.args = [] ∧ e.fw.swapPend = true) q (entered 0 0x0506 q s)) ∧
  (∃ q s, Taken 0x0507 0 q s ∧ (fun q _ => q.args = []) q (entered 0 0x0507 q s)) ∧
  (∃ q s, Taken 0x0508 0 q s ∧ (fun q _ => q.args.length = 1 ∧ only (mw q 4) [(31, 31), (12, 0)] = true ∧ mf q 4 12 0 ≤ 4096) q (entered 0 0x0508 q s)) ∧
  (∃ q s, Taken 0x0509 0 q s ∧ (fun q _ => q.args.length = 2 ∧ 1 ≤ mf q 4 31 16 ∧ 1 ≤ mf q 4 15 0 ∧ 1 ≤ mf q 5 31 16 ∧ 1 ≤ mf q 5 15 0) q (entered 0 0x0509 q s)) ∧
  (∃ (k : _) (gone : Req → Rec → Bool) (q : _) (s : _), Taken 0x050A 0 q s ∧ ((k = 0 ∧ gone = fun q r => fld r 0 27 23 = mf q 4 29 25 && fld r 0 22 18 = mf q 4 24 20) ∨
      (k = 1 ∧ gone = fun q r => decide (trRule r = mf q 4 14 0)) ∨ (k = 2 ∧ gone = fun _ _ => true)) ∧ (fun q _ => q.args.length = 1 ∧ only (mw q 4) [(31, 20), (14, 0)] = true ∧ mf q 4 31 30 = k) q (entered 0 0x050A q s)) ∧
  (∃ q s, Taken 0x050B 0 q s ∧ (fun q _ => q.args.length = 2 ∧ only (mw q 4) [(12, 0)] = true ∧ only (mw q 5) [(6, 0)] = true ∧ 1 ≤ mf q 5 6 0 ∧ mf q 5 6 0 ≤ 64) q (entered 0 0x050B q s)) ∧
  (∃ q s, Taken 0x050C 0 q s ∧ (fun q e => q.args.length = 1 ∧ only (mw q 4) [(31, 21), (11, 0)] = true ∧ bit (mw q 4) 31 = true ∧ 1 ≤ mf q 4 11 0 ∧ mf q 4 11 0 ≤ 3600 ∧
      bypassed e (mf q 4 30 26) (mf q 4 25 21) = true ∧
      (e.fw.bypass.filter (fun b => !(b.1 = mf q 4 30 26 && b.2.1 = mf q 4 25 21) && decide (e.time.now < b.2.2))).length < 8) q (entered 0 0x050C q s)) ∧
  (∃ q s, Taken 0x050C 0 q s ∧ (fun q e => q.args.length = 1 ∧ only (mw q 4) [(31, 21), (11, 0)] = true ∧ bit (mw q 4) 31 = true ∧ 1 ≤ mf q 4 11 0 ∧ mf q 4 11 0 ≤ 3600 ∧
      e.fw.bypass.any (fun b => b.1 = mf q 4 30 26 && b.2.1 = mf q 4 25 21) = false ∧ (liveBypass e).length < 8) q (entered 0 0x050C q s)) ∧
  (∃ q s, Taken 0x050C 0 q s ∧ (fun q e => q.args.length = 1 ∧ only (mw q 4) [(31, 21), (11, 0)] = true ∧ bit (mw q 4) 31 = true ∧ 1 ≤ mf q 4 11 0 ∧ mf q 4 11 0 ≤ 3600 ∧
      e.fw.bypass.any (fun b => b.1 = mf q 4 30 26 && b.2.1 = mf q 4 25 21) = false ∧ 8 ≤ (liveBypass e).length) q (entered 0 0x050C q s)) ∧
  (∃ q s, Taken 0x050C 0 q s ∧ (fun q e => q.args.length = 1 ∧ only (mw q 4) [(31, 21), (11, 0)] = true ∧ bit (mw q 4) 31 = false ∧
      e.fw.bypass.any (fun b => b.1 = mf q 4 30 26 && b.2.1 = mf q 4 25 21) = true) q (entered 0 0x050C q s)) ∧
  (∃ (q : Req) (s : State), q.mbx < 8 ∧ serves (acting 0 s) = true ∧ s.sys.fw.boot = .served ∧ (boxOf s q.mbx).deferred = none ∧ (boxOf s q.mbx).state = 1 ∧
    2048 ≤ ringFree s (.rsp q.mbx) ∧ q.verMaj = (boxOf s q.mbx).verMaj ∧ q.verMin = (boxOf s q.mbx).verMin ∧ q.seq = (boxOf s q.mbx).ack + 1 ∧
    regBit s rFW_STAT 31 = true) ∧
  (∃ q s, Taken 0x050D 0 q s ∧ (fun q _ => q.args.length = 2 ∧ only (mw q 4) [(19, 0)] = true ∧ 1 ≤ mf q 4 19 0 ∧ mf q 4 19 0 ≤ 1000000 ∧ only (mw q 5) [(15, 0)] = true ∧ 1 ≤ mf q 5 15 0) q (entered 0 0x050D q s)) ∧
  (∃ q s, Taken 0x050E 0 q s ∧ (fun q _ => q.args = []) q (entered 0 0x050E q s)) ∧
  (∃ q s, Taken 0x050F 0 q s ∧ (fun q _ => q.args.length = 1 ∧ only (mw q 4) [(4, 0)] = true) q (entered 0 0x050F q s)) ∧
  (∃ q s, Taken 0x0510 0 q s ∧ (fun q _ => q.args.length = 1 ∧ only (mw q 4) [(14, 0)] = true) q (entered 0 0x0510 q s)) := by
  refine ⟨⟨ask [0x1EF80000], live, taken (by decide) rfl, by decide⟩,
    ⟨ask [0x1E000000], { live with fw := { swapPend := true } }, taken (by decide) rfl, by decide⟩,
    ⟨8 * exactBucket (List.replicate 12 0), ask (List.replicate 12 0), live, taken (by decide) rfl, by decide +kernel⟩,
    ⟨ask ([0x40000000] ++ List.replicate 11 0), live, taken (by decide) rfl, by decide⟩,
    ⟨ask (List.replicate 12 0), { live with fw := { rule := (exactWays (exactBucket (List.replicate 12 0))).map (fun j => (j, [1])) } }, taken (by decide) rfl, by decide +kernel⟩,
    ⟨ask ([32767] ++ List.replicate 12 0), live, taken (by decide) rfl, by decide⟩,
    ⟨ask [0x17800], { live with fw := { rule := [(30720, [1])] } }, taken (by decide) rfl, by decide⟩,
    ⟨ask [0x7FFF], live, taken (by decide) rfl, by decide⟩,
    ⟨ask [0x7800], { live with fw := { rule := [(30720, [0x40000000])] } }, taken (by decide) rfl, by decide⟩,
    ⟨ask [], live, taken (by decide) rfl, by decide⟩,
    ⟨ask [], { live with fw := { swapPend := true } }, taken (by decide) rfl, by decide⟩,
    ⟨ask [], live, taken (by decide) rfl, by decide⟩,
    ⟨ask [0x80001000], live, taken (by decide) rfl, by decide⟩,
    ⟨ask [0xFFFFFFFF, 0x10001], live, taken (by decide) rfl, by decide⟩,
    ⟨1, _, ask [0x40007FFF], live, taken (by decide) rfl, .inr (.inl ⟨rfl, rfl⟩), by decide⟩,
    ⟨ask [0x1FFF, 0x40], live, taken (by decide) rfl, by decide⟩,
    ⟨ask [0x84400E10], { live with fw := { bypass := [(1, 2, 5)] } }, taken (by decide) rfl, by decide⟩,
    ⟨ask [0x84400E10], live, taken (by decide) rfl, by decide⟩,
    ⟨ask [0x84400E10], { live with fw := { bypass := (List.range 8).map (fun i => (3, i, 5)) } }, taken (by decide) rfl, by decide⟩,
    ⟨ask [0x4400000], { live with fw := { bypass := [(1, 2, 5)] } }, taken (by decide) rfl, by decide⟩,
    ⟨ask [], { live with regs := [(rFW_STAT, 0x80000000)] }, by decide⟩,
    ⟨ask [0xF4240, 0xFFFF], live, taken (by decide) rfl, by decide⟩,
    ⟨ask [], live, taken (by decide) rfl, by decide⟩,
    ⟨ask [0x1F], live, taken (by decide) rfl, by decide⟩,
    ⟨ask [0x7FFF], live, taken (by decide) rfl, by decide⟩⟩

/-- States and operands that meet the hypotheses of Obligations.FirmwareRequestsTakeEffect, each case of it on its own. -/
theorem witness_FirmwareRequestsTakeEffect :
  (∃ q s, Taken 0x0D01 0 q s ∧ (fun q _ => q.args = []) q (entered 0 0x0D01 q s)) ∧
  (∃ ws n q s, Taken 0x0D02 0 q s ∧ (fun q e => bulkOf 1 q e = some (ws, n) ∧ only (mw q 4) [(21, 0)] = true ∧ mf q 4 21 0 % 4096 = 0 ∧ mf q 4 21 0 < 0x200000 ∧
      mf q 4 21 0 + n ≤ 0x200000 ∧ inFlight e (fun op => op = 0x0D02 || op = 0x0D03 || op = 0x0D07) = false) q (entered 0 0x0D02 q s)) ∧
  (∃ ws n q s, Taken 0x0D02 0 q s ∧ (fun q e => bulkOf 1 q e = some (ws, n) ∧ only (mw q 4) [(21, 0)] = true ∧ mf q 4 21 0 % 4096 = 0 ∧ mf q 4 21 0 < 0x200000 ∧
      mf q 4 21 0 + n ≤ 0x200000 ∧ inFlight e (fun op => op = 0x0D02 || op = 0x0D03 || op = 0x0D07) = true) q (entered 0 0x0D02 q s)) ∧
  (∀ f, imageCheck (flashed f) = 0 → ∃ q s, Taken 0x0D03 0 q s ∧
    (fun q e => q.args.length = 8 ∧ inFlight e (fun op => op = 0x0D02 || op = 0x0D07) = false ∧ e.sys.fw.act = none ∧ imageCheck e ≠ 2 ∧ imageCheck e ≠ 3 ∧
      imageCheck e ≠ 4 ∧ imageCheck e ≠ 5 ∧ recBytes q.args = sha false (flashBytes e 0 (imageLength e)) ∧ e.sys.fw.boot ≠ .safelight) q (entered 0 0x0D03 q s)) ∧
  (∃ q s, Taken 0x0D03 0 q s ∧ q.args.length = 8 ∧ inFlight (entered 0 0x0D03 q s) (fun op => op = 0x0D02 || op = 0x0D07) = false ∧
    (entered 0 0x0D03 q s).sys.fw.act = none ∧ imageCheck (entered 0 0x0D03 q s) = 2) ∧
  (∃ q s, Taken 0x0D04 0 q s ∧ (fun q e => q.args = [] ∧ fuseBusy e = false ∧ e.sys.fw.settingsGood = true ∧ e.sys.fw.commitPending = true ∧ e.sys.fw.floor < imSvn e.sys.fw.img ∧
      e.dark.run = true) q (entered 0 0x0D04 q s)) ∧
  (∃ q s, Taken 0x0D04 0 q s ∧ (fun q e => q.args = [] ∧ fuseBusy e = false ∧ e.sys.fw.settingsGood = true ∧ e.sys.fw.commitPending = true ∧ e.sys.fw.floor < imSvn e.sys.fw.img ∧
      e.dark.run = false) q (entered 0 0x0D04 q s)) ∧
  (∃ q s, Taken 0x0D04 0 q s ∧ (fun q e => q.args = [] ∧ fuseBusy e = false ∧ (e.sys.fw.settingsGood = false ∨ e.sys.fw.commitPending = false)) q (entered 0 0x0D04 q s)) ∧
  (∃  q s, Taken 0x0D04 0 q s ∧ q.args = [] ∧ fuseBusy (entered 0 0x0D04 q s) = false ∧ (entered 0 0x0D04 q s).sys.fw.settingsGood = true ∧ (entered 0 0x0D04 q s).sys.fw.commitPending = true ∧ imSvn (entered 0 0x0D04 q s).sys.fw.img ≤ (entered 0 0x0D04 q s).sys.fw.floor) ∧
  (∃ ws n q s, Taken 0x0D05 0 q s ∧ (fun q e => bulkOf 0 q e = some (ws, n) ∧ copyValid e ws n = true ∧ e.sys.fw.migrating = false ∧ inFlight e (fun op => op = 0x0D05) = false) q (entered 0 0x0D05 q s)) ∧
  (∃ q s, Taken 0x0D06 0 q s ∧ (fun q _ => q.args.length = 2 ∧ only (mw q 4) [(20, 0)] = true ∧ mf q 5 31 16 % 4 = 0 ∧ 4 ≤ mf q 5 15 0 ∧ mf q 5 31 16 + mf q 5 15 0 ≤ 16384) q (entered 0 0x0D06 q s)) ∧
  (∃ q s, Taken 0x0D07 0 q s ∧ (fun q e => q.args.length = 1 ∧ only (mw q 4) [(1, 0)] = true ∧ mf q 4 1 0 = e.sys.fw.lifecycle + 1 ∧ fuseBusy e = false ∧
      e.dark.run = true ∧ (mf q 4 1 0 = 2 → e.sys.fw.commitPending = false)) q (entered 0 0x0D07 q s)) ∧
  (∃ q s, Taken 0x0D07 0 q s ∧ (fun q e => q.args.length = 1 ∧ (only (mw q 4) [(1, 0)] = false ∨ mf q 4 1 0 ≠ e.sys.fw.lifecycle + 1)) q (entered 0 0x0D07 q s)) := by
  refine ⟨⟨ask [], live, taken (by decide) rfl, by decide⟩,
    ⟨[7], 4, ask [0x1FF000, 7], live, taken (by decide) rfl, by decide⟩,
    ⟨[7], 4, ask [0x1FF000, 7], { live with mbx := { live.mbx with box := live.mbx.box ++ [(1, { deferred := some { opcode := 0x0D03, seq := 0 } })] } }, taken (by decide) rfl, by decide⟩,
    fun f hf => activation_witness f hf,
    ⟨ask (List.replicate 8 0), live, taken (by decide) rfl, by decide, by decide, by decide, by decide⟩,
    ⟨sealedAsk 0x0D04 [], { running with sys := { running.sys with fw := { running.sys.fw with img := [0, 0, 5], settingsGood := true, commitPending := true } } }, taken_sealed (by decide) (by decide) (by decide) (by decide) (by decide), by decide⟩,
    ⟨sealedAsk 0x0D04 [], { keyed with sys := { keyed.sys with fw := { keyed.sys.fw with img := [0, 0, 5], settingsGood := true, commitPending := true } } }, taken_sealed (by decide) (by decide) (by decide) (by decide) (by decide), by decide⟩,
    ⟨sealedAsk 0x0D04 [], keyed, taken_sealed (by decide) (by decide) (by decide) (by decide) (by decide), by decide⟩,
    ⟨sealedAsk 0x0D04 [], { keyed with sys := { keyed.sys with fw := { keyed.sys.fw with img := [0, 0, 5], floor := 63, settingsGood := true, commitPending := true } } }, taken_sealed (by decide) (by decide) (by decide) (by decide) (by decide), by decide⟩,
    ⟨[0x53540001, 0, 0x20000000, 64, 0, 0, 0, 0, 0, 0, 0, 0, 0, 0, 0, 0], 64, ask [0x53540001, 0, 0x20000000, 64, 0, 0, 0, 0, 0, 0, 0, 0, 0, 0, 0, 0], live, taken (by decide) rfl, by decide⟩,
    ⟨ask [0x1FFFFF, 4], live, taken (by decide) rfl, by decide⟩,
    ⟨sealedAsk 0x0D07 [1], running, taken_sealed (by decide) (by decide) (by decide) (by decide) (by decide), by decide⟩,
    ⟨sealedAsk 0x0D07 [2], keyed, taken_sealed (by decide) (by decide) (by decide) (by decide) (by decide), by decide⟩⟩

/-- States and operands that meet the hypotheses of Obligations.GatewayRequestsTakeEffect, each case of it on its own. -/
theorem witness_GatewayRequestsTakeEffect :
  (∃ q s, Taken 0x0601 0 q s ∧ (fun q _ => q.args.length = 6 ∧ (controllerChecks q.args).all (·.2) = true) q (entered 0 0x0601 q s)) ∧
  (∃ i q s, Taken 0x0602 0 q s ∧ (fun q e => q.args.length = 6 + (mf q 4 11 0 + 3) / 4 ∧ mf q 4 31 27 ≤ 23 ∧ mf q 4 26 24 ≤ 4 ∧ mf q 4 20 12 = 0 ∧ lengthFits (mf q 4 26 24) (mf q 4 11 0) = true ∧
      (bit (mw q 4) 23 = true → mf q 4 26 24 < 2) ∧ (mw q 5).toNat < 2 ^ idWidth (mf q 4 26 24) ∧
      only (mw q 6) (if mf q 4 26 24 = 4 then [(31, 24), (23, 16), (15, 15)] else []) = true ∧
      (protoHas (canOf e (mf q 4 31 27)).rec0 (mf q 4 26 24) = true ∨ canMode (canOf e (mf q 4 31 27)) = 0) ∧ (canOf e (mf q 4 31 27)).busOff = false ∧
      owns e (mf q 4 31 27) = true ∧ freeSlot (canOf e (mf q 4 31 27)) true = some i) q (entered 0 0x0602 q s)) ∧
  (∃ q s, Taken 0x0602 0 q s ∧ (fun q e => q.args.length = 6 + (mf q 4 11 0 + 3) / 4 ∧ mf q 4 31 27 ≤ 23 ∧ mf q 4 26 24 ≤ 4 ∧ mf q 4 20 12 = 0 ∧ lengthFits (mf q 4 26 24) (mf q 4 11 0) = true ∧
      (bit (mw q 4) 23 = true → mf q 4 26 24 < 2) ∧ (mw q 5).toNat < 2 ^ idWidth (mf q 4 26 24) ∧
      only (mw q 6) (if mf q 4 26 24 = 4 then [(31, 24), (23, 16), (15, 15)] else []) = true ∧
      (protoHas (canOf e (mf q 4 31 27)).rec0 (mf q 4 26 24) = true ∨ canMode (canOf e (mf q 4 31 27)) = 0) ∧
      ((canOf e (mf q 4 31 27)).busOff = true ∨ owns e (mf q 4 31 27) = false ∨ freeSlot (canOf e (mf q 4 31 27)) true = none)) q (entered 0 0x0602 q s)) ∧
  (∃ q s, Taken 0x0602 0 q s ∧ (fun q e => q.args.length = 6 + (mf q 4 11 0 + 3) / 4 ∧ mf q 4 31 27 ≤ 23 ∧ mf q 4 26 24 ≤ 4 ∧ mf q 4 20 12 = 0 ∧ lengthFits (mf q 4 26 24) (mf q 4 11 0) = true ∧
      (bit (mw q 4) 23 = true → mf q 4 26 24 < 2) ∧ (mw q 5).toNat < 2 ^ idWidth (mf q 4 26 24) ∧
      only (mw q 6) (if mf q 4 26 24 = 4 then [(31, 24), (23, 16), (15, 15)] else []) = true ∧
      protoHas (canOf e (mf q 4 31 27)).rec0 (mf q 4 26 24) = false ∧ canMode (canOf e (mf q 4 31 27)) ≠ 0) q (entered 0 0x0602 q s)) ∧
  (∃ x q s, Taken 0x0603 0 q s ∧ (fun q e => q.args.length = 1 ∧ only (mw q 4) [(31, 27), (4, 0)] = true ∧ mf q 4 31 27 ≤ 23 ∧ tget none (canOf e (mf q 4 31 27)).slots (mf q 4 4 0) = some x) q (entered 0 0x0603 q s)) ∧
  (∃ (b : _) (i : _) (x : _) (s : State), tget none (canOf s b).slots i = some x ∧ x.abort = true) ∧
  (∃ q s, Taken 0x0603 0 q s ∧ (fun q e => q.args.length = 1 ∧ only (mw q 4) [(31, 27), (4, 0)] = true ∧ mf q 4 31 27 ≤ 23 ∧ tget none (canOf e (mf q 4 31 27)).slots (mf q 4 4 0) = none) q (entered 0 0x0603 q s)) ∧
  (∃ q s, Taken 0x0604 0 q s ∧ (fun q e => q.args.length = 1 ∧ only (mw q 4) [(4, 0)] = true ∧ mf q 4 4 0 ≤ 23 ∧ (canOf e (mf q 4 4 0)).busOff = true ∧
      flag (canOf e (mf q 4 4 0)).rec0 0 19 = false) q (entered 0 0x0604 q s)) ∧
  (∃ q s, Taken 0x0605 0 q s ∧ (fun q _ => q.args.length = 2 ∧ mf q 4 28 27 ≤ 1 ∧ 13 ≤ mf q 4 26 22 ∧ mf q 4 26 22 ≤ 26 ∧ mf q 4 19 0 = 0 ∧ 1000 ≤ mf q 5 31 16 ∧ mf q 5 31 16 ≤ 20000 ∧
      mf q 5 15 0 = 0) q (entered 0 0x0605 q s)) ∧
  (∃ q s, Taken 0x0606 0 q s ∧ (fun q e => ∃ ws, 2 ≤ q.args.length ∧ bulkOf 2 q e = some (ws, 8 * mf q 5 11 0) ∧ only (mw q 4) [(10, 0)] = true ∧ only (mw q 5) [(11, 0)] = true ∧
      1 ≤ mf q 5 11 0 ∧ mf q 4 10 0 + mf q 5 11 0 ≤ 2048 ∧ badEntry 2 q linEntryFault (pairsOf ws) = none ∧ linPoolUsed e (mf q 4 10 0) (mf q 5 11 0) = false) q (entered 0 0x0606 q s)) ∧
  (∃ q s, Taken 0x0607 0 q s ∧ (fun q e => q.args.length = 4 ∧ mf q 4 24 24 = 0 ∧ mf q 4 5 0 = 0 ∧ 1 ≤ mf q 4 12 6 ∧ mf q 4 12 6 ≤ 64 ∧ mf q 4 23 13 + mf q 4 12 6 ≤ 2048 ∧
      (linEntries e q.args).all (linEntrySuits { linOf e (mf q 4 31 29) with head := tset [] (linOf e (mf q 4 31 29)).head (mf q 4 28 25) q.args }) = true ∧
      fullOk (q.args.drop 1) = true) q (entered 0 0x0607 q s)) ∧
  (∃ q s, Taken 0x0608 0 q s ∧ (fun q e => q.args.length = 1 ∧ only (mw q 4) [(31, 29), (4, 0)] = true ∧ bit (mw q 4) 4 = false ∧ linHeadOf (linOf e (mf q 4 31 29)) (mf q 4 3 0) ≠ []) q (entered 0 0x0608 q s)) ∧
  (∃ q s, Taken 0x0608 0 q s ∧ (fun q _ => q.args.length = 1 ∧ only (mw q 4) [(31, 29), (4, 0)] = true ∧ bit (mw q 4) 4 = true) q (entered 0 0x0608 q s)) ∧
  (∃ q s, Taken 0x0609 0 q s ∧ (fun q e => q.args.length = 3 ∧ only (mw q 4) [(31, 29), (11, 8), (5, 0)] = true ∧ 1 ≤ mf q 4 11 8 ∧ mf q 4 11 8 ≤ 8 ∧
      pubLen e (mf q 4 31 29) (mf q 4 5 0) = some (mf q 4 11 8)) q (entered 0 0x0609 q s)) ∧
  (∃ q s, Taken 0x060A 0 q s ∧ (fun q e => q.args.length = 9 ∧ only (mw q 4) [(15, 0)] = true ∧ 7680 ≤ mf q 4 15 0 ∧ mf q 4 15 0 < 8192 ∧ (routeChecks (q.args.drop 1) false).all (·.2) = true ∧
      routeRefs (projectedWith (.route (mf q 4 15 0) (q.args.drop 1)) e) = true) q (entered 0 0x060A q s)) ∧
  (∃ n q s, Taken 0x060A 0 q s ∧ (fun q e => q.args.length = 9 ∧ only (mw q 4) [(15, 0)] = true ∧ 7680 ≤ mf q 4 15 0 ∧ mf q 4 15 0 < 8192 ∧ (routeChecks (q.args.drop 1) false).all (·.2) = true ∧
      routeRefs (projectedWith (.route (mf q 4 15 0) (q.args.drop 1)) e) = false ∧ routeFault e (q.args.drop 1) = n) q (entered 0 0x060A q s)) ∧
  (∃ k q s, Taken 0x060A 0 q s ∧ (fun q e => q.args.length = 9 ∧ only (mw q 4) [(15, 0)] = true ∧ mf q 4 15 0 = k ∧ k < 7680 ∧ (routeChecks (q.args.drop 1) true).all (·.2) = true ∧
      (flag (q.args.drop 1) 0 31 = true →
        (macWays (routeBucket (roSrc (q.args.drop 1)) (mf q 5 23 21) (bit (mw q 5) 20) (mf q 6 28 0))).contains k = true ∧
        (macWays (routeBucket (roSrc (q.args.drop 1)) (mf q 5 23 21) (bit (mw q 5) 20) (mf q 6 28 0))).any (fun j => decide (k ≠ j) && routeSame (q.args.drop 1) (tget [] (projected e).gw.route j)) = false) ∧
      routeRefs (projectedWith (.route k (q.args.drop 1)) e) = true) q (entered 0 0x060A q s)) ∧
  (∃ j q s, Taken 0x060A 0 q s ∧ (fun q e => q.args.length = 9 ∧ mf q 4 15 0 = 0xFFFF ∧ only (mw q 4) [(15, 0)] = true ∧ (routeChecks (q.args.drop 1) true).all (·.2) = true ∧
      flag (q.args.drop 1) 0 31 = true ∧ (macWays (routeBucket (roSrc (q.args.drop 1)) (mf q 5 23 21) (bit (mw q 5) 20) (mf q 6 28 0))).find? (fun j => !flag (tget [] (projected e).gw.route j) 0 31) = some j ∧
      (macWays (routeBucket (roSrc (q.args.drop 1)) (mf q 5 23 21) (bit (mw q 5) 20) (mf q 6 28 0))).any (fun j => routeSame (q.args.drop 1) (tget [] (projected e).gw.route j)) = false ∧
      routeRefs (projectedWith (.route j (q.args.drop 1)) e) = true) q (entered 0 0x060A q s)) ∧
  (∃ q s, Taken 0x060A 0 q s ∧ (fun q e => q.args.length = 9 ∧ mf q 4 15 0 = 0xFFFF ∧ only (mw q 4) [(15, 0)] = true ∧ (routeChecks (q.args.drop 1) true).all (·.2) = true ∧
      flag (q.args.drop 1) 0 31 = true ∧ (macWays (routeBucket (roSrc (q.args.drop 1)) (mf q 5 23 21) (bit (mw q 5) 20) (mf q 6 28 0))).find? (fun j => !flag (tget [] (projected e).gw.route j) 0 31) = none) q (entered 0 0x060A q s)) ∧
  (∃ q s, Taken 0x060A 0 q s ∧ (fun q e => q.args.length = 9 ∧ mf q 4 15 0 = 0xFFFF ∧ only (mw q 4) [(15, 0)] = true ∧ (routeChecks (q.args.drop 1) true).all (·.2) = true ∧
      flag (q.args.drop 1) 0 31 = true ∧ ((macWays (routeBucket (roSrc (q.args.drop 1)) (mf q 5 23 21) (bit (mw q 5) 20) (mf q 6 28 0))).find? (fun j => !flag (tget [] (projected e).gw.route j) 0 31)).isSome = true ∧
      (macWays (routeBucket (roSrc (q.args.drop 1)) (mf q 5 23 21) (bit (mw q 5) 20) (mf q 6 28 0))).any (fun j => routeSame (q.args.drop 1) (tget [] (projected e).gw.route j)) = true) q (entered 0 0x060A q s)) ∧
  (∃ q s, Taken 0x060B 0 q s ∧ (fun q e => q.args.length = 8 ∧ 1 ≤ mf q 4 17 6 ∧ mf q 4 17 6 ≤ 4094 ∧ mf q 4 4 0 = 0 ∧ 1 ≤ mf q 6 15 8 ∧ mf q 6 15 8 ≤ 64 ∧ mf q 6 7 0 = 0 ∧ 24 ≤ mf q 9 15 0 ∧
      mf q 9 15 0 ≤ 1488 ∧ 22 + (if bit (mw q 4) 22 then 24 else 12) + mf q 9 15 0 ≤ bpMaxLen (bridgeOf e 30) ∧ bit (mw q 10) 31 = false ∧
      routeRefs (projectedWith (.tunnel (mf q 4 30 23) q.args) e) = true) q (entered 0 0x060B q s)) ∧
  (∃ q s, Taken 0x060C 0 q s ∧ (fun q _ => q.args.length = 4 ∧ only (mw q 4) [(31, 30), (5, 0)] = true) q (entered 0 0x060C q s)) ∧
  (∃ q s, Taken 0x060D 0 q s ∧ (fun q _ => q.args.length = 2 ∧ only (mw q 5) [(31, 16)] = true) q (entered 0 0x060D q s)) ∧
  (∃ q s, Taken 0x060E 0 q s ∧ (fun q e => q.args.length = 7 ∧ only (mw q 4) [(9, 0)] = true ∧ 3 ≤ mf q 5 20 16 ∧ mf q 5 20 16 ≤ 16 ∧ mf q 5 15 12 ≤ 8 ∧ mf q 5 11 0 = 0 ∧
      (bit (mw q 5) 30 = true → tget 0 e.gw.fresh (mf q 4 9 0) ≤ cat64 (mw q 7) (mw q 8)) ∧ (bit (mw q 5) 30 = true ∨ mw q 9 ≠ 0) ∧ mf q 10 15 4 ≤ 2048 ∧
      mf q 10 3 0 = 0 ∧
      routeRefs (projectedWith (.auth (mf q 4 9 0) (((q.args.drop 1).set 2 0).set 3 0)) e) = true) q (entered 0 0x060E q s)) ∧
  (∃ q s, Taken 0x060F 0 q s ∧ (fun q _ => q.args.length = 1 ∧ only (mw q 4) [(4, 0)] = true ∧ mf q 4 4 0 ≤ 23) q (entered 0 0x060F q s)) ∧
  (∃ q s, Taken 0x0610 0 q s ∧ (fun q _ => q.args.length = 1 ∧ only (mw q 4) [(2, 0)] = true) q (entered 0 0x0610 q s)) ∧
  (∃ q s, Taken 0x0611 0 q s ∧ (fun q _ => q.args.length = 1 ∧ only (mw q 4) [(5, 0)] = true ∧ mf q 4 5 0 ≤ 32) q (entered 0 0x0611 q s)) ∧
  (∃ q s, Taken 0x0612 0 q s ∧ (fun q _ => q.args.length = 1 ∧ only (mw q 4) [(8, 0)] = true ∧ bit (mw q 4) 8 = false) q (entered 0 0x0612 q s)) ∧
  (∃ q s, Taken 0x0612 0 q s ∧ (fun q _ => q.args.length = 1 ∧ only (mw q 4) [(8, 0)] = true ∧ bit (mw q 4) 8 = true ∧ mf q 4 7 0 ≤ 63) q (entered 0 0x0612 q s)) ∧
  (∃ q s, Taken 0x0613 0 q s ∧ (fun q _ => q.args.length = 1 ∧ only (mw q 4) [(12, 0)] = true) q (entered 0 0x0613 q s)) := by
  refine ⟨⟨ask [0xB8400000, 0x20FC810, 0x14182080, 0x80082080, 0x4100000, 0], live, taken (by decide) rfl, by decide⟩,
    ⟨28, ask [0xB8000008, 0x7FF, 0, 0, 0, 0, 1, 2], live, taken (by decide) rfl, by decide⟩,
    ⟨ask [0xB8000008, 0x7FF, 0, 0, 0, 0, 1, 2], { live with gw := { can := [(23, { busOff := true })] } }, taken (by decide) rfl, by decide⟩,
    ⟨ask [0xBA000008, 0x7FF, 0, 0, 0, 0, 1, 2], { live with gw := { can := [(23, { rec0 := [0x02000000] })] } }, taken (by decide) rfl, by decide⟩,
    ⟨{ out := { f := { format := 0, id := 5 }, route := 0, origin := 0 } }, ask [0xB8000005], { live with gw := { can := [(23, { slots := [(5, some { out := { f := { format := 0, id := 5 }, route := 0, origin := 0 } })] })] } }, taken (by decide) rfl, by decide⟩,
    ⟨23, 5, { out := { f := { format := 0, id := 5 }, route := 0, origin := 0 }, abort := true }, { live with gw := { can := [(23, { slots := [(5, some { out := { f := { format := 0, id := 5 }, route := 0, origin := 0 }, abort := true })] })] } }, by decide⟩,
    ⟨ask [0xB800001F], live, taken (by decide) rfl, by decide⟩,
    ⟨ask [0x17], { live with gw := { can := [(23, { busOff := true })] } }, taken (by decide) rfl, by decide⟩,
    ⟨ask [0xEE800000, 0x4E200000], live, taken (by decide) rfl, by decide⟩,
    ⟨ask [0x7FF, 1, 0x200000, 0x1000], live, taken (by decide) rfl, ⟨[0x200000, 0x1000], by decide⟩⟩,
    ⟨ask [0xFEFFE040, 0, 0, 0x3B9AC9FF], { live with gw := { lin := [(7, { rec0 := [0x3400000, 0x4E200000] })], pool := [(2047, (0x40000, 0x186A0000))] } }, taken (by decide) rfl, by decide⟩,
    ⟨ask [0xE000000F], { live with gw := { lin := [(7, { head := [(15, [1])] })] } }, taken (by decide) rfl, by decide⟩,
    ⟨ask [0xE0000010], live, taken (by decide) rfl, by decide⟩,
    ⟨ask [0xE000083F, 1, 2], { live with gw := { lin := [(7, { head := [(0, [0xA040])] })], pool := [(5, (0x3FA00000, 0))] } }, taken (by decide) rfl, by decide⟩,
    ⟨ask ([7680] ++ List.replicate 8 0), live, taken (by decide) rfl, by decide⟩,
    ⟨8, ask [0x1FFF, 0x80000000, 0, 0, 0x80000000, 0, 0, 0, 0], live, taken (by decide) rfl, by decide⟩,
    ⟨(macWays (routeBucket 0 0 false 0)).getD 0 0, ask ([word ((macWays (routeBucket 0 0 false 0)).getD 0 0)] ++ [0x80000000, 0, 0, 0, 0, 0, 0, 0]), live, taken (by decide +kernel) rfl, by decide +kernel⟩,
    ⟨(macWays (routeBucket 0 0 false 0)).getD 0 0, ask ([0xFFFF] ++ [0x80000000, 0, 0, 0, 0, 0, 0, 0]), live, taken (by decide +kernel) rfl, by decide +kernel⟩,
    ⟨ask ([0xFFFF] ++ [0x80000000, 0, 0, 0, 0, 0, 0, 0]), { live with gw := { route := (macWays (routeBucket 0 0 false 0)).map (fun j => (j, [0x80000000])) } }, taken (by decide +kernel) rfl, by decide +kernel⟩,
    ⟨ask ([0xFFFF] ++ [0x80000000, 0, 0, 0, 0, 0, 0, 0]), { live with gw := { route := ((macWays (routeBucket 0 0 false 0)).take 1).map (fun j => (j, [0x80000000, 0, 0, 0, 0, 0, 0, 0])) } }, taken (by decide +kernel) rfl, by decide +kernel⟩,
    ⟨ask [0x3FF80, 0, 0x4000, 0, 0, 0x18, 0, 0], live, taken (by decide) rfl, by decide⟩,
    ⟨ask [0x3F, 0, 0, 0], live, taken (by decide) rfl, by decide⟩,
    ⟨ask [0x2000000, 0xFFFF0000], live, taken (by decide) rfl, by decide⟩,
    ⟨ask [0x3FF, 0x108000, 0, 0, 7, 1, 0x8000], live, taken (by decide) rfl, by decide⟩,
    ⟨ask [0x17], live, taken (by decide) rfl, by decide⟩,
    ⟨ask [7], live, taken (by decide) rfl, by decide⟩,
    ⟨ask [0x20], live, taken (by decide) rfl, by decide⟩,
    ⟨ask [0xFF], live, taken (by decide) rfl, by decide⟩,
    ⟨ask [0x13F], live, taken (by decide) rfl, by decide⟩,
    ⟨ask [0x1FFF], live, taken (by decide) rfl, by decide⟩⟩

/-- States and operands that meet the hypotheses of Obligations.NetworkManagementRequestsTakeEffect, each case of it on its own. -/
theorem witness_NetworkManagementRequestsTakeEffect :
  (∃ q s, Taken 0x0701 0 q s ∧ (fun q e => q.args.length = 3 ∧ mf q 4 13 0 = 0 ∧ (mf q 4 31 27 < 16 ∨ (mf q 4 25 24 = 0 ∧ mf q 4 22 14 = 0)) ∧
      (bit (mw q 4) 22 = false ∨ e.nm.source.any (fun x => x.1 ≠ mf q 4 31 27 && wsIgn x.2) = false) ∧ mf q 5 31 28 = 0) q (entered 0 0x0701 q s)) ∧
  (∃ q s, Taken 0x0702 0 q s ∧ (fun q e => q.args.length = 2 ∧ only (mw q 4) [(1, 0)] = true ∧ (List.range 60).any (fun i => segManaged (segOf e i) && (segOf e i).state ≤ 1) = false ∧
      inFlight e (fun op => op = 0x0D02 || op = 0x0D03) = false ∧ fuseBusy e = false) q (entered 0 0x0702 q s)) ∧
  (∃ q s, Taken 0x0702 0 q s ∧ (fun q e => q.args.length = 2 ∧ only (mw q 4) [(1, 0)] = true ∧ ((List.range 60).any (fun i => segManaged (segOf e i) && (segOf e i).state ≤ 1) = true ∨
      inFlight e (fun op => op = 0x0D02 || op = 0x0D03) = true ∨ fuseBusy e = true)) q (entered 0 0x0702 q s)) ∧
  (∃ q s, Taken 0x0703 0 q s ∧ (fun q _ => q.args.length = 8 ∧ (segmentChecks q.args).all (·.2) = true) q (entered 0 0x0703 q s)) ∧
  (∃ q s, Taken 0x0704 0 q s ∧ (fun q _ => q.args.length = 1 ∧ only (mw q 4) [(31, 29), (5, 0)] = true ∧ mf q 4 31 30 = 0 ∧ (bit (mw q 4) 29 = true ∨ mf q 4 5 0 ≤ 59)) q (entered 0 0x0704 q s)) ∧
  (∃ q s, Taken 0x0704 0 q s ∧ (fun q _ => q.args.length = 1 ∧ only (mw q 4) [(31, 29), (5, 0)] = true ∧ mf q 4 31 30 = 1 ∧ (bit (mw q 4) 29 = true ∨ mf q 4 5 0 ≤ 59)) q (entered 0 0x0704 q s)) ∧
  (∃ q s, Taken 0x0704 0 q s ∧ (fun q _ => q.args.length = 1 ∧ only (mw q 4) [(31, 29), (5, 0)] = true ∧ mf q 4 31 30 = 2 ∧ (bit (mw q 4) 29 = true ∨ mf q 4 5 0 ≤ 59)) q (entered 0 0x0704 q s)) ∧
  (∃ q s, Taken 0x0705 0 q s ∧ (fun q _ => q.args.length = 4 ∧ 100 ≤ mf q 4 31 21 ∧ mf q 4 31 21 ≤ 2000 ∧ 1 ≤ mf q 4 20 13 ∧ 10 ≤ mf q 4 12 3 ∧ mf q 4 12 3 ≤ 1000 ∧ mf q 4 1 0 = 0 ∧
      1 ≤ mf q 5 31 21 ∧ mf q 5 31 21 ≤ 1440 ∧ 1 ≤ mf q 5 20 10 ∧ mf q 5 20 10 ≤ 1440 ∧ mf q 5 9 0 = 0 ∧ 1 ≤ mf q 6 31 21 ∧ mf q 6 31 21 ≤ 1440 ∧ mf q 6 20 0 = 0) q (entered 0 0x0705 q s)) ∧
  (∃ q s, Taken 0x0706 0 q s ∧ (fun q _ => q.args = []) q (entered 0 0x0706 q s)) ∧
  (∃ q s, Taken 0x0707 0 q s ∧ (fun q _ => q.args.length = 1 ∧ only (mw q 4) [(5, 0)] = true ∧ mf q 4 5 0 ≤ 59) q (entered 0 0x0707 q s)) ∧
  (∃ q s, Taken 0x0708 0 q s ∧ (fun q _ => q.args.length = 1 ∧ only (mw q 4) [(4, 0)] = true) q (entered 0 0x0708 q s)) := by
  refine ⟨⟨ask [0xFC000000, 0xFFFFFFF, 0], live, taken (by decide) rfl, by decide⟩,
    ⟨ask [3, 0], live, taken (by decide) rfl, by decide⟩,
    ⟨ask [1, 0], { live with nm := { seg := [(0, { rec0 := [0x02000000] })] } }, taken (by decide) rfl, by decide⟩,
    ⟨ask [0xEC000000, 0x9C400000, 0xFA000000, 0, 0, 0, 0, 0], live, taken (by decide) rfl, by decide⟩,
    ⟨ask [0x3B], live, taken (by decide) rfl, by decide⟩,
    ⟨ask [0x6000003F], live, taken (by decide) rfl, by decide⟩,
    ⟨ask [0x8000003B], live, taken (by decide) rfl, by decide⟩,
    ⟨ask [0xFA003F40, 0xB4168000, 0x200000, 0], live, taken (by decide) rfl, by decide⟩,
    ⟨ask [], live, taken (by decide) rfl, by decide⟩,
    ⟨ask [0x3B], live, taken (by decide) rfl, by decide⟩,
    ⟨ask [0x1F], live, taken (by decide) rfl, by decide⟩⟩

/-- States and operands that meet the hypotheses of Obligations.CipherAndTraceRequestsTakeEffect, each case of it on its own. -/
theorem witness_CipherAndTraceRequestsTakeEffect :
  (∃ q s, Taken 0x0801 0 q s ∧ (fun q _ => q.args.length = 1 ∧ only (mw q 4) [(7, 0)] = true) q (entered 0 0x0801 q s)) ∧
  (∃ b q s, Taken 0x0802 0 q s ∧ (entered 0 0x0802 q s).ciph.alarm = false ∧ q.args.length = 2 + (mf q 5 15 0 + 3) / 4 ∧ only (mw q 4) [(31, 16)] = true ∧ mf q 4 23 16 ≠ 0 ∧ (slotAt (entered 0 0x0802 q s) (mf q 4 23 16)).fixed = false ∧ only (mw q 5) [(15, 0)] = true ∧ 24 ≤ mf q 5 15 0 ∧ mf q 5 15 0 ≤ 64 ∧ bulkRoom (entered 0 0x0802 q s) 6 = true ∧ startStatus (entered 0 0x0802 q s) { requester := 6, op := .unwrap, slot := mf q 4 31 24 } = 0 ∧ unwrapBlob (slotSeen (entered 0 0x0802 q s) (mf q 4 31 24)).key ((recBytes (q.args.drop 2)).take (mf q 5 15 0)) = some b ∧ beAt b 0 2 = 0x5344 ∧ byteAt b 3 = 0 ∧ b.length = 8 + keyBytes (byteAt b 2) ∧ keyBytes (byteAt b 2) ≠ 0 ∧ usageOk (byteAt b 2) (beAt b 4 2) = true ∧ beAt b 4 2 &&& (slotSeen (entered 0 0x0802 q s) (mf q 4 31 24)).childUsage = beAt b 4 2) ∧
  (∃ q s, Taken 0x0803 0 q s ∧ (entered 0 0x0803 q s).ciph.alarm = false ∧ q.args.length = 2 + ((mf q 4 5 0 + 3) / 4) + (mf q 5 6 0 + 3) / 4 ∧ only (mw q 4) [(31, 12), (5, 0)] = true ∧ mf q 4 23 16 ≠ 0 ∧ (slotAt (entered 0 0x0803 q s) (mf q 4 23 16)).fixed = false ∧ keyBytes (mf q 4 15 12) ≠ 0 ∧ mf q 4 5 0 ≤ 32 ∧ only (mw q 5) [(31, 16), (6, 0)] = true ∧ usageOk (mf q 4 15 12) (mf q 5 31 16) = true ∧ mf q 5 6 0 ≤ 64 ∧ bulkRoom (entered 0 0x0803 q s) 6 = true ∧ startStatus (entered 0 0x0803 q s) { requester := 6, op := .derive, slot := mf q 4 31 24 } = 0 ∧ mf q 5 31 16 &&& (slotSeen (entered 0 0x0803 q s) (mf q 4 31 24)).childUsage = mf q 5 31 16) ∧
  (∃ q s, Taken 0x0804 0 q s ∧ (entered 0 0x0804 q s).ciph.alarm = false ∧ q.args.length = 2 ∧ only (mw q 4) [(23, 12)] = true ∧ mf q 4 23 16 ≠ 0 ∧ (slotAt (entered 0 0x0804 q s) (mf q 4 23 16)).fixed = false ∧ keyBytes (mf q 4 15 12) ≠ 0 ∧ only (mw q 5) [(31, 16)] = true ∧ usageOk (mf q 4 15 12) (mf q 5 31 16) = true ∧ bulkRoom (entered 0 0x0804 q s) 6 = true ∧ startStatus (entered 0 0x0804 q s) { requester := 6, op := .keyGen, slot := 0, noKey := true } = 0) ∧
  (∃ q s, Taken 0x0805 0 q s ∧ (entered 0 0x0805 q s).ciph.alarm = false ∧ q.args.length = 2 + keyBytes (mf q 4 15 12) / 4 ∧ only (mw q 4) [(23, 12)] = true ∧ mf q 4 23 16 ≠ 0 ∧ (slotAt (entered 0 0x0805 q s) (mf q 4 23 16)).fixed = false ∧ keyBytes (mf q 4 15 12) ≠ 0 ∧ only (mw q 5) [(31, 16)] = true ∧ usageOk (mf q 4 15 12) (mf q 5 31 16) = true) ∧
  (∃ q s, Taken 0x0806 0 q s ∧ (fun q e => e.ciph.alarm = false ∧ q.args.length = 1 ∧ only (mw q 4) [(7, 0)] = true ∧ mf q 4 7 0 ≠ 0 ∧ (slotAt e (mf q 4 7 0)).fixed = false) q (entered 0 0x0806 q s)) ∧
  (∃ q s, Taken 0x0806 0 q s ∧ (fun _ e => e.ciph.alarm = true) q (entered 0 0x0806 q s)) ∧
  (∃ q s, Taken 0x0806 0 q s ∧ (fun q e => e.ciph.alarm = false ∧ q.args.length = 1 ∧ mf q 4 7 0 = 0) q (entered 0 0x0806 q s)) ∧
  (∃ q s, Taken 0x0901 0 q s ∧ (fun q _ => q.args.length = 2 ∧ only (mw q 4) [(6, 0)] = true ∧ 10 ≤ mf q 4 6 0 ∧ mf q 4 6 0 ≤ 90 ∧ only (mw q 5) [(11, 0)] = true ∧ 1 ≤ mf q 5 11 0 ∧
      mf q 5 11 0 ≤ 3600) q (entered 0 0x0901 q s)) ∧
  (∃ q s, Taken 0x0902 0 q s ∧ (fun q _ => q.args.length = 6 ∧ mf q 4 31 27 ≤ 27 ∧ (mf q 4 24 23 = 1 ∨ mf q 4 24 23 = 2) ∧ mf q 4 21 20 ≠ 3 ∧ mf q 4 15 0 = 0) q (entered 0 0x0902 q s)) ∧
  (∃ q s, Taken 0x0903 0 q s ∧ (fun q e => q.args.length = 11 ∧ only (mw q 4) [(8, 0)] = true ∧ mf q 5 12 0 = 0 ∧ (bit (mw q 5) 30 = true → mf q 5 25 21 ≤ 27) ∧ bit (mw q 5) 31 = true ∧
      (slotSeen e (mf q 6 31 24)).type = 1 + mf q 5 26 26 ∧ (slotSeen e (mf q 6 31 24)).usage.testBit 0 = true ∧ mf q 6 7 0 = 0 ∧ saStatus e (q.args.drop 1) = 0) q (entered 0 0x0903 q s)) ∧
  (∃ q s, Taken 0x0903 0 q s ∧ (fun q _ => q.args.length = 11 ∧ only (mw q 4) [(8, 0)] = true ∧ mf q 5 12 0 = 0 ∧ (bit (mw q 5) 30 = true → mf q 5 25 21 ≤ 27) ∧ bit (mw q 5) 31 = false ∧
      mf q 6 7 0 = 0) q (entered 0 0x0903 q s)) ∧
  (∃ q s, Taken 0x0904 0 q s ∧ (fun q _ => q.args.length = 6 ∧ only (mw q 4) [(7, 0)] = true ∧ mf q 5 25 0 = 0 ∧ mf q 5 30 26 ≤ 27 ∧ mf q 8 31 27 = 0 ∧ mf q 9 22 0 = 0) q (entered 0 0x0904 q s)) ∧
  (∃ q s, Taken 0x0905 0 q s ∧ (fun q _ => q.args.length = 1 ∧ only (mw q 4) [(4, 0)] = true ∧ mf q 4 4 0 ≤ 27) q (entered 0 0x0905 q s)) ∧
  (∃ q s, Taken 0x0906 0 q s ∧ (fun q _ => q.args.length = 1 ∧ only (mw q 4) [(8, 0)] = true) q (entered 0 0x0906 q s)) ∧
  (∃ q s, Taken 0x0910 0 q s ∧ (fun q e => q.args.length = 10 ∧ mf q 4 31 28 = 6 ∧ mf q 4 27 26 = 0 ∧ mf q 5 15 0 = 0 ∧ mf q 5 31 16 ≤ 4096 ∧ only (mw q 6) [(16, 0)] = true ∧
      only (mw q 7) [(16, 0)] = true ∧ mf q 6 16 0 + mf q 7 16 0 ≤ 131072 ∧ mf q 7 16 0 ≤ 16384 ∧ only (mw q 8) [(16, 0)] = true ∧
      only (mw q 9) [(16, 0)] = true ∧ mf q 8 16 0 + mf q 9 16 0 ≤ 131072 ∧ bulkRoom e 5 = true ∧
      opStart e .sha256 (mf q 4 23 16) (mf q 4 15 0) (bit (mw q 4) 25) false = 0) q (entered 0 0x0910 q s)) ∧
  (∃ q s, Taken 0x0A01 0 q s ∧ (fun q e => q.args.length = 2 ∧ mf q 4 30 27 ≠ 15 ∧ mf q 4 24 23 ≠ 3 ∧ mf q 4 22 19 ≤ 8 ∧ mf q 4 17 0 = 0 ∧
      (mf q 4 24 23 = 0 → bit (mw q 5) 31 = false) ∧ (mf q 4 24 23 = 1 → mf q 5 31 12 = 0) ∧ (e.sys.fw.lifecycle ≠ 2 ∨ mf q 4 22 19 ≤ 2)) q (entered 0 0x0A01 q s)) ∧
  (∃ q s, Taken 0x0A01 0 q s ∧ (fun q e => q.args.length = 2 ∧ mf q 4 30 27 ≠ 15 ∧ mf q 4 24 23 ≠ 3 ∧ mf q 4 22 19 ≤ 8 ∧ mf q 4 17 0 = 0 ∧
      (mf q 4 24 23 = 0 → bit (mw q 5) 31 = false) ∧ (mf q 4 24 23 = 1 → mf q 5 31 12 = 0) ∧ e.sys.fw.lifecycle = 2 ∧ 2 < mf q 4 22 19) q (entered 0 0x0A01 q s)) ∧
  (∃ q s, Taken 0x0A02 0 q s ∧ (fun q _ => q.args.length = 4 ∧ bit (mw q 4) 30 = true ∧ mf q 4 28 24 ≤ 28 ∧ bit (mw q 4) 0 = false ∧ mf q 7 3 0 = 0) q (entered 0 0x0A02 q s)) ∧
  (∃ q s, Taken 0x0A02 0 q s ∧ (fun q _ => q.args.length = 4 ∧ bit (mw q 4) 30 = false ∧ mf q 4 28 24 ≤ 28 ∧ bit (mw q 4) 0 = false ∧ 1 ≤ mf q 4 15 2 ∧ mf q 4 15 2 ≤ 10000 ∧ mf q 7 3 0 = 0 ∧
      1 ≤ mf q 7 15 4 ∧ mf q 7 15 4 ≤ 4094) q (entered 0 0x0A02 q s)) ∧
  (∃ q s, Taken 0x0A03 0 q s ∧ (fun q e => q.args.length = 1 ∧ only (mw q 4) [(3, 0)] = true ∧ mf q 4 3 0 ≤ 8 ∧ (e.sys.fw.lifecycle ≠ 2 ∨ mf q 4 3 0 ≤ 2)) q (entered 0 0x0A03 q s)) := by
  refine ⟨⟨ask [0xFF], live, taken (by decide) rfl, by decide⟩,
    ⟨([0x53, 0x44, 1, 0, 0, 1, 0, 0] ++ List.replicate 16 9), ask [0x1020000, 32, 0x77E4E220, 0x74091837, 0xCA759C6F, 0x51A38C1F, 0xF15640A4, 0xEE2F6698, 0x92092569, 0x6880C65A], unwrapping, taken (by decide) rfl, by decide +kernel⟩,
    ⟨ask [0x1021000, 0x10000], { live with ciph := { live.ciph with slot := [(0, rootSlot), (1, { type := 2, usage := 0x20, childUsage := 1 })], test2At := 1 } }, taken (by decide) rfl, by decide⟩,
    ⟨ask [0xFF1000, 0x10000], { live with ciph := { live.ciph with test2At := 1 } }, taken (by decide) rfl, by decide⟩,
    ⟨ask [0xFF3000, 0x100000, 1, 2, 3, 4, 5, 6, 7, 8], live, taken (by decide) rfl, by decide⟩,
    ⟨ask [0xFF], live, taken (by decide) rfl, by decide⟩,
    ⟨ask [5], { live with ciph := { live.ciph with alarm := true } }, taken (by decide) rfl, by decide⟩,
    ⟨ask [0], live, taken (by decide) rfl, by decide⟩,
    ⟨ask [0x5A, 0xE10], live, taken (by decide) rfl, by decide⟩,
    ⟨ask [0xD9000000, 0, 0, 0, 0, 0], live, taken (by decide) rfl, by decide⟩,
    ⟨ask [0x1FF, 0x80000000, 0x1000000, 0, 0, 0, 0, 0, 0, 0, 0], { live with ciph := { live.ciph with slot := [(0, rootSlot), (1, { type := 1, usage := 1 })], test2At := 1 } }, taken (by decide) rfl, by decide⟩,
    ⟨ask [0x1FF, 0, 0, 0, 0, 0, 0, 0, 0, 0, 0], live, taken (by decide) rfl, by decide⟩,
    ⟨ask [0xFF, 0x6C000000, 0, 0, 0, 0], live, taken (by decide) rfl, by decide⟩,
    ⟨ask [0x1B], live, taken (by decide) rfl, by decide⟩,
    ⟨ask [0x1FF], live, taken (by decide) rfl, by decide⟩,
    ⟨ask [0x60000000, 0, 0, 0, 0, 0, 0, 0, 0, 0], { live with ciph := { live.ciph with test2At := 1 } }, taken (by decide) rfl, by decide⟩,
    ⟨ask [0x70400000, 0], live, taken (by decide) rfl, by decide⟩,
    ⟨ask [0x70180000, 0], { live with sys := { live.sys with fw := { live.sys.fw with lifecycle := 2 } } }, taken (by decide) rfl, by decide⟩,
    ⟨ask [0x5C000000, 0, 0, 0], live, taken (by decide) rfl, by decide⟩,
    ⟨ask [0x1C009C40, 0, 0, 0xFFE0], live, taken (by decide) rfl, by decide⟩,
    ⟨ask [8], live, taken (by decide) rfl, by decide⟩⟩

/-- States and operands that meet the hypotheses of Obligations.DarkroomRequestsTakeEffect, each case of it on its own. -/
theorem witness_DarkroomRequestsTakeEffect :
  (∃ q s, Taken 0x0B01 0 q s ∧ (fun q _ => q.args.length = 2 ∧ only (mw q 4) [(7, 0)] = true ∧ mf q 4 7 0 < nSlots ∧ only (mw q 5) [(8, 0)] = true ∧ mf q 5 8 0 ≤ 256) q (entered 0 0x0B01 q s)) ∧
  (∃ k q s, Taken 0x0B02 0 q s ∧ (fun q e => q.args = [] ∧ e.dark.key = some k) q (entered 0 0x0B02 q s)) ∧
  (∃ q s, Taken 0x0B03 0 q s ∧ (fun q e => q.args.length = 1 ∧ only (mw q 4) [(3, 0)] = true ∧ mf q 4 3 0 < e.dark.images) q (entered 0 0x0B03 q s)) ∧
  (∃ ws q s, Taken 0x0B04 0 q s ∧ (fun q e => bulkOf 0 q e = some (ws, 2048) ∧ e.dark.images ≠ 16 ∧ imageShape ws = true ∧ e.dark.reseal = none ∧ e.dark.run = true) q (entered 0 0x0B04 q s)) ∧
  (∃ ws n q s, Taken 0x0B04 0 q s ∧ (fun q e => bulkOf 0 q e = some (ws, n) ∧ e.dark.images = 16) q (entered 0 0x0B04 q s)) ∧
  (∃ q s, Taken 0x0B05 0 q s ∧ (fun q _ => q.args.length = 1 ∧ only (mw q 4) [(15, 0)] = true) q (entered 0 0x0B05 q s)) ∧
  (∃ q s, Taken 0x0B06 0 q s ∧ (fun q e => q.args.length = 4 ∧ only (mw q 4) [(3, 0)] = true ∧ mf q 5 25 23 ≤ 5 ∧ mf q 5 6 0 = 0 ∧ only (mw q 6) [(28, 0)] = true ∧
      only (mw q 7) [(28, 0)] = true ∧ e.dark.run = true) q (entered 0 0x0B06 q s)) ∧
  (∃ q s, Taken 0x0B07 0 q s ∧ (fun q e => q.args.length = 3 ∧ mf q 4 31 16 ≤ 60000 ∧ mf q 4 15 0 ≤ 30000 ∧ mf q 5 31 16 ≤ 32256 ∧ mf q 5 15 0 = 0 ∧ e.dark.run = true) q (entered 0 0x0B07 q s)) ∧
  (∃ q s, Taken 0x0B07 0 q s ∧ (fun q e => q.args.length = 3 ∧ mf q 4 31 16 ≤ 60000 ∧ mf q 4 15 0 ≤ 30000 ∧ mf q 5 31 16 ≤ 32256 ∧ mf q 5 15 0 = 0 ∧ e.dark.run = false) q (entered 0 0x0B07 q s)) ∧
  (∃ q s, Taken 0x0B08 0 q s ∧ (fun q e => q.args.length = 2 ∧ only (mw q 4) [(7, 0)] = true ∧ mf q 4 7 0 < nSlots ∧ only (mw q 5) [(6, 0)] = true ∧ e.dark.run = true ∧
      (darkSlot e (mf q 4 7 0)).st = 2) q (entered 0 0x0B08 q s)) ∧
  (∃ q s, Taken 0x0B08 0 q s ∧ (fun q e => q.args.length = 2 ∧ only (mw q 4) [(7, 0)] = true ∧ mf q 4 7 0 < nSlots ∧ only (mw q 5) [(6, 0)] = true ∧ e.dark.run = true ∧
      (darkSlot e (mf q 4 7 0)).st ≠ 2) q (entered 0 0x0B08 q s)) ∧
  (∃ q s, Taken 0x0B09 0 q s ∧ (fun q e => q.args.length = 1 ∧ only (mw q 4) [(7, 0)] = true ∧ mf q 4 7 0 < nSlots ∧ e.dark.run = true ∧ (darkSlot e (mf q 4 7 0)).exporting = false ∧
      (darkSlot e (mf q 4 7 0)).st ≠ 1) q (entered 0 0x0B09 q s)) ∧
  (∃ q s, Taken 0x0B0A 0 q s ∧ (fun q e => q.args.length = 4 ∧ e.dark.run = true) q (entered 0 0x0B0A q s)) ∧
  (∃ q s, Taken 0x0B0A 0 q s ∧ (fun q e => q.args.length = 4 ∧ e.dark.run = false) q (entered 0 0x0B0A q s)) ∧
  (∃ q s, Taken 0x0B0B 0 q s ∧ (fun q _ => q.args.length = 2 ∧ only (mw q 4) [(6, 0)] = true ∧ only (mw q 5) [(7, 0)] = true ∧ 1 ≤ mf q 5 7 0 ∧ mf q 5 7 0 ≤ 128) q (entered 0 0x0B0B q s)) := by
  refine ⟨⟨ask [0xF, 0x100], live, taken (by decide) rfl, ⟨by decide, by decide, lt_nSlots (by decide), by decide, by decide⟩⟩,
    ⟨5, ask [], { live with dark := { key := some 5 } }, taken (by decide) rfl, ⟨rfl, rfl⟩⟩,
    ⟨ask [0], live, taken (by decide) rfl, by decide⟩,
    ⟨someImage, ask someImage, { live with dark := { run := true } }, taken (by decide) rfl, by decide +kernel⟩,
    ⟨[1], 4, ask [1], { live with dark := { images := 16 } }, taken (by decide) rfl, by decide⟩,
    ⟨ask [0xFFFF], live, taken (by decide) rfl, by decide⟩,
    ⟨ask [0xF, 0x2800000, 0x1FFFFFFF, 0], { live with dark := { run := true } }, taken (by decide) rfl, by decide⟩,
    ⟨ask [0xEA607530, 0x7E000000, 0], { live with dark := { run := true } }, taken (by decide) rfl, by decide⟩,
    ⟨ask [0, 0, 0], live, taken (by decide) rfl, by decide⟩,
    ⟨ask [0xF, 0x7F], { live with dark := { run := true, slot := [(15, { st := 2 })] } }, taken (by decide) rfl, ⟨by decide, by decide, lt_nSlots (by decide), by decide, by decide, by decide⟩⟩,
    ⟨ask [0xF, 0x7F], { live with dark := { run := true } }, taken (by decide) rfl, ⟨by decide, by decide, lt_nSlots (by decide), by decide, by decide, by decide⟩⟩,
    ⟨ask [0xF], { live with dark := { run := true } }, taken (by decide) rfl, ⟨by decide, by decide, lt_nSlots (by decide), by decide, by decide, by decide⟩⟩,
    ⟨ask [1, 2, 3, 4], { live with dark := { run := true } }, taken (by decide) rfl, by decide⟩,
    ⟨ask [1, 2, 3, 4], live, taken (by decide) rfl, by decide⟩,
    ⟨ask [0x7F, 0x80], live, taken (by decide) rfl, by decide⟩⟩

/-- States and operands that meet the hypotheses of Obligations.PairAndTestRequestsTakeEffect, each case of it on its own. -/
theorem witness_PairAndTestRequestsTakeEffect :
  (∃ q s, Taken 0x0C01 0 q s ∧ (fun q e => q.args.length = 2 ∧ only (mw q 4) [(31, 31), (3, 0)] = true ∧ 4 ≤ mf q 4 3 0 ∧ mf q 4 3 0 ≤ 11 ∧ only (mw q 5) [(9, 0)] = true ∧
      10 ≤ mf q 5 9 0 ∧ mf q 5 9 0 ≤ 1000 ∧ (bit (mw q 4) 31 = true → e.pair.bound.isSome = true) ∧ prMode (portRec e (mf q 4 3 0)) ≠ 0) q (entered 0 0x0C01 q s)) ∧
  (∃ q s, Taken 0x0C01 0 q s ∧ (fun q e => q.args.length = 2 ∧ only (mw q 4) [(31, 31), (3, 0)] = true ∧ 4 ≤ mf q 4 3 0 ∧ mf q 4 3 0 ≤ 11 ∧ only (mw q 5) [(9, 0)] = true ∧
      10 ≤ mf q 5 9 0 ∧ mf q 5 9 0 ≤ 1000 ∧ bit (mw q 4) 31 = true ∧ e.pair.bound = none) q (entered 0 0x0C01 q s)) ∧
  (∃ o q s, Taken 0x0C02 0 q s ∧ (fun q e => q.args.length = 1 ∧ only (mw q 4) [(31, 24)] = true ∧ objNumber (mf q 4 31 30) (mf q 4 29 25) = some o ∧ owns e o = false ∧
      bit (mw q 4) 24 = true) q (entered 0 0x0C02 q s)) ∧
  (∃ o q s, Taken 0x0C02 0 q s ∧ (fun q e => q.args.length = 1 ∧ only (mw q 4) [(31, 24)] = true ∧ objNumber (mf q 4 31 30) (mf q 4 29 25) = some o ∧ owns e o = false ∧
      bit (mw q 4) 24 = false) q (entered 0 0x0C02 q s)) ∧
  (∃ o q s, Taken 0x0C02 0 q s ∧ (fun q e => q.args.length = 1 ∧ only (mw q 4) [(31, 24)] = true ∧ objNumber (mf q 4 31 30) (mf q 4 29 25) = some o ∧ owns e o = true) q (entered 0 0x0C02 q s)) ∧
  (∃ q s, Taken 0x0C03 0 q s ∧ (fun q e => q.args.length = 3 ∧ only (mw q 4) [(0, 0)] = true ∧ e.pair.binds ≠ 8 ∧ fuseBusy e = false ∧ e.dark.run = true) q (entered 0 0x0C03 q s)) ∧
  (∃ q s, Taken 0x0C03 0 q s ∧ (fun q e => q.args.length = 3 ∧ only (mw q 4) [(0, 0)] = true ∧ e.pair.binds = 8) q (entered 0 0x0C03 q s)) ∧
  (∃ q s, Taken 0x0C04 0 q s ∧ (fun q _ => q.args = []) q (entered 0 0x0C04 q s)) ∧
  (∃ o q s, Taken 0x0C05 0 q s ∧ (fun q e => q.args.length = 1 ∧ only (mw q 4) [(31, 25)] = true ∧ objNumber (mf q 4 31 30) (mf q 4 29 25) = some o ∧ (leaseEnds o e).pair.en = true ∧
      owns (leaseEnds o e) o = true) q (entered 0 0x0C05 q s)) ∧
  (∃ o q s, Taken 0x0C05 0 q s ∧ q.args.length = 1 ∧ only (mw q 4) [(31, 25)] = true ∧ objNumber (mf q 4 31 30) (mf q 4 29 25) = some o ∧ ((leaseEnds o (entered 0 0x0C05 q s)).pair.en = false ∨ owns (leaseEnds o (entered 0 0x0C05 q s)) o = false)) ∧
  (∃ q s, Taken 0x0E01 0 q s ∧ (fun q e => q.args.length = 1 ∧ only (mw q 4) [(4, 0), (7, 6)] = true ∧ mf q 4 4 0 < 28 ∧ ((mf q 4 4 0 ≠ 18 ∧ mf q 4 4 0 ≠ 19) ∨ mf q 4 7 6 < 2) ∧
      mf q 4 7 6 ≠ 0 ∧ (portOf e (mf q 4 4 0)).st ≠ .outOfService) q (entered 0 0x0E01 q s)) ∧
  (∃ q s, Taken 0x0E02 0 q s ∧ (fun q _ => q.args.length = 1 ∧ only (mw q 4) [(3, 0), (6, 4), (9, 8)] = true ∧ mf q 4 3 0 < 12 ∧ mf q 4 6 4 ≤ 4 ∧ mf q 4 9 8 = 1) q (entered 0 0x0E02 q s)) ∧
  (∃ q s, Taken 0x0E02 0 q s ∧ (fun q _ => q.args.length = 1 ∧ only (mw q 4) [(3, 0), (6, 4), (9, 8)] = true ∧ mf q 4 3 0 < 12 ∧ mf q 4 6 4 ≤ 4 ∧ mf q 4 9 8 = 2) q (entered 0 0x0E02 q s)) ∧
  (∃ q s, Taken 0x0E03 0 q s ∧ (fun q e => q.args.length = 1 ∧ only (mw q 4) [(4, 0)] = true ∧ isT (mf q 4 4 0) = true ∧ (portOf e (mf q 4 4 0)).cable = false ∧
      (segOf e (mf q 4 4 0)).state ≠ 2 ∧ (segOf e (mf q 4 4 0)).state ≠ 3 ∧ (segOf e (mf q 4 4 0)).state ≠ 4) q (entered 0 0x0E03 q s)) ∧
  (∃ q s, Taken 0x0E04 0 q s ∧ (fun q e => q.args.length = 1 ∧ only (mw q 4) [(1, 0)] = true ∧ mf q 4 1 0 = 2 ∧ e.ciph.test2 = false ∧ e.ciph.test3 = false ∧ bulkRoom e 7 = true) q (entered 0 0x0E04 q s)) ∧
  (∃ q s, Taken 0x0E04 0 q s ∧ (fun q _ => q.args.length = 1 ∧ only (mw q 4) [(1, 0)] = true ∧ mf q 4 1 0 = 0) q (entered 0 0x0E04 q s)) ∧
  (∃ q s, Taken 0x0E04 0 q s ∧ (fun q _ => q.args.length = 1 ∧ only (mw q 4) [(1, 0)] = true ∧ mf q 4 1 0 = 1) q (entered 0 0x0E04 q s)) ∧
  (∃ q s, Taken 0x0E05 0 q s ∧ (fun q e => q.args.length = 1 ∧ only (mw q 4) [(4, 0), (8, 8)] = true ∧ mf q 4 4 0 < 28 ∧ (e.pair.en = false ∨ e.pair.port ≠ mf q 4 4 0)) q (entered 0 0x0E05 q s)) ∧
  (∃ q s, Taken 0x0E05 0 q s ∧ (fun q e => q.args.length = 1 ∧ only (mw q 4) [(4, 0), (8, 8)] = true ∧ mf q 4 4 0 < 28 ∧ e.pair.en = true ∧ e.pair.port = mf q 4 4 0) q (entered 0 0x0E05 q s)) ∧
  (∃ q s, Taken 0x0E06 0 q s ∧ (fun q _ => q.args = []) q (entered 0 0x0E06 q s)) := by
  refine ⟨⟨ask [0x8000000B, 0x3E8], { live with pair := { bound := some (false, 1) }, ports := { port := [(11, { cfg := [0x58800000] })] } }, taken (by decide) rfl, by decide⟩,
    ⟨ask [0x80000004, 0xA], live, taken (by decide) rfl, by decide⟩,
    ⟨39, ask [0x8F000000], { live with pair := { en := true } }, taken (by decide) rfl, by decide⟩,
    ⟨39, ask [0x8E000000], { live with pair := { en := true } }, taken (by decide) rfl, by decide⟩,
    ⟨39, ask [0x8E000000], live, taken (by decide) rfl, by decide⟩,
    ⟨sealedAsk 0x0C03 [1, 0, 5], running, taken_sealed (by decide) (by decide) (by decide) (by decide) (by decide), by decide⟩,
    ⟨sealedAsk 0x0C03 [1, 0, 5], { keyed with pair := { binds := 8 } }, taken_sealed (by decide) (by decide) (by decide) (by decide) (by decide), by decide⟩,
    ⟨ask [], live, taken (by decide) rfl, by decide⟩,
    ⟨39, ask [0x8E000000], { live with pair := { en := true, obj := [(39, { owned := true })] } }, taken (by decide) rfl, by decide⟩,
    ⟨39, ask [0x8E000000], { live with pair := { en := true } }, taken (by decide) rfl, by decide⟩,
    ⟨ask [0xDB], live, taken (by decide) rfl, by decide⟩,
    ⟨ask [0x14B], live, taken (by decide) rfl, by decide⟩,
    ⟨ask [0x20B], live, taken (by decide) rfl, by decide⟩,
    ⟨ask [0x11], live, taken (by decide) rfl, by decide⟩,
    ⟨ask [2], live, taken (by decide) rfl, by decide⟩,
    ⟨ask [0], live, taken (by decide) rfl, by decide⟩,
    ⟨ask [1], live, taken (by decide) rfl, by decide⟩,
    ⟨ask [0x11B], live, taken (by decide) rfl, by decide⟩,
    ⟨ask [0xB], { live with pair := { en := true } }, taken (by decide) rfl, by decide⟩,
    ⟨ask [], live, taken (by decide) rfl, by decide⟩⟩

/-- States and operands that meet the hypotheses of Obligations.BeatAndMappingEventsTakeEffect, each case of it on its own. -/
theorem witness_BeatAndMappingEventsTakeEffect :
  (∃ t s, coreOn s = true ∧ (fun s => (anchorReached s).beat.next ≤ wtNow (anchorReached s)) (acting t s)) ∧
  (∃ t s, coreOn s = true ∧ (fun s => s.beat.lists = true ∧ s.beat.listBusy = true) (acting t s)) ∧
  (∃ a q t s, coreOn s = true ∧ q.step = none ∧ q.jump = none ∧ (fun s => s.time.pend = some (a, q) ∧ a ≤ s.time.now) (acting t s)) ∧
  (∃ a q t s, coreOn s = true ∧ (q.step.isSome = true ∨ q.jump.isSome = true) ∧ (fun s => s.time.pend = some (a, q) ∧ a ≤ s.time.now) (acting t s)) ∧
  (∃ t s, coreOn s = true ∧ (fun s => s.time.corrOn = true ∧ s.time.corr = 0 ∧ (∀ a q, s.time.pend = some (a, q) → q.corr = none) ∧ ∀ q, s.time.wait = some q → q.corr = none) (acting t s)) ∧
  (∃ a b r since t s, coreOn s = true ∧ (fun s => s.net.pair = some (a, b) ∧ residualOf s a = some r ∧ (slotOf4 s a).residualSince = some since ∧ s.net.revert = true ∧ s.time.src = 1 ∧
      s.time.domain ≠ a ∧ since + s.net.holdOff * 1000000000 ≤ s.time.now) (acting t s)) ∧
  (∃ i t s, coreOn s = true ∧ (fun s => (slotOf4 s i).valid = true ∧ lastSyncOf s i + syncTimeout (slotCfg s i) ≤ s.time.now) (acting t s)) ∧
  (∃ (i : _) (port : _) (v : PortInfo) (t : _) (s : _), coreOn s = true ∧ (fun s => tget none s.net.announce (i * 32 + port) = some v ∧ slotEnabled s i = true ∧ v.at0 + announceTimeout (slotCfg s i) ≤ s.time.now) (acting t s)) := by
  refine ⟨⟨250000, live, by decide⟩,
    ⟨0, { live with beat := { lists := true, listBusy := true } }, by decide⟩,
    ⟨5, {}, 5, { live with time := { pend := some (5, {}) } }, by decide⟩,
    ⟨5, { step := some 7 }, 5, { live with time := { pend := some (5, { step := some 7 }) } }, by decide⟩,
    ⟨0, { live with time := { corrOn := true } }, ⟨by decide, by decide, by decide, nofun, nofun⟩⟩,
    ⟨0, 1, 3, 0, 10000000000, { live with time := { src := 1, domain := 1 }, net := { pair := some (0, 1), revert := true, slot := [(0, { valid := true, residualSince := some 0, offsets := List.replicate 8 (3 * 65536) })] } }, by decide⟩,
    ⟨3, 1000000000000, { live with net := { slot := [(3, { valid := true })] } }, by decide⟩,
    ⟨3, 27, { gm := { identity := 9 }, steps := 0, srcClock := 9, srcPort := 1, at0 := 0 }, 1000000000000, { live with net := { slot := [(3, { cfg := [0x40000000, 0, 0, 0, 0, 0] })], announce := [(3 * 32 + 27, some { gm := { identity := 9 }, steps := 0, srcClock := 9, srcPort := 1, at0 := 0 })] } }, by decide⟩⟩

/-- States and operands that meet the hypotheses of Obligations.NetworkTimeEventsTakeEffect, each case of it on its own. -/
theorem witness_NetworkTimeEventsTakeEffect :
  (∃ (port : _) (m : SyncMsg) (t : _) (s : _), coreOn s = true ∧ (fun s => 20 ≤ port ∨ slotByDomain s m.domain = none) (acting t s)) ∧
  (∃ (port : _) (m : SyncMsg) (i : _) (t : _) (s : _), coreOn s = true ∧ m.twoStep = true ∧ (fun s => port < 20 ∧ slotByDomain s m.domain = some i ∧ slavePort s i = some port ∧ portUp s port = true ∧ (portTimeOf s port).asCap = true) (acting t s)) ∧
  (∃ (port : _) (m : SyncMsg) (i : _) (t : _) (s : _), coreOn s = true ∧ m.twoStep = false ∧ (fun s => port < 20 ∧ slotByDomain s m.domain = some i ∧ slavePort s i = some port ∧ portUp s port = true ∧ (portTimeOf s port).asCap = true) (acting t s)) ∧
  (∃ (port : _) (m : SyncMsg) (i : _) (h : HeldSync) (t : _) (s : _), coreOn s = true ∧ (fun s => port < 20 ∧ slotByDomain s m.domain = some i ∧ slavePort s i = some port ∧ portUp s port = true ∧ (portTimeOf s port).asCap = true ∧
      (slotOf4 s i).held = [h] ∧ h.port = port ∧ h.msg.seqId = m.seqId ∧ s.time.now ≤ (h.stamp / 65536).toNat + 100000000) (acting t s)) ∧
  (∃ (i : _) (h : HeldSync) (t : _) (s : _), coreOn s = true ∧ (fun s => (slotOf4 s i).held = [h] ∧ (h.stamp / 65536).toNat + 100000000 ≤ s.time.now) (acting t s)) ∧
  (∃ i t s, coreOn s = true ∧ (fun s => isGrandmaster s i = true) (acting t s)) ∧
  (∃ (port : _) (m : AnnounceMsg) (t : _) (s : _), coreOn s = true ∧ (fun s => 20 ≤ port ∨ slotByDomain s m.domain = none) (acting t s)) ∧
  (∃ (port : _) (m : AnnounceMsg) (i : _) (t : _) (s : _), coreOn s = true ∧ (fun s => port < 20 ∧ slotByDomain s m.domain = some i ∧ bmcaPort s port = true ∧ fwRuns s = true ∧
      announceFits m ⟨m.gm, m.stepsRemoved, m.srcClock, m.srcPort, m.path, s.time.now⟩ (tget none s.net.announce (i * 32 + port)) = true) (acting t s)) ∧
  (∃ i port t s, coreOn s = true ∧ (fun s => roleOf s i port = 2 ∧ intervalDue s.time.now (tget none s.net.announceTx (i * 32 + port))
      (logInterval ((tget none s.net.announceAsk (i * 32 + port)).getD (slotAnnLog (slotCfg s i)))) = true) (acting t s)) ∧
  (∃ port t s, coreOn s = true ∧ (fun s => port < 20 ∧ liveSlots s ≠ [] ∧ portUp s port = true ∧ fwRuns s = true ∧ intervalDue s.time.now (portTimeOf s port).lastReq
      (logInterval ((portTimeOf s port).pdelayAsk.getD (ptPdelayLog (portTimeCfg s port)))) = true) (acting t s)) ∧
  (∃ (port : _) (m : PdelayReq) (t : _) (s : _), coreOn s = true ∧ (fun s => port < 20 ∧ liveSlots s ≠ [] ∧ portUp s port = true ∧ (m.cmlds = true ∨ m.domain = 0)) (acting t s)) ∧
  (∃ (port : _) (m : PdelayResp) (t1 : _) (t : _) (s : _), coreOn s = true ∧ (fun s => port < 20 ∧ fwRuns s = true ∧ (portTimeOf s port).responder = none ∧ (portTimeOf s port).reqT1 = some t1 ∧ m.seqId = (portTimeOf s port).reqSeq) (acting t s)) ∧
  (∃ (port : _) (m : PdelayResp) (r : _) (t : _) (s : _), coreOn s = true ∧ (fun s => port < 20 ∧ fwRuns s = true ∧ (portTimeOf s port).responder = some (m.seqId, r) ∧ r ≠ m.responder) (acting t s)) := by
  refine ⟨⟨20, { domain := 0, seqId := 0 }, 0, live, by decide⟩,
    ⟨5, { domain := 5, seqId := 1, twoStep := true }, 1, 0, relaying {} {}, by decide⟩,
    ⟨5, { domain := 5, seqId := 1 }, 1, 0, relaying {} {}, by decide⟩,
    ⟨5, { domain := 5, seqId := 1 }, 1, { port := 5, stamp := 196608, msg := { domain := 5, seqId := 1, twoStep := true }, delay := 0, nrr := 0 }, 100000003, relaying { held := [{ port := 5, stamp := 196608, msg := { domain := 5, seqId := 1, twoStep := true }, delay := 0, nrr := 0 }] } {}, by decide⟩,
    ⟨1, { port := 5, stamp := 196608, msg := { domain := 5, seqId := 1, twoStep := true }, delay := 0, nrr := 0 }, 100000003, relaying { held := [{ port := 5, stamp := 196608, msg := { domain := 5, seqId := 1, twoStep := true }, delay := 0, nrr := 0 }] } {}, by decide⟩,
    ⟨0, 0, { live with net := { slot := [(0, { cfg := [0x80400000, 0, 0, 0, 0, 0] })] } }, by decide⟩,
    ⟨27, { domain := 0, gm := { identity := 9 }, stepsRemoved := 0, srcClock := 9 }, 0, live, by decide⟩,
    ⟨5, { domain := 5, gm := { identity := 9 }, stepsRemoved := 0, srcClock := ownClock + 1 }, 1, 0, relaying {} {}, ⟨by decide, by decide, by decide, by decide, by decide, by simp [announceFits, show (acting 0 (relaying {} {})).net.announce = [] from rfl, tget]⟩⟩,
    ⟨1, 6, 0, relaying {} {}, by decide⟩,
    ⟨5, 0, relaying {} {}, by decide⟩,
    ⟨5, { seqId := 3 }, 0, relaying {} {}, by decide⟩,
    ⟨5, { seqId := 3, responder := 1, t2 := 0, t3 := 0 }, 4, 0, relaying {} { reqT1 := some 4, reqSeq := 3 }, by decide⟩,
    ⟨5, { seqId := 3, responder := 1, t2 := 0, t3 := 0 }, 2, 0, relaying {} { responder := some (3, 2) }, by decide⟩⟩

/-- States and operands that meet the hypotheses of Obligations.PairTimeAndPinEventsTakeEffect, each case of it on its own. -/
theorem witness_PairTimeAndPinEventsTakeEffect :
  (∃ w0 w1 w2 t s, coreOn s = true ∧ (fun s => s.ptime.role = 2 ∧ bits w2 7 0 ≠ codeCrc w0 w1 w2) (acting t s)) ∧
  (∃ w0 w1 w2 t s, coreOn s = true ∧ (fun s => s.ptime.role = 2 ∧ bits w2 7 0 = codeCrc w0 w1 w2 ∧ bits w2 15 13 ≠ s.beat.k) (acting t s)) ∧
  (∃ w0 w1 w2 t s, coreOn s = true ∧ (fun s => s.ptime.role = 2 ∧ bits w2 7 0 = codeCrc w0 w1 w2 ∧ bits w2 15 13 = s.beat.k ∧ s.time.src ≠ 3 ∧
      ((wtOfStamp s (s.time.now * 65536 - (s.ptime.delay * 65536 / 1000 : Nat)) - codeInstant w0 w1 w2).natAbs : Int) ≤ 100 * 65536 ∧
      (s.ptime.lock = true ∨ s.ptime.good < 7)) (acting t s)) ∧
  (∃ t s, coreOn s = true ∧ (fun s => s.ptime.role = 2 ∧ pulseOverdue s = true) (acting t s)) ∧
  (∃ n w a t s, coreOn s = true ∧ (fun s0 =>
      let s := anchorReached s0
      n < 32 ∧ (pinOf s n).pulse = none ∧ (pinOf s n).arming = some a ∧ nextEdge (pinOf s n) = some w ∧ w ≤ wtNow s) (acting t s)) ∧
  (∃ n e pol a t s, coreOn s = true ∧ (fun s => n < 32 ∧ (pinOf s n).pulse = some (e, pol) ∧ e ≤ s.time.now ∧ (pinOf s n).take = false ∧ (pinOf s n).arming = some a ∧
      armingDone a = false ∧ a.stop = false) (acting t s)) ∧
  (∃ n e pol a t s, coreOn s = true ∧ (fun s => n < 32 ∧ (pinOf s n).pulse = some (e, pol) ∧ e ≤ s.time.now ∧ (pinOf s n).take = false ∧ (pinOf s n).arming = some a ∧
      armingDone a = true) (acting t s)) ∧
  (∃ n rising width c t s, coreOn s = true ∧ (fun s => n < 32 ∧ 4 ≤ (pinOf s n).mode ∧ edgeQualifies (pinOf s n).mode rising = true ∧ (pinOf s n).glitch ≠ some s.time.now ∧ 4 ≤ width ∧ (pinOf s n).lastCap = some c ∧ s.time.now < c + 16) (acting t s)) ∧
  (∃ n rising width t s, coreOn s = true ∧ (fun s => n < 32 ∧ 4 ≤ (pinOf s n).mode ∧ edgeQualifies (pinOf s n).mode rising = true ∧ (pinOf s n).glitch ≠ some s.time.now ∧ 4 ≤ width ∧ ∀ c, (pinOf s n).lastCap = some c → c + 16 ≤ s.time.now) (acting t s)) := by
  refine ⟨⟨0, 0, 1, 0, { live with ptime := { role := 2 } }, by decide +kernel⟩,
    ⟨0, 0, 0, 0, { live with ptime := { role := 2 } }, by decide +kernel⟩,
    ⟨0, 0, word (0x6000 + codeCrc 0 0 0x6000), 0, { live with ptime := { role := 2 } }, by decide +kernel⟩,
    ⟨0, { live with ptime := { role := 2 } }, by decide⟩,
    ⟨31, 0, { start := 0, period := 0, width := 8, count := 1, pol := true }, 0, { live with pins := [(31, { arming := some { start := 0, period := 0, width := 8, count := 1, pol := true } })] }, by decide⟩,
    ⟨31, 5, true, { start := 0, period := 0, width := 8, count := 1, pol := true }, 5, { live with pins := [(31, { pulse := some (5, true), arming := some { start := 0, period := 0, width := 8, count := 1, pol := true } })] }, by decide⟩,
    ⟨31, 5, true, { start := 0, period := 0, width := 8, count := 1, pol := true, issued := 1 }, 5, { live with pins := [(31, { pulse := some (5, true), arming := some { start := 0, period := 0, width := 8, count := 1, pol := true, issued := 1 } })] }, by decide⟩,
    ⟨31, true, 4, 0, 15, { live with pins := [(31, { mode := 6, lastCap := some 0 })] }, by decide⟩,
    ⟨31, true, 4, 0, { live with pins := [(31, { mode := 4 })] }, ⟨by decide, by decide, by decide, by decide, by decide, by decide, nofun⟩⟩⟩

/-- States and operands that meet the hypotheses of Obligations.PortEventsTakeEffect, each case of it on its own. -/
theorem witness_PortEventsTakeEffect :
  (∃ n t s, coreOn s = true ∧ (fun s0 =>
      let s := boundaryFirst s0
      n < 28 ∧ (portOf s n).cmdAt ≠ some s.time.now ∧ holdEndsNow s n = false ∧ prMode (portRec s n) ≠ 0 ∧ (portOf s n).st ≠ .up) (acting t s)) ∧
  (∃ n h t s, coreOn s = true ∧ (fun s0 =>
      let s := boundaryFirst s0
      n < 28 ∧ (portOf s n).cmdAt ≠ some s.time.now ∧ holdEndsNow s n = false ∧ prMode (portRec s n) ≠ 0 ∧ (portOf s n).st = .up ∧ (portOf s n).hold = some h) (acting t s)) ∧
  (∃ n t s, coreOn s = true ∧ (fun s0 =>
      let s := boundaryFirst s0
      n < 28 ∧ (portOf s n).cmdAt ≠ some s.time.now ∧ (portOf s n).st = .up ∧ isS n = false ∧ prHold (portRec s n) = 0) (acting t s)) ∧
  (∃ n t s, coreOn s = true ∧ (fun s0 =>
      let s := noteMove n .lost (boundaryFirst s0)
      n < 28 ∧ (portOf s n).cmdAt ≠ some s.time.now ∧ isS n = true ∧
      upReady (setPlca n false (setPort n { portOf s n with cond := false } s)) n = true) (acting t s)) ∧
  (∃ n t s, coreOn s = true ∧ (fun s0 =>
      let s := noteMove n .lost (boundaryFirst s0)
      n < 28 ∧ (portOf s n).cmdAt ≠ some s.time.now ∧ isS n = true ∧ (portOf s n).st = .up ∧ prHold (portRec s n) = 0 ∧
      upReady (setPlca n false (setPort n { portOf s n with cond := false } s)) n = false) (acting t s)) ∧
  (∃ n t s, coreOn s = true ∧ (fun s0 =>
      let s := boundaryFirst s0
      n < 28 ∧ (portOf s n).cmdAt ≠ some s.time.now ∧ (portOf s n).st = .up ∧ isS n = false ∧ prHold (portRec s n) ≠ 0 ∧ (portOf s n).hold = none) (acting t s)) ∧
  (∃ n t s, coreOn s = true ∧ (fun s0 =>
      let s := boundaryFirst s0
      n < 28 ∧ (portOf s n).cmdAt ≠ some s.time.now ∧ (portOf s n).st = .training ∧ isT n = false ∧ isS n = false) (acting t s)) ∧
  (∃ n st len t s, coreOn s = true ∧ (fun s => (portOf (boundaryFirst s) n).hold = some (st, len) ∧ st + len ≤ (boundaryFirst s).time.now) (acting t s)) ∧
  (∃ t s, coreOn s = true ∧ (fun _ => True) (acting t s)) ∧
  (∃ t s, coreOn s = true ∧ (fun _ => True) (acting t s)) ∧
  (∃ n speed t s, coreOn s = true ∧ (fun s0 =>
      let s := boundaryFirst s0
      n < 28 ∧ (portOf s n).cmdAt ≠ some s.time.now ∧ holdEndsNow s n = false ∧ (portOf s n).st = .up ∧ inbandMode (prMode (portRec s n)) = true ∧
      prAn (portRec s n) = true ∧ (portOf s n).speed ≠ speed) (acting t s)) ∧
  (∃ n lo hi t s, coreOn s = true ∧ (fun s => n < 12 ∧ prDlc (portRec s n) = true ∧ prMode (portRec s n) ≠ 0 ∧ (portOf s n).dlcRange = some (lo, hi)) (acting t s)) ∧
  (∃ n t s, coreOn s = true ∧ (fun s => isS n = true ∧ plcaEn (portRec s n) = true ∧ plcaCoord (portRec s n) = true ∧ portUp s n = true ∧ plcaHeld s n = false ∧ (portOf s n).loop = 0 ∧
      plcaCycleOver s n = true) (acting t s)) ∧
  (∃ n fallback t s, coreOn s = true ∧ (fun s0 =>
      let s := boundaryFirst s0
      isS n = true ∧ n < 28 ∧ plcaEn (portRec s n) = true ∧ plcaCoord (portRec s n) = false ∧ (portOf s n).plcaAct = true ∧
      (portOf s n).beaconAt + beaconLimit (portRec s n) * 1000000 ≤ s.time.now ∧ (portOf s n).cmdAt ≠ some s.time.now ∧
      plcaFallback (portRec s n) = fallback ∧ (fallback = false → (portOf s n).st = .up ∧ prHold (portRec s n) = 0)) (acting t s)) ∧
  (∃ n t s, coreOn s = true ∧ (fun s0 =>
      let s := boundaryFirst s0
      n < 28 ∧ (portOf s n).cmdAt ≠ some s.time.now ∧ holdEndsNow s n = false ∧ isS n = true ∧ plcaEn (portRec s n) = true ∧ plcaCoord (portRec s n) = false ∧
      prMode (portRec s n) ≠ 0 ∧ (portOf s n).st ≠ .up) (acting t s)) ∧
  (∃ n t s, coreOn s = true ∧ (fun s => n < 20 ∧ prMerge (portRec s n) = true ∧ portUp s n = true) (acting t s)) ∧
  (∃ n t s, coreOn s = true ∧ (fun s => 12 ≤ n ∧ n < 18 ∧ (portOf s n).st = .training) (acting t s)) ∧
  (∃ n t s, coreOn s = true ∧ n < 28 ∧ (fun _ => True) (acting t s)) ∧
  (∃ n t s, coreOn s = true ∧ n < 28 ∧ (fun _ => True) (acting t s)) ∧
  (∃ n t s, coreOn s = true ∧ n < 28 ∧ (fun _ => True) (acting t s)) ∧
  (∃ (n : _) (k : PcsErr) (t : _) (s : _), coreOn s = true ∧ n < 28 ∧ (k = .localFault ∨ k = .remoteFault ∨ k = .highBer) ∧ (fun _ => True) (acting t s)) := by
  refine ⟨⟨27, 0, withPort 27 { cfg := [0x5800000], st := .down }, by decide⟩,
    ⟨27, (0, 5), 0, withPort 27 { cfg := [0x5800000], st := .up, hold := some (0, 5) }, by decide⟩,
    ⟨5, 0, withPort 5 { cfg := [0x800000], st := .up }, by decide⟩,
    ⟨27, 0, withPort 27 { cfg := [0x5800000, 0x80000004], st := .up }, by decide⟩,
    ⟨27, 0, withPort 27 { cfg := [0x5800000], st := .up }, by decide⟩,
    ⟨5, 0, withPort 5 { cfg := [0x80007F], st := .up }, by decide⟩,
    ⟨5, 0, withPort 5 { cfg := [0x800000], st := .training }, by decide⟩,
    ⟨27, 1, 5, 6, withPort 27 { hold := some (1, 5) }, by decide⟩,
    ⟨0, live, by decide⟩,
    ⟨0, live, by decide⟩,
    ⟨11, 5, 0, withPort 11 { cfg := [0x1880000], st := .up }, by decide⟩,
    ⟨11, 0, 5, 0, withPort 11 { cfg := [0x2808000], dlcRange := some (0, 5) }, by decide⟩,
    ⟨27, 0, withPort 27 { cfg := [0x5800000, 0xC0000000], st := .up }, by decide⟩,
    ⟨27, true, 1000000000, withPort 27 { cfg := [0x5800000, 0x80000004], plcaAct := true }, by decide⟩,
    ⟨27, 0, withPort 27 { cfg := [0x5800000, 0x80000000] }, by decide⟩,
    ⟨19, 0, withPort 19 { cfg := [0x4000], st := .up }, by decide⟩,
    ⟨12, 0, withPort 12 { st := .training }, by decide⟩,
    ⟨27, 0, live, by decide⟩,
    ⟨27, 0, live, by decide⟩,
    ⟨27, 0, live, by decide⟩,
    ⟨0, .localFault, 0, live, by decide⟩⟩

/-- States and operands that meet the hypotheses of Obligations.FrameEventsTakeEffect, each case of it on its own. -/
theorem witness_FrameEventsTakeEffect :
  (∃ n sof t s, coreOn s = true ∧ (fun s => n < 28 ∧ (sof = true → secyOn (ringsGive (boundaryFirst s)) n = false) ∧ portUp (ringsGive (boundaryFirst s)) n = true) (acting t s)) ∧
  (∃ (n : _) (b : Bytes) (rx : RxEnd) (t : _) (s : _), coreOn s = true ∧ (fun s0 =>
      let s := ringsGive (boundaryFirst s0)
      n < 28 ∧ flag (secyAt s n (s.time.now - rx.held)) 0 26 = true ∧ portUp s n = true ∧ (b.length < 64 ∨ 9248 < b.length ∨ rx.fcsOk = false)) (acting t s)) ∧
  (∃ (n : _) (b : Bytes) (rx : RxEnd) (t : _) (s : _), coreOn s = true ∧ (fun s0 =>
      let s := ringsGive (boundaryFirst s0)
      n < 28 ∧ flag (secyAt s n (s.time.now - rx.held)) 0 26 = true ∧ portUp s n = true ∧ 64 ≤ b.length ∧ b.length ≤ 9248 ∧ rx.fcsOk = true ∧
        tget 0 (plcaHeard n (s.time.now - rx.held) s).ciph.scrub n ≤ (plcaHeard n (s.time.now - rx.held) s).time.now) (acting t s)) ∧
  (∃ (n : _) (b : Bytes) (rx : RxEnd) (t : _) (s : _), coreOn s = true ∧ (fun s0 =>
      let s := ringsGive (boundaryFirst s0)
      n < 28 ∧ flag (secyAt s n (s.time.now - rx.held)) 0 26 = true ∧ portUp s n = true ∧ 64 ≤ b.length ∧ b.length ≤ 9248 ∧ rx.fcsOk = true ∧
        (plcaHeard n (s.time.now - rx.held) s).time.now < tget 0 (plcaHeard n (s.time.now - rx.held) s).ciph.scrub n) (acting t s)) ∧
  (∃ f v t s, coreOn s = true ∧ (fun s0 =>
      let s := ringsGive (boundaryFirst s0)
      frameOf s f = some v ∧ v.gone = false ∧ v.waits = false ∧ v.classified = false ∧ v.ready ≤ s.time.now ∧ (v.whole = true ∨ 256 ≤ v.bytes.length) ∧
      earlierOf s f v.port (fun w => !w.classified && !w.gone) = false ∧ outOfTurn s v.port = false) (acting t s)) ∧
  (∃ (f : _) (v : Frame) (t : _) (s : _), coreOn s = true ∧ (fun s0 =>
      let s := ringsGive (boundaryFirst s0)
      frameOf s f = some v ∧ v.gone = false ∧ v.waits = false ∧ v.classified = false ∧ v.ready ≤ s.time.now ∧ (v.whole = true ∨ 256 ≤ v.bytes.length) ∧
      earlierOf s f v.port (fun w => !w.classified && !w.gone) = false ∧ outOfTurn s v.port = true ∧ (classify v (refillNow s)).1.handle.isSome = true) (acting t s)) ∧
  (∃ f v t s, coreOn s = true ∧ (fun s0 =>
      let s := boundaryFirst s0
      frameOf s f = some v ∧ v.classified = true ∧ v.whole = true ∧ v.refs = 0 ∧ earlierOf s f v.port (fun w => w.refs = 0 && !w.gone) = false) (acting t s)) ∧
  (∃ p d t s, coreOn s = true ∧ (fun s => p < 31 ∧ p ≠ 28 ∧
      let e := txEnd p (refillNow (settleRefused p (boundaryFirst s)))
      portUp e p = true ∧ fwdOff e = false ∧ mayTransmit e p = true ∧ (egressOf e p).sending = some d ∧ d.express = false ∧
      (choose p true (classes.filter (fun c => preemptedClass e p ≠ some c)) e).1.isSome = true) (acting t s)) ∧
  (∃ p c t s, coreOn s = true ∧ (fun s => p < 31 ∧ p ≠ 28 ∧
      let e := txEnd p (refillNow (settleRefused p (boundaryFirst s)))
      portUp e p = true ∧ fwdOff e = false ∧ mayTransmit e p = true ∧ (egressOf e p).sending = none ∧ (egressOf e p).free ≤ e.time.now ∧
      (choose p true (classes.filter (fun c => preemptedClass e p ≠ some c)) e).1 = some c) (acting t s)) ∧
  (∃ p d left t s, coreOn s = true ∧ (fun s => p < 31 ∧ p ≠ 28 ∧
      let e := txEnd p (refillNow (settleRefused p (boundaryFirst s)))
      let u := (choose p true (classes.filter (fun c => preemptedClass e p ≠ some c)) e).2
      portUp e p = true ∧ fwdOff e = false ∧ mayTransmit e p = true ∧ (egressOf e p).sending = none ∧ (egressOf e p).free ≤ e.time.now ∧
      (choose p true (classes.filter (fun c => preemptedClass e p ≠ some c)) e).1 = none ∧ holdStands u p = false ∧
      (egressOf u p).preempted = some (d, left) ∧ gateOpenAt u p d.cls (wtNow u) = true) (acting t s)) ∧
  (∃ p c t s, coreOn s = true ∧ (fun s => p < 31 ∧ p ≠ 28 ∧
      let e := txEnd p (refillNow (settleRefused p (boundaryFirst s)))
      let u := (choose p true (classes.filter (fun c => preemptedClass e p ≠ some c)) e).2
      portUp e p = true ∧ fwdOff e = false ∧ mayTransmit e p = true ∧ (egressOf e p).sending = none ∧ (egressOf e p).free ≤ e.time.now ∧
      (choose p true (classes.filter (fun c => preemptedClass e p ≠ some c)) e).1 = none ∧ holdStands u p = false ∧
      (egressOf u p).preempted = none ∧ (choose p false classes u).1 = some c) (acting t s)) ∧
  (∃ p d t s, coreOn s = true ∧ (fun s => (egressOf (txRelease p s) p).sending = some d ∧ d.done ≤ (txRelease p s).time.now) (acting t s)) ∧
  (∃ p st t s, coreOn s = true ∧ (fun s => (egressOf s p).gates.pending = some st ∧ st ≤ wtNow s) (acting t s)) ∧
  (∃ p t s, coreOn s = true ∧ (fun s => (egressOf s p).gates.pending = none ∧ srGateEn (schedOf s p) = true ∧ gateOpAt s p s.time.now = 2) (acting t s)) ∧
  (∃ p t s, coreOn s = true ∧ (fun s => (egressOf s p).gates.pending = none ∧ srGateEn (schedOf s p) = true ∧ gateOpAt s p s.time.now = 1 ∧
      (egressOf s p).sending.all (fun d => d.express || decide (d.done ≤ s.time.now)) = true ∧ (egressOf s p).cutEnd ≤ s.time.now) (acting t s)) ∧
  (∃ p c r q n t s, coreOn s = true ∧ (fun s => c < 8 ∧ queueOf (egressOf s p) c = r :: q ∧ expressClass s p c = true ∧ srGateEn (schedOf s p) = true ∧
      longestWindow (gateBank (egressOf s p).gates (egressOf s p).gates.force) c = some n ∧ n < wireTime s p r ∧
      tget 0 (egressOf s p).headAt c + (gateBank (egressOf s p).gates (egressOf s p).gates.force).cycle ≤ s.time.now) (acting t s)) ∧
  (∃ p t s, coreOn s = true ∧ (fun s => srGateEn (schedOf s p) = true ∧ opAhead s p (fld (schedOf s p) 1 31 16) = 1 ∧ (portOf s p).mergeAct = true) (acting t s)) ∧
  (∃ p t s, coreOn s = true ∧ (fun s => srGateEn (schedOf s p) = true ∧ opAhead s p (fld (schedOf s p) 1 15 0) = 2 ∧ (portOf s p).mergeAct = true) (acting t s)) ∧
  (∃ p c r q w t s, coreOn s = true ∧ (fun s => c < 8 ∧ queueOf (egressOf s p) c = r :: q ∧ r.launch = some w ∧ heldForLaunch s p c r = false) (acting t s)) := by
  refine ⟨⟨27, true, 0, withPort 27 { st := .up }, by decide⟩,
    ⟨27, [], { fcsOk := false }, 0, { withPort 27 { st := .up } with ciph := { live.ciph with secy := [(27, { rec0 := [0x04000000] })] } }, by decide⟩,
    ⟨27, List.replicate 64 0, { fcsOk := true }, 0, { withPort 27 { st := .up } with ciph := { live.ciph with secy := [(27, { rec0 := [0x04000000] })] } }, by decide⟩,
    ⟨27, List.replicate 64 0, { fcsOk := true }, 0, { withPort 27 { st := .up } with ciph := { live.ciph with secy := [(27, { rec0 := [0x04000000] })], scrub := [(27, 5)] } }, by decide⟩,
    ⟨1, { port := 5, whole := true }, 0, { live with buf := { frames := [(1, some { port := 5, whole := true })] } }, by decide⟩,
    ⟨1, { port := 5, whole := true, bytes := List.replicate 64 0 }, 0, turned, by decide +kernel⟩,
    ⟨1, { port := 5, whole := true, classified := true }, 0, { live with buf := { frames := [(1, some { port := 5, whole := true, classified := true })] } }, by decide⟩,
    ⟨5, { rep := { admitted := 0, len := 64 }, cls := 3, express := false, start := 0, done := 1000 }, 0, sendingPort 5 { sched := [0x200000, 0, 0], queue := [(7, [{ admitted := 0, len := 64 }])], sending := some { rep := { admitted := 0, len := 64 }, cls := 3, express := false, start := 0, done := 1000 } } { mergeAct := true }, by decide⟩,
    ⟨27, 7, 0, sendingPort 27 { queue := [(7, [{ admitted := 0, len := 64 }])] } {}, by decide⟩,
    ⟨5, { rep := { admitted := 0, len := 64 }, cls := 3, express := false, start := 0, done := 1000 }, 64, 0, sendingPort 5 { preempted := some ({ rep := { admitted := 0, len := 64 }, cls := 3, express := false, start := 0, done := 1000 }, 64) } { mergeAct := true }, by decide⟩,
    ⟨5, 3, 0, sendingPort 5 { sched := [0x3FC0000, 0, 0], queue := [(3, [{ admitted := 0, len := 64 }])] } { mergeAct := true }, by decide⟩,
    ⟨5, { rep := { admitted := 0, len := 64 }, cls := 0, express := true, start := 0, done := 5, released := true }, 5, sendingPort 5 { sending := some { rep := { admitted := 0, len := 64 }, cls := 0, express := true, start := 0, done := 5 } } {}, by decide⟩,
    ⟨5, 0, 0, sendingPort 5 { gates := { pending := some 0 } } {}, by decide⟩,
    ⟨5, 0, sendingPort 5 { sched := [0x4000000, 0, 0], gates := { bank0 := { init := 255, cycle := 1000, entries := [(0xFF800000, 1000)] } } } {}, by decide⟩,
    ⟨5, 0, sendingPort 5 { sched := [0x4000000, 0, 0], gates := { bank0 := { init := 255, cycle := 1000, entries := [(0xFF400000, 1000)] } } } {}, by decide⟩,
    ⟨5, 7, { admitted := 0, len := 64 }, [], 0, 1000, sendingPort 5 { sched := [0x4000000, 0, 0], queue := [(7, [{ admitted := 0, len := 64 }])], gates := { bank0 := { init := 0, cycle := 1000 } } } {}, by decide⟩,
    ⟨5, 0, sendingPort 5 { sched := [0x4000000, 0, 0], gates := { bank0 := { init := 255, cycle := 1000, entries := [(0xFF400000, 1000)] } } } { mergeAct := true }, by decide⟩,
    ⟨5, 0, sendingPort 5 { sched := [0x4000000, 0, 0], gates := { bank0 := { init := 255, cycle := 1000, entries := [(0xFF800000, 1000)] } } } { mergeAct := true }, by decide⟩,
    ⟨5, 7, { admitted := 0, len := 64, launch := some 0 }, [], 0, 0, sendingPort 5 { queue := [(7, [{ admitted := 0, len := 64, launch := some 0 }])] } {}, by decide⟩⟩

/-- States and operands that meet the hypotheses of Obligations.TickAndStreamEventsTakeEffect, each case of it on its own. -/
theorem witness_TickAndStreamEventsTakeEffect :
  (∃ t s, coreOn s = true ∧ (fun s => s.fwd.ageing ≠ 0 ∧ s.fwd.sweepAt + s.fwd.ageing * 1000000000 / 3 ≤ s.time.now) (acting t s)) ∧
  (∃ t s, coreOn s = true ∧ (fun s => s.time.now % 128 = 0 ∧ s.str.tickAt ≠ some s.time.now) (acting t s)) ∧
  (∃ i l t s, coreOn s = true ∧ (fun s => (sgateOf s i).pending = some l ∧ l.start ≤ wtNow s) (acting t s)) ∧
  (∃ i t s, coreOn s = true ∧ (fun s => (sgateOf s i).pending = none ∧ (sgateOf s i).octets.1 ≠ (sgateAt s (sgateOf s i) (wtNow s)).2.2.2.2) (acting t s)) ∧
  (∃ i st t s, coreOn s = true ∧ (fun s => (rcvOf s i).timer = some st ∧ flag (rcvOf s i).rec0 0 31 = true ∧ st + fld (rcvOf s i).rec0 1 31 16 * 1000000 ≤ s.time.now) (acting t s)) ∧
  (∃ i t s, coreOn s = true ∧ (fun s => flag (rcvOf s i).rec0 0 31 = true ∧ flag (rcvOf s i).rec0 0 26 = true ∧
      (rcvOf s i).testAt + fld (rcvOf s i).rec0 2 31 16 * 1000000 ≤ s.time.now ∧
      fld (rcvOf s i).rec0 1 15 0 < (((fld (rcvOf s i).rec0 0 18 15 : Int) - 1) * (rcvOf s i).passedP - (rcvOf s i).dupD).natAbs) (acting t s)) ∧
  (∃ i t s, coreOn s = true ∧ (fun s => flag (rcvOf s i).rec0 0 31 = true ∧ flag (rcvOf s i).rec0 0 26 = true ∧
      (rcvOf s i).testAt + fld (rcvOf s i).rec0 2 31 16 * 1000000 ≤ s.time.now ∧
      (((fld (rcvOf s i).rec0 0 18 15 : Int) - 1) * (rcvOf s i).passedP - (rcvOf s i).dupD).natAbs ≤ fld (rcvOf s i).rec0 1 15 0) (acting t s)) ∧
  (∃ i t s, coreOn s = true ∧ (fun s => flag (rcvOf s i).rec0 0 31 = true ∧ flag (rcvOf s i).rec0 0 26 = true ∧
      (rcvOf s i).resetAt + fld (rcvOf s i).rec0 2 15 0 * 1000000 ≤ s.time.now) (acting t s)) ∧
  (∃ t s, coreOn s = true ∧ (fun s => s.fw.sweepAt + 1000000000 ≤ s.time.now ∧ (fwCycle s).touched = []) (acting t s)) ∧
  (∃ a b e t s, coreOn s = true ∧ (fun s => (a, b, e) ∈ s.fw.bypass ∧ e ≤ s.time.now) (acting t s)) := by
  refine ⟨⟨100000000000, live, by decide⟩,
    ⟨128, live, by decide⟩,
    ⟨2047, { initOpen := true, initIpv := none, off := 0, len := 0, cycle := 1000, start := 0 }, 0, { live with str := { gate := [(2047, { pending := some { initOpen := true, initIpv := none, off := 0, len := 0, cycle := 1000, start := 0 } })] } }, by decide⟩,
    ⟨2047, 0, { live with str := { gate := [(2047, { octets := (5, 1) })] } }, by decide⟩,
    ⟨1023, 0, 1000000000, { live with str := { rcv := [(1023, { rec0 := [0x80000000, 0x00010000], timer := some 0 })] } }, by decide⟩,
    ⟨1023, 100000000000, { live with str := { rcv := [(1023, { rec0 := [0x84010000, 0, 0], passedP := 9 })] } }, by decide⟩,
    ⟨1023, 100000000000, { live with str := { rcv := [(1023, { rec0 := [0x84010000, 0, 0] })] } }, by decide⟩,
    ⟨1023, 100000000000, { live with str := { rcv := [(1023, { rec0 := [0x84000000, 0, 0] })] } }, by decide⟩,
    ⟨1000000000, live, by decide⟩,
    ⟨31, 30, 5, 5, { live with fw := { bypass := [(31, 30, 5)] } }, by decide⟩⟩

/-- States and operands that meet the hypotheses of Obligations.WakeAndStandbyEventsTakeEffect, each case of it on its own. -/
theorem witness_WakeAndStandbyEventsTakeEffect :
  (∃ i t s, i < 32 ∧ (fun s0 =>
      let s := if coreOn s0 = true then windowEnds i s0 else s0
      wsEnabled (sourceOf s i) = true ∧ watched s i = true ∧ (sourceOf s i).maskEnd.isSome = true) (acting t s)) ∧
  (∃ i t s, i < 32 ∧ (fun s0 =>
      let s := windowEnds i s0
      coreOn s0 = true ∧ wsEnabled (sourceOf s i) = true ∧ watched s i = true ∧ (sourceOf s i).maskEnd = none ∧ coreOn s = true ∧ s.nm.entry = none ∧
      ∀ g ∈ maskBits (wsMask (sourceOf s i)) 60, segManaged (segOf s g) = false ∨ (segOf s g).state ≠ 3) (acting t s)) ∧
  (∃ i level start t s, i < 32 ∧ (fun s => wsEnabled (sourceOf s i) = true ∧ watched s i = true ∧ (sourceOf s i).maskEnd = none ∧ coreOn s = false ∧ s.nm.asleep = some (level, start) ∧
      s.nm.raceHold = none ∧ s.nm.wakeOut = false) (acting t s)) ∧
  (∃ level start t s, (fun s => s.nm.asleep = some (level, start) ∧ (regGet s (rCROCUS 0x04)).toNat ≠ 0 ∧
      start * 32768 + (regGet s (rCROCUS 0x04)).toNat * 1000000000 ≤ s.time.now * 32768) (acting t s)) ∧
  (∃ t s, (fun s => s.nm.source.any (fun e => wsEnabled e.2 && wsIgn e.2) = true ∧ s.nm.ignBack ≠ s.time.now + 1) (acting t s)) ∧
  (∃ t s, (fun s => s.nm.source.any (fun e => wsEnabled e.2 && wsIgn e.2) = true) (acting t s)) ∧
  (∃ h t s, coreOn s = true ∧ (fun s => s.nm.hint = some h ∧ s.nm.logging = false ∧ h + nmOffenderMin s ≤ s.time.now) (acting t s)) ∧
  (∃ e t s, coreOn s = true ∧ (fun s => s.nm.entry = some e ∧ e.step = 2 ∧ s.nm.entryWas.map (·.1) ≠ some s.time.now) (acting t s)) ∧
  (∃ e t s, coreOn s = true ∧ (fun s => s.nm.entry = some e ∧ 1 ≤ e.step ∧ e.since + 20000000 ≤ s.time.now ∧
      s.nm.entryWas.map (·.1) ≠ some s.time.now) (acting t s)) ∧
  (∃ h level start t s, (fun s => s.nm.raceHold = some h ∧ s.nm.asleep = some (level, start) ∧ h ≤ s.time.now) (acting t s)) ∧
  (∃ i e t s, coreOn s = true ∧ (fun s => (sourceOf s i).opened = true ∧ (sourceOf s i).validEnd = some e ∧ e ≤ s.time.now) (acting t s)) ∧
  (∃ i e t s, (fun s => (sourceOf s i).winEnd = some e ∧ lowPowerRuns s = true ∧ e ≤ s.time.now) (acting t s)) ∧
  (∃ i e t s, i < 32 ∧ (fun s => (sourceOf s i).maskEnd = some e ∧ lowPowerRuns s = true ∧ e ≤ s.time.now) (acting t s)) := by
  refine ⟨⟨15, 0, { live with nm := { source := [(15, { rec0 := [0x04000000], maskEnd := some 9 })] } }, by decide⟩,
    ⟨15, 0, { live with nm := { source := [(15, { rec0 := [0x04000000, 0, 1] })] } }, by decide⟩,
    ⟨31, 1, 0, 0, { live with nm := { source := [(31, { rec0 := [0x04000000] })], asleep := some (1, 0), wakeOut := false }, sys := { live.sys with pow := { power := .standby } } }, by decide⟩,
    ⟨1, 0, 30518, { live with nm := { asleep := some (1, 0) }, regs := [(rCROCUS 0x04, 1)] }, by decide⟩,
    ⟨0, { live with nm := { source := [(0, { rec0 := [0x04400000] })] } }, by decide⟩,
    ⟨0, { live with nm := { source := [(0, { rec0 := [0x04400000] })] } }, by decide⟩,
    ⟨0, 100000000000000, { live with nm := { hint := some 0 } }, by decide⟩,
    ⟨{ level := 1, step := 2 }, 0, { live with nm := { entry := some { level := 1, step := 2 } } }, by decide⟩,
    ⟨{ level := 1, step := 1 }, 20000000, { live with nm := { entry := some { level := 1, step := 1 } } }, by decide⟩,
    ⟨5, 1, 0, 5, { live with nm := { raceHold := some 5, asleep := some (1, 0) } }, by decide⟩,
    ⟨31, 5, 5, { live with nm := { source := [(31, { opened := true, validEnd := some 5 })] } }, by decide⟩,
    ⟨31, 5, 5, { live with nm := { source := [(31, { winEnd := some 5 })] } }, by decide⟩,
    ⟨31, 5, 5, { live with nm := { source := [(31, { maskEnd := some 5 })] } }, by decide⟩⟩

/-- States and operands that meet the hypotheses of Obligations.SegmentEventsTakeEffect, each case of it on its own. -/
theorem witness_SegmentEventsTakeEffect :
  (∃ i t s, coreOn s = true ∧ i < 60 ∧ (fun _ => True) (acting t s)) ∧
  (∃ (i : _) (a : _) (s : State), (segOf s i).timer = some a ∧ a + segReady (segOf s i) ≤ s.time.now) ∧
  (∃ t s, coreOn s = true ∧ (fun _ => True) (acting t s)) ∧
  (∃ (c : _) (a : _) (i : _) (s : State), tget none s.nm.cluster c = some (a, i) ∧ a + segReady (segOf s i) ≤ s.time.now) ∧
  (∃ i e t s, coreOn s = true ∧ (fun s => (segOf s i).prep = some e ∧ (segOf s i).state = 1 ∧ e ≤ s.time.now) (acting t s)) ∧
  (∃ i t s, coreOn s = true ∧ i < 60 ∧ (fun s => (segOf s i).state = 2 ∧ segIsCan i = false ∧ (segOf s i).latch = none) (acting t s)) ∧
  (∃ i t s, coreOn s = true ∧ i < 60 ∧ (fun s => (segOf s i).state = 2 ∧ segIsCan i = true ∧ (canOf s (i - 28)).sending = none ∧ (segOf s i).latch = none) (acting t s)) ∧
  (∃ i kind src t s, coreOn s = true ∧ i < 60 ∧ (fun s => (segOf s i).state = 2 ∧ segIsCan i = false ∧ (segOf s i).latch = some (kind, src) ∧ s.nm.entry = none) (acting t s)) ∧
  (∃ t s, coreOn s = true ∧ (fun _ => True) (acting t s)) ∧
  (∃ (i : _) (s : State), (segOf s i).state = 4 ∧ (segOf s i).wakingAt + nmWakeTo s ≤ s.time.now ∧ (segOf s i).held ≠ []) ∧
  (∃ (i : _) (s : State), (segOf s i).state ≠ 4) ∧
  (∃ i t s, coreOn s = true ∧ i < 28 ∧ (fun s => segManaged (segOf s i) = true ∧ flag (segOf s i).rec0 0 24 = true ∧ (segOf s i).state = 0 ∧ neededElse s i = true ∧
      ∀ a, (segOf s i).kaLast = some a → a + segTxMs (segOf s i) ≤ s.time.now) (acting t s)) := by
  refine ⟨⟨59, 0, live, by decide⟩,
    ⟨59, 0, acting (10 ^ 12) { live with nm := { seg := [(59, { timer := some 0 })] } }, by decide⟩,
    ⟨0, live, by decide⟩,
    ⟨255, 0, 3, acting (10 ^ 12) { live with nm := { cluster := [(255, some (0, 3))] } }, by decide⟩,
    ⟨59, 5, 5, { live with nm := { seg := [(59, { state := 1, prep := some 5 })] } }, by decide⟩,
    ⟨59, 0, { live with nm := { seg := [(59, { state := 2 })] } }, by decide⟩,
    ⟨51, 0, { live with nm := { seg := [(51, { state := 2 })] } }, by decide⟩,
    ⟨27, 1, 2, 0, { live with nm := { seg := [(27, { state := 2, latch := some (1, 2) })] } }, by decide⟩,
    ⟨0, live, by decide⟩,
    ⟨59, acting (10 ^ 12) { live with nm := { seg := [(59, { state := 4, held := [.gw { f := { format := 0, id := 1 }, route := 0, origin := 0 }] })] } }, by decide⟩,
    ⟨59, live, by decide⟩,
    ⟨27, 0, { live with nm := { seg := [(27, { rec0 := [0x03000000, 0, 0] })], host := [(false, 27, 0)] } }, ⟨by decide, by decide, by decide, by decide, by decide, by decide, nofun⟩⟩⟩

/-- States and operands that meet the hypotheses of Obligations.CipherEventsTakeEffect, each case of it on its own. -/
theorem witness_CipherEventsTakeEffect :
  (∃ (r : BulkReq) (t : _) (s : _), coreOn s = true ∧ r.requester < 8 ∧ (fun s => bulkRoom s r.requester = true ∨ r.requester = 0) (acting t s)) ∧
  (∃ (r : BulkReq) (t : _) (s : _), coreOn s = true ∧ r.requester < 8 ∧ r.requester ≠ 0 ∧ (fun s => bulkRoom s r.requester = false) (acting t s)) ∧
  (∃ r i e t s, coreOn s = true ∧ (fun s => headOf s r = some (i, e) ∧ e.status = none ∧ opPublic e.req.op = true ∧ s.ciph.pk = none ∧ nextOf true s = some r) (acting t s)) ∧
  (∃ r i e t s, coreOn s = true ∧ (fun s => headOf s r = some (i, e) ∧ e.status = none ∧ opPublic e.req.op = false ∧ s.ciph.sym = none ∧ nextOf false s = some r) (acting t s)) ∧
  (∃ r i e t s, coreOn s = true ∧ (fun s => s.ciph.sym = some r ∧ headOf s r = some (i, e)) (acting t s)) ∧
  (∃ t s, coreOn s = true ∧ (fun _ => True) (acting t s)) ∧
  (∃ (e : BulkEntry) (st : _) (s : State), s.ciph.queue.find? (fun e => opPublic e.req.op = true && e.status.isSome) = some e ∧ e.status = some st ∧ e.req.requester ≠ 0) ∧
  (∃ (c : AlarmCause) (t : _) (s : _), coreOn s = true ∧ (fun s => c ≠ .debug ∨ s.sys.fw.lifecycle ≠ 0) (acting t s)) ∧
  (∃ (c : AlarmCause) (t : _) (s : _), (fun s => s.sys.pow.power = .held ∧ (c ≠ .debug ∨ s.sys.fw.lifecycle ≠ 0)) (acting t s)) ∧
  (∃ t s, coreOn s = true ∧ (fun s => s.ciph.zeroizing = true) (acting t s)) ∧
  (∃ t s, coreOn s = true ∧ (fun s => s.ciph.test0At + s.ciph.testS * 1000000000 ≤ s.time.now) (acting t s)) ∧
  (∃ t s, coreOn s = true ∧ (fun s => s.ciph.test1At + s.ciph.testS * 1000000000 ≤ s.time.now) (acting t s)) ∧
  (∃ t s, coreOn s = true ∧ (fun s => s.ciph.test2 = false ∧ s.ciph.test3 = false ∧ (s.ciph.test2At = 0 ∨ s.ciph.test2At + s.ciph.testS * 1000000000 ≤ s.time.now)) (acting t s)) ∧
  (∃ t s, coreOn s = true ∧ (fun s => s.ciph.test0 = true) (acting t s)) ∧
  (∃ t s, coreOn s = true ∧ (fun s => s.ciph.test1 = true) (acting t s)) ∧
  (∃ t s, coreOn s = true ∧ (fun s => s.ciph.test2 = true) (acting t s)) ∧
  (∃ t s, coreOn s = true ∧ (fun s => s.ciph.test3 = true) (acting t s)) := by
  refine ⟨⟨{ requester := 7, op := .sha256 }, 0, live, by decide⟩,
    ⟨{ requester := 5, op := .sha256 }, 0, { live with ciph := { live.ciph with queue := List.replicate 200 { req := { requester := 5, op := .sha256 } } } }, by decide +kernel⟩,
    ⟨3, 0, { req := { requester := 3, op := .ecdsaSign, noKey := true }, status := none }, 0, { live with ciph := { live.ciph with test2At := 1, queue := [{ req := { requester := 3, op := .ecdsaSign, noKey := true }, status := none }] } }, by decide⟩,
    ⟨3, 0, { req := { requester := 3, op := .cmac, noKey := true }, status := none }, 0, { live with ciph := { live.ciph with test2At := 1, queue := [{ req := { requester := 3, op := .cmac, noKey := true }, status := none }] } }, by decide⟩,
    ⟨3, 0, { req := { requester := 3, op := .cmac, noKey := true }, status := some 0 }, 0, { live with ciph := { live.ciph with sym := some 3, queue := [{ req := { requester := 3, op := .cmac, noKey := true }, status := some 0 }] } }, by decide⟩,
    ⟨0, live, by decide⟩,
    ⟨{ req := { requester := 3, op := .ecdsaSign, noKey := true }, status := some 0 }, 0, { live with ciph := { live.ciph with queue := [{ req := { requester := 3, op := .ecdsaSign, noKey := true }, status := some 0 }] } }, by decide⟩,
    ⟨.voltage, 0, live, by decide⟩,
    ⟨.voltage, 0, { live with sys := { live.sys with pow := { power := .held } } }, by decide⟩,
    ⟨0, { live with ciph := { live.ciph with zeroizing := true } }, by decide⟩,
    ⟨60000000000, live, by decide⟩,
    ⟨60000000000, live, by decide⟩,
    ⟨0, live, by decide⟩,
    ⟨0, { live with ciph := { live.ciph with test0 := true } }, by decide⟩,
    ⟨0, { live with ciph := { live.ciph with test1 := true } }, by decide⟩,
    ⟨0, { live with ciph := { live.ciph with test2 := true } }, by decide⟩,
    ⟨0, { live with ciph := { live.ciph with test3 := true } }, by decide⟩⟩

/-- States and operands that meet the hypotheses of Obligations.DarkroomEventsTakeEffect, each case of it on its own. -/
theorem witness_DarkroomEventsTakeEffect :
  (∃ w t s, (fun s => s.dark.cur = some w ∧ w.phase = 0 ∧ s.dark.run = true) (acting t s)) ∧
  (∃ w t s, (fun s => s.dark.cur = some w ∧ w.phase = 1 ∧ s.dark.run = true ∧ (w.truncAfter = true ∨ w.epoch ≠ s.time.epoch ∨ w.lt + fld w.cfg 0 15 0 * 1000000 ≤ s.time.now)) (acting t s)) ∧
  (∃ w t s, (fun s => s.dark.cur = some w ∧ w.phase = 2 ∧ s.dark.run = true ∧ s.dark.lowAt = none) (acting t s)) ∧
  (∃ w t s, (fun s => s.dark.cur = some w ∧ w.phase = 3 ∧ s.dark.run = true ∧
      (s.dark.lowAt = none ∧ commitFrom w ≤ s.time.now ∨ ∃ a, s.dark.lowAt = some a ∧ commitFrom w ≤ a)) (acting t s)) ∧
  (∃ t s, (fun s => s.dark.run = true ∧ s.dark.clkFb = false) (acting t s)) ∧
  (∃ t s, (fun s => s.dark.clkFb = true) (acting t s)) ∧
  (∃ t s, (fun s => s.dark.run = true) (acting t s)) ∧
  (∃ t s, (fun s => s.dark.lowAt = none) (acting t s)) ∧
  (∃ (a : _) (t : _) (s : State), s.dark.lowAt = some a ∧ s.dark.run = true ∧ a + 2000000 ≤ t) ∧
  (∃ i ws t s, (fun s => s.dark.reseal = some (i, ws) ∧ s.dark.run = true) (acting t s)) := by
  refine ⟨⟨{ src := .host 0 1, lt := 0, epoch := 0, wt := [0, 0, 0], cfg := [] }, 0, { live with dark := { run := true, cur := some { src := .host 0 1, lt := 0, epoch := 0, wt := [0, 0, 0], cfg := [] } } }, by decide⟩,
    ⟨{ src := .host 0 1, lt := 0, epoch := 0, wt := [0, 0, 0], cfg := [], phase := 1 }, 0, { live with dark := { run := true, cur := some { src := .host 0 1, lt := 0, epoch := 0, wt := [0, 0, 0], cfg := [], phase := 1 } } }, by decide⟩,
    ⟨{ src := .host 0 1, lt := 0, epoch := 0, wt := [0, 0, 0], cfg := [], phase := 2 }, 0, { live with dark := { run := true, cur := some { src := .host 0 1, lt := 0, epoch := 0, wt := [0, 0, 0], cfg := [], phase := 2 } } }, by decide⟩,
    ⟨{ src := .host 0 1, lt := 0, epoch := 0, wt := [0, 0, 0], cfg := [], phase := 3 }, 10240, { live with dark := { run := true, cur := some { src := .host 0 1, lt := 0, epoch := 0, wt := [0, 0, 0], cfg := [], phase := 3 } } }, ⟨rfl, rfl, rfl, .inl ⟨rfl, by decide⟩⟩⟩,
    ⟨0, { live with dark := { run := true } }, by decide⟩,
    ⟨0, { live with dark := { clkFb := true } }, by decide⟩,
    ⟨0, { live with dark := { run := true } }, by decide⟩,
    ⟨0, live, by decide⟩,
    ⟨0, 2000000, { live with dark := { run := true, lowAt := some 0 } }, by decide⟩,
    ⟨1, [5], 0, { live with dark := { run := true, reseal := some (1, [5]) } }, by decide⟩⟩

/-- States and operands that meet the hypotheses of Obligations.RecorderEventsTakeEffect, each case of it on its own. -/
theorem witness_RecorderEventsTakeEffect :
  (∃ t s, coreOn s = true ∧ (fun s => (∀ a, s.cs.accepted = some a → a + 4 ≤ s.time.now) ∧ (s.cs.anchor = none ∨ s.cs.next % 65536 = 0 ∨ (s.cs.anchorDue = true ∧ s.cs.mid = false ∧ s.cs.gap = none))) (acting t s)) ∧
  (∃ g t s, coreOn s = true ∧ (fun s => (∀ a, s.cs.accepted = some a → a + 4 ≤ s.time.now) ∧ s.cs.anchor.isSome = true ∧ s.cs.next % 65536 ≠ 0 ∧
      s.cs.gap = some g ∧ s.cs.mid = false) (acting t s)) ∧
  (∃ g r t s, coreOn s = true ∧ (fun s => (∀ a, s.cs.accepted = some a → a + 4 ≤ s.time.now) ∧ s.cs.anchor.isSome = true ∧ s.cs.next % 65536 ≠ 0 ∧
      (s.cs.gap = none ∧ s.cs.anchorDue = false ∨ s.cs.mid = true) ∧ s.cs.queue = g :: r) (acting t s)) ∧
  (∃ a t s, coreOn s = true ∧ (fun s => s.cs.anchor = some a ∧ a + 1000000 ≤ s.time.now ∧ s.cs.mid = false ∧ s.cs.gap = none ∧ ∀ a, s.cs.accepted = some a → a + 4 ≤ s.time.now) (acting t s)) ∧
  (∃ a t s, coreOn s = true ∧ (fun s => s.cs.anchor = some a ∧ a + 1000000 ≤ s.time.now ∧ (s.cs.mid = true ∨ s.cs.gap.isSome = true)) (acting t s)) ∧
  (∃ t s, coreOn s = true ∧ (fun s => s.cs.repeatAt ≤ s.time.now) (acting t s)) ∧
  (∃ t s, coreOn s = true ∧ (fun s => (exportGo s).cs.chan0.en = true ∧ (exportGo s).cs.chan0.frame ≠ [] ∧
      (exportGo s).cs.chan0.since + fld (exportGo s).cs.chan0.cfg 0 15 2 * 1000 ≤ (exportGo s).time.now) (acting t s)) ∧
  (∃ t s, coreOn s = true ∧ (fun s => s.cs.chan1.en = true ∧ s.cs.chan1.pos < oldestAt s ∧ 4 ≤ ringFree s .trace) (acting t s)) ∧
  (∃ start g pos t s, coreOn s = true ∧ (fun s => s.cs.chan1.en = true ∧ oldestAt s ≤ s.cs.chan1.pos ∧ groupOf s s.cs.chan1 = (start, some (g, pos)) ∧
      4 * g.length ≤ ringFree s .trace) (acting t s)) := by
  refine ⟨⟨0, live, ⟨by decide, nofun, by decide⟩⟩,
    ⟨{ lost := 1, first := 0, other := false }, 0, { live with cs := { anchor := some 0, next := 1, gap := some { lost := 1, first := 0, other := false } } }, ⟨by decide, nofun, by decide⟩⟩,
    ⟨⟨5, 0, [1], 0⟩, [], 0, { live with cs := { anchor := some 0, next := 1, queue := [⟨5, 0, [1], 0⟩] } }, ⟨by decide, nofun, by decide⟩⟩,
    ⟨0, 1000000, { live with cs := { anchor := some 0 } }, ⟨by decide, by decide, by decide, by decide, by decide, nofun⟩⟩,
    ⟨0, 1000000, { live with cs := { anchor := some 0, mid := true } }, by decide⟩,
    ⟨1000000000, live, by decide⟩,
    ⟨0, { live with cs := { chan0 := { en := true, frame := [{ seq := 0, lt := 0, kind := 1 }] } } }, by decide⟩,
    ⟨0, { live with cs := { next := 5, chan1 := { en := true } } }, by decide⟩,
    ⟨0, [{ seq := 0, lt := 0, kind := 5 }], 1, 0, { live with cs := { next := 1, trace := [{ seq := 0, lt := 0, kind := 5 }], chan1 := { en := true, cfg := [0, 0xFFFFFFFF, 0xFFFFFFFF, 0xFFFFFFFF] } } }, by decide⟩⟩

/-- States and operands that meet the hypotheses of Obligations.CanEventsTakeEffect, each case of it on its own. -/
theorem witness_CanEventsTakeEffect :
  (∃ (b : _) (f : CanFrame) (sof : _) (t : _) (s : _), coreOn s = true ∧ b < 24 ∧ (fun s => canTakesPart s b (canRecAt (canOf s b) sof).1 (canRecAt (canOf s b) sof).2 = true ∧ (canOf s b).busOff = false ∧
      protoHas (canRecAt (canOf s b) sof).1 f.format = true ∧ (canOf s b).rec1 ≤ 127) (acting t s)) ∧
  (∃ (g : GwFrame) (s : State), (24 ≤ g.src ∨ owns s g.src = true)) ∧
  (∃ b i x t s, coreOn s = true ∧ b < 24 ∧ (fun s => canLive s b = true ∧ canModeNow s b = 1 ∧ (canOf s b).busOff = false ∧ (canOf s b).sending = none ∧ offered s b = some (i, x)) (acting t s)) ∧
  (∃ b i sof x t s, coreOn s = true ∧ b < 24 ∧ (fun s => (canOf s b).sending = some (i, sof) ∧ tget none (canOf s b).slots i = some x) (acting t s)) ∧
  (∃ (b : _) (i : _) (sof : _) (k : CanErr) (t : _) (s : _), coreOn s = true ∧ b < 24 ∧ (fun s => (canOf s b).sending = some (i, sof) ∧
      ∀ x, tget none (canOf (tecUp b k (countErr b k s)) b).slots i = some x →
        x.abort = false ∧ (fld (canOf s b).rec0 0 13 6 = 0 ∨ x.tries < fld (canOf s b).rec0 0 13 6)) (acting t s)) ∧
  (∃ (b : _) (i : _) (sof : _) (k : CanErr) (x : _) (t : _) (s : _), coreOn s = true ∧ b < 24 ∧ (fun s => (canOf s b).sending = some (i, sof) ∧ tget none (canOf (tecUp b k (countErr b k s)) b).slots i = some x ∧ x.abort = false ∧
      fld (canOf s b).rec0 0 13 6 ≠ 0 ∧ fld (canOf s b).rec0 0 13 6 ≤ x.tries) (acting t s)) ∧
  (∃ (b : _) (t : _) (s : _), coreOn s = true ∧ b < 24 ∧ (fun s => canLive s b = true ∧ (canOf s b).busOff = false) (acting t s)) ∧
  (∃ b e t s, coreOn s = true ∧ (fun s => (canOf s b).boEnd = some e ∧ e ≤ s.time.now) (acting t s)) ∧
  (∃ b t s, coreOn s = true ∧ (fun s => (canOf s b).busOff = true ∧ (canOf s b).recovering = true) (acting t s)) ∧
  (∃ t s, coreOn s = true ∧ (fun _ => True) (acting t s)) ∧
  (∃ (b : _) (i : _) (x : _) (s : State), tget none (canOf s b).slots i = some x ∧ x.out.maxAge ≠ 0 ∧ x.tries = 0 ∧ x.placed + x.out.maxAge * 1000 ≤ s.time.now ∧ (∀ w, x.out.launch = some w → w + (x.out.maxAge * 1000 : Nat) * wtNs ≤ wtNow s)) ∧
  (∃ (b : _) (i : _) (x : _) (s : State), tget none (canOf s b).slots i = some x ∧ 0 < x.tries) ∧
  (∃ b r t s, coreOn s = true ∧ (fun s => (canOf s b).next = some r ∧ (canOf s b).sending = none) (acting t s)) ∧
  (∃ b t s, coreOn s = true ∧ b < 24 ∧ (fun s => (canOf s b).integ = true ∧ (segOf s (28 + b)).state ≠ 4) (acting t s)) ∧
  (∃ b t s, coreOn s = true ∧ b < 24 ∧ (fun s => (canOf s b).integ = true ∧ (segOf s (28 + b)).state = 4) (acting t s)) := by
  refine ⟨⟨23, { format := 0, id := 1 }, 0, 0, { live with gw := { can := [(23, { rec0 := [0xBA000000, 0, 0, 0, 0] })] } }, by decide +kernel⟩,
    ⟨{ src := 24, f := { format := 5, id := 1 }, bus := 24, stamp := 0 }, live, by decide⟩,
    ⟨23, 31, { out := { f := { format := 0, id := 5 }, route := 0, origin := 0 } }, 0, { live with gw := { can := [(23, { rec0 := [0xBA000000, 0, 0, 0, 0], slots := [(31, some { out := { f := { format := 0, id := 5 }, route := 0, origin := 0 } })] })] } }, by decide⟩,
    ⟨23, 31, 0, { out := { f := { format := 0, id := 5 }, route := 0, origin := 0 } }, 0, { live with gw := { can := [(23, { rec0 := [0xBA000000, 0, 0, 0, 0], slots := [(31, some { out := { f := { format := 0, id := 5 }, route := 0, origin := 0 } })], sending := some (31, 0) })] } }, by decide⟩,
    ⟨23, 31, 0, .stuff, 0, { live with gw := { can := [(23, { rec0 := [0xBA000000, 0, 0, 0, 0], sending := some (31, 0) })] } }, ⟨by decide, by decide, by decide, fun x h => nomatch Eq.trans (c := (none : Option CanSlot)) h.symm (by decide)⟩⟩,
    ⟨23, 31, 0, .ack, { out := { f := { format := 0, id := 5 }, route := 0, origin := 0 }, tries := 1 }, 0, { live with gw := { can := [(23, { rec0 := [0xBA000040, 0, 0, 0, 0], slots := [(31, some { out := { f := { format := 0, id := 5 }, route := 0, origin := 0 }, tries := 1 })], sending := some (31, 0) })] } }, by decide⟩,
    ⟨23, 0, { live with gw := { can := [(23, { rec0 := [0xBA000000, 0, 0, 0, 0] })] } }, by decide⟩,
    ⟨23, 5, 5, { live with gw := { can := [(23, { boEnd := some 5 })] } }, by decide⟩,
    ⟨23, 0, { live with gw := { can := [(23, { busOff := true, recovering := true })] } }, by decide⟩,
    ⟨0, live, by decide⟩,
    ⟨23, 31, { out := { f := { format := 0, id := 5 }, route := 0, origin := 0, maxAge := 1 } }, acting 1000 { live with gw := { can := [(23, { slots := [(31, some { out := { f := { format := 0, id := 5 }, route := 0, origin := 0, maxAge := 1 } })] })] } }, by decide, by decide, by decide, by decide, nofun⟩,
    ⟨23, 31, { out := { f := { format := 0, id := 5 }, route := 0, origin := 0 }, tries := 1 }, { live with gw := { can := [(23, { slots := [(31, some { out := { f := { format := 0, id := 5 }, route := 0, origin := 0 }, tries := 1 })] })] } }, by decide⟩,
    ⟨23, [5], 0, { live with gw := { can := [(23, { next := some [5] })] } }, by decide⟩,
    ⟨23, 0, { live with gw := { can := [(23, { integ := true })] } }, by decide⟩,
    ⟨23, 0, { live with gw := { can := [(23, { integ := true })] }, nm := { seg := [(51, { state := 4 })] } }, by decide⟩⟩

/-- States and operands that meet the hypotheses of Obligations.LinAndTunnelEventsTakeEffect, each case of it on its own. -/
theorem witness_LinAndTunnelEventsTakeEffect :
  (∃ b tb t s, coreOn s = true ∧ b < 8 ∧ (fun s => linWakes b s = s ∧ linTakePending b s = s ∧ ((linOf s b).slot = none → linSkip b s = s) ∧ (linOf s b).table = some tb ∧ linLive s b = true ∧ (linOf s b).slot = none ∧
      (linOf s b).cycle + linOffset s (linHeadOf (linOf s b) tb) (linOf s b).idx ≤ wtNow s) (acting t s)) ∧
  (∃ b tb t s, coreOn s = true ∧ b < 8 ∧ (fun s => linWakes b s = s ∧ linTakePending b s = s ∧ ((linOf s b).slot = none → linSkip b s = s) ∧ (linOf s b).table = some tb ∧ linLive s b = true ∧ (linOf s b).slot = none ∧
      (linOf s b).cycle + linOffset s (linHeadOf (linOf s b) tb) (linOf s b).idx ≤ wtNow s) (acting t s)) ∧
  (∃ (b : _) (d : Bytes) (k : _) (start : _) (t : _) (s : _), coreOn s = true ∧ b < 8 ∧ (fun s0 =>
      let s := boundaryFirst s0
      (linOf s b).slot = some (k, start) ∧ bit (tget (0, 0) s.gw.pool k).1 23 = false ∧ d.length = bits (tget (0, 0) s.gw.pool k).1 21 18) (acting t s)) ∧
  (∃ (b : _) (k : _) (start : _) (o : _) (t : _) (s : _), coreOn s = true ∧ b < 8 ∧ (o = 1 ∨ o = 2 ∨ o = 3 ∨ o = 4) ∧ (fun s0 =>
      let s := boundaryFirst s0
      (linOf s b).slot = some (k, start) ∧ bit (tget (0, 0) s.gw.pool k).1 23 = false ∧ bits (tget (0, 0) s.gw.pool k).1 31 30 ≠ 1) (acting t s)) ∧
  (∃ (e : Word) (d : Bytes), bit e 23 = false ∧ bits e 31 30 ≠ 1 ∧ d.length = bits e 21 18 + 1 ∧ d.drop (bits e 21 18) ≠ [linChecksum (bit e 22) (bits e 29 24) (d.take (bits e 21 18))]) ∧
  (∃ i t s, coreOn s = true ∧ (fun s => (tunnelOf s i).n ≠ 0 ∧ (tunnelOf s i).deadline ≤ wtNow s) (acting t s)) ∧
  (∃ p t s, coreOn s = true ∧ (fun s => (parse p).etype = some 0x22F0 ∧ (boundaryFirst s).gw.rxTunnel = []) (acting t s)) ∧
  (∃ p i v t s, coreOn s = true ∧ (parse p).etype = some 0x22F0 ∧ (parse p).rtag = none ∧ flag v.rec0 0 31 = true ∧ flag v.rec0 0 30 = false ∧ byteAt p (14 + (parse p).tagLen) = 0x82 ∧ beAt p (18 + (parse p).tagLen) 8 = cat64 (rw v.rec0 1) (rw v.rec0 2) ∧ (fun s => (boundaryFirst s).gw.rxTunnel = [(i, v)]) (acting t s)) := by
  refine ⟨⟨7, 3, 0, { live with gw := { lin := [(7, { rec0 := [0x8000000, 0], table := some 3, head := [(3, [0xA040])] })], pool := [(5, (0x40000, 0x64000))] } }, ⟨by decide, by decide, rfl, rfl, fun _ => rfl, by decide, by decide, by decide, by decide⟩⟩,
    ⟨7, 3, 0, { live with gw := { lin := [(7, { rec0 := [0x8000000, 0], table := some 3, head := [(3, [0xA040])] })], pool := [(5, (0x40000, 0x64000))] } }, ⟨by decide, by decide, rfl, rfl, fun _ => rfl, by decide, by decide, by decide, by decide⟩⟩,
    ⟨7, [], 5, 0, 0, { live with gw := { lin := [(7, { slot := some (5, 0) })] } }, by decide⟩,
    ⟨7, 5, 0, 4, 0, { live with gw := { lin := [(7, { slot := some (5, 0) })] } }, by decide⟩,
    ⟨0, [0], by decide⟩,
    ⟨255, 0, { live with gw := { tunnel := [(255, { n := 1 })] } }, by decide⟩,
    ⟨(List.replicate 12 0 ++ [0x22, 0xF0, 0x82] ++ List.replicate 30 0), 0, live, by decide⟩,
    ⟨(List.replicate 12 0 ++ [0x22, 0xF0, 0x82] ++ List.replicate 30 0), 63, { rec0 := [0x80000000, 0, 0] }, 0, { live with gw := { rxTunnel := [(63, { rec0 := [0x80000000, 0, 0] })] } }, by decide +kernel⟩⟩

/-- States and operands that meet the hypotheses of Obligations.PartnerMessagesTakeEffect, each case of it on its own. -/
theorem witness_PartnerMessagesTakeEffect :
  (∃ m t s, coreOn s = true ∧ (fun s => s.pair.en = true ∧ portUp s s.pair.port = true ∧ pairValid 1 m s = true) (acting t s)) ∧
  (∃ m t s, coreOn s = true ∧ (fun s => s.pair.en = true ∧ portUp s s.pair.port = true ∧ pairValid 4 m s = true) (acting t s)) ∧
  (∃ m t s, coreOn s = true ∧ (fun s => s.pair.en = true ∧ portUp s s.pair.port = true ∧ pairValid 6 m s = true) (acting t s)) ∧
  (∃ m t s, coreOn s = true ∧ (fun s => s.pair.en = true ∧ portUp s s.pair.port = true ∧ pairValid 1 m s = false) (acting t s)) ∧
  (∃ m t s, coreOn s = true ∧ (fun s => s.pair.en = true ∧ portUp s s.pair.port = true ∧ pairValid 2 m s = false) (acting t s)) ∧
  (∃ m t s, coreOn s = true ∧ (fun s => s.pair.en = true ∧ portUp s s.pair.port = true ∧ pairValid 3 m s = false) (acting t s)) ∧
  (∃ m t s, coreOn s = true ∧ (fun s => s.pair.en = true ∧ portUp s s.pair.port = true ∧ pairValid 4 m s = false) (acting t s)) ∧
  (∃ m t s, coreOn s = true ∧ (fun s => s.pair.en = true ∧ portUp s s.pair.port = true ∧ pairValid 5 m s = false) (acting t s)) ∧
  (∃ m t s, coreOn s = true ∧ (fun s => s.pair.en = true ∧ portUp s s.pair.port = true ∧ pairValid 6 m s = false) (acting t s)) ∧
  (∃ m n at0 objs t s, coreOn s = true ∧ n = (rw (msgBody m) 0).toNat ∧ (fun s => s.pair.en = true ∧ portUp s s.pair.port = true ∧ pairValid 2 m s = true ∧
      (pairAccept m s).pair.tokens.find? (fun t => t.1 = n) = some (n, at0, objs)) (acting t s)) ∧
  (∃ m n t s, coreOn s = true ∧ n = (rw (msgBody m) 0).toNat ∧ 0 < fld (msgBody m) 1 15 0 ∧ fld (msgBody m) 1 15 0 ≤ 14 ∧ fld (msgBody m) 1 31 16 < fld (msgBody m) 1 15 0 ∧ (fun s => s.pair.en = true ∧ portUp s s.pair.port = true ∧ pairValid 3 m s = true) (acting t s)) ∧
  (∃ m o t s, coreOn s = true ∧ objNumber (fld (msgBody m) 0 31 30) (fld (msgBody m) 0 29 25) = some o ∧ (fun s => s.pair.en = true ∧ portUp s s.pair.port = true ∧ pairValid 5 m s = true) (acting t s)) ∧
  (∃ (s : State), s.pair.en = true) ∧
  (∃ (s : State), s.pair.en = false) := by
  refine ⟨⟨sealedMsg [0x2100000, 9, 0, 7, 0x80000000, 0, 0], 0, paired {}, ⟨by decide, by decide, by decide, by decide +kernel⟩⟩,
    ⟨sealedMsg [0x2400000, 9, 0, 7, 0x80000000, 0, 0], 0, paired {}, ⟨by decide, by decide, by decide, by decide +kernel⟩⟩,
    ⟨sealedMsg [0x2600000, 9, 0, 7, 0x80000000, 0, 0], 0, paired {}, ⟨by decide, by decide, by decide, by decide +kernel⟩⟩,
    ⟨[], 0, paired {}, by decide⟩,
    ⟨[], 0, paired {}, by decide⟩,
    ⟨[], 0, paired {}, by decide⟩,
    ⟨[], 0, paired {}, by decide⟩,
    ⟨[], 0, paired {}, by decide⟩,
    ⟨[], 0, paired {}, by decide⟩,
    ⟨sealedMsg [0x2200004, 9, 0, 7, 0x80000000, 0, 0, 5], 5, 0, [3], 0, paired { tokens := [(5, 0, [3])] }, ⟨by decide, by decide, by decide, by decide, by decide +kernel, by decide⟩⟩,
    ⟨sealedMsg [0x2300008, 9, 0, 7, 0x80000000, 0, 0, 5, 0xD000E], 5, 0, paired {}, ⟨by decide, by decide, by decide, by decide, by decide, by decide, by decide, by decide +kernel⟩⟩,
    ⟨sealedMsg [0x2500004, 9, 0, 7, 0x80000000, 0, 0, 0x8E000000], 39, 0, paired {}, ⟨by decide, by decide, by decide, by decide, by decide +kernel⟩⟩,
    ⟨paired {}, by decide⟩,
    ⟨live, by decide⟩⟩

/-- States and operands that meet the hypotheses of Obligations.PairTimersTakeEffect, each case of it on its own. -/
theorem witness_PairTimersTakeEffect :
  (∃ t s, coreOn s = true ∧ (fun s => s.pair.up = true ∧ ∀ a, s.pair.lastAt = some a → a + 20000000 ≤ s.time.now) (acting t s)) ∧
  (∃ t s, coreOn s = true ∧ (fun s => s.pair.en = true ∧ leased s ≠ [] ∧ ∀ a, s.pair.lastToken = some a → a + 5000000 ≤ s.time.now) (acting t s)) ∧
  (∃ o e t s, coreOn s = true ∧ (fun s => (objOf s o).lease = some e ∧ (objOf s o).owned = true ∧ (objOf s o).interlock = false ∧ e ≤ s.time.now) (acting t s)) ∧
  (∃ t s, coreOn s = true ∧ (fun _ => True) (acting t s)) ∧
  (∃ (o : _) (s : State), o < 40 ∧ s.pair.en = true ∧ (objOf s o).owned = false ∧ (objOf s o).interlock = false ∧ (objOf s o).claim = none ∧ (objOf s o).notBefore ≤ s.time.now ∧ (objOf s o).waitFrom + claimWait s ≤ s.time.now ∧ (∀ a, s.pair.lastAt = some a → a + 25000000 ≤ s.time.now)) ∧
  (∃ (o : _) (a : _) (s : State), o < 40 ∧ s.pair.en = true ∧ (objOf s o).owned = false ∧ (objOf s o).interlock = false ∧ (objOf s o).claim = none ∧ (objOf s o).notBefore ≤ s.time.now ∧ (objOf s o).waitFrom + claimWait s ≤ s.time.now ∧ s.pair.lastAt = some a ∧ s.time.now < a + 25000000) ∧
  (∃ (o : _) (s : State), s.time.now < (objOf s o).waitFrom + claimWait s) ∧
  (∃ t s, coreOn s = true ∧ (fun _ => True) (acting t s)) ∧
  (∃ (o : _) (n : _) (a : _) (s : State), (objOf s o).claim = some (n, a) ∧ a + 1000000 ≤ s.time.now) ∧
  (∃ t s, coreOn s = true ∧ (fun s => s.pair.en = true ∧ s.pair.ilOwned = false ∧ s.pair.ilClaim = none ∧ group s ≠ []) (acting t s)) ∧
  (∃ t s, coreOn s = true ∧ (fun _ => True) (acting t s)) ∧
  (∃ (a : _) (s : State), s.pair.ilClaim = some a ∧ a + 2000 ≤ s.time.now) ∧
  (∃ (a : _) (s : State), s.pair.ilClaim = some a ∧ a + 2000 ≤ s.time.now ∧ roleB s = true) ∧
  (∃ (a : _) (s : State), s.pair.ilClaim = some a ∧ a + 2000 ≤ s.time.now ∧ roleB s = false) ∧
  (∃ t s, coreOn s = true ∧ (fun s => s.pair.en = true ∧ ownsAny s = true ∧ ∀ a, s.pair.ckptSent = some a → a + s.pair.interval * 1000000 ≤ s.time.now) (acting t s)) ∧
  (∃ t s, coreOn s = true ∧ (fun s => s.pair.en = true ∧ ownsAny s = false ∧ s.pair.up = true ∧ s.pair.missFrom + s.pair.interval * 1000000 + 5000000 ≤ s.time.now) (acting t s)) := by
  refine ⟨⟨0, { live with pair := { up := true } }, ⟨by decide, by decide, nofun⟩⟩,
    ⟨0, { live with pair := { en := true, obj := [(39, { owned := true })] } }, ⟨by decide, by decide, by decide, nofun⟩⟩,
    ⟨39, 5, 5, { live with pair := { en := true, obj := [(39, { owned := true, lease := some 5 })] } }, by decide⟩,
    ⟨0, live, by decide⟩,
    ⟨39, acting (10 ^ 8) { live with pair := { en := true } }, by decide, by decide, by decide, by decide, by decide, by decide, by decide, nofun⟩,
    ⟨39, 99999999, acting (10 ^ 8) { live with pair := { en := true, lastAt := some 99999999 } }, by decide⟩,
    ⟨39, { live with pair := { en := true } }, by decide⟩,
    ⟨0, live, by decide⟩,
    ⟨39, 3, 5, acting 1000005 { live with pair := { en := true, obj := [(39, { claim := some (3, 5) })] } }, by decide⟩,
    ⟨0, { live with pair := { en := true, obj := [(39, { interlock := true })] } }, by decide⟩,
    ⟨0, live, by decide⟩,
    ⟨0, acting 2000 { live with pair := { ilClaim := some 0 } }, by decide⟩,
    ⟨0, acting 2000 { live with pair := { ilClaim := some 0, bound := some (true, 1) } }, by decide⟩,
    ⟨0, acting 2000 { live with pair := { ilClaim := some 0 } }, by decide⟩,
    ⟨0, { live with pair := { en := true, obj := [(39, { owned := true })] } }, ⟨by decide, by decide, by decide, nofun⟩⟩,
    ⟨1000000000, { live with pair := { en := true, up := true } }, by decide⟩⟩

/-- States and operands that meet the hypotheses of Obligations.PowerAndResetEventsTakeEffect, each case of it on its own. -/
theorem witness_PowerAndResetEventsTakeEffect :
  (∃ t s, (fun s => s.sys.pow.power = .held ∧ s.sys.pow.rails = true ∧ s.sys.pow.wokeFrom.isSome = true) (acting t s)) ∧
  (∃ t s, (fun s => s.sys.pow.power = .held ∧ s.sys.pow.rails = true ∧ s.sys.pow.wokeFrom = none) (acting t s)) ∧
  (∃ t s, (fun s => s.sys.pow.power = .run ∧ s.nm.entry = none) (acting t s)) ∧
  (∃ t s, (fun s => s.sys.pow.power = .run ∧ s.nm.entry.isSome = true) (acting t s)) ∧
  (∃ t s, (fun s => s.sys.pow.power ≠ .standby) (acting t s)) ∧
  (∃ t s, (fun _ => True) (acting t s)) ∧
  (∃ t s, (fun s => s.sys.pow.disturb = none ∧ s.sys.pow.power = .run) (acting t s)) ∧
  (∃ d t s, (fun s => s.sys.pow.disturb = some d ∧ s.sys.pow.power = .run) (acting t s)) ∧
  (∃ t s, (fun _ => True) (acting t s)) ∧
  (∃ t s, (fun s => s.sys.pow.power ≠ .standby) (acting t s)) ∧
  (∃ t s, (fun s => s.sys.pow.power = .run ∧ s.sys.pow.porAt ≠ some s.time.now) (acting t s)) ∧
  (∃ t s, (fun s => s.sys.pow.porAt = some s.time.now) (acting t s)) ∧
  (∃ t s, (fun s => s.sys.pow.power ≠ .standby) (acting t s)) ∧
  (∃ c t s, c ≠ 8 ∧ c < 32 ∧ (fun _ => True) (acting t s)) ∧
  (∃ d t s, (fun s => s.sys.pow.sysGo = some d ∧ d ≤ s.time.now) (acting t s)) ∧
  (∃ t s, coreOn s = true ∧ (fun s => s.sys.core.reload = true ∧ s.sys.core.reloadGo ≠ some s.time.now) (acting t s)) ∧
  (∃ t s, coreOn s = true ∧ (fun s => s.sys.fw.paused = false ∧ s.sys.core.reload = false ∧ (s.sys.fw.boot = .served ∨ s.sys.fw.boot = .kernel) ∧ s.sys.core.takeover = none ∧
      s.sys.core.stbyOk = true ∧ s.sys.core.copy0.isSome = true) (acting t s)) ∧
  (∃ t s, coreOn s = true ∧ (fun s => s.sys.fw.paused = false ∧ s.sys.core.reload = false ∧ (s.sys.fw.boot = .served ∨ s.sys.fw.boot = .kernel) ∧ s.sys.core.stbyOk = false) (acting t s)) ∧
  (∃ c t s, coreOn s = true ∧ (fun s => s.sys.core.takeover = some c) (acting t s)) ∧
  (∃ t s, (fun s => s.sys.pow.power = .run) (acting t s)) ∧
  (∃ t s, (fun s => s.sys.pow.clock = true) (acting t s)) ∧
  (∃ t s, (fun s => s.sys.pow.osc32 = true ∧ s.sys.pow.power = .run) (acting t s)) ∧
  (∃ t s, coreOn s = true ∧ (fun s => s.sys.pow.hot = false) (acting t s)) ∧
  (∃ t s, coreOn s = true ∧ (fun s => s.sys.pow.hot = true) (acting t s)) := by
  refine ⟨⟨0, { live with sys := { live.sys with pow := { power := .held, rails := true, wokeFrom := some 1 } } }, by decide⟩,
    ⟨0, { live with sys := { live.sys with pow := { power := .held, rails := true } } }, by decide⟩,
    ⟨0, live, by decide⟩,
    ⟨0, { live with nm := { entry := some { level := 1 } } }, by decide⟩,
    ⟨0, live, by decide⟩,
    ⟨0, live, by decide⟩,
    ⟨0, live, by decide⟩,
    ⟨⟨0, 0, 0⟩, 0, { live with sys := { live.sys with pow := { disturb := some ⟨0, 0, 0⟩ } } }, by decide⟩,
    ⟨0, live, by decide⟩,
    ⟨0, live, by decide⟩,
    ⟨0, live, by decide⟩,
    ⟨0, { live with sys := { live.sys with pow := { porAt := some 0 } } }, by decide⟩,
    ⟨0, live, by decide⟩,
    ⟨31, 0, live, by decide⟩,
    ⟨5, 5, { live with sys := { live.sys with pow := { sysGo := some 5 } } }, by decide⟩,
    ⟨0, { live with sys := { live.sys with core := { reload := true } } }, by decide⟩,
    ⟨0, { live with sys := { live.sys with core := { stbyOk := true, copy0 := some 1 } } }, by decide⟩,
    ⟨0, live, by decide⟩,
    ⟨1, 0, { live with sys := { live.sys with core := { takeover := some 1 } } }, by decide⟩,
    ⟨0, live, by decide⟩,
    ⟨0, { live with sys := { live.sys with pow := { clock := true } } }, by decide⟩,
    ⟨0, live, by decide⟩,
    ⟨0, live, by decide⟩,
    ⟨0, { live with sys := { live.sys with pow := { hot := true } } }, by decide⟩⟩

/-- States and operands that meet the hypotheses of Obligations.BootAndWriteEventsTakeEffect, each case of it on its own. -/
theorem witness_BootAndWriteEventsTakeEffect :
  (∀ f, imageCheck (booting .rom f) = 0 → ∃ good t s, coreOn s = true ∧
    (fun s => s.sys.fw.boot = .rom ∧ good = true ∧ imageCheck (firstSteps s) = 0) (acting t s)) ∧
  (∃ t s, coreOn s = true ∧ (fun s => s.sys.fw.boot = .rom) (acting t s)) ∧
  (∃ t s, coreOn s = true ∧ (fun s => s.sys.fw.boot = .rom ∧ imageCheck (firstSteps s) ≠ 0) (acting t s)) ∧
  (∀ f, imageCheck (booting .rom f) = 0 → ∃ t s, coreOn s = true ∧
    (fun s => s.sys.fw.boot = .rom ∧ imageCheck (firstSteps s) = 0) (acting t s)) ∧
  (∃ t s, coreOn s = true ∧ (fun s => s.sys.fw.boot = .loaded) (acting t s)) ∧
  (∃ t s, coreOn s = true ∧ (fun s => s.sys.fw.boot = .resume ∧ s.sys.fw.kernel = true) (acting t s)) ∧
  (∃ t s, coreOn s = true ∧ (fun s => s.sys.fw.boot = .resume) (acting t s)) ∧
  (∀ f, imageCheck (booting .kernel f) = 0 → ∃ t s, coreOn s = true ∧
    (fun s => s.sys.fw.boot = .kernel ∧ imageCheck s = 0) (acting t s)) ∧
  (∃ t s, coreOn s = true ∧ (fun s => s.sys.fw.boot = .kernel) (acting t s)) ∧
  (∃ m t s, coreOn s = true ∧ (fun s => s.sys.fw.act = some m ∧ s.sys.fw.paused = true) (acting t s)) ∧
  (∃ m t s, coreOn s = true ∧ (fun s => s.sys.fw.act = some m ∧ s.sys.fw.paused = true) (acting t s)) ∧
  (∃ c t s, coreOn s = true ∧ (fun s => s.sys.fw.inForce = some c ∧ s.sys.fw.migrating = true) (acting t s)) ∧
  (∃ m d t s, coreOn s = true ∧ (fun s => jobOf s (fun op => op = 0x0D02 || op = 0x0D05) = some (m, d)) (acting t s)) ∧
  (∃ m d t s, coreOn s = true ∧ d.opcode = 0x0D02 ∧ (fun s => jobOf s (fun op => op = 0x0D02 || op = 0x0D05) = some (m, d)) (acting t s)) ∧
  (∃ m d t s, coreOn s = true ∧ d.opcode = 0x0D04 ∧ (fun s => jobOf s (fun op => op = 0x0C03 || op = 0x0D04 || op = 0x0D07) = some (m, d)) (acting t s)) ∧
  (∃ m d t s, coreOn s = true ∧ d.opcode = 0x0C03 ∧ (fun s => jobOf s (fun op => op = 0x0C03 || op = 0x0D04 || op = 0x0D07) = some (m, d)) (acting t s)) ∧
  (∃ m d t s, coreOn s = true ∧ d.opcode = 0x0D07 ∧ (fun s => jobOf s (fun op => op = 0x0C03 || op = 0x0D04 || op = 0x0D07) = some (m, d)) (acting t s)) ∧
  (∃ n m b t s, coreOn s = true ∧ (fun s => (portOf s n).cable = true ∧ s.mbx.box.find? (fun e => match e.2.deferred with | some d => d.opcode = 0x0E03 && fld d.args 0 4 0 = n | none => false)
      = some (m, b)) (acting t s)) := by
  refine ⟨fun f h => ⟨true, 0, booting .rom f, rfl, rfl, rfl, (imageCheck_congr rfl).trans h⟩,
    ⟨0, booting .rom [], by decide⟩,
    ⟨0, booting .rom [], by decide +kernel⟩,
    fun f h => ⟨0, booting .rom f, rfl, rfl, (imageCheck_congr rfl).trans h⟩,
    ⟨0, booting .loaded [], by decide⟩,
    ⟨0, { live with sys := { live.sys with fw := { live.sys.fw with boot := .resume, kernel := true } } }, by decide⟩,
    ⟨0, { live with sys := { live.sys with fw := { live.sys.fw with boot := .resume } } }, by decide⟩,
    fun f h => ⟨0, booting .kernel f, rfl, rfl, (imageCheck_congr rfl).trans h⟩,
    ⟨0, { live with sys := { live.sys with fw := { live.sys.fw with boot := .kernel } } }, by decide⟩,
    ⟨0, 0, { live with sys := { live.sys with fw := { live.sys.fw with act := some 0, paused := true } } }, by decide⟩,
    ⟨0, 0, { live with sys := { live.sys with fw := { live.sys.fw with act := some 0, paused := true } } }, by decide⟩,
    ⟨1, 0, { live with sys := { live.sys with fw := { live.sys.fw with inForce := some 1, migrating := true } } }, by decide⟩,
    ⟨0, { opcode := 0x0D02, seq := 0 }, 0, { live with mbx := { live.mbx with box := [(0, { state := 1, verMaj := 2, verMin := 3, deferred := some { opcode := 0x0D02, seq := 0 } })] } }, by decide⟩,
    ⟨0, { opcode := 0x0D02, seq := 0 }, 0, { live with mbx := { live.mbx with box := [(0, { state := 1, verMaj := 2, verMin := 3, deferred := some { opcode := 0x0D02, seq := 0 } })] } }, by decide⟩,
    ⟨0, { opcode := 0x0D04, seq := 0 }, 0, { live with mbx := { live.mbx with box := [(0, { state := 1, verMaj := 2, verMin := 3, deferred := some { opcode := 0x0D04, seq := 0 } })] } }, by decide⟩,
    ⟨0, { opcode := 0x0C03, seq := 0 }, 0, { live with mbx := { live.mbx with box := [(0, { state := 1, verMaj := 2, verMin := 3, deferred := some { opcode := 0x0C03, seq := 0 } })] } }, by decide⟩,
    ⟨0, { opcode := 0x0D07, seq := 0 }, 0, { live with mbx := { live.mbx with box := [(0, { state := 1, verMaj := 2, verMin := 3, deferred := some { opcode := 0x0D07, seq := 0 } })] } }, by decide⟩,
    ⟨5, 0, { state := 1, verMaj := 2, verMin := 3, deferred := some { opcode := 0x0E03, seq := 0, args := [5] } }, 0, { withPort 5 { cable := true } with mbx := { live.mbx with box := [(0, { state := 1, verMaj := 2, verMin := 3, deferred := some { opcode := 0x0E03, seq := 0, args := [5] } })] } }, by decide⟩⟩

/-- States and operands that meet the hypotheses of Obligations.MemoryErrorsAndTestAccessTakeEffect, each case of it on its own. -/
theorem witness_MemoryErrorsAndTestAccessTakeEffect :
  (∃ r t s, coreOn s = true ∧ r < 7 ∧ (fun _ => True) (acting t s)) ∧
  (∃ r t s, coreOn s = true ∧ r < 7 ∧ (fun _ => True) (acting t s)) ∧
  (∃ (s : State) (i : Nat), i ∉ s.fw.bad) ∧
  (∃ s k, macType (macGet s k) = 1) ∧
  (∃ s n r, recordAt s n = some r) ∧
  (∃ off, ∃ s : State, off < 2097152 ∧ s.sys.fw.paused = false ∧ s.sys.fw.slotDirty = false) ∧
  (∃ off m, ∃ s : State, 2097152 ≤ off ∧ m ∉ s.sys.test.badRing) ∧
  (∃ w, ∃ s : State, s.dark.cur = some w) ∧
  (∃ s : State, s.mbx.saved = none) ∧
  (∃ t s, coreOn s = true ∧ (fun _ => True) (acting t s)) ∧
  (∃ t s, coreOn s = true ∧ (fun _ => True) (acting t s)) ∧
  (∃ j t s, (fun s => s.sys.pow.power ≠ .standby ∧ tapServes s j = false) (acting t s)) ∧
  (∃ j t s, holdsReset j = false ∧ (fun s => s.sys.pow.power ≠ .standby ∧ s.sys.fw.lifecycle = 0) (acting t s)) ∧
  (∃ j t s, holdsReset j = true ∧ (fun s => s.sys.pow.power ≠ .standby ∧ s.sys.fw.lifecycle = 0 ∧ s.sys.pow.scan = false) (acting t s)) ∧
  (∃ t s, (fun s => s.sys.pow.scan = false) (acting t s)) ∧
  (∃ t s, (fun s => s.sys.pow.scan = true) (acting t s)) ∧
  (∀ r, unlocks (acting 0 (verifying r)) = true → regBit (acting 0 (verifying r)) rJTAG_CTRL 31 = true → ∃ t s, coreOn s = true ∧
    (fun s => s.sys.test.verify = true ∧ s.sys.test.verifyGo.map (·.1) ≠ some s.time.now ∧ unlocks s = true ∧ regBit s rJTAG_CTRL 31 = true) (acting t s)) ∧
  (∀ r, unlocks (acting 0 (verifying r)) = true → regBit (acting 0 (verifying r)) rJTAG_CTRL 31 = false → ∃ t s, coreOn s = true ∧
    (fun s => s.sys.test.verify = true ∧ s.sys.test.verifyGo.map (·.1) ≠ some s.time.now ∧ unlocks s = true ∧ regBit s rJTAG_CTRL 31 = false) (acting t s)) ∧
  (∃ t s, coreOn s = true ∧ (fun s => s.sys.test.verify = true ∧ s.sys.test.verifyGo.map (·.1) ≠ some s.time.now ∧ unlocks s = false) (acting t s)) := by
  refine ⟨⟨6, 0, live, by decide⟩,
    ⟨6, 0, live, by decide⟩,
    ⟨live, 5, by decide⟩,
    ⟨{ live with fwd := { mac := [(16383, [0, 2, 0, 0])] } }, 16383, by decide⟩,
    ⟨{ live with cs := { trace := [⟨0, 0, 0, false, 0⟩], next := 1 } }, 0, ⟨0, 0, 0, false, 0⟩, by decide⟩,
    ⟨2097151, live, by decide⟩,
    ⟨2097152, 7, live, by decide⟩,
    ⟨{ src := .host 0 1, lt := 0, epoch := 0, wt := [0, 0, 0], cfg := [] }, { live with dark := { run := true, cur := some { src := .host 0 1, lt := 0, epoch := 0, wt := [0, 0, 0], cfg := [] } } }, by decide⟩,
    ⟨live, by decide⟩,
    ⟨0, live, by decide⟩,
    ⟨0, live, by decide⟩,
    ⟨.debug, 0, { live with sys := { live.sys with fw := { live.sys.fw with lifecycle := 2 } } }, by decide⟩,
    ⟨.idcode, 0, live, by decide⟩,
    ⟨.extest, 0, live, by decide⟩,
    ⟨0, live, by decide⟩,
    ⟨0, { live with sys := { live.sys with pow := { scan := true } } }, by decide⟩,
    fun r h1 h2 => ⟨0, verifying r, rfl, rfl, nofun, h1, h2⟩,
    fun r h1 h2 => ⟨0, verifying r, rfl, rfl, nofun, h1, h2⟩,
    ⟨0, { live with ciph := { live.ciph with pkFail := true }, sys := { live.sys with test := { verify := true } } }, ⟨rfl, rfl, nofun, by unfold unlocks; apply Bool.and_eq_false_iff.2; left; decide⟩⟩⟩

/-- States and operands that meet the hypotheses of Obligations.PcieTransactionsTakeEffect, each case of it on its own. -/
theorem witness_PcieTransactionsTakeEffect :
  (∃ off n t s, coreOn s = true ∧ (fun s => s.bridge.pci.d3 = false ∧ readWaits s .pcie false off n s.time.now s.bridge.issued = false ∧ (readWords s .pcie false off n).1 ≠ 2) (acting t s)) ∧
  (∃ off n t s, coreOn s = true ∧ (fun s => s.bridge.pci.d3 = false ∧ readWaits s .pcie true off n s.time.now s.bridge.issued = false ∧ (readWords s .pcie true off n).1 ≠ 2) (acting t s)) ∧
  (∃ off n t s, coreOn s = true ∧ (fun s => s.bridge.up = true ∧ s.bridge.pci.d3 = false ∧
      (readWaits s .pcie true off n s.time.now s.bridge.issued = true ∨ (readWords s .pcie true off n).1 = 2)) (acting t s)) ∧
  (∃ (w : _) (s : State), s.bridge.reads = [w] ∧ w.spi = false ∧ w.since + 20000 ≤ s.time.now) ∧
  (∃ t s, coreOn s = true ∧ (fun s => s.bridge.up = true ∧ s.bridge.pci.d3 = true) (acting t s)) ∧
  (∃ t s, coreOn s = true ∧ (fun s => s.bridge.up = true ∧ s.bridge.pci.d3 = false) (acting t s)) ∧
  (∃ (data : List (Word × Nat)) (t : _) (s : _), coreOn s = true ∧ data ≠ [] ∧ (fun s => s.bridge.up = true ∧ s.bridge.pci.d3 = false) (acting t s)) ∧
  (∃ a op off x y old w e t s, coreOn s = true ∧ (fun s => s.bridge.up = true ∧ s.bridge.pci.d3 = false ∧ s.bridge.waiting = [] ∧
      atomicWaits s false false off s.time.now s.bridge.issued = false ∧ off % 4 = 0 ∧ busRead s .pcie off = some a ∧
      atomicTarget s false off = true ∧ regRead s off = old ∧ word (atomicResult op 32 old.toNat x y) = w ∧ regWrite .pcie off w s = .ok e) (acting t s)) ∧
  (∃ off t s, coreOn s = true ∧ (fun s => s.bridge.up = true ∧ s.bridge.pci.d3 = false ∧ s.bridge.waiting = [] ∧
      atomicWaits s false true off s.time.now s.bridge.issued = false ∧ off % 4 = 0 ∧ bar2Mapped off = true ∧
      atomicTarget s true off = true ∧ s.sys.test.badMem.contains (off / 4) = false) (acting t s)) ∧
  (∃ off t s, coreOn s = true ∧ (fun s => s.bridge.up = true ∧ s.bridge.pci.d3 = false ∧ s.bridge.waiting = [] ∧
      atomicWaits s false false off s.time.now s.bridge.issued = false ∧ busRead s .pcie off = none) (acting t s)) ∧
  (∃ off t s, coreOn s = true ∧ (fun s => s.bridge.up = true ∧ s.bridge.pci.d3 = false ∧ s.bridge.waiting = [] ∧
      atomicWaits s false true off s.time.now s.bridge.issued = false ∧ bar2Mapped off = true ∧ atomicTarget s true off = false) (acting t s)) ∧
  (∃ wide off t s, coreOn s = true ∧ (fun s => s.bridge.up = true ∧ s.bridge.pci.d3 = false ∧ atomicWaits s wide true off s.time.now s.bridge.issued = true) (acting t s)) ∧
  (∃ w t s, coreOn s = true ∧ (fun s => s.bridge.waiting = [w] ∧ w.since + 20000 ≤ s.time.now) (acting t s)) ∧
  (∃ t s, coreOn s = true ∧ (fun s => s.bridge.pci.d3 = false ∧ readWaits s .pcie false (rPROOF 0) 1 s.time.now s.bridge.issued = false ∧ (readWords s .pcie false (rPROOF 0) 1).1 ≠ 2) (acting t s)) ∧
  (∃ (s : State) (c : _), c ∈ s.bridge.carry0 ∧ c.no < s.bridge.issued) ∧
  (∃ t s, coreOn s = true ∧ (fun s => regBit s rBRG_CTRL 25 = false ∧ readWaits s .spi false (rPROOF 1) 1 s.time.now s.bridge.issued = false ∧ (readWords s .spi false (rPROOF 1) 1).1 ≠ 2) (acting t s)) := by
  refine ⟨⟨0, 1, 0, { live with bridge := { up := true } }, by decide⟩,
    ⟨0, 1, 0, { live with bridge := { up := true } }, by decide⟩,
    ⟨0x10, 1, 0, { live with bridge := { up := true, issued := 1, carry0 := [{ arrival := 0, bar2 := true, off := 0, data := [5] }] } }, by decide⟩,
    ⟨⟨0, false, true, 0x10, 1, 0⟩, acting 20000 { live with bridge := { up := true, reads := [⟨0, false, true, 0x10, 1, 0⟩] } }, by decide⟩,
    ⟨0, { live with bridge := { up := true, pci := { d3 := true } } }, by decide⟩,
    ⟨0, { live with bridge := { up := true } }, by decide⟩,
    ⟨[(1, 15)], 0, { live with bridge := { up := true } }, by decide⟩,
    ⟨_, .swap, 0x12004, 1, 2, _, _, _, 0, { live with bridge := { up := true } }, ⟨rfl, rfl, rfl, rfl, by decide, rfl, rfl, by decide +kernel, rfl, rfl, rfl⟩⟩,
    ⟨0x0FFFFC, 0, { live with bridge := { up := true } }, by decide⟩,
    ⟨0x90000, 0, { live with bridge := { up := true } }, by decide⟩,
    ⟨0x80000, 0, { live with bridge := { up := true } }, by decide⟩,
    ⟨true, 0xE0038, 0, { live with bridge := { up := true, sems := [(0, some ⟨.spi, true, true, 0x3800, 0⟩)] } }, by decide⟩,
    ⟨⟨0, .swap, false, true, 0xE0000, 1, 2, 0⟩, 20000, { live with bridge := { up := true, waiting := [⟨0, .swap, false, true, 0xE0000, 1, 2, 0⟩] } }, by decide⟩,
    ⟨0, live, by decide⟩,
    ⟨{ live with bridge := { issued := 1, carry0 := [{ arrival := 0, bar2 := false, off := 0x12004, data := [5] }] } }, { arrival := 0, bar2 := false, off := 0x12004, data := [5] }, by decide⟩,
    ⟨0, live, by decide⟩⟩

/-- States and operands that meet the hypotheses of Obligations.CarriedWritesEnd, each case of it on its own. -/
theorem witness_CarriedWritesEnd :
  (∃ o c r t s, coreOn s = true ∧ (fun s => carried s o = c :: r ∧ writeWaits s o c = false ∧ s.time.now ≤ c.arrival + 20000) (acting t s)) ∧
  (∃ o c r t s, coreOn s = true ∧ (fun s => carried s o = c :: r ∧ writeWaits s o c = false ∧ s.time.now ≤ c.arrival + 20000) (acting t s)) ∧
  (∃ o c r t s, coreOn s = true ∧ (fun s => carried s o = c :: r ∧ writeWaits s o c = false ∧ c.arrival + 20000 < s.time.now) (acting t s)) ∧
  (∀ n, (Config.free n).getLsbD 0 = true → ∃ o c r t s, coreOn s = true ∧
    (fun s => carried s o = c :: r ∧ c.arrival + 20000 ≤ s.time.now ∧ (freeVal s).1.getLsbD 0 = true) (acting t s)) ∧
  (∀ n, (Config.free n).getLsbD 0 = false → ∃ o c r t s, coreOn s = true ∧
    (fun s => carried s o = c :: r ∧ c.arrival + 20000 ≤ s.time.now ∧ (freeVal s).1.getLsbD 0 = false) (acting t s)) ∧
  (∃ o off v s e, regWrite o off v s = .ok e) ∧
  (∃ o off v s c, regWrite o off v s = .error c) ∧
  (∃ o off s, ∃ ws : Rec, off % 4 = 0 ∧ ∀ i, i < ws.length → bar2Refuses s o (off + 4 * i) = none) ∧
  (∃ o off s i c, ∃ ws : Rec, i < ws.length ∧ bar2Refuses s o (off + 4 * i) = some c ∧ ∀ j, j < i → bar2Refuses s o (off + 4 * j) = none) := by
  refine ⟨⟨.pcie, { arrival := 0, bar2 := false, off := 0x12004, data := [5] }, [], 0, { live with bridge := { carry0 := [{ arrival := 0, bar2 := false, off := 0x12004, data := [5] }] } }, by decide⟩,
    ⟨.pcie, { arrival := 0, bar2 := false, off := 0x12004, data := [5] }, [], 0, { live with bridge := { carry0 := [{ arrival := 0, bar2 := false, off := 0x12004, data := [5] }] } }, by decide⟩,
    ⟨.pcie, { arrival := 0, bar2 := false, off := 0x12004, data := [5] }, [], 20001, { live with bridge := { carry0 := [{ arrival := 0, bar2 := false, off := 0x12004, data := [5] }] } }, by decide⟩,
    fun n h => ⟨.pcie, { arrival := 0, bar2 := false, off := 0x12004, data := [5] }, [], 20000, { live with bridge := { carry0 := [{ arrival := 0, bar2 := false, off := 0x12004, data := [5] }] }, fresh := n }, rfl, rfl, Nat.le_refl _, h⟩,
    fun n h => ⟨.pcie, { arrival := 0, bar2 := false, off := 0x12004, data := [5] }, [], 20000, { live with bridge := { carry0 := [{ arrival := 0, bar2 := false, off := 0x12004, data := [5] }] }, fresh := n }, rfl, rfl, Nat.le_refl _, h⟩,
    ⟨.inband, 0x12004, 5, live, _, rfl⟩,
    ⟨.core, 0x90000, 5, live, _, rfl⟩,
    ⟨.spi, 0x3FF8, live, [1, 2], by decide⟩,
    ⟨.spi, 0x3FFC, live, 1, 5, [1, 2], by decide⟩⟩

/-- States and operands that meet the hypotheses of Obligations.SpiFramesAreAnswered, each case of it on its own. -/
theorem witness_SpiFramesAreAnswered :
  (∃ b s, spiHeader b = none ∧ coreOn s = true) ∧
  (∃ b n addr ws t s, coreOn s = true ∧ spiHeader b = some (0, n, addr) ∧ spiAlign addr = false ∧ (fun s => readWaits s .spi (spiBar2 addr) (spiOff addr) n s.time.now s.bridge.issued = false ∧ regBit s rBRG_CTRL 25 = false ∧ readWords s .spi (spiBar2 addr) (spiOff addr) n = (0, ws)) (acting t s)) ∧
  (∃ b n addr t s, coreOn s = true ∧ spiHeader b = some (0, n, addr) ∧ spiAlign addr = false ∧ (fun s => regBit s rBRG_CTRL 25 = false ∧
      (readWaits s .spi (spiBar2 addr) (spiOff addr) n s.time.now s.bridge.issued = true ∨ (readWords s .spi (spiBar2 addr) (spiOff addr) n).1 = 2)) (acting t s)) ∧
  (∃ b n addr c ws t s, coreOn s = true ∧ spiHeader b = some (0, n, addr) ∧ spiAlign addr = false ∧ c ≠ 0 ∧ c ≠ 2 ∧ (fun s => readWaits s .spi (spiBar2 addr) (spiOff addr) n s.time.now s.bridge.issued = false ∧ regBit s rBRG_CTRL 25 = false ∧ readWords s .spi (spiBar2 addr) (spiOff addr) n = (c, ws)) (acting t s)) ∧
  (∃ b n addr t s, coreOn s = true ∧ spiHeader b = some (1, n, addr) ∧ spiAlign addr = false ∧ 7 + 4 * n ≤ b.length ∧ spiCrc ((b.drop 6).take (4 * n)) = byteAt b (6 + 4 * n) ∧ (fun s => regBit (count rSPI_CNT 31 0 (spiLockExpires s)) rBRG_CTRL 25 = false ∧ (count rSPI_CNT 31 0 (spiLockExpires s)).bridge.lockLost = false) (acting t s)) ∧
  (∃ b n addr t s, coreOn s = true ∧ spiHeader b = some (1, n, addr) ∧ spiAlign addr = false ∧ 7 + 4 * n ≤ b.length ∧ spiCrc ((b.drop 6).take (4 * n)) ≠ byteAt b (6 + 4 * n) ∧ (fun s => regBit (count rSPI_CNT 31 0 (spiLockExpires s)) rBRG_CTRL 25 = false ∧ (count rSPI_CNT 31 0 (spiLockExpires s)).bridge.lockLost = false) (acting t s)) ∧
  (∃ b n addr t s, coreOn s = true ∧ spiHeader b = some (2, n, addr) ∧ spiAlign addr = false ∧ (fun s => regBit (count rSPI_CNT 31 0 (spiLockExpires s)) rBRG_CTRL 25 = false ∧ (count rSPI_CNT 31 0 (spiLockExpires s)).bridge.lockLost = false) (acting t s)) ∧
  (∃ (bar2 : _) (off : _) (i : _) (s : State), freeSem s = some i ∧ spiSem s = none ∧ lineHeld s .spi bar2 off = false ∧ (∀ w ∈ s.bridge.waiting, ¬ (w.since = s.time.now ∧ w.bar2 = bar2 ∧ w.off / 64 = off / 64))) ∧
  (∃ (s : State), ((freeSem s = none ∨ (spiSem s).isSome = true))) ∧
  (∃ (bar2 : _) (off : _) (w : _) (s : State), w ∈ s.bridge.waiting ∧ w.since = s.time.now ∧ w.bar2 = bar2 ∧ w.off / 64 = off / 64) ∧
  (∃ b n addr i t s, coreOn s = true ∧ spiHeader b = some (3, n, addr) ∧ spiAlign addr = false ∧ (fun s => regBit (count rSPI_CNT 31 0 (spiLockExpires s)) rBRG_CTRL 25 = false ∧ (count rSPI_CNT 31 0 (spiLockExpires s)).bridge.lockLost = false ∧ spiSem (count rSPI_CNT 31 0 (spiLockExpires s)) = some i) (acting t s)) ∧
  (∃ b n addr t s, coreOn s = true ∧ spiHeader b = some (1, n, addr) ∧ 7 + 4 * n ≤ b.length ∧ (fun s => regBit (count rSPI_CNT 31 0 (spiLockExpires s)) rBRG_CTRL 25 = true) (acting t s)) ∧
  (∃ i x t s, coreOn s = true ∧ (fun s => spiSem s = some i ∧ tget none s.bridge.sems i = some x ∧ x.since + 100000 ≤ s.time.now) (acting t s)) ∧
  (∃ b n addr t s, coreOn s = true ∧ spiHeader b = some (2, n, addr) ∧ (fun s => regBit (count rSPI_CNT 31 0 (spiLockExpires s)) rBRG_CTRL 25 = false ∧ (count rSPI_CNT 31 0 (spiLockExpires s)).bridge.lockLost = true) (acting t s)) ∧
  (∃ t s, (fun s => s.nm.asleep.isSome = true) (acting t s)) ∧
  (∃ t s, (fun s => s.nm.asleep = none ∧ coreOn s = true) (acting t s)) := by
  refine ⟨⟨[0, 1, 2, 3, 4, 5], live, by decide +kernel, rfl⟩,
    ⟨spiFrame 0 1 0x10 [], 1, 0x10, [0], 0, live, by decide +kernel⟩,
    ⟨spiFrame 0 1 0x10 [], 1, 0x10, 0, { live with bridge := { issued := 1, carry1 := [{ arrival := 0, bar2 := false, off := 0x14, data := [5] }] } }, by decide +kernel⟩,
    ⟨spiFrame 0 64 0x8FFF0 [], 64, 0x8FFF0, 1, [], 0, live, by decide +kernel⟩,
    ⟨spiFrame 1 1 0x12004 [1, 2, 3, 4], 1, 0x12004, 0, live, by decide +kernel⟩,
    ⟨(spiFrame 1 1 0x12004 [1, 2, 3, 4]).dropLast ++ [0x55], 1, 0x12004, 0, live, by decide +kernel⟩,
    ⟨spiFrame 2 1 0x800E0000 [], 1, 0x800E0000, 0, live, by decide +kernel⟩,
    ⟨true, 0xE0000, 0, live, by decide, by decide, by decide, nofun⟩,
    ⟨{ live with bridge := { sems := [(0, some ⟨.spi, true, true, 0x3800, 0⟩)] } }, by decide⟩,
    ⟨true, 0xE0000, ⟨0, .swap, false, true, 0xE0000, 1, 2, 0⟩, { live with bridge := { waiting := [⟨0, .swap, false, true, 0xE0000, 1, 2, 0⟩] } }, by decide⟩,
    ⟨spiFrame 3 1 0 [], 1, 0, 0, 0, { live with bridge := { sems := [(0, some ⟨.spi, true, true, 0x3800, 0⟩)] } }, by decide +kernel⟩,
    ⟨spiFrame 1 1 0x12004 [1, 2, 3, 4], 1, 0x12004, 0, { live with regs := [(rBRG_CTRL, 0x02000000)] }, by decide +kernel⟩,
    ⟨0, ⟨.spi, true, true, 0x3800, 0⟩, 100000, { live with bridge := { sems := [(0, some ⟨.spi, true, true, 0x3800, 0⟩)] } }, by decide⟩,
    ⟨spiFrame 2 1 0x800E0000 [], 1, 0x800E0000, 0, { live with bridge := { lockLost := true } }, by decide +kernel⟩,
    ⟨0, { live with nm := { asleep := some (1, 0) } }, by decide⟩,
    ⟨0, live, by decide⟩⟩

/-- States and operands that meet the hypotheses of Obligations.InterruptsMirrorsAndLinkTakeEffect, each case of it on its own. -/
theorem witness_InterruptsMirrorsAndLinkTakeEffect :
  (∃ i t s, coreOn s = true ∧ i < 52 ∧ (fun s => hostLink s = true ∧ s.bridge.pci.msixOn = true ∧ regBit s (rSOURCE i 0) 26 = true ∧ sourcePending s i = true ∧ (intSource s i).armed = true ∧
      (intSource s i).last = none ∧ s.bridge.pci.fnMask = false ∧ bit (msixWord s (4 * regFld s (rSOURCE i 0) 25 21 + 3)) 0 = false) (acting t s)) ∧
  (∃ i t s, coreOn s = true ∧ i < 52 ∧ (fun s => hostLink s = true ∧ s.bridge.pci.msixOn = true ∧ regBit s (rSOURCE i 0) 26 = true ∧ sourcePending s i = true ∧ (intSource s i).armed = true ∧
      (intSource s i).last = none ∧ (s.bridge.pci.fnMask = true ∨ bit (msixWord s (4 * regFld s (rSOURCE i 0) 25 21 + 3)) 0 = true)) (acting t s)) ∧
  (∃ r t s, coreOn s = true ∧ ringExists r = true ∧ (fun _ => True) (acting t s)) ∧
  (∃ i id e r n c t s, coreOn s = true ∧ sourceRing i = some id ∧ (fun s => (ringOf s id).ends = e :: r ∧ mirrored s i = true ∧ hostLink s = true ∧ n = ringDiff id e (ringOf s id).cons * ringSlotWords id ∧
      ((intSource s i).copied + 2 ^ 32 - (regGet s (rSOURCE i 0x14)).toNat) % 2 ^ 32 + 4 * n ≤ 2 ^ (12 + regFld s (rSOURCE i 0) 30 27) ∧
      c = ((intSource s i).copied + 4 * n) % 2 ^ 32) (acting t s)) ∧
  (∃ i t s, coreOn s = true ∧ (fun s => mirrored s i = true) (acting t s)) ∧
  (∃ (d : _) (b : Bytes) (t : _) (s : _), coreOn s = true ∧ b.length = fld d 0 31 18 ∧ txDescStatus d true = 0 ∧ flag d 0 16 = false ∧ flag d 0 17 = false ∧ (fun s => hostLink s = true ∧ regBit s (rHP_TX 0x08) 31 = true ∧ s.bridge.txHead ≠ (regGet s (rHP_TX 0x0C)).toNat ∧ paceNext s 28 ≤ s.time.now) (acting t s)) ∧
  (∃ d t s, coreOn s = true ∧ fld d 0 15 0 ≠ 0 ∧ (fun s => hostLink s = true ∧ regBit s (rHP_TX 0x08) 31 = true ∧ s.bridge.txHead ≠ (regGet s (rHP_TX 0x0C)).toNat ∧ paceNext s 28 ≤ s.time.now) (acting t s)) ∧
  (∃ d x f t s, coreOn s = true ∧ (fun s => portUp s 28 = true ∧ s.bridge.pci.d3 = false ∧ s.bridge.rxHead ≠ (regGet s (rHP_RX 0x0C)).toNat ∧ (egressOf (txStart 28 s) 28).sending = some x ∧
      frameOf s x.rep.frame = some f ∧ f.handle = none ∧ (repBytes s 28 x.rep).length ≤ fld d 0 31 18) (acting t s)) ∧
  (∃ b t s, coreOn s = true ∧ beAt b 12 2 = 0x88B6 ∧ (fun s =>
      let m := beAt b 14 4 / 2 ^ 21 % 8
      let len := beAt b 14 4 % 65536
      let fresh := beAt b 18 4 * 2 ^ 32 + beAt b 22 4
      inbandOn s m = true ∧ beAt b 14 4 / 2 ^ 24 = 1 ∧ beAt b 14 4 / 2 ^ 16 % 32 = 0 ∧ beAt b 26 4 = 0 ∧ 16 ≤ len ∧ len ≤ 1400 ∧ len % 4 = 0 ∧ b.length = 46 + len ∧
      (inbandMac m ((b.drop 14).take (16 + len)) s).1 = some (b.drop (30 + len)) ∧ (tget {} s.bridge.inband m).rxFresh < fresh ∧
      len / 4 ≤ ringFree (inbandMac m ((b.drop 14).take (16 + len)) s).2 (.req m) ∧ (inbandMac m ((b.drop 14).take (16 + len)) s).2.bridge.ringWaits = [] ∧
      (inbandMac m ((b.drop 14).take (16 + len)) s).2.bridge.sems = []) (acting t s)) ∧
  (∃ b t s, coreOn s = true ∧ beAt b 12 2 = 0x88B6 ∧ (fun s =>
      let m := beAt b 14 4 / 2 ^ 21 % 8
      let len := beAt b 14 4 % 65536
      inbandOn s m = true ∧ beAt b 14 4 / 2 ^ 24 = 1 ∧ beAt b 14 4 / 2 ^ 16 % 32 = 0 ∧ beAt b 26 4 = 0 ∧ 16 ≤ len ∧ len ≤ 1400 ∧ len % 4 = 0 ∧ b.length = 46 + len ∧
      (inbandMac m ((b.drop 14).take (16 + len)) s).1 ≠ some (b.drop (30 + len))) (acting t s)) ∧
  (∃ r w t s, coreOn s = true ∧ 1 ≤ r ∧ r ≤ 4 ∧ 1 ≤ w ∧ w ≤ 2 ∧ (fun s => s.sys.pow.pcieRef = true) (acting t s)) ∧
  (∃ t s, coreOn s = true ∧ (fun _ => True) (acting t s)) ∧
  (∃ t s, coreOn s = true ∧ (fun s => s.sys.pow.pcieRef = true) (acting t s)) ∧
  (∃ t s, coreOn s = true ∧ (fun s => s.sys.pow.pcieRef = false) (acting t s)) := by
  refine ⟨⟨0, 0, { live with mbx := { live.mbx with box := [(0, { state := 1, verMaj := 2, verMin := 3, rsp := { prod := 4, ends := [4] } })] }, bridge := { up := true, msix := [(3, 0)] }, regs := [(rSOURCE 0 0, 0x04000000)] }, by decide⟩,
    ⟨0, 0, { live with mbx := { live.mbx with box := [(0, { state := 1, verMaj := 2, verMin := 3, rsp := { prod := 4, ends := [4] } })] }, bridge := { up := true }, regs := [(rSOURCE 0 0, 0x04000000)] }, by decide⟩,
    ⟨.proof, 0, live, by decide⟩,
    ⟨0, .rsp 0, 4, [], 4, 16, 0, { live with mbx := { live.mbx with box := [(0, { state := 1, verMaj := 2, verMin := 3, rsp := { prod := 4, ends := [4] } })] }, bridge := { up := true }, regs := [(rSOURCE 0 0, 0x80000000)] }, by decide⟩,
    ⟨0, 0, { live with regs := [(rSOURCE 0 0, 0x80000000)] }, by decide⟩,
    ⟨[0xF00000], List.replicate 60 0, 0, { live with bridge := { up := true }, regs := [(rHP_TX 0x08, 0x80000000), (rHP_TX 0x0C, 1)] }, by decide⟩,
    ⟨[1], 0, { live with bridge := { up := true }, regs := [(rHP_TX 0x08, 0x80000000), (rHP_TX 0x0C, 1)] }, by decide⟩,
    ⟨[0x8FF00000], _, _, 0, { live with bridge := { up := true }, regs := [(rHP_RX 0x08, 0x80000000), (rHP_RX 0x0C, 1)], egress := [(28, { queue := [(7, [{ admitted := 0, len := 64, frame := 1 }])] })], buf := { frames := [(1, some { port := 5, whole := true })] } }, ⟨rfl, by decide +kernel, rfl, by decide, rfl, rfl, rfl, by decide +kernel⟩⟩,
    ⟨inbandHead ++ inbandMsg ++ cmac (List.replicate 16 7) inbandMsg, 0, inbandState, ⟨rfl, rfl, by decide, rfl, rfl, rfl, by decide, by decide, rfl, rfl, by decide +kernel, by decide, by decide +kernel, rfl, rfl⟩⟩,
    ⟨inbandHead ++ inbandMsg ++ List.replicate 16 0, 0, { live with regs := [(rIB_CFG 0, 0x81000000)] }, by decide⟩,
    ⟨4, 2, 0, live, by decide⟩,
    ⟨0, live, by decide⟩,
    ⟨0, live, by decide⟩,
    ⟨0, { live with sys := { live.sys with pow := { pcieRef := false } } }, by decide⟩⟩

/-- States and operands that meet the hypotheses of Obligations.RegisterWritesStartTheirCommands, each case of it on its own. -/
theorem witness_RegisterWritesStartTheirCommands :
  (∃ t o a v s, coreOn s = true ∧ Lands o rCAP_CTRL a (acting t s) ∧ (fun _ _ w _ => bit w 0 = true ∧ bits w 2 1 ≠ 3) o v (newValue rCAP_CTRL a v (acting t s)) (acting t s)) ∧
  (∃ n t o a v s, coreOn s = true ∧ n < 32 ∧ Lands o (rTIO n 0) a (acting t s) ∧ (fun _ _ w s => bit w 26 = true ∧ bit w 25 = false ∧ bits w 31 29 = cfgMode s n) o v (newValue (rTIO n 0) a v (acting t s)) (acting t s)) ∧
  (∃ n t o a v s, coreOn s = true ∧ n < 32 ∧ Lands o (rTIO n 0) a (acting t s) ∧ (fun _ _ w s => bit w 25 = true ∧ bit w 26 = false ∧ bits w 31 29 = cfgMode s n) o v (newValue (rTIO n 0) a v (acting t s)) (acting t s)) ∧
  (∃ n m t o a v s, coreOn s = true ∧ n < 32 ∧ Lands o (rTIO n 0) a (acting t s) ∧ (fun _ _ w s => bit w 25 = false ∧ bit w 26 = false ∧ cfgMode s n = m) o v (newValue (rTIO n 0) a v (acting t s)) (acting t s)) ∧
  (∃ t o a v s, coreOn s = true ∧ Lands o (rCROCUS 0) a (acting t s) ∧ (fun _ _ w _ => bit w 29 = true ∧ bit w 28 = false) o v (newValue (rCROCUS 0) a v (acting t s)) (acting t s)) ∧
  (∃ t o a v s, coreOn s = true ∧ Lands o (rCROCUS 0) a (acting t s) ∧ (fun _ _ w _ => bit w 28 = true ∧ bit w 29 = false) o v (newValue (rCROCUS 0) a v (acting t s)) (acting t s)) ∧
  (∃ t o a v s, coreOn s = true ∧ Lands o rRST_CTRL a (acting t s) ∧ (fun _ v w s => bits v 31 16 = 0xA5C3 ∧ bit w 1 = true ∧ (bit w 0 = true → s.sys.fw.slotDirty = false)) o v (newValue rRST_CTRL a v (acting t s)) (acting t s)) ∧
  (∃ t o a v s, coreOn s = true ∧ Lands o rRST_CTRL a (acting t s) ∧ (fun _ v w s => bits v 31 16 = 0xA5C3 ∧ bit w 1 = false ∧ bit w 0 = true ∧ s.sys.fw.slotDirty = false) o v (newValue rRST_CTRL a v (acting t s)) (acting t s)) ∧
  (∃ t o a v s, coreOn s = true ∧ Lands o rJTAG_CTRL a (acting t s) ∧ (fun _ _ w _ => bit w 0 = true) o v (newValue rJTAG_CTRL a v (acting t s)) (acting t s)) ∧
  (∃ t o a v s, coreOn s = true ∧ Lands o rREG_LOCK a (acting t s) ∧ (fun _ _ _ _ => True) o v (newValue rREG_LOCK a v (acting t s)) (acting t s)) ∧
  (∃ t o a v s, coreOn s = true ∧ Lands o rFW_STAT a (acting t s) ∧ (fun _ _ w s => bit w 31 = true ∧ regBit s rFW_STAT 31 = false) o v (newValue rFW_STAT a v (acting t s)) (acting t s)) ∧
  (∃ t o a v s, coreOn s = true ∧ Lands o rFW_STAT a (acting t s) ∧ (fun _ _ w s => bit w 31 = regBit s rFW_STAT 31) o v (newValue rFW_STAT a v (acting t s)) (acting t s)) ∧
  (∃ t o a v s, coreOn s = true ∧ Lands o rBRG_CTRL a (acting t s) ∧ (fun _ _ _ _ => True) o v (newValue rBRG_CTRL a v (acting t s)) (acting t s)) ∧
  (∃ t o a v s, coreOn s = true ∧ Lands o rBRG_CTRL a (acting t s) ∧ (fun _ _ _ _ => True) o v (newValue rBRG_CTRL a v (acting t s)) (acting t s)) ∧
  (∃ o off v reg a fs t s, coreOn s = true ∧ aliasOf off = (reg, a) ∧ regFields reg = some fs ∧ (a = .direct ∨ noAlias reg = false) ∧ off % 4 = 0 ∧ off < 0x90000 ∧ ¬ (blkBRG + 0x800 ≤ reg ∧ reg < blkBRG + 0x1000) ∧ (∃ f, f ∈ fs ∧ f.acc ≠ .ro) ∧ (fun s => Free o off s ∧ regRefuses s o reg (newValue reg a v s) v = none) (acting t s)) ∧
  (∃ o off v reg a fs c t s, coreOn s = true ∧ aliasOf off = (reg, a) ∧ regFields reg = some fs ∧ (a = .direct ∨ noAlias reg = false) ∧ off % 4 = 0 ∧ off < 0x90000 ∧ ¬ (blkBRG + 0x800 ≤ reg ∧ reg < blkBRG + 0x1000) ∧ (∃ f, f ∈ fs ∧ f.acc ≠ .ro) ∧ (fun s => Free o off s ∧ regRefuses s o reg (newValue reg a v s) v = some c) (acting t s)) ∧
  (∃ o off reg a fs t s, coreOn s = true ∧ aliasOf off = (reg, a) ∧ regFields reg = some fs ∧ (a = .direct ∨ noAlias reg = false) ∧ off % 4 = 0 ∧ off < 0x90000 ∧ ¬ (blkBRG + 0x800 ≤ reg ∧ reg < blkBRG + 0x1000) ∧ (∀ f, f ∈ fs → f.acc = .ro) ∧ (fun s => Free o off s) (acting t s)) := by
  refine ⟨⟨0, .pcie, .direct, 1, live, by decide, ⟨rfl, fun _ => rfl, nofun⟩, by decide +kernel⟩,
    ⟨31, 0, .pcie, .direct, 0x4000000, live, by decide, by decide, ⟨rfl, fun _ => rfl, nofun⟩, by decide +kernel⟩,
    ⟨31, 0, .pcie, .direct, 0x2000000, live, by decide, by decide, ⟨rfl, fun _ => rfl, nofun⟩, by decide +kernel⟩,
    ⟨31, 0, 0, .pcie, .direct, 0x20000000, live, by decide, by decide, ⟨rfl, fun _ => rfl, nofun⟩, by decide +kernel⟩,
    ⟨0, .pcie, .direct, 0x60000000, live, by decide, ⟨rfl, fun _ => rfl, nofun⟩, by decide +kernel⟩,
    ⟨0, .pcie, .direct, 0x10000000, live, by decide, ⟨rfl, fun _ => rfl, nofun⟩, by decide +kernel⟩,
    ⟨0, .pcie, .direct, 0xA5C30002, live, by decide, ⟨rfl, fun _ => rfl, nofun⟩, by decide +kernel⟩,
    ⟨0, .pcie, .direct, 0xA5C30001, live, by decide, ⟨rfl, fun _ => rfl, nofun⟩, by decide +kernel⟩,
    ⟨0, .pcie, .direct, 1, live, by decide, ⟨rfl, fun _ => rfl, nofun⟩, by decide +kernel⟩,
    ⟨0, .pcie, .direct, 1, live, by decide, ⟨rfl, fun _ => rfl, nofun⟩, by decide +kernel⟩,
    ⟨0, .pcie, .direct, 0x80000000, live, by decide, ⟨rfl, fun _ => rfl, nofun⟩, by decide +kernel⟩,
    ⟨0, .pcie, .direct, 0, live, by decide, ⟨rfl, fun _ => rfl, nofun⟩, by decide +kernel⟩,
    ⟨0, .pcie, .direct, 0x2000000, live, by decide, ⟨rfl, fun _ => rfl, nofun⟩, by decide +kernel⟩,
    ⟨0, .pcie, .direct, 0x1000000, live, by decide, ⟨rfl, fun _ => rfl, nofun⟩, by decide +kernel⟩,
    ⟨.core, 0x12004, 5, _, _, _, 0, live, ⟨rfl, rfl, rfl, .inl rfl, by decide, by decide, by decide, by decide, ⟨rfl, fun _ => rfl, nofun⟩, rfl⟩⟩,
    ⟨.core, 0x12000, 0x48000000, _, _, _, 8, 0, live, ⟨rfl, rfl, rfl, .inl rfl, by decide, by decide, by decide, by decide, ⟨rfl, fun _ => rfl, nofun⟩, rfl⟩⟩,
    ⟨.core, 0x104, _, _, _, 0, live, ⟨rfl, rfl, rfl, .inl rfl, by decide, by decide, by decide, by decide, ⟨rfl, fun _ => rfl, nofun⟩⟩⟩⟩

/-- States and operands that meet the hypotheses of Obligations.RingRegisterWritesTakeEffect, each case of it on its own. -/
theorem witness_RingRegisterWritesTakeEffect :
  (∃ m t o a v s, coreOn s = true ∧ m < 8 ∧ Lands o (rMBX m 0x04) a (acting t s) ∧ (fun o _ w s => (inbandOn s m = true → o = .inband) ∧ doorbellRefuses s m (bits w 28 16) = false ∧ bits w 28 16 ≠ (ringOf s (.req m)).prod) o v (newValue (rMBX m 0x04) a v (acting t s)) (acting t s)) ∧
  (∃ m t o a v s, coreOn s = true ∧ m < 8 ∧ Lands o (rMBX m 0x00) a (acting t s) ∧ (fun _ _ w _ => bit w 31 = true) o v (newValue (rMBX m 0x00) a v (acting t s)) (acting t s)) ∧
  (∃ m t o a v s, coreOn s = true ∧ m < 8 ∧ Lands o (rMBX m 0x08) a (acting t s) ∧ (fun _ _ w s => mirrored s m = false ∧ consOk s (.rsp m) (bits w 12 0) = true) o v (newValue (rMBX m 0x08) a v (acting t s)) (acting t s)) ∧
  (∃ e t o a v s, coreOn s = true ∧ e < 8 ∧ Lands o (rEVQ e 0x00) a (acting t s) ∧ (fun _ _ w s => mirrored s (8 + e) = false ∧ consOk s (.evq e) (bits w 8 0) = true) o v (newValue (rEVQ e 0x00) a v (acting t s)) (acting t s)) ∧
  (∃ i id t o a v s, coreOn s = true ∧ 16 ≤ i ∧ i < 49 ∧ sourceRing i = some id ∧ Lands o (rSOURCE i 0x1C) a (acting t s) ∧ (fun _ _ w s => mirrored s i = false ∧ consOk s id (bits w 15 0 % ringMod id) = true) o v (newValue (rSOURCE i 0x1C) a v (acting t s)) (acting t s)) ∧
  (∃ t o a v s, coreOn s = true ∧ Lands o rPROOF_PTR a (acting t s) ∧ (fun _ _ w s => consOk s .proof (bits w 6 0) = true) o v (newValue rPROOF_PTR a v (acting t s)) (acting t s)) ∧
  (∃ i t o a v s, coreOn s = true ∧ i < 49 ∧ Lands o (rSOURCE i 0x14) a (acting t s) ∧ (fun _ _ _ _ => True) o v (newValue (rSOURCE i 0x14) a v (acting t s)) (acting t s)) ∧
  (∃ i t o a v s, coreOn s = true ∧ 49 ≤ i ∧ i < 52 ∧ Lands o (rSOURCE i 0x14) a (acting t s) ∧ (fun _ _ _ _ => True) o v (newValue (rSOURCE i 0x14) a v (acting t s)) (acting t s)) ∧
  (∃ i t o a v s, coreOn s = true ∧ i < 52 ∧ Lands o (rSOURCE i 0x00) a (acting t s) ∧ (fun _ _ w s => cfgRefuses s i w = false) o v (newValue (rSOURCE i 0x00) a v (acting t s)) (acting t s)) ∧
  (∃ m t o a v s, coreOn s = true ∧ m < 8 ∧ Lands o (rIB_CFG m) a (acting t s) ∧ (fun _ _ _ s => regBit s rBRG_CTRL 24 = false) o v (newValue (rIB_CFG m) a v (acting t s)) (acting t s)) ∧
  (∃ t o a v s, coreOn s = true ∧ Lands o (rHP_TX 0x0C) a (acting t s) ∧ (fun _ _ _ _ => True) o v (newValue (rHP_TX 0x0C) a v (acting t s)) (acting t s)) ∧
  (∃ t o a v s, coreOn s = true ∧ Lands o (rHP_RX 0x0C) a (acting t s) ∧ (fun _ _ _ _ => True) o v (newValue (rHP_RX 0x0C) a v (acting t s)) (acting t s)) := by
  refine ⟨⟨0, 0, .pcie, .direct, 0x40000, live, by decide, by decide, ⟨rfl, fun _ => rfl, nofun⟩, by decide +kernel⟩,
    ⟨7, 0, .pcie, .direct, 0x80000000, live, by decide, by decide, ⟨rfl, fun _ => rfl, nofun⟩, by decide +kernel⟩,
    ⟨0, 0, .pcie, .direct, 4, { live with mbx := { live.mbx with box := [(0, { state := 1, verMaj := 2, verMin := 3, rsp := { prod := 4, ends := [4] } })] } }, by decide, by decide, ⟨rfl, fun _ => rfl, nofun⟩, by decide +kernel⟩,
    ⟨7, 0, .pcie, .direct, 1, { live with ev := { ring := [(7, { prod := 1, ends := [1] })] } }, by decide, by decide, ⟨rfl, fun _ => rfl, nofun⟩, by decide +kernel⟩,
    ⟨48, .trace, 0, .pcie, .direct, 4, { live with rings := [(48, { prod := 4, ends := [4] })] }, by decide, by decide, by decide, by decide, ⟨rfl, fun _ => rfl, nofun⟩, by decide +kernel⟩,
    ⟨0, .pcie, .direct, 1, { live with bridge := { proof := { prod := 1, ends := [1] } } }, by decide, ⟨rfl, fun _ => rfl, nofun⟩, by decide +kernel⟩,
    ⟨48, 0, .pcie, .direct, 1, live, by decide, by decide, ⟨rfl, fun _ => rfl, nofun⟩, by decide +kernel⟩,
    ⟨51, 0, .pcie, .direct, 1, live, by decide, by decide, by decide, ⟨rfl, fun _ => rfl, nofun⟩, by decide +kernel⟩,
    ⟨51, 0, .pcie, .direct, 0x4000000, live, by decide, by decide, ⟨rfl, fun _ => rfl, nofun⟩, by decide +kernel⟩,
    ⟨7, 0, .pcie, .direct, 0x80000000, live, by decide, by decide, ⟨rfl, fun _ => rfl, nofun⟩, by decide +kernel⟩,
    ⟨0, .pcie, .direct, 1, live, by decide, ⟨rfl, fun _ => rfl, nofun⟩, by decide +kernel⟩,
    ⟨0, .pcie, .direct, 1, live, by decide, ⟨rfl, fun _ => rfl, nofun⟩, by decide +kernel⟩⟩

/-- States and operands that meet the hypotheses of Obligations.MailboxServiceTakesEffect, each case of it on its own. -/
theorem witness_MailboxServiceTakesEffect :
  (∃ m t s, coreOn s = true ∧ (fun s => serves s = true ∧ ((List.range 8).map (fun i => (s.mbx.turn + i) % 8)).find? (ready s) = some m ∧ (boxOf s m).state = 2) (acting t s)) ∧
  (∃ m t s, coreOn s = true ∧ (fun s => serves s = true ∧ ((List.range 8).map (fun i => (s.mbx.turn + i) % 8)).find? (ready s) = some m ∧ (boxOf s m).state ≠ 2 ∧ badHeader s m = true) (acting t s)) ∧
  (∃ m t s, coreOn s = true ∧ (fun s => serves s = true ∧ ((List.range 8).map (fun i => (s.mbx.turn + i) % 8)).find? (ready s) = some m ∧ (boxOf s m).state ≠ 2 ∧ badHeader s m = false ∧
      bits (headWord s m) 15 0 ≠ 0x0100) (acting t s)) ∧
  (∃ n r t s, coreOn s = true ∧ (fun s => serves s = true ∧ s.mbx.notices = n :: r ∧ 4 + n.payload.length ≤ ringFree s (.rsp s.mbx.noticeMbx)) (acting t s)) ∧
  (∃ q v t s, coreOn s = true ∧ q.mbx < 8 ∧ q.args.length = 1 ∧ mf q 4 15 0 = 0 ∧ (fun s => serves s = true ∧ s.sys.fw.boot = .served ∧ 2048 ≤ ringFree s (.rsp q.mbx) ∧ (boxOf s q.mbx).state ≠ 2 ∧ (boxOf s q.mbx).deferred = none ∧
      v = min (mf q 4 23 16) (devVersions s).2 ∧ mf q 4 31 24 ≤ v ∧ (devVersions s).1 ≤ v) (acting t s)) ∧
  (∃ q v t s, coreOn s = true ∧ q.mbx < 8 ∧ q.args.length = 1 ∧ mf q 4 15 0 = 0 ∧ (fun s => serves s = true ∧ s.sys.fw.boot = .served ∧ 2048 ≤ ringFree s (.rsp q.mbx) ∧ (boxOf s q.mbx).state = 0 ∧ (boxOf s q.mbx).deferred = none ∧
      v = min (mf q 4 23 16) (devVersions s).2 ∧ (v < mf q 4 31 24 ∨ v < (devVersions s).1)) (acting t s)) := by
  refine ⟨⟨0, 0, { live with mbx := { live.mbx with box := [(0, { state := 2, req := { prod := 4 } })] } }, by decide⟩,
    ⟨0, 0, { live with mbx := { live.mbx with box := [(0, { state := 1, verMaj := 2, verMin := 3, req := { prod := 4 } })] } }, by decide⟩,
    ⟨0, 0, { live with mbx := { live.mbx with box := [(0, { state := 1, verMaj := 2, verMin := 3, req := { prod := 4 } })] }, mem := [(0, 1), (1, 1), (2, 4), (3, 16)] }, by decide⟩,
    ⟨{ opcode := 0x0D00, payload := [] }, [], 0, { live with mbx := { live.mbx with notices := [{ opcode := 0x0D00, payload := [] }] } }, by decide⟩,
    ⟨ask [0x10230000], 0x23, 0, live, by decide⟩,
    ⟨{ ask [0x30300000] with mbx := 1 }, 0x23, 0, live, by decide⟩⟩

/-! ### States and operands for the laws -/

/-- An anchor that has come. -/
theorem witness_MappingInForceAfterItsAnchor : ∃ t s a q, coreOn (acting t s) = true ∧ (acting t s).time.pend = some (a, q) ∧ a ≤ (acting t s).time.now :=
  ⟨5, { live with time := { live.time with pend := some (5, {}) } }, 5, {}, by decide⟩

theorem witness_BoundaryNumbersTheBeat :
    ∃ t s, coreOn (acting t s) = true ∧ (anchorReached (acting t s)).beat.next ≤ wtNow (anchorReached (acting t s)) :=
  ⟨0, { live with beat := { live.beat with next := 0 } }, by decide⟩

theorem witness_MemoryReadsBackWhatAWriteStored :
    ∃ (o : Origin) (off : Nat) (ws : Rec) (s : State), off % 4 = 0 ∧ ∀ i, i < ws.length → bar2Refuses s o (off + 4 * i) = none :=
  ⟨.spi, 0xFFFF8, [1, 2], live, by decide⟩

/-- A marker of an earlier cycle leaves the next packet a place of its own. -/
theorem earlier_marker {m : Option (Nat × Nat × Nat)} {e : Nat × Nat × Nat} {now : Nat} (h : m = some e) (hc : e.1 ≠ now) :
    ∀ c p n, m = some (c, p, n) → c ≠ now := by
  rintro c p n rfl
  cases h
  exact hc

theorem no_marker {m : Option (Nat × Nat × Nat)} {now : Nat} (h : m = none) : ∀ c p n, m = some (c, p, n) → c ≠ now := by
  subst h
  nofun

/-- A packet that fits exactly into the space that a ring has left; and a full ring. -/
theorem witness_RingPacketsReadBack :
    (∃ (id : RingId) (ws : Rec) (s : State), ringSlotWords id = 1 ∧ (ringOf s id).gap = none ∧
      (∀ c p n, (ringOf s id).marker = some (c, p, n) → c ≠ s.time.now) ∧ (ringOf s id).prod < ringMod id ∧ (ringOf s id).cons < ringMod id ∧
      ringDepth s id + ws.length ≤ 2 ^ ringBits id) ∧
    (∃ (id : RingId) (ws : Rec) (s : State), (ringOf s id).gap = none ∧ (∀ c p n, (ringOf s id).marker = some (c, p, n) → c ≠ s.time.now) ∧
      ringFree s id < slotsFor id ws) ∧
    (∃ (id : RingId) (s : State) (p n : Nat), (ringOf s id).gap = none ∧ (ringOf s id).marker = some (s.time.now, p, n)) :=
  ⟨⟨.can 23, [1, 2], { live with
      time := { live.time with now := 9 }
      rings := [(39, { prod := 4094, marker := some (8, 4090, 1) })] }, by decide, by decide, earlier_marker rfl (by decide), by decide, by decide, by decide⟩,
   ⟨.can 23, [1], { live with rings := [(39, { prod := 4096 })] }, by decide, no_marker (by decide), by decide⟩,
   ⟨.can 23, { live with
      time := { live.time with now := 9 }
      rings := [(39, { prod := 4094, marker := some (9, 4093, 1) })] }, 4093, 1, by decide⟩⟩

theorem witness_CountFieldsCountAndTakeWrites :
    (∃ (reg : Nat) (fs : List RegField) (f : RegField) (s : State) (v : Word), regFields reg = some fs ∧ f ∈ fs ∧ f.acc = .cnt ∧ cntNote s reg f.lo = none ∧
      bits v f.hi f.lo ≤ regFld s reg f.hi f.lo) ∧
    (∃ (reg : Nat) (fs : List RegField) (f : RegField) (s : State) (v : Word), regFields reg = some fs ∧ f ∈ fs ∧ f.acc = .cnt ∧ cntNote s reg f.lo = none ∧
      regFld s reg f.hi f.lo < bits v f.hi f.lo) :=
  ⟨⟨0x108, [⟨31, 0, .cnt, 0⟩], ⟨31, 0, .cnt, 0⟩, { live with regs := [(0x108, 7)] }, 7, by decide⟩,
   ⟨0x108, [⟨31, 0, .cnt, 0⟩], ⟨31, 0, .cnt, 0⟩, { live with regs := [(0x108, 7)] }, 8, by decide⟩⟩

theorem witness_FieldsTakeWritesByTheirCode :
    (∃ (reg : Nat) (fs : List RegField) (f : RegField), regFields reg = some fs ∧ f ∈ fs ∧ f.acc = .rw) ∧
    (∃ (reg : Nat) (fs : List RegField) (f : RegField), regFields reg = some fs ∧ f ∈ fs ∧ f.acc = .w1c) ∧
    (∃ (reg : Nat) (fs : List RegField) (f : RegField) (s : State) (i : Nat), regFields reg = some fs ∧ f ∈ fs ∧ f.acc = .lock ∧
      (regFld s reg f.hi f.lo).testBit i = true) ∧
    (∃ (reg : Nat) (fs : List RegField) (f : RegField), regFields reg = some fs ∧ f ∈ fs ∧ f.acc = .ro) ∧
    (∃ (reg r : Nat), r ≠ reg) :=
  ⟨⟨0x12004, [⟨31, 0, .rw, 0⟩], ⟨31, 0, .rw, 0⟩, by decide⟩, ⟨0x6000C, [⟨31, 0, .w1c, 0⟩], ⟨31, 0, .w1c, 0⟩, by decide⟩,
   ⟨0x10, [⟨31, 9, .rsvp, 0⟩, ⟨8, 0, .lock, 0⟩], ⟨8, 0, .lock, 0⟩, { live with regs := [(0x10, 0x100)] }, 8, by decide⟩,
   ⟨0x104, [⟨31, 0, .ro, 0⟩], ⟨31, 0, .ro, 0⟩, by decide⟩, ⟨0, 4, by decide⟩⟩

theorem witness_ShortTimeWraps : ∃ w v : Int, -2147483648 ≤ v / 65536 - w / 65536 ∧ v / 65536 - w / 65536 < 2147483648 :=
  ⟨0, 2147483647 * 65536, by decide⟩

theorem witness_FullTimesRoundTrip : ∃ w v : Int, 0 ≤ w ∧ w < 2 ^ 48 * 65536000000000 ∧ 0 ≤ v ∧ v < 2 ^ 48 * 65536000000000 :=
  ⟨0, 2 ^ 48 * 65536000000000 - 1, by decide⟩

theorem witness_RecoveryNeverPassesTwice :
    (∃ (fr : Recovery) (now later n : Nat), n < 65536 ∧ (∀ e, fr.expired = some e → later = now ∨ (e.1 ≠ now ∧ e.1 ≠ later)) ∧ (recover fr now (some n)).1 = true ∧
      (0 < rvHistory fr.rec0 ∨ flag fr.rec0 0 30 = true)) ∧
    (∃ (fr : Recovery) (e : Nat × Bool) (now n : Nat), n < 65536 ∧ fr.expired = some e ∧ e.1 = now ∧ (recover fr now (some n)).1 = true) :=
  ⟨⟨{ rec0 := [0x40000000] }, 0, 5, 65535, by decide, nofun, by decide⟩, ⟨{ rec0 := [0x40000000], expired := some (7, false) }, (7, false), 7, 65535, by decide⟩⟩

theorem witness_MetersBoundWhatPasses :
    ∃ (h i m : Nat) (s : State), filterIndex s (some h) = some i ∧ fiMeterEn (filterOf s i).rec0 = true ∧ fiMeter (filterOf s i).rec0 = m ∧
      flag (meterOf s m).rec0 0 30 = false ∧ (meterOf s m).released = none :=
  ⟨5, 7, 9, { live with fwd := { handle := [(5, [0x0401C000])] }, str := { filter := [(7, { rec0 := [0, 0x80480000] })] } }, by decide⟩

/-- A ternary entry that permits. -/
def someRule : Rec := [0xC0120000, 1]

theorem witness_FirewallEntriesPrevailInOrder :
    (∃ (s : State) (bank src z i : Nat) (k : FwKeys) (r : Rec), verdict s bank src k z = .rule i r) ∧
    (∃ (s : State) (bank src z : Nat) (k : FwKeys), ∀ e, e ∈ candidates s bank src k z → ruAction e.2 = 4) ∧
    (∃ (s : State) (bank src z : Nat) (k : FwKeys) (e : Nat × Rec), e ∈ candidates s bank src k z ∧ ruAction e.2 ≠ 4 ∧
      (e.1 ∈ s.fw.bad ∨ e.1 ∈ (fwCycle s).bad)) :=
  ⟨⟨{ live with time := { live.time with now := 1 }, fw := { rule := [(30720, someRule)] } }, 0, 5, 0, 30720, { exact := [], ternary := [(0, [], [])] }, someRule, by decide⟩,
   ⟨{ live with time := { live.time with now := 1 }, fw := { rule := [(30720, [0xC0180000, 1])] } }, 0, 5, 0, { exact := [], ternary := [(0, [], [])] }, by decide⟩,
   ⟨{ live with time := { live.time with now := 1 }, fw := { rule := [(30720, someRule)], bad := [30720] } }, 0, 5, 0, { exact := [], ternary := [(0, [], [])] }, (30720, someRule), by decide⟩⟩

theorem witness_QueuesKeepTheirLimits :
    (∃ (p c : Nat) (r : Replica) (s : State), srCqf (schedOf s p) c = false ∧
      (∀ x, x ∈ queueOf (egressOf s p) c → x.admitted = s.time.now → x.inPort ≤ r.inPort) ∧ (queueOf (egressOf s p) c).length < srQmax (schedOf s p) c ∧
      (r.dei = true → (queueOf (egressOf s p) c).length < srYmax (schedOf s p) c)) ∧
    (∃ (p c : Nat) (r : Replica) (s : State), srCqf (schedOf s p) c = false ∧
      (∀ x, x ∈ queueOf (egressOf s p) c → x.admitted = s.time.now → x.inPort ≤ r.inPort) ∧
      admission s p c (queueOf (egressOf s p) c).length r.dei ≠ 0) ∧
    (∃ (p c : Nat) (s : State), srCqf (schedOf s p) c = false ∧ queueOf (egressOf s p) c ≠ []) :=
  ⟨⟨27, 7, { admitted := 0, len := 64, dei := true }, live, by decide⟩,
   ⟨27, 7, { admitted := 0, len := 64 }, { live with egress := [(27, { sched := [1] })] }, by decide⟩,
   ⟨27, 7, { live with egress := [(27, { queue := [(7, [{ admitted := 0, len := 64, inPort := 5 }])] })] }, by decide⟩⟩

theorem witness_EventsAreRecordedAndCoalesced :
    (∃ s : State, csFill s < 768 ∧ (s.cs.lost.1 ≠ s.time.now ∨ s.cs.lost.2.1 = [])) ∧ (∃ s, 768 ≤ csFill s) ∧
    (∃ s : State, 1024 ≤ csFill s ∧ (∀ x, x ∈ s.cs.queue → x.at0 ≠ s.time.now) ∧ s.cs.lost.1 ≠ s.time.now) ∧ (∃ (src : Nat) (s : State), regFld s (rROUTE (src / 8)) (4 * (src % 8) + 3) (4 * (src % 8)) < 8) ∧
    (∃ (src : Nat) (s : State), 8 ≤ regFld s (rROUTE (src / 8)) (4 * (src % 8) + 3) (4 * (src % 8))) ∧
    (∃ (src cause : Nat) (e : EventState) (o : OpenEvent), o ∈ e.opened ∧ o.source = src ∧ o.cause = cause) ∧
    (∃ (src cause : Nat) (e : EventState), (∀ o, o ∈ e.opened → ¬ (o.source = src ∧ o.cause = cause)) ∧ e.opened.length < 1024) :=
  ⟨⟨live, by decide⟩, ⟨{ live with cs := { queue := [⟨5, 0, List.replicate 768 0, 0⟩] } }, by decide +kernel⟩,
   ⟨{ live with time := { live.time with now := 9 }, cs := { queue := [⟨5, 0, List.replicate 1024 0, 0⟩] } }, by decide +kernel⟩,
   ⟨456, { live with regs := [(rROUTE 57, 0)] }, by decide⟩, ⟨456, live, by decide⟩, ⟨1, 2, { opened := [⟨1, 2, 1, 0, 0, 0, 3⟩] }, ⟨1, 2, 1, 0, 0, 0, 3⟩, by decide⟩,
   ⟨1, 2, {}, by decide⟩⟩

/-- A closed mailbox; another version; a command of the past, and one too far ahead; and an answer for its ring. -/
theorem witness_RequestsAreServedOnceAndInSequence :
    (∃ (q : Req) (s : State), q.mbx < 8 ∧ serves s = true ∧ s.sys.fw.boot = .served ∧ (boxOf s q.mbx).deferred = none ∧ 2048 ≤ ringFree s (.rsp q.mbx) ∧ testsWait 1 q s = false ∧
      (boxOf s q.mbx).state = 0) ∧
    (∃ (q : Req) (s : State), q.mbx < 8 ∧ serves s = true ∧ s.sys.fw.boot = .served ∧ (boxOf s q.mbx).deferred = none ∧ 2048 ≤ ringFree s (.rsp q.mbx) ∧ testsWait 1 q s = false ∧
      (boxOf s q.mbx).state = 1 ∧ (q.verMaj, q.verMin) ≠ ((boxOf s q.mbx).verMaj, (boxOf s q.mbx).verMin)) ∧
    (∃ (q : Req) (s : State), q.mbx < 8 ∧ serves s = true ∧ s.sys.fw.boot = .served ∧ (boxOf s q.mbx).deferred = none ∧ 2048 ≤ ringFree s (.rsp q.mbx) ∧ testsWait 1 q s = false ∧
      (boxOf s q.mbx).state = 1 ∧ q.verMaj = (boxOf s q.mbx).verMaj ∧ q.verMin = (boxOf s q.mbx).verMin ∧ ((boxOf s q.mbx).ack - q.seq).toNat < 2 ^ 31) ∧
    (∃ (q : Req) (s : State), q.mbx < 8 ∧ serves s = true ∧ s.sys.fw.boot = .served ∧ (boxOf s q.mbx).deferred = none ∧ 2048 ≤ ringFree s (.rsp q.mbx) ∧ testsWait 1 q s = false ∧
      (boxOf s q.mbx).state = 1 ∧ q.verMaj = (boxOf s q.mbx).verMaj ∧ q.verMin = (boxOf s q.mbx).verMin ∧ 1 < (q.seq - (boxOf s q.mbx).ack).toNat ∧
      (q.seq - (boxOf s q.mbx).ack).toNat < 2 ^ 31) :=
  ⟨⟨{ ask [] with mbx := 7 }, live, by decide⟩, ⟨{ ask [] with verMin := 2 }, live, by decide⟩, ⟨{ ask [] with seq := 0 }, live, by decide⟩,
   ⟨{ ask [] with seq := 2 }, live, by decide⟩⟩

/-- An answer that wraps its ring. -/
theorem witness_AnswersEnterTheRing :
    ∃ (q : Req) (p : Rec) (s : State), q.mbx < 8 ∧ inbandOn s q.mbx = false ∧ (ringOf s (.rsp q.mbx)).gap = none ∧
      (∀ c n k, (ringOf s (.rsp q.mbx)).marker = some (c, n, k) → c ≠ s.time.now) ∧ (ringOf s (.rsp q.mbx)).prod < 8192 ∧
      (ringOf s (.rsp q.mbx)).cons < 8192 ∧ ringDepth s (.rsp q.mbx) + 4 + p.length ≤ 4096 ∧ (∀ w, w ∈ s.bridge.ringWaits → w.ring ≠ .rsp q.mbx) ∧
      ringLocked s .core (.rsp q.mbx) (ringOf s (.rsp q.mbx)).prod (4 + p.length) = false ∧
      csFill s < 768 ∧ (s.cs.lost.1 ≠ s.time.now ∨ s.cs.lost.2.1 = []) :=
  ⟨ask [], [1, 2], { live with mbx := { live.mbx with box := [(0, { state := 1, rsp := { prod := 8190, cons := 8190 } })] } },
    by decide, by decide, by decide, no_marker (by decide), by decide, by decide, by decide, nofun, by decide, by decide, by decide⟩

theorem witness_EveryStepKeepsMemoryCanonical : ∃ s u : State, Memory.wf s.mem = true ∧ step s = .next u :=
  ⟨State.reset, _, by decide, rfl⟩

theorem witness_FusesChangeOnlyByAFuseWrite : ∃ (c : Instr) (s u : State), exec c s = .next u ∧ (∀ t good, c ≠ .fuseWriteComplete t good) ∧ fuseBusy s = false :=
  ⟨.vddRetLow 0, live, _, rfl, nofun, by decide⟩

theorem witness_QueueRunsInOrder : ∃ (cs q : List Instr) (s : State), s.pending = cs ++ q :=
  ⟨[.beatBoundary 0], [.requestTake 1], { live with pending := [.beatBoundary 0, .requestTake 1] }, rfl⟩

theorem witness_ResetsKeepWhatTheyKeep :
    ∃ s : State, s.sys.pow.power = .run ∧ s.sys.pow.porAt ≠ some s.time.now ∧ resetHeld s = false ∧ s.nm.asleep = none ∧ s.ciph.zeroizing = false ∧ fuseBusy s = false :=
  ⟨live, by decide⟩

theorem witness_TimePassesInCoreCycles :
    (∃ s : State, s.pending = []) ∧ (∃ (t : Nat) (s : State), s.time.now ≤ t ∧ 0 ≤ s.time.corr) ∧ (∃ (t : Nat) (s : State), s.time.now ≤ t ∧ s.time.corr < 0) ∧
    (∃ t1 t2 : Nat, t1 ≤ t2) ∧ (∃ (s : State) (t0 t : Nat), t ≤ (State.atTime t0 s).time.now) ∧ (∃ s : State, s.late = [] ∧ s.dark.lowAt = none) ∧
    (∃ s : State, s.late ≠ [] ∧ s.late.Pairwise (fun a b => lateFirst a b = true)) ∧
    (∃ (s : State) (d : Nat) (e : Late) (r : List (Nat × Late)) (t : Nat), s.late = (d, e) :: r ∧ s.dark.lowAt = none ∧ t ≤ d) ∧
    (∃ (s : State) (d : Nat) (e : Late) (t : Nat), s.late = [(d, e)] ∧ d < t ∧ coreOn s = true ∧
      (runLate e (State.atTime d { s with late := [] })).late = [] ∧ (runLate e (State.atTime d { s with late := [] })).dark.lowAt = none) :=
  ⟨⟨live, rfl⟩, ⟨0, live, by decide⟩, ⟨5, { live with time := { live.time with corr := -5, p := 1 } }, by decide⟩, ⟨1, 2, by decide⟩, ⟨live, 7, 6, by decide⟩, ⟨live, by decide⟩,
   ⟨{ live with late := [(3, .needEnds 5), (4, .claim 1)] }, by decide⟩, ⟨{ live with late := [(3, .claim 1)] }, 3, .claim 1, [], 3, by decide⟩,
   ⟨{ live with late := [(3, .slotStale 1 2)] }, 3, .slotStale 1 2, 4, by decide⟩⟩

/-! ### Commands that are not well formed -/

theorem test_wf_time : (Instr.beatBoundary (2 ^ 64)).wf = false := by decide
theorem test_wf_mailbox : (Instr.hello 0 { mbx := 8, seq := 1 }).wf = false := by decide
theorem test_wf_version : (Instr.hello 0 { mbx := 0, seq := 1, verMaj := 16 }).wf = false := by decide
theorem test_wf_trailer : (Instr.hello 0 { mbx := 0, seq := 1, auth := some ⟨0, [1, 2, 3]⟩ }).wf = false := by decide
theorem test_wf_length : (Instr.hello 0 { mbx := 0, seq := 1, args := List.replicate 2045 0 }).wf = false := by decide +kernel
theorem test_wf_sync : (Instr.gptpSyncRx 0 27 { domain := 256, seqId := 0 }).wf = false := by decide
theorem test_wf_announce : (Instr.announceRx 0 0 { domain := 0, gm := { identity := 2 ^ 64 }, stepsRemoved := 0, srcClock := 0 }).wf = false := by decide
theorem test_wf_pdelay : (Instr.pdelayReqRx 0 0 { seqId := 65536 }).wf = false ∧ (Instr.pdelayRespRx 0 0 ⟨65536, 0, 0, 0, 0⟩).wf = false := by decide
theorem test_wf_can : (Instr.canFrameValid 0 23 { format := 5, id := 0 } 0).wf = false := by decide
theorem test_wf_bulk : (Instr.bulkRequestSubmit 0 { requester := 8, op := .ctr }).wf = false := by decide
theorem test_wf_ring : (Instr.ringGapMarker 0 (.can 24)).wf = false ∧ (Instr.ringGapMarker 0 (.evq 8)).wf = false := by decide
theorem test_wf_ports : (Instr.portLinkLoss 0 28).wf = false ∧ (Instr.frameTxStart 0 31).wf = false ∧ (Instr.gateStarveDrop 0 0 8).wf = false := by decide
theorem test_wf_objects : (Instr.tioActiveEdge 0 32).wf = false ∧ (Instr.canTxStart 0 24).wf = false ∧ (Instr.linSlotStart 0 8 true).wf = false ∧
    (Instr.wakeToExpiry 0 60).wf = false ∧ (Instr.clusterTimerExpiry 0 64).wf = false ∧ (Instr.leaseExpiry 0 40).wf = false := by decide
theorem test_wf_bridge : (Instr.pcieRead 0 1 0 1).wf = false ∧ (Instr.pcieRead 0 0 0 0).wf = false ∧ (Instr.msixMessage 0 52).wf = false ∧
    (Instr.ringPtrConsWrite 0 15 .pcie .direct 0).wf = false ∧ (Instr.registerWrite 0 .pcie 0x200000 0).wf = false := by decide
theorem test_wf_accepts : (Instr.hello (2 ^ 64 - 1) { mbx := 7, seq := 1, verMaj := 15, auth := some ⟨0, [1, 2, 3, 4]⟩ }).wf = true := by decide

/-! ### The worked examples of the spec -/

/-- Working time in 2^-16 ns, from ns. -/
def ns (n : Int) : Int := n * 65536

/-- Cameras and a depth sensor on one time base (after R80): a short time, and the distance to START of TIO4. -/
theorem test_short_time : shortTime (ns 999600000000) = 3167587328 ∧ shortDist (ns 999600000000) 0xD4A51000 = 400000000 := by decide

/-- One relayed Sync (after R101): the outgoing cSRO, and what is added to correctionField. -/
theorem test_relayed_sync : rateRatio 2638828 (-1759218) = 879607 ∧ scaleRr 2638828 (-1759218) (ns 3459) = 226689114 := by decide

/-- Switchover (after R110): with f = +2.5 ppm a correction of +37 ns gives p = +835,628,837. -/
theorem test_phase_term : phaseTerm 43980465 0 (some 37) = 835628837 := by decide

/-- A commit and an overrun (after R31): the list ends, and its commit of two sets is armed as 0x0041. -/
theorem test_commit_armed :
    let x : Staged := ⟨.fwSwap, 0, 0x0501, 1, 2, 3, [], false⟩
    let u := passTo 1 (after { live with beat := { live.beat with lists := true, listBusy := true, lastId := 0x40, staged := [x, x] } } (.taskListFinish 0))
    (u.beat.armedId, armedSets u) = (0x41, 2) := by decide +kernel

/-- The same: a boundary finds the list unfinished, and BEAT_OVR counts 6. -/
theorem test_beat_overrun :
    regGet (after { live with beat := { live.beat with lists := true, listBusy := true, next := 0 }, regs := [(0x108, 5)] } (.beatBoundary 0)) 0x108 = 6 := by
  decide +kernel

/-- A control window (after R217): S of a list that comes late, and the wire time of 1,542 bytes at 1 Gbit/s. -/
theorem test_list_start : listStart (ns 1000000000000) 300000 (ns 1000300000000) (ns 250000) = (ns 1000300600000, true) := by decide

/-- Order against delivery (after R265): number 102 after 100, then 101, with IN_ORDER clear and set. -/
theorem test_recovery_ahead :
    let u := recover { rec0 := [0x200000], r := 100, hist := 15, takeAny := false } 0 (some 102)
    (u.1, u.2.hist) = (true, 13) := by decide
theorem test_recovery_behind :
    let u := fun (r : Word) => recover { rec0 := [r], r := 102, hist := 13, takeAny := false } 0 (some 101)
    ((u 0x200000).1, (u 0x200000).2.hist, (u 0x200000).2.ooo) = (true, 15, 1) ∧ ((u 0x20200000).1, (u 0x20200000).2.hist, (u 0x20200000).2.oooDiscard) = (false, 13, 1) := by
  decide

/-- A camera stream with its filter 40 and its meter 17, holding tokens in tenths of a byte. -/
def camera (tc tp : Nat) : State :=
  { live with
    fwd := { handle := [(5, [0x040A0000])] }
    str := { filter := [(40, { rec0 := [0, 0x80880000] })]
             meter := [(17, { rec0 := [0x80000000, 12500000, 4000, 25000000, 8000], tc := tc * 16777216 / 10, tp := tp * 16777216 / 10 })] } }

/-- A burst through a meter (after R257): frame 1 is green, frame 5 yellow, frame 10 red. -/
theorem test_meter_green :
    let u := filterSteps 1000 (some 5) none false (camera 40000 80000)
    (u.1, u.2.1, (meterOf u.2.2 17).tc, (meterOf u.2.2 17).tp) = (none, false, 3000 * 16777216, 7000 * 16777216) := by decide
theorem test_meter_yellow :
    let u := filterSteps 1000 (some 5) none false (camera 4080 48160)
    (u.1, u.2.1, (meterOf u.2.2 17).tc, (meterOf u.2.2 17).tp) = (none, true, 408 * 16777216, 3816 * 16777216) := by decide
theorem test_meter_red : (filterSteps 1000 (some 5) none false (camera 9168 8336)).1 = some 0x0C := by decide

/-- Freshness (after R347): 0x02 is 4 above FRESH; a replayed 0xFE lies 252 above. -/
theorem test_fresh : freshCandidate 0x123FE 1 0x02 = 0x12402 ∧ freshCandidate 0x12402 1 0xFE = 0x12402 + 252 := by decide

/-- A LIN receive ring overflows (after R523): ten words find 6 free slots, and the marker leaves a depth of 1,022. -/
theorem test_ring_gap :
    let s := ringPush (.lin 2) (List.replicate 10 1) { live with rings := [(42, { prod := 1018 })] }
    ((ringOf s (.lin 2)).gap, ringDepth s (.lin 2), ringDepth (ringCloseGap (.lin 2) (s.atTime 1000)) (.lin 2)) = (some (6, 1), 1018, 1022) := by decide +kernel

/-- A gate list and its arming (after R568): the header and the list of port 13. -/
theorem test_gate_list :
    let q := requestOf 3 [0x100D0302, 0x144, 0x23000000, 0, 0x68020000, 0, 0x03E80000, 0, 0x000493E0, 0xC0000000, 0x2710, 0xBF000000, 0x00046CD0]
    let u := after { live with mbx := { live.mbx with box := [(3, { state := 1, verMaj := 2, verMin := 3, ack := 0x143 })] } } (.schedGateList 0 q)
    (gateBank (egressOf u 13).gates 1).entries = [(0xC0000000, 10000), (0xBF000000, 290000)] ∧ (gateBank (egressOf u 13).gates 1).cycle = 300000 ∧
      (boxOf u 3).ack = 0x144 := by decide +kernel

/-- The same: the response to the arm message. -/
theorem test_response : message live 2 0x0303 0x145 2 3 true false 0 [0x93] = [0x20050303, 0x145, 0x23200000, 0, 0x93] := by decide

/-- A reset between two responses (before R543): 0x143, accepted with OK before, is answered DUPLICATE with status 0. -/
theorem test_duplicate :
    let u := after { live with mbx := { live.mbx with box := [(3, { state := 1, verMaj := 2, verMin := 3, ack := 0x143, statuses := [(0x143, 0)] })] } }
      (.filtSwap 0 { mbx := 3, seq := 0x143 })
    ringWords u (.rsp 3) 1 4 = [0x143, 0x2330000C, 0, 0] := by decide +kernel

/-- A fence after a mistaken write (after R503): a write to SYS.BEAT_SEQ fails, and PROOF0 reads 0x0100_0104. -/
theorem test_fence : regRead (after live (.registerWrite 0 .pcie 0x104 0)) (rPROOF 0) = 0x01000104 := by decide +kernel

/-- A harness fault in one Beat (after R554): seven pairs that are not written, from 174 to 222. -/
theorem test_storm_summary :
    let o := summaryOf 1 ((List.range 7).map (fun i => ⟨174 + 8 * i, 0, 1, 55020 + 10 * i, 55020 + 10 * i, 0, 1⟩))
    (o.source, o.cause, o.detail, o.first, o.last) = (464, 1, 0x757000000, 55020, 55080) := by decide

/-- With its defaults the firewall permits within a zone and denies between zones (R273). -/
theorem test_firewall_default :
    verdict State.reset 0 0 { exact := [], ternary := [] } 0 = .dflt true ∧ verdict State.reset 0 0 { exact := [], ternary := [] } 1 = .dflt false := by decide

/-! ### Published values of the primitives that the spec names (R392) -/

/-- The 16 bytes 00 to 0F, and on. -/
def counting (n : Nat) : Bytes := (List.range n).map (fun i => BitVec.ofNat 8 i)

/-- FIPS 197, appendix C: AES-128 and AES-256 of 00112233…EEFF, and the way back. -/
theorem test_aes :
    aesBlock (counting 16) 0x00112233445566778899AABBCCDDEEFF = 0x69C4E0D86A7B0430D8CDB78070B4C55A ∧
    aesBlock (counting 32) 0x00112233445566778899AABBCCDDEEFF = 0x8EA2B7CA516745BFEAFC49904B496089 ∧
    aesInv (counting 32) 0x8EA2B7CA516745BFEAFC49904B496089 = 0x00112233445566778899AABBCCDDEEFF := by decide +kernel

/-- FIPS 180-4: the hashes of abc. -/
theorem test_sha :
    bytesNat (sha false [0x61, 0x62, 0x63]) = 0xBA7816BF8F01CFEA414140DE5DAE2223B00361A396177A9CB410FF61F20015AD ∧
    bytesNat (sha true [0x61, 0x62, 0x63]) =
      0xCB00753F45A35E8BB5A03D699AC65007272C32AB0EDED1631A8B605A43FF5BED8086072BA1E7CC2358BAECA134C825A7 := by decide +kernel

/-- RFC 4493: AES-CMAC of no bytes. -/
theorem test_cmac : bytesNat (cmac (beBytes 0x2B7E151628AED2A6ABF7158809CF4F3C 16) []) = 0xBB1D6929E95937287FA37D129B756746 := by decide +kernel

/-- RFC 6979, A.2.5: P-256, SHA-256, the message sample. -/
theorem test_ecdsa :
    bytesNat (ecdsaSign false (beBytes 0xC9AFA9D845BA75166B5C215767B1D6934E50C3DB36E89B127B8A622B120F6721 32) [0x73, 0x61, 0x6D, 0x70, 0x6C, 0x65]) =
      0xEFD48B2AACB6A8FD1140DD9CD45E81D69D2C877B56AAF991C34D0EA84EAF3716F7CB1C942D657C41D436C7A1B6E29F65F3E900DBB9AFF4064DC4AB2F843ACDA8 := by
  decide +kernel

end Sys2Proof.Tests
end

section
/-!
PROOFS. The reset state (R505, R634, R636).
-/
namespace Sys2Proof.Machine
open Sys2Proof Sys2Proof.Safety

/-- No port is in service at reset (R636). -/
theorem portUp_reset {p : Nat} (hp : p < 28) : portUp State.reset p = false := if_pos hp

/-- Every ring is empty at reset (R505). -/
theorem ringOf_reset (id : RingId) : ringOf State.reset id = {} := by cases id <;> rfl

/-- Settles O7: the reset state, field by field. -/
theorem resetStateIsAsTheSpecSays : Obligations.ResetStateIsAsTheSpecSays := by
  unfold Obligations.ResetStateIsAsTheSpecSays
  exact ⟨rfl, rfl, rfl, rfl, rfl, rfl, rfl, rfl, rfl, rfl, rfl, rfl, fun _ => rfl, fun _ => rfl, ringOf_reset, rfl, rfl, rfl, rfl, rfl,
    fun _ hp => portUp_reset hp⟩

end Sys2Proof.Machine
end

section
/-!
PROOFS. The events of the Beat, of the mapping and of the sources of working time (R18 to R61, R102 to R112).
-/
namespace Sys2Proof.Machine
open Sys2Proof Sys2Proof.Safety

/-! ### What the events of the Beat and of the mapping do -/

/-- A boundary whose working time has come is issued (R18, R21). -/
theorem beatBoundary_of_due (s : State) (h : (anchorReached s).beat.next ≤ wtNow (anchorReached s)) :
    beatBoundary s = boundary (anchorReached s).beat.next (anchorReached s) := if_neg (Int.not_lt.mpr h)

/-- While the core runs, BEAT_BOUNDARY issues the boundary that is due (R18, R21, R50). -/
theorem does_beatBoundary : Does .beatBoundary (fun s => (anchorReached s).beat.next ≤ wtNow (anchorReached s))
    (fun s => boundary (anchorReached s).beat.next (anchorReached s)) :=
  does_of beatBoundary (fun _ _ => rfl) fun s _ h => beatBoundary_of_due s h

/-- A mapping that steps nothing comes in force at its anchor (R48). -/
theorem anchorReached_of_plain {s : State} {a : Nat} {q : MapReq} (hp : s.time.pend = some (a, q)) (ha : a ≤ s.time.now)
    (hq : stepping q = false) : anchorReached s = takeMapping a q s := by
  simp [anchorReached, hp, Nat.not_lt.mpr ha, hq]

/-- A mapping that steps working time starts the gate lists reached, and the Beat, the pins and the toggle answer it (R21, R75, R114, R233, R249). -/
theorem anchorReached_of_stepping {s : State} {a : Nat} {q : MapReq} (hp : s.time.pend = some (a, q)) (ha : a ≤ s.time.now)
    (hq : stepping q = true) :
    anchorReached s = afterStep a (sgateListsAt (wtAt s.time.map a) (gateListsAt (wtAt s.time.map a) (takeMapping a q s))) := by
  simp [anchorReached, hp, Nat.not_lt.mpr ha, hq]

/-- A correction that has reached zero ends the slew, unless a newer one is on its way (R58). -/
theorem slewEnd_of_zero {s : State} (hon : s.time.corrOn = true) (hz : s.time.corr = 0)
    (hp : ∀ a q, s.time.pend = some (a, q) → q.corr = none) (hw : ∀ q, s.time.wait = some q → q.corr = none) :
    slewEnd s = requestMapping { p := some 0, causes := [3] } { s with time := { s.time with corrOn := false } } := by
  unfold slewEnd
  rw [if_pos (by simp [hon, hz])]
  refine if_neg ?_
  simp only [Bool.or_eq_true, not_or]
  constructor
  · split
    · rename_i a q h
      simp [hp a q h]
    · simp
  · split
    · rename_i q h
      simp [hw q h]
    · simp

/-- A hardware switch goes on to the host's choice where a host command of the same cycle has been taken (R107, R109). -/
theorem hardSwitch_eq (i : Nat) (res : Int) (s : State) : hardSwitch i res s =
    if s.net.hostDone.map (·.1) = some s.time.now then hostTo ((s.net.hostDone.map (·.2)).getD 0) (switchTo i res s) else switchTo i res s := by
  unfold hardSwitch
  cases s.net.hostDone <;> simp

/-- The pair goes back to slot A after the hold-off (R109). -/
theorem hotRevert_of_due {s : State} {a b : Nat} {r : Int} {since : Nat} (hpair : s.net.pair = some (a, b)) (hres : residualOf s a = some r)
    (hsince : (slotOf4 s a).residualSince = some since) (hrev : s.net.revert = true) (hsrc : s.time.src = 1) (hdom : s.time.domain ≠ a)
    (hoff : since + s.net.holdOff * 1000000000 ≤ s.time.now) : hotRevert s = hardSwitch a r s := by
  simp [hotRevert, hpair, hres, hsince, hrev, hsrc, hdom, hoff]

/-- A task list that runs is finished: what it staged is armed at the end of the cycle, and the next list starts where this one was late (R28, R30, R31). -/
theorem listFinish_of_busy {s : State} (hl : s.beat.lists = true) (hb : s.beat.listBusy = true) :
    listFinish s =
      let run := (s.time.now - s.beat.listStart) * 1000 / (31250 * 2 ^ s.beat.k)
      let e := giveWay (.arm s.beat.staged.length) { s with beat := { s.beat with
        listBusy := false, listLate := false, runPeak := max s.beat.runPeak run, runSum := s.beat.runSum + run, runs := s.beat.runs + 1 } }
      if s.beat.listLate = true then startList e else e := by
  simp [listFinish, hl, hb]

/-- A slot without a valid Sync for its timeout loses its source (R103, R111). -/
theorem syncLost_of_timeout {s : State} {i : Nat} (hv : (slotOf4 s i).valid = true) (ht : lastSyncOf s i + syncTimeout (slotCfg s i) ≤ s.time.now) :
    syncLost i s = sourceLost i 0x02 (match slavePort s i with | some p => countNet i p 7 s | none => s) :=
  if_pos (by simp [hv, ht])

/-- A port without an Announce for the timeout of its slot forgets the last one, and the best master is chosen again (R111, R112). -/
theorem announceLost_of_timeout {s : State} {i port : Nat} {v : PortInfo} (hv : tget none s.net.announce (i * 32 + port) = some v)
    (he : slotEnabled s i = true) (ht : v.at0 + announceTimeout (slotCfg s i) ≤ s.time.now) :
    announceLost i port s = runBmca i (timeEvent (38 + i) 0x03 (countNet i port 7 (setAnnounce i port none s))) := by
  simp only [announceLost, hv, he, ht, decide_true, Bool.and_self, if_true]

/-- Settles O21: each event of the Beat, of the mapping and of the sources of working time does what its rule says. -/
theorem beatAndMappingEventsTakeEffect : Obligations.BeatAndMappingEventsTakeEffect := by
  unfold Obligations.BeatAndMappingEventsTakeEffect
  refine ⟨does_beatBoundary, ?finish, fun n s => rfl, fun a q hstep hjump => ?plain, fun a q hq => ?step, ?slew, fun a b r since => ?revert, fun i => ?sync,
    fun i port v => ?announce⟩
  case finish => exact does_of listFinish (fun t s => rfl) fun s _ ⟨hl, hb⟩ => listFinish_of_busy hl hb
  case plain => exact does_of anchorReached (fun t s => rfl) fun s _ ⟨hp, ha⟩ => anchorReached_of_plain hp ha (by simp [stepping, hstep, hjump])
  case step => exact does_of anchorReached (fun t s => rfl) fun s _ ⟨hp, ha⟩ => anchorReached_of_stepping hp ha (by simpa [stepping] using hq)
  case slew => exact does_of slewEnd (fun t s => rfl) fun s _ ⟨hon, hz, hp, hw⟩ => slewEnd_of_zero hon hz hp hw
  case revert =>
    refine does_of hotRevert (fun t s => rfl) fun s _ ⟨hpair, hres, hsince, hrev, hsrc, hdom, hoff⟩ => ?_
    rw [hotRevert_of_due hpair hres hsince hrev hsrc hdom hoff, hardSwitch_eq]
  case sync => exact does_of (syncLost i) (fun t s => rfl) fun s _ ⟨hv, ht⟩ => syncLost_of_timeout hv ht
  case announce => exact does_of (announceLost i port) (fun t s => rfl) fun s _ ⟨hv, he, ht⟩ => announceLost_of_timeout hv he ht

end Sys2Proof.Machine
end

section
/-!
PROOFS. The SYS family of requests: settings, Beat, ports, bridge, mirrors, packet buffer (R564).
-/
namespace Sys2Proof.Machine
open Sys2Proof Sys2Proof.Safety

/-! ### The SYS requests, their words being in range (R564) -/

/-- Settings take AUTH_SLOT and NOTICE_MBX (R545, R546). -/
theorem sysSettings_valid {q : Req} (s : State) (hlen : q.args.length = 1) (h4 : only (mw q 4) [(31, 24), (23, 21)] = true) :
    sysSettings q s = ok { s with mbx := { s.mbx with authSlot := mf q 4 31 24, noticeMbx := mf q 4 23 21 } } :=
  need_ok hlen (by simp [h4])

/-- The Beat length of the next second is set (R20). -/
theorem sysBeatLength_valid {q : Req} (s : State) (hlen : q.args.length = 1) (h4 : only (mw q 4) [(2, 0)] = true) :
    sysBeatLength q s =
      okWith (fullTime ((wtNow s / wtSec + 1) * wtSec)) { s with beat := { s.beat with kNext := mf q 4 2 0, kCmd := some (s.time.now, kDue s) } } :=
  need_ok hlen (by simp [h4])

/-- A port takes its record (R131). -/
theorem sysPort_valid {q : Req} (s : State) (hlen : q.args.length = 3) (h4 : portWord0 q.args = true) (h5 : portWord1 q.args = true)
    (h6 : portWord2 q.args = true) : sysPort q s = ok (portCommand q.args s) :=
  need_ok hlen (by simp [h4, h5, h6])

/-- Port status answers the record of R143, cut for the first versions, and clears the counters under CLEAR (R143, R562). -/
theorem sysPortStatus_valid {q : Req} (s : State) (hlen : q.args.length = 1) (h4 : only (mw q 4) [(4, 0)] = true) (hp : mf q 4 4 0 < 28) :
    sysPortStatus q s = okWith (if q.verMaj = 1 ∧ q.verMin ≤ 2 then (portStatus s (mf q 4 4 0)).take 8 else portStatus s (mf q 4 4 0))
      (if q.clear then setPort (mf q 4 4 0)
        { portOf s (mf q 4 4 0) with down := 0, flap := 0, fecCorr := 0, fecUncorr := 0, pcsErr := 0, trainFail := 0, beaconMiss := 0 } s
      else s) := by
  refine (need_ok hlen (by simp [h4, hp])).trans ?_
  simp

/-- An MDIO frame leaves; a read answers a free value (R123). -/
theorem sysMdio_valid {q : Req} (s : State) (hlen : q.args.length = 2) (h5 : only (mw q 5) [(15, 0)] = true) :
    sysMdio q s = if bit (mw q 4) 29 then okWith [0] (emit (.mdio s.time.now q.args) s)
      else okWith [word ((freeVal (emit (.mdio s.time.now q.args) s)).1.toNat % 65536)] (freeVal (emit (.mdio s.time.now q.args) s)).2 :=
  need_ok hlen (by simp [h5])

/-- MAC read answers the entries from an index on, as far as the table goes (R561). -/
theorem sysMacRead_valid {q : Req} (s : State) (hlen : q.args.length = 2) (h4 : only (mw q 4) [(13, 0)] = true) (h5 : only (mw q 5) [(6, 0)] = true)
    (hlo : 1 ≤ mf q 5 6 0) (hhi : mf q 5 6 0 ≤ 64) :
    sysMacRead q s = okWith ((List.range (min (mf q 5 6 0) (16384 - mf q 4 13 0))).flatMap
      (fun i => (List.range 4).map (rw (macGet s (mf q 4 13 0 + i))))) s :=
  need_ok hlen (by simp [h4, h5, hlo, hhi])

/-- The ageing time is set (R171). -/
theorem sysAgeing_valid {q : Req} (s : State) (hlen : q.args.length = 1)
    (h4 : (mw q 4).toNat = 0 ∨ (10 ≤ (mw q 4).toNat ∧ (mw q 4).toNat ≤ 1000000)) :
    sysAgeing q s = ok { s with fwd := { s.fwd with ageing := (mw q 4).toNat } } :=
  need_ok hlen (by simpa using h4)

/-- MAC flush removes the entries asked for, and answers how many they were (R172). -/
theorem sysMacFlush_valid {q : Req} (s : State) (hlen : q.args.length = 1) (h4 : only (mw q 4) [(31, 30), (28, 24), (11, 0)] = true) (hm : mf q 4 31 30 ≠ 3) :
    sysMacFlush q s =
      let u := macFlush (mf q 4 31 30) (if mf q 4 31 30 = 0 then mf q 4 28 24 else mf q 4 11 0) s
      okWith [word (s.fwd.mac.length - u.fwd.mac.length)] u :=
  need_ok hlen (by simp [h4, hm])

/-- The partitions of the packet buffer are set, once the lines and the rings have given back their cells (R183, R187). -/
theorem sysBuffer_valid {q : Req} (s : State) (hlen : q.args.length = 33) (h4 : only (mw q 4) [(17, 0)] = true) (h4' : mf q 4 17 0 ≤ 32768)
    (h5 : only (mw q 5) [(17, 0)] = true) (h5' : mf q 5 17 0 ≤ 196608) (hp : ∀ p < 31, only (rw q.args (2 + p)) [(31, 20), (13, 0)] = true)
    (hsum : mf q 4 17 0 + (List.range 31).foldl (fun n p => n + fld q.args (2 + p) 13 0) 0 ≤ 196608) :
    sysBuffer q s = ok (bufNote { ringsGive (releaseLines s) with buf := { (ringsGive (releaseLines s)).buf with cfg := q.args } }) := by
  refine need_ok hlen fun e he => ?_
  rcases List.mem_append.mp he with he | he
  · rcases List.mem_append.mp he with he | he
    · simp only [List.mem_cons, List.not_mem_nil, or_false] at he
      rcases he with rfl | rfl
      · exact (Bool.and_eq_true _ _).mpr ⟨h4, decide_eq_true h4'⟩
      · exact (Bool.and_eq_true _ _).mpr ⟨h5, decide_eq_true h5'⟩
    · obtain ⟨p, hmem, rfl⟩ := List.mem_map.mp he
      exact hp p (List.mem_range.mp hmem)
  · rw [List.mem_singleton.mp he]
    exact decide_eq_true hsum

/-- Buffer status answers the use of the cells, and the lowest number of free cells starts anew under CLEAR (R189). -/
theorem sysBufferStatus_valid {q : Req} (s : State) (hlen : q.args = []) :
    sysBufferStatus q s =
      let e := ringsGive (releaseLines s)
      okWith ([word (bufFree e), word (sharedFree e), word e.buf.sysUsed, word e.buf.freeMin]
          ++ (List.range 31).map (fun p => packW [(18, sharedUsed e p), (14, guarUsed e p)]))
        (if q.clear then { e with buf := { e.buf with freeMin := bufFree e } } else e) :=
  need_ok (l := []) (by simp [hlen]) (by simp)

/-- The counters of a bridge port are answered, and return to 0 under CLEAR (R196). -/
theorem sysBridgeCounters_valid {q : Req} (s : State) (hlen : q.args.length = 1) (h4 : only (mw q 4) [(4, 0)] = true) (hp : mf q 4 4 0 ≤ 30) :
    sysBridgeCounters q s =
      let c := fun w => tget 0 s.fwd.counts (mf q 4 4 0 * 64 + w)
      okWith ([word (c 0)] ++ split64 (c 1) ++ [word (c 3)] ++ split64 (c 4) ++ (List.range 33).map (fun i => word (c (6 + i))))
        (if q.clear then { s with fwd := { s.fwd with counts := clearRange (mf q 4 4 0 * 64) 64 s.fwd.counts } } else s) :=
  need_ok hlen (by simp [h4, hp])

/-- Settles O9: each SYS request in range is answered with what it reads, and sets what it names. -/
theorem systemRequestsTakeEffect : Obligations.SystemRequestsTakeEffect := by
  unfold Obligations.SystemRequestsTakeEffect
  refine ⟨?settings, ?beat, ?port, ?status, ?write, ?read, ?macRead, ?ageing, ?flushPort, ?flushFid, ?flushBoth, ?buffer, ?bufferStatus, ?counters⟩
  case settings => exact gives_of sysSettings (fun _ _ _ => rfl) fun q e ⟨hlen, h4⟩ => sysSettings_valid e hlen h4
  case beat => exact gives_of sysBeatLength (fun _ _ _ => rfl) fun q e ⟨hlen, h4⟩ => sysBeatLength_valid e hlen h4
  case port => exact gives_of sysPort (fun _ _ _ => rfl) fun q e ⟨hlen, h4, h5, h6⟩ => sysPort_valid e hlen h4 h5 h6
  case status => exact gives_of sysPortStatus (fun _ _ _ => rfl) fun q e ⟨hlen, h4, hp⟩ => sysPortStatus_valid e hlen h4 hp
  case write =>
    refine gives_of sysMdio (fun _ _ _ => rfl) fun q e ⟨hlen, h5, hw⟩ => ?_
    rw [sysMdio_valid e hlen h5]
    exact if_pos hw
  case read =>
    refine gives_of sysMdio (fun _ _ _ => rfl) fun q e ⟨hlen, h5, hw⟩ => ?_
    rw [sysMdio_valid e hlen h5]
    exact if_neg (by simp [hw])
  case macRead => exact gives_of sysMacRead (fun _ _ _ => rfl) fun q e ⟨hlen, h4, h5, hlo, hhi⟩ => sysMacRead_valid e hlen h4 h5 hlo hhi
  case ageing => exact gives_of sysAgeing (fun _ _ _ => rfl) fun q e ⟨hlen, h4⟩ => sysAgeing_valid e hlen h4
  case flushPort =>
    refine gives_of sysMacFlush (fun _ _ _ => rfl) fun q e ⟨hlen, h4, hm⟩ => ?_
    rw [sysMacFlush_valid e hlen h4 (by omega), hm]
    rfl
  case flushFid =>
    refine gives_of sysMacFlush (fun _ _ _ => rfl) fun q e ⟨hlen, h4, hm⟩ => ?_
    rw [sysMacFlush_valid e hlen h4 (by omega), hm]
    rfl
  case flushBoth =>
    refine gives_of sysMacFlush (fun _ _ _ => rfl) fun q e ⟨hlen, h4, hm⟩ => ?_
    rw [sysMacFlush_valid e hlen h4 (by omega), hm]
    rfl
  case buffer =>
    exact gives_of sysBuffer (fun _ _ _ => rfl) fun q e ⟨hlen, h4, h4', h5, h5', hp, hsum⟩ => sysBuffer_valid e hlen h4 h4' h5 h5' hp hsum
  case bufferStatus => exact gives_of sysBufferStatus (fun _ _ _ => rfl) fun q e hlen => sysBufferStatus_valid e hlen
  case counters => exact gives_of sysBridgeCounters (fun _ _ _ => rfl) fun q e ⟨hlen, h4, hp⟩ => sysBridgeCounters_valid e hlen h4 hp

/-! ### The requests that stage (R23) -/

/-- A bridge-port record in range is staged (R152). -/
theorem sysBridgePort_valid {q : Req} (s : State) (hlen : q.args.length = 4) (h4 : only (mw q 4) [(31, 4)] = true) (hn : mf q 4 31 27 ≠ 31)
    (hv1 : 1 ≤ mf q 4 26 15) (hv2 : mf q 4 26 15 ≤ 4094) (ht : mf q 4 11 10 ≠ 3) (h5 : only (mw q 5) [(23, 0)] = true) (h6 : only (mw q 6) [(31, 2)] = true)
    (hl1 : 1518 ≤ bpMaxLen q.args) (hl2 : bpMaxLen q.args ≤ 9216) (hlearn : bpLearnLimit q.args ≤ 16384) (h7 : only (mw q 7) [(31, 26)] = true)
    (hmir : mf q 7 29 28 = 0 ∨ (mf q 7 31 30 ≠ 0 ∧ mf q 7 29 28 ≠ mf q 7 31 30)) :
    sysBridgePort q s = stage (.bridgePort (mf q 4 31 27) q.args) s := by
  simp only [mf, mw, Nat.reduceSub] at h4 hn hv1 hv2 ht h5 h6 h7 hmir
  refine need_ok hlen ?_
  simp only [List.mem_cons, List.not_mem_nil, or_false]
  rintro e (rfl | rfl | rfl | rfl)
  · simp [fld, h4, hn, hv1, hv2, ht]
  · exact h5
  · simp [h6, hl1, hl2, hlearn]
  · have h : (!(decide (fld q.args 3 29 28 ≠ 0) && (decide (fld q.args 3 31 30 = 0) || decide (fld q.args 3 29 28 = fld q.args 3 31 30)))) = true := by
      simp only [Bool.not_eq_true', Bool.and_eq_false_iff, Bool.or_eq_false_iff, decide_eq_false_iff_not, ne_eq, Decidable.not_not]
      exact hmir
    simp only [h7, Bool.true_and]
    exact h

/-- A VLAN entry in range is staged (R153). -/
theorem sysVlan_valid {q : Req} (s : State) (hlen : q.args.length = 4) (h4 : only (mw q 4) [(11, 0)] = true) (hv1 : mf q 4 11 0 ≠ 0) (hv2 : mf q 4 11 0 ≠ 4095)
    (h5 : bit (mw q 5) 31 = false) (h6 : bit (mw q 6) 31 = false) (h7 : only (mw q 7) [(31, 18)] = true) :
    sysVlan q s = stage (.vlan (mf q 4 11 0) (q.args.drop 1)) s :=
  need_ok hlen (by simp [h4, hv1, hv2, h5, h6, h7])

/-- A MAC entry in range is answered by the state of its bucket: full, taken by a static entry of its key, or free for it (R165, R684). -/
theorem sysMacWrite_valid {q : Req} (s : State) (hlen : q.args.length = 4) (hg : ¬(macType q.args = 3 ∧ flag q.args 0 24 = false))
    (hi : ¬(macType q.args = 2 ∧ flag q.args 0 24 = true)) (ht : macType q.args < 6) (hs : macType q.args = 2 ∨ macSrcLock q.args = false)
    (hd : macDestOk q.args = true) (h7 : rw q.args 3 = 0) :
    sysMacWrite q s =
      if macType q.args ≠ 0 ∧ 4 ≤ macFixed (projected s) q.args then tableFull s
      else if macType q.args = 1 ∧ (macStatic s q.args = true ∨ macStatic (projected s) q.args = true) then conflictAt 5 s
      else stage (.mac q.args) s := by
  refine (need_ok hlen ?_).trans ?_
  · have hgroup : (decide (macType q.args = 3) && !flag q.args 0 24) = false := Bool.eq_false_iff.mpr fun h => hg (by simpa using h)
    have hsingle : (decide (macType q.args = 2) && flag q.args 0 24) = false := Bool.eq_false_iff.mpr fun h => hi (by simpa using h)
    simp only [List.mem_cons, List.not_mem_nil, or_false]
    rintro e (rfl | rfl | rfl | rfl)
    · simp only [hgroup, hsingle, Bool.not_false, Bool.and_self]
    · simpa [ht] using hs
    · exact hd
    · simp [h7]
  · simp

/-- A mirror session in range is staged, unless it is enabled in Field (R179, R181). -/
theorem sysMirror_valid {q : Req} (s : State) (hlen : q.args.length = 4) (h4 : only (mw q 4) [(1, 0)] = true) (h5 : only (mw q 5) [(31, 23)] = true)
    (hp : mf q 5 30 26 ≤ 28) (h6 : bit (mw q 6) 31 = false) (h7 : bit (mw q 7) 31 = false) :
    sysMirror q s = if bit (mw q 5) 31 = true ∧ s.sys.fw.lifecycle = 2 then locked s
      else (.stage (.mirror (mf q 4 1 0) (q.args.drop 1)) [word (tget 0 s.fwd.mirrorDrop (mf q 4 1 0))], s) := by
  simp only [mf, mw, Nat.reduceSub] at h4 h5 hp h6 h7
  refine (need_ok hlen ?_).trans ?_
  · simp [-List.drop_one, mw, fld, flag, h4, h5, hp, h6, h7]
  · simp [-List.drop_one, mf, mw, flag]

/-- Settles O10: the requests in range stage their records, or are refused with TABLE_FULL, CONFLICT and LOCKED. -/
theorem bridgeRequestsStageTheirSets : Obligations.BridgeRequestsStageTheirSets := by
  unfold Obligations.BridgeRequestsStageTheirSets
  refine ⟨?bridgePort, ?vlan, ?mac, ?full, ?static, ?mirror, ?field⟩
  case bridgePort =>
    exact stages_of sysBridgePort (fun _ _ _ => rfl) fun q e ⟨hlen, h4, hn, hv1, hv2, ht, h5, h6, hl1, hl2, hlearn, h7, hmir⟩ =>
      sysBridgePort_valid e hlen h4 hn hv1 hv2 ht h5 h6 hl1 hl2 hlearn h7 hmir
  case vlan =>
    exact stages_of sysVlan (fun _ _ _ => rfl) fun q e ⟨hlen, h4, hv1, hv2, h5, h6, h7⟩ => sysVlan_valid e hlen h4 hv1 hv2 h5 h6 h7
  case mac =>
    refine stages_of sysMacWrite (fun _ _ _ => rfl) fun q e ⟨hlen, hg, hi, ht, hs, hd, h7, hroom, hkey⟩ => ?_
    rw [sysMacWrite_valid e hlen hg hi ht hs hd h7, if_neg (by omega), if_neg (by rintro ⟨h1, h2⟩; simp [hkey h1] at h2)]
    rfl
  case full =>
    refine refuses_of sysMacWrite (fun _ _ _ => rfl) fun q e ⟨hlen, hg, hi, ht, hs, hd, h7, h0, hfull⟩ => ?_
    rw [sysMacWrite_valid e hlen hg hi ht hs hd h7, if_pos ⟨h0, hfull⟩]
    rfl
  case static =>
    refine refuses_of sysMacWrite (fun _ _ _ => rfl) fun q e ⟨hlen, h1, hs, hd, h7, hroom, hkey⟩ => ?_
    rw [sysMacWrite_valid e hlen (by simp [h1]) (by simp [h1]) (by omega) (.inr hs) hd h7, if_neg (by omega), if_pos ⟨h1, hkey⟩]
    rfl
  case mirror =>
    refine stages_of sysMirror (fun _ _ _ => rfl) fun q e ⟨hlen, h4, h5, hp, h6, h7, hoff⟩ => ?_
    rw [sysMirror_valid e hlen h4 h5 hp h6 h7]
    refine if_neg ?_
    rintro ⟨hon, hfield⟩
    rcases hoff with hoff | hoff
    · simp [hon] at hoff
    · exact hoff hfield
  case field =>
    refine refuses_of sysMirror (fun _ _ _ => rfl) fun q e ⟨hlen, h4, h5, hp, h6, h7, hon, hfield⟩ => ?_
    rw [sysMirror_valid e hlen h4 h5 hp h6 h7]
    exact if_pos ⟨hon, hfield⟩

end Sys2Proof.Machine
end

section
/-!
PROOFS. Memory errors, their repair, and test access by JTAG (R652 to R658).
-/
namespace Sys2Proof.Machine
open Sys2Proof Sys2Proof.Safety

/-! ### Memory errors (R652, R653) -/

/-- A corrected error of a region is counted and raised, and no more (R652). -/
theorem eccFound_corrected {r : Nat} (hr : r < 7) (off : Nat) (x : EccTarget) (s : State) :
    eccFound r off false x s = systemEventD 14 1 (pack [(4, r), (28, 0), (32, off)]) { s with sys := { s.sys with test := { s.sys.test with
      ecc := tset (0, 0) s.sys.test.ecc r (satAdd 32 (tget (0, 0) s.sys.test.ecc r).1 1, (tget (0, 0) s.sys.test.ecc r).2) } } } := by
  unfold eccFound
  exact if_neg (by omega)

/-- An uncorrectable error of a region is counted, raised, and has its consequence (R652, R653). -/
theorem eccFound_uncorrectable {r : Nat} (hr : r < 7) (off : Nat) (x : EccTarget) (s : State) :
    eccFound r off true x s = uncorrectable r off x (systemEventD 14 2 (pack [(4, r), (28, 0), (32, off)]) { s with sys := { s.sys with test := { s.sys.test with
      ecc := tset (0, 0) s.sys.test.ecc r ((tget (0, 0) s.sys.test.ecc r).1, satAdd 32 (tget (0, 0) s.sys.test.ecc r).2 1) } } }) := by
  unfold eccFound
  exact if_neg (by omega)

/-- A rule that was sound is marked, with its event (R653). -/
theorem lookupLost_fwRule {s : State} {i : Nat} (hi : i ∉ s.fw.bad) :
    lookupLost (.fwRule i) s = fwEvent 8 0 { s with fw := { s.fw with bad := s.fw.bad ++ [i] } } := by
  simp [lookupLost, hi]

/-- A learned MAC entry is removed (R653). -/
theorem lookupLost_learned {s : State} {k : Nat} (hk : macType (macGet s k) = 1) : lookupLost (.macEntry k) s = macSet k [] s := if_pos hk

/-- A record of the run in progress becomes a gap (R653, R465). -/
theorem recordLost_of_recorded {s : State} {n : Nat} {r : CsRec} (hn : n < s.cs.next) (hr : recordAt s (s.cs.runs.headD 0 + n) = some r) :
    recordLost n s = sheetEvent 0x03 { s with cs := { s.cs with
      trace := s.cs.trace.set (s.cs.next - 1 - n) { r with kind := 1, payload := pack64 [(2, 1), (30, 0), (32, 1)] } } } := by
  simp only [recordLost, hn, if_true, hr]
  rfl

/-- An error in the code or data of the control complex ends in a takeover (R597). -/
theorem controlLost_code {s : State} {off : Nat} (x : EccTarget) (ho : off < 2097152) (hp : s.sys.fw.paused = false) (hd : s.sys.fw.slotDirty = false) :
    controlLost off x s = takeover 2 s := by
  simp [controlLost, ho, hp, hd]

/-- An error in a request ring marks it (R543). -/
theorem controlLost_requestRing {s : State} {off m : Nat} (ho : 2097152 ≤ off) (hm : m ∉ s.sys.test.badRing) :
    controlLost off (.requestRing m) s =
      { s with sys := { s.sys with test := { s.sys.test with badRing := s.sys.test.badRing ++ [m] } } } := by
  simp [controlLost, Nat.not_lt.mpr ho, hm, setTest]

/-- The window in progress is discarded, and the next one begins (R440). -/
theorem windowLost_of_current {s : State} {w : DarkWindow} (h : s.dark.cur = some w) :
    windowLost s = nextWindow (setDarkSlot w.slot {} { s with dark := { s.dark with cur := none } }) := by
  simp only [windowLost, h]
  rfl

/-- A mailbox loses its journal, with its event (R543). -/
theorem retentionLost_journal {s : State} (m : Nat) (h : s.mbx.saved = none) :
    retentionLost (.journal m) s = systemEventD 10 0x03 m (setBox m (lostBox (boxOf s m)) s) := by
  simp only [retentionLost, h]

/-! ### Test access (R656 to R658) -/

/-- An instruction that the TAP does not serve acts as BYPASS (R657). -/
theorem tapTakes_unserved {s : State} {j : JtagInstr} (hp : s.sys.pow.power ≠ .standby) (hj : tapServes s j = false) :
    tapTakes j s = { s with sys := { s.sys with test := { s.sys.test with tap := some .bypass, tapReg := some 0 } } } := by
  simp only [tapTakes, hp, if_false, hj, Bool.not_false, if_true]
  rfl

/-- In Open the TAP serves every instruction, and none raises the debug alarm (R657). -/
theorem tapTakes_open {s : State} (j : JtagInstr) (hp : s.sys.pow.power ≠ .standby) (hl : s.sys.fw.lifecycle = 0) :
    tapTakes j s =
      let u := setTest (fun v => { v with tap := some j, tapReg := tapRegOf j }) s
      if !holdsReset j || s.sys.pow.scan then u
      else systemReset ((freeVal u).1.toNat % 32) (setPow (fun p => { p with scan := true }) (freeVal u).2) := by
  have hserve : tapServes s j = true := by simp [tapServes, hl]
  have hopen : opensTap j s = s := by simp [opensTap, hl]
  simp only [tapTakes, hp, if_false, hserve, Bool.not_true, Bool.false_eq_true, hopen]
  rfl

/-- Test-logic-reset clears the TAP, and releases a reset that boundary scan holds (R656). -/
theorem tapReset_eq (s : State) : tapReset s =
    let u := setTest (fun v => { v with tap := none, tapReg := none }) s
    if s.sys.pow.scan then releaseReset (setPow (fun p => { p with scan := false }) u) else u := rfl

/-- Without a GO in its cycle a verification under way ends for good (R509, R658). -/
theorem verifyEnding_of_running {s : State} (hv : s.sys.test.verify = true) (hg : s.sys.test.verifyGo.map (·.1) ≠ some s.time.now) :
    verifyEnding s = some (false, none) := by
  cases h : s.sys.test.verifyGo with
  | none => simp [verifyEnding, hv, h]
  | some g => 
    have hc : g.1 ≠ s.time.now := by simpa [h] using hg
    simp [verifyEnding, hv, h, hc]

/-- The state in which the verdict on a verification is entered: the verification over, and a new challenge drawn (R658). -/
def verifyOver (s : State) : State :=
  drawChallenge { s with sys := { s.sys with test := { s.sys.test with verify := false, verifyGo := none } } }

/-- A verification that passes sets OPEN, and raises the debug alarm where it was not set (R658). -/
theorem verifyEnds_passed {s : State} (he : verifyEnding s = some (false, none)) (hu : unlocks s = true) :
    verifyEnds s = if regBit s rJTAG_CTRL 31 then regPut rJTAG_CTRL 31 31 1 (verifyOver s) else cipherAlarm .debug (regPut rJTAG_CTRL 31 31 1 (verifyOver s)) := by
  simp only [verifyEnds, he, hu, if_true]
  rfl

/-- One that fails is counted, and the third locks the TAP out (R658). -/
theorem verifyEnds_failed {s : State} (he : verifyEnding s = some (false, none)) (hu : unlocks s = false) :
    verifyEnds s =
      let n := min 3 (regFld s rJTAG_CTRL 29 28 + 1)
      regPut rJTAG_CTRL 30 30 (if n = 3 then 1 else regFld s rJTAG_CTRL 30 30) (regPut rJTAG_CTRL 29 28 n (verifyOver s)) := by
  simp only [verifyEnds, he, hu, Bool.false_eq_true, if_false]
  rfl

/-- Settles O40: errors of each region, rewrites, and the TAP do what R652 to R658 say. -/
theorem memoryErrorsAndTestAccessTakeEffect : Obligations.MemoryErrorsAndTestAccessTakeEffect := by
  unfold Obligations.MemoryErrorsAndTestAccessTakeEffect
  refine ⟨fun r off x hr => ?corrected, fun r off x hr => ?uncorrected, fun s off f => rfl, fun s off i hi => lookupLost_fwRule hi, fun s off p => rfl,
    fun s off k hk => lookupLost_learned hk, fun s off k => rfl, fun s off m => rfl, fun s off i => rfl, fun s off i => rfl,
    fun s off n r hn hr => recordLost_of_recorded hn hr, fun s off x ho hp hd => controlLost_code x ho hp hd,
    fun s off m ho hm => controlLost_requestRing ho hm, fun s off x w hw => windowLost_of_current hw, fun s off m hm => retentionLost_journal m hm,
    fun s off i => rfl, fun i => ?rule, fun p => ?gates, fun j => ?unserved, fun j hj => ?served, fun j hj => ?holding, ?free, ?release, ?opened, ?opens, ?fails⟩
  case corrected => exact does_of (eccFound r off false x) (fun t s => rfl) fun s _ _ => eccFound_corrected hr off x s
  case uncorrected => exact does_of (eccFound r off true x) (fun t s => rfl) fun s _ _ => eccFound_uncorrectable hr off x s
  case rule => exact does_of (entryRewritten (.fwRule i)) (fun t s => rfl) fun s _ _ => rfl
  case gates => exact does_of (entryRewritten (.gateList p)) (fun t s => rfl) fun s _ _ => rfl
  case unserved => exact doesAlways_of (tapTakes j) (fun t s => rfl) fun s ⟨hp, hj⟩ => tapTakes_unserved hp hj
  case served =>
    refine doesAlways_of (tapTakes j) (fun t s => rfl) fun s ⟨hp, hl⟩ => ?_
    rw [tapTakes_open j hp hl]
    exact if_pos (by simp [hj])
  case holding =>
    refine doesAlways_of (tapTakes j) (fun t s => rfl) fun s ⟨hp, hl, hs⟩ => ?_
    rw [tapTakes_open j hp hl]
    exact if_neg (by simp [hj, hs])
  case free =>
    refine doesAlways_of tapReset (fun t s => rfl) fun s hs => ?_
    rw [tapReset_eq]
    exact if_neg (by simp [hs])
  case release =>
    refine doesAlways_of tapReset (fun t s => rfl) fun s hs => ?_
    rw [tapReset_eq]
    exact if_pos hs
  case opened =>
    refine does_of verifyEnds (fun t s => rfl) fun s _ ⟨hv, hg, hu, hb⟩ => ?_
    rw [verifyEnds_passed (verifyEnding_of_running hv hg) hu]
    exact if_pos hb
  case opens =>
    refine does_of verifyEnds (fun t s => rfl) fun s _ ⟨hv, hg, hu, hb⟩ => ?_
    rw [verifyEnds_passed (verifyEnding_of_running hv hg) hu]
    exact if_neg (by simp [hb])
  case fails =>
    exact does_of verifyEnds (fun t s => rfl) fun s _ ⟨hv, hg, hu⟩ => verifyEnds_failed (verifyEnding_of_running hv hg) hu

end Sys2Proof.Machine
end

section
/-!
PROOFS. What resets leave standing (R618, R634 to R641, R681).
-/
namespace Sys2Proof.Machine
open Sys2Proof Sys2Proof.Safety

/-! ### What a record, an event and a start leave standing -/

/-- The state without what records, events and the start of the core domain write: the recorder but its trace, the coalescer, the registers, the next
free value, network management but its log, the power state but what is up, and the identifiers. -/
def unrecorded (s : State) : State :=
  { s with cs := { trace := s.cs.trace }, regs := [], hw := {}, ev := {}, fresh := 0, nm := { log := s.nm.log }, sys := { s.sys with pow := { power := s.sys.pow.power }, ids := none } }

@[simp] theorem csPush_unrecorded (kind : Nat) (ps : List (BitVec 64)) (s : State) : unrecorded (csPush kind ps s) = unrecorded s := by
  have htrace : (csPush kind ps s).cs.trace = s.cs.trace := by
    unfold csPush csPushAt
    dsimp only
    split
    · rfl
    · unfold csSettle
      rw [csRecount_frame]
  rw [csPush_frame]
  simp [unrecorded, htrace]

@[simp] theorem raiseDetailed_unrecorded (source cause d : Nat) (s : State) : unrecorded (raiseDetailed source cause d s) = unrecorded s :=
  csPush_unrecorded 5 [pack64 [(9, source), (8, cause), (47, d)]] s

@[simp] theorem raiseEvent_unrecorded (source cause : Nat) (d : Option Nat) (s : State) : unrecorded (raiseEvent source cause d s) = unrecorded s := by
  cases d with
  | some d => exact raiseDetailed_unrecorded source cause d s
  | none => exact raiseDetailed_unrecorded source cause _ (freeVal s).2

@[simp] theorem ite_unrecorded (c : Prop) [Decidable c] (s u : State) :
    unrecorded (if c then s else u) = if c then unrecorded s else unrecorded u := apply_ite unrecorded c s u

/-- Steps that each leave the rest standing leave it standing together. -/
@[simp] theorem foldl_unrecorded {α : Type} (f : State → α → State) (h : ∀ s x, unrecorded (f s x) = unrecorded s) (l : List α) (s : State) :
    unrecorded (l.foldl f s) = unrecorded s := by
  induction l generalizing s with
  | nil => rfl
  | cons x l ih => rw [List.foldl_cons, ih, h]

@[simp] theorem timeEvent_unrecorded (i cause : Nat) (s : State) : unrecorded (timeEvent i cause s) = unrecorded s := raiseEvent_unrecorded _ _ _ s
@[simp] theorem nmEvent_unrecorded (i who : Nat) (s : State) : unrecorded (nmEvent i who s) = unrecorded s := raiseEvent_unrecorded _ _ _ s
@[simp] theorem systemEvent_unrecorded (i cause : Nat) (s : State) : unrecorded (systemEvent i cause s) = unrecorded s := raiseEvent_unrecorded _ _ _ s
@[simp] theorem supplyRecord_unrecorded (cause : Nat) (p : BitVec 64) (s : State) : unrecorded (supplyRecord cause p s) = unrecorded s :=
  (raiseEvent_unrecorded _ _ _ _).trans (csPush_unrecorded _ _ s)
@[simp] theorem deviceWakeRecord_unrecorded (type level cause : Nat) (s : State) : unrecorded (deviceWakeRecord type level cause s) = unrecorded s :=
  csPush_unrecorded _ _ s
@[simp] theorem setSource_unrecorded (i : Nat) (v : WakeSource) (s : State) : unrecorded (setSource i v s) = unrecorded s := rfl
@[simp] theorem setPow_unrecorded (f : PowerState → PowerState) (s : State) (h : (f s.sys.pow).power = s.sys.pow.power) :
    unrecorded (setPow f s) = unrecorded s := by
  simp [unrecorded, setPow, h]

@[simp] theorem sourceEvent_unrecorded (src : Nat) (s : State) : unrecorded (sourceEvent src s) = unrecorded s := by
  simp [sourceEvent]

/-- Network management may change but for its log. -/
theorem nm_unrecorded (s : State) (v : NmState) (h : v.log = s.nm.log) : unrecorded { s with nm := v } = unrecorded s := by
  simp [unrecorded, h]

/-- What a wake from standby leaves is recorded in network management, the power state and the recorder (R366, R381). -/
@[simp] theorem wakeDone_unrecorded (s : State) : unrecorded (wakeDone s) = unrecorded s := by
  unfold wakeDone
  split
  · rfl
  · rw [setPow_unrecorded _ _ rfl]
    refine (nm_unrecorded _ _ rfl).trans ?_
    simp

/-- What is owed from before a reset goes to the recorder and the coalescer (R629, R633, R645). -/
@[simp] theorem oweDone_unrecorded (s : State) : unrecorded (oweDone s) = unrecorded s := by
  unfold oweDone
  cases s.sys.pow.brown <;> simp

/-- The state but for what the release of a reset writes too: what is up, times, the place in the second, and the Darkroom's hold-offs. -/
def untimed (s : State) : State :=
  { unrecorded s with
    sys := { s.sys with pow := {}, ids := none }
    time := {}, beat := { s.beat with next := 0, inSec := 0 }
    dark := { s.dark with trigHold := [], lowAt := none, forceWas := (none, 0), cur := none } }

theorem untimed_congr {s u : State} (h : unrecorded u = unrecorded s) : untimed u = untimed s := by
  have hsys : { u.sys with pow := {}, ids := none } = { s.sys with pow := {}, ids := none } := congrArg (fun v : State => { v.sys with pow := {}, ids := none }) h
  have hbeat : u.beat = s.beat := congrArg (·.beat) h
  have hdark : u.dark = s.dark := congrArg (·.dark) h
  simp only [untimed, h, hsys, hbeat, hdark]

/-- The hold-offs and the wake sources, counted from the local time of a start that begins at 0 again (R383, R427, R435). -/
def rebased (s : State) : State :=
  if (startTimes s).1 < s.time.now then rebaseSources (match s.nm.asleep with | some (_, st) => st | none => s.time.now) s else s

/-- The state whose first mapping the start of the time unit records (R636). -/
def restarted (s : State) : State :=
  let r := startTimes s
  restartBeat r.2.1 { rebased s with time := { now := r.1, epoch := r.2.2, corrAt := r.1, map := ⟨r.1, r.2.1, 0, 0, 7⟩, from0 := r.2.1 } }

theorem startTime_eq (s : State) : startTime s =
    let u := csPush 0x02 (mappingPayload (restarted s) false) (restarted s)
    if s.sys.pow.wokeFrom.isNone && regFld s rRST_STAT 31 29 = 3 then u else timeEvent 37 (if (startTimes s).1 = 0 then 1 else 2) u := rfl

/-- The start of the time unit records its mapping and its event (R79, R636). -/
theorem startTime_unrecorded (s : State) : unrecorded (startTime s) = unrecorded (restarted s) := by
  simp [startTime_eq]

theorem rebased_untimed (s : State) : untimed (rebased s) = untimed s := by
  unfold rebased
  split <;> rfl

/-- The time unit starts: times, the place in the second and the Darkroom's hold-offs apart, the rest stands (R636). -/
theorem startTime_untimed (s : State) : untimed (startTime s) = untimed s :=
  (untimed_congr (startTime_unrecorded s)).trans (rebased_untimed s)

/-- The core domain runs, its time unit not yet started. -/
def poweredUp (s : State) : State := setPow (fun p => { p with power := .run }) s

/-- The core domain as its reset is released: the time unit started, the identifiers read from device OTP (R469, R636, R641). -/
def started (s : State) : State :=
  let v := startTime (poweredUp s)
  { v with sys := { v.sys with ids := some {} }
           cs := { v.cs with run := regFld v (rCROCUS 0x08) 7 0, repeatAt := (v.time.now / 1000000000 + 1) * 1000000000 } }

theorem releaseReset_eq (s : State) :
    releaseReset s = if s.sys.pow.power ≠ .held || resetHeld s then s else oweDone (wakeDone (started s)) := rfl

theorem started_unrecorded (s : State) : unrecorded (started s) = unrecorded (restarted (poweredUp s)) :=
  startTime_unrecorded _

/-- The release of a reset leaves the rest standing (R636, R641). -/
theorem releaseReset_untimed (s : State) : untimed (releaseReset s) = untimed s := by
  rw [releaseReset_eq]
  split
  · rfl
  · calc untimed (oweDone (wakeDone (started s)))
      _ = untimed (started s) := untimed_congr ((oweDone_unrecorded _).trans (wakeDone_unrecorded _))
      _ = untimed s := startTime_untimed (poweredUp s)

/-- Where local time goes on from a start, a reset that nothing holds leaves the core running in the cycle, and the Darkroom as it is. -/
theorem releaseReset_running {s : State} (hp : s.sys.pow.power = .held) (hr : resetHeld s = false)
    (ht : (startTimes (poweredUp s)).1 = s.time.now) :
    (releaseReset s).time.now = s.time.now ∧ (releaseReset s).dark = s.dark ∧ coreOn (releaseReset s) = true := by
  have hu : unrecorded (releaseReset s) = unrecorded (restarted (poweredUp s)) := by
    rw [releaseReset_eq, if_neg (by simp [hp, hr]), oweDone_unrecorded, wakeDone_unrecorded, started_unrecorded]
  have hb : rebased (poweredUp s) = poweredUp s := if_neg (by
    rw [ht]
    exact Nat.lt_irrefl _)
  refine ⟨?_, ?_, ?_⟩
  · exact (congrArg (fun v : State => v.time.now) hu).trans ht
  · refine (congrArg (fun v : State => v.dark) hu).trans ?_
    change (rebased _).dark = _
    rw [hb]
    rfl
  · have hpow := congrArg (fun v : State => v.sys.pow.power) hu
    have hrun : (rebased (poweredUp s)).sys.pow.power = .run := by
      rw [hb]
      rfl
    exact decide_eq_true (hpow.trans hrun)

/-! ### What a reset cuts short (R618, R681) -/

/-- A write in carriage shows in a register, if at all. -/
theorem carriedDecides_frame (o : Origin) (s : State) (c : Carried) :
    carriedDecides o s c = { s with regs := (carriedDecides o s c).regs, fresh := (carriedDecides o s c).fresh } := by
  unfold carriedDecides
  dsimp only
  (repeat' split) <;> rfl

theorem foldl_carriedDecides_frame (o : Origin) (l : List Carried) (s : State) :
    l.foldl (carriedDecides o) s =
      { s with regs := (l.foldl (carriedDecides o) s).regs, fresh := (l.foldl (carriedDecides o) s).fresh } := by
  induction l generalizing s with
  | nil => rfl
  | cons c l ih => rw [List.foldl_cons, ih, carriedDecides_frame]

/-- The state once the writes in carriage are decided, by origin (R681). -/
def carriedDecided (s : State) : State :=
  s.bridge.carry3.foldl (carriedDecides .core) (s.bridge.carry2.foldl (carriedDecides .inband) (s.bridge.carry1.foldl (carriedDecides .spi)
    (s.bridge.carry0.foldl (carriedDecides .pcie) s)))

theorem interrupted_eq (s : State) : interrupted s = fusesStop (carriedDecided s) := rfl

theorem carriedDecided_frame (s : State) : carriedDecided s = { s with regs := (carriedDecided s).regs, fresh := (carriedDecided s).fresh } := by
  unfold carriedDecided
  rw [foldl_carriedDecides_frame .core, foldl_carriedDecides_frame .inband, foldl_carriedDecides_frame .spi, foldl_carriedDecides_frame .pcie]

/-- A fuse write cut short shows in the fuses, if at all (R618, R646). -/
theorem fusesStop_frame (s : State) :
    fusesStop s = { s with
      fresh := (fusesStop s).fresh
      sys := { s.sys with fw := { s.sys.fw with floor := (fusesStop s).sys.fw.floor, lifecycle := (fusesStop s).sys.fw.lifecycle } }
      pair := { s.pair with bound := (fusesStop s).pair.bound, binds := (fusesStop s).pair.binds } } := by
  unfold fusesStop
  dsimp only
  split
  · rfl
  · (repeat' split) <;> rfl

/-- Without a fuse write in flight the fuses stay (R538). -/
theorem fusesStop_of_idle {s : State} (h : fuseBusy s = false) : fusesStop s = s := by
  have hnone : s.mbx.box.findSome? (fun e => e.2.deferred.bind (fun d => if d.opcode = 0x0C03 || d.opcode = 0x0D04 || d.opcode = 0x0D07 then some d else none)) = none := by
    rw [List.findSome?_eq_none_iff]
    intro e he
    have hidle := List.any_eq_false.mp h e he
    cases hd : e.2.deferred with
    | none => rfl
    | some d => simpa [hd] using hidle
  unfold fusesStop
  dsimp only
  rw [hnone]

/-- What a reset cuts short changes registers, free values and fuses at most. -/
theorem interrupted_frame (s : State) :
    interrupted s = { s with
      regs := (interrupted s).regs
      fresh := (interrupted s).fresh
      sys := { s.sys with fw := { s.sys.fw with floor := (interrupted s).sys.fw.floor, lifecycle := (interrupted s).sys.fw.lifecycle } }
      pair := { s.pair with bound := (interrupted s).pair.bound, binds := (interrupted s).pair.binds } } := by
  rw [interrupted_eq, fusesStop_frame, carriedDecided_frame]

theorem interrupted_beat (s : State) : (interrupted s).beat = s.beat := by rw [interrupted_frame]
theorem interrupted_time (s : State) : (interrupted s).time = s.time := by rw [interrupted_frame]
theorem interrupted_nm (s : State) : (interrupted s).nm = s.nm := by rw [interrupted_frame]
theorem interrupted_gw (s : State) : (interrupted s).gw = s.gw := by rw [interrupted_frame]
theorem interrupted_ciph (s : State) : (interrupted s).ciph = s.ciph := by rw [interrupted_frame]
theorem interrupted_dark (s : State) : (interrupted s).dark = s.dark := by rw [interrupted_frame]
theorem interrupted_cs (s : State) : (interrupted s).cs = s.cs := by rw [interrupted_frame]
theorem interrupted_ckpt (s : State) : (interrupted s).pair.ckpt = s.pair.ckpt := by rw [interrupted_frame]
theorem interrupted_pow (s : State) : (interrupted s).sys.pow = s.sys.pow := by rw [interrupted_frame]
theorem interrupted_test (s : State) : (interrupted s).sys.test = s.sys.test := by rw [interrupted_frame]
theorem interrupted_flash (s : State) : (interrupted s).sys.fw.flash = s.sys.fw.flash := by rw [interrupted_frame]

theorem interrupted_fuses {s : State} (h : fuseBusy s = false) : fuses (interrupted s) = fuses s := by
  rw [interrupted_eq, fusesStop_of_idle (by rw [carriedDecided_frame]; exact h), carriedDecided_frame]
  rfl

/-! ### LEVEL of a reset (R640) -/

/-- A field of three bits at the top of a word reads back. -/
theorem bits_putBits_level (w : Word) (v : Nat) : bits (putBits w 31 29 v) 31 29 = v % 8 := by
  have hw := w.isLt
  simp only [bits, nbits, putBits, word, BitVec.toNat_ofNat]
  omega

/-- The counter of system resets lies below it. -/
theorem bits_putBits_count (w : Word) (v : Nat) : bits (putBits w 15 8 v) 31 29 = bits w 31 29 := by
  have hw := w.isLt
  simp only [bits, nbits, putBits, word, BitVec.toNat_ofNat]
  omega

theorem regFld_level_resetStat (level cause : Nat) (s : State) : regFld (resetStat level cause s) rRST_STAT 31 29 = level % 8 := by
  simp [regFld, resetStat, regPut, bits_putBits_level]

theorem regFld_level_count (s : State) : regFld (count rRST_STAT 15 8 s) rRST_STAT 31 29 = regFld s rRST_STAT 31 29 := by
  have hput : regGet (count rRST_STAT 15 8 s) rRST_STAT = putBits (regGet s rRST_STAT) 15 8 (satAdd 8 (regFld s rRST_STAT 15 8) 1) :=
    regGet_regSet _ _ s
  rw [regFld, hput, bits_putBits_count, regFld]

/-! ### What each reset leaves standing (R635) -/

theorem fuses_of_untimed {s u : State} (h : untimed u = untimed s) : fuses u = fuses s :=
  (congrArg (fun v : State => fuses v) h :)

theorem flash_of_untimed {s u : State} (h : untimed u = untimed s) : u.sys.fw.flash = s.sys.fw.flash :=
  (congrArg (fun v : State => v.sys.fw.flash) h :)

theorem dark_of_untimed {s u : State} (h : untimed u = untimed s) :
    { u.dark with trigHold := s.dark.trigHold, lowAt := s.dark.lowAt, forceWas := s.dark.forceWas, cur := s.dark.cur } = s.dark :=
  (congrArg (fun v : State => { v.dark with trigHold := s.dark.trigHold, lowAt := s.dark.lowAt, forceWas := s.dark.forceWas, cur := s.dark.cur }) h :)

/-- The core domain as a power-on reset leaves it, before its release (R635, R640). -/
def powerOnHeld (n : Nat) (s : State) : State :=
  resetStat 2 n (setPow (fun p => { p with power := .held, sysGo := none, sysWas := none, sysAt := none }) (powerOnClear (interrupted (takesIn s))))

theorem powerOnReset_eq (n : Nat) (s : State) :
    powerOnReset n s = setPow (fun p => { p with porAt := some (releaseReset (powerOnHeld n s)).time.now }) (releaseReset (powerOnHeld n s)) := rfl

theorem setPow_untimed (f : PowerState → PowerState) (s : State) : untimed (setPow f s) = untimed s := rfl

theorem resetStat_untimed (level cause : Nat) (s : State) : untimed (resetStat level cause s) = untimed s := rfl

theorem powerOnReset_untimed (n : Nat) (s : State) : untimed (powerOnReset n s) = untimed (powerOnClear (interrupted (takesIn s))) := by
  rw [powerOnReset_eq, setPow_untimed, releaseReset_untimed, powerOnHeld, resetStat_untimed, setPow_untimed]

/-- The core domain as a system reset leaves it, before its release (R635, R640). -/
def systemHeld (n : Nat) (s : State) : State :=
  count rRST_STAT 15 8 (resetStat 3 n
    (setPow (fun p => { p with power := .held, sysGo := none, sysWas := none, sysAt := some (s.time.now, regFld s rRST_STAT 15 8) }) (systemClear (interrupted s))))

theorem systemReset_eq (n : Nat) (s : State) :
    systemReset n s = if s.sys.pow.power ≠ .run || s.sys.pow.porAt = some s.time.now then s else releaseReset (systemHeld n s) := rfl

theorem systemHeld_untimed (n : Nat) (s : State) : untimed (systemHeld n s) = untimed (systemClear (interrupted s)) := rfl

theorem takesIn_frame (s : State) : takesIn s = { s with regs := (takesIn s).regs } := by
  unfold takesIn
  (repeat' split) <;> rfl

/-- What a power-on reset keeps of fuses, flash and Darkroom (R635). -/
theorem powerOnReset_keeps (n : Nat) (s : State) :
    (fuseBusy s = false → fuses (powerOnReset n s) = fuses s) ∧ (powerOnReset n s).sys.fw.flash = s.sys.fw.flash ∧
      { (powerOnReset n s).dark with trigHold := s.dark.trigHold, lowAt := s.dark.lowAt, forceWas := s.dark.forceWas, cur := s.dark.cur } = s.dark := by
  have hu := powerOnReset_untimed n s
  have hflash : (powerOnClear (interrupted (takesIn s))).sys.fw.flash = s.sys.fw.flash := (interrupted_flash _).trans (by rw [takesIn_frame])
  have hdark : (powerOnClear (interrupted (takesIn s))).dark = s.dark := (interrupted_dark _).trans (by rw [takesIn_frame])
  refine ⟨fun h => ?_, (flash_of_untimed hu).trans hflash, ?_⟩
  · have hi : fuseBusy (takesIn s) = false := by
      rw [takesIn_frame]
      exact h
    have hf : fuses (interrupted (takesIn s)) = fuses s := by
      rw [interrupted_fuses hi, takesIn_frame]
      rfl
    exact (fuses_of_untimed hu).trans hf
  · have h := dark_of_untimed hu
    rwa [hdark] at h

/-- What a system reset keeps of them (R635). -/
theorem systemReset_keeps (n : Nat) (s : State) :
    (fuseBusy s = false → fuses (systemReset n s) = fuses s) ∧ (systemReset n s).sys.fw.flash = s.sys.fw.flash ∧
      { (systemReset n s).dark with trigHold := s.dark.trigHold, lowAt := s.dark.lowAt, forceWas := s.dark.forceWas, cur := s.dark.cur } = s.dark := by
  rw [systemReset_eq]
  split
  · exact ⟨fun _ => rfl, rfl, rfl⟩
  · have hu : untimed (releaseReset (systemHeld n s)) = untimed (systemClear (interrupted s)) := releaseReset_untimed _
    have hflash : (systemClear (interrupted s)).sys.fw.flash = s.sys.fw.flash := interrupted_flash s
    have hdark : (systemClear (interrupted s)).dark = s.dark := interrupted_dark s
    refine ⟨fun h => (fuses_of_untimed hu).trans (interrupted_fuses h), (flash_of_untimed hu).trans hflash, ?_⟩
    have h := dark_of_untimed hu
    rwa [hdark] at h

/-- What a VBAT power-on keeps of them (R634, R635). -/
theorem vbatReset_keeps (s : State) :
    (fuseBusy s = false → fuses (vbatReset s) = fuses s) ∧ (vbatReset s).sys.fw.flash = s.sys.fw.flash ∧ (vbatReset s).dark = s.dark := by
  have hfuses : fuses (vbatReset s) = fuses (fusesStop s) := rfl
  have hflash : (vbatReset s).sys.fw.flash = (fusesStop s).sys.fw.flash := rfl
  have hdark : (vbatReset s).dark = (fusesStop s).dark := rfl
  refine ⟨fun h => by rw [hfuses, fusesStop_of_idle h], ?_, ?_⟩
  · rw [hflash, fusesStop_frame]
  · rw [hdark, fusesStop_frame]

/-- A start that leaves no standby goes on in the local time of a system reset (R636). -/
theorem startTimes_of_systemReset {s : State} (hn : s.nm.asleep = none) (hl : regFld s rRST_STAT 31 29 = 3) : (startTimes s).1 = s.time.now := by
  simp [startTimes, hn, hl]

/-- A system reset of the running core that nothing holds comes to its end in the cycle (R634, R635, R636). -/
theorem systemReset_running {s : State} (n : Nat) (hp : s.sys.pow.power = .run) (ha : s.sys.pow.porAt ≠ some s.time.now) (hr : resetHeld s = false)
    (hn : s.nm.asleep = none) :
    untimed (systemReset n s) = untimed (systemClear (interrupted s)) ∧
      (systemReset n s).time.now = s.time.now ∧ (systemReset n s).dark = s.dark ∧ coreOn (systemReset n s) = true := by
  have heq : systemReset n s = releaseReset (systemHeld n s) := by
    rw [systemReset_eq]
    exact if_neg (by simp [hp, ha])
  have hlevel : regFld (systemHeld n s) rRST_STAT 31 29 = 3 := by
    rw [systemHeld, regFld_level_count, regFld_level_resetStat]
  have hpow : (systemHeld n s).sys.pow = { s.sys.pow with power := .held, sysGo := none, sysWas := none, sysAt := some (s.time.now, regFld s rRST_STAT 15 8) } :=
    congrArg (fun p : PowerState => { p with power := .held, sysGo := none, sysWas := none, sysAt := some (s.time.now, regFld s rRST_STAT 15 8) })
      (interrupted_pow s)
  have hnow : (systemHeld n s).time.now = s.time.now := congrArg (·.now) (interrupted_time s)
  have hdark : (systemHeld n s).dark = s.dark := interrupted_dark s
  have hasleep : (systemHeld n s).nm.asleep = none := (congrArg (·.asleep) (interrupted_nm s)).trans hn
  have hfree : resetHeld (systemHeld n s) = false := by
    simp only [resetHeld, hlevel, hpow, Bool.or_eq_false_iff] at hr ⊢
    simp [hr]
  have htimes : (startTimes (poweredUp (systemHeld n s))).1 = (systemHeld n s).time.now :=
    startTimes_of_systemReset hasleep hlevel
  have hrun := releaseReset_running (by rw [hpow]) hfree htimes
  rw [hnow, hdark, ← heq] at hrun
  exact ⟨heq ▸ (releaseReset_untimed _).trans (systemHeld_untimed n s), hrun⟩

/-- What a system reset of the running core keeps, and what it empties (R22, R42, R635, R681). -/
theorem systemReset_running_keeps (n : Nat) (s : State) (hp : s.sys.pow.power = .run) (ha : s.sys.pow.porAt ≠ some s.time.now) (hr : resetHeld s = false)
    (hn : s.nm.asleep = none) (hz : s.ciph.zeroizing = false) :
    let u := systemReset n s
    u.beat.seq = s.beat.seq ∧ u.beat.lastId = s.beat.lastId ∧ u.time.now = s.time.now ∧ u.gw = { fresh := s.gw.fresh } ∧ u.pair.ckpt = s.pair.ckpt ∧
      u.nm.log = s.nm.log ∧ u.cs.trace = s.cs.trace ∧ u.ciph = { slot := s.ciph.slot } ∧ u.sys.test.opened = s.sys.test.opened ∧ u.mem = [] ∧ u.buf = {} ∧
      u.fw = {} ∧ u.fwd = {} ∧ u.egress = [] ∧ u.rings = [] ∧ (∀ o, carried u o = []) ∧ u.dark = s.dark ∧ coreOn u = true := by
  obtain ⟨hu, hnow, hdark, hon⟩ := systemReset_running n hp ha hr hn
  have hslots : keptSlots (interrupted s) = s.ciph.slot := by simp [keptSlots, interrupted_ciph, hz]
  have hbridge : (systemReset n s).bridge = { inband := inbandFresh (interrupted s) } := (congrArg (fun v : State => v.bridge) hu :)
  refine ⟨?seq, ?lastId, hnow, ?gw, ?ckpt, ?log, ?trace, ?ciph, ?opened, (congrArg (fun v : State => v.mem) hu :), (congrArg (fun v : State => v.buf) hu :),
    (congrArg (fun v : State => v.fw) hu :), (congrArg (fun v : State => v.fwd) hu :), (congrArg (fun v : State => v.egress) hu :),
    (congrArg (fun v : State => v.rings) hu :), ?carried, hdark, hon⟩
  case seq => exact (congrArg (fun v : State => v.beat.seq) hu).trans (congrArg (·.seq) (interrupted_beat s))
  case lastId => exact (congrArg (fun v : State => v.beat.lastId) hu).trans (congrArg (·.lastId) (interrupted_beat s))
  case gw => exact (congrArg (fun v : State => v.gw) hu).trans (congrArg (fun g : Gateway => ({ fresh := g.fresh } : Gateway)) (interrupted_gw s))
  case ckpt => exact (congrArg (fun v : State => v.pair.ckpt) hu).trans (interrupted_ckpt s)
  case log => exact (congrArg (fun v : State => v.nm.log) hu).trans (congrArg (·.log) (interrupted_nm s))
  case trace => exact (congrArg (fun v : State => v.cs.trace) hu).trans (congrArg (·.trace) (interrupted_cs s))
  case ciph => exact (congrArg (fun v : State => v.ciph) hu).trans (congrArg (fun l => ({ slot := l } : Cipher)) hslots)
  case opened => exact (congrArg (fun v : State => v.sys.test.opened) hu).trans (congrArg (·.opened) (interrupted_test s))
  case carried =>
    intro o
    cases o <;> simp only [carried, hbridge]

/-- Settles O8: what each reset keeps, by what its release leaves standing. -/
theorem resetsKeepWhatTheyKeep : Obligations.ResetsKeepWhatTheyKeep := by
  unfold Obligations.ResetsKeepWhatTheyKeep
  refine ⟨powerOnReset_keeps, systemReset_keeps, vbatReset_keeps, fun s => ⟨rfl, rfl, rfl⟩, systemReset_running_keeps⟩

end Sys2Proof.Machine
end

section
/-!
PROOFS. A boundary numbers the Beat (R17, R18, R20, R22): what moves the clock of the Beats, and what does not.
-/
namespace Sys2Proof.Machine
open Sys2Proof Sys2Proof.Safety

/-! ### What numbers and times the Beats

Of all that a boundary runs, the opening of the Beat alone moves the clock of the Beats: one lemma for each other operation, in the order of the model's
files. -/

/-- What the number, the index, the length and the instant of a boundary are computed from (R17, R18, R20, R22). -/
def beatClock (s : State) : BeatState × Nat :=
  ({ k := s.beat.k, kNext := s.beat.kNext, inSec := s.beat.inSec, seq := s.beat.seq, kCmd := s.beat.kCmd, next := s.beat.next }, s.time.now)

/-- An update of the other units, and of the time unit but for local time, keeps it. -/
@[simp] theorem update_beatClock (s : State) (time : TimeState) (hnow : time.now = s.time.now)
    (pins net ptime ports egress fwd buf str fw nm gw ciph dark pair sys cs bridge mbx ev rings regs hw mem out fresh start late pending) :
    beatClock ⟨⟨s.beat, time, pins, net, ptime, ports, egress, fwd, buf, str, fw, nm, gw, ciph, dark, pair, sys, cs, bridge, mbx, ev, rings, regs, hw, mem, out, fresh⟩,
      start, late, pending⟩ = beatClock s := by
  simp [beatClock, hnow]

/-- So does an update of the Beat that keeps its numbers, its lengths and the next boundary. -/
theorem updateBeat_beatClock (s : State) (beat : BeatState) (hseq : beat.seq = s.beat.seq) (hk : beat.k = s.beat.k) (hkNext : beat.kNext = s.beat.kNext)
    (hinSec : beat.inSec = s.beat.inSec) (hkCmd : beat.kCmd = s.beat.kCmd) (hnext : beat.next = s.beat.next) : beatClock { s with beat := beat } = beatClock s := by
  simp [beatClock, hseq, hk, hkNext, hinSec, hkCmd, hnext]

@[simp] theorem ite_beatClock (c : Prop) [Decidable c] (s u : State) :
    beatClock (if c then s else u) = if c then beatClock s else beatClock u := apply_ite beatClock c s u

@[simp] theorem foldl_beatClock {α : Type} (f : State → α → State) (h : ∀ s x, beatClock (f s x) = beatClock s) (l : List α) (s : State) :
    beatClock (l.foldl f s) = beatClock s := by
  induction l generalizing s with
  | nil => rfl
  | cons x l ih => rw [List.foldl_cons, ih, h]

/-! #### Storage, records and events -/

@[simp] theorem emit_beatClock (o : Output) (s : State) : beatClock (emit o s) = beatClock s := rfl
@[simp] theorem giveWayTo_beatClock (n : Nat) (e : Late) (s : State) : beatClock (giveWayTo n e s) = beatClock s := rfl
@[simp] theorem giveWay_beatClock (e : Late) (s : State) : beatClock (giveWay e s) = beatClock s := by simp [giveWay]
@[simp] theorem freeVal_beatClock (s : State) : beatClock (freeVal s).2 = beatClock s := rfl
@[simp] theorem regSet_beatClock (off : Nat) (v : Word) (s : State) : beatClock (regSet off v s) = beatClock s := rfl
@[simp] theorem regPut_beatClock (off hi lo v : Nat) (s : State) : beatClock (regPut off hi lo v s) = beatClock s := by simp [regPut]
@[simp] theorem noteFlag_beatClock (off i : Nat) (s : State) : beatClock (noteFlag off i s) = beatClock s := by simp [noteFlag]
@[simp] theorem noteCount_beatClock (off lo base k : Nat) (s : State) : beatClock (noteCount off lo base k s) = beatClock s := by simp [noteCount]
@[simp] theorem setFlag_beatClock (off i : Nat) (s : State) : beatClock (setFlag off i s) = beatClock s := by simp [setFlag]
@[simp] theorem countBy_beatClock (off hi lo k : Nat) (s : State) : beatClock (countBy off hi lo k s) = beatClock s := by simp [countBy]
@[simp] theorem count_beatClock (off hi lo : Nat) (s : State) : beatClock (count off hi lo s) = beatClock s := by simp [count]
@[simp] theorem memSet_beatClock (a : Nat) (b : Byte) (s : State) : beatClock (memSet a b s) = beatClock s := rfl

@[simp] theorem memBytes_beatClock (a : Nat) (bs : Bytes) (s : State) : beatClock (memBytes a bs s) = beatClock s := by
  rw [memBytes_frame]
  rfl

@[simp] theorem memPutWord_beatClock (a : Nat) (w : Word) (s : State) : beatClock (memPutWord a w s) = beatClock s := by simp [memPutWord]
@[simp] theorem csRecount_beatClock (old new : List CsGroup) (s : State) : beatClock (csRecount old new s) = beatClock s := by simp [csRecount]
@[simp] theorem csSettle_beatClock (g : CsGroup) (s : State) : beatClock (csSettle g s) = beatClock s := by simp [csSettle]
@[simp] theorem csPushAt_beatClock (kind lt : Nat) (ps : List (BitVec 64)) (s : State) : beatClock (csPushAt kind lt ps s) = beatClock s := by simp [csPushAt]
@[simp] theorem csPush_beatClock (kind : Nat) (ps : List (BitVec 64)) (s : State) : beatClock (csPush kind ps s) = beatClock s := by simp [csPush]
@[simp] theorem raiseDetailed_beatClock (source cause detail : Nat) (s : State) : beatClock (raiseDetailed source cause detail s) = beatClock s := by simp [raiseDetailed]

@[simp] theorem raiseEvent_beatClock (source cause : Nat) (detail : Option Nat) (s : State) : beatClock (raiseEvent source cause detail s) = beatClock s := by
  cases detail <;> simp [raiseEvent]

@[simp] theorem portEvent_beatClock (port i cause : Nat) (s : State) : beatClock (portEvent port i cause s) = beatClock s := by simp [portEvent]
@[simp] theorem timeEvent_beatClock (i cause : Nat) (s : State) : beatClock (timeEvent i cause s) = beatClock s := by simp [timeEvent]
@[simp] theorem canEvent_beatClock (bus i cause : Nat) (s : State) : beatClock (canEvent bus i cause s) = beatClock s := by simp [canEvent]
@[simp] theorem fwEvent_beatClock (i cause : Nat) (s : State) : beatClock (fwEvent i cause s) = beatClock s := by simp [fwEvent]
@[simp] theorem cipherEvent_beatClock (i cause : Nat) (s : State) : beatClock (cipherEvent i cause s) = beatClock s := by simp [cipherEvent]
@[simp] theorem nmEvent_beatClock (i who : Nat) (s : State) : beatClock (nmEvent i who s) = beatClock s := by simp [nmEvent]
@[simp] theorem systemEvent_beatClock (i cause : Nat) (s : State) : beatClock (systemEvent i cause s) = beatClock s := by simp [systemEvent]
@[simp] theorem systemEventD_beatClock (i cause detail : Nat) (s : State) : beatClock (systemEventD i cause detail s) = beatClock s := by simp [systemEventD]
@[simp] theorem setBox_beatClock (m : Nat) (b : Mailbox) (s : State) : beatClock (setBox m b s) = beatClock s := rfl

/-! #### Rings -/

@[simp] theorem setRing_beatClock (id : RingId) (r : Ring) (s : State) : beatClock (setRing id r s) = beatClock s := by
  unfold setRing
  dsimp only
  (repeat' split) <;> simp

@[simp] theorem ringSlotPut_beatClock (id : RingId) (ptr w : Nat) (v : Word) (s : State) : beatClock (ringSlotPut id ptr w v s) = beatClock s := by
  unfold ringSlotPut
  dsimp only
  (repeat' split) <;> simp

@[simp] theorem ringWrite_beatClock (id : RingId) (ptr i : Nat) (ws : Rec) (s : State) : beatClock (ringWrite id ptr i ws s) = beatClock s := by
  induction ws generalizing i s with
  | nil => rfl
  | cons v r ih => rw [ringWrite, ih, ringSlotPut_beatClock]

@[simp] theorem ringLand_beatClock (id : RingId) (ws : Rec) (s : State) : beatClock (ringLand id ws s) = beatClock s := by simp [ringLand]
@[simp] theorem ringOffer_beatClock (id : RingId) (ws : Rec) (s : State) : beatClock (ringOffer id ws s) = beatClock s := by simp [ringOffer]

@[simp] theorem ringPush_beatClock (id : RingId) (ws : Rec) (s : State) : beatClock (ringPush id ws s) = beatClock s := by
  unfold ringPush
  dsimp only
  (repeat' split) <;> simp

@[simp] theorem ringRescue_beatClock (id : RingId) (s : State) : beatClock (ringRescue id s) = beatClock s := by
  unfold ringRescue
  dsimp only
  (repeat' split) <;> simp

@[simp] theorem ringConsume_beatClock (id : RingId) (v : Nat) (s : State) : beatClock (ringConsume id v s) = beatClock s := by simp [ringConsume]

/-! #### Mappings and network time -/

@[simp] theorem requestMapping_beatClock (r : MapReq) (s : State) : beatClock (requestMapping r s) = beatClock s := by
  unfold requestMapping
  dsimp only
  (repeat' split) <;> simp

@[simp] theorem requestCorrection_beatClock (c : Int) (s : State) : beatClock (requestCorrection c s) = beatClock s := by simp [requestCorrection]
@[simp] theorem enterHoldover_beatClock (s : State) : beatClock (enterHoldover s) = beatClock s := by simp [enterHoldover]
@[simp] theorem doCapture_beatClock (s : State) : beatClock (doCapture s) = beatClock s := by simp [doCapture]
@[simp] theorem captureOn_beatClock (trig : Nat) (s : State) : beatClock (captureOn trig s) = beatClock s := by simp [captureOn]
@[simp] theorem setSlot_beatClock (i : Nat) (v : Slot) (s : State) : beatClock (setSlot i v s) = beatClock s := rfl
@[simp] theorem setPortTime_beatClock (p : Nat) (v : PortTime) (s : State) : beatClock (setPortTime p v s) = beatClock s := rfl
@[simp] theorem countNet_beatClock (slot port i : Nat) (s : State) : beatClock (countNet slot port i s) = beatClock s := by simp [countNet]
@[simp] theorem countGptpDrop_beatClock (port : Nat) (s : State) : beatClock (countGptpDrop port s) = beatClock s := by simp [countGptpDrop]

@[simp] theorem switchTo_beatClock (i : Nat) (res : Int) (s : State) : beatClock (switchTo i res s) = beatClock s := by
  simp [switchTo]

@[simp] theorem hostTo_beatClock (j : Nat) (s : State) : beatClock (hostTo j s) = beatClock s := by simp [hostTo]

@[simp] theorem hardSwitch_beatClock (i : Nat) (res : Int) (s : State) : beatClock (hardSwitch i res s) = beatClock s := by
  unfold hardSwitch
  (repeat' split) <;> simp

@[simp] theorem sourceLost_beatClock (i cause : Nat) (s : State) : beatClock (sourceLost i cause s) = beatClock s := by
  unfold sourceLost
  dsimp only
  (repeat' split) <;> simp

@[simp] theorem takeGm_beatClock (i : Nat) (v : PortInfo) (s : State) : beatClock (takeGm i v s) = beatClock s := by simp [takeGm]

@[simp] theorem runBmca_beatClock (i : Nat) (s : State) : beatClock (runBmca i s) = beatClock s := by
  unfold runBmca
  dsimp only
  (repeat' split) <;> simp

@[simp] theorem runBmcaAll_beatClock (s : State) : beatClock (runBmcaAll s) = beatClock s := by simp [runBmcaAll]
@[simp] theorem forgetAnnounces_beatClock (p : Nat) (s : State) : beatClock (forgetAnnounces p s) = beatClock s := rfl
@[simp] theorem loseAsCapable_beatClock (p : Nat) (s : State) : beatClock (loseAsCapable p s) = beatClock s := by simp [loseAsCapable]
@[simp] theorem judgeAsCapable_beatClock (p : Nat) (s : State) : beatClock (judgeAsCapable p s) = beatClock s := by simp [judgeAsCapable]
@[simp] theorem timeLinkUp_beatClock (p : Nat) (s : State) : beatClock (timeLinkUp p s) = beatClock s := by simp [timeLinkUp]
@[simp] theorem timeLinkDown_beatClock (p : Nat) (s : State) : beatClock (timeLinkDown p s) = beatClock s := by simp [timeLinkDown]

@[simp] theorem hostSwitch_beatClock (s : State) : beatClock (hostSwitch s) = beatClock s := by
  unfold hostSwitch
  dsimp only
  (repeat' split) <;> simp

/-! #### Ports, frames and cells -/

@[simp] theorem setPort_beatClock (n : Nat) (p : Port) (s : State) : beatClock (setPort n p s) = beatClock s := rfl
@[simp] theorem fwdCount_beatClock (port w k : Nat) (s : State) : beatClock (fwdCount port w k s) = beatClock s := by simp [fwdCount]
@[simp] theorem countDrop_beatClock (port code : Nat) (s : State) : beatClock (countDrop port code s) = beatClock s := by simp [countDrop]
@[simp] theorem macSet_beatClock (k : Nat) (r : Rec) (s : State) : beatClock (macSet k r s) = beatClock s := rfl
@[simp] theorem macNote_beatClock (f : MacCycle → MacCycle) (s : State) : beatClock (macNote f s) = beatClock s := rfl

@[simp] theorem macApply_beatClock (r : Rec) (s0 : State) : beatClock (macApply r s0) = beatClock s0 := by
  unfold macApply
  dsimp only
  (repeat' split) <;> simp

@[simp] theorem macFlush_beatClock (kind value : Nat) (s : State) : beatClock (macFlush kind value s) = beatClock s := by simp [macFlush]
@[simp] theorem bufNote_beatClock (s : State) : beatClock (bufNote s) = beatClock s := by simp [bufNote]
@[simp] theorem chargeCells_beatClock (port : Nat) (c : Cells) (s : State) : beatClock (chargeCells port c s) = beatClock s := by simp [chargeCells]
@[simp] theorem freeCells_beatClock (port : Nat) (c : Cells) (s : State) : beatClock (freeCells port c s) = beatClock s := by simp [freeCells]

@[simp] theorem takeCells_beatClock (port : Nat) (reserve : Bool) (n : Nat) (c : Cells) (s : State) :
    beatClock (takeCells port reserve n c s).2.2 = beatClock s := by
  induction n generalizing c s with
  | zero => rfl
  | succ n ih =>
    unfold takeCells
    split <;> simp [ih]

@[simp] theorem setFrame_beatClock (f : Nat) (v : Option Frame) (s : State) : beatClock (setFrame f v s) = beatClock s := rfl

@[simp] theorem releaseFrame_beatClock (f : Nat) (s : State) : beatClock (releaseFrame f s) = beatClock s := by
  unfold releaseFrame
  (repeat' split) <;> simp

@[simp] theorem dropRef_beatClock (f : Nat) (s : State) : beatClock (dropRef f s) = beatClock s := by
  unfold dropRef
  (repeat' split) <;> simp

@[simp] theorem dropRep_beatClock (r : Replica) (s : State) : beatClock (dropRep r s) = beatClock s := by simp [dropRep]
@[simp] theorem setEgress_beatClock (p : Nat) (e : Egress) (s : State) : beatClock (setEgress p e s) = beatClock s := rfl
@[simp] theorem setSgate_beatClock (i : Nat) (g : StreamGate) (s : State) : beatClock (setSgate i g s) = beatClock s := rfl

@[simp] theorem frameRecord_beatClock (egress : Bool) (port stamp : Nat) (tc : Nat) (drop : Option Nat) (len : Nat) (h : Option Nat) (traced : Bool) (b : Bytes) (s : State) :
    beatClock (frameRecord egress port stamp tc drop len h traced b s) = beatClock s := by simp [frameRecord]

@[simp] theorem egressGroup_beatClock (p c at0 : Nat) (drop : Option Nat) (r : Replica) (bytes : Bytes) (s : State) :
    beatClock (egressGroup p c at0 drop r bytes s) = beatClock s := by simp [egressGroup]

@[simp] theorem dropReplica_beatClock (p c code : Nat) (r : Replica) (s : State) : beatClock (dropReplica p c code r s) = beatClock s := by simp [dropReplica]
@[simp] theorem schedCount_beatClock (p w : Nat) (s : State) : beatClock (schedCount p w s) = beatClock s := by simp [schedCount]
@[simp] theorem schedEvent_beatClock (p c cause : Nat) (s : State) : beatClock (schedEvent p c cause s) = beatClock s := by simp [schedEvent]
@[simp] theorem setQueue_beatClock (p c : Nat) (q : List Replica) (s : State) : beatClock (setQueue p c q s) = beatClock s := by simp [setQueue]
@[simp] theorem flushDeparts_beatClock (p : Nat) (s : State) : beatClock (flushDeparts p s) = beatClock s := by simp [flushDeparts]
@[simp] theorem cqfMisplaced_beatClock (p c : Nat) (s : State) : beatClock (cqfMisplaced p c s) = beatClock s := by simp [cqfMisplaced]
@[simp] theorem mirrorDropped_beatClock (sess : Nat) (s : State) : beatClock (mirrorDropped sess s) = beatClock s := rfl

@[simp] theorem turnAway_beatClock (p c why at0 : Nat) (r : Replica) (s : State) : beatClock (turnAway p c why at0 r s) = beatClock s := by
  unfold turnAway
  (repeat' split) <;> simp

@[simp] theorem dropRefused_beatClock (p : Nat) (s : State) : beatClock (dropRefused p s) = beatClock s := by simp [dropRefused]
@[simp] theorem settleRefused_beatClock (p : Nat) (s : State) : beatClock (settleRefused p s) = beatClock s := by simp [settleRefused]
@[simp] theorem noteRefused_beatClock (p c : Nat) (l : List (Nat × Replica)) (s : State) : beatClock (noteRefused p c l s) = beatClock s := by simp [noteRefused]

@[simp] theorem enterClass_beatClock (p c0 : Nat) (short : Option Nat) (r : Replica) (s0 : State) :
    beatClock (enterClass p c0 short r s0) = beatClock s0 := by simp [enterClass]

@[simp] theorem discardQueue_beatClock (p c code : Nat) (s : State) : beatClock (discardQueue p c code s) = beatClock s := by simp [discardQueue]

@[simp] theorem txRelease_beatClock (p : Nat) (s : State) : beatClock (txRelease p s) = beatClock s := by
  unfold txRelease
  dsimp only
  (repeat' split) <;> simp

@[simp] theorem releaseLines_beatClock (s : State) : beatClock (releaseLines s) = beatClock s := by simp [releaseLines]
@[simp] theorem dropSending_beatClock (t : Sending) (s : State) : beatClock (dropSending t s) = beatClock s := by simp [dropSending]

@[simp] theorem discardPort_beatClock (p : Nat) (s0 : State) : beatClock (discardPort p s0) = beatClock s0 := by
  unfold discardPort
  dsimp only
  (repeat' split) <;> simp

@[simp] theorem leaveUp_beatClock (p : Nat) (st : LinkState) (s : State) : beatClock (leaveUp p st s) = beatClock s := by simp [leaveUp]
@[simp] theorem portTo_beatClock (p : Nat) (st : LinkState) (s : State) : beatClock (portTo p st s) = beatClock s := by simp [portTo]
@[simp] theorem setShaper_beatClock (p c : Nat) (h : Shaper) (s : State) : beatClock (setShaper p c h s) = beatClock s := by simp [setShaper]
@[simp] theorem streamEvent_beatClock (cause obj : Nat) (s : State) : beatClock (streamEvent cause obj s) = beatClock s := by simp [streamEvent]

/-! #### Streams and segments -/

@[simp] theorem setFilter_beatClock (i : Nat) (f : Filter) (s : State) : beatClock (setFilter i f s) = beatClock s := rfl
@[simp] theorem setMeter_beatClock (i : Nat) (m : Meter) (s : State) : beatClock (setMeter i m s) = beatClock s := rfl
@[simp] theorem setGen_beatClock (i : Nat) (g : Generation) (s : State) : beatClock (setGen i g s) = beatClock s := rfl
@[simp] theorem setRcv_beatClock (i : Nat) (r : Recovery) (s : State) : beatClock (setRcv i r s) = beatClock s := rfl
@[simp] theorem setSeg_beatClock (i : Nat) (g : Segment) (s : State) : beatClock (setSeg i g s) = beatClock s := rfl
@[simp] theorem segRecord_beatClock (i old new kind src : Nat) (s : State) : beatClock (segRecord i old new kind src s) = beatClock s := by simp [segRecord]

@[simp] theorem segTo_beatClock (i new : Nat) (s : State) : beatClock (segTo i new s) = beatClock s := by
  unfold segTo
  dsimp only
  (repeat' split) <;> simp

@[simp] theorem sendGts_beatClock (i : Nat) (s : State) : beatClock (sendGts i s) = beatClock s := by simp [sendGts]
@[simp] theorem segCheck_beatClock (i : Nat) (s0 : State) : beatClock (segCheck i s0) = beatClock s0 := by simp [segCheck]
@[simp] theorem segCheckAll_beatClock (s : State) : beatClock (segCheckAll s) = beatClock s := by simp [segCheckAll]
@[simp] theorem drivePin_beatClock (i : Nat) (down : Bool) (s : State) : beatClock (drivePin i down s) = beatClock s := by simp [drivePin]
@[simp] theorem startWaking_beatClock (i kind src : Nat) (s : State) : beatClock (startWaking i kind src s) = beatClock s := by simp [startWaking]
@[simp] theorem validateSeg_beatClock (i : Nat) (s : State) : beatClock (validateSeg i s) = beatClock s := by simp [validateSeg]
@[simp] theorem validationStarts_beatClock (i : Nat) (s : State) : beatClock (validationStarts i s) = beatClock s := by simp [validationStarts]

/-! #### Frames that enter -/

@[simp] theorem stage1Drop_beatClock (port code : Nat) (stamp : Int) (b : Bytes) (s : State) : beatClock (stage1Drop port code stamp b s) = beatClock s := by simp [stage1Drop]

@[simp] theorem gptpSignal_beatClock (port : Nat) (b : Bytes) (s : State) : beatClock (gptpSignal port b s) = beatClock s := by
  unfold gptpSignal
  dsimp only
  (repeat' split) <;> simp

@[simp] theorem consumeGptp_beatClock (port : Nat) (b : Bytes) (s : State) : beatClock (consumeGptp port b s) = beatClock s := by simp [consumeGptp]
@[simp] theorem countRx_beatClock (port len : Nat) (b : Bytes) (s : State) : beatClock (countRx port len b s) = beatClock s := by simp [countRx]
@[simp] theorem newFrame_beatClock (v : Frame) (s : State) : beatClock (newFrame v s).2 = beatClock s := rfl
@[simp] theorem seenWhole_beatClock (port : Nat) (s : State) : beatClock (seenWhole port s) = beatClock s := by simp [seenWhole]
@[simp] theorem eat_beatClock (v : Frame) (s : State) : beatClock (eat v s) = beatClock s := by simp [eat]
@[simp] theorem storeAs_beatClock (f : Nat) (v : Frame) (s0 : State) : beatClock (storeAs f v s0) = beatClock s0 := by simp [storeAs]
@[simp] theorem nextFrame_beatClock (s : State) : beatClock (nextFrame s).2 = beatClock s := rfl
@[simp] theorem storeFrame_beatClock (v : Frame) (s : State) : beatClock (storeFrame v s) = beatClock s := by simp [storeFrame]

@[simp] theorem ringsGive_beatClock (s : State) : beatClock (ringsGive s) = beatClock s := by
  refine foldl_beatClock _ (fun u e => ?_) _ _
  split <;> simp

@[simp] theorem injectFrame_beatClock (v : Frame) (s0 : State) : beatClock (injectFrame v s0) = beatClock s0 := by simp [injectFrame]

/-! #### The cipher queue, buses and tunnels -/

@[simp] theorem keyFailed_beatClock (st : Nat) (s : State) : beatClock (keyFailed st s) = beatClock s := by simp [keyFailed]

@[simp] theorem requestNow_beatClock (r : BulkReq) (s : State) : beatClock (requestNow r s).2 = beatClock s := by
  unfold requestNow
  split <;> simp

@[simp] theorem setCan_beatClock (b : Nat) (c : Can) (s : State) : beatClock (setCan b c s) = beatClock s := rfl
@[simp] theorem setLin_beatClock (b : Nat) (l : Lin) (s : State) : beatClock (setLin b l s) = beatClock s := rfl
@[simp] theorem canCount_beatClock (b w : Nat) (s : State) : beatClock (canCount b w s) = beatClock s := by simp [canCount]
@[simp] theorem gwDrop_beatClock (place code : Nat) (s : State) : beatClock (gwDrop place code s) = beatClock s := rfl

@[simp] theorem gwFree_beatClock (n : Option Nat) (s : State) : beatClock (gwFree n s) = beatClock s := by
  unfold gwFree
  dsimp only
  (repeat' split) <;> simp

@[simp] theorem canRing_beatClock (b : Nat) (r : Rec) (s : State) : beatClock (canRing b r s) = beatClock s := by simp [canRing]

@[simp] theorem slotEnds_beatClock (b i : Nat) (x : CanSlot) (status lateness stamp : Nat) (s : State) :
    beatClock (slotEnds b i x status lateness stamp s) = beatClock s := by simp [slotEnds]

@[simp] theorem fillSlot_beatClock (b i : Nat) (o : GwOut) (host : Bool) (tag : Word) (s : State) : beatClock (fillSlot b i o host tag s) = beatClock s := by simp [fillSlot]

@[simp] theorem placeCan_beatClock (b : Nat) (o : GwOut) (s : State) : beatClock (placeCan b o s) = beatClock s := by
  unfold placeCan
  dsimp only
  (repeat' split) <;> simp

@[simp] theorem placeLin_beatClock (b : Nat) (o : GwOut) (s : State) : beatClock (placeLin b o s) = beatClock s := by
  unfold placeLin
  dsimp only
  (repeat' split) <;> simp

@[simp] theorem placeBus_beatClock (place : Nat) (o : GwOut) (s : State) : beatClock (placeBus place o s) = beatClock s := by simp [placeBus]
@[simp] theorem setTunnel_beatClock (i : Nat) (t : Tunnel) (s : State) : beatClock (setTunnel i t s) = beatClock s := rfl

/-! #### Keep-alives, shutdown and standby -/

@[simp] theorem sendKeepAlive_beatClock (i : Nat) (s : State) : beatClock (sendKeepAlive i s) = beatClock s := by simp [sendKeepAlive]
@[simp] theorem firstKeepAlives_beatClock (s : State) : beatClock (firstKeepAlives s) = beatClock s := by simp [firstKeepAlives]

@[simp] theorem releaseHeld_beatClock (i : Nat) (h : Held) (s : State) : beatClock (releaseHeld i h s) = beatClock s := by
  unfold releaseHeld
  (repeat' split) <;> simp

@[simp] theorem segAwake_beatClock (i : Nat) (s : State) : beatClock (segAwake i s) = beatClock s := by simp [segAwake]
@[simp] theorem setRxTunnel_beatClock (i : Nat) (v : RxTunnel) (s : State) : beatClock (setRxTunnel i v s) = beatClock s := rfl

@[simp] theorem discardWaiting_beatClock (b code : Nat) (s : State) : beatClock (discardWaiting b code s) = beatClock s := by
  refine foldl_beatClock _ (fun u e => ?_) _ _
  split <;> simp

@[simp] theorem segShutdown_beatClock (i : Nat) (s : State) : beatClock (segShutdown i s) = beatClock s := by
  unfold segShutdown
  dsimp only
  (repeat' split) <;> simp

@[simp] theorem deviceWakeRecord_beatClock (type level cause : Nat) (s : State) : beatClock (deviceWakeRecord type level cause s) = beatClock s := by simp [deviceWakeRecord]

@[simp] theorem nmBoundary_beatClock (s : State) : beatClock (nmBoundary s) = beatClock s := by
  unfold nmBoundary
  dsimp only
  (repeat' split) <;> simp

@[simp] theorem finishEntry_beatClock (s : State) : beatClock (finishEntry s) = beatClock s := by
  unfold finishEntry
  dsimp only
  (repeat' split) <;> simp

@[simp] theorem entryShutDown_beatClock (s : State) : beatClock (entryShutDown s) = beatClock s := by
  unfold entryShutDown
  dsimp only
  (repeat' split) <;> simp

/-! #### The control complex and its answers -/

@[simp] theorem setFw_beatClock (f : FwState → FwState) (s : State) : beatClock (setFw f s) = beatClock s := rfl
@[simp] theorem setCore_beatClock (f : CoreState → CoreState) (s : State) : beatClock (setCore f s) = beatClock s := rfl

@[simp] theorem mbxRecord_beatClock (m : Nat) (resp : Bool) (opcode status : Nat) (seq : Word) (s : State) :
    beatClock (mbxRecord m resp opcode status seq s) = beatClock s := by simp [mbxRecord]

@[simp] theorem inbandSend_beatClock (m n : Nat) (s : State) : beatClock (inbandSend m n s) = beatClock s := by
  induction n generalizing s with
  | zero => rfl
  | succ n ih =>
    unfold inbandSend
    dsimp only
    (repeat' split) <;> simp [ih]

@[simp] theorem landMessage_beatClock (m : Nat) (ws : Rec) (s : State) : beatClock (landMessage m ws s) = beatClock s := by simp [landMessage]
@[simp] theorem ringQueued_beatClock (o : Origin) (id : RingId) (ws : Rec) (s : State) : beatClock (ringQueued o id ws s) = beatClock s := by simp [ringQueued]
@[simp] theorem postMessage_beatClock (m : Nat) (ws : Rec) (s : State) : beatClock (postMessage m ws s) = beatClock s := by simp [postMessage]

@[simp] theorem respond_beatClock (m opcode : Nat) (seq : Word) (maj min : Nat) (final replay : Bool) (status : Nat) (payload : Rec) (s : State) :
    beatClock (respond m opcode seq maj min final replay status payload s) = beatClock s := by simp [respond]

@[simp] theorem snapshotTaken_beatClock (id : Nat) (s : State) : beatClock (snapshotTaken id s) = beatClock s := by simp [snapshotTaken]

@[simp] theorem armSets_beatClock (l : List Staged) (s : State) : beatClock (armSets l s) = beatClock s := by
  unfold armSets
  split
  · rfl
  · refine (foldl_beatClock _ (fun u x => ?_) _ _).trans (snapshotTaken_beatClock _ s)
    simp

@[simp] theorem controlStops_beatClock (mute : Bool) (s : State) : beatClock (controlStops mute s) = beatClock s := rfl

/-! #### Sets that a commit applies -/

@[simp] theorem goUp_beatClock (n : Nat) (s : State) : beatClock (goUp n s) = beatClock s := by simp [goUp]
@[simp] theorem tryUp_beatClock (n : Nat) (s : State) : beatClock (tryUp n s) = beatClock s := by simp [tryUp]
@[simp] theorem applyGateSwap_beatClock (p : Nat) (b : Int) (s : State) : beatClock (applyGateSwap p b s) = beatClock s := by simp [applyGateSwap]
@[simp] theorem applyFwSwap_beatClock (s : State) : beatClock (applyFwSwap s) = beatClock s := by simp [applyFwSwap]
@[simp] theorem applyGate_beatClock (i : Nat) (r : Rec) (b : Int) (s : State) : beatClock (applyGate i r b s) = beatClock s := by simp [applyGate]
@[simp] theorem applyRecovery_beatClock (i : Nat) (r : Rec) (s : State) : beatClock (applyRecovery i r s) = beatClock s := by simp [applyRecovery]
@[simp] theorem applyLinSelect_beatClock (bus : Nat) (t : Option Nat) (b : Int) (s : State) : beatClock (applyLinSelect bus t b s) = beatClock s := by simp [applyLinSelect]

@[simp] theorem applySegment_beatClock (i : Nat) (r : Rec) (s : State) : beatClock (applySegment i r s) = beatClock s := by
  unfold applySegment
  dsimp only
  (repeat' split) <;> simp

@[simp] theorem applyService_beatClock (p : Nat) (enter : Bool) (s : State) : beatClock (applyService p enter s) = beatClock s := by simp [applyService]

@[simp] theorem applySet_beatClock (b : Int) (x : SetItem) (s : State) : beatClock (applySet b x s) = beatClock s := by
  unfold applySet
  dsimp only
  (repeat' split) <;> simp

/-! #### The pair -/

@[simp] theorem setPair_beatClock (p : Pair) (s : State) : beatClock (setPair p s) = beatClock s := rfl
@[simp] theorem setObj_beatClock (o : Nat) (x : PairObj) (s : State) : beatClock (setObj o x s) = beatClock s := by simp [setObj]
@[simp] theorem pairEvent_beatClock (cause : Nat) (o : Option Nat) (s : State) : beatClock (pairEvent cause o s) = beatClock s := by simp [pairEvent]
@[simp] theorem pairSend_beatClock (type : Nat) (body : Rec) (extra : List Nat) (s : State) : beatClock (pairSend type body extra s) = beatClock s := by simp [pairSend]

@[simp] theorem stopsServing_beatClock (o : Nat) (s : State) : beatClock (stopsServing o s) = beatClock s := by
  unfold stopsServing
  dsimp only
  (repeat' split) <;> simp

@[simp] theorem dropObj_beatClock (o : Nat) (s : State) : beatClock (dropObj o s) = beatClock s := by simp [dropObj]
@[simp] theorem dropGroup_beatClock (s : State) : beatClock (dropGroup s) = beatClock s := by simp [dropGroup]
@[simp] theorem relinquish_beatClock (o : Nat) (s : State) : beatClock (relinquish o s) = beatClock s := by simp [relinquish]
@[simp] theorem sendCheckpoint_beatClock (s : State) : beatClock (sendCheckpoint s) = beatClock s := by simp [sendCheckpoint]
@[simp] theorem pairBoundary_beatClock (s : State) : beatClock (pairBoundary s) = beatClock s := by simp [pairBoundary]

/-! #### The parts of a boundary -/

@[simp] theorem beginPause_beatClock (s : State) : beatClock (beginPause s) = beatClock s := by
  unfold beginPause
  dsimp only
  (repeat' split) <;> simp

@[simp] theorem coalescerOut_beatClock (s0 : State) : beatClock (coalescerOut s0) = beatClock s0 := by simp [coalescerOut]

@[simp] theorem samplePort_beatClock (p : Nat) (s0 : State) : beatClock (samplePort p s0) = beatClock s0 := by
  unfold samplePort
  dsimp only
  (repeat' split) <;> simp

@[simp] theorem samplePorts_beatClock (s : State) : beatClock (samplePorts s) = beatClock s := by
  have hports : beatClock ((List.range 31).foldl (fun s p => samplePort p s) s) = beatClock s := by simp
  unfold samplePorts
  generalize (List.range 31).foldl (fun s p => samplePort p s) s = u at hports
  exact hports

@[simp] theorem applyCommit_beatClock (b : Int) (c : Commit) (s : State) : beatClock (applyCommit b c s) = beatClock s := by
  refine (updateBeat_beatClock _ _ rfl rfl rfl rfl rfl rfl).trans ?_
  simp

@[simp] theorem applyCommits_beatClock (b : Int) (s : State) : beatClock (applyCommits b s) = beatClock s :=
  foldl_beatClock _ (fun u c => applyCommit_beatClock b c u) _ _

@[simp] theorem overrun_beatClock (s : State) : beatClock (overrun s) = beatClock s := by
  unfold overrun
  split
  · rw [systemEvent_beatClock, count_beatClock]
    rfl
  · rfl

@[simp] theorem startList_beatClock (s : State) : beatClock (startList s) = beatClock s := by
  unfold startList
  split <;> rfl

@[simp] theorem loadSecond_beatClock (s : State) : beatClock (loadSecond s) = beatClock s := rfl

@[simp] theorem armAgain_beatClock (s : State) : beatClock (armAgain s) = beatClock s := by
  unfold armAgain
  split
  · rw [armSets_beatClock]
    rfl
  · rfl

@[simp] theorem leaderPulse_beatClock (b : Int) (s : State) : beatClock (leaderPulse b s) = beatClock s := by simp [leaderPulse]

/-! ### The boundary counts one Beat (R17, R18, R20, R22) -/

/-- The Beat that opens is numbered from the clock alone. -/
theorem beatOn_congr {s u : State} (b : Int) (h : beatClock u = beatClock s) : beatClock (beatOn b u) = beatClock (beatOn b s) := by
  have hbeat := congrArg Prod.fst h
  have hk : u.beat.k = s.beat.k := (congrArg BeatState.k hbeat :)
  have hkNext : u.beat.kNext = s.beat.kNext := (congrArg BeatState.kNext hbeat :)
  have hkCmd : u.beat.kCmd = s.beat.kCmd := (congrArg BeatState.kCmd hbeat :)
  have hseq : u.beat.seq = s.beat.seq := (congrArg BeatState.seq hbeat :)
  have hnow : u.time.now = s.time.now := (congrArg Prod.snd h :)
  have hdue : kDue u = kDue s := by simp only [kDue, hkCmd, hkNext, hnow]
  simp only [beatClock, beatOn, hk, hkNext, hkCmd, hseq, hnow, hdue]

/-- Of the parts of a boundary the opening of the Beat alone moves the clock. -/
theorem boundary_beatClock (b : Int) (s : State) : beatClock (boundary b s) = beatClock (beatOn b s) := by
  have hclose : beatClock (applyCommits b (overrun (samplePorts (coalescerOut s)))) = beatClock s := by simp
  calc beatClock (boundary b s)
    _ = beatClock (beatOn b (applyCommits b (overrun (samplePorts (coalescerOut s))))) := by simp [boundary]
    _ = beatClock (beatOn b s) := beatOn_congr b hclose

/-- Settles O23: BEAT_BOUNDARY issues the boundary, and the clock of the state that it leaves is the one that the opening of the Beat sets. -/
theorem boundaryNumbersTheBeat : Obligations.BoundaryNumbersTheBeat := by
  unfold Obligations.BoundaryNumbersTheBeat
  intro t s hon hdue e
  have hbeat := congrArg Prod.fst (boundary_beatClock e.beat.next e)
  have hk : (boundary e.beat.next e).beat.k = (beatOn e.beat.next e).beat.k := (congrArg BeatState.k hbeat :)
  have hlen : (boundary e.beat.next e).beat.k = if e.beat.next % wtSec = 0 then kDue e else e.beat.k := by
    rw [hk]
    simp [beatOn]
  refine ⟨boundary e.beat.next e, does_beatBoundary t s hon hdue, (congrArg BeatState.seq hbeat :), hlen, ?_, ?_⟩
  · rw [hk]
    exact (congrArg BeatState.inSec hbeat :)
  · rw [hk]
    exact (congrArg BeatState.next hbeat :)

end Sys2Proof.Machine
end

section
/-!
PROOFS. Forms of working time: short times and full times (R51 to R54).
-/
namespace Sys2Proof.Machine
open Sys2Proof Sys2Proof.Safety

/-! ### Short times (R53, R54) -/

/-- A short time lies below 2^32. -/
theorem shortTime_lt (w : Int) : shortTime w < 4294967296 := by
  simp only [shortTime, unsigned]
  omega

/-- A short time is its working time's whole nanoseconds modulo 2^32. -/
theorem shortTime_cast (w : Int) : (shortTime w : Int) = wholeNs w % 4294967296 := by
  simp only [shortTime, unsigned]
  omega

/-- The whole nanoseconds of a working time, by its seconds and its nanoseconds within the second (R51). -/
theorem wholeNs_eq (w : Int) : wholeNs w = w / 65536000000000 * 1000000000 + w % 65536000000000 / 65536 := by
  simp only [wholeNs]
  omega

/-- A short time comes again 2^32 ns later. -/
theorem shortTime_period (w : Int) : shortTime (w + 4294967296 * 65536) = shortTime w := by
  have h := shortTime_cast (w + 4294967296 * 65536)
  have h' := shortTime_cast w
  simp only [wholeNs] at h h'
  omega

/-- The distance of a short time from now is that of the nearest instant which has it. -/
theorem shortDist_shortTime {w v : Int} (hlo : -2147483648 ≤ v / 65536 - w / 65536) (hhi : v / 65536 - w / 65536 < 2147483648) :
    shortDist w (shortTime v) = v / 65536 - w / 65536 := by
  have hv := shortTime_cast v
  have hw := shortTime_cast w
  have hvlt := shortTime_lt v
  have hwlt := shortTime_lt w
  simp only [wholeNs] at hv hw
  simp only [shortDist, signed]
  split <;> omega

/-- A short time names the instant at its distance from now (R54). -/
theorem ofShort_eq (w : Int) (short : Nat) : ofShort w short = (wholeNs w + shortDist w short) * 65536 := rfl

/-- Settles O52: a short time is a residue of whole nanoseconds, and the signed distance finds the nearest instant that has it. -/
theorem shortTimeWraps : Obligations.ShortTimeWraps := by
  unfold Obligations.ShortTimeWraps
  refine ⟨fun w => ?_, shortTime_period, fun w v hlo hhi => ⟨?_, shortDist_shortTime hlo hhi⟩⟩
  · rw [shortTime_cast, wholeNs_eq]
  · rw [ofShort_eq, shortDist_shortTime hlo hhi, wholeNs]
    omega

/-! ### Full times (R51, R52) -/

/-- A word keeps a number below 2^32. -/
theorem toNat_word_of_lt {n : Nat} (h : n < 4294967296) : (word n).toNat = n := by
  simp only [word, BitVec.toNat_ofNat]
  omega

/-- The second word of a full time holds two halves of 16 bits. -/
theorem toNat_packW_halves (a b : Nat) : (packW [(16, a), (16, b)]).toNat = a % 65536 * 65536 + b % 65536 := by
  simp only [packW, pack, word, BitVec.toNat_ofNat, List.foldl_cons, List.foldl_nil]
  omega

/-- A full time has three words: 32 bits of seconds, 16 more and the fraction of a nanosecond, and the nanoseconds. -/
theorem fullTime_eq (w : Int) : fullTime w =
    [word ((w / wtSec).toNat / 65536), packW [(16, (w / wtSec).toNat), (16, (w % wtSec).toNat % 65536)], word ((w % wtSec).toNat / 65536)] := rfl

/-- Within a second there are fewer than 10^9 whole nanoseconds. -/
theorem nsOfSecond_lt (w : Int) : (w % wtSec).toNat / 65536 < 1000000000 := by
  simp only [wtSec]
  omega

/-- A full time carries a legal NS (R52). -/
theorem fullOk_fullTime (w : Int) : fullOk (fullTime w) = true := by
  have hns := nsOfSecond_lt w
  simp [fullOk, fullTime_eq, rw, toNat_word_of_lt (show (w % wtSec).toNat / 65536 < 4294967296 by omega), hns]

/-- A working time of 48-bit seconds is the one that its full time names. -/
theorem ofFull_fullTime {w : Int} (h0 : 0 ≤ w) (h : w < 2 ^ 48 * 65536000000000) : ofFull (fullTime w) = w := by
  have hns := nsOfSecond_lt w
  have hsec : (w / wtSec).toNat / 65536 < 4294967296 := by
    simp only [wtSec]
    omega
  simp only [ofFull, fullTime_eq, rw, fld, bits, nbits, List.getD_cons_zero, List.getD_cons_succ, toNat_packW_halves, toNat_word_of_lt hsec,
    toNat_word_of_lt (show (w % wtSec).toNat / 65536 < 4294967296 by omega)]
  simp only [wtSec] at *
  omega

/-- Settles O53: a full time reads back the working time that it was made of. -/
theorem fullTimesRoundTrip : Obligations.FullTimesRoundTrip := by
  unfold Obligations.FullTimesRoundTrip
  refine fun w h0 h => ⟨fullOk_fullTime w, ofFull_fullTime h0 h, rfl, fun v hv0 hv heq => ?_⟩
  calc v = ofFull (fullTime v) := (ofFull_fullTime hv0 hv).symm
    _ = ofFull (fullTime w) := by rw [heq]
    _ = w := ofFull_fullTime h0 h

end Sys2Proof.Machine
end

section
/-!
PROOFS. The mapping in force once its anchor has come (R45 to R49, R58, R59).
-/
namespace Sys2Proof.Machine
open Sys2Proof Sys2Proof.Safety

/-! ### What leaves the time unit as it is -/

@[simp] theorem csPushAt_time (kind lt : Nat) (ps : List (BitVec 64)) (s : State) : (csPushAt kind lt ps s).time = s.time := by rw [csPushAt_frame]

@[simp] theorem raiseEvent_time (source cause : Nat) (d : Option Nat) (s : State) : (raiseEvent source cause d s).time = s.time := by rw [raiseEvent_frame]

@[simp] theorem timeEvent_time (i cause : Nat) (s : State) : (timeEvent i cause s).time = s.time := raiseEvent_time _ _ _ s
@[simp] theorem setFlag_time (off i : Nat) (s : State) : (setFlag off i s).time = s.time := rfl

/-- Steps that each leave the time unit leave it together. -/
theorem foldl_time {α : Type} (f : State → α → State) (h : ∀ s x, (f s x).time = s.time) (l : List α) (s : State) : (l.foldl f s).time = s.time := by
  induction l generalizing s with
  | nil => rfl
  | cons x l ih => rw [List.foldl_cons, ih, h]

@[simp] theorem mappingEvents_time (was : Bool) (q : MapReq) (s : State) : (mappingEvents was q s).time = s.time := by
  unfold mappingEvents
  (repeat' split) <;> simp

@[simp] theorem gateListAt_time (p : Nat) (w : Int) (s : State) : (gateListAt p w s).time = s.time := by
  unfold gateListAt
  dsimp only
  (repeat' split) <;> rfl

@[simp] theorem sgateListAt_time (i : Nat) (w : Int) (s : State) : (sgateListAt i w s).time = s.time := by
  unfold sgateListAt
  dsimp only
  (repeat' split) <;> rfl

@[simp] theorem gateListsAt_time (w : Int) (s : State) : (gateListsAt w s).time = s.time := by
  unfold gateListsAt
  exact foldl_time _ (fun u (e : Nat × _) => gateListAt_time e.1 w u) _ s

@[simp] theorem sgateListsAt_time (w : Int) (s : State) : (sgateListsAt w s).time = s.time := by
  unfold sgateListsAt
  exact foldl_time _ (fun u (e : Nat × _) => sgateListAt_time e.1 w u) _ s

@[simp] theorem skipPulses_time (n : Nat) (s : State) : (skipPulses n s).time = s.time := by
  unfold skipPulses
  dsimp only
  (repeat' split) <;> simp

@[simp] theorem skipAll_time (s : State) : (skipAll s).time = s.time := by
  unfold skipAll
  exact foldl_time _ (fun u n => skipPulses_time n u) _ s

@[simp] theorem afterStep_time (a : Nat) (s : State) : (afterStep a s).time = s.time := by simp [afterStep]

/-! ### The mapping that takes effect -/

/-- A mapping that takes effect leaves the time unit as the mapping makes it, but for the requests that wait for an anchor (R45 to R48). -/
theorem takeMapping_time (a : Nat) (q : MapReq) (s : State) :
    ∃ pend wait, (takeMapping a q s).time = { mapped a q s.time with pend := pend, wait := wait } := by
  unfold takeMapping
  dsimp only
  generalize hu : mappingEvents _ q _ = u
  have htime : u.time = mapped a q s.time := by simp [← hu]
  split
  · exact ⟨_, _, htime⟩
  · exact ⟨_, _, by rw [htime]⟩

/-- So does the whole of what happens once its anchor has come. -/
theorem anchorReached_time {s : State} {a : Nat} {q : MapReq} (hp : s.time.pend = some (a, q)) (ha : a ≤ s.time.now) :
    ∃ pend wait, (anchorReached s).time = { mapped a q s.time with pend := pend, wait := wait } := by
  cases hq : stepping q with
  | false =>
    rw [anchorReached_of_plain hp ha hq]
    exact takeMapping_time a q s
  | true =>
    rw [anchorReached_of_stepping hp ha hq]
    simpa using takeMapping_time a q s

/-- A value held between two bounds lies between them. -/
theorem clampI_bounds {lo hi : Int} (h : lo ≤ hi) (v : Int) : lo ≤ clampI lo hi v ∧ clampI lo hi v ≤ hi := by
  simp only [clampI]
  omega

/-- The slew of a mapping stays within 50 ppm (R46, R47, R58). -/
theorem slew_bounds {f : Int} (hlo : -slewClamp ≤ f) (hhi : f ≤ slewClamp) (old : Int) (ask : Option Int) :
    -slewClamp ≤ f + phaseTerm f old ask ∧ f + phaseTerm f old ask ≤ slewClamp := by
  have hclamp : 0 ≤ slewClamp := by decide
  unfold phaseTerm
  split
  · have h := clampI_bounds (show -slewClamp - f ≤ slewClamp - f by omega) old
    omega
  · (repeat' split) <;> omega

/-- A phase term of no sign ends the slew (R58). -/
theorem phaseTerm_zero (f old : Int) : phaseTerm f old (some 0) = 0 := rfl

/-- Settles O22: MAPPING_ANCHOR puts the pending mapping in force, and its steps and events leave the time unit as the mapping makes it. -/
theorem mappingInForceAfterItsAnchor : Obligations.MappingInForceAfterItsAnchor := by
  unfold Obligations.MappingInForceAfterItsAnchor
  intro t s a q hon hp ha e
  obtain ⟨pend, wait, htime⟩ := anchorReached_time hp ha
  obtain ⟨hlo, hhi⟩ := clampI_bounds (show -slewClamp ≤ slewClamp by decide) (q.f.getD e.time.fAsk)
  obtain ⟨halo, hahi⟩ := slew_bounds hlo hhi e.time.p q.p
  refine ⟨anchorReached e, does_of anchorReached (P := fun _ => True) (eff := anchorReached) (fun _ _ => rfl) (fun _ _ _ => rfl) t s hon trivial, ?_⟩
  rw [htime]
  refine ⟨rfl, rfl, rfl, rfl, rfl, rfl, halo, hahi, ?_, rfl, ?_⟩
  · exact decide_eq_true_iff.trans ne_comm
  · intro h
    change phaseTerm _ _ q.p = 0
    rw [h, phaseTerm_zero]

end Sys2Proof.Machine
end

section
/-!
PROOFS. The passing of time, and what is left to the end of a cycle (R41, R58, R354, R391, R429, R512).
-/
namespace Sys2Proof.Machine
open Sys2Proof Sys2Proof.Safety

/-! ### The pending correction (R58) -/

theorem consumed_of_nonneg {c : Int} (h : 0 ≤ c) (p : Int) (n : Nat) : consumed c p n = max 0 (c - p.natAbs * n) := if_neg (Int.not_lt.mpr h)

theorem consumed_of_neg {c : Int} (h : c < 0) (p : Int) (n : Nat) : consumed c p n = min 0 (c + p.natAbs * n) := if_pos h

@[simp] theorem consumed_zero (c p : Int) : consumed c p 0 = c := by
  simp only [consumed]
  split <;> omega

/-- What two stretches of cycles consume, they consume together. -/
theorem consumed_add (c p : Int) (m n : Nat) : consumed (consumed c p m) p n = consumed c p (m + n) := by
  have hsum : (p.natAbs : Int) * (m + n : Nat) = p.natAbs * m + p.natAbs * n := by
    rw [Int.natCast_add, Int.mul_add]
  have hm : (0 : Int) ≤ p.natAbs * m := Int.mul_nonneg (Int.natCast_nonneg _) (Int.natCast_nonneg _)
  have hn : (0 : Int) ≤ p.natAbs * n := Int.mul_nonneg (Int.natCast_nonneg _) (Int.natCast_nonneg _)
  simp only [consumed, hsum]
  (repeat' split) <;> omega

/-- The pending correction never grows. -/
theorem consumed_natAbs_le (c p : Int) (n : Nat) : (consumed c p n).natAbs ≤ c.natAbs := by
  have hn : (0 : Int) ≤ p.natAbs * n := Int.mul_nonneg (Int.natCast_nonneg _) (Int.natCast_nonneg _)
  simp only [consumed]
  split <;> omega

/-! ### Local time comes to a cycle (R41, R512) -/

/-- The time unit in core cycle t, which is not past. -/
def timeAt (t : Nat) (v : TimeState) : TimeState := { v with now := t, corr := consumed v.corr v.p (t - v.corrAt), corrAt := t }

/-- Local time comes to a later cycle: the correction is consumed, and reads of the cycle will return what stands (R58, R512). -/
theorem atTime_of_lt {s : State} {t : Nat} (h : s.time.now < t) :
    State.atTime t s = { s with time := timeAt t s.time, start := { s.toDevice with time := timeAt t s.time } } := by
  simp only [State.atTime, timeAt, if_pos h, Nat.max_eq_left (Nat.le_of_lt h)]

/-- A cycle that is not later brings no local time: the correction is reckoned up to now. -/
theorem atTime_of_ge {s : State} {t : Nat} (h : t ≤ s.time.now) : State.atTime t s = { s with time := timeAt s.time.now s.time } := by
  simp only [State.atTime, timeAt, if_neg (Nat.not_lt.mpr h), Nat.max_eq_right h]

@[simp] theorem atTime_now (t : Nat) (s : State) : (State.atTime t s).time.now = max t s.time.now := rfl
@[simp] theorem atTime_corrAt (t : Nat) (s : State) : (State.atTime t s).time.corrAt = max t s.time.now := rfl

/-- In the cycle up to which the correction is reckoned the time unit stands. -/
theorem timeAt_self {v : TimeState} (h : v.corrAt = v.now) : timeAt v.now v = v := by
  cases v
  simp only at h
  subst h
  simp [timeAt]

/-- Where the correction is reckoned up to now, a cycle that has passed changes nothing. -/
theorem atTime_past {s : State} {t : Nat} (hc : s.time.corrAt = s.time.now) (h : t ≤ s.time.now) : State.atTime t s = s := by
  rw [atTime_of_ge h, timeAt_self hc]

/-- Two cycles one after the other reckon the correction as the later one alone does. -/
theorem timeAt_timeAt {v : TimeState} {t1 t2 : Nat} (h1 : v.corrAt ≤ t1) (h2 : t1 ≤ t2) : timeAt t2 (timeAt t1 v) = timeAt t2 v := by
  have hsum : t1 - v.corrAt + (t2 - t1) = t2 - v.corrAt := by omega
  simp only [timeAt, consumed_add, hsum]

/-- Local time comes to a cycle through an earlier one or directly. -/
theorem atTime_atTime {s : State} {t1 t2 : Nat} (hc : s.time.corrAt = s.time.now) (h : t1 ≤ t2) :
    (State.atTime t1 s).atTime t2 = State.atTime t2 s := by
  rcases Nat.lt_or_ge s.time.now t1 with h1 | h1
  · have h2 : s.time.now < t2 := Nat.lt_of_lt_of_le h1 h
    have ht : timeAt t2 (timeAt t1 s.time) = timeAt t2 s.time := timeAt_timeAt (by omega) h
    rcases Nat.eq_or_lt_of_le h with rfl | h12
    · exact atTime_past rfl (Nat.le_max_left _ _)
    · rw [atTime_of_lt h1, atTime_of_lt (show _ < t2 from h12), atTime_of_lt h2]
      simp only [ht]
  · rw [atTime_past hc h1]

/-! ### What is left to the end of a cycle (log entry 116) -/

theorem lateFirst_iff (a b : Nat × Late) : lateFirst a b = true ↔ a.1 < b.1 ∨ (a.1 = b.1 ∧ a.2.rank ≤ b.2.rank) := by
  simp [lateFirst]

theorem lateFirst_trans {a b c : Nat × Late} (hab : lateFirst a b = true) (hbc : lateFirst b c = true) : lateFirst a c = true := by
  rw [lateFirst_iff] at *
  omega

/-- Of two things left to ends of cycles one acts no later than the other. -/
theorem lateFirst_of_not {a b : Nat × Late} (h : (!lateFirst a b) = true) : lateFirst b a = true := by
  rw [Bool.not_eq_true', Bool.eq_false_iff, ne_eq, lateFirst_iff] at h
  rw [lateFirst_iff]
  omega

/-- What is left over keeps its order when something more is left. -/
theorem giveWayTo_pairwise (n : Nat) (e : Late) (s : State) (h : s.late.Pairwise (fun a b => lateFirst a b = true)) :
    (giveWayTo n e s).late.Pairwise (fun a b => lateFirst a b = true) := by
  have hbefore : ∀ x ∈ s.late.filter (fun x => lateFirst x (n, e)), lateFirst x (n, e) = true := fun x hx => (List.mem_filter.mp hx).2
  have hbehind : ∀ x ∈ s.late.filter (fun x => !lateFirst x (n, e)), lateFirst (n, e) x = true := fun x hx =>
    lateFirst_of_not (List.mem_filter.mp hx).2
  refine List.pairwise_append.mpr ⟨h.filter _, List.pairwise_cons.mpr ⟨hbehind, h.filter _⟩, fun a ha b hb => ?_⟩
  rcases List.mem_cons.mp hb with rfl | hb
  · exact hbefore a ha
  · exact lateFirst_trans (hbefore a ha) (hbehind b hb)

/-- What is left to the end of a cycle joins what was left over. -/
theorem giveWayTo_perm (n : Nat) (e : Late) (s : State) : (giveWayTo n e s).late.Perm ((n, e) :: s.late) :=
  List.perm_middle.trans ((List.filter_append_perm _ s.late).cons _)

/-- Where nothing is left over, no end of a cycle does anything. -/
theorem lateUntil_of_none (t n : Nat) {s : State} (h : s.late = []) : lateUntil t n s = s := by
  cases n with
  | zero => rfl
  | succ n => simp [lateUntil, h]

/-- Nor does one do anything before the cycle of the first thing left over has ended. -/
theorem lateUntil_of_later {t d : Nat} {e : Late} {r : List (Nat × Late)} {s : State} (n : Nat) (h : s.late = (d, e) :: r) (hd : t ≤ d) :
    lateUntil t n s = s := by
  cases n with
  | zero => rfl
  | succ n => simp [lateUntil, h, Nat.not_lt.mpr hd]

/-- Once its cycle has ended, the first thing left over acts on the state that its cycle has left, while the core runs. -/
theorem lateUntil_of_over {t d : Nat} {e : Late} {r : List (Nat × Late)} {s : State} (n : Nat) (h : s.late = (d, e) :: r) (hd : d < t)
    (hon : coreOn s = true) : lateUntil t (n + 1) s = lateUntil t n (runLate e (State.atTime d { s with late := r })) := by
  have hon' : coreOn (State.atTime d { s with late := r }) = true := hon
  simp [lateUntil, h, hd, hon']

/-- While the Darkroom's supply stands, no hold-up ends (R429). -/
theorem holdUpEnds_of_none (t : Nat) {s : State} (h : s.dark.lowAt = none) : holdUpEnds t s = s := by
  simp [holdUpEnds, h]

/-- Where nothing acts before cycle t, its coming is the passing of time alone. -/
theorem passTo_of_lateUntil {t : Nat} {s u : State} (hl : ∀ n, lateUntil t (n + 16) s = u) (hdark : u.dark.lowAt = none) :
    passTo t s = State.atTime t u := by
  rw [passTo, hl, holdUpEnds_of_none t hdark]

/-- Settles O2: time passes as `atTime` says, and what is left to the end of a cycle stays in order and acts once the cycle is over. -/
theorem timePassesInCoreCycles : Obligations.TimePassesInCoreCycles := by
  unfold Obligations.TimePassesInCoreCycles
  refine ⟨fun s h => ?cycle, fun s t h hd => ?idle, fun t s h => ?passes, fun s t0 t1 t2 h => ?through, fun s t => ?monotone, fun s t0 t h => ?past,
    fun n e s h => ⟨giveWayTo_pairwise n e s h, giveWayTo_perm n e s⟩, fun s d e r t h hd ht => ?later, fun s d e t h hd hon hu hdark => ?ended⟩
  case cycle => rw [step, h]
  case idle => exact passTo_of_lateUntil (fun n => lateUntil_of_none t _ h) hd
  case passes =>
    refine ⟨consumed s.time.corr s.time.p (t - s.time.corrAt), ?_, fun hc => consumed_of_nonneg hc _ _, fun hc => consumed_of_neg hc _ _⟩
    rcases Nat.eq_or_lt_of_le h with rfl | h
    · rw [if_pos rfl]
      exact atTime_of_ge (Nat.le_refl _)
    · rw [if_neg (Nat.ne_of_lt h)]
      exact atTime_of_lt h
  case through => exact atTime_atTime rfl h
  case monotone => exact ⟨Nat.le_max_right _ _, consumed_natAbs_le _ _ _⟩
  case past => exact atTime_past rfl h
  case later => exact passTo_of_lateUntil (fun n => lateUntil_of_later _ h ht) hd
  case ended =>
    refine passTo_of_lateUntil (fun n => ?_) hdark
    rw [lateUntil_of_over (n + 15) h hd hon]
    exact lateUntil_of_none t _ hu

end Sys2Proof.Machine
end

section
/-!
PROOFS. The TIME family of requests (R565 to R567).
-/
namespace Sys2Proof.Machine
open Sys2Proof Sys2Proof.Safety

/-! ### Domain slots (R82 to R84, R566) -/

/-- The words of a domain request are in range (R566). -/
structure DomainFits (q : Req) : Prop where
  length : q.args.length = 7
  slot : only (mw q 4) [(1, 0)] = true
  word0 : only (mw q 5) [(31, 6)] = true
  mode : slotMode (q.args.drop 1) ≠ 3
  word1 : only (mw q 6) [(31, 5)] = true
  syncLow : -7 ≤ signed 4 (mf q 6 15 12)
  syncHigh : signed 4 (mf q 6 15 12) ≤ 0
  announceLow : -3 ≤ signed 4 (mf q 6 11 8)
  announceHigh : signed 4 (mf q 6 11 8) ≤ 3
  word2 : only (mw q 7) [(31, 16)] = true
  syncTimeout : 2 ≤ mf q 7 31 24
  announceTimeout : 2 ≤ mf q 7 23 16
  word3 : mf q 8 31 24 = 0
  roles : ∀ p < 28, extRole (q.args.drop 1) p ≠ 3
  word5 : only (mw q 10) [(27, 0)] = true

/-- Field [hi:lo] of a word of a domain record is that of the message word one further on. -/
theorem fld_drop_one (q : Req) (i hi lo : Nat) : fld (q.args.drop 1) i hi lo = mf q (i + 5) hi lo := by
  simp only [fld, mf, mw, rw_drop]
  congr 2
  omega

theorem rw_drop_one (q : Req) (i : Nat) : rw (q.args.drop 1) i = mw q (i + 5) := by
  rw [rw_drop, mw]
  congr 1
  omega

/-- A domain record in range is refused where it conflicts; where it would make the source slot grandmaster in external mode, with its event; else the
slot takes it (R83, R84). -/
theorem timeDomain_valid {q : Req} (s : State) (h : DomainFits q) : timeDomain q s =
    (domainConflict (mf q 4 1 0) (q.args.drop 1) s).elim
      (if slotMode (q.args.drop 1) = 2 ∧ drives s (mf q 4 1 0) = true ∧ isGrandmaster (domainTakes (mf q 4 1 0) (q.args.drop 1) s) (mf q 4 1 0) = true
        then gmSource (mf q 4 1 0) s
        else ok (runBmca (mf q 4 1 0) (domainTakes (mf q 4 1 0) (q.args.drop 1) s)))
      (fun n => conflictAt n s) := by
  refine (need_ok h.length ?_).trans ?_
  · have hlow : (List.range 16).all (fun p => extRole (q.args.drop 1) p ≠ 3) = true := by
      simp only [List.all_eq_true, List.mem_range, decide_eq_true_eq]
      exact fun p hp => h.roles p (by omega)
    have hhigh : (List.range 12).all (fun p => extRole (q.args.drop 1) (16 + p) ≠ 3) = true := by
      simp only [List.all_eq_true, List.mem_range, decide_eq_true_eq]
      exact fun p hp => h.roles (16 + p) (by omega)
    simp only [fld_drop_one, rw_drop_one, List.mem_cons, List.not_mem_nil, or_false]
    rintro e (rfl | rfl | rfl | rfl | rfl | rfl | rfl)
    · exact h.slot
    · simp [-List.drop_one, h.word0, h.mode]
    · simp [h.word1, h.syncLow, h.syncHigh, h.announceLow, h.announceHigh]
    · simp [h.word2, h.syncTimeout, h.announceTimeout]
    · simp only [h.word3, hhigh, decide_true, Bool.and_self]
    · exact hlow
    · exact h.word5
  · cases domainConflict (mf q 4 1 0) (q.args.drop 1) s with
    | some n => rfl
    | none => simp [and_assoc]

/-! ### The source of working time (R84, R85, R109) -/

/-- Working time takes a source that is another one than before (R85). -/
theorem takeSource_eq (src domain : Nat) (s : State) :
    takeSource src domain s = if s.time.src = src ∧ s.time.domain = domain then s else changeSource src domain s := by
  simp [takeSource]

/-- The pair and the host's switch that a choice of source leaves. -/
def withPair (p : Option (Nat × Nat)) (s : State) : State := { s with net := { s.net with pair := p, hostSwitch := none } }

/-- Free-running, host-disciplined and pair time are taken at once (R85). -/
theorem timeSource_alone {q : Req} (s : State) {k src : Nat} (hk : (k = 0 ∧ src = 0) ∨ (k = 3 ∧ src = 2) ∨ (k = 4 ∧ src = 3)) (hlen : q.args.length = 1)
    (h4 : only (mw q 4) [(15, 0)] = true) (hoff : 1 ≤ mf q 4 15 8) (hkind : mf q 4 2 0 = k) :
    timeSource q s = ok (takeSource src 0 (withPair none s)) := by
  refine (need_ok hlen (by simp [h4, hoff, show mf q 4 2 0 ≤ 4 by omega])).trans ?_
  rcases hk with ⟨rfl, rfl⟩ | ⟨rfl, rfl⟩ | ⟨rfl, rfl⟩ <;> simp [hkind, withPair]

/-- One slot is taken, unless it is grandmaster or off (R84). -/
theorem timeSource_slot {q : Req} (s : State) (hlen : q.args.length = 1) (h4 : only (mw q 4) [(15, 0)] = true) (hoff : 1 ≤ mf q 4 15 8)
    (hkind : mf q 4 2 0 = 1) :
    timeSource q s = if isGrandmaster s (mf q 4 4 3) = true then gmSource (mf q 4 4 3) s
      else if slotEnabled s (mf q 4 4 3) = false then conflictAt 4 s
      else ok (takeSource 1 (mf q 4 4 3) (withPair none s)) := by
  refine (need_ok hlen (by simp [h4, hoff, hkind])).trans ?_
  simp [hkind, withPair]

/-- A hot-standby pair of two enabled slots with slave ports starts from its first slot (R105, R109). -/
theorem timeSource_pair {q : Req} (s : State) {a b : Nat} (hlen : q.args.length = 1) (h4 : only (mw q 4) [(15, 0)] = true) (hoff : 1 ≤ mf q 4 15 8)
    (hkind : mf q 4 2 0 = 2) (ha : mf q 4 4 3 = a) (hb : mf q 4 6 5 = b) (hab : a ≠ b) (hga : isGrandmaster s a = false) (hgb : isGrandmaster s b = false)
    (hea : slotEnabled s a = true) (heb : slotEnabled s b = true) (hsa : (slavePort s a).isSome = true) (hsb : (slavePort s b).isSome = true) :
    timeSource q s = ok (takeSource 1 a { s with net := { s.net with
      pair := some (a, b), hostSwitch := none, revert := bit (mw q 4) 7, holdOff := mf q 4 15 8 } }) := by
  refine (need_ok hlen (by simp [h4, hoff, hkind])).trans ?_
  have hna : (slavePort s a).isNone = false := by rw [← Option.not_isSome, hsa]; rfl
  have hnb : (slavePort s b).isNone = false := by rw [← Option.not_isSome, hsb]; rfl
  simp [hkind, ha, hb, hab, hga, hgb, hea, heb, hna, hnb]

/-- The host's switch waits for a slot of the pair that is not grandmaster (R84, R109). -/
theorem timeSwitch_pair {q : Req} {s : State} {a b : Nat} (hlen : q.args.length = 1) (h4 : only (mw q 4) [(1, 0)] = true)
    (hg : isGrandmaster s (mf q 4 1 0) = false) (hpair : s.net.pair = some (a, b)) (hj : mf q 4 1 0 = a ∨ mf q 4 1 0 = b) :
    timeSwitch q s = ok { s with net := { s.net with hostSwitch := some (mf q 4 1 0) } } := by
  refine (need_ok hlen (by simp [h4])).trans ?_
  have hout : (!(decide (mf q 4 1 0 = a) || decide (mf q 4 1 0 = b))) = false := by
    rcases hj with hj | hj <;> simp [hj]
  simp only [hpair, hout, hg, Bool.false_eq_true, if_false]

/-- Without a pair there is no switch (R109). -/
theorem timeSwitch_alone {q : Req} {s : State} (hlen : q.args.length = 1) (h4 : only (mw q 4) [(1, 0)] = true) (hpair : s.net.pair = none) :
    timeSwitch q s = conflictAt 4 s := by
  refine (need_ok hlen (by simp [h4])).trans ?_
  simp only [hpair]

/-! ### Constants, corrections, steps and status -/

/-- The constants of a port out of service are set (R86, R93). -/
theorem timePort_valid {q : Req} {s : State} (hlen : q.args.length = 6) (h4 : only (mw q 4) [(17, 0)] = true) (hp : mf q 4 4 0 < 28)
    (hlow : -4 ≤ signed 4 (mf q 4 8 5)) (hhigh : signed 4 (mf q 4 8 5) ≤ 3) (hlost : 1 ≤ mf q 4 16 9) (h8 : only (mw q 8) [(13, 0)] = true)
    (h8' : mf q 8 13 0 ≤ 10000) (h9 : only (mw q 9) [(13, 0)] = true) (h9' : mf q 9 13 0 ≤ 10000) (hdown : portUp s (mf q 4 4 0) = false) :
    timePort q s = ok (setPortTime (mf q 4 4 0) { portTimeOf s (mf q 4 4 0) with cfg := q.args } s) := by
  refine (need_ok hlen (by simp [h4, hp, hlow, hhigh, hlost, h8, h8', h9, h9'])).trans ?_
  simp [hdown]

/-- Host-disciplined time alone is corrected by the host (R55, R56). -/
theorem timeCorrect_valid {q : Req} (s : State) (hlen : q.args.length = 1) :
    timeCorrect q s = if s.time.src = 2 then
        okWith [word (b2n (correctionRefused (signed 32 (mw q 4).toNat * 65536) s))] (requestCorrection (signed 32 (mw q 4).toNat * 65536) (leaveHoldover s))
      else conflict s := by
  refine (need_ok (l := []) hlen (by simp)).trans ?_
  simp

/-- The jump threshold is set (R57). -/
theorem timeJumpThreshold_valid {q : Req} (s : State) (hlen : q.args.length = 1) (hlow : 64 ≤ (mw q 4).toNat) (hhigh : (mw q 4).toNat ≤ 1000000000) :
    timeJumpThreshold q s = ok { s with time := { s.time with thr := (mw q 4).toNat } } :=
  need_ok hlen (by simp [hlow, hhigh])

/-- A step of working time is requested, and its anchor answered (R59). -/
theorem timeStep_valid {q : Req} (s : State) (hlen : q.args.length = 4) (h6 : fullOk q.args = true) (h7 : only (mw q 7) [(0, 0)] = true) :
    timeStep q s =
      let e := requestMapping { step := some (ofFull q.args), causes := [4] } { s with ptime := { s.ptime with followStep := bit (mw q 7) 0 } }
      okWith (split64 (anchorOf e)) e :=
  need_ok hlen (by simp [h6, h7])

/-- The status of a slot is answered, and its counters return to 0 under CLEAR (R112, R560). -/
theorem timeStatus_valid {q : Req} (s : State) (hlen : q.args.length = 1) (h4 : only (mw q 4) [(1, 0)] = true) :
    timeStatus q s = okWith (slotStatus s (mf q 4 1 0)) (if q.clear then clearNetCounts (mf q 4 1 0) s else s) :=
  need_ok hlen (by simp [h4])

/-- PAIR_TIME keeps its role with a new trace delay, or takes another role without lock (R113, R115). -/
theorem timePairTime_valid {q : Req} (s : State) (hlen : q.args.length = 2) (h4 : only (mw q 4) [(1, 0)] = true) (h5 : only (mw q 5) [(13, 0)] = true)
    (h5' : mf q 5 13 0 ≤ 10000) (hr : mf q 4 1 0 ≠ 3) :
    timePairTime q s = ok (if mf q 4 1 0 = s.ptime.role then { s with ptime := { s.ptime with delay := mf q 5 13 0 } }
      else { loseLock s with ptime := { role := mf q 4 1 0, delay := mf q 5 13 0, followStep := s.ptime.followStep, stepTgl := s.ptime.stepTgl } }) :=
  need_ok hlen (by simp [h4, h5, h5', hr])

/-- Settles O11: each TIME request in range is answered with what it reads, does what it names, or is refused with its CONFLICT. -/
theorem timeRequestsTakeEffect : Obligations.TimeRequestsTakeEffect := by
  unfold Obligations.TimeRequestsTakeEffect
  refine ⟨?domain, ?domainGm, fun n => ?domainConflict, fun k src hk => ?alone, ?slot, fun a b => ?pair, ?slotGm, ?slotOff, ?switch, ?noPair, ?port,
    ?correct, ?notHost, ?threshold, ?step, ?status, ?sameRole, ?newRole⟩
  case domain =>
    refine gives_of timeDomain (fun _ _ _ => rfl) fun q e ⟨hlen, h4, h5, hm, h6, hs1, hs2, ha1, ha2, h7, hst, hat, h8, hr, h10, hfree, hgm⟩ => ?_
    rw [timeDomain_valid e ⟨hlen, h4, h5, hm, h6, hs1, hs2, ha1, ha2, h7, hst, hat, h8, hr, h10⟩, hfree]
    refine if_neg ?_
    rintro ⟨hmode, hdrives, hyes⟩
    exact absurd hyes (by rw [hgm hmode hdrives]; decide)
  case domainGm =>
    intro t q s hk hlen h4 h5 hm h6 hs1 hs2 ha1 ha2 h7 hst hat h8 hr h10 hfree hdrives hgm
    have hvalid := timeDomain_valid (entered t 0x0201 q s) ⟨hlen, h4, h5, by omega, h6, hs1, hs2, ha1, ha2, h7, hst, hat, h8, hr, h10⟩
    rw [hfree, Option.elim_none, if_pos ⟨hm, hdrives, hgm⟩] at hvalid
    refine (request_taken t 0x0201 timeDomain q s hk).trans ?_
    rw [hvalid]
    rfl
  case domainConflict =>
    refine refuses_of timeDomain (fun _ _ _ => rfl) fun q e ⟨hlen, h4, h5, hm, h6, hs1, hs2, ha1, ha2, h7, hst, hat, h8, hr, h10, hn⟩ => ?_
    rw [timeDomain_valid e ⟨hlen, h4, h5, hm, h6, hs1, hs2, ha1, ha2, h7, hst, hat, h8, hr, h10⟩, hn]
    rfl
  case alone =>
    refine gives_of timeSource (fun _ _ _ => rfl) fun q e ⟨hlen, h4, hoff, hkind⟩ => ?_
    rw [timeSource_alone e hk hlen h4 hoff hkind, takeSource_eq]
    rfl
  case slot =>
    refine gives_of timeSource (fun _ _ _ => rfl) fun q e ⟨hlen, h4, hoff, hkind, hg, hon⟩ => ?_
    rw [timeSource_slot e hlen h4 hoff hkind, if_neg (by simp [hg]), if_neg (by simp [hon]), takeSource_eq]
    rfl
  case pair =>
    refine gives_of timeSource (fun _ _ _ => rfl) fun q e ⟨hlen, h4, hoff, hkind, ha, hb, hab, hga, hgb, hea, heb, hsa, hsb⟩ => ?_
    rw [timeSource_pair e hlen h4 hoff hkind ha hb hab hga hgb hea heb hsa hsb, takeSource_eq]
    rfl
  case slotGm =>
    intro t q s hk hlen h4 hoff hkind hg
    refine (request_taken t 0x0202 timeSource q s hk).trans ?_
    rw [timeSource_slot _ hlen h4 hoff hkind, if_pos hg]
    rfl
  case slotOff =>
    refine refuses_of timeSource (fun _ _ _ => rfl) fun q e ⟨hlen, h4, hoff, hkind, hg, hon⟩ => ?_
    rw [timeSource_slot e hlen h4 hoff hkind, if_neg (by simp [hg]), if_pos hon]
    rfl
  case switch =>
    exact gives_of timeSwitch (fun _ _ _ => rfl) fun q e ⟨hlen, h4, hg, a, b, hpair, hj⟩ => timeSwitch_pair hlen h4 hg hpair hj
  case noPair => exact refuses_of timeSwitch (fun _ _ _ => rfl) fun q e ⟨hlen, h4, hpair⟩ => timeSwitch_alone hlen h4 hpair
  case port =>
    exact gives_of timePort (fun _ _ _ => rfl) fun q e ⟨hlen, h4, hp, hlow, hhigh, hlost, h8, h8', h9, h9', hdown⟩ =>
      timePort_valid hlen h4 hp hlow hhigh hlost h8 h8' h9 h9' hdown
  case correct =>
    refine gives_of timeCorrect (fun _ _ _ => rfl) fun q e ⟨hlen, hsrc⟩ => ?_
    rw [timeCorrect_valid e hlen]
    exact if_pos hsrc
  case notHost =>
    refine refuses_of timeCorrect (fun _ _ _ => rfl) fun q e ⟨hlen, hsrc⟩ => ?_
    rw [timeCorrect_valid e hlen, if_neg hsrc]
    rfl
  case threshold => exact gives_of timeJumpThreshold (fun _ _ _ => rfl) fun q e ⟨hlen, hlow, hhigh⟩ => timeJumpThreshold_valid e hlen hlow hhigh
  case step => exact gives_of timeStep (fun _ _ _ => rfl) fun q e ⟨hlen, h6, h7⟩ => timeStep_valid e hlen h6 h7
  case status => exact gives_of timeStatus (fun _ _ _ => rfl) fun q e ⟨hlen, h4⟩ => timeStatus_valid e hlen h4
  case sameRole =>
    refine gives_of timePairTime (fun _ _ _ => rfl) fun q e ⟨hlen, h4, h5, h5', hrole, hr⟩ => ?_
    rw [timePairTime_valid e hlen h4 h5 h5' hr, if_pos hrole]
    rfl
  case newRole =>
    refine gives_of timePairTime (fun _ _ _ => rfl) fun q e ⟨hlen, h4, h5, h5', hrole, hr⟩ => ?_
    rw [timePairTime_valid e hlen h4 h5 h5' hr, if_neg hrole]
    rfl

end Sys2Proof.Machine
end

section
/-!
PROOFS. Pulses of PAIR_TIME and edges of the TIO pins (R69 to R77, R114 to R118).
-/
namespace Sys2Proof.Machine
open Sys2Proof Sys2Proof.Safety

/-! ### Pulses of PAIR_TIME (R114 to R118) -/

/-- At a follower a pulse with a wrong CRC is counted, and counts as bad (R116). -/
theorem pulseRx_wrongCrc {s : State} {w0 w1 w2 : Word} (hrole : s.ptime.role = 2) (hcrc : bits w2 7 0 ≠ codeCrc w0 w1 w2) :
    pulseRx w0 w1 w2 s = badPulse (count rTIME_CNT 31 16 s) := by
  simp [pulseRx, hrole, hcrc]

/-- One of another Beat length is counted and flagged, and ends a run of good or of bad pulses (R116). -/
theorem pulseRx_otherLength {s : State} {w0 w1 w2 : Word} (hrole : s.ptime.role = 2) (hcrc : bits w2 7 0 = codeCrc w0 w1 w2)
    (hk : bits w2 15 13 ≠ s.beat.k) :
    pulseRx w0 w1 w2 s = setFlag rTIME_STAT 28 (count rTIME_CNT 31 16 { s with ptime := { s.ptime with good := 0, bad := 0, edge := none } }) := by
  simp [pulseRx, hrole, hcrc, hk]

/-- The others are good (R115). -/
theorem pulseRx_good {s : State} {w0 w1 w2 : Word} (hrole : s.ptime.role = 2) (hcrc : bits w2 7 0 = codeCrc w0 w1 w2) (hk : bits w2 15 13 = s.beat.k) :
    pulseRx w0 w1 w2 s = goodPulse w0 w1 w2 s := by
  simp [pulseRx, hrole, hcrc, hk]

/-- The stamp of a pulse, its trace delay taken off (R115). -/
def pulseStamp (s : State) : Int := s.time.now * 65536 - (s.ptime.delay * 65536 / 1000 : Nat)

/-- The error of working time against the instant that a code names (R115). -/
def pulseError (w0 w1 w2 : Word) (s : State) : Int := wtOfStamp s (pulseStamp s) - codeInstant w0 w1 w2

/-- The run of good pulses with this one (R116). -/
def goodRun (w0 w1 w2 : Word) (s : State) : Nat :=
  if bit w1 0 = true ∧ (pulseError w0 w1 w2 s).natAbs ≤ 20 * 65536 then s.ptime.good + 1 else 0

theorem goodRun_eq (w0 w1 w2 : Word) (s : State) :
    goodRun w0 w1 w2 s = if bit w1 0 && decide ((pulseError w0 w1 w2 s).natAbs ≤ 20 * 65536) then s.ptime.good + 1 else 0 := by
  simp [goodRun]

/-- What a good pulse leaves: the error, the run, and the edge (R115, R116). -/
def pulseHeard (w0 w1 w2 : Word) (s : State) : State :=
  { s with ptime := { s.ptime with
    err := clampI (-32767) 32767 (pulseError w0 w1 w2 s * 4 / 65536), good := goodRun w0 w1 w2 s, bad := 0
    edge := some (pulseStamp s, codeInstant w0 w1 w2), seenTgl := some (bit w2 8) } }

/-- Where pair time is not the source, a good pulse drives nothing; it may lose or gain lock (R115, R116). -/
theorem goodPulse_of_undriven {s : State} (w0 w1 w2 : Word) (hsrc : s.time.src ≠ 3) :
    goodPulse w0 w1 w2 s = if decide (100 * 65536 < (pulseError w0 w1 w2 s).natAbs) then loseLock (pulseHeard w0 w1 w2 s)
      else if 8 ≤ goodRun w0 w1 w2 s && !s.ptime.lock then gainLock (pulseHeard w0 w1 w2 s)
      else pulseHeard w0 w1 w2 s := by
  simp only [goodPulse, if_neg hsrc, pulseHeard, goodRun_eq]
  rfl

/-- Near the code's instant, and with the lock kept or still far, nothing else happens (R116). -/
theorem goodPulse_of_steady {s : State} {w0 w1 w2 : Word} (hsrc : s.time.src ≠ 3) (herr : ((pulseError w0 w1 w2 s).natAbs : Int) ≤ 100 * 65536)
    (hlock : s.ptime.lock = true ∨ s.ptime.good < 7) : goodPulse w0 w1 w2 s = pulseHeard w0 w1 w2 s := by
  have hrun : goodRun w0 w1 w2 s ≤ s.ptime.good + 1 := by
    unfold goodRun
    split <;> omega
  have hgain : ¬ ((8 ≤ goodRun w0 w1 w2 s && !s.ptime.lock) = true) := by
    rcases hlock with hlock | hlock
    · simp [hlock]
    · simp [Nat.not_le.mpr (show goodRun w0 w1 w2 s < 8 by omega)]
  rw [goodPulse_of_undriven w0 w1 w2 hsrc, if_neg (by rw [decide_eq_true_eq]; omega), if_neg hgain]

/-- A pulse that is missing at a follower is counted, and counts as bad (R116). -/
theorem pulseMissing_of_follower {s : State} (hrole : s.ptime.role = 2) : pulseMissing s = badPulse (count rTIME_CNT 15 0 s) := if_neg (by simp [hrole])

/-! ### Edges of the pulse pins (R69, R72, R74) -/

/-- Without a pulse in progress no inactive edge is due. -/
theorem pulseEnd_of_none {s : State} {n : Nat} (h : (pinOf s n).pulse = none) : pulseEnd n s = s := by
  simp [pulseEnd, h]

/-- The active edge that has come starts a pulse, and is counted (R69, R72). -/
theorem activeEdge_of_due {s : State} {n : Nat} {w : Int} {a : Arming} (hpulse : (pinOf s n).pulse = none) (harm : (pinOf s n).arming = some a)
    (hedge : nextEdge (pinOf s n) = some w) (hw : w ≤ wtNow s) :
    activeEdge n s = count (rTIO n 0x18) 31 0 (setPin n { pinOf s n with
      pulse := some (ltOf (mapOf s.time s.time.now) (w + a.width * wtNs), a.pol), arming := some { a with k := a.k + 1, issued := a.issued + 1 } } s) := by
  simp only [activeEdge, pulseEnd_of_none hpulse, hedge, harm, Int.not_lt.mpr hw, if_false]

/-- The inactive edge that has come ends the pulse of an armed pin, no mode waiting for it; an arming that has issued its pulses ends with DONE, and one
that has been stopped without (R69, R72). -/
theorem pulseEnd_of_due {s : State} {n e : Nat} {pol : Bool} {a : Arming} (hpulse : (pinOf s n).pulse = some (e, pol)) (he : e ≤ s.time.now)
    (htake : (pinOf s n).take = false) (harm : (pinOf s n).arming = some a) :
    pulseEnd n s =
      let u := setPin n { pinOf s n with pulse := none } s
      let ended := setPin n { pinOf s n with pulse := none, arming := none, ended := some (s.time.now, a.pol) } u
      if armingDone a = true then timeEvent n 0x04 (setFlag (rTIO n 0x14) 27 ended) else if a.stop = true then ended else u := by
  simp only [pulseEnd, hpulse, Nat.not_lt.mpr he, htake, harm, decide_false, Bool.or_false, Bool.false_eq_true, if_false, pinUnarmed]

/-! ### Edges of the capture pins (R76, R77) -/

/-- A qualifying edge less than 16 ns after the last one captured is lost; a later one is captured (R76, R77). -/
theorem captureEdge_of_qualified {s : State} {n width : Nat} {rising : Bool} (hmode : 4 ≤ (pinOf s n).mode)
    (hqual : edgeQualifies (pinOf s n).mode rising = true) (hglitch : (pinOf s n).glitch ≠ some s.time.now) (hwidth : 4 ≤ width) :
    captureEdge n rising width s =
      if (pinOf s n).lastCap.any (fun c => s.time.now < c + 16) = true then count (rTIO n 0x1C) 31 0 s
      else
        let seq := ((pinOf s n).capSeq + 1) % 65536
        timeEvent n 0x01 (csPush 0x04 [pack64 [(5, n), (1, b2n (!rising)), (16, seq), (10, 0), (32, shortTime (wtNow s))]]
          (setPin n { pinOf s n with capSeq := seq, capLt := s.time.now, capShort := shortTime (wtNow s), lastCap := some s.time.now } s)) := by
  simp only [captureEdge, Nat.not_lt.mpr hmode, hglitch, Nat.not_lt.mpr hwidth, hqual, Bool.not_true, Bool.false_eq_true, if_false]
  cases (pinOf s n).lastCap <;> rfl

/-- Settles O25: each pulse of PAIR_TIME and each edge of a TIO pin does what its rule says. -/
theorem pairTimeAndPinEventsTakeEffect : Obligations.PairTimeAndPinEventsTakeEffect := by
  unfold Obligations.PairTimeAndPinEventsTakeEffect
  refine ⟨fun w0 w1 w2 => ?wrongCrc, fun w0 w1 w2 => ?otherLength, fun w0 w1 w2 => ?good, ?missing, fun n w a => ?active, fun n e pol a => ?inactive,
    fun n e pol a => ?done, fun n rising width c => ?lost, fun n rising width => ?captured⟩
  case wrongCrc => exact does_of (pulseRx w0 w1 w2) (fun _ _ => rfl) fun s _ ⟨hrole, hcrc⟩ => pulseRx_wrongCrc hrole hcrc
  case otherLength => exact does_of (pulseRx w0 w1 w2) (fun _ _ => rfl) fun s _ ⟨hrole, hcrc, hk⟩ => pulseRx_otherLength hrole hcrc hk
  case good =>
    refine does_of (pulseRx w0 w1 w2) (fun _ _ => rfl) fun s _ ⟨hrole, hcrc, hk, hsrc, herr, hlock⟩ => ?_
    rw [pulseRx_good hrole hcrc hk]
    exact goodPulse_of_steady hsrc herr hlock
  case missing =>
    refine does_of (fun s => if pulseOverdue s then pulseMissing s else s) (fun _ _ => rfl) fun s _ ⟨hrole, hover⟩ => ?_
    rw [if_pos hover, pulseMissing_of_follower hrole]
  case active =>
    refine does_of (fun s => if n < 32 then activeEdge n (anchorReached s) else anchorReached s) (fun _ _ => rfl) fun s _ ⟨hn, hpulse, harm, hedge, hw⟩ => ?_
    rw [if_pos hn, activeEdge_of_due hpulse harm hedge hw]
  case inactive =>
    refine does_of (fun s => if n < 32 then pulseEnd n s else s) (fun _ _ => rfl) fun s _ ⟨hn, hpulse, he, htake, harm, hdone, hstop⟩ => ?_
    rw [if_pos hn, pulseEnd_of_due hpulse he htake harm]
    simp [hdone, hstop]
  case done =>
    refine does_of (fun s => if n < 32 then pulseEnd n s else s) (fun _ _ => rfl) fun s _ ⟨hn, hpulse, he, htake, harm, hdone⟩ => ?_
    rw [if_pos hn, pulseEnd_of_due hpulse he htake harm]
    exact if_pos hdone
  case lost =>
    refine does_of (fun s => if n < 32 then captureEdge n rising width s else s) (fun _ _ => rfl)
      fun s _ ⟨hn, hmode, hqual, hglitch, hwidth, hlast, hnear⟩ => ?_
    rw [if_pos hn, captureEdge_of_qualified hmode hqual hglitch hwidth, if_pos (by simp [hlast, hnear])]
  case captured =>
    refine does_of (fun s => if n < 32 then captureEdge n rising width s else s) (fun _ _ => rfl)
      fun s _ ⟨hn, hmode, hqual, hglitch, hwidth, hlast⟩ => ?_
    rw [if_pos hn, captureEdge_of_qualified hmode hqual hglitch hwidth]
    refine if_neg ?_
    simpa [Option.any_eq_true] using hlast

end Sys2Proof.Machine
end

section
/-!
PROOFS. Frames on the SPI port, and its line locks (R476, R482, R484, R495, R496, R502).
-/
namespace Sys2Proof.Machine
open Sys2Proof Sys2Proof.Safety

/-! ### Headers and read frames (R476, R495, R496) -/

/-- A read frame whose header is cut, or fails its CRC, is answered with 0xFF (R496). -/
theorem spiReads_badHeader {b : Bytes} (h : spiHeader b = none) (s : State) : spiReads b s = miso [0xFF] s := by
  simp only [spiReads, h]

/-- So is any other frame, and it is not counted (R496). -/
theorem spiAct_badHeader {b : Bytes} (h : spiHeader b = none) (wanted : Nat) (k : Nat → Nat → State → State) (s : State) :
    spiAct b wanted k s = miso [0xFF] s := by
  simp only [spiAct, h]

/-- A read frame of aligned words is served, or waits, while the port is not locked (R475, R496). -/
theorem spiReads_aligned {b : Bytes} {n addr : Nat} {s : State} (h : spiHeader b = some (0, n, addr)) (ha : spiAlign addr = false)
    (hl : regBit s rBRG_CTRL 25 = false) : spiReads b s = spiServesOrWaits (spiBar2 addr) (spiOff addr) n s := by
  simp [spiReads, h, ha, hl]

/-- A read that waits for no earlier write and no line is served with its words or its failure (R475, R476). -/
theorem spiServesOrWaits_served {bar2 : Bool} {off n c : Nat} {ws : Rec} {s : State}
    (hw : readWaits s .spi bar2 off n s.time.now s.bridge.issued = false) (hr : readWords s .spi bar2 off n = (c, ws)) (hc : c ≠ 2) :
    spiServesOrWaits bar2 off n s = spiServes (c, ws) n s := by
  simp [spiServesOrWaits, hw, hr, hc]

/-- Another read waits (R475, R482). -/
theorem spiServesOrWaits_waits {bar2 : Bool} {off n : Nat} {s : State}
    (h : readWaits s .spi bar2 off n s.time.now s.bridge.issued = true ∨ (readWords s .spi bar2 off n).1 = 2) :
    spiServesOrWaits bar2 off n s = readQueued true bar2 off n s := if_pos (by simpa using h)

/-- A failure is answered with its status: RANGE where nothing is mapped, else ABORT (R476, R496). -/
theorem spiServes_failed {c : Nat} (hc : c ≠ 0) (ws : Rec) (n : Nat) (s : State) :
    spiServes (c, ws) n s = miso (spiReadBytes (if c = 1 then 4 else 5) (List.replicate n 0)) s := by
  have hstatus : spiStatus c = if c = 1 then 4 else 5 := by
    match c with
    | 0 => exact absurd rfl hc
    | 1 => rfl
    | c + 2 => simp [spiStatus]
  simp [spiServes, hc, hstatus]

/-! ### Frames that act (R484, R496) -/

/-- The state on which a frame other than a read acts: a lock that is too old is lost, and the frame is counted (R484, R502). -/
def spiCounted (s : State) : State := count rSPI_CNT 31 0 (spiLockExpires s)

/-- A whole frame is refused under SPI_LOCK, once after a lock has been lost, and where ADDR is not aligned, in this order; else it acts (R484, R496). -/
theorem spiAct_whole {b : Bytes} {wanted n addr : Nat} (h : spiHeader b = some (wanted, n, addr)) (hlen : wanted = 1 → 7 + 4 * n ≤ b.length)
    (k : Nat → Nat → State → State) (s : State) :
    spiAct b wanted k s =
      if regBit (spiCounted s) rBRG_CTRL 25 then spiAnswer 8 (spiCounted s)
      else if (spiCounted s).bridge.lockLost then spiAnswer 7 { spiCounted s with bridge := { (spiCounted s).bridge with lockLost := false } }
      else if spiAlign addr then spiAnswer 3 (spiCounted s)
      else k n addr (spiCounted s) := by
  have hcut : (wanted = 1 && decide (b.length < 6 + 4 * n + 1)) = false := by
    simp only [Bool.and_eq_false_iff, decide_eq_false_iff_not]
    omega
  simp only [spiAct, h, ne_eq, not_true_eq_false, if_false, hcut, Bool.false_eq_true]
  rfl

/-- A whole frame acts where none of this refuses it. -/
theorem spiAct_acts {b : Bytes} {wanted n addr : Nat} {s : State} (h : spiHeader b = some (wanted, n, addr)) (hlen : wanted = 1 → 7 + 4 * n ≤ b.length)
    (ha : spiAlign addr = false) (hl : regBit (spiCounted s) rBRG_CTRL 25 = false) (hlost : (spiCounted s).bridge.lockLost = false)
    (k : Nat → Nat → State → State) : spiAct b wanted k s = k n addr (spiCounted s) := by
  rw [spiAct_whole h hlen]
  simp only [hl, hlost, ha, Bool.false_eq_true, if_false]

/-! ### Lock and unlock (R484, R502, R503) -/

/-- A lock takes the first free semaphore, where no other origin and no AtomicOp of the cycle has the line (R484, R503). -/
theorem spiLockTaken_free {bar2 : Bool} {off i : Nat} {s : State} (hf : freeSem s = some i) (hs : spiSem s = none)
    (hline : lineHeld s .spi bar2 off = false)
    (hfirst : ∀ w ∈ s.bridge.waiting, ¬ (w.since = s.time.now ∧ w.bar2 = bar2 ∧ w.off / 64 = off / 64)) :
    spiLockTaken bar2 off s = spiAnswer 0 (setSem i (some ⟨.spi, true, bar2, off / 64, s.time.now⟩) s) := by
  have hnone : s.bridge.waiting.any (fun w => w.since = s.time.now && w.bar2 = bar2 && w.off / 64 = off / 64) = false := by
    rw [List.any_eq_false]
    intro w hw
    simpa [and_assoc] using hfirst w hw
  simp only [spiLockTaken, hf, hs, hline, hnone, Bool.or_self, Bool.false_eq_true, if_false]

/-- It is refused where no semaphore is free, or the port holds one (R484). -/
theorem spiLockTaken_refused {s : State} (bar2 : Bool) (off : Nat) (h : freeSem s = none ∨ (spiSem s).isSome = true) :
    spiLockTaken bar2 off s = spiAnswer 6 s := by
  unfold spiLockTaken
  dsimp only
  split
  next hf hs => simp [hf, hs] at h
  next => rfl

/-- And behind an AtomicOp of the same cycle on its line (R503). -/
theorem spiLockTaken_behind {bar2 : Bool} {off : Nat} {w : WaitAtomic} {s : State} (hw : w ∈ s.bridge.waiting) (hsince : w.since = s.time.now)
    (hbar : w.bar2 = bar2) (hline : w.off / 64 = off / 64) : spiLockTaken bar2 off s = spiAnswer 6 s := by
  have hfirst : s.bridge.waiting.any (fun w => w.since = s.time.now && w.bar2 = bar2 && w.off / 64 = off / 64) = true :=
    List.any_eq_true.mpr ⟨w, hw, by simp [hsince, hbar, hline]⟩
  unfold spiLockTaken
  dsimp only
  rw [hfirst]
  split
  · rw [Bool.or_true, if_pos rfl]
  · rfl

/-- 100 µs after a lock its semaphore is free, with the event (R484, R502). -/
theorem spiLockExpires_due {s : State} {i : Nat} {x : Sem} (hs : spiSem s = some i) (hx : tget none s.bridge.sems i = some x)
    (hold : x.since + 100000 ≤ s.time.now) :
    spiLockExpires s = bridgeFreed (systemEvent 7 0x02 (setSem i none { s with bridge := { s.bridge with lockLost := true } })) := by
  simp only [spiLockExpires, hs, hx, hold, if_true]

/-- Settles O43: each frame on the SPI port, each lock and each fall of its chip select does what its rule says. -/
theorem spiFramesAreAnswered : Obligations.SpiFramesAreAnswered := by
  unfold Obligations.SpiFramesAreAnswered
  refine ⟨fun b hb => ⟨?badRead, ?badWrite, ?badLock, ?badUnlock⟩, fun b n addr ws h ha => ?served, fun b n addr h ha => ?waits,
    fun b n addr c ws h ha hc hc2 => ?failed, fun b n addr h ha hlen hcrc => ?write, fun b n addr h ha hlen hcrc => ?wrongCrc, fun b n addr h ha => ?lock,
    fun bar2 off i s hf hs hline hfirst => spiLockTaken_free hf hs hline hfirst, fun bar2 off s h => spiLockTaken_refused bar2 off h,
    fun bar2 off w s hw hsince hbar hline => spiLockTaken_behind hw hsince hbar hline, fun b n addr i h ha => ?unlock, fun b n addr h hlen => ?locked,
    fun i x => ?expires, fun b n addr h => ?lost, ?asleep, ?awake⟩
  case badRead => exact does_of (spiReads b) (fun _ _ => rfl) fun s _ _ => spiReads_badHeader hb s
  case badWrite => exact does_of (spiWrites b) (fun _ _ => rfl) fun s _ _ => spiAct_badHeader hb _ _ s
  case badLock => exact does_of (spiLocks b) (fun _ _ => rfl) fun s _ _ => spiAct_badHeader hb _ _ s
  case badUnlock => exact does_of (spiUnlocks b) (fun _ _ => rfl) fun s _ _ => spiAct_badHeader hb _ _ s
  case served =>
    refine does_of (spiReads b) (fun _ _ => rfl) fun s _ ⟨hw, hl, hr⟩ => ?_
    rw [spiReads_aligned h ha hl, spiServesOrWaits_served hw hr (by decide)]
    rfl
  case waits =>
    refine does_of (spiReads b) (fun _ _ => rfl) fun s _ ⟨hl, hw⟩ => ?_
    rw [spiReads_aligned h ha hl, spiServesOrWaits_waits hw]
    rfl
  case failed =>
    refine does_of (spiReads b) (fun _ _ => rfl) fun s _ ⟨hw, hl, hr⟩ => ?_
    rw [spiReads_aligned h ha hl, spiServesOrWaits_served hw hr hc2, spiServes_failed hc]
  case write =>
    refine does_of (spiWrites b) (fun _ _ => rfl) fun s _ ⟨hl, hlost⟩ => ?_
    rw [spiWrites, spiAct_acts h (fun _ => hlen) ha hl hlost]
    exact if_neg (not_not_intro hcrc)
  case wrongCrc =>
    refine does_of (spiWrites b) (fun _ _ => rfl) fun s _ ⟨hl, hlost⟩ => ?_
    rw [spiWrites, spiAct_acts h (fun _ => hlen) ha hl hlost]
    exact if_pos hcrc
  case lock =>
    refine does_of (spiLocks b) (fun _ _ => rfl) fun s _ ⟨hl, hlost⟩ => ?_
    rw [spiLocks, spiAct_acts h (absurd · (by decide)) ha hl hlost]
    rfl
  case unlock =>
    refine does_of (spiUnlocks b) (fun _ _ => rfl) fun s _ ⟨hl, hlost, hs⟩ => ?_
    rw [spiUnlocks, spiAct_acts h (absurd · (by decide)) ha hl hlost]
    have hs' : spiSem (spiCounted s) = some i := hs
    simp only [hs']
    rfl
  case locked =>
    refine does_of (spiWrites b) (fun _ _ => rfl) fun s _ hl => ?_
    rw [spiWrites, spiAct_whole h (fun _ => hlen)]
    exact if_pos hl
  case expires => exact does_of spiLockExpires (fun _ _ => rfl) fun s _ ⟨hs, hx, hold⟩ => spiLockExpires_due hs hx hold
  case lost =>
    refine does_of (spiLocks b) (fun _ _ => rfl) fun s _ ⟨hl, hlost⟩ => ?_
    have hfree : ¬ regBit (spiCounted s) rBRG_CTRL 25 = true := Bool.eq_false_iff.mp hl
    rw [spiLocks, spiAct_whole h (absurd · (by decide)), if_neg hfree]
    exact if_pos hlost
  case asleep => exact doesAlways_of chipSelectFalls (fun _ _ => rfl) fun s hs => if_pos hs
  case awake =>
    refine doesAlways_of chipSelectFalls (fun _ _ => rfl) fun s ⟨hs, hon⟩ => ?_
    rw [chipSelectFalls, if_neg (by simp [hs]), if_pos hon]

end Sys2Proof.Machine
end

section
/-!
PROOFS. Writes of registers, and the commands that they start (R63, R67, R72, R297, R363, R384, R476, R506 to R511, R639, R658).
-/
namespace Sys2Proof.Machine
open Sys2Proof Sys2Proof.Safety

/-! ### A write at its register (R475, R476, R506 to R511) -/

/-- A write that nothing delays reaches its register at once (R475, R482). -/
theorem hostWrite_of_free {o : Origin} {off : Nat} {s : State} (h : Free o off s) (v : Word) : hostWrite o off v s = landWrite o (hostCarried o off v s) s := by
  obtain ⟨hnone, hline, _⟩ := h
  simp [hostWrite, hnone, hline]

/-- One that its register takes is recorded (R480). -/
theorem landWrite_ok {o : Origin} {off : Nat} {v : Word} {s u : State} (h : regWrite o off v s = .ok u) :
    landWrite o (hostCarried o off v s) s = writeRecord o false off v u := by
  simp [landWrite, hostCarried, rw, h]

/-- One that its register refuses fails with the cause (R479, R480). -/
theorem landWrite_error {o : Origin} {off c : Nat} {v : Word} {s : State} (h : regWrite o off v s = .error c) :
    landWrite o (hostCarried o off v s) s = writeFails o (hostCarried o off v s) off v c s := by
  simp [landWrite, hostCarried, rw, h]

/-- Why a write of v fails at a register, none where it does not: all its fields are read-only, or the register refuses (R476). -/
def writeCause (s : State) (o : Origin) (reg : Nat) (fs : List RegField) (a : Alias) (v : Word) : Option Nat :=
  if fs.all (fun f => f.acc = .ro) then some cREAD_ONLY else regRefuses s o reg (newValue reg a v s) v

/-- A write at an offset that names a register stores the register and starts what it starts, or fails (R506, R511). -/
theorem regWrite_mapped {o : Origin} {off reg : Nat} {a : Alias} {fs : List RegField} {s : State} (v : Word) (hoff : aliasOf off = (reg, a))
    (hf : regFields reg = some fs) (ha : a = .direct ∨ noAlias reg = false) (hword : off % 4 = 0) (hbar : off < 0x90000)
    (hproof : ¬ (blkBRG + 0x800 ≤ reg ∧ reg < blkBRG + 0x1000)) (hl : o = .spi → regBit s rBRG_CTRL 25 = false) :
    regWrite o off v s =
      (writeCause s o reg fs a v).elim (.ok (regActs s reg (regGet s reg) (newValue reg a v s) (stored reg a v s))) .error := by
  have hval : newValue reg a v s = regAfter s reg fs a v := by simp [newValue, hf]
  have hst : stored reg a v s = noteWrite reg fs a v (regSet reg (storeAfter s reg fs (regAfter s reg fs a v)) s) := by simp [stored, hval, hf]
  have halias : ¬ ((decide (0x90000 ≤ off) || decide (a ≠ .direct) && noAlias reg) = true) := by
    rcases ha with rfl | ha
    · simp [hbar]
    · simp [ha, hbar]
  have hspi : ¬ ((decide (o = .spi) && regBit s rBRG_CTRL 25) = true) := by
    simp only [Bool.and_eq_true, decide_eq_true_eq, not_and, Bool.not_eq_true]
    exact hl
  have hlog : ¬ ((decide (blkBRG + 0x800 ≤ reg) && decide (reg < blkBRG + 0x1000)) = true) := by
    simpa only [Bool.and_eq_true, decide_eq_true_eq] using hproof
  rw [hst, writeCause, hval]
  unfold regWrite
  rw [hoff]
  dsimp only
  rw [hf]
  dsimp only
  rw [if_neg halias, if_neg (not_not_intro hword), if_neg hspi, if_neg hlog]
  generalize (if fs.all (fun f => decide (f.acc = .ro)) = true then some cREAD_ONLY else regRefuses s o reg (regAfter s reg fs a v) v) = cause
  cases cause <;> rfl

/-- A register with a field that is not read-only refuses by itself alone (R476). -/
theorem writeCause_of_writable {fs : List RegField} (h : ∃ f, f ∈ fs ∧ f.acc ≠ .ro) (s : State) (o : Origin) (reg : Nat) (a : Alias) (v : Word) :
    writeCause s o reg fs a v = regRefuses s o reg (newValue reg a v s) v := by
  obtain ⟨f, hmem, hacc⟩ := h
  refine if_neg fun hall => hacc ?_
  simpa using List.all_eq_true.mp hall f hmem

/-- A register of read-only fields alone refuses every write (R476). -/
theorem writeCause_of_readOnly {fs : List RegField} (h : ∀ f, f ∈ fs → f.acc = .ro) (s : State) (o : Origin) (reg : Nat) (a : Alias) (v : Word) :
    writeCause s o reg fs a v = some cREAD_ONLY :=
  if_pos (List.all_eq_true.mpr fun f hf => decide_eq_true (h f hf))

/-! ### What a write leaves in its register (R506, R513) -/

@[simp] theorem regGet_noteWrite (reg : Nat) (fs : List RegField) (a : Alias) (v : Word) (s : State) (off : Nat) :
    regGet (noteWrite reg fs a v s) off = regGet s off := rfl

/-- The storage of the register that has been written. -/
theorem regGet_stored (reg : Nat) (a : Alias) (v : Word) (s : State) :
    regGet (stored reg a v s) reg = storeAfter s reg ((regFields reg).getD []) (newValue reg a v s) := by
  simp [stored]

/-- A register that a write can name at each of its four offsets, not all of whose fields are read-only. -/
def writableReg (reg : Nat) : Bool :=
  reg % 0x10000 < 0x4000 && reg < 0x90000 && reg % 4 = 0 && !noAlias reg && !(blkBRG + 0x800 ≤ reg && reg < blkBRG + 0x1000)
    && (regFields reg).any (fun fs => fs.any (fun f => f.acc ≠ .ro))

/-- How a statement of a register write follows, for such a register, from its refusals and from what it starts. -/
theorem writes_row {reg : Nat} {c : Nat → Origin → Alias → Word → Instr} {P : Origin → Word → Word → State → Prop} {eff : Word → State → State}
    (hreg : writableReg reg = true) (hc : ∀ t o a v s, exec (c t o a v) s = regRow t true reg o a v s)
    (hr : ∀ s o a v, P o v (newValue reg a v s) s → regRefuses s o reg (newValue reg a v s) v = none)
    (he : ∀ s o a v, P o v (newValue reg a v s) s →
      regActs s reg (regGet s reg) (newValue reg a v s) (stored reg a v s) = eff (newValue reg a v s) (stored reg a v s)) : Writes reg c P eff := by
  cases hf : regFields reg with
  | none => simp [writableReg, hf] at hreg
  | some fs =>
    simp only [writableReg, hf, Option.any_some, Bool.and_eq_true, decide_eq_true_eq, Bool.not_eq_true', List.any_eq_true] at hreg
    obtain ⟨⟨⟨⟨⟨hlow, hblock⟩, haligned⟩, halias⟩, hlog⟩, f, hmem, hacc⟩ := hreg
    have hsome : fs.all (fun f => f.acc = .ro) = false := by
      rw [List.all_eq_false]
      exact ⟨f, hmem, by simpa using hacc⟩
    exact writes_of (fun t o a v s => hc t o a v s) hlow hblock haligned hf halias (by simpa using hlog) hsome hr he

/-! ### The CFG registers of the TIO pins (R67, R72, R74) -/

/-- The fields of CFG: MODE, POL, LEVEL, ARM and DISARM (R78). -/
def tioCfgFields : List RegField :=
  [⟨31, 29, .rw, 0⟩, ⟨28, 28, .rw, 0⟩, ⟨27, 27, .rw, 0⟩, ⟨26, 26, .go, 0⟩, ⟨25, 25, .go, 0⟩, ⟨24, 0, .rsvp, 0⟩]

theorem regFields_rTIO_cfg : ∀ n < 32, regFields (rTIO n 0) = some tioCfgFields := by decide

theorem writableReg_rTIO_cfg : ∀ n < 32, writableReg (rTIO n 0) = true := by decide

/-- CFG lies in block 5, at offset 0 of its pin (R78). -/
theorem rTIO_cfg_place : ∀ n < 32, rTIO n 0 / 0x10000 = 5 ∧ slotOf (rTIO n 0 % 0x10000) 0x1000 0x40 32 = some (n, 0) := by decide

/-- ARM and DISARM lie below MODE. -/
theorem bits_putBits_go (w : Word) {i : Nat} (hi : i = 25 ∨ i = 26) (v : Nat) : bits (putBits w i i v) 31 29 = bits w 31 29 := by
  have hw := w.isLt
  rcases hi with rfl | rfl
  · simp only [bits, nbits, putBits, word, BitVec.toNat_ofNat]
    omega
  · simp only [bits, nbits, putBits, word, BitVec.toNat_ofNat]
    omega

/-- MODE of CFG takes the value written (R74, R506). -/
theorem cfgMode_stored {n : Nat} (hn : n < 32) (a : Alias) (v : Word) (s : State) :
    cfgMode (stored (rTIO n 0) a v s) n = bits (newValue (rTIO n 0) a v s) 31 29 := by
  have hstore : ∀ w, storeAfter s (rTIO n 0) tioCfgFields w =
      putBits (putBits w 26 26 (regFld s (rTIO n 0) 26 26)) 25 25 (regFld s (rTIO n 0) 25 25) := fun w => rfl
  rw [cfgMode, regFld, regGet_stored, regFields_rTIO_cfg n hn, Option.getD_some, hstore, bits_putBits_go _ (.inl rfl), bits_putBits_go _ (.inr rfl)]

/-- A MODE that stays does nothing. -/
theorem modeWritten_same {n old : Nat} {s : State} (h : cfgMode s n = old) : modeWritten n old s = s := if_pos h

/-- A write of CFG: a new MODE, then DISARM, then ARM (R67, R72, R74). -/
theorem regActs_rTIO_cfg {n : Nat} (hn : n < 32) (s0 : State) (old w : Word) (s : State) : regActs s0 (rTIO n 0) old w s = cfgWritten n old w s := by
  obtain ⟨hblock, hslot⟩ := rTIO_cfg_place n hn
  simp only [regActs, hblock, hslot]

/-- Where MODE stays, DISARM and then ARM act alone (R67, R72). -/
theorem cfgWritten_sameMode {n : Nat} (hn : n < 32) {a : Alias} {v : Word} {s : State} (h : bits (newValue (rTIO n 0) a v s) 31 29 = cfgMode s n) :
    cfgWritten n (regGet s (rTIO n 0)) (newValue (rTIO n 0) a v s) (stored (rTIO n 0) a v s) =
      let u := if bit (newValue (rTIO n 0) a v s) 25 then disarmPin n (stored (rTIO n 0) a v s) else stored (rTIO n 0) a v s
      if bit (newValue (rTIO n 0) a v s) 26 then armPin n u else u := by
  have hsame : modeWritten n (bits (regGet s (rTIO n 0)) 31 29) (stored (rTIO n 0) a v s) = stored (rTIO n 0) a v s :=
    modeWritten_same ((cfgMode_stored hn a v s).trans h)
  rw [cfgWritten, hsame]

/-- CFG refuses no write (R476). -/
theorem regRefuses_rTIO_cfg {n : Nat} (hn : n < 32) (s : State) (o : Origin) (w v : Word) : regRefuses s o (rTIO n 0) w v = none := by
  obtain ⟨hblock, _⟩ := rTIO_cfg_place n hn
  simp only [regRefuses, hblock]

/-- How a statement of a write of CFG follows from what the write does with MODE, DISARM and ARM. -/
theorem writes_rTIO_cfg {n : Nat} {c : Nat → Origin → Alias → Word → Instr} {P : Origin → Word → Word → State → Prop} {eff : Word → State → State}
    (hn : n < 32) (hc : ∀ t o a v s, exec (c t o a v) s = regRow t (n < 32) (rTIO n 0) o a v s)
    (he : ∀ s o a v, P o v (newValue (rTIO n 0) a v s) s →
      cfgWritten n (regGet s (rTIO n 0)) (newValue (rTIO n 0) a v s) (stored (rTIO n 0) a v s) =
        eff (newValue (rTIO n 0) a v s) (stored (rTIO n 0) a v s)) : Writes (rTIO n 0) c P eff := by
  refine writes_row (writableReg_rTIO_cfg n hn) (fun t o a v s => ?_) (fun s o a v _ => regRefuses_rTIO_cfg hn s o _ v)
    (fun s o a v hP => (regActs_rTIO_cfg hn _ _ _ _).trans (he s o a v hP))
  rw [hc, decide_eq_true hn]

/-! ### Standby, resets, debug and locks -/

/-- GO of the standby register starts an entry, in place of one under way (R363, R365, R509). -/
theorem crocusWritten_go {w : Word} (hgo : bit w 29 = true) (hhint : bit w 28 = false) (s : State) :
    crocusWritten w s = { s with nm := { s.nm with
      entry := some { level := bits w 31 30, go := true }
      entryWas := s.nm.entry.map (fun e => (s.time.now, e))
      wakes := if s.nm.entry.isSome = true then s.nm.wakes else [] } } := by
  simp [crocusWritten, hgo, hhint, startEntry]

/-- The ignition hint is given (R384). -/
theorem crocusWritten_hint {w : Word} (hhint : bit w 28 = true) (hgo : bit w 29 = false) (s : State) : crocusWritten w s = giveHint s := by
  simp [crocusWritten, hgo, hhint]

/-! #### What each of these registers starts and refuses -/

theorem regActs_capCtrl (s0 : State) (old w : Word) (s : State) : regActs s0 rCAP_CTRL old w s = if bit w 0 then startCapture s else s := rfl
theorem regActs_crocus (s0 : State) (old w : Word) (s : State) : regActs s0 (rCROCUS 0) old w s = crocusWritten w s := rfl
theorem regActs_rstCtrl (s0 : State) (old w : Word) (s : State) : regActs s0 rRST_CTRL old w s = resetWritten w s := rfl
theorem regActs_jtagCtrl (s0 : State) (old w : Word) (s : State) : regActs s0 rJTAG_CTRL old w s = if bit w 0 then jtagGo s else s := rfl
theorem regActs_regLock (s0 : State) (old w : Word) (s : State) : regActs s0 rREG_LOCK old w s = s := rfl
theorem regActs_fwStat (s0 : State) (old w : Word) (s : State) :
    regActs s0 rFW_STAT old w s = if bit w 31 && !bit old 31 then endAllBypass s else s := rfl
theorem regActs_brgCtrl (s0 : State) (old w : Word) (s : State) : regActs s0 rBRG_CTRL old w s = s := rfl

/-- The capture register refuses the start of a capture with trigger 3 (R64). -/
theorem regRefuses_capCtrl (s : State) (o : Origin) (w v : Word) :
    regRefuses s o rCAP_CTRL w v = if bit w 0 && bits w 2 1 = 3 then some cCONFIG else none := rfl

/-- The reset register refuses a write without its key, or of a control reset while a slot is dirty (R639). -/
theorem regRefuses_rstCtrl (s : State) (o : Origin) (w v : Word) :
    regRefuses s o rRST_CTRL w v = if bits v 31 16 ≠ 0xA5C3 || (bit w 0 && s.sys.fw.slotDirty) then some cCONFIG else none := rfl

theorem regRefuses_crocus (s : State) (o : Origin) (w v : Word) : regRefuses s o (rCROCUS 0) w v = none := rfl
theorem regRefuses_jtagCtrl (s : State) (o : Origin) (w v : Word) : regRefuses s o rJTAG_CTRL w v = none := rfl
theorem regRefuses_regLock (s : State) (o : Origin) (w v : Word) : regRefuses s o rREG_LOCK w v = none := rfl
theorem regRefuses_fwStat (s : State) (o : Origin) (w v : Word) : regRefuses s o rFW_STAT w v = none := rfl
theorem regRefuses_brgCtrl (s : State) (o : Origin) (w v : Word) : regRefuses s o rBRG_CTRL w v = none := rfl

/-- Settles O45: each register takes the value written by its access codes, starts its command, and refuses what it must. -/
theorem registerWritesStartTheirCommands : Obligations.RegisterWritesStartTheirCommands := by
  unfold Obligations.RegisterWritesStartTheirCommands
  refine ⟨?capture, fun n hn => ?arm, fun n hn => ?disarm, fun n m hn => ?mode, ?entry, ?hint, ?sysGo, ?ctrlGo, ?debug, ?regLock, ?bypass, ?bypassSame,
    ?spiLock, ?ibLock, fun o off v reg a fs hoff hf ha hword hbar hproof hw => ?takes, fun o off v reg a fs c hoff hf ha hword hbar hproof hw => ?refuses,
    fun o off v reg a fs hoff hf ha hword hbar hproof hro => ?readOnly⟩
  case capture =>
    refine writes_row (by decide) (fun _ _ _ _ _ => rfl) (fun s o a v ⟨_, htrig⟩ => ?_)
      fun s o a v ⟨hgo, _⟩ => ?_
    · rw [regRefuses_capCtrl]
      simp [htrig]
    · rw [regActs_capCtrl, if_pos hgo]
  case arm =>
    refine writes_rTIO_cfg hn (fun _ _ _ _ _ => rfl) fun s o a v ⟨harm, hdisarm, hmode⟩ => ?_
    rw [cfgWritten_sameMode hn hmode]
    simp [harm, hdisarm]
  case disarm =>
    refine writes_rTIO_cfg hn (fun _ _ _ _ _ => rfl) fun s o a v ⟨hdisarm, harm, hmode⟩ => ?_
    rw [cfgWritten_sameMode hn hmode]
    simp [harm, hdisarm]
  case mode =>
    refine writes_rTIO_cfg hn (fun _ _ _ _ _ => rfl) fun s o a v ⟨hdisarm, harm, hmode⟩ => ?_
    rw [cfgWritten, show bits (regGet s (rTIO n 0)) 31 29 = m from hmode]
    simp [harm, hdisarm]
  case entry =>
    exact writes_row (by decide) (fun _ _ _ _ _ => rfl) (fun _ _ _ _ _ => regRefuses_crocus _ _ _ _)
      fun s o a v ⟨hgo, hhint⟩ => (regActs_crocus _ _ _ _).trans (crocusWritten_go hgo hhint _)
  case hint =>
    exact writes_row (by decide) (fun _ _ _ _ _ => rfl) (fun _ _ _ _ _ => regRefuses_crocus _ _ _ _)
      fun s o a v ⟨hhint, hgo⟩ => (regActs_crocus _ _ _ _).trans (crocusWritten_hint hhint hgo _)
  case sysGo =>
    refine writes_row (by decide) (fun _ _ _ _ _ => rfl) (fun s o a v ⟨hkey, _, hclean⟩ => ?_)
      fun s o a v ⟨_, hgo, _⟩ => ?_
    · rw [regRefuses_rstCtrl]
      simpa [hkey] using hclean
    · rw [regActs_rstCtrl, resetWritten, if_pos hgo]
      rfl
  case ctrlGo =>
    refine writes_row (by decide) (fun _ _ _ _ _ => rfl) (fun s o a v ⟨hkey, _, _, hclean⟩ => ?_)
      fun s o a v ⟨_, hsys, hctrl, _⟩ => ?_
    · rw [regRefuses_rstCtrl]
      simp [hkey, hclean]
    · rw [regActs_rstCtrl, resetWritten, if_neg (by simp [hsys]), if_pos hctrl]
  case debug =>
    exact writes_row (by decide) (fun _ _ _ _ _ => rfl) (fun _ _ _ _ _ => regRefuses_jtagCtrl _ _ _ _)
      fun s o a v hgo => (regActs_jtagCtrl _ _ _ _).trans (if_pos hgo)
  case regLock =>
    exact writes_row (by decide) (fun _ _ _ _ _ => rfl) (fun _ _ _ _ _ => regRefuses_regLock _ _ _ _)
      fun _ _ _ _ _ => regActs_regLock _ _ _ _
  case bypass =>
    refine writes_row (by decide) (fun _ _ _ _ _ => rfl) (fun _ _ _ _ _ => regRefuses_fwStat _ _ _ _)
      fun s o a v ⟨hset, hwas⟩ => (regActs_fwStat _ _ _ _).trans (if_pos ?_)
    have hold : bit (regGet s rFW_STAT) 31 = false := hwas
    simp [hset, hold]
  case bypassSame =>
    refine writes_row (by decide) (fun _ _ _ _ _ => rfl) (fun _ _ _ _ _ => regRefuses_fwStat _ _ _ _)
      fun s o a v hsame => (regActs_fwStat _ _ _ _).trans (if_neg ?_)
    have hold : bit (newValue rFW_STAT a v s) 31 = bit (regGet s rFW_STAT) 31 := hsame
    simp [hold]
  case spiLock =>
    exact writes_row (by decide) (fun _ _ _ _ _ => rfl) (fun _ _ _ _ _ => regRefuses_brgCtrl _ _ _ _)
      fun _ _ _ _ _ => regActs_brgCtrl _ _ _ _
  case ibLock =>
    exact writes_row (by decide) (fun _ _ _ _ _ => rfl) (fun _ _ _ _ _ => regRefuses_brgCtrl _ _ _ _)
      fun _ _ _ _ _ => regActs_brgCtrl _ _ _ _
  case takes =>
    refine does_of (hostWrite o off v) (fun _ _ => rfl) fun s _ ⟨hfree@⟨_, _, hl⟩, hok⟩ => ?_
    rw [hostWrite_of_free hfree, landWrite_ok]
    rw [regWrite_mapped v hoff hf ha hword hbar hproof hl, writeCause_of_writable hw, hok]
    rfl
  case refuses =>
    refine does_of (hostWrite o off v) (fun _ _ => rfl) fun s _ ⟨hfree@⟨_, _, hl⟩, hc⟩ => ?_
    rw [hostWrite_of_free hfree, landWrite_error]
    rw [regWrite_mapped v hoff hf ha hword hbar hproof hl, writeCause_of_writable hw, hc]
    rfl
  case readOnly =>
    refine does_of (hostWrite o off v) (fun _ _ => rfl) fun s _ hfree@⟨_, _, hl⟩ => ?_
    rw [hostWrite_of_free hfree, landWrite_error]
    rw [regWrite_mapped v hoff hf ha hword hbar hproof hl, writeCause_of_readOnly hro]
    rfl

end Sys2Proof.Machine
end

section
/-!
PROOFS. gPTP messages and their timers (R80 to R112).
-/
namespace Sys2Proof.Machine
open Sys2Proof Sys2Proof.Safety

/-! ### The slot of a message (R81, R90) -/

/-- gPTP messages are dropped at a port from 20 on, and of a domain without a slot (R81, R90). -/
theorem gptpDropped_iff {s : State} {port domain : Nat} : gptpDropped s port domain = true ↔ 20 ≤ port ∨ slotByDomain s domain = none := by
  simp [gptpDropped]

theorem gptpDropped_of_slot {s : State} {port domain i : Nat} (hport : port < 20) (hslot : slotByDomain s domain = some i) :
    gptpDropped s port domain = false := by
  simp [gptpDropped, hport, hslot]

/-- A message on the slave port of its domain's slot belongs to the slot while the port is asCapable (R81, R88). -/
theorem slaveSlot_of_slave {s : State} {port domain i : Nat} (hslot : slotByDomain s domain = some i) (hslave : slavePort s i = some port)
    (hup : portUp s port = true) (hcap : (portTimeOf s port).asCap = true) : slaveSlot s port domain = some i := by
  simp [slaveSlot, hslot, hslave, hup, hcap]

/-! ### Sync and Follow_Up (R84, R95, R98, R102) -/

/-- A Sync of a slot is counted; a two-step one is held, a one-step one is relayed and given to the servo (R95, R98, R102). -/
theorem syncRx_of_slave {s : State} {port i : Nat} {m : SyncMsg} (hdrop : gptpDropped s port m.domain = false)
    (hslave : slaveSlot s port m.domain = some i) :
    syncRx port m s =
      let h : HeldSync := ⟨port, ingressStamp s port m.held, m, delayOf s port, (portTimeOf s port).nrr⟩
      let e := countNet i port 0 s
      if m.twoStep = true then setSlot i { slotOf4 e i with held := (slotOf4 e i).held ++ [h] } e else servoSync i h m (relaySync i h m e) := by
  simp only [syncRx, hdrop, hslave, Bool.false_eq_true, if_false]

/-- A Follow_Up that matches the Sync held releases it, relayed and given to the servo (R98, R102). -/
theorem followUpRx_of_held {s : State} {port i : Nat} {m : SyncMsg} {h : HeldSync} (hdrop : gptpDropped s port m.domain = false)
    (hslave : slaveSlot s port m.domain = some i) (hheld : (slotOf4 s i).held = [h]) (hmatch : heldMatches s.time.now port m.seqId h = true) :
    followUpRx port m s = servoSync i h m (relaySync i h m (setSlot i { slotOf4 s i with held := [] } s)) := by
  have hfind : (slotOf4 s i).held.find? (heldMatches s.time.now port m.seqId) = some h := by simp [hheld, hmatch]
  have herase : (slotOf4 s i).held.erase h = [] := by simp [hheld]
  simp only [followUpRx, hdrop, hslave, hfind, herase, Bool.false_eq_true, if_false]

/-- A Sync held for 100 ms is dropped and counted (R98). -/
theorem followUpMissed_of_long {s : State} {i : Nat} {h : HeldSync} (hheld : (slotOf4 s i).held = [h]) (hlong : heldLong s.time.now h = true) :
    followUpMissed i s = countNet i h.port 3 (setSlot i { slotOf4 s i with held := [] } s) := by
  simp [followUpMissed, hheld, hlong]

/-- A grandmaster slot sends the Sync of each master port whose interval has passed (R84). -/
theorem gmSync_of_grandmaster {s : State} {i : Nat} (hgm : isGrandmaster s i = true) :
    gmSync i s = (syncDue s i).foldl (fun e p => gmSyncPort i p e) s := if_pos hgm

/-! ### Announce (R80, R82, R103, R104, R111) -/

/-- An Announce that a port of the choice takes while the firmware runs is held; then the best master is chosen again, or in external mode the slave
port's names the grandmaster (R80, R111). -/
theorem announceIn_of_fits {s : State} {port i : Nat} {m : AnnounceMsg} (hport : port < 20) (hslot : slotByDomain s m.domain = some i)
    (hbmca : bmcaPort s port = true) (hruns : fwRuns s = true)
    (hfits : announceFits m ⟨m.gm, m.stepsRemoved, m.srcClock, m.srcPort, m.path, s.time.now⟩ (tget none s.net.announce (i * 32 + port)) = true) :
    announceIn port m s =
      let v : PortInfo := ⟨m.gm, m.stepsRemoved, m.srcClock, m.srcPort, m.path, s.time.now⟩
      let e := setAnnounce i port (some v) s
      if slotMode (slotCfg s i) = 1 then runBmca i e else if slavePort s i = some port then takeGm i v e else e := by
  simp only [announceIn, gptpDropped_of_slot hport hslot, hslot, hbmca, hruns, hfits, Bool.not_true, Bool.or_self, Bool.false_eq_true, if_false]

/-- A master port whose interval has passed sends Announce (R82, R104). -/
theorem announceOut_of_due {s : State} {i port : Nat} (hrole : roleOf s i port = 2)
    (hdue : intervalDue s.time.now (tget none s.net.announceTx (i * 32 + port)) (announceInterval s i port) = true) :
    announceOut i port s =
      let seq := tget 0 s.net.announceSeq (i * 32 + port)
      sendGptp port (slotTc (slotCfg s i)) { kind := 11, slot := i, seqId := seq, announce := some (announceSays s i) }
        { s with net := { s.net with announceTx := tset none s.net.announceTx (i * 32 + port) (some s.time.now)
                                     announceSeq := tset 0 s.net.announceSeq (i * 32 + port) ((seq + 1) % 65536) } } :=
  if_pos (by simp [hrole, hdue])

/-! ### Peer delay (R86 to R90, R101) -/

/-- A request still without its answer is lost when the next one is due (R88, R112). -/
theorem pdelayUnanswered_eq (port : Nat) (s : State) :
    pdelayUnanswered port s =
      let v := portTimeOf s port
      if v.reqT1.isSome = true then judgeAsCapable port (countNet 0 port 6 (setPortTime port { v with lost := v.lost + 1, reqT1 := none } s)) else s := by
  cases h : (portTimeOf s port).reqT1 <;> simp [pdelayUnanswered, h]

/-- A port in service whose interval has passed sends Pdelay_Req while the firmware runs and a slot is enabled (R86, R88). -/
theorem pdelayReqOut_of_due {s : State} {port : Nat} (hport : port < 20) (hlive : liveSlots s ≠ []) (hup : portUp s port = true) (hruns : fwRuns s = true)
    (hdue : intervalDue s.time.now (portTimeOf s port).lastReq (pdelayInterval s port) = true) :
    pdelayReqOut port s =
      let e := pdelayUnanswered port s
      let seq := ((portTimeOf e port).reqSeq + 1) % 65536
      sendGptp port (pdelayClass e) { kind := 2, slot := 0, cmlds := true, seqId := seq }
        (setPortTime port { portTimeOf e port with reqSeq := seq, lastReq := some s.time.now, responder := none } e) :=
  if_neg (by simp [hport, hlive, hup, hruns, hdue])

/-- A request of the CMLDS or of domain 0 is counted and answered (R86, R90). -/
theorem pdelayReqIn_of_answered {s : State} {port : Nat} {m : PdelayReq} (hport : port < 20) (hlive : liveSlots s ≠ []) (hup : portUp s port = true)
    (hdomain : m.cmlds = true ∨ m.domain = 0) :
    pdelayReqIn port m s = sendGptp port (pdelayClass s)
      { kind := 3, slot := (slotByDomain s 0).getD 0, cmlds := m.cmlds, seqId := m.seqId, twoStep := true
        peer := (m.srcClock, m.srcPort), stamp := ingressStamp s port m.held } (countNet 0 port 5 s) := by
  have hours : (m.cmlds || decide (m.domain = 0)) = true := by simpa using hdomain
  simp [pdelayReqIn, hours, Nat.not_le.mpr hport, hlive, hup]

/-- The answer to the request in flight completes an exchange (R87 to R89). -/
theorem pdelayRespIn_of_first {s : State} {port : Nat} {m : PdelayResp} {t1 : Int} (hport : port < 20) (hruns : fwRuns s = true)
    (hnone : (portTimeOf s port).responder = none) (ht1 : (portTimeOf s port).reqT1 = some t1) (hseq : m.seqId = (portTimeOf s port).reqSeq) :
    pdelayRespIn port m s = pdelaySample port m t1 (ingressStamp s port m.held) s := by
  simp [pdelayRespIn, Nat.not_le.mpr hport, hruns, hnone, ht1, hseq]

/-- An answer of a second responder makes the port multi-responder (R88, R101). -/
theorem pdelayRespIn_of_second {s : State} {port r : Nat} {m : PdelayResp} (hport : port < 20) (hruns : fwRuns s = true)
    (hfirst : (portTimeOf s port).responder = some (m.seqId, r)) (hother : r ≠ m.responder) :
    pdelayRespIn port m s = judgeAsCapable port (setPortTime port { portTimeOf s port with multi := true } s) := by
  simp [pdelayRespIn, Nat.not_le.mpr hport, hruns, hfirst, hother]

/-- Settles O24: each gPTP message and each of its timers does what its rule says. -/
theorem networkTimeEventsTakeEffect : Obligations.NetworkTimeEventsTakeEffect := by
  unfold Obligations.NetworkTimeEventsTakeEffect
  refine ⟨fun port m => ?syncDropped, fun port m i htwo => ?syncHeld, fun port m i hone => ?syncTaken, fun port m i h => ?followUp, fun i h => ?missed,
    fun i => ?gmSync, fun port m => ?announceDropped, fun port m i => ?announceTaken, fun i port => ?announceSent, fun port => ?request,
    fun port m => ?answer, fun port m t1 => ?exchange, fun port m r => ?second⟩
  case syncDropped => exact does_of (syncRx port m) (fun _ _ => rfl) fun s _ hdrop => if_pos (gptpDropped_iff.mpr hdrop)
  case syncHeld =>
    refine does_of (syncRx port m) (fun _ _ => rfl) fun s _ ⟨hport, hslot, hslave, hup, hcap⟩ => ?_
    rw [syncRx_of_slave (gptpDropped_of_slot hport hslot) (slaveSlot_of_slave hslot hslave hup hcap)]
    exact if_pos htwo
  case syncTaken =>
    refine does_of (syncRx port m) (fun _ _ => rfl) fun s _ ⟨hport, hslot, hslave, hup, hcap⟩ => ?_
    rw [syncRx_of_slave (gptpDropped_of_slot hport hslot) (slaveSlot_of_slave hslot hslave hup hcap)]
    exact if_neg (by simp [hone])
  case followUp =>
    refine does_of (followUpRx port m) (fun _ _ => rfl) fun s _ ⟨hport, hslot, hslave, hup, hcap, hheld, hon, hseq, hin⟩ => ?_
    exact followUpRx_of_held (gptpDropped_of_slot hport hslot) (slaveSlot_of_slave hslot hslave hup hcap) hheld (by simp [heldMatches, hon, hseq, hin])
  case missed =>
    exact does_of (followUpMissed i) (fun _ _ => rfl) fun s _ ⟨hheld, hlong⟩ => followUpMissed_of_long hheld (decide_eq_true hlong)
  case gmSync => exact does_of (gmSync i) (fun _ _ => rfl) fun s _ hgm => gmSync_of_grandmaster hgm
  case announceDropped => exact does_of (announceIn port m) (fun _ _ => rfl) fun s _ hdrop => if_pos (gptpDropped_iff.mpr hdrop)
  case announceTaken =>
    exact does_of (announceIn port m) (fun _ _ => rfl) fun s _ ⟨hport, hslot, hbmca, hruns, hfits⟩ => announceIn_of_fits hport hslot hbmca hruns hfits
  case announceSent => exact does_of (announceOut i port) (fun _ _ => rfl) fun s _ ⟨hrole, hdue⟩ => announceOut_of_due hrole hdue
  case request =>
    refine does_of (pdelayReqOut port) (fun _ _ => rfl) fun s _ ⟨hport, hlive, hup, hruns, hdue⟩ => ?_
    rw [pdelayReqOut_of_due hport hlive hup hruns hdue, pdelayUnanswered_eq]
  case answer =>
    exact does_of (pdelayReqIn port m) (fun _ _ => rfl) fun s _ ⟨hport, hlive, hup, hdomain⟩ => pdelayReqIn_of_answered hport hlive hup hdomain
  case exchange =>
    refine does_of (pdelayRespIn port m) (fun _ _ => rfl) fun s _ ⟨hport, hruns, hnone, ht1, hseq⟩ => ?_
    rw [pdelayRespIn_of_first hport hruns hnone ht1 hseq]
    simp only [pdelaySample, Bool.and_eq_true, decide_eq_true_eq]
  case second =>
    exact does_of (pdelayRespIn port m) (fun _ _ => rfl) fun s _ ⟨hport, hruns, hfirst, hother⟩ => pdelayRespIn_of_second hport hruns hfirst hother

end Sys2Proof.Machine
end

section
/-!
PROOFS. The return of a SerDes reference (R122), and why the statement of the port events fails for it.
-/
namespace Sys2Proof.Machine
open Sys2Proof Sys2Proof.Safety

/-! ### What the return does -/

/-- A SerDes reference is present again. -/
def refReturned (b : Bool) (s : State) : State :=
  { s with ports := if b then { s.ports with refB := true } else { s.ports with refA := true } }

/-- The ports of a group go as far as their conditions let them (R136). -/
def groupStarts (b : Bool) (s : State) : State := (groupPorts b).foldl (fun e n => tryUp n e) s

/-- A reference that has returned is present for its group, whatever was before. -/
theorem refOk_refReturned (b : Bool) (s : State) : refOk (refReturned b s) (if b then 4 else 0) = true := by
  cases b <;> rfl

/-- The return of a lost reference is a reset of each port of its group: its constants are loaded anew before it starts (R15, R122, R634). -/
theorem does_serdesReferenceReturn_of_lost (b : Bool) :
    Does (fun t => .serdesReferenceReturn t b) (fun s => refOk s (if b then 4 else 0) = false)
      (fun s => groupStarts b (reloadGroup b (refReturned b s))) :=
  does_of (fun s => groupStarts b (if refOk s (if b then 4 else 0) then refReturned b s else reloadGroup b (refReturned b s)))
    (fun _ _ => rfl) fun _ _ hlost => congrArg (groupStarts b) (if_neg (by simp [hlost]))

/-! ### The counterexample -/

/-- A command that ends in two states leaves the same ports in both. -/
theorem portOf_eq_of_ends_eq {s u v : State} (h : ends s u = ends s v) (n : Nat) : portOf u n = portOf v n := by
  injection h with hstates
  have hport := congrArg (portOf · n) hstates
  exact hport

/-- SerDes reference A is lost. Port 0 is enabled with compensation, and DOWN; before the loss, its measurement lay outside the range of its sealed
constants, which has set DLC_FAULT (R139). -/
def lostWithFault : State :=
  { State.reset with
    ports := { refA := false, port := [(0, { cfg := [0x808000], st := .down, sealed := true, dlcRange := some (0, 0), dlcFault := true })] } }

/-- The constants loaded at the return clear DLC_FAULT. -/
theorem dlcFault_of_reloaded : (portOf (groupStarts false (reloadGroup false (refReturned false (acting 0 lostWithFault)))) 0).dlcFault = false := by
  decide

/-- A port that loads nothing keeps it. -/
theorem dlcFault_of_kept : (portOf (groupStarts false (refReturned false (acting 0 lostWithFault))) 0).dlcFault = true := by
  decide

/-- Refutes O26, in its clause on the return of a SerDes reference. The clause asks whether the reference is present in the state that has it back, where it
always is, so that by the clause no port ever loads its constants anew. The model asks in the state before. On lostWithFault, port 0 loads its sealed
constants and DLC_FAULT is cleared, where the clause keeps it set. -/
theorem not_portEventsTakeEffect : ¬ Obligations.PortEventsTakeEffect := by
  unfold Obligations.PortEventsTakeEffect
  rintro ⟨-, -, -, -, -, -, -, -, -, hreturn, -⟩
  have hsaid : exec (.serdesReferenceReturn 0 false) lostWithFault =
      ends lostWithFault (groupStarts false (if refOk (refReturned false (acting 0 lostWithFault)) (if false then 4 else 0) = true
        then refReturned false (acting 0 lostWithFault) else reloadGroup false (refReturned false (acting 0 lostWithFault)))) :=
    hreturn false 0 lostWithFault (by decide) trivial
  rw [if_pos (refOk_refReturned false _)] at hsaid
  have hdone : exec (.serdesReferenceReturn 0 false) lostWithFault =
      ends lostWithFault (groupStarts false (reloadGroup false (refReturned false (acting 0 lostWithFault)))) :=
    does_serdesReferenceReturn_of_lost false 0 lostWithFault (by decide) (by decide)
  have hport := portOf_eq_of_ends_eq (hdone.symm.trans hsaid) 0
  exact absurd (congrArg Port.dlcFault hport) (by rw [dlcFault_of_reloaded, dlcFault_of_kept]; decide)

end Sys2Proof.Machine
end

section
/-!
PROOFS. How a replica enters its queue (R181, R199, R200, R201, R224, R237).
-/
namespace Sys2Proof.Machine
open Sys2Proof Sys2Proof.Safety

/-! ### What leaves the egress sides as they are -/

@[simp] theorem systemEvent_egress (i cause : Nat) (s : State) : (systemEvent i cause s).egress = s.egress := by
  rw [systemEvent, raiseEvent_frame]

@[simp] theorem csPushAt_egress (kind lt : Nat) (ps : List (BitVec 64)) (s : State) : (csPushAt kind lt ps s).egress = s.egress := by rw [csPushAt_frame]
@[simp] theorem countDrop_egress (port code : Nat) (s : State) : (countDrop port code s).egress = s.egress := rfl
@[simp] theorem mirrorDropped_egress (sess : Nat) (s : State) : (mirrorDropped sess s).egress = s.egress := rfl

@[simp] theorem bufNote_egress (s : State) : (bufNote s).egress = s.egress := by
  unfold bufNote
  dsimp only
  (repeat' split) <;> simp

@[simp] theorem freeCells_egress (port : Nat) (c : Cells) (s : State) : (freeCells port c s).egress = s.egress := by simp [freeCells]

@[simp] theorem releaseFrame_egress (f : Nat) (s : State) : (releaseFrame f s).egress = s.egress := by
  unfold releaseFrame
  split <;> simp

@[simp] theorem dropRef_egress (f : Nat) (s : State) : (dropRef f s).egress = s.egress := by
  unfold dropRef
  (repeat' split) <;> simp

@[simp] theorem dropRep_egress (r : Replica) (s : State) : (dropRep r s).egress = s.egress := by
  unfold dropRep
  split <;> simp

@[simp] theorem frameRecord_egress (egress : Bool) (port stamp tc : Nat) (drop : Option Nat) (len : Nat) (h : Option Nat) (traced : Bool) (b : Bytes)
    (s : State) : (frameRecord egress port stamp tc drop len h traced b s).egress = s.egress := by
  unfold frameRecord
  dsimp only
  split <;> simp

@[simp] theorem egressGroup_egress (p c at0 : Nat) (drop : Option Nat) (r : Replica) (bytes : Bytes) (s : State) :
    (egressGroup p c at0 drop r bytes s).egress = s.egress := by
  unfold egressGroup
  split <;> simp

/-! ### What is turned away leaves the queues -/

@[simp] theorem egressOf_setEgress (p : Nat) (e : Egress) (s : State) : egressOf (setEgress p e s) p = e := tget_tset_same _ _ _ _

theorem egressOf_setEgress_ne {p q : Nat} (h : q ≠ p) (e : Egress) (s : State) : egressOf (setEgress p e s) q = egressOf s q :=
  tget_tset_ne _ _ _ _ _ _ h

/-- From s to u, time stands still, and port p keeps its queues and the record that limits them; the other ports keep the whole of their egress side. -/
structure QueuesStand (p : Nat) (s u : State) : Prop where
  now : u.time.now = s.time.now
  others : ∀ q, q ≠ p → egressOf u q = egressOf s q
  sched : (egressOf u p).sched = (egressOf s p).sched
  queue : (egressOf u p).queue = (egressOf s p).queue

theorem QueuesStand.refl (p : Nat) (s : State) : QueuesStand p s s := ⟨rfl, fun _ _ => rfl, rfl, rfl⟩

theorem QueuesStand.trans {p : Nat} {s u v : State} (h : QueuesStand p s u) (k : QueuesStand p u v) : QueuesStand p s v :=
  ⟨k.now.trans h.now, fun q hq => (k.others q hq).trans (h.others q hq), k.sched.trans h.sched, k.queue.trans h.queue⟩

/-- What leaves the egress sides as they are leaves the queues. -/
theorem QueuesStand.of_egress {p : Nat} {s u : State} (hnow : u.time.now = s.time.now) (h : u.egress = s.egress) : QueuesStand p s u := by
  have hof : ∀ q, egressOf u q = egressOf s q := fun q => by rw [egressOf, egressOf, h]
  exact ⟨hnow, fun q _ => hof q, congrArg _ (hof p), congrArg _ (hof p)⟩

/-- So does a change of the egress side of p in which the queues and their record stand. -/
theorem QueuesStand.setEgress {p : Nat} {s : State} {e : Egress} (hsched : e.sched = (egressOf s p).sched) (hqueue : e.queue = (egressOf s p).queue) :
    QueuesStand p s (setEgress p e s) :=
  ⟨rfl, fun _ hq => egressOf_setEgress_ne hq e s, by rw [egressOf_setEgress, hsched], by rw [egressOf_setEgress, hqueue]⟩

theorem QueuesStand.schedOf {p : Nat} {s u : State} (h : QueuesStand p s u) : schedOf u p = schedOf s p := by
  simp only [Machine.schedOf, h.sched]

theorem QueuesStand.queueOf {p : Nat} {s u : State} (h : QueuesStand p s u) (c : Nat) : queueOf (egressOf u p) c = queueOf (egressOf s p) c := by
  simp only [Machine.queueOf, h.queue]

theorem QueuesStand.admission {p : Nat} {s u : State} (h : QueuesStand p s u) (c d : Nat) (dei : Bool) : admission u p c d dei = admission s p c d dei := by
  simp only [Machine.admission, h.schedOf]

theorem QueuesStand.foldl {α : Type} {p : Nat} {f : State → α → State} (h : ∀ s x, QueuesStand p s (f s x)) (l : List α) (s : State) :
    QueuesStand p s (l.foldl f s) := by
  induction l generalizing s with
  | nil => exact .refl p s
  | cons x l ih => exact (h s x).trans (ih (f s x))

theorem schedCount_queuesStand (p w : Nat) (s : State) : QueuesStand p s (schedCount p w s) := .setEgress rfl rfl

/-- A replica turned away is counted and dropped, and no queue changes (R199, R237). -/
theorem turnAway_queuesStand (p c why at0 : Nat) (r : Replica) (s : State) : QueuesStand p s (turnAway p c why at0 r s) := by
  have hnow : (turnAway p c why at0 r s).time.now = s.time.now := congrArg Prod.snd (turnAway_beatClock p c why at0 r s)
  unfold turnAway at hnow ⊢
  split at hnow
  · exact .of_egress hnow (by simp)
  · have hcount := schedCount_queuesStand p (if why = 1 then 4 + 8 * c else 5 + 8 * c) s
    exact hcount.trans (.of_egress (hnow.trans hcount.now.symm) (by simp))

theorem dropRefused_queuesStand (p : Nat) (s : State) : QueuesStand p s (dropRefused p s) := by
  unfold dropRefused
  dsimp only
  split
  · exact .refl p s
  · have hemptied : QueuesStand p s (setEgress p { egressOf s p with refused := (0, []) } s) := .setEgress rfl rfl
    exact hemptied.trans (.foldl (fun u (y : Nat × Nat × Replica) => turnAway_queuesStand p y.1 y.2.1 _ y.2.2 u) _ _)

theorem settleRefused_queuesStand (p : Nat) (s : State) : QueuesStand p s (settleRefused p s) := by
  unfold settleRefused
  split
  · exact .refl p s
  · exact dropRefused_queuesStand p s

theorem noteRefused_queuesStand (p c : Nat) (l : List (Nat × Replica)) (s : State) : QueuesStand p s (noteRefused p c l s) := by
  unfold noteRefused
  split
  · exact .refl p s
  · exact .setEgress rfl rfl

/-! ### A queue changes -/

@[simp] theorem queueOf_setQueue (p c : Nat) (q : List Replica) (s : State) : queueOf (egressOf (setQueue p c q s) p) c = q := by
  simp only [setQueue, egressOf_setEgress, queueOf]
  exact tget_tset_same _ _ _ _

theorem queueOf_setQueue_ne {c d : Nat} (h : d ≠ c) (p : Nat) (q : List Replica) (s : State) :
    queueOf (egressOf (setQueue p c q s) p) d = queueOf (egressOf s p) d := by
  simp only [setQueue, egressOf_setEgress, queueOf]
  exact tget_tset_ne _ _ _ _ _ _ h

theorem egressOf_setQueue_ne {p x : Nat} (h : x ≠ p) (c : Nat) (q : List Replica) (s : State) : egressOf (setQueue p c q s) x = egressOf s x :=
  egressOf_setEgress_ne h _ s

/-! ### Admission (R199, R200) -/

/-- A queue has room below QMAX, and for a replica with DEI below YMAX (R199). -/
theorem admission_eq_zero {s : State} {p c d : Nat} {dei : Bool} (hq : d < srQmax (schedOf s p) c) (hy : dei = true → d < srYmax (schedOf s p) c) :
    admission s p c d dei = 0 := by
  have hyellow : (dei && decide (srYmax (schedOf s p) c ≤ d)) = false := by
    cases dei with
    | false => rfl
    | true => simpa using hy rfl
  rw [admission, if_neg (Nat.not_le.mpr hq), hyellow]
  rfl

/-- Admission behind a queue leaves it in front, and adds no more replicas than come. -/
theorem admitAll_extends (s : State) (p c : Nat) (q come : List Replica) (out : List (Nat × Replica)) :
    ∃ l, (admitAll s p c q come out).1 = q ++ l ∧ l.length ≤ come.length := by
  induction come generalizing q out with
  | nil => exact ⟨[], (List.append_nil q).symm, Nat.le_refl _⟩
  | cons r come ih =>
    unfold admitAll
    dsimp only
    split
    · obtain ⟨l, hl, hlen⟩ := ih (q ++ [r]) out
      exact ⟨r :: l, by rw [hl, List.append_assoc]; rfl, Nat.succ_le_succ hlen⟩
    · obtain ⟨l, hl, hlen⟩ := ih q (out ++ [(admission s p c q.length r.dei, r)])
      exact ⟨l, hl, Nat.le_succ_of_le hlen⟩

/-- One replica enters a queue with room at its end. -/
theorem admitAll_one {s : State} {p c : Nat} {q : List Replica} {r : Replica} (h : admission s p c q.length r.dei = 0) :
    admitAll s p c q [r] [] = (q ++ [r], []) := if_pos h

/-- A queue without room stays as it is. -/
theorem admitAll_none {s : State} {p c : Nat} {q : List Replica} {r : Replica} (h : admission s p c q.length r.dei ≠ 0) :
    admitAll s p c q [r] [] = (q, [(admission s p c q.length r.dei, r)]) := if_neg h

/-! ### The place of a replica among those of its cycle (R200) -/

/-- A replica as it is admitted: with the cycle, and its launch instant as it stands then (R229). -/
def asAdmitted (s : State) (short : Option Nat) (r : Replica) : Replica :=
  { r with admitted := s.time.now, launch := (launchAt s short).1, late := (launchAt s short).2 }

/-- Whether a replica of the queue has come in the cycle now, from a port above that of r. -/
def comesAfter (s : State) (r x : Replica) : Bool := x.admitted = s.time.now && decide (r.inPort < x.inPort)

/-- The replicas at the end of the queue that stand behind one from a lower port. -/
def behind (s : State) (r : Replica) (q : List Replica) : List Replica := (q.reverse.takeWhile (comesAfter s r)).reverse

/-- The rest of the queue, and those behind. -/
theorem take_append_behind (s : State) (r : Replica) (q : List Replica) : q.take (q.length - (behind s r q).length) ++ behind s r q = q := by
  have hrev : (q.reverse.dropWhile (comesAfter s r)).reverse ++ behind s r q = q := by
    rw [behind, ← List.reverse_append, List.takeWhile_append_dropWhile, List.reverse_reverse]
  have hlen : q.length - (behind s r q).length = (q.reverse.dropWhile (comesAfter s r)).reverse.length := by
    have := congrArg List.length hrev
    rw [List.length_append] at this
    omega
  have hfront : q.take (q.reverse.dropWhile (comesAfter s r)).reverse.length = (q.reverse.dropWhile (comesAfter s r)).reverse :=
    (congrArg (List.take _) hrev.symm).trans List.take_left
  rw [hlen, hfront, hrev]

theorem comesAfter_of_mem_behind {s : State} {r x : Replica} {q : List Replica} (h : x ∈ behind s r q) : x.admitted = s.time.now ∧ r.inPort < x.inPort := by
  have := List.all_eq_true.mp List.all_takeWhile x (List.mem_reverse.mp h)
  simpa [comesAfter] using this

/-- None stands behind a replica where none of its cycle has come from a higher port. -/
theorem behind_eq_nil {s : State} {r : Replica} {q : List Replica} (h : ∀ x, x ∈ q → x.admitted = s.time.now → x.inPort ≤ r.inPort) : behind s r q = [] := by
  refine List.eq_nil_iff_forall_not_mem.mpr fun x hx => ?_
  obtain ⟨hnow, hport⟩ := comesAfter_of_mem_behind hx
  have hmem : x ∈ q := take_append_behind s r q ▸ List.mem_append_right _ hx
  exact absurd (h x hmem hnow) (Nat.not_le.mpr hport)

/-- The queue of a class without CQF after a replica has come to it, and those turned away: it and those of its cycle from higher ports are admitted behind
the rest (R200). -/
def entry (p c : Nat) (short : Option Nat) (r : Replica) (s : State) : List Replica × List (Nat × Replica) :=
  let q := queueOf (egressOf s p) c
  admitAll s p c (q.take (q.length - (behind s r q).length)) (asAdmitted s short r :: behind s r q) []

/-- A replica that comes to a class without CQF changes its queue as entry says (R181, R199, R200, R224). -/
theorem enterClass_of_plain {p c : Nat} {s : State} (short : Option Nat) (r : Replica) (h : srCqf (schedOf s p) c = false) :
    enterClass p c short r s =
      let e := settleRefused p s
      noteRefused p c (entry p c short r e).2 (setQueue p c (entry p c short r e).1 e) := by
  have hclass : admitClass (settleRefused p s) p c = (c, false) := by
    rw [admitClass, (settleRefused_queuesStand p s).schedOf, h]
    rfl
  simp only [enterClass, hclass, Bool.false_and, Bool.false_eq_true, if_false, entry, behind, List.length_reverse]
  rfl

theorem queueOf_enterClass {p c : Nat} {s : State} (short : Option Nat) (r : Replica) (h : srCqf (schedOf s p) c = false) :
    queueOf (egressOf (enterClass p c short r s) p) c = (entry p c short r (settleRefused p s)).1 := by
  rw [enterClass_of_plain short r h, (noteRefused_queuesStand p c _ _).queueOf, queueOf_setQueue]

theorem queueOf_enterClass_ne {p c d : Nat} {s : State} (short : Option Nat) (r : Replica) (h : srCqf (schedOf s p) c = false) (hd : d ≠ c) :
    queueOf (egressOf (enterClass p c short r s) p) d = queueOf (egressOf s p) d := by
  rw [enterClass_of_plain short r h, (noteRefused_queuesStand p c _ _).queueOf, queueOf_setQueue_ne hd, (settleRefused_queuesStand p s).queueOf]

theorem egressOf_enterClass_ne {p c x : Nat} {s : State} (short : Option Nat) (r : Replica) (h : srCqf (schedOf s p) c = false) (hx : x ≠ p) :
    egressOf (enterClass p c short r s) x = egressOf s x := by
  rw [enterClass_of_plain short r h, (noteRefused_queuesStand p c _ _).others x hx, egressOf_setQueue_ne hx, (settleRefused_queuesStand p s).others x hx]

/-- Where none of its cycle stands behind it, a replica is admitted behind the whole queue. -/
theorem entry_of_last {p c : Nat} {s : State} (short : Option Nat) (r : Replica)
    (h : ∀ x, x ∈ queueOf (egressOf s p) c → x.admitted = s.time.now → x.inPort ≤ r.inPort) :
    entry p c short r s = admitAll s p c (queueOf (egressOf s p) c) [asAdmitted s short r] [] := by
  rw [entry, behind_eq_nil h, List.length_nil, Nat.sub_zero, List.take_length]

/-- Settles O57: what a port has turned away leaves its queues; a replica that comes then is admitted, with those of its cycle from higher ports behind it,
at the end of the rest. -/
theorem queuesKeepTheirLimits : Obligations.QueuesKeepTheirLimits := by
  unfold Obligations.QueuesKeepTheirLimits
  refine ⟨fun p c short r s hplain hlast hqmax hymax => ?admitted, fun p c short r s d hplain hlast hfull => ?turnedAway, fun p c short r s hplain => ?places⟩
  all_goals have hstand := settleRefused_queuesStand p s
  case admitted =>
    have hroom : admission (settleRefused p s) p c (queueOf (egressOf (settleRefused p s) p) c).length r.dei = 0 := by
      rw [hstand.admission, hstand.queueOf]
      exact admission_eq_zero hqmax hymax
    have hentry := (entry_of_last short r (by rwa [hstand.queueOf, hstand.now])).trans (admitAll_one (r := asAdmitted (settleRefused p s) short r) hroom)
    refine ⟨⟨asAdmitted (settleRefused p s) short r, ?_, ?_⟩, fun d => queueOf_enterClass_ne short r hplain, fun q => egressOf_enterClass_ne short r hplain⟩
    · rw [queueOf_enterClass short r hplain, hentry, hstand.queueOf]
    · rw [asAdmitted, hstand.now]
  case turnedAway =>
    by_cases hd : d = c
    · subst hd
      have hnone : admission (settleRefused p s) p d (queueOf (egressOf (settleRefused p s) p) d).length r.dei ≠ 0 := by
        rwa [hstand.admission, hstand.queueOf]
      rw [queueOf_enterClass short r hplain, entry_of_last short r (by rwa [hstand.queueOf, hstand.now]),
        admitAll_none (r := asAdmitted (settleRefused p s) short r) hnone, hstand.queueOf]
    · exact queueOf_enterClass_ne short r hplain hd
  case places =>
    obtain ⟨l, hl, hlen⟩ := admitAll_extends (settleRefused p s) p c _ (asAdmitted (settleRefused p s) short r :: behind _ r _) []
    refine ⟨_, behind (settleRefused p s) r (queueOf (egressOf s p) c), l, (take_append_behind _ r _).symm, ?_, ?_, fun x hx => ?_⟩
    · rw [queueOf_enterClass short r hplain, entry, hstand.queueOf]
      exact hl
    · exact hlen
    · rw [← hstand.now]
      exact comesAfter_of_mem_behind hx

end Sys2Proof.Machine
end

section
/-!
PROOFS. The STREAM family of requests: identification, handles, filters, stream gates, meters, FRER (R569).
-/
namespace Sys2Proof.Machine
open Sys2Proof Sys2Proof.Safety

/-! ### The references between stream objects (R243) -/

theorem stageChecked_of_kept {n : Nat} {x : SetItem} {s : State} (h : streamRefs (projectedWith x s) = true) : stageChecked n x s = stage x s := if_pos h

theorem stageChecked_of_broken {n : Nat} {x : SetItem} {s : State} (h : streamRefs (projectedWith x s) = false) : stageChecked n x s = conflictAt n s :=
  if_neg (by simp [h])

/-! ### Identification, its words being in range (R158 to R163) -/

/-- The entries of a state that use an IP profile (R159). -/
def profileUsed (s : State) (i : Nat) : Bool := s.fwd.ident.any (fun x => identFunc x.2 = 3 && identProfile x.2 = i)

/-- An IP profile is staged, unless it changes one that an entry uses (R159). -/
theorem streamProfile_valid {q : Req} (s : State) (hlen : q.args.length = 1) (h4 : only (mw q 4) [(14, 8), (1, 0)] = true) :
    streamProfile q s =
      if mf q 4 14 8 ≠ ipProfileOf (projected s) (mf q 4 1 0) ∧ profileUsed (projected s) (mf q 4 1 0) = true then conflictAt 4 s
      else stage (.ipProfile (mf q 4 1 0) (mf q 4 14 8)) s := by
  refine (need_ok hlen (by simp [h4])).trans (ite_congr ?_ (fun _ => rfl) (fun _ => rfl))
  simp only [Bool.and_eq_true, decide_eq_true_eq, profileUsed]

/-- Whether an entry is of IPv6, and takes two slots (R161). -/
def identLong (q : Req) : Bool := identV6 q.args && decide (identFunc q.args = 3)

/-- The bucket of an entry, by its key under the profiles to come (R161). -/
def bucketOf (q : Req) (s : State) : Nat := identBucket (identKey (ipProfileOf (projected s) (identProfile q.args)) q.args)

/-- Whether its bucket holds an entry equal to it (R161). -/
def identTwin (q : Req) (s : State) : Bool := (macWays (bucketOf q s)).any (fun j => identSame (projected s) q.args (tget [] (projected s).fwd.ident j))

/-- An identification entry in range is answered by its bucket: full, holding its equal, or with a place for it (R160, R161). -/
theorem streamIdPut_valid {q : Req} (s : State) (hlen : q.args.length = if identV6 q.args && decide (identFunc q.args = 3) then 16 else 8)
    (hchecks : (identChecks q.args).all (·.2) = true) :
    streamIdPut q s = match identPlace (projected s) (bucketOf q s) (identLong q) with
      | none => tableFull s
      | some k => if identTwin q s then conflict s else (.stage (.streamId k q.args) [word k], s) :=
  (need_ok hlen (List.all_eq_true.mp hchecks)).trans rfl

/-- The removal of an entry is staged (R161). -/
theorem streamIdDrop_valid {q : Req} (s : State) (hlen : q.args.length = 1) (h4 : only (mw q 4) [(11, 0)] = true) :
    streamIdDrop q s = stage (.streamId (mf q 4 11 0) []) s := need_ok hlen (by simp [h4])

theorem streamHandlePut_valid {q : Req} (s : State) (hlen : q.args.length = 3) (h4 : only (mw q 4) [(11, 0)] = true) (h5 : only (mw q 5) [(31, 14)] = true)
    (h6 : only (mw q 6) [(31, 10)] = true) :
    streamHandlePut q s = stageChecked (handleFault s (q.args.drop 1)) (.handle (mf q 4 11 0) (q.args.drop 1)) s := need_ok hlen (by simp [h4, h5, h6])

/-! ### Filters, gates and meters, their words being in range (R243 to R253) -/

theorem streamFilterPut_valid {q : Req} (s : State) (hlen : q.args.length = 3) (h4 : only (mw q 4) [(11, 0)] = true) (h5 : only (mw q 5) [(31, 4)] = true)
    (hsdu : mf q 5 30 17 = 0 ∨ (64 ≤ mf q 5 30 17 ∧ mf q 5 30 17 ≤ 9216)) (h6 : only (mw q 6) [(31, 19)] = true) :
    streamFilterPut q s = stageChecked (filterFault s (q.args.drop 1)) (.filter (mf q 4 11 0) (q.args.drop 1)) s :=
  need_ok hlen (by simp [h4, h5, hsdu, h6])

/-- The words of a stream gate record are in range (R246). -/
structure StreamGateFits (q : Req) : Prop where
  length : q.args.length = 6
  index : only (mw q 4) [(10, 0)] = true
  entries : mf q 5 10 0 ≤ 1024
  pool : mf q 5 23 11 + mf q 5 10 0 ≤ 8192
  base : fullOk (q.args.drop 2) = true
  cycleLow : 1000 ≤ (mw q 9).toNat
  cycleHigh : (mw q 9).toNat ≤ 1000000000

/-- A gate in range is BUSY while an earlier list of it is to start; else it keeps the references or is refused (R243, R249). -/
theorem streamGatePut_valid {q : Req} (s : State) (h : StreamGateFits q) :
    streamGatePut q s =
      if (sgateOf s (mf q 4 10 0)).busy = true then busy s
      else if streamRefs (projectedWith (.gate (mf q 4 10 0) (q.args.drop 1)) s) = true then
        stage (.gate (mf q 4 10 0) (q.args.drop 1)) (setSgate (mf q 4 10 0) { sgateOf s (mf q 4 10 0) with busy := true } s)
      else conflictAt 5 s := by
  refine (need_ok h.length ?_).trans ?_
  · simp only [fld_drop_one, rw_drop_one, List.drop_drop]
    simp [h.index, h.entries, h.pool, h.base, h.cycleLow, h.cycleHigh]
  · simp only [Bool.not_eq_true', ← Bool.not_eq_true, ite_not]

/-- The words of a write to the pool are in range, and its entries are (R247). -/
structure StreamPoolFits (q : Req) (s : State) (ws : Rec) : Prop where
  fixed : 2 ≤ q.args.length
  bulk : bulkOf 2 q s = some (ws, 8 * mf q 5 11 0)
  first : only (mw q 4) [(12, 0)] = true
  count : only (mw q 5) [(11, 0)] = true
  least : 1 ≤ mf q 5 11 0
  most : mf q 5 11 0 ≤ 2048
  inPool : mf q 4 12 0 + mf q 5 11 0 ≤ 8192
  entries : badEntry 2 q poolEntryFault (pairsOf ws) = none

/-- A request whose bulk part has the bytes of n entries of two words has the length that they need (R557). -/
theorem length_of_bulkOf {fixed n : Nat} {q : Req} {s : State} {ws : Rec} (hfixed : fixed ≤ q.args.length) (h : bulkOf fixed q s = some (ws, 8 * n)) :
    q.args.length = if q.staged then fixed + 1 else fixed + 2 * n := by
  unfold bulkOf at h
  dsimp only at h
  cases hstaged : q.staged with
  | true =>
    rw [hstaged, if_pos rfl] at h
    split at h
    · exact absurd h nofun
    next hfits =>
      rw [if_pos rfl]
      exact Decidable.not_not.mp fun hlen => hfits (by simp [hlen])
  | false =>
    rw [hstaged, if_neg Bool.false_ne_true, if_neg (Nat.not_lt.mpr hfixed)] at h
    have hbytes : 4 * (q.args.length - fixed) = 8 * n := congrArg Prod.snd (Option.some.inj h)
    rw [if_neg Bool.false_ne_true]
    omega

/-- A bulk request whose words are as its handler needs them goes on with its bulk part. -/
theorem needBulk_ok {fixed n : Nat} {q : Req} {l : List (Nat × Bool)} {s : State} {k : Rec → Reply} {ws : Rec} (hfixed : fixed ≤ q.args.length)
    (hbulk : bulkOf fixed q s = some (ws, 8 * n)) (hl : ∀ e ∈ l, e.2 = true) : needBulk fixed n q l s k = k ws := by
  have hfind : l.find? (fun e => !e.2) = none := List.find?_eq_none.mpr fun e he => by simp [hl e he]
  simp only [needBulk, length_of_bulkOf hfixed hbulk, hfind, hbulk, ne_eq, not_true_eq_false, if_false, if_true]

/-- Pool entries in range are written, unless a gate uses one of them (R248). -/
theorem streamPool_valid {q : Req} {s : State} {ws : Rec} (h : StreamPoolFits q s ws) :
    streamPool q s =
      if poolUsed s (mf q 4 12 0) (mf q 5 11 0) then conflictAt 4 s
      else ok { s with str := { s.str with
        pool := (pairsOf ws).zipIdx.foldl (fun p e => tset (0, 0) p (mf q 4 12 0 + e.2) e.1) s.str.pool } } := by
  refine (needBulk_ok h.fixed h.bulk (by simp [h.first, h.count, h.least, h.most, h.inPool])).trans ?_
  rw [h.entries]

/-- The words of a meter record are in range: rates and sizes in bytes, or in frames where bit 30 says so (R253). -/
structure StreamMeterFits (q : Req) : Prop where
  length : q.args.length = 6
  index : only (mw q 4) [(11, 0)] = true
  flags : only (mw q 5) [(31, 27)] = true
  cir : (mw q 6).toNat ≤ (if bit (mw q 5) 30 then 16777215 else 3125000000)
  cbs : (mw q 7).toNat ≤ (if bit (mw q 5) 30 then 65535 else 2147483647)
  pir : (mw q 8).toNat ≤ (if bit (mw q 5) 30 then 16777215 else 3125000000)
  order : (mw q 6).toNat ≤ (mw q 8).toNat
  pbs : (mw q 9).toNat ≤ (if bit (mw q 5) 30 then 65535 else 2147483647)

theorem flag_drop_one (q : Req) (i b : Nat) : flag (q.args.drop 1) i b = bit (mw q (i + 5)) b := by rw [flag, rw_drop_one]

theorem streamMeterPut_valid {q : Req} (s : State) (h : StreamMeterFits q) :
    streamMeterPut q s = stageChecked 5 (.meter (mf q 4 11 0) (q.args.drop 1)) s := by
  refine need_ok h.length ?_
  simp only [flag_drop_one, rw_drop_one]
  simp [h.index, h.flags, h.cir, h.cbs, h.pir, h.order, h.pbs]

/-! ### FRER, its words being in range (R259, R261) -/

theorem streamGenerationPut_valid {q : Req} (s : State) (hlen : q.args.length = 2) (h4 : only (mw q 4) [(9, 0)] = true)
    (h5 : only (mw q 5) [(31, 30), (15, 0)] = true) :
    streamGenerationPut q s = stageChecked 5 (.generation (mf q 4 9 0) (q.args.drop 1)) s := need_ok hlen (by simp [h4, h5])

/-- The words of a recovery record are in range; with the match algorithm any HISTORY is (R261; log entry 68). -/
structure StreamRecoveryFits (q : Req) : Prop where
  length : q.args.length = 4
  index : only (mw q 4) [(9, 0)] = true
  flags : only (mw q 5) [(31, 15)] = true
  history : bit (mw q 5) 30 = true ∨ (2 ≤ rvHistory (q.args.drop 1) ∧ rvHistory (q.args.drop 1) ≤ 32)
  pathsLow : 2 ≤ mf q 5 18 15
  pathsHigh : mf q 5 18 15 ≤ 8
  reset : 1 ≤ mf q 6 31 16
  testPeriod : 1 ≤ mf q 7 31 16
  resetPeriod : 1 ≤ mf q 7 15 0
  order : mf q 7 31 16 ≤ mf q 7 15 0

theorem streamRecoveryPut_valid {q : Req} (s : State) (h : StreamRecoveryFits q) :
    streamRecoveryPut q s = stageChecked 5 (.recovery (mf q 4 9 0) (q.args.drop 1)) s := by
  refine need_ok h.length ?_
  simp only [flag_drop_one, rw_drop_one, fld_drop_one]
  simp [-List.drop_one, h.index, h.flags, h.history, h.pathsLow, h.pathsHigh, h.reset, h.testPeriod, h.resetPeriod, h.order]

/-! ### Clearing and status, their words being in range (R245, R252, R256, R265 to R267) -/

/-- What a clear does to the object that its KIND and index name (R245, R252, R256, R265). -/
def latchCleared (kind i : Nat) (s : State) : State :=
  match kind with
  | 0 => setFilter i { filterOf s i with blocked := (filterOf s i).blocked && decide ((filterOf s i).blockedAt = some s.time.now) } s
  | 1 => setSgate i { sgateOf s i with latched := (sgateOf s i).latched && decide ((sgateOf s i).latchedAt = some s.time.now) } s
  | 2 =>
    let m := meterOf s i
    if m.markRed = true ∧ m.redAt ≠ some s.time.now then setMeter i { m with markRed := false, unmarked := some s.time.now } s else s
  | _ => setRcv i { rcvOf s i with latent := (rcvOf s i).latent && decide ((rcvOf s i).latentAt = some s.time.now) } s

/-- A clear of an object that there is acts on its latch. -/
theorem streamClearLatch_valid {q : Req} {k : Nat} (s : State) (hlen : q.args.length = 1) (h4 : only (mw q 4) [(31, 29), (11, 0)] = true)
    (hk : mf q 4 31 29 = k) (hkind : k ≤ 3) (hgate : k = 1 → mf q 4 11 0 < 2048) (hrcv : k = 3 → mf q 4 11 0 < 1024) :
    streamClearLatch q s = ok (latchCleared k (mf q 4 11 0) s) := by
  refine (need_ok hlen ?_).trans ?_
  · rw [hk]
    simpa [h4, hkind] using ⟨Decidable.not_or_of_imp hgate, Decidable.not_or_of_imp hrcv⟩
  · rw [hk]
    simp only [Bool.and_eq_true, decide_eq_true_eq]
    rfl

theorem streamFilterStat_valid {q : Req} (s : State) (hlen : q.args.length = 1) (h4 : only (mw q 4) [(11, 0)] = true) :
    streamFilterStat q s = okWith (filterStatus s (mf q 4 11 0)) (if q.clear then clearFilter (mf q 4 11 0) s else s) := need_ok hlen (by simp [h4])

theorem streamFrerStat_valid {q : Req} (s : State) (hlen : q.args.length = 1) (h4 : only (mw q 4) [(25, 16), (9, 0)] = true) :
    streamFrerStat q s =
      let g := genOf s (mf q 4 9 0)
      let r := rcvOf s (mf q 4 25 16)
      okWith [packW [(16, g.seq), (16, r.r)], packW [(1, b2n r.takeAny), (1, b2n r.latent), (30, 0)], word g.generated, word r.passed, word r.dup,
          word r.ooo, word r.oooDiscard, word r.rogue, word r.lost, word r.tagless, word r.resets]
        (if q.clear then
          setRcv (mf q 4 25 16) { r with passed := 0, dup := 0, ooo := 0, oooDiscard := 0, rogue := 0, lost := 0, tagless := 0, resets := 0 }
            (setGen (mf q 4 9 0) { g with generated := 0 } s)
        else s) := need_ok hlen (by simp [h4])

/-- Settles O13: each STREAM request in range stages its record, writes, clears or answers as its rule says, or is refused for the conflict that it meets. -/
theorem streamRequestsTakeEffect : Obligations.StreamRequestsTakeEffect := by
  unfold Obligations.StreamRequestsTakeEffect
  refine ⟨?profile, ?profileUsed, ?idWrite, ?idFull, ?idTwin, ?idDelete, ?handle, fun n => ?handleBroken, ?filter, fun n => ?filterBroken, ?gateBroken, ?gate,
    ?gateBusy, ?pool, ?poolUsed, ?meterBroken, ?meter, ?generation, ?recovery, ?generationBroken, ?recoveryBroken, ?clearFilter, ?clearGate, ?clearMeter,
    ?clearRecovery, ?filterStatus, ?frerStatus⟩
  case profile =>
    refine stages_of streamProfile (fun _ _ _ => rfl) fun q e ⟨hlen, h4, hfree⟩ => (streamProfile_valid e hlen h4).trans (if_neg ?_)
    rintro ⟨hchange, hused⟩
    exact hfree.elim hchange fun hnone => Bool.false_ne_true (hnone.symm.trans hused)
  case profileUsed =>
    exact refuses_of streamProfile (fun _ _ _ => rfl) fun q e ⟨hlen, h4, hchange, hused⟩ =>
      (streamProfile_valid e hlen h4).trans (if_pos ⟨hchange, hused⟩)
  case idWrite =>
    refine stages_of streamIdPut (fun _ _ _ => rfl) fun q e ⟨hlen, hchecks, hplace, (htwin : identTwin q e = false)⟩ => ?_
    obtain ⟨k, (hk : identPlace (projected e) (bucketOf q e) (identLong q) = some k)⟩ := Option.isSome_iff_exists.mp hplace
    change _ = (Answer.stage (.streamId ((identPlace (projected e) (bucketOf q e) (identLong q)).getD 0) q.args)
      [word ((identPlace (projected e) (bucketOf q e) (identLong q)).getD 0)], e)
    rw [streamIdPut_valid e hlen hchecks, hk, htwin]
    rfl
  case idFull =>
    refine refuses_of streamIdPut (fun _ _ _ => rfl) fun q e ⟨hlen, hchecks, (hfull : identPlace (projected e) (bucketOf q e) (identLong q) = none)⟩ => ?_
    rw [streamIdPut_valid e hlen hchecks, hfull]
    rfl
  case idTwin =>
    refine refuses_of streamIdPut (fun _ _ _ => rfl) fun q e ⟨hlen, hchecks, hplace, (htwin : identTwin q e = true)⟩ => ?_
    obtain ⟨k, (hk : identPlace (projected e) (bucketOf q e) (identLong q) = some k)⟩ := Option.isSome_iff_exists.mp hplace
    rw [streamIdPut_valid e hlen hchecks, hk, htwin]
    rfl
  case idDelete => exact stages_of streamIdDrop (fun _ _ _ => rfl) fun q e ⟨hlen, h4⟩ => streamIdDrop_valid e hlen h4
  case handle =>
    exact stages_of streamHandlePut (fun _ _ _ => rfl) fun q e ⟨hlen, h4, h5, h6, hrefs⟩ =>
      (streamHandlePut_valid e hlen h4 h5 h6).trans (stageChecked_of_kept hrefs)
  case handleBroken =>
    exact refuses_of streamHandlePut (fun _ _ _ => rfl) fun q e ⟨hlen, h4, h5, h6, hrefs, hn⟩ =>
      (streamHandlePut_valid e hlen h4 h5 h6).trans (hn ▸ stageChecked_of_broken hrefs)
  case filter =>
    exact stages_of streamFilterPut (fun _ _ _ => rfl) fun q e ⟨hlen, h4, h5, hsdu, h6, hrefs⟩ =>
      (streamFilterPut_valid e hlen h4 h5 hsdu h6).trans (stageChecked_of_kept hrefs)
  case filterBroken =>
    exact refuses_of streamFilterPut (fun _ _ _ => rfl) fun q e ⟨hlen, h4, h5, hsdu, h6, hrefs, hn⟩ =>
      (streamFilterPut_valid e hlen h4 h5 hsdu h6).trans (hn ▸ stageChecked_of_broken hrefs)
  case gateBroken =>
    refine refuses_of streamGatePut (fun _ _ _ => rfl) fun q e ⟨hlen, h4, hn, hpool, hbase, hlow, hhigh, hidle, hrefs⟩ => ?_
    rw [streamGatePut_valid e ⟨hlen, h4, hn, hpool, hbase, hlow, hhigh⟩, hidle, hrefs]
    rfl
  case gate =>
    refine stages_of streamGatePut (fun _ _ _ => rfl) fun q e ⟨hlen, h4, hn, hpool, hbase, hlow, hhigh, hidle, hrefs⟩ => ?_
    rw [streamGatePut_valid e ⟨hlen, h4, hn, hpool, hbase, hlow, hhigh⟩, if_neg (by simp [hidle]), if_pos hrefs]
    rfl
  case gateBusy =>
    exact refuses_of streamGatePut (fun _ _ _ => rfl) fun q e ⟨hlen, h4, hn, hpool, hbase, hlow, hhigh, hbusy⟩ =>
      (streamGatePut_valid e ⟨hlen, h4, hn, hpool, hbase, hlow, hhigh⟩).trans (if_pos hbusy)
  case pool =>
    refine gives_of streamPool (fun _ _ _ => rfl) fun q e ⟨ws, hfixed, hbulk, h4, h5, hsome, hmost, hin, hentries, hfree⟩ => ?_
    rw [streamPool_valid ⟨hfixed, hbulk, h4, h5, hsome, hmost, hin, hentries⟩, hfree, hbulk]
    rfl
  case poolUsed =>
    exact refuses_of streamPool (fun _ _ _ => rfl) fun q e ⟨ws, hfixed, hbulk, h4, h5, hsome, hmost, hin, hentries, hused⟩ =>
      (streamPool_valid ⟨hfixed, hbulk, h4, h5, hsome, hmost, hin, hentries⟩).trans (if_pos hused)
  case meterBroken =>
    exact refuses_of streamMeterPut (fun _ _ _ => rfl) fun q e ⟨hlen, h4, h5, hcir, hcbs, hpir, horder, hpbs, hrefs⟩ =>
      (streamMeterPut_valid e ⟨hlen, h4, h5, hcir, hcbs, hpir, horder, hpbs⟩).trans (stageChecked_of_broken hrefs)
  case meter =>
    exact stages_of streamMeterPut (fun _ _ _ => rfl) fun q e ⟨hlen, h4, h5, hcir, hcbs, hpir, horder, hpbs, hrefs⟩ =>
      (streamMeterPut_valid e ⟨hlen, h4, h5, hcir, hcbs, hpir, horder, hpbs⟩).trans (stageChecked_of_kept hrefs)
  case generation =>
    exact stages_of streamGenerationPut (fun _ _ _ => rfl) fun q e ⟨hlen, h4, h5, hrefs⟩ =>
      (streamGenerationPut_valid e hlen h4 h5).trans (stageChecked_of_kept hrefs)
  case recovery =>
    exact stages_of streamRecoveryPut (fun _ _ _ => rfl) fun q e ⟨hlen, h4, h5, hhist, hlow, hhigh, hreset, htest, hperiod, horder, hrefs⟩ =>
      (streamRecoveryPut_valid e ⟨hlen, h4, h5, hhist, hlow, hhigh, hreset, htest, hperiod, horder⟩).trans (stageChecked_of_kept hrefs)
  case generationBroken =>
    exact refuses_of streamGenerationPut (fun _ _ _ => rfl) fun q e ⟨hlen, h4, h5, hrefs⟩ =>
      (streamGenerationPut_valid e hlen h4 h5).trans (stageChecked_of_broken hrefs)
  case recoveryBroken =>
    exact refuses_of streamRecoveryPut (fun _ _ _ => rfl) fun q e ⟨hlen, h4, h5, hhist, hlow, hhigh, hreset, htest, hperiod, horder, hrefs⟩ =>
      (streamRecoveryPut_valid e ⟨hlen, h4, h5, hhist, hlow, hhigh, hreset, htest, hperiod, horder⟩).trans (stageChecked_of_broken hrefs)
  case clearFilter =>
    exact gives_of streamClearLatch (fun _ _ _ => rfl) fun q e ⟨hlen, h4, hk⟩ => streamClearLatch_valid e hlen h4 hk (by decide) nofun nofun
  case clearGate =>
    exact gives_of streamClearLatch (fun _ _ _ => rfl) fun q e ⟨hlen, h4, hk, hi⟩ =>
      streamClearLatch_valid e hlen h4 hk (by decide) (fun _ => hi) nofun
  case clearMeter =>
    exact gives_of streamClearLatch (fun _ _ _ => rfl) fun q e ⟨hlen, h4, hk⟩ => streamClearLatch_valid e hlen h4 hk (by decide) nofun nofun
  case clearRecovery =>
    exact gives_of streamClearLatch (fun _ _ _ => rfl) fun q e ⟨hlen, h4, hk, hi⟩ =>
      streamClearLatch_valid e hlen h4 hk (by decide) nofun (fun _ => hi)
  case filterStatus => exact gives_of streamFilterStat (fun _ _ _ => rfl) fun q e ⟨hlen, h4⟩ => streamFilterStat_valid e hlen h4
  case frerStatus => exact gives_of streamFrerStat (fun _ _ _ => rfl) fun q e ⟨hlen, h4⟩ => streamFrerStat_valid e hlen h4

end Sys2Proof.Machine
end

section
/-!
PROOFS. Frames through the pipeline and onto the line, gates, holds and launch instants (R145, R147, R184, R186, R203, R210 to R216, R226 to R231, R414).
-/
namespace Sys2Proof.Machine
open Sys2Proof Sys2Proof.Safety

/-! ### Reception (R184, R190, R191, R414) -/

/-- A part of a frame reaches stage 1 of a port in UP, unless it starts a frame of a port with MACsec (R134, R184). -/
theorem cellArrives_of_up {s : State} {n : Nat} {b : Bytes} {sof : Bool} {eof : Option Bool} (hn : n < 28) (hclear : sof = true → secyOn s n = false)
    (hup : portUp s n = true) : cellArrives n b sof eof s = rxCell n b sof eof s := by
  refine if_neg ?_
  cases sof with
  | false => simp [hn, hup]
  | true => simp [hn, hup, hclear rfl]

/-- A whole frame of a port with MACsec is dropped under the first reason that applies, else it goes to the Latent memory of the port (R190, R191, R414). -/
theorem verifyFrame_of_secured {s : State} {n : Nat} (b : Bytes) {rx : RxEnd} (hn : n < 28) (hsecy : flag (secyAt s n (s.time.now - rx.held)) 0 26 = true)
    (hup : portUp s n = true) :
    verifyFrame n b rx s =
      let u := plcaHeard n (s.time.now - rx.held) s
      if b.length < 64 ∨ 9248 < b.length ∨ rx.fcsOk = false then
        stage1Drop n (if b.length < 64 then 0x01 else if 9248 < b.length then 0x03 else 0x02) (ingressStamp s n rx.held) b u
      else latentOrWait n (secyAt s n (s.time.now - rx.held)) (ingressStamp s n rx.held) b u := by
  have hport : ¬ (decide (28 ≤ n) || !flag (secyAt s n (s.time.now - rx.held)) 0 26 || !portUp s n) = true := by simp [hn, hsecy, hup]
  refine (if_neg hport).trans ?_
  by_cases hshort : b.length < 64
  · simp only [hshort, if_true, true_or]
  · by_cases hlong : 9248 < b.length
    · simp only [hshort, hlong, if_true, if_false, true_or, or_true]
    · cases hfcs : rx.fcsOk <;> simp [hshort, hlong]

/-- A frame whose Latent memory is free is decided at once: it enters stage 1, or is counted and dropped as 0x04 (R414). -/
theorem latentOrWait_of_free {s : State} {n : Nat} (yr : Rec) (x : Int) (b : Bytes) (h : tget 0 s.ciph.scrub n ≤ s.time.now) :
    latentOrWait n yr x b s = latentTakes n yr x b s := if_neg (Nat.not_lt.mpr h)

/-- A frame whose Latent memory is being scrubbed waits for the end of the scrub (R416). -/
theorem latentOrWait_of_scrubbed {s : State} {n : Nat} (yr : Rec) (x : Int) (b : Bytes) (h : s.time.now < tget 0 s.ciph.scrub n) :
    latentOrWait n yr x b s = giveWayTo (tget 0 s.ciph.scrub n) (.verify n yr x b) s := if_pos h

/-! ### The pipeline (R145, R147, R149, R241) -/

/-- A frame may pass stages 2 to 7: its parser window is in, and the earlier frames of its port have passed (R145, R147, R149). -/
structure Classifiable (s : State) (f : Nat) (v : Frame) : Prop where
  held : v.gone = false
  given : v.waits = false
  new : v.classified = false
  ready : v.ready ≤ s.time.now
  window : v.whole = true ∨ 256 ≤ v.bytes.length
  first : earlierOf s f v.port (fun w => !w.classified && !w.gone) = false

theorem Classifiable.classifiable {s : State} {f : Nat} {v : Frame} (h : Classifiable s f v) : classifiable s f v = true := by
  simp [Machine.classifiable, h.held, h.given, h.new, h.ready, h.window, h.first]

/-- A frame that does not come behind one of a higher port passes stages 2 to 7 in this cycle (R241). -/
theorem runClassify_of_turn {s : State} {f : Nat} {v : Frame} (hv : frameOf s f = some v) (hc : Classifiable s f v) (hturn : outOfTurn s v.port = false) :
    runClassify f s =
      let r := classify v (refillNow s)
      setFrame f (some r.1) (if r.1.handle.isSome = true then acted v.port r.2 else r.2) := by
  simp only [runClassify, hv, hc.classifiable, hturn, Bool.and_false, Bool.false_eq_true, if_true, if_false]

/-- A frame with a handle that comes behind one of a higher port passes them in the next cycle (R241; log entry 115). -/
theorem runClassify_of_outOfTurn {s : State} {f : Nat} {v : Frame} (hv : frameOf s f = some v) (hc : Classifiable s f v)
    (hturn : outOfTurn s v.port = true) (hhandle : (classify v (refillNow s)).1.handle.isSome = true) :
    runClassify f s =
      let r := classify v (refillNow (s.atTime (s.time.now + 1)))
      setFrame f (some r.1) (acted v.port r.2) := by
  simp only [runClassify, hv, hc.classifiable, hturn, hhandle, Bool.and_self, if_true]

/-- A frame that is whole passes stage 8 in the order of its port (R145, R147). -/
theorem runEnqueue_of_whole {s : State} {f : Nat} {v : Frame} (hv : frameOf s f = some v) (hclass : v.classified = true) (hwhole : v.whole = true)
    (hrefs : v.refs = 0) (hfirst : earlierOf s f v.port (fun w => w.refs = 0 && !w.gone) = false) :
    runEnqueue f s =
      firstKeepAlives (stage8 f v (refillNow
        (if v.handle.isSome = true then acted v.port (if outOfTurn s v.port = true then s.atTime (s.time.now + 1) else s) else s))) := by
  simp only [runEnqueue, hv, hclass, hwhole, hrefs, hfirst, decide_true, Bool.not_false, Bool.and_self, if_true]

/-! ### Starts (R203, R226, R228) -/

/-- The choice of an express frame; a class that stands preempted has none (R203, R226). -/
def chooseExpress (p : Nat) (e : State) : Option Nat × State := choose p true (classes.filter (fun c => preemptedClass e p ≠ some c)) e

/-- The scheduler of a port may choose: the port is UP, forwarding runs, and its segment lets it transmit (R39, R127, R364). -/
structure MayChoose (p : Nat) (e : State) : Prop where
  up : portUp e p = true
  forwards : fwdOff e = false
  transmits : mayTransmit e p = true

theorem MayChoose.not_stopped {p : Nat} {e : State} (h : MayChoose p e) : ¬ (!portUp e p || fwdOff e || !mayTransmit e p) = true := by
  simp [h.up, h.forwards, h.transmits]

/-- The line of a port can take a frame (R203). -/
structure LineFree (p : Nat) (e : State) : Prop where
  idle : (egressOf e p).sending = none
  ended : (egressOf e p).free ≤ e.time.now

/-- A choice that finds a class, or none, leaves its state beside it. -/
theorem choice_of_fst {x : Option Nat × State} {o : Option Nat} (h : x.1 = o) : x = (o, x.2) := Prod.ext h rfl

/-! In these, e is the port as its scheduler finds it: what it turned away has been dropped, the tick has come, and a frame that has ended has left. -/

section
variable {p c : Nat} {s e u : State} {d : Sending} (he : txEnd p (refillNow (settleRefused p s)) = e) (hmay : MayChoose p e)
include he hmay

/-- An eligible express frame ends the fragment of a preemptable one on the line (R226). -/
theorem txStart_of_preemptable (hsending : (egressOf e p).sending = some d) (hexp : d.express = false) (hchosen : chooseExpress p e = (some c, u)) :
    txStart p s = endFragment p u := by
  unfold chooseExpress at hchosen
  simp only [txStart, he, if_neg hmay.not_stopped, hsending, hexp, hchosen, Bool.false_eq_true, if_false]

/-- An eligible express frame starts on a line that can take it (R203). -/
theorem txStart_of_express (hfree : LineFree p e) (hchosen : chooseExpress p e = (some c, u)) : txStart p s = startHead p c u := by
  unfold chooseExpress at hchosen
  simp only [txStart, he, if_neg hmay.not_stopped, hfree.idle, if_neg (Nat.not_lt.mpr hfree.ended), hchosen]

/-- Where no express frame is eligible and no hold stands, a preempted frame whose gate is open resumes (R203, R226, R228). -/
theorem txStart_of_preempted {left : Nat} (hfree : LineFree p e) (hchosen : chooseExpress p e = (none, u)) (hhold : holdStands u p = false)
    (hpre : (egressOf u p).preempted = some (d, left)) (hopen : gateOpenAt u p d.cls (wtNow u) = true) : txStart p s = resume p u := by
  unfold chooseExpress at hchosen
  simp only [txStart, he, if_neg hmay.not_stopped, hfree.idle, if_neg (Nat.not_lt.mpr hfree.ended), hchosen, hhold, hpre, hopen, Bool.false_eq_true,
    if_false, if_true]

/-- Where none stands preempted either, an eligible preemptable frame starts (R203, R226). -/
theorem txStart_of_notExpress {v : State} (hfree : LineFree p e) (hchosen : chooseExpress p e = (none, u)) (hhold : holdStands u p = false)
    (hpre : (egressOf u p).preempted = none) (hnext : choose p false classes u = (some c, v)) : txStart p s = startHead p c v := by
  unfold chooseExpress at hchosen
  simp only [txStart, he, if_neg hmay.not_stopped, hfree.idle, if_neg (Nat.not_lt.mpr hfree.ended), hchosen, hhold, hpre, hnext, Bool.false_eq_true,
    if_false]

end

/-- A frame whose last byte has left is off the line, and its reference is released (R186). -/
theorem txEnd_of_done {p : Nat} {s : State} {d : Sending} (hsending : (egressOf (txRelease p s) p).sending = some d)
    (hdone : d.done ≤ (txRelease p s).time.now) :
    txEnd p s = dropSending d (setEgress p { egressOf (txRelease p s) p with sending := none } (txRelease p s)) := by
  simp only [txEnd, hsending, if_pos hdone]

/-! ### Gates and holds (R210, R211, R216, R227) -/

/-- A port without a pending list keeps its list (R210). -/
theorem gateListStart_of_none {s : State} {p : Nat} (h : (egressOf s p).gates.pending = none) : gateListStart p s = s := by
  simp only [gateListStart, gateListAt, h]

/-- A pending list whose start has come is in force (R210). -/
theorem gateListStart_of_due {s : State} {p : Nat} {st : Int} (h : (egressOf s p).gates.pending = some st) (hdue : st ≤ wtNow s) :
    gateListStart p s = setEgress p { egressOf s p with gates := { (egressOf s p).gates with
      force := 1 - (egressOf s p).gates.force, start := st, pending := none, busy := false, ecc := false
      late := (egressOf s p).gates.late && (egressOf s p).gates.pendLate } } s := by
  simp only [gateListStart, gateListAt, h, if_neg (Int.not_lt.mpr hdue)]

/-- A gate entry with OP 2 releases the hold (R227). -/
theorem gateEntryStart_of_release {s : State} {p : Nat} (hpending : (egressOf s p).gates.pending = none) (hen : srGateEn (schedOf s p) = true)
    (hop : gateOpAt s p s.time.now = 2) : gateEntryStart p s = closeCut p (setHold p false s) := by
  simp [gateEntryStart, gateListStart_of_none hpending, hen, hop]

/-- A gate entry with OP 1 asserts the hold; no fragment on the line makes it late (R227). -/
theorem gateEntryStart_of_assert {s : State} {p : Nat} (hpending : (egressOf s p).gates.pending = none) (hen : srGateEn (schedOf s p) = true)
    (hop : gateOpAt s p s.time.now = 1) (hline : (egressOf s p).sending.all (fun d => d.express || decide (d.done ≤ s.time.now)) = true)
    (hcut : (egressOf s p).cutEnd ≤ s.time.now) : gateEntryStart p s = closeCut p (setHold p true s) := by
  cases hd : (egressOf s p).sending with
  | none => simp [gateEntryStart, gateListStart_of_none hpending, hen, hop, hd, Nat.not_lt.mpr hcut]
  | some d =>
    have hover : (!d.express && decide (s.time.now < d.done)) = false := by
      rw [hd] at hline
      rcases (Bool.or_eq_true _ _).mp hline with hexp | hdone
      · simp [hexp]
      · simp [Nat.not_lt.mpr (of_decide_eq_true hdone)]
    simp [gateEntryStart, gateListStart_of_none hpending, hen, hop, hd, hover, Nat.not_lt.mpr hcut]

/-- A head frame that no window of its class can take is dropped after a cycle (R216). -/
theorem starveDrop_of_tooLong {s : State} {p c n : Nat} {r : Replica} {q : List Replica} (hq : queueOf (egressOf s p) c = r :: q)
    (hexp : expressClass s p c = true) (hen : srGateEn (schedOf s p) = true)
    (hwindow : longestWindow (gateBank (egressOf s p).gates (egressOf s p).gates.force) c = some n) (hlong : n < wireTime s p r)
    (hcycle : tget 0 (egressOf s p).headAt c + (gateBank (egressOf s p).gates (egressOf s p).gates.force).cycle ≤ s.time.now) :
    starveDrop p c s = schedEvent p c 0x02 (dropReplica p c 0x16 r (schedCount p (6 + 8 * c) (departed p c q s))) := by
  simp [starveDrop, hq, hexp, hen, hwindow, hlong, hcycle]

/-- A hold is asserted on a port that has verified preemption, and ends the fragment on its line (R225, R227). -/
theorem setHold_true {s : State} {p : Nat} (h : (portOf s p).mergeAct = true) :
    setHold p true s = endFragment p (setEgress p { egressOf s p with hold := true } s) := by
  simp only [setHold, h, Bool.not_true, Bool.false_eq_true, if_false, if_true]

theorem setHold_false {s : State} {p : Nat} (h : (portOf s p).mergeAct = true) : setHold p false s = setEgress p { egressOf s p with hold := false } s := by
  simp only [setHold, h, Bool.not_true, Bool.false_eq_true, if_false]

/-- A head frame whose launch instant has come lets the port choose (R231). -/
theorem launchReached_of_due {s : State} {p c : Nat} {r : Replica} {q : List Replica} {w : Int} (hq : queueOf (egressOf s p) c = r :: q)
    (hlaunch : r.launch = some w) (hdue : heldForLaunch s p c r = false) : launchReached p c s = txStart p s := by
  simp only [launchReached, hq, hlaunch, hdue, Option.isSome_some, Bool.not_false, Bool.and_self, if_true]

/-! ### The commands -/

/-- How a statement of a start follows from the choice of the scheduler: frames of port 28 leave it in another way. -/
theorem does_frameTxStart {p : Nat} {P : State → Prop} {eff : State → State}
    (h : ∀ s, P s → p < 31 ∧ p ≠ 28 ∧ txStart p (boundaryFirst s) = eff s) : Does (fun t => .frameTxStart t p) P eff := by
  refine does_of (fun s => if p < 31 && p ≠ 28 then txStart p (boundaryFirst s) else s) (fun _ _ => rfl) fun s _ hP => ?_
  obtain ⟨hp, hhost, hstart⟩ := h s hP
  exact (if_pos (by simp [hp, hhost])).trans hstart

/-- Settles O27: each part of a frame, each stage, start and end, each gate entry, hold and launch instant does what its rule says. -/
theorem frameEventsTakeEffect : Obligations.FrameEventsTakeEffect := by
  unfold Obligations.FrameEventsTakeEffect
  refine ⟨fun n b sof eof => ?cell, fun n b rx => ?verifyBad, fun n b rx => ?verify, fun n b rx => ?verifyLater, fun f v => ?classify,
    fun f v => ?classifyLater, fun f v => ?enqueue, fun p d => ?cut, fun p c => ?express, fun p d left => ?resumes, fun p c => ?preemptable,
    fun p d => ?ends, fun p st => ?list, fun p => ?release, fun p => ?assert, fun p c r q n => ?starve, fun p => ?holdOn, fun p => ?holdOff,
    fun p c r q w => ?launch⟩
  case cell =>
    exact does_of (fun s => cellArrives n b sof eof (ringsGive (boundaryFirst s))) (fun _ _ => rfl) fun s _ ⟨hn, hclear, hup⟩ =>
      cellArrives_of_up hn hclear hup
  case verifyBad =>
    exact does_of (fun s => verifyFrame n b rx (ringsGive (boundaryFirst s))) (fun _ _ => rfl) fun s _ ⟨hn, hsecy, hup, hbad⟩ =>
      (verifyFrame_of_secured b hn hsecy hup).trans (if_pos hbad)
  case verify =>
    refine does_of (fun s => verifyFrame n b rx (ringsGive (boundaryFirst s))) (fun _ _ => rfl) fun s _ ⟨hn, hsecy, hup, hlow, hhigh, hfcs, hscrub⟩ => ?_
    refine ((verifyFrame_of_secured b hn hsecy hup).trans (if_neg (by simp [hlow, hhigh, hfcs]))).trans ?_
    exact latentOrWait_of_free _ _ _ hscrub
  case verifyLater =>
    refine does_of (fun s => verifyFrame n b rx (ringsGive (boundaryFirst s))) (fun _ _ => rfl) fun s _ ⟨hn, hsecy, hup, hlow, hhigh, hfcs, hscrub⟩ => ?_
    refine ((verifyFrame_of_secured b hn hsecy hup).trans (if_neg (by simp [hlow, hhigh, hfcs]))).trans ?_
    exact latentOrWait_of_scrubbed _ _ _ hscrub
  case classify =>
    exact does_of (fun s => runClassify f (ringsGive (boundaryFirst s))) (fun _ _ => rfl)
      fun s _ ⟨hv, hgone, hwaits, hnew, hready, hwindow, hfirst, hturn⟩ => runClassify_of_turn hv ⟨hgone, hwaits, hnew, hready, hwindow, hfirst⟩ hturn
  case classifyLater =>
    exact does_of (fun s => runClassify f (ringsGive (boundaryFirst s))) (fun _ _ => rfl)
      fun s _ ⟨hv, hgone, hwaits, hnew, hready, hwindow, hfirst, hturn, hhandle⟩ =>
        runClassify_of_outOfTurn hv ⟨hgone, hwaits, hnew, hready, hwindow, hfirst⟩ hturn hhandle
  case enqueue =>
    exact does_of (fun s => runEnqueue f (boundaryFirst s)) (fun _ _ => rfl) fun s _ ⟨hv, hclass, hwhole, hrefs, hfirst⟩ =>
      runEnqueue_of_whole hv hclass hwhole hrefs hfirst
  case cut =>
    refine does_frameTxStart fun s ⟨hp, hhost, hup, hforwards, htransmits, hsending, hexp, hchosen⟩ => ⟨hp, hhost, ?_⟩
    obtain ⟨c, hc⟩ := Option.isSome_iff_exists.mp hchosen
    exact txStart_of_preemptable rfl ⟨hup, hforwards, htransmits⟩ hsending hexp (choice_of_fst hc)
  case express =>
    exact does_frameTxStart fun s ⟨hp, hhost, hup, hforwards, htransmits, hidle, hended, hchosen⟩ =>
      ⟨hp, hhost, txStart_of_express rfl ⟨hup, hforwards, htransmits⟩ ⟨hidle, hended⟩ (choice_of_fst hchosen)⟩
  case resumes =>
    exact does_frameTxStart fun s ⟨hp, hhost, hup, hforwards, htransmits, hidle, hended, hnone, hhold, hpre, hopen⟩ =>
      ⟨hp, hhost, txStart_of_preempted rfl ⟨hup, hforwards, htransmits⟩ ⟨hidle, hended⟩ (choice_of_fst hnone) hhold hpre hopen⟩
  case preemptable =>
    exact does_frameTxStart fun s ⟨hp, hhost, hup, hforwards, htransmits, hidle, hended, hnone, hhold, hpre, hnext⟩ =>
      ⟨hp, hhost, txStart_of_notExpress rfl ⟨hup, hforwards, htransmits⟩ ⟨hidle, hended⟩ (choice_of_fst hnone) hhold hpre (choice_of_fst hnext)⟩
  case ends => exact does_of (txEnd p) (fun _ _ => rfl) fun s _ ⟨hsending, hdone⟩ => txEnd_of_done hsending hdone
  case list =>
    exact does_of (fun s => closeCut p (gateListStart p s)) (fun _ _ => rfl) fun s _ ⟨hpending, hdue⟩ =>
      congrArg (closeCut p) (gateListStart_of_due hpending hdue)
  case release =>
    exact does_of (gateEntryStart p) (fun _ _ => rfl) fun s _ ⟨hpending, hen, hop⟩ => gateEntryStart_of_release hpending hen hop
  case assert =>
    exact does_of (gateEntryStart p) (fun _ _ => rfl) fun s _ ⟨hpending, hen, hop, hline, hcut⟩ => gateEntryStart_of_assert hpending hen hop hline hcut
  case starve =>
    refine does_of (fun s => if c < 8 then starveDrop p c s else s) (fun _ _ => rfl) fun s _ ⟨hc, hq, hexp, hen, hwindow, hlong, hcycle⟩ => ?_
    exact (if_pos hc).trans (starveDrop_of_tooLong hq hexp hen hwindow hlong hcycle)
  case holdOn =>
    refine does_of _ (fun t s => (rfl : execMergeHoldAssert t p s = _)) fun s _ ⟨hen, hop, hact⟩ => ?_
    exact (if_pos ((Bool.and_eq_true _ _).mpr ⟨hen, decide_eq_true hop⟩)).trans (setHold_true hact)
  case holdOff =>
    refine does_of _ (fun t s => (rfl : execMergeHoldRelease t p s = _)) fun s _ ⟨hen, hop, hact⟩ => ?_
    exact (if_pos ((Bool.and_eq_true _ _).mpr ⟨hen, decide_eq_true hop⟩)).trans (setHold_false hact)
  case launch =>
    refine does_of (fun s => if c < 8 then launchReached p c s else s) (fun _ _ => rfl) fun s _ ⟨hc, hq, hlaunch, hdue⟩ => ?_
    exact (if_pos hc).trans (launchReached_of_due hq hlaunch hdue)

end Sys2Proof.Machine
end

section
/-!
PROOFS. Ageing, refill, stream gates, FRER timers, the sweep of the tracker and the expiry of a bypass (R171, R219, R249 to R265, R290, R296, R300).
-/
namespace Sys2Proof.Machine
open Sys2Proof Sys2Proof.Safety

/-! ### Refill and stream gates -/

/-- The refill tick of a cycle in which none has been: the shapers, the meters and the tokens of the firewall log (R219, R254, R300). -/
theorem refillNow_of_due {s : State} (hmultiple : s.time.now % 128 = 0) (hfirst : s.str.tickAt ≠ some s.time.now) :
    refillNow s =
      let e := s.egress.foldl (fun e x => portTick x.1 e) { s with str := { s.str with tickAt := some s.time.now } }
      logTick (e.str.meter.foldl (fun e x => meterTick x.1 e) e) :=
  if_neg (by simp [hmultiple, hfirst])

/-- A gate without a pending list keeps its list (R249). -/
theorem sgateListAt_of_none {s : State} {i : Nat} (w : Int) (h : (sgateOf s i).pending = none) : sgateListAt i w s = s := by
  simp only [sgateListAt, h]

/-- A pending list whose start has come is in force, and the octets of its first entry count from 0 (R249, R251). -/
theorem sgateListAt_of_due {s : State} {i : Nat} {w : Int} {l : StreamList} (h : (sgateOf s i).pending = some l) (hstart : l.start ≤ w) :
    sgateListAt i w s = setSgate i { sgateOf s i with
      force := some l, pending := none, busy := false, prev := (sgateOf s i).force, since := s.time.now, octets := (l.start, 0) } s := by
  simp only [sgateListAt, h, if_neg (Int.not_lt.mpr hstart)]

/-- A new occurrence of an entry counts its octets from 0 (R251). -/
theorem sgateEntryStart_of_new {s : State} {i : Nat} (h : (sgateOf s i).pending = none)
    (hnew : (sgateOf s i).octets.1 ≠ (sgateAt s (sgateOf s i) (wtNow s)).2.2.2.2) :
    sgateEntryStart i s = setSgate i { sgateOf s i with octets := ((sgateAt s (sgateOf s i) (wtNow s)).2.2.2.2, 0) } s := by
  simp only [sgateEntryStart, sgateListStart, sgateListAt_of_none _ h, if_neg hnew]

/-! ### FRER timers -/

/-- A recovery function that has passed nothing for RESET_MS takes any number next (R262). -/
theorem frerReset_of_due {s : State} {i st : Nat} (htimer : (rcvOf s i).timer = some st) (hvalid : flag (rcvOf s i).rec0 0 31 = true)
    (hdue : st + fld (rcvOf s i).rec0 1 31 16 * 1000000 ≤ s.time.now) :
    frerReset i s = streamEvent 0x05 i (setRcv i { rcvOf s i with
      takeAny := true, timer := none, expired := some (s.time.now, (rcvOf s i).takeAny), resets := satAdd 32 (rcvOf s i).resets 1 } s) := by
  simp only [frerReset, htimer]
  exact if_pos (by simp [hvalid, hdue])

/-- The latent error difference: the duplicates that the paths should have brought, less those seen (R265). -/
def latentDiff (v : Recovery) : Nat := (((fld v.rec0 0 18 15 : Int) - 1) * v.passedP - v.dupD).natAbs

/-- The latent error test of a function in use latches an error where the difference is above the threshold (R265). -/
theorem latentTest_of_due {s : State} {i : Nat} (hvalid : flag (rcvOf s i).rec0 0 31 = true) (hlatent : flag (rcvOf s i).rec0 0 26 = true)
    (hdue : (rcvOf s i).testAt + fld (rcvOf s i).rec0 2 31 16 * 1000000 ≤ s.time.now) :
    latentTest i s =
      let e := setRcv i { rcvOf s i with testAt := s.time.now } s
      if fld (rcvOf s i).rec0 1 15 0 < latentDiff (rcvOf s i) then
        streamEvent 0x06 i (setRcv i { rcvOf s i with testAt := s.time.now, latent := true, latentAt := some s.time.now } e)
      else e :=
  if_neg (by simp [hvalid, hlatent, hdue])

/-! ### The firewall -/

/-- The sweep of a cycle in which no entry has been refreshed takes a second off each TTL, and removes the entries whose TTL ends (R290). -/
theorem trackerSweepAll_of_untouched {s : State} (h : (fwCycle s).touched = []) :
    trackerSweepAll s =
      let e := fwNote (fun c => { c with swept := s.fw.tracker.filter (fun x => decide (fld x.2 10 31 16 ≤ 1)) }) s
      { e with fw := { e.fw with tracker := tmap [] e.fw.tracker (fun _ r =>
        if fld r 10 31 16 ≤ 1 then [] else r.set 10 (packW [(16, fld r 10 31 16 - 1), (1, 0), (15, trRule r)])) } } := by
  simp only [trackerSweepAll, h, List.contains_nil, Bool.not_false, Bool.true_and, Bool.false_eq_true, if_false, decide_eq_true_eq]

/-- A bypass that stands ends with its event (R296). -/
theorem endBypass_of_mem {s : State} {a b e : Nat} (h : (a, b, e) ∈ s.fw.bypass) :
    endBypass a b s = fwEvent 6 0 { s with fw := { s.fw with bypass := s.fw.bypass.filter (fun x => !(x.1 = a && x.2.1 = b)) } } :=
  if_pos (List.any_eq_true.mpr ⟨_, h, by simp⟩)

/-- Settles O28: each tick, stream gate, FRER timer and firewall timer that is due does what its rule says. -/
theorem tickAndStreamEventsTakeEffect : Obligations.TickAndStreamEventsTakeEffect := by
  unfold Obligations.TickAndStreamEventsTakeEffect
  refine ⟨?ageing, ?refill, fun i l => ?list, fun i => ?entry, fun i st => ?reset, fun i => ?latched, fun i => ?tested, fun i => ?latentReset, ?sweep,
    fun a b e => ?bypass⟩
  case ageing =>
    refine does_of _ (fun t s => (rfl : execAgeingSweep t s = _)) fun s _ ⟨hon, hdue⟩ => ?_
    exact if_pos (by simp [hon, hdue])
  case refill => exact does_of refillNow (fun _ _ => rfl) fun s _ ⟨hmultiple, hfirst⟩ => refillNow_of_due hmultiple hfirst
  case list => exact does_of (sgateListStart i) (fun _ _ => rfl) fun s _ ⟨hpending, hstart⟩ => sgateListAt_of_due hpending hstart
  case entry => exact does_of (sgateEntryStart i) (fun _ _ => rfl) fun s _ ⟨hpending, hnew⟩ => sgateEntryStart_of_new hpending hnew
  case reset => exact does_of (frerReset i) (fun _ _ => rfl) fun s _ ⟨htimer, hvalid, hdue⟩ => frerReset_of_due htimer hvalid hdue
  case latched =>
    exact does_of (latentTest i) (fun _ _ => rfl) fun s _ ⟨hvalid, hlatent, hdue, hover⟩ =>
      (latentTest_of_due hvalid hlatent hdue).trans (if_pos hover)
  case tested =>
    exact does_of (latentTest i) (fun _ _ => rfl) fun s _ ⟨hvalid, hlatent, hdue, hwithin⟩ =>
      (latentTest_of_due hvalid hlatent hdue).trans (if_neg (Nat.not_lt.mpr hwithin))
  case latentReset =>
    refine does_of _ (fun t s => (rfl : execLatentResetTimer t i s = _)) fun s _ ⟨hvalid, hlatent, hdue⟩ => ?_
    exact if_pos (by simp [hvalid, hlatent, hdue])
  case sweep =>
    refine does_of _ (fun t s => (rfl : execTrackerSweep t s = _)) fun s _ ⟨hdue, huntouched⟩ => ?_
    exact (if_pos hdue).trans (trackerSweepAll_of_untouched huntouched)
  case bypass =>
    refine does_of _ (fun t s => (rfl : execBypassExpiry t a b s = _)) fun s _ ⟨hmem, hover⟩ => ?_
    exact (if_pos (List.any_eq_true.mpr ⟨_, hmem, by simp [hover]⟩)).trans (endBypass_of_mem hmem)

end Sys2Proof.Machine
end

section
/-!
PROOFS. The SCHED family of requests: port schedulers, gate lists, shapers, samples and counters (R568).
-/
namespace Sys2Proof.Machine
open Sys2Proof Sys2Proof.Safety

/-! ### The words of a record that is the whole payload -/

theorem rw_args (q : Req) (i : Nat) : rw q.args i = mw q (i + 4) := by rw [mw, Nat.add_sub_cancel]
theorem fld_args (q : Req) (i hi lo : Nat) : fld q.args i hi lo = mf q (i + 4) hi lo := by rw [fld, mf, rw_args]
theorem flag_args (q : Req) (i b : Nat) : flag q.args i b = bit (mw q (i + 4)) b := by rw [flag, rw_args]

/-! ### Port schedulers (R204, R218, R221, R224, R225) -/

/-- The word of a class in a port-scheduler record is in range (R204). -/
def SchedClassFits (q : Req) (c : Nat) : Prop :=
  srAlg q.args c ≠ 3 ∧ (28 ≤ mf q 4 31 27 → srAlg q.args c = 0) ∧ 1 ≤ srQmax q.args c ∧ 1 ≤ srYmax q.args c ∧ srYmax q.args c ≤ srQmax q.args c ∧
    only (rw q.args (3 + c)) [(31, 4)] = true

/-- The words of a port-scheduler record are in range (R204). -/
structure SchedPortFits (q : Req) : Prop where
  length : q.args.length = 11
  port : mf q 4 31 27 ≤ 30
  internal : 28 ≤ mf q 4 31 27 → mf q 4 26 6 = 0
  reserved : bit (mw q 4) 0 = false
  hold : mf q 4 4 1 ≤ 11
  word2 : only (mw q 6) [(31, 16)] = true
  classes : ∀ c < 8, SchedClassFits q c

/-- A port-scheduler record in range is refused at the first class that conflicts; else it is staged, and remembered as the last one accepted (R204). -/
theorem schedPort_valid {q : Req} (s : State) (h : SchedPortFits q) :
    schedPort q s = (schedConflict s q.args).elim
      (stage (.portSched (mf q 4 31 27) q.args) (setEgress (mf q 4 31 27) { egressOf s (mf q 4 31 27) with schedLast := q.args } s))
      (fun n => conflictAt n s) := by
  refine (need_ok h.length fun e he => ?_).trans ?_
  · rcases List.mem_append.mp he with he | he
    · simp only [fld_args, flag_args, rw_args, List.mem_cons, List.not_mem_nil, or_false] at he
      rcases he with rfl | rfl
      · simpa [h.port, h.reserved, h.hold, Decidable.imp_iff_not_or] using h.internal
      · exact h.word2
    · obtain ⟨c, hmem, rfl⟩ := List.mem_map.mp he
      obtain ⟨halg, hinternal, hqmax, hymax, horder, hword⟩ := h.classes c (List.mem_range.mp hmem)
      simpa [fld_args, halg, hqmax, hymax, horder, hword, Decidable.imp_iff_not_or] using hinternal
  · cases schedConflict s q.args with
    | none => rfl
    | some n => rfl

/-! ### Gate lists (R205 to R208, R214) -/

/-- The words of a gate list, and its entries, are in range (R205, R206). -/
structure SchedGatesFit (q : Req) (s : State) (ws : Rec) : Prop where
  fixed : 5 ≤ q.args.length
  bulk : bulkOf 5 q s = some (ws, 8 * mf q 4 26 16)
  port : mf q 4 31 27 < 28
  count : mf q 4 26 16 ≤ 1024
  reserved : mf q 4 7 0 = 0
  staging : mf q 4 26 16 ≠ 0 ∨ q.staged = false
  base : fullOk (q.args.drop 1) = true
  cycleLow : 1000 ≤ (mw q 8).toNat
  cycleHigh : (mw q 8).toNat ≤ 1000000000
  entries : badEntry 5 q gateEntryFault (pairsOf ws) = none

/-- The gate list that a request holds, with the words of its bulk part. -/
def gateListOf (q : Req) (ws : Rec) : GateList :=
  { init := mf q 4 15 8, base := ofFull (q.args.drop 1), cycle := (mw q 8).toNat, entries := (pairsOf ws).map (fun x => (x.1, x.2.toNat)) }

/-- A gate list in range is BUSY while an earlier swap of its port is not done; else it is written into the admin bank (R207, R208). -/
theorem schedGateList_valid {q : Req} {s : State} {ws : Rec} (h : SchedGatesFit q s ws) :
    schedGateList q s =
      let g := (egressOf s (mf q 4 31 27)).gates
      if g.busy = true then busy s
      else ok (setEgress (mf q 4 31 27)
        { egressOf s (mf q 4 31 27) with gates := { setBank (1 - g.force) (gateListOf q ws) g with written := true } } s) := by
  refine (needBulk_ok h.fixed h.bulk ?_).trans ?_
  · have hstaging : (!(decide (mf q 4 26 16 = 0) && q.staged)) = true := by simpa [Decidable.imp_iff_not_or] using h.staging
    simp only [fld_args, rw_args]
    simp [-List.drop_one, h.port, h.count, h.reserved, hstaging, h.base, h.cycleLow, h.cycleHigh]
  · rw [h.entries]
    rfl

/-- A bank that has been written is armed, and its swap staged (R207, R208). -/
theorem schedGateListArm_valid {q : Req} (s : State) (hlen : q.args.length = 1) (h4 : only (mw q 4) [(31, 27)] = true) (hp : mf q 4 31 27 < 28) :
    schedGateListArm q s =
      if (egressOf s (mf q 4 31 27)).gates.written = true then
        stage (.gateSwap (mf q 4 31 27)) (setEgress (mf q 4 31 27)
          { egressOf s (mf q 4 31 27) with gates := { (egressOf s (mf q 4 31 27)).gates with busy := true } } s)
      else conflictAt 4 s := by
  refine (need_ok hlen (by simp [h4, hp])).trans ?_
  simp only [Bool.not_eq_true', ← Bool.not_eq_true, ite_not]

/-- Gate status is answered, and LATE_START cleared under CLEAR (R214). -/
theorem schedGateStatus_valid {q : Req} (s : State) (hlen : q.args.length = 1) (h4 : only (mw q 4) [(4, 0)] = true) (hp : mf q 4 4 0 < 28) :
    schedGateStatus q s = okWith (gateStatus s (mf q 4 4 0))
      (if q.clear then setEgress (mf q 4 4 0) { egressOf s (mf q 4 4 0) with gates := { (egressOf s (mf q 4 4 0)).gates with late := false } } s
      else s) := need_ok hlen (by simp [h4, hp])

/-! ### Shapers, samples and counters (R217, R235, R237) -/

/-- The words of a shaper record are in range, by the algorithm last accepted for its class (R217, R218). -/
structure SchedShaperFits (q : Req) (s : State) : Prop where
  length : q.args.length = 4
  port : mf q 4 31 27 < 28
  reserved : mf q 4 23 0 = 0
  rateLow : 1 ≤ (mw q 5).toNat
  rateHigh : (mw q 5).toNat ≤ 3125000000
  lineRate : (mw q 5).toNat ≤ lineRate s (mf q 4 31 27) * 125000
  high : bit (mw q 6) 31 = false
  low : mw q 7 = 0 ∨ bit (mw q 7) 31 = true
  burst : srAlg (schedAsked s (mf q 4 31 27)) (mf q 4 26 24) = 2 → 84 ≤ (mw q 6).toNat ∧ mw q 7 = 0

/-- A shaper record in range is staged, and remembered as the last one of its class (R217). -/
theorem schedShaper_valid {q : Req} {s : State} (h : SchedShaperFits q s) :
    schedShaper q s = stage (.shaper (mf q 4 31 27) (mf q 4 26 24) q.args)
      (setShaper (mf q 4 31 27) (mf q 4 26 24) { shaperOf s (mf q 4 31 27) (mf q 4 26 24) with last := q.args } s) := by
  refine need_ok h.length ?_
  simp only [fld_args, rw_args, flag_args]
  by_cases halg : srAlg (schedAsked s (mf q 4 31 27)) (mf q 4 26 24) = 2
  · obtain ⟨hburst, hlow⟩ := h.burst halg
    simp [h.port, h.reserved, h.rateLow, h.rateHigh, h.lineRate, h.high, halg, hburst, hlow]
  · simpa [h.port, h.reserved, h.rateLow, h.rateHigh, h.lineRate, h.high, halg] using h.low.symm

/-- The samples of the last Beat are answered (R235). -/
theorem schedSample_valid {q : Req} (s : State) (hlen : q.args.length = 1) (h4 : only (mw q 4) [(4, 0)] = true) (hp : mf q 4 4 0 ≤ 30) :
    schedSample q s = okWith (sampleRecord s (mf q 4 4 0)) s := need_ok hlen (by simp [h4, hp])

/-- The scheduler counters of a port are answered, and return to 0 under CLEAR (R237). -/
theorem schedCounters_valid {q : Req} (s : State) (hlen : q.args.length = 1) (h4 : only (mw q 4) [(4, 0)] = true) (hp : mf q 4 4 0 ≤ 30) :
    schedCounters q s =
      let c := fun w => word (tget 0 (egressOf s (mf q 4 4 0)).counts w)
      okWith ([c 0, c 1, c 2] ++ (List.range 8).flatMap (fun k =>
          (List.range 7).map (fun i => c (3 + 8 * k + i)) ++ [packW [(1, b2n (rateCapped s (mf q 4 4 0) k)), (31, 0)]]))
        (if q.clear then setEgress (mf q 4 4 0) { egressOf s (mf q 4 4 0) with counts := [] } s else s) := need_ok hlen (by simp [h4, hp])

/-- Settles O12: each SCHED request in range stages its record, writes its bank or answers as its rule says, or is refused with CONFLICT or BUSY. -/
theorem schedulerRequestsTakeEffect : Obligations.SchedulerRequestsTakeEffect := by
  unfold Obligations.SchedulerRequestsTakeEffect
  refine ⟨?port, fun n => ?portConflict, ?list, ?listBusy, ?arm, ?armUnwritten, ?status, ?shaper, ?sample, ?counters⟩
  case port =>
    refine stages_of schedPort (fun _ _ _ => rfl) fun q e ⟨hlen, hp, hfar, h0, hhold, h6, hclasses, hfree⟩ => ?_
    rw [schedPort_valid e ⟨hlen, hp, hfar, h0, hhold, h6, hclasses⟩, hfree]
    rfl
  case portConflict =>
    refine refuses_of schedPort (fun _ _ _ => rfl) fun q e ⟨hlen, hp, hfar, h0, hhold, h6, hclasses, hn⟩ => ?_
    rw [schedPort_valid e ⟨hlen, hp, hfar, h0, hhold, h6, hclasses⟩, hn]
    rfl
  case list =>
    refine gives_of schedGateList (fun _ _ _ => rfl) fun q e ⟨ws, hfixed, hbulk, hp, hn, h0, hst, hbase, hlow, hhigh, hentries, hidle⟩ => ?_
    rw [schedGateList_valid ⟨hfixed, hbulk, hp, hn, h0, hst, hbase, hlow, hhigh, hentries⟩, hbulk]
    exact if_neg (by simp [hidle])
  case listBusy =>
    exact refuses_of schedGateList (fun _ _ _ => rfl) fun q e ⟨ws, hfixed, hbulk, hp, hn, h0, hst, hbase, hlow, hhigh, hentries, hbusy⟩ =>
      (schedGateList_valid ⟨hfixed, hbulk, hp, hn, h0, hst, hbase, hlow, hhigh, hentries⟩).trans (if_pos hbusy)
  case arm =>
    exact stages_of schedGateListArm (fun _ _ _ => rfl) fun q e ⟨hlen, h4, hp, hwritten⟩ => (schedGateListArm_valid e hlen h4 hp).trans (if_pos hwritten)
  case armUnwritten =>
    exact refuses_of schedGateListArm (fun _ _ _ => rfl) fun q e ⟨hlen, h4, hp, hwritten⟩ =>
      (schedGateListArm_valid e hlen h4 hp).trans (if_neg (by simp [hwritten]))
  case status => exact gives_of schedGateStatus (fun _ _ _ => rfl) fun q e ⟨hlen, h4, hp⟩ => schedGateStatus_valid e hlen h4 hp
  case shaper =>
    exact stages_of schedShaper (fun _ _ _ => rfl) fun q e ⟨hlen, hp, h0, hlow, hhigh, hline, h6, h7, hburst⟩ =>
      schedShaper_valid ⟨hlen, hp, h0, hlow, hhigh, hline, h6, h7, hburst⟩
  case sample => exact gives_of schedSample (fun _ _ _ => rfl) fun q e ⟨hlen, h4, hp⟩ => schedSample_valid e hlen h4 hp
  case counters => exact gives_of schedCounters (fun _ _ _ => rfl) fun q e ⟨hlen, h4, hp⟩ => schedCounters_valid e hlen h4 hp

end Sys2Proof.Machine
end

section
/-!
PROOFS. A recovery function passes no sequence number twice (R38, R262).
-/
namespace Sys2Proof.Machine
open Sys2Proof Sys2Proof.Safety

/-! ### How a recovery function accepts a number (R262) -/

/-- The distance of a sequence number from the newest accepted one. -/
abbrev seqDistance (fr : Recovery) (n : Nat) : Int := signed 16 (n + 65536 - fr.r)

/-- TAKE_ANY as a frame of cycle now meets it: in the cycle of an expiry, as it was before it. -/
def takesAny (fr : Recovery) (now : Nat) : Bool := match fr.expired.filter (fun e => e.1 = now) with
  | some e => e.2
  | none => fr.takeAny

/-- The state that takes number n in cycle now, before the pass is counted and timed: a case for each branch of R262 that passes. -/
inductive AcceptsNumber (fr : Recovery) (now n : Nat) : Recovery → Prop
  | any : AcceptsNumber fr now n { fr with
      r := n, hist := 1, takeAny := (fr.expired.filter (fun e => e.1 = now)).isSome, expired := fr.expired.map (fun e => (e.1, false)) }
  | new (hany : takesAny fr now = false) (hmatch : flag fr.rec0 0 30 = true) : AcceptsNumber fr now n { fr with r := n }
  | ahead (lost : Nat) (hany : takesAny fr now = false) (hd : 0 < seqDistance fr n) : AcceptsNumber fr now n { fr with
      lost := lost, hist := (fr.hist * 2 ^ (seqDistance fr n).toNat + 1) % 2 ^ rvHistory fr.rec0, r := n }
  | behind (ooo : Nat) (hany : takesAny fr now = false) (hvector : flag fr.rec0 0 30 = false) (hd : seqDistance fr n ≤ 0)
      (hH : -(rvHistory fr.rec0 : Int) < seqDistance fr n) : AcceptsNumber fr now n { fr with
      hist := fr.hist ||| 2 ^ (-seqDistance fr n).toNat, ooo := ooo }

/-- A frame that passed was not discarded by a test on its way. -/
theorem not_of_passes {c : Prop} [Decidable c] {v : Recovery} {x : Bool × Recovery} (h : (if c then (false, v) else x).1 = true) : ¬ c := by
  intro hc
  simp [hc] at h

/-- A frame that passes is accepted by a branch of R262; the pass changes the reset timer and the counts besides. -/
theorem accepts_of_passes {fr : Recovery} {now n : Nat} (h : (recover fr now (some n)).1 = true) :
    ∃ v, AcceptsNumber fr now n v ∧ ∃ timer passedP passed, (recover fr now (some n)).2 = { v with timer := timer, passedP := passedP, passed := passed } := by
  cases hany : takesAny fr now
  case true =>
    have e : recover fr now (some n) = _ := if_pos hany
    exact ⟨_, .any, _, _, _, congrArg Prod.snd e⟩
  case false =>
    cases halg : flag fr.rec0 0 30
    case true =>
      have e : recover fr now (some n) = _ := (if_neg (ne_true_of_eq_false hany)).trans (if_pos halg)
      rw [e] at h ⊢
      have hduplicate := not_of_passes h
      rw [if_neg hduplicate] at h ⊢
      have hlate := not_of_passes h
      rw [if_neg hlate]
      exact ⟨_, .new hany halg, _, _, _, rfl⟩
    case false =>
      have e : recover fr now (some n) = _ := (if_neg (ne_true_of_eq_false hany)).trans (if_neg (ne_true_of_eq_false halg))
      rw [e] at h ⊢
      have hrogue := not_of_passes h
      rw [if_neg hrogue] at h ⊢
      by_cases hd : 0 < seqDistance fr n
      · exact ⟨_, .ahead _ hany hd, _, _, _, congrArg Prod.snd (if_pos hd)⟩
      · rw [if_neg hd] at h ⊢
        have hduplicate := not_of_passes h
        rw [if_neg hduplicate] at h ⊢
        have hlate := not_of_passes h
        rw [if_neg hlate]
        have hH : -(rvHistory fr.rec0 : Int) < seqDistance fr n := by
          simp only [Bool.or_eq_true, decide_eq_true_eq, not_or] at hrogue
          exact Int.not_le.mp hrogue.2
        exact ⟨_, .behind _ hany halg (Int.not_lt.mp hd) hH, _, _, _, rfl⟩

/-! ### An accepted number has been seen -/

/-- Number n is the newest one or, for the vector algorithm, one whose bit is set in the history; a history of length 0 holds none. -/
structure HasSeen (fr : Recovery) (n : Nat) : Prop where
  notAhead : seqDistance fr n ≤ 0
  newest : flag fr.rec0 0 30 = true → seqDistance fr n = 0
  inHistory : flag fr.rec0 0 30 = false → 0 < rvHistory fr.rec0 →
    -(rvHistory fr.rec0 : Int) < seqDistance fr n ∧ fr.hist.testBit (-seqDistance fr n).toNat = true

theorem seqDistance_newest (fr : Recovery) : seqDistance fr fr.r = 0 := by
  rw [seqDistance, Nat.add_sub_cancel_left]
  decide

/-- The newest number has been seen, where bit 0 of the history of a vector function stands for it. -/
theorem hasSeen_newest {fr : Recovery} (hbit : flag fr.rec0 0 30 = false → 0 < rvHistory fr.rec0 → fr.hist.testBit 0 = true) : HasSeen fr fr.r where
  notAhead := Int.le_of_eq (seqDistance_newest fr)
  newest _ := seqDistance_newest fr
  inHistory hvector hH := by simpa [seqDistance_newest, hH] using hbit hvector hH

/-- A history that shifts up and takes a new number has bit 0 set. -/
theorem testBit_zero_shifted (hist k H : Nat) (hk : 0 < k) (hH : 0 < H) : ((hist * 2 ^ k + 1) % 2 ^ H).testBit 0 = true := by
  obtain ⟨j, rfl⟩ : ∃ j, k = j + 1 := ⟨k - 1, by omega⟩
  have heven : hist * 2 ^ (j + 1) = 2 * (hist * 2 ^ j) := by rw [Nat.pow_succ, ← Nat.mul_assoc, Nat.mul_comm]
  rw [Nat.testBit_mod_two_pow, decide_eq_true hH, Bool.true_and, Nat.testBit_zero, heven]
  exact decide_eq_true (by omega)

theorem AcceptsNumber.hasSeen {fr v : Recovery} {now n : Nat} (h : AcceptsNumber fr now n v) : HasSeen v n := by
  cases h with
  | any => exact hasSeen_newest fun _ _ => Nat.testBit_one_zero
  | new _ hmatch => exact hasSeen_newest fun hvector _ => absurd (hmatch.symm.trans hvector) (by decide)
  | ahead _ _ hd => exact hasSeen_newest fun _ hH => testBit_zero_shifted _ _ _ (by omega) hH
  | behind _ _ hvector hd hH =>
    exact ⟨hd, fun hmatch => absurd (hmatch.symm.trans hvector) (by decide), fun _ _ => ⟨hH, by
      change (fr.hist ||| 2 ^ (-seqDistance fr n).toNat).testBit (-seqDistance fr n).toNat = true
      simp⟩⟩

/-- The counts of a pass and its timer leave what has been seen. -/
theorem HasSeen.counted {v : Recovery} {n : Nat} (h : HasSeen v n) (timer : Option Nat) (passedP passed : Nat) :
    HasSeen { v with timer := timer, passedP := passedP, passed := passed } n := ⟨h.notAhead, h.newest, h.inHistory⟩

/-! ### Only an expiry lets a function take any number again -/

theorem takesAny_of_expired {fr : Recovery} {e : Nat × Bool} (t : Nat) (he : fr.expired = some e) :
    takesAny fr t = if e.1 = t then e.2 else fr.takeAny := by
  by_cases h : e.1 = t <;> simp [takesAny, he, Option.filter_some, h]

/-- Outside the cycle of an expiry, TAKE_ANY is as it stands. -/
theorem takesAny_of_no_expiry {fr : Recovery} {t : Nat} (h : ∀ e, fr.expired = some e → e.1 ≠ t) : takesAny fr t = fr.takeAny := by
  cases he : fr.expired with
  | none => simp [takesAny, he]
  | some e => rw [takesAny_of_expired t he, if_neg (h e he)]

theorem AcceptsNumber.takesAny_eq_false {fr v : Recovery} {now later n : Nat} (h : AcceptsNumber fr now n v)
    (hno : ∀ e, fr.expired = some e → later = now ∨ (e.1 ≠ now ∧ e.1 ≠ later)) : takesAny v later = false := by
  have hkeeps (hany : takesAny fr now = false) : takesAny fr later = false := by
    by_cases hsame : later = now
    · rwa [hsame]
    · have hout e (he : fr.expired = some e) := (hno e he).resolve_left hsame
      rwa [takesAny_of_no_expiry fun e he => (hout e he).2, ← takesAny_of_no_expiry fun e he => (hout e he).1]
  cases h with
  | any =>
    cases he : fr.expired with
    | none => rfl
    | some e =>
      have hsame : e.1 = now ↔ e.1 = later := by rcases hno e he with h | h <;> omega
      rw [takesAny_of_expired later rfl]
      by_cases hlater : e.1 = later
      · exact if_pos hlater
      · simp [Option.filter_some, hsame, hlater]
  | new hany => exact hkeeps hany
  | ahead _ hany => exact hkeeps hany
  | behind _ hany => exact hkeeps hany

/-- A number that has been seen is discarded: as a duplicate, or as out of range by a vector function whose history holds nothing (R262). -/
theorem recover_of_hasSeen {fr : Recovery} {now n : Nat} (hany : takesAny fr now = false) (h : HasSeen fr n) :
    (recover fr now (some n)).1 = false ∧
    ((0 < rvHistory fr.rec0 ∨ flag fr.rec0 0 30 = true) → (recover fr now (some n)).2.dup = satAdd 32 fr.dup 1) ∧
    (recover fr now (some n)).2.passed = fr.passed := by
  obtain ⟨hbehind, hnewest, hhist⟩ := h
  cases halg : flag fr.rec0 0 30
  case true =>
    have e : recover fr now (some n) = _ := (if_neg (ne_true_of_eq_false hany)).trans ((if_pos halg).trans (if_pos (hnewest halg)))
    rw [e]
    exact ⟨rfl, fun _ => rfl, rfl⟩
  case false =>
    have e : recover fr now (some n) = _ := (if_neg (ne_true_of_eq_false hany)).trans (if_neg (ne_true_of_eq_false halg))
    rcases Nat.eq_zero_or_pos (rvHistory fr.rec0) with hH | hH
    · have hrogue := e.trans (if_pos (by simp only [Bool.or_eq_true, decide_eq_true_eq]; omega))
      rw [hrogue]
      exact ⟨rfl, by simp [hH], rfl⟩
    · obtain ⟨hlow, hbit⟩ := hhist halg hH
      unfold seqDistance at hbehind hlow
      have hdup := e.trans ((if_neg (by simp only [Bool.or_eq_true, decide_eq_true_eq]; omega)).trans ((if_neg (Int.not_lt.mpr hbehind)).trans (if_pos hbit)))
      rw [hdup]
      exact ⟨rfl, fun _ => rfl, rfl⟩

/-- Settles O54: a pass leaves its number seen and no right to take any number, and such a function discards the number. -/
theorem recoveryNeverPassesTwice : Obligations.RecoveryNeverPassesTwice := by
  unfold Obligations.RecoveryNeverPassesTwice
  intro fr now later n _ hno hpass
  obtain ⟨v, haccepts, timer, passedP, passed, hv⟩ := accepts_of_passes hpass
  have hrec : (recover fr now (some n)).2.rec0 = fr.rec0 := by rw [hv]; cases haccepts <;> rfl
  have hseen : HasSeen (recover fr now (some n)).2 n := by rw [hv]; exact haccepts.hasSeen.counted timer passedP passed
  have hany : takesAny (recover fr now (some n)).2 later = false := by rw [hv]; exact haccepts.takesAny_eq_false hno
  rw [← hrec]
  exact recover_of_hasSeen hany hseen

end Sys2Proof.Machine
end

section
/-!
PROOFS. A meter that counts bytes bounds what passes it (R239, R240, R254 to R256).
-/
namespace Sys2Proof.Machine
open Sys2Proof Sys2Proof.Safety

/-! ### Filters and meters, read after a write or an event -/

@[simp] theorem filterOf_setFilter (i : Nat) (f : Filter) (s : State) : filterOf (setFilter i f s) i = f := tget_tset_same _ _ _ _
@[simp] theorem filterOf_setMeter (i j : Nat) (m : Meter) (s : State) : filterOf (setMeter j m s) i = filterOf s i := rfl
@[simp] theorem meterOf_setMeter (i : Nat) (m : Meter) (s : State) : meterOf (setMeter i m s) i = m := tget_tset_same _ _ _ _
@[simp] theorem meterOf_setFilter (i j : Nat) (f : Filter) (s : State) : meterOf (setFilter j f s) i = meterOf s i := rfl
@[simp] theorem handleOf_setFilter (i k : Nat) (f : Filter) (s : State) : handleOf (setFilter i f s) k = handleOf s k := rfl
@[simp] theorem handleOf_setMeter (i k : Nat) (m : Meter) (s : State) : handleOf (setMeter i m s) k = handleOf s k := rfl

@[simp] theorem streamEvent_str (cause obj : Nat) (s : State) : (streamEvent cause obj s).str = s.str := by
  rw [streamEvent, systemEventD, raiseEvent_frame]
@[simp] theorem streamEvent_fwd (cause obj : Nat) (s : State) : (streamEvent cause obj s).fwd = s.fwd := by
  rw [streamEvent, systemEventD, raiseEvent_frame]
@[simp] theorem filterOf_streamEvent (cause obj i : Nat) (s : State) : filterOf (streamEvent cause obj s) i = filterOf s i := by simp [filterOf]
@[simp] theorem meterOf_streamEvent (cause obj i : Nat) (s : State) : meterOf (streamEvent cause obj s) i = meterOf s i := by simp [meterOf]
@[simp] theorem handleOf_streamEvent (cause obj k : Nat) (s : State) : handleOf (streamEvent cause obj s) k = handleOf s k := by simp [handleOf]

/-! ### What a frame and a tick do to the bucket -/

/-- Frames of handle h pass filter i, which sends them to meter m; the meter counts bytes, refills its peak bucket at a rate, and has no released record. -/
structure Metered (h i m rate : Nat) (s : State) : Prop where
  index : filterIndex s (some h) = some i
  enabled : fiMeterEn (filterOf s i).rec0 = true
  meter : fiMeter (filterOf s i).rec0 = m
  bytes : flag (meterOf s m).rec0 0 30 = false
  released : (meterOf s m).released = none
  rate : (rw (meterOf s m).rec0 3).toNat = rate

/-- u has the handle, the filter and the meter of s, but for their counts, flags and buckets. -/
structure KeepsRecords (h i m : Nat) (s u : State) : Prop where
  handle : handleOf u h = handleOf s h
  filter : (filterOf u i).rec0 = (filterOf s i).rec0
  meter : (meterOf u m).rec0 = (meterOf s m).rec0
  released : (meterOf u m).released = (meterOf s m).released

theorem KeepsRecords.refl (h i m : Nat) (s : State) : KeepsRecords h i m s s := ⟨rfl, rfl, rfl, rfl⟩

theorem keepsRecords_setMeter {h i m : Nat} {v : Meter} {s : State} (hrec : v.rec0 = (meterOf s m).rec0) (hreleased : v.released = (meterOf s m).released) :
    KeepsRecords h i m s (setMeter m v s) where
  handle := handleOf_setMeter _ _ _ _
  filter := congrArg Filter.rec0 (filterOf_setMeter _ _ _ _)
  meter := (congrArg Meter.rec0 (meterOf_setMeter _ _ _)).trans hrec
  released := (congrArg Meter.released (meterOf_setMeter _ _ _)).trans hreleased

theorem KeepsRecords.setFilter {h i m : Nat} {f : Filter} {s u : State} (hu : KeepsRecords h i m s u) (hrec : f.rec0 = (filterOf u i).rec0) :
    KeepsRecords h i m s (setFilter i f u) where
  handle := (handleOf_setFilter _ _ _ _).trans hu.handle
  filter := (congrArg Filter.rec0 (filterOf_setFilter _ _ _)).trans (hrec.trans hu.filter)
  meter := (congrArg Meter.rec0 (meterOf_setFilter _ _ _ _)).trans hu.meter
  released := (congrArg Meter.released (meterOf_setFilter _ _ _ _)).trans hu.released

theorem KeepsRecords.streamEvent {h i m cause obj : Nat} {s u : State} (hu : KeepsRecords h i m s u) : KeepsRecords h i m s (streamEvent cause obj u) where
  handle := (handleOf_streamEvent _ _ _ _).trans hu.handle
  filter := (congrArg Filter.rec0 (filterOf_streamEvent _ _ _ _)).trans hu.filter
  meter := (congrArg Meter.rec0 (meterOf_streamEvent _ _ _ _)).trans hu.meter
  released := (congrArg Meter.released (meterOf_streamEvent _ _ _ _)).trans hu.released

theorem Metered.of_keepsRecords {h i m rate : Nat} {s u : State} (hs : Metered h i m rate s) (hu : KeepsRecords h i m s u) : Metered h i m rate u where
  index := by simpa only [filterIndex, hu.handle] using hs.index
  enabled := hu.filter ▸ hs.enabled
  meter := hu.filter ▸ hs.meter
  bytes := hu.meter ▸ hs.bytes
  released := hu.released.trans hs.released
  rate := hu.meter ▸ hs.rate

/-- A frame keeps the records and fills no bucket, and one that passes has taken its bytes from the peak bucket (R239, R240, R255, R256). -/
theorem filterSteps_of_metered {h i m rate len : Nat} {dei : Bool} {s : State} (hs : Metered h i m rate s) :
    KeepsRecords h i m s (filterSteps len (some h) none dei s).2.2 ∧ (meterOf (filterSteps len (some h) none dei s).2.2 m).tp ≤ (meterOf s m).tp ∧
    ((filterSteps len (some h) none dei s).1 = none →
      (meterOf (filterSteps len (some h) none dei s).2.2 m).tp + len * 16777216 ≤ (meterOf s m).tp) := by
  obtain ⟨hindex, hmeterEn, hm, hbytes, -, -⟩ := hs
  generalize hr : filterSteps len (some h) none dei s = r
  simp only [filterSteps, hindex, hmeterEn, hm, hbytes, Bool.not_true, Bool.false_eq_true, if_false] at hr
  split at hr
  -- A frame longer than the filter takes (R240, step 1) does not reach the meter.
  case isTrue =>
    subst hr
    have hkeeps {f : Filter} (hrec : f.rec0 = (filterOf s i).rec0) : KeepsRecords h i m s (setFilter i f s) := (KeepsRecords.refl h i m s).setFilter hrec
    split
    · exact ⟨(hkeeps (by rfl)).streamEvent, by simp only [meterOf_streamEvent, meterOf_setFilter, Nat.le_refl], nofun⟩
    · exact ⟨hkeeps (by rfl), by simp only [meterOf_setFilter, Nat.le_refl], nofun⟩
  case isFalse =>
    split at hr
    -- A red frame is dropped, and charges nothing (R256).
    case isTrue =>
      subst hr
      split
      · exact ⟨(keepsRecords_setMeter (by rfl) (by rfl)).streamEvent, by simp only [meterOf_streamEvent, meterOf_setMeter, Nat.le_refl], nofun⟩
      · exact ⟨keepsRecords_setMeter (by rfl) (by rfl), by simp only [meterOf_setMeter, Nat.le_refl], nofun⟩
    case isFalse hred =>
      have hfits : len * 16777216 ≤ (meterOf s m).tp := by
        simp only [Bool.or_eq_true, decide_eq_true_eq, not_or] at hred
        exact Nat.not_lt.mp hred.2
      have hpaid : (meterOf s m).tp - len * 16777216 + len * 16777216 ≤ (meterOf s m).tp := Nat.le_of_eq (Nat.sub_add_cancel hfits)
      split at hr
      -- A green frame passes; a yellow one passes too unless DROP_YELLOW is set, and both charge the peak bucket (R255, R256).
      case isTrue =>
        subst hr
        refine ⟨(keepsRecords_setMeter (by rfl) (by rfl)).setFilter (by rfl), ?_⟩
        simp only [meterOf_setFilter, meterOf_setMeter]
        exact ⟨Nat.sub_le _ _, fun _ => hpaid⟩
      case isFalse =>
        split at hr
        case isTrue =>
          subst hr
          refine ⟨keepsRecords_setMeter (by rfl) (by rfl), ?_⟩
          simp only [meterOf_setMeter]
          exact ⟨Nat.sub_le _ _, nofun⟩
        case isFalse =>
          subst hr
          refine ⟨(keepsRecords_setMeter (by rfl) (by rfl)).setFilter (by rfl), ?_⟩
          simp only [meterOf_setFilter, meterOf_setMeter]
          exact ⟨Nat.sub_le _ _, fun _ => hpaid⟩

/-- A tick keeps the records of a meter without a released one, and adds at most a refill to its peak bucket (R254). -/
theorem meterTick_of_metered {h i m rate : Nat} {s : State} (hs : Metered h i m rate s) :
    KeepsRecords h i m s (meterTick m s) ∧ (meterOf (meterTick m s) m).tp ≤ (meterOf s m).tp + refill rate := by
  simp only [meterTick, hs.released, hs.rate]
  refine ⟨keepsRecords_setMeter rfl hs.released.symm, ?_⟩
  simp only [meterOf_setMeter]
  exact Nat.min_le_left _ _

/-- After a tick, neither bucket exceeds its burst (R254). -/
theorem meterTick_capped (m : Nat) (s : State) :
    (meterOf (meterTick m s) m).tp ≤ (rw (meterOf (meterTick m s) m).rec0 4).toNat * 16777216 ∧
    (meterOf (meterTick m s) m).tc ≤ (rw (meterOf (meterTick m s) m).rec0 2).toNat * 16777216 := by
  simp only [meterTick, meterOf_setMeter]
  exact ⟨Nat.min_le_right _ _, Nat.min_le_right _ _⟩

/-- A frame's bytes and those of the frames behind it, where the bucket held both. -/
theorem charges_add {len passed unit before left refills : Nat} (hframe : left + len * unit ≤ before) (hrest : passed * unit ≤ left + refills) :
    (passed + len) * unit ≤ before + refills := by
  rw [Nat.add_mul]
  omega

/-- The bytes that pass have been in the peak bucket at the start or came with a tick. -/
theorem offered_bounded {h i m rate : Nat} (l : List (Option Nat)) (s : State) (hs : Metered h i m rate s) :
    (Safety.offered h m l s).1 * 16777216 ≤ (meterOf s m).tp + (l.filter (fun e => e.isNone)).length * refill rate := by
  induction l generalizing s with
  | nil => simp [Safety.offered]
  | cons e l ih =>
    cases e with
    | none =>
      obtain ⟨hkeeps, htp⟩ := meterTick_of_metered hs
      have hrest := ih _ (hs.of_keepsRecords hkeeps)
      simp only [Safety.offered, List.filter_cons, Option.isNone_none, if_true, List.length_cons, Nat.succ_mul]
      omega
    | some len =>
      obtain ⟨hkeeps, htp, hpaid⟩ := filterSteps_of_metered (len := len) (dei := false) hs
      have hrest := ih _ (hs.of_keepsRecords hkeeps)
      simp only [Safety.offered, List.filter_cons, Option.isNone_some, Bool.false_eq_true, if_false]
      by_cases hpass : (filterSteps len (some h) none false s).1 = none
      · rw [if_pos hpass]
        exact charges_add (hpaid hpass) hrest
      · rw [if_neg hpass]
        exact Nat.le_trans hrest (Nat.add_le_add_right htp _)

/-- Settles O55, by induction on the frames and ticks. -/
theorem metersBoundWhatPasses : Obligations.MetersBoundWhatPasses := by
  unfold Obligations.MetersBoundWhatPasses
  refine ⟨fun h i m s l hindex henabled hmeter hbytes hreleased => ?_, meterTick_capped⟩
  exact offered_bounded l s ⟨hindex, henabled, hmeter, hbytes, hreleased, rfl⟩

end Sys2Proof.Machine
end

section
/-!
PROOFS. Which firewall entry decides (R273, R275, R280, R282, R283, R653, R659).
-/
namespace Sys2Proof.Machine
open Sys2Proof Sys2Proof.Safety

/-! ### The classes of entries, and the verdict as the choice among them -/

/-- The candidates that can decide: those that do not only count (R283). -/
def deciders (s : State) (bank src : Nat) (k : FwKeys) (z : Nat) : List (Nat × Rec) := (candidates s bank src k z).filter (fun e => ruAction e.2 ≠ 4)

/-- The types of exact keys, the one that prevails first (R283). -/
def keyOrder : List Nat := [5, 3, 2, 4, 0, 1]

/-- An exact entry with a key of a type. -/
def isExact (t : Nat) (e : Nat × Rec) : Bool := e.1 < 30720 && ruKtype e.2 = t

/-- A ternary entry that overrides the exact ones, and one that does not. -/
def isOverride (e : Nat × Rec) : Bool := 30720 ≤ e.1 && ruOverride e.2
def isOtherTernary (e : Nat × Rec) : Bool := 30720 ≤ e.1 && !ruOverride e.2

/-- The exact entry that prevails among some entries. -/
def exactPrevailing (c : List (Nat × Rec)) : Option (Nat × Rec) := keyOrder.findSome? (fun t => c.find? (isExact t))

/-- The entry that prevails among some entries. -/
def prevailing (c : List (Nat × Rec)) : Option (Nat × Rec) := (c.find? isOverride).or ((exactPrevailing c).or (c.find? isOtherTernary))

/-- An entry awaits its rewrite, or awaited it in this cycle (R653, R659). -/
def awaitsRewrite (s : State) (e : Nat × Rec) : Bool := s.fw.bad.contains e.1 || (fwCycle s).bad.contains e.1

/-- What decides, where entry e prevails, or none does (R283). -/
def decidedBy (otherwise : Verdict) : Option (Nat × Rec) → Verdict
  | some e => .rule e.1 e.2
  | none => otherwise

theorem verdict_eq (s : State) (bank src : Nat) (k : FwKeys) (z : Nat) :
    verdict s bank src k z = if (deciders s bank src k z).any (awaitsRewrite s) then .dflt false
      else decidedBy (.dflt (src = z && !intraRules s bank src)) (prevailing (deciders s bank src k z)) := rfl

theorem mem_candidates {s : State} {bank src z : Nat} {k : FwKeys} {e : Nat × Rec} :
    e ∈ candidates s bank src k z ↔ e ∈ (fwCycle s).rule ∧ covers bank src z e.2 = true ∧ ruleMatches k e.1 e.2 = true := by
  simp [candidates]

theorem mem_deciders {s : State} {bank src z : Nat} {k : FwKeys} {e : Nat × Rec} :
    e ∈ deciders s bank src k z ↔ e ∈ candidates s bank src k z ∧ ruAction e.2 ≠ 4 := by
  simp [deciders]

/-- An entry decides only where no decider awaits its rewrite, and it is the one that prevails. -/
theorem prevailing_of_verdict_rule {s : State} {bank src z i : Nat} {k : FwKeys} {r : Rec} (h : verdict s bank src k z = .rule i r) :
    prevailing (deciders s bank src k z) = some (i, r) := by
  rw [verdict_eq] at h
  split at h
  · exact absurd h nofun
  · cases hp : prevailing (deciders s bank src k z) with
    | none => exact absurd (hp ▸ h) nofun
    | some e =>
      rw [hp] at h
      obtain ⟨rfl, rfl⟩ := Verdict.rule.inj h
      rfl

/-! ### The order of key types (R283) -/

theorem mem_keyOrder {t : Nat} (h : t < 6) : t ∈ keyOrder := by
  revert t
  decide

/-- The first type of the order that gives an entry stands before every other type that gives one. -/
theorem idxOf_le_of_findSome? {α : Type} {f : Nat → Option α} {a : α} {l : List Nat} (h : l.findSome? f = some a) :
    ∃ t, f t = some a ∧ ∀ u ∈ l, f u ≠ none → l.idxOf t ≤ l.idxOf u := by
  obtain ⟨before, t, after, rfl, ht, hnone⟩ := List.findSome?_eq_some_iff.mp h
  have hnotin {u : Nat} (hu : f u ≠ none) : u ∉ before := fun hmem => hu (hnone u hmem)
  refine ⟨t, ht, fun u _ hu => ?_⟩
  rw [List.idxOf_append, List.idxOf_append, if_neg (hnotin (ht ▸ Option.some_ne_none a)), if_neg (hnotin hu), List.idxOf_cons_self]
  omega

/-- An exact entry prevails over those of its own type and of the types behind it. -/
theorem exactPrevailing_first {c : List (Nat × Rec)} {e : Nat × Rec} (h : exactPrevailing c = some e) :
    e ∈ c ∧ e.1 < 30720 ∧ ∀ x ∈ c, x.1 < 30720 → ruKtype x.2 < 6 → keyOrder.idxOf (ruKtype e.2) ≤ keyOrder.idxOf (ruKtype x.2) := by
  obtain ⟨t, ht, hfirst⟩ := idxOf_le_of_findSome? h
  have hexact : isExact t e = true := List.find?_some ht
  obtain ⟨hlow, rfl⟩ : e.1 < 30720 ∧ ruKtype e.2 = t := by simpa [isExact] using hexact
  refine ⟨List.mem_of_find?_eq_some ht, hlow, fun x hx hxlow hxtype => hfirst _ (mem_keyOrder hxtype) fun hnone => ?_⟩
  exact List.find?_eq_none.mp hnone x hx (by simp [isExact, hxlow])

/-- Where no exact entry prevails, there is none with a key type of the order. -/
theorem exactPrevailing_none {c : List (Nat × Rec)} (h : exactPrevailing c = none) {x : Nat × Rec} (hx : x ∈ c) (hlow : x.1 < 30720) :
    ¬ ruKtype x.2 < 6 := fun htype =>
  List.find?_eq_none.mp (List.findSome?_eq_none_iff.mp h _ (mem_keyOrder htype)) x hx (by simp [isExact, hlow])

/-! ### The entry that prevails (R283) -/

/-- An entry e prevails over the entries c, by R283: an override entry over all, an exact one over those that do not override, by the order of its key type. -/
structure Prevails (c : List (Nat × Rec)) (e : Nat × Rec) : Prop where
  mem : e ∈ c
  override : ∀ x ∈ c, 30720 ≤ x.1 → ruOverride x.2 = true → 30720 ≤ e.1 ∧ ruOverride e.2 = true
  exact : ∀ x ∈ c, x.1 < 30720 → ruKtype x.2 < 6 → 30720 ≤ e.1 → ruOverride e.2 = true
  order : ∀ x ∈ c, x.1 < 30720 → e.1 < 30720 → ruKtype x.2 < 6 → keyOrder.idxOf (ruKtype e.2) ≤ keyOrder.idxOf (ruKtype x.2)

theorem prevails_of_prevailing {c : List (Nat × Rec)} {e : Nat × Rec} (h : prevailing c = some e) : Prevails c e := by
  rcases Option.or_eq_some_iff.mp h with hover | ⟨hnone, hrest⟩
  · obtain ⟨hhigh, hflag⟩ : 30720 ≤ e.1 ∧ ruOverride e.2 = true := by simpa [isOverride] using List.find?_some hover
    exact {
      mem := List.mem_of_find?_eq_some hover
      override := fun _ _ _ _ => ⟨hhigh, hflag⟩
      exact := fun _ _ _ _ _ => hflag
      order := fun _ _ _ hlow _ => absurd hhigh (Nat.not_le.mpr hlow) }
  · have hoverride {x : Nat × Rec} (hx : x ∈ c) (hhigh : 30720 ≤ x.1) : ruOverride x.2 ≠ true := fun hflag =>
      List.find?_eq_none.mp hnone x hx (by simp [isOverride, hhigh, hflag])
    rcases Option.or_eq_some_iff.mp hrest with hexact | ⟨hnoExact, hother⟩
    · obtain ⟨hmem, hlow, hfirst⟩ := exactPrevailing_first hexact
      exact {
        mem := hmem
        override := fun _ hx hhigh hflag => absurd hflag (hoverride hx hhigh)
        exact := fun _ _ _ _ hhigh => absurd hhigh (Nat.not_le.mpr hlow)
        order := fun x hx hxlow _ => hfirst x hx hxlow }
    · obtain ⟨hhigh, -⟩ : 30720 ≤ e.1 ∧ ruOverride e.2 = false := by simpa [isOtherTernary] using List.find?_some hother
      exact {
        mem := List.mem_of_find?_eq_some hother
        override := fun _ hx hhigh' hflag => absurd hflag (hoverride hx hhigh')
        exact := fun _ hx hxlow htype => absurd htype (exactPrevailing_none hnoExact hx hxlow)
        order := fun _ _ _ hlow => absurd hhigh (Nat.not_le.mpr hlow) }

/-! ### No entry decides -/

/-- Where every candidate only counts, the default of the pair applies (R273, R283). -/
theorem verdict_of_no_decider {s : State} {bank src z : Nat} {k : FwKeys} (h : ∀ e, e ∈ candidates s bank src k z → ruAction e.2 = 4) :
    verdict s bank src k z = .dflt (src = z && !intraRules s bank src) := by
  have hnone : deciders s bank src k z = [] := List.eq_nil_iff_forall_not_mem.mpr fun e he => (mem_deciders.mp he).2 (h e (mem_deciders.mp he).1)
  rw [verdict_eq, hnone]
  rfl

/-- A decider that awaits its rewrite, or did in this cycle, denies (R653, R659). -/
theorem verdict_of_awaiting {s : State} {bank src z : Nat} {k : FwKeys} {e : Nat × Rec} (he : e ∈ deciders s bank src k z)
    (hbad : e.1 ∈ s.fw.bad ∨ e.1 ∈ (fwCycle s).bad) : verdict s bank src k z = .dflt false := by
  rw [verdict_eq]
  exact if_pos (List.any_eq_true.mpr ⟨e, he, by simpa [awaitsRewrite] using hbad⟩)

/-- Settles O56: the deciding entry is the one that prevails among the candidates that do not only count. -/
theorem firewallEntriesPrevailInOrder : Obligations.FirewallEntriesPrevailInOrder := by
  unfold Obligations.FirewallEntriesPrevailInOrder
  refine ⟨fun s bank src k z i r hrule => ?decides, fun s bank src k z hcount => verdict_of_no_decider hcount,
    fun s bank src k z e he hact hbad => verdict_of_awaiting (mem_deciders.mpr ⟨he, hact⟩) hbad⟩
  case decides =>
    obtain ⟨hmem, hoverride, hexact, horder⟩ := prevails_of_prevailing (prevailing_of_verdict_rule hrule)
    obtain ⟨hcandidate, hact⟩ := mem_deciders.mp hmem
    obtain ⟨hrules, hcovers, hmatches⟩ := mem_candidates.mp hcandidate
    refine ⟨hrules, hcovers, hmatches, hact, fun e he heact => ?_⟩
    have hdecider : e ∈ deciders s bank src k z := mem_deciders.mpr ⟨he, heact⟩
    exact ⟨hoverride e hdecider, hexact e hdecider, horder e hdecider⟩

end Sys2Proof.Machine
end

section
/-!
PROOFS. A bypass command that waits for the known-answer tests (R297, R420), and why the statement of the FILT requests fails for it.
-/
namespace Sys2Proof.Machine
open Sys2Proof Sys2Proof.Safety

/-- A request that waits for the known-answer tests of a start stays in its ring, and nothing changes (R420). -/
theorem serve_of_testsWait {op : Nat} {h : Req → State → Reply} {q : Req} {s : State} (hwait : testsWait op q s = true) : serve op h q s = s :=
  if_pos (by simp only [hwait, Bool.or_true])

/-- The command of a request that waits ends in the state that it finds. -/
theorem request_of_testsWait {t op : Nat} {h : Req → State → Reply} {q : Req} {s : State} (hwait : testsWait op q (acting t s) = true) :
    request t op h q s = ends s (acting t s) := by
  change ends s (if coreOn (acting t s) = true then serve op h q (acting t s) else acting t s) = _
  rw [serve_of_testsWait hwait, ite_self]

/-- A command that ends in two states leaves the same mailboxes in both. -/
theorem boxOf_eq_of_ends_eq {s u v : State} (h : ends s u = ends s v) (m : Nat) : boxOf u m = boxOf v m := by
  injection h with hstates
  have hbox := congrArg (boxOf · m) hstates
  exact hbox

/-- The mailboxes after an answer are those after its message: its record in the Contact Sheet is no part of them. -/
theorem boxOf_answer (op : Nat) (q : Req) (final : Bool) (status : Nat) (payload : Rec) (s : State) (m : Nat) :
    boxOf (answer op q final status payload s) m =
      boxOf (postMessage q.mbx (message s 2 op q.seq (versionOf s q.mbx).1 (versionOf s q.mbx).2 final false status payload) s) m := by
  rw [answer, respond, mbxRecord, csPush_frame]
  rfl

/-- BYPASS_LOCK is set in a device that serves mailbox 0 under version 2.3, before the known-answer tests of its start have passed. -/
def lockedBeforeTests : State :=
  { State.reset with
    sys := { State.reset.sys with fw := { State.reset.sys.fw with boot := .served } }
    mbx := { State.reset.mbx with box := [(0, { state := 1, verMaj := 2, verMin := 3 })] }
    cs := {}
    regs := [(rFW_STAT, 0x80000000)] }

/-- A bypass command in its authenticated form, the next request of mailbox 0. -/
def sealedBypass : Req := { mbx := 0, seq := 1, args := [0x84400E10], auth := some ⟨1, [0, 0, 0, 0]⟩ }

/-- The command waits for the tests, and the mailbox acknowledges nothing. -/
theorem sealedBypass_waits : exec (.filtBypass 0 sealedBypass) lockedBeforeTests = ends lockedBeforeTests (acting 0 lockedBeforeTests) :=
  request_of_testsWait (h := filtBypassPair) (by decide)

/-- Refutes O14, in its clause on BYPASS_LOCK. The clause has every bypass command answered LOCKED at once. The model lets an authenticated request wait in
its ring until the known-answer tests of the start have passed (R420), and looks at the lock only when the mailbox takes the request; the clause lacks the
premise that the other clauses have as Taken.tested. On lockedBeforeTests the command of sealedBypass is not acknowledged, where the clause has acknowledged and answered it. -/
theorem not_firewallRequestsTakeEffect : ¬ Obligations.FirewallRequestsTakeEffect := by
  unfold Obligations.FirewallRequestsTakeEffect
  rintro ⟨-, -, -, -, -, -, -, -, -, -, -, -, -, -, -, -, -, -, -, -, hlocked, -⟩
  have hsaid := hlocked 0 sealedBypass lockedBeforeTests (by decide) (by decide) (by decide) (by decide) (by decide) (by decide) (by decide) (by decide)
    (by decide) (by decide)
  have hbox := boxOf_eq_of_ends_eq (sealedBypass_waits.symm.trans hsaid) 0
  rw [boxOf_answer] at hbox
  exact absurd (congrArg Mailbox.ack hbox) (by decide)

end Sys2Proof.Machine
end

section
/-!
PROOFS. The events of the CAN buses (R307 to R319, R329, R331, R354).
-/
namespace Sys2Proof.Machine
open Sys2Proof Sys2Proof.Safety

/-- How a statement about a command of a bus that the device has follows from its effect. -/
theorem does_of_bus {c : Nat → Instr} {P : State → Prop} {eff : State → State} {b n : Nat} (f : State → State) (hb : b < n)
    (hc : ∀ t s, exec (c t) s = act t (fun s => if b < n then f s else s) s) (hr : ∀ s, P s → f s = eff s) : Does c P eff :=
  does_of _ hc fun s _ hp => (if_pos hb).trans (hr s hp)

/-! ### Frames received (R305, R307, R309, R316, R331) -/

/-- A frame received well lowers REC by one, down to 0 (R316). -/
theorem recDown_of_active {r : Nat} (s : State) (h : r ≤ 127) : recDown r s = (r - 1, s) := by
  unfold recDown
  by_cases h0 : r = 0
  · rw [if_pos h0, h0]
  · rw [if_neg h0, if_pos h]

/-- A controller that takes part, is not bus-off and has the format receives the frame, and leaves it to the engine at the end of the cycle. -/
theorem canRx_of_taken {s : State} {b sof : Nat} {f : CanFrame}
    (hpart : canTakesPart s b (canRecAt (canOf s b) sof).1 (canRecAt (canOf s b) sof).2 = true) (hon : (canOf s b).busOff = false)
    (hproto : protoHas (canRecAt (canOf s b) sof).1 f.format = true) (hrec : (canOf s b).rec1 ≤ 127) :
    canRx b f sof s = giveWay (.frame { src := b, f := f, bus := b, stamp := sof })
      (gatewayTrigger b f (firstKeepAlives (observeCan b f (canCount b 2 (setErr b (canOf s b).tec ((canOf s b).rec1 - 1) s))))) := by
  refine (if_neg (by simp [hpart, hon, hproto])).trans ?_
  simp only [recDown_of_active s hrec]

/-- A frame of a tunnel, or of a bus that the device owns, goes to the engine (R331). -/
theorem frameArrives_of_owned {g : GwFrame} {s : State} (h : 24 ≤ g.src ∨ owns s g.src = true) : frameArrives g s = engine g s := if_pos (by simpa using h)

/-! ### Transmission (R311, R313, R315, R316, R319, R354) -/

/-- A controller that may send starts the slot that it offers: its lateness and its attempt are counted, and the frame is on the bus (R311, R313). -/
theorem canTxStart_of_offered {s : State} {b i : Nat} {x : CanSlot} (hlive : canLive s b = true) (hmode : canModeNow s b = 1)
    (hon : (canOf s b).busOff = false) (hidle : (canOf s b).sending = none) (hoffered : offered s b = some (i, x)) :
    canTxStart b s =
      let e := countCanLate b i x s
      emit (.can s.time.now b x.out.f) (setCan b { canOf e b with
        sending := some (i, s.time.now)
        slots := tset none (canOf e b).slots i (some { (tget none (canOf e b).slots i).getD x with tries := x.tries + 1 }) } e) := by
  unfold canTxStart
  simp only [hlive, hmode, hon, hidle, hoffered, Bool.not_true, ne_eq, not_true_eq_false, decide_false, Bool.or_self, Option.isSome_none, Bool.false_eq_true,
    if_false]

/-- How late a slot was at the SOF of its frame, in ns (R313). -/
def latenessAt (s : State) (sof : Nat) (x : CanSlot) : Nat := match x.out.launch with | some w => ((wtOf s sof - w) / 65536).toNat | none => 0

/-- A frame sent lowers TEC, is counted, and ends its slot with its lateness (R316, R319). -/
theorem canTxDone_of_sending {s : State} {b i sof : Nat} {x : CanSlot} (hsending : (canOf s b).sending = some (i, sof))
    (hslot : tget none (canOf s b).slots i = some x) :
    canTxDone b s = slotEnds b i x 0 (latenessAt s sof x) sof
      (canCount b 3 (setErr b ((canOf s b).tec - 1) (canOf s b).rec1 s)) := by
  simp only [canTxDone, hsending, hslot]
  rfl

/-- The state in which an error met while sending leaves the controller: counted, TEC raised, and no frame on the bus (R315, R316). -/
def sendingFailed (b : Nat) (k : CanErr) (s : State) : State :=
  let e := tecUp b k (countErr b k s)
  setCan b { canOf e b with sending := none } e

/-- Below the limit the slot keeps its frame for a retry (R315). -/
theorem canTxFailed_of_retry {s : State} {b i sof : Nat} {k : CanErr} (hsending : (canOf s b).sending = some (i, sof))
    (hretry : ∀ x, tget none (canOf (tecUp b k (countErr b k s)) b).slots i = some x →
      x.abort = false ∧ (fld (canOf s b).rec0 0 13 6 = 0 ∨ x.tries < fld (canOf s b).rec0 0 13 6)) :
    canTxFailed b k s = sendingFailed b k s := by
  simp only [canTxFailed, hsending]
  cases hslot : tget none (canOf (tecUp b k (countErr b k s)) b).slots i with
  | none => rfl
  | some x =>
    obtain ⟨habort, hlimit⟩ := hretry x hslot
    have hbelow : ¬ (fld (canOf s b).rec0 0 13 6 ≠ 0 ∧ fld (canOf s b).rec0 0 13 6 ≤ x.tries) := by omega
    simp only [habort, Bool.false_eq_true, if_false, Bool.and_eq_true, decide_eq_true_eq, hbelow]
    rfl

/-- At the limit the slot ends, its frame dropped (R315). -/
theorem canTxFailed_of_limit {s : State} {b i sof : Nat} {k : CanErr} {x : CanSlot} (hsending : (canOf s b).sending = some (i, sof))
    (hslot : tget none (canOf (tecUp b k (countErr b k s)) b).slots i = some x) (habort : x.abort = false) (hlimited : fld (canOf s b).rec0 0 13 6 ≠ 0)
    (hreached : fld (canOf s b).rec0 0 13 6 ≤ x.tries) :
    canTxFailed b k s = slotEnds b i x 0x09 0 s.time.now (canEvent b 2 0 (canCount b 13 (gwDrop b 0x09 (sendingFailed b k s)))) := by
  simp only [canTxFailed, hsending, hslot, habort, Bool.false_eq_true, if_false, Bool.and_eq_true, decide_eq_true_eq]
  exact if_pos ⟨hlimited, hreached⟩

/-- An error in reception is counted, and raises REC to 128 at most (R316). -/
theorem canRxFailed_of_live {s : State} {b : Nat} {k : CanErr} (hlive : canLive s b = true) (hon : (canOf s b).busOff = false) :
    canRxFailed b k s =
      let e := countErr b k s
      setErr b (canOf e b).tec (min 128 ((canOf e b).rec1 + recStep k)) e := if_neg (by simp [hlive, hon])

/-! ### Bus-off and MAX_AGE (R315 to R317) -/

/-- The end of a recovery clears bus-off and both counters (R316, R317). -/
theorem busOffEnds_of_recovering {s : State} {b : Nat} (hoff : (canOf s b).busOff = true) (hrecovering : (canOf s b).recovering = true) :
    busOffEnds b s = canEvent b 0 0 (setCan b { canOf s b with busOff := false, recovering := false, tec := 0, rec1 := 0 } s) :=
  if_pos (by simp [hoff, hrecovering])

/-- A frame that has not started within MAX_AGE of its place, and of its launch instant where it has one, is dropped and counted (R315). -/
theorem slotStale_of_old {s : State} {b i : Nat} {x : CanSlot} (hslot : tget none (canOf s b).slots i = some x) (hmax : x.out.maxAge ≠ 0)
    (htries : x.tries = 0) (hplaced : x.placed + x.out.maxAge * 1000 ≤ s.time.now)
    (hlaunch : ∀ w, x.out.launch = some w → w + (x.out.maxAge * 1000 : Nat) * wtNs ≤ wtNow s) :
    slotStale b i s = slotEnds b i x 0x08 0 s.time.now (canEvent b 2 0 (canCount b 12 (gwDrop b 0x08 s))) := by
  simp only [slotStale, hslot]
  refine if_neg ?_
  cases h : x.out.launch with
  | none => simp [hmax, htries, hplaced]
  | some w => simpa [hmax, htries, hplaced] using hlaunch w h

/-- A frame that has started does not age (R315, R354). -/
theorem slotStale_of_started {s : State} {b i : Nat} {x : CanSlot} (hslot : tget none (canOf s b).slots i = some x) (htries : 0 < x.tries) :
    slotStale b i s = s := by
  simp only [slotStale, hslot]
  exact if_pos (by simp [htries])

/-! ### Records and integration (R307) -/

/-- A record that waits comes into force once no frame is on the bus (R307). -/
theorem canApply_of_waiting {s : State} {b : Nat} {r : Rec} (hnext : (canOf s b).next = some r) (hidle : (canOf s b).sending = none) :
    canApply b s =
      let e := discardSlots b 0x04 s
      setCan b { canOf e b with
        rec0 := r, next := none, prev := some ((canOf s b).rec0, (canOf s b).integ, s.time.now), integ := decide (fld r 0 26 25 ≠ 0)
        boEnd := boEndUnder (canOf s b) r s.time.now } e := by
  simp only [canApply, hnext, hidle, Option.isSome_none, Bool.false_eq_true, if_false]

/-- A controller that was integrating takes part, and its segment is AWAKE where it was waking (R307, R378). -/
theorem canIntegrated_of_integrating {s : State} {b : Nat} (h : (canOf s b).integ = true) :
    canIntegrated b s =
      if (segOf s (28 + b)).state = 4 then segAwake (28 + b) (setCan b { canOf s b with integ := false } s)
      else setCan b { canOf s b with integ := false } s := by
  simp only [canIntegrated, h, Bool.not_true, Bool.false_eq_true, if_false]
  rfl

/-- Settles O34: each event of a CAN bus does what its rule says. -/
theorem canEventsTakeEffect : Obligations.CanEventsTakeEffect := by
  unfold Obligations.CanEventsTakeEffect
  refine ⟨fun b f sof hb => ?valid, fun g s => frameArrives_of_owned, fun b i x hb => ?start, fun b i sof x hb => ?complete, fun b i sof k hb => ?retry,
    fun b i sof k x hb => ?limit, fun b k hb => ?rxError, fun b e => ?boDelay, fun b => ?recovered, fun b i => ?maxAge,
    fun b i x s => slotStale_of_old, fun b i x s => slotStale_of_started, fun b r => ?apply, fun b hb => ?integrated, fun b hb => ?awake⟩
  case valid => exact does_of_bus (canRx b f sof) hb (fun _ _ => rfl) fun s ⟨hpart, hon, hproto, hrec⟩ => canRx_of_taken hpart hon hproto hrec
  case start =>
    exact does_of_bus (canTxStart b) hb (fun _ _ => rfl) fun s ⟨hlive, hmode, hon, hidle, hoffered⟩ =>
      canTxStart_of_offered hlive hmode hon hidle hoffered
  case complete => exact does_of_bus (canTxDone b) hb (fun _ _ => rfl) fun s ⟨hsending, hslot⟩ => canTxDone_of_sending hsending hslot
  case retry => exact does_of_bus (canTxFailed b k) hb (fun _ _ => rfl) fun s ⟨hsending, hretry⟩ => canTxFailed_of_retry hsending hretry
  case limit =>
    exact does_of_bus (canTxFailed b k) hb (fun _ _ => rfl) fun s ⟨hsending, hslot, habort, hlimited, hreached⟩ =>
      canTxFailed_of_limit hsending hslot habort hlimited hreached
  case rxError => exact does_of_bus (canRxFailed b k) hb (fun _ _ => rfl) fun s ⟨hlive, hon⟩ => canRxFailed_of_live hlive hon
  case boDelay =>
    refine does_of _ (fun t s => show exec (.canBoDelayExpiry t b) s = execCanBoDelayExpiry t b s from rfl) fun s _ ⟨hend, hdue⟩ => ?_
    simp only [hend, hdue, if_true]
  case recovered => exact does_of (busOffEnds b) (fun _ _ => rfl) fun s _ ⟨hoff, hrecovering⟩ => busOffEnds_of_recovering hoff hrecovering
  case maxAge => exact does_of (giveWay (.slotStale b i)) (fun _ _ => rfl) fun _ _ _ => rfl
  case apply => exact does_of (canApply b) (fun _ _ => rfl) fun s _ ⟨hnext, hidle⟩ => canApply_of_waiting hnext hidle
  case integrated =>
    exact does_of_bus (canIntegrated b) hb (fun _ _ => rfl) fun s ⟨hinteg, hseg⟩ => (canIntegrated_of_integrating hinteg).trans (if_neg hseg)
  case awake =>
    exact does_of_bus (canIntegrated b) hb (fun _ _ => rfl) fun s ⟨hinteg, hseg⟩ => (canIntegrated_of_integrating hinteg).trans (if_pos hseg)

end Sys2Proof.Machine
end

section
/-!
PROOFS. The slots of the LIN buses and the tunnels (R324 to R327, R336 to R340).
-/
namespace Sys2Proof.Machine
open Sys2Proof Sys2Proof.Safety

/-! ### A slot starts (R324, R326) -/

/-- The table tb of a bus is in force and stands, no slot is in progress, and its next slot is due on a bus that runs its schedule. -/
structure LinSlotDue (b tb : Nat) (s : State) : Prop where
  awake : linWakes b s = s
  settled : linTakePending b s = s
  caughtUp : (linOf s b).slot = none → linSkip b s = s
  table : (linOf s b).table = some tb
  live : linLive s b = true
  idle : (linOf s b).slot = none
  due : (linOf s b).cycle + linOffset s (linHeadOf (linOf s b) tb) (linOf s b).idx ≤ wtNow s

/-- The place in the pool of the slot that is next in table tb. -/
def linNext (s : State) (b tb : Nat) : Nat := fld (linHeadOf (linOf s b) tb) 0 23 13 + (linOf s b).idx

/-- Its entry's first word. -/
def linNextEntry (s : State) (b tb : Nat) : Word := (tget (0, 0) s.gw.pool (linNext s b tb)).1

/-- The slot in progress, with what a published one sends. -/
def linStarted (b tb : Nat) (s : State) : State :=
  setLin b { linOf s b with
    slot := some (linNext s b tb, s.time.now)
    sent := if bit (linNextEntry s b tb) 23 then tget none (linOf s b).pub (bits (linNextEntry s b tb) 29 24) else none } s

/-- What leaves on the bus at the start of a slot: the header, and the data of a published frame; nothing where its buffer has not been written (R326). -/
def linSends (b : Nat) (e : Word) (pub : Option Bytes) (s : State) : State :=
  let h := emit (.linHeader s.time.now b (bits e 29 24)) s
  if bit e 23 = false then h
  else match pub with
    | some d => emit (.linData s.time.now b (bits e 29 24) (d ++ [linChecksum (bit e 22) (bits e 29 24) d])) h
    | none => s

/-- A slot that is due starts on a recessive bus, and is counted as not sent on another (R324, R326). -/
theorem linSlotStart_of_due {s : State} {b tb : Nat} (recessive : Bool) (h : LinSlotDue b tb s) :
    linSlotStart b recessive s =
      if recessive then linSends b (linNextEntry s b tb) (tget none (linOf s b).pub (bits (linNextEntry s b tb) 29 24)) (linStarted b tb s)
      else linEvent b 1 0 (linCount b 8 s) := by
  obtain ⟨hawake, hsettled, hcaught, htable, hlive, hidle, hdue⟩ := h
  have hdue' : ¬ wtNow s < (linOf s b).cycle + linOffset s (linHeadOf (linOf s b) tb) (linOf s b).idx := Int.not_lt.mpr hdue
  unfold linSends linStarted linNextEntry linNext
  simp only [linSlotStart, hawake, hsettled, ite_self, hidle, Option.isNone_none, hcaught hidle, htable, hlive, hdue', Bool.not_true,
    Option.isSome_none, decide_false, Bool.or_self, Bool.false_eq_true, if_false]
  cases recessive with
  | false => rfl
  | true =>
    generalize (tget (0, 0) s.gw.pool (fld (linHeadOf (linOf s b) tb) 0 23 13 + (linOf s b).idx)).1 = e
    cases bit e 23 with
    | false => rfl
    | true => cases tget none (linOf s b).pub (bits e 29 24) <;> rfl

/-! ### A slot ends (R318, R322, R326, R327) -/

/-- The entry of the pool that a slot belongs to, its first word. -/
def linEntryAt (s : State) (k : Nat) : Word := (tget (0, 0) s.gw.pool k).1

/-- A frame of LEN bytes that carries no checksum ends well (log entry 111). -/
theorem linOutcome_of_whole {e : Word} {d : Bytes} (sent : Bool) (hrx : bit e 23 = false) (hlen : d.length = bits e 21 18) : linOutcome e sent 0 d = 0 := by
  simp [linOutcome, hrx, hlen]

/-- A slot that is not event-triggered ends in the outcome that its bus has found (log entry 104). -/
theorem linOutcome_of_failed {e : Word} {o : Nat} (sent : Bool) (d : Bytes) (hrx : bit e 23 = false) (hkind : bits e 31 30 ≠ 1) (hlow : 1 ≤ o) (hhigh : o ≤ 4) :
    linOutcome e sent o d = o := by
  have h0 : o ≠ 0 := by omega
  have h5 : o ≠ 5 := by omega
  have hrange : ¬ 5 < o := by omega
  simp [linOutcome, hrx, hkind, h0, h5, hrange]

/-- A checksum that is not the entry's makes a checksum error (R326). -/
theorem linOutcome_of_badChecksum {e : Word} {d : Bytes} (hrx : bit e 23 = false) (hkind : bits e 31 30 ≠ 1) (hlen : d.length = bits e 21 18 + 1)
    (hsum : d.drop (bits e 21 18) ≠ [linChecksum (bit e 22) (bits e 29 24) (d.take (bits e 21 18))]) : linOutcome e false 0 d = 2 := by
  have hwhole : ¬ bits e 21 18 + 1 < bits e 21 18 := by omega
  simp only [linOutcome, hrx, hkind, hlen, hwhole, hsum, Bool.not_false, Bool.and_true, Bool.and_self, ne_eq, not_false_eq_true, decide_true,
    Bool.false_eq_true, if_true, if_false]
  rfl

/-- The frame of a slot. -/
def linFrame (e : Word) (data : Bytes) : CanFrame := { format := 5, id := bits e 29 24, dlc := data.length, data := data }

/-- The slot in progress is over, and its outcome o is counted. -/
def linOver (b o : Nat) (s : State) : State := linCount b (o + 1) (setLin b { linOf s b with slot := none, sent := none } s)

/-- The entry of a slot is offered to the receive ring (R318). -/
def linRecord (b start o : Nat) (f : CanFrame) (routed : Bool) (s : State) : State := ringPush (.lin b) (ringEntry s 1 b f false routed 0 start o 0) s

/-- The schedule goes on after a slot: the next entry, a go-to-sleep command, a selection and a record that wait (R321, R325, R327, R375). -/
def linGoesOn (b : Nat) (s : State) : State := linApply b (linTakePending b (sendGts (52 + b) (linAdvance b s)))

/-- A subscribed frame that ends well goes to the ring and, at the end of the cycle, to the engine (R318, R331). -/
theorem linSlotEnd_of_received {s : State} {b k start outcome : Nat} {d : Bytes} (hslot : (linOf s b).slot = some (k, start))
    (hrx : bit (linEntryAt s k) 23 = false) (ho : linOutcome (linEntryAt s k) (linOf s b).sent.isSome outcome d = 0) :
    linSlotEnd b outcome d s =
      let f := linFrame (linEntryAt s k) (d.take (bits (linEntryAt s k) 21 18))
      let a := linOver b 0 s
      giveWay (.frame { src := 24 + b, f := f, bus := 24 + b, stamp := start })
        (gatewayTrigger (24 + b) f (validateSeg (52 + b) (linGoesOn b (linRecord b start 0 f (routeOf a (24 + b) f).isSome a)))) := by
  simp only [linEntryAt] at hrx ho
  simp only [linSlotEnd, hslot, hrx, ho, Bool.not_false, decide_true, Bool.true_and, Bool.and_true, ne_eq, not_true_eq_false, decide_false, Bool.false_and,
    Bool.false_eq_true, if_true, if_false]
  rfl

/-- A slot in which no frame has been received and none has collided is recorded, and raises the event (R327). -/
theorem linSlotEnd_of_failed {s : State} {b k start outcome o : Nat} {d : Bytes} (hslot : (linOf s b).slot = some (k, start))
    (hrx : bit (linEntryAt s k) 23 = false) (ho : linOutcome (linEntryAt s k) (linOf s b).sent.isSome outcome d = o) (hlow : 1 ≤ o) (hhigh : o ≤ 4) :
    linSlotEnd b outcome d s =
      linGoesOn b (linEvent b 0 0 (linRecord b start o (linFrame (linEntryAt s k) (d.take 8)) false (linOver b o s))) := by
  have h0 : o ≠ 0 := by omega
  have h5 : o ≠ 5 := by omega
  have h6 : o ≠ 6 := by omega
  simp only [linEntryAt] at hrx ho
  simp only [linSlotEnd, hslot, hrx, ho, h0, h5, h6, Bool.not_false, Bool.and_true, ne_eq, not_false_eq_true, decide_true, decide_false, Bool.false_and,
    Bool.false_eq_true, if_true, if_false]
  rfl

/-! ### Receive tunnels (R339, R340) -/

/-- A 1722 frame of no receive tunnel is dropped and counted (R340). -/
theorem acfRx_of_noTunnel {s : State} {p : Bytes} (htype : (parse p).etype = some 0x22F0) (hnone : s.gw.rxTunnel = []) :
    acfRx p s = gwEvent 0x02 (gwDrop 32 0x10 s) := by
  simp [acfRx, htype, hnone]

/-- The numbers missing before sequence number q in a tunnel (R339). -/
def seqGapBefore (v : RxTunnel) (q : Nat) : Nat := match v.last with | some o => (q + 511 - o) % 256 | none => 0

/-- A frame of a tunnel is counted with the gap before it, which raises the event (R339, R340). -/
def tunnelCounts (i q : Nat) (v : RxTunnel) (s : State) : State :=
  let a := setRxTunnel i { v with last := some q, frames := satAdd 32 v.frames 1, seqGap := satAdd 32 v.seqGap (seqGapBefore v q) } s
  if seqGapBefore v q ≠ 0 then gwEvent 0x01 a else a

/-- Header of a 1722 frame at byte l is that of the NTSCF stream of a valid tunnel (R339). -/
structure NtscfOf (v : RxTunnel) (p : Bytes) (l : Nat) : Prop where
  valid : flag v.rec0 0 31 = true
  ntscf : flag v.rec0 0 30 = false
  subtype : byteAt p l = 0x82
  stream : beAt p (l + 4) 8 = cat64 (rw v.rec0 1) (rw v.rec0 2)

/-- A frame of the one tunnel is counted, and its messages are taken in their order (R339). -/
theorem acfRx_of_tunnel {s : State} {p : Bytes} {i : Nat} {v : RxTunnel} (htype : (parse p).etype = some 0x22F0) (hrtag : (parse p).rtag = none)
    (hv : NtscfOf v p (14 + (parse p).tagLen)) (honly : s.gw.rxTunnel = [(i, v)]) :
    acfRx p s =
      let l := 14 + (parse p).tagLen
      let body := (p.drop (l + 12)).take (beAt p (l + 1) 2 % 2048)
      acfMessages i body.length body (tunnelCounts i (byteAt p (l + 3)) v s) := by
  obtain ⟨hvalid, hntscf, hsub, hstream⟩ := hv
  have hl : 12 + (parse p).tagLen + 0 + 2 = 14 + (parse p).tagLen := by omega
  simp only [acfRx, htype, hrtag, Option.isSome_none, Bool.false_eq_true, if_false, hl, honly, List.find?_cons, hvalid, hntscf, hsub, hstream,
    decide_true, Bool.and_self, ne_eq, not_true_eq_false]
  rfl

/-- Settles O35: each event of the LIN buses and of the tunnels does what its rule says. -/
theorem linAndTunnelEventsTakeEffect : Obligations.LinAndTunnelEventsTakeEffect := by
  unfold Obligations.LinAndTunnelEventsTakeEffect
  refine ⟨fun b tb hb => ?start, fun b tb hb => ?unsent, fun b d k start hb => ?received, fun b d k start o hb ho => ?failed,
    fun e d hrx hkind hlen hsum => linOutcome_of_badChecksum hrx hkind hlen hsum, fun i => ?flush, fun p => ?noTunnel,
    fun p i v htype hrtag hvalid hntscf hsub hstream => ?tunnel⟩
  case start =>
    refine does_of_bus (linSlotStart b true) hb (fun _ _ => rfl) fun s ⟨hawake, hsettled, hcaught, htable, hlive, hidle, hdue⟩ => ?_
    exact linSlotStart_of_due true ⟨hawake, hsettled, hcaught, htable, hlive, hidle, hdue⟩
  case unsent =>
    exact does_of_bus (linSlotStart b false) hb (fun _ _ => rfl) fun s ⟨hawake, hsettled, hcaught, htable, hlive, hidle, hdue⟩ =>
      linSlotStart_of_due false ⟨hawake, hsettled, hcaught, htable, hlive, hidle, hdue⟩
  case received =>
    exact does_of_bus (fun s => linSlotEnd b 0 d (boundaryFirst s)) hb (fun _ _ => rfl) fun s ⟨hslot, hrx, hlen⟩ =>
      linSlotEnd_of_received hslot hrx (linOutcome_of_whole _ hrx hlen)
  case failed =>
    have hrange : 1 ≤ o ∧ o ≤ 4 := by omega
    exact does_of_bus (fun s => linSlotEnd b o d (boundaryFirst s)) hb (fun _ _ => rfl) fun s ⟨hslot, hrx, hkind⟩ =>
      linSlotEnd_of_failed hslot hrx (linOutcome_of_failed _ d hrx hkind hrange.1 hrange.2) hrange.1 hrange.2
  case flush =>
    refine does_of _ (fun t s => show exec (.tunnelFlushDeadline t i) s = execTunnelFlushDeadline t i s from rfl) fun s _ ⟨hopen, hdue⟩ => if_pos ?_
    simp [hopen, hdue]
  case noTunnel =>
    exact does_of (fun s => acfRx p (boundaryFirst s)) (fun _ _ => rfl) fun s _ ⟨htype, hnone⟩ => acfRx_of_noTunnel htype hnone
  case tunnel =>
    exact does_of (fun s => acfRx p (boundaryFirst s)) (fun _ _ => rfl) fun s _ honly =>
      acfRx_of_tunnel htype hrtag ⟨hvalid, hntscf, hsub, by rwa [show 14 + (parse p).tagLen + 4 = 18 + (parse p).tagLen by omega]⟩ honly

end Sys2Proof.Machine
end

section
/-!
PROOFS. The GW family of requests: CAN controllers, LIN buses, routes, tunnels, authentication (R571, R572).
-/
namespace Sys2Proof.Machine
open Sys2Proof Sys2Proof.Safety

/-! ### CAN controllers, their words being in range (R305, R310, R317, R354) -/

/-- A controller record in range waits for the bus; a controller that is off takes it at once (R305, R307). -/
theorem gwControllerPut_valid {q : Req} (s : State) (hlen : q.args.length = 6) (hchecks : (controllerChecks q.args).all (·.2) = true) :
    gwControllerPut q s = ok
      (let e := setCan (mf q 4 31 27) { canOf s (mf q 4 31 27) with next := some q.args } s
       if fld (canOf s (mf q 4 31 27)).rec0 0 26 25 = 0 then canApply (mf q 4 31 27) e else e) :=
  need_ok hlen (List.all_eq_true.mp hchecks)

/-- The words of a CAN-send request are in range (R332, R572). -/
structure CanSendFits (q : Req) : Prop where
  length : q.args.length = 6 + (mf q 4 11 0 + 3) / 4
  bus : mf q 4 31 27 ≤ 23
  format : mf q 4 26 24 ≤ 4
  reserved : mf q 4 20 12 = 0
  data : lengthFits (mf q 4 26 24) (mf q 4 11 0) = true
  remote : bit (mw q 4) 23 = true → mf q 4 26 24 < 2
  identifier : (mw q 5).toNat < 2 ^ idWidth (mf q 4 26 24)
  word6 : only (mw q 6) (if mf q 4 26 24 = 4 then [(31, 24), (23, 16), (15, 15)] else []) = true

/-- What the slot of a CAN-send request holds: the frame, from the host, with its launch instant (R310, R572). -/
def hostFrame (q : Req) (s : State) : GwOut :=
  { f := sendFrame q, route := 0, origin := srcOrigin (mf q 4 31 27), launch := if bit (mw q 4) 21 then some (ofShort (wtNow s) (mw q 9).toNat) else none }

/-- A frame in range of a format that the controller has takes a free host slot (R310); it meets CONFLICT for another format, and BUSY in bus-off, on a bus that
the partner owns, and without a slot (R317, R584; log entry 104). -/
theorem gwSend_valid {q : Req} (s : State) (h : CanSendFits q) :
    gwSend q s =
      let c := canOf s (mf q 4 31 27)
      if protoHas c.rec0 (mf q 4 26 24) = false ∧ canMode c ≠ 0 then conflictAt 4 s
      else if c.busOff = true ∨ owns s (mf q 4 31 27) = false then busy s
      else (freeSlot c true).elim (busy s) fun i => okWith [word i] (fillSlot (mf q 4 31 27) i (hostFrame q s) true (mw q 8) s) := by
  refine (need_ok h.length ?_).trans ?_
  · have hremote : (!bit (mw q 4) 23 || decide (mf q 4 26 24 < 2)) = true := by simpa [Decidable.imp_iff_not_or] using h.remote
    simpa [h.bus, h.format, h.reserved, h.data, h.identifier, h.word6] using hremote
  · simp only [Bool.and_eq_true, Bool.or_eq_true, Bool.not_eq_true', decide_eq_true_eq]
    cases freeSlot (canOf s (mf q 4 31 27)) true <;> rfl

/-- There is no conflict where the controller has the format, nor where it is off (log entry 104). -/
theorem not_conflict_of_proto {c : Can} {fmt : Nat} (h : protoHas c.rec0 fmt = true ∨ canMode c = 0) : ¬ (protoHas c.rec0 fmt = false ∧ canMode c ≠ 0) := by
  rintro ⟨hlacks, hon⟩
  exact h.elim (fun hhas => Bool.false_ne_true (hlacks.symm.trans hhas)) hon

/-- An abort marks the frame of its slot, and is looked at again at the end of the cycle; an empty slot stays (R354). -/
theorem gwAbort_valid {q : Req} (s : State) (hlen : q.args.length = 1) (h4 : only (mw q 4) [(31, 27), (4, 0)] = true) (hb : mf q 4 31 27 ≤ 23) :
    gwAbort q s = ok ((tget none (canOf s (mf q 4 31 27)).slots (mf q 4 4 0)).elim s fun x =>
      giveWay (.slotAbort (mf q 4 31 27) (mf q 4 4 0)) (setCan (mf q 4 31 27)
        { canOf s (mf q 4 31 27) with slots := tset none (canOf s (mf q 4 31 27)).slots (mf q 4 4 0) (some { x with abort := true }) } s)) := by
  refine (need_ok hlen (by simp [h4, hb])).trans ?_
  cases tget none (canOf s (mf q 4 31 27)).slots (mf q 4 4 0) <;> rfl

/-- At the end of the cycle a frame marked for abort ends, unless it is on the bus (R354). -/
theorem slotAborted_of_marked {s : State} {b i : Nat} {x : CanSlot} (hslot : tget none (canOf s b).slots i = some x) (hmarked : x.abort = true) :
    slotAborted b i s = if (canOf s b).sending.map (·.1) = some i then s else slotEnds b i x 0x09 0 s.time.now s := by
  simp only [slotAborted, hslot, hmarked, Bool.true_and, ne_eq, decide_not, Bool.not_eq_true', decide_eq_false_iff_not, ite_not]

/-- A recover command in bus-off starts recovery where AUTO_RECOVER is clear (R317). -/
theorem gwRecovery_valid {q : Req} {s : State} (hlen : q.args.length = 1) (h4 : only (mw q 4) [(4, 0)] = true) (hb : mf q 4 4 0 ≤ 23)
    (hoff : (canOf s (mf q 4 4 0)).busOff = true) (hmanual : flag (canOf s (mf q 4 4 0)).rec0 0 19 = false) :
    gwRecovery q s = ok (setCan (mf q 4 4 0) { canOf s (mf q 4 4 0) with recovering := true } s) := by
  refine (need_ok hlen (by simp [h4, hb])).trans ?_
  rw [if_pos (by simp [hoff, hmanual])]

/-! ### LIN buses, their words being in range (R321 to R326) -/

/-- The words of a LIN record are in range (R321). -/
structure LinFits (q : Req) : Prop where
  length : q.args.length = 2
  mode : mf q 4 28 27 ≤ 1
  breakLow : 13 ≤ mf q 4 26 22
  breakHigh : mf q 4 26 22 ≤ 26
  reserved : mf q 4 19 0 = 0
  rateLow : 1000 ≤ mf q 5 31 16
  rateHigh : mf q 5 31 16 ≤ 20000
  reserved5 : mf q 5 15 0 = 0

theorem gwLinPut_valid {q : Req} (s : State) (h : LinFits q) :
    gwLinPut q s = ok (linApply (mf q 4 31 29) (setLin (mf q 4 31 29) { linOf s (mf q 4 31 29) with next := some q.args } s)) :=
  need_ok h.length (by simp [h.mode, h.breakLow, h.breakHigh, h.reserved, h.rateLow, h.rateHigh, h.reserved5])

/-- The words of a write to the LIN pool are in range, and its entries are (R322). -/
structure LinPoolFits (q : Req) (s : State) (ws : Rec) : Prop where
  fixed : 2 ≤ q.args.length
  bulk : bulkOf 2 q s = some (ws, 8 * mf q 5 11 0)
  first : only (mw q 4) [(10, 0)] = true
  count : only (mw q 5) [(11, 0)] = true
  least : 1 ≤ mf q 5 11 0
  inPool : mf q 4 10 0 + mf q 5 11 0 ≤ 2048
  entries : badEntry 2 q linEntryFault (pairsOf ws) = none

/-- Pool entries in range are written, unless a table that a bus uses holds one of them (R322). -/
theorem gwPool_valid {q : Req} {s : State} {ws : Rec} (h : LinPoolFits q s ws) :
    gwPool q s =
      if linPoolUsed s (mf q 4 10 0) (mf q 5 11 0) then conflictAt 4 s
      else ok { s with gw := { s.gw with
        pool := (pairsOf ws).zipIdx.foldl (fun p x => tset (0, 0) p (mf q 4 10 0 + x.2) x.1) s.gw.pool } } := by
  have hmost : mf q 5 11 0 ≤ 2048 := Nat.le_trans (Nat.le_add_left _ _) h.inPool
  refine (needBulk_ok h.fixed h.bulk (by simp [h.first, h.count, h.least, hmost, h.inPool])).trans ?_
  rw [h.entries]

/-- A LIN bus with the table that a header request writes (R322). -/
def withHeader (q : Req) (s : State) : Lin :=
  { linOf s (mf q 4 31 29) with head := tset [] (linOf s (mf q 4 31 29)).head (mf q 4 28 25) q.args }

/-- The words of a table's header are in range, and its entries suit the bus (R322, R323). -/
structure LinTableFits (q : Req) (s : State) : Prop where
  length : q.args.length = 4
  reserved : mf q 4 24 24 = 0
  reservedLow : mf q 4 5 0 = 0
  least : 1 ≤ mf q 4 12 6
  most : mf q 4 12 6 ≤ 64
  inPool : mf q 4 23 13 + mf q 4 12 6 ≤ 2048
  suits : (linEntries s q.args).all (linEntrySuits (withHeader q s)) = true
  base : fullOk (q.args.drop 1) = true

theorem gwTable_valid {q : Req} {s : State} (h : LinTableFits q s) : gwTable q s = ok (setLin (mf q 4 31 29) (withHeader q s) s) := by
  refine (need_ok h.length ?_).trans (by simp only [fld_args]; rfl)
  have hsuits := h.suits
  unfold withHeader at hsuits
  simp only [fld_args]
  simp [-List.drop_one, -List.all_eq_true, h.reserved, h.reservedLow, h.least, h.most, h.inPool, hsuits, h.base]

/-- The selection of a table that there is, or of none, is staged (R325). -/
theorem gwSelect_valid {q : Req} (s : State) (hlen : q.args.length = 1) (h4 : only (mw q 4) [(31, 29), (4, 0)] = true)
    (hhead : bit (mw q 4) 4 = true ∨ linHeadOf (linOf s (mf q 4 31 29)) (mf q 4 3 0) ≠ []) :
    gwSelect q s = stage (.linSelect (mf q 4 31 29) (if bit (mw q 4) 4 then none else some (mf q 4 3 0))) s := need_ok hlen (by simpa [h4] using hhead)

/-- A publish buffer is written with as many bytes as its entry publishes (R326). -/
theorem gwPublish_valid {q : Req} {s : State} (hlen : q.args.length = 3) (h4 : only (mw q 4) [(31, 29), (11, 8), (5, 0)] = true) (hlow : 1 ≤ mf q 4 11 8)
    (hhigh : mf q 4 11 8 ≤ 8) (hpub : pubLen s (mf q 4 31 29) (mf q 4 5 0) = some (mf q 4 11 8)) :
    gwPublish q s = ok (setLin (mf q 4 31 29) { linOf s (mf q 4 31 29) with
      pub := tset none (linOf s (mf q 4 31 29)).pub (mf q 4 5 0) (some ((recBytes (q.args.drop 1)).take (mf q 4 11 8))) } s) :=
  need_ok hlen (by simp [h4, hlow, hhigh, hpub])

/-! ### Routes (R328 to R330) -/

/-- The route of a request: the words behind its index. -/
def routeRec (q : Req) : Rec := q.args.drop 1

/-- The places of the bucket of a route's key (R329). -/
def routeWays (q : Req) : List Nat := macWays (routeBucket (roSrc (routeRec q)) (mf q 5 23 21) (bit (mw q 5) 20) (mf q 6 28 0))

/-- Whether a place j of the tables to come holds an entry of the key of a route (R329). -/
def holdsSame (q : Req) (s : State) (j : Nat) : Bool := routeSame (routeRec q) (tget [] (projected s).gw.route j)

/-- The first free place of the bucket in the tables to come. -/
def freeWay (q : Req) (s : State) : Option Nat := (routeWays q).find? fun j => !flag (tget [] (projected s).gw.route j) 0 31

/-- A route is staged for place k with its index, or refused where a reference of it fails (R330). -/
def routeTo (q : Req) (k : Nat) (s : State) : Reply :=
  if routeRefs (projectedWith (.route k (routeRec q)) s) then (.stage (.route k (routeRec q)) [word k], s) else conflictAt (routeFault s (routeRec q)) s

/-- The words of a route request are in range: it names a free place by 0xFFFF, or one that suits it (R328, R329). -/
structure RouteFits (q : Req) : Prop where
  length : q.args.length = 9
  index : only (mw q 4) [(15, 0)] = true
  known : mf q 4 15 0 = 0xFFFF ∨ mf q 4 15 0 < 8192
  added : mf q 4 15 0 = 0xFFFF → flag (routeRec q) 0 31 = true
  suits : flag (routeRec q) 0 31 = true → mf q 4 15 0 < 7680 → (routeWays q).contains (mf q 4 15 0) = true
  checks : (routeChecks (routeRec q) (decide (mf q 4 15 0 = 0xFFFF) || decide (mf q 4 15 0 < 7680))).all (·.2) = true

/-- A route in range takes the first free place of its bucket, or the place that it names; its twin in the bucket is a CONFLICT (R329, R330). -/
theorem gwRoutePut_valid {q : Req} (s : State) (h : RouteFits q) :
    gwRoutePut q s =
      if mf q 4 15 0 = 0xFFFF then
        (freeWay q s).elim (tableFull s) fun j => if (routeWays q).any (holdsSame q s) = true then conflict s else routeTo q j s
      else if flag (routeRec q) 0 31 = true ∧ mf q 4 15 0 < 7680 ∧ (routeWays q).any (fun j => decide (mf q 4 15 0 ≠ j) && holdsSame q s j) = true then
        conflict s
      else routeTo q (mf q 4 15 0) s := by
  have hways : macWays (routeBucket (roSrc (q.args.drop 1)) (fld (q.args.drop 1) 0 23 21) (flag (q.args.drop 1) 0 20) (fld (q.args.drop 1) 1 28 0)) =
      routeWays q := by
    simp only [fld_drop_one, flag_drop_one]
    rfl
  refine (need_ok h.length fun e he => ?_).trans ?_
  · rcases List.mem_append.mp he with he | he
    · rw [List.mem_singleton.mp he, hways]
      have hadded : (decide (mf q 4 15 0 ≠ 0xFFFF) || flag (q.args.drop 1) 0 31) = true := by
        simpa [Decidable.imp_iff_not_or, routeRec, -List.drop_one] using h.added
      have hknown : (decide (mf q 4 15 0 = 0xFFFF) || decide (mf q 4 15 0 < 8192)) = true := by simpa using h.known
      have hsuits : (!flag (q.args.drop 1) 0 31 || decide (mf q 4 15 0 = 0xFFFF) || decide (7680 ≤ mf q 4 15 0) ||
          (routeWays q).contains (mf q 4 15 0)) = true := by
        cases hvalid : flag (q.args.drop 1) 0 31 with
        | false => rfl
        | true =>
          rcases Nat.lt_or_ge (mf q 4 15 0) 7680 with hlow | hhigh
          · rw [h.suits hvalid hlow, Bool.or_true]
          · simp only [hhigh, decide_true, Bool.or_true, Bool.true_or]
      simp only [h.index, hknown, hadded, hsuits, Bool.and_self]
    · exact List.all_eq_true.mp h.checks e he
  · simp only [hways]
    refine ite_congr rfl (fun _ => ?_) (fun _ => ?_)
    · unfold freeWay
      cases (routeWays q).find? fun j => !flag (tget [] (projected s).gw.route j) 0 31 <;> rfl
    · simp only [Bool.and_eq_true, decide_eq_true_eq, and_assoc, ne_eq, Option.some.injEq]
      rfl

/-- A ternary route in range goes to its own place (R328, R330). -/
theorem gwRoutePut_ternary {q : Req} (s : State) (hlen : q.args.length = 9) (h4 : only (mw q 4) [(15, 0)] = true) (hlow : 7680 ≤ mf q 4 15 0)
    (hhigh : mf q 4 15 0 < 8192) (hchecks : (routeChecks (routeRec q) false).all (·.2) = true) : gwRoutePut q s = routeTo q (mf q 4 15 0) s := by
  have hnamed : mf q 4 15 0 ≠ 0xFFFF := by omega
  have hternary : ¬ mf q 4 15 0 < 7680 := Nat.not_lt.mpr hlow
  rw [gwRoutePut_valid s ⟨hlen, h4, .inr hhigh, fun h => absurd h hnamed, fun _ h => absurd h hternary,
    by simpa only [hnamed, hternary, decide_false, Bool.or_self] using hchecks⟩, if_neg hnamed, if_neg fun h => hternary h.2.1]

/-- An exact route in range goes to the place of its bucket that it names, unless its twin stands in the bucket (R329). -/
theorem gwRoutePut_exact {q : Req} {s : State} (hlen : q.args.length = 9) (h4 : only (mw q 4) [(15, 0)] = true) (hexact : mf q 4 15 0 < 7680)
    (hchecks : (routeChecks (routeRec q) true).all (·.2) = true)
    (hplace : flag (routeRec q) 0 31 = true → (routeWays q).contains (mf q 4 15 0) = true ∧
      (routeWays q).any (fun j => decide (mf q 4 15 0 ≠ j) && holdsSame q s j) = false) :
    gwRoutePut q s = routeTo q (mf q 4 15 0) s := by
  have hnamed : mf q 4 15 0 ≠ 0xFFFF := by omega
  rw [gwRoutePut_valid s ⟨hlen, h4, .inr (by omega), fun h => absurd h hnamed, fun hvalid _ => (hplace hvalid).1,
    by simpa only [hnamed, hexact, decide_true, Bool.or_true] using hchecks⟩, if_neg hnamed, if_neg]
  rintro ⟨hvalid, -, htwin⟩
  exact Bool.false_ne_true ((hplace hvalid).2.symm.trans htwin)

/-- An exact route in range takes the first free place of its bucket (R329). -/
theorem gwRoutePut_placed {q : Req} (s : State) (hlen : q.args.length = 9) (hauto : mf q 4 15 0 = 0xFFFF) (h4 : only (mw q 4) [(15, 0)] = true)
    (hchecks : (routeChecks (routeRec q) true).all (·.2) = true) (hvalid : flag (routeRec q) 0 31 = true) :
    gwRoutePut q s =
      (freeWay q s).elim (tableFull s) fun j => if (routeWays q).any (holdsSame q s) = true then conflict s else routeTo q j s := by
  rw [gwRoutePut_valid s ⟨hlen, h4, .inl hauto, fun _ => hvalid, fun _ h => absurd h (by omega),
    by simpa only [hauto, decide_true, Bool.true_or] using hchecks⟩, if_pos hauto]

/-! ### Tunnels, address and authentication, their words being in range (R335, R338, R339, R341, R346) -/

/-- The words of a transmit tunnel are in range (R335). -/
structure TunnelFits (q : Req) (s : State) : Prop where
  length : q.args.length = 8
  vlanLow : 1 ≤ mf q 4 17 6
  vlanHigh : mf q 4 17 6 ≤ 4094
  reserved : mf q 4 4 0 = 0
  messagesLow : 1 ≤ mf q 6 15 8
  messagesHigh : mf q 6 15 8 ≤ 64
  reserved6 : mf q 6 7 0 = 0
  bytesLow : 24 ≤ mf q 9 15 0
  bytesHigh : mf q 9 15 0 ≤ 1488
  size : 22 + (if bit (mw q 4) 22 then 24 else 12) + mf q 9 15 0 ≤ bpMaxLen (bridgeOf s 30)
  word10 : bit (mw q 10) 31 = false

theorem gwTunnelPut_valid {q : Req} {s : State} (h : TunnelFits q s) : gwTunnelPut q s = stageRouted 4 (.tunnel (mf q 4 30 23) q.args) s := by
  refine (need_ok h.length ?_).trans (by simp only [fld_args])
  simp only [fld_args, flag_args]
  simp [h.vlanLow, h.vlanHigh, h.reserved, h.messagesLow, h.messagesHigh, h.reserved6, h.bytesLow, h.bytesHigh, h.size, h.word10]

theorem gwReceive_valid {q : Req} (s : State) (hlen : q.args.length = 4) (h4 : only (mw q 4) [(31, 30), (5, 0)] = true) :
    gwReceive q s = stage (.rxTunnel (mf q 4 5 0) q.args) s := need_ok hlen (by simp [h4])

theorem gwSource_valid {q : Req} (s : State) (hlen : q.args.length = 2) (h5 : only (mw q 5) [(31, 16)] = true) :
    gwSource q s = ok { s with gw := { s.gw with addr := (mw q 4).toNat * 65536 + mf q 5 31 16 } } := need_ok hlen (by simp [h5])

/-- The words of an authentication record are in range; a generating one does not take FRESH back (R341, R346). -/
structure AuthFits (q : Req) (s : State) : Prop where
  length : q.args.length = 7
  index : only (mw q 4) [(9, 0)] = true
  macLow : 3 ≤ mf q 5 20 16
  macHigh : mf q 5 20 16 ≤ 16
  freshBytes : mf q 5 15 12 ≤ 8
  reserved : mf q 5 11 0 = 0
  forward : bit (mw q 5) 30 = true → tget 0 s.gw.fresh (mf q 4 9 0) ≤ cat64 (mw q 7) (mw q 8)
  window : bit (mw q 5) 30 = true ∨ mw q 9 ≠ 0
  offset : mf q 10 15 4 ≤ 2048
  reserved10 : mf q 10 3 0 = 0

/-- The authentication record of a request, without the value of FRESH that it carries (R346). -/
def authRecOf (q : Req) : Rec := ((q.args.drop 1).set 2 0).set 3 0

/-- An authentication record in range that keeps the references of routes is staged, and FRESH written at once (R330, R341, R346). -/
theorem gwAuthPut_valid {q : Req} {s : State} (h : AuthFits q s) (hrefs : routeRefs (projectedWith (.auth (mf q 4 9 0) (authRecOf q)) s) = true) :
    gwAuthPut q s = stage (.auth (mf q 4 9 0) (authRecOf q))
      (setFresh (mf q 4 9 0) (freshWritten s (mf q 4 9 0) (bit (mw q 5) 30) (cat64 (mw q 7) (mw q 8)))
        { s with gw := { s.gw with freshLost := s.gw.freshLost.filter (· ≠ mf q 4 9 0) } }) := by
  refine (need_ok h.length ?_).trans ?_
  · have hforward : (!bit (mw q 5) 30 || decide (tget 0 s.gw.fresh (mf q 4 9 0) ≤ cat64 (mw q 7) (mw q 8))) = true := by
      simpa [Decidable.imp_iff_not_or] using h.forward
    simp only [fld_drop_one, flag_drop_one, rw_drop_one]
    simpa [h.index, h.macLow, h.macHigh, h.freshBytes, h.reserved, hforward, h.offset, h.reserved10] using h.window
  · simp only [flag_drop_one, rw_drop_one]
    exact if_pos hrefs

/-! ### Status (R349, R351) -/

theorem gwCanStat_valid {q : Req} (s : State) (hlen : q.args.length = 1) (h4 : only (mw q 4) [(4, 0)] = true) (hb : mf q 4 4 0 ≤ 23) :
    gwCanStat q s = okWith (canStatus s (mf q 4 4 0))
      (if q.clear then setCan (mf q 4 4 0) { canOf s (mf q 4 4 0) with counts := [], busOffs := 0 } s else s) := need_ok hlen (by simp [h4, hb])

theorem gwLinStat_valid {q : Req} (s : State) (hlen : q.args.length = 1) (h4 : only (mw q 4) [(2, 0)] = true) :
    gwLinStat q s = okWith (linStatus s (mf q 4 2 0)) (if q.clear then setLin (mf q 4 2 0) { linOf s (mf q 4 2 0) with counts := [] } s else s) :=
  need_ok hlen (by simp [h4])

theorem gwDropStat_valid {q : Req} (s : State) (hlen : q.args.length = 1) (h4 : only (mw q 4) [(5, 0)] = true) (hp : mf q 4 5 0 ≤ 32) :
    gwDropStat q s = okWith ((List.range 18).map (fun i => word (tget 0 s.gw.drops (mf q 4 5 0 * 32 + i + 1))))
      (if q.clear then { s with gw := { s.gw with drops := clearRange (mf q 4 5 0 * 32) 32 s.gw.drops } } else s) := need_ok hlen (by simp [h4, hp])

/-- The counters of a transmit tunnel are answered, or those of a receive tunnel that there is (R351). -/
theorem gwTunnelStat_valid {q : Req} (s : State) (hlen : q.args.length = 1) (h4 : only (mw q 4) [(8, 0)] = true)
    (hindex : bit (mw q 4) 8 = true → mf q 4 7 0 ≤ 63) :
    gwTunnelStat q s =
      let x := rxTunnelOf s (mf q 4 7 0)
      let v := tunnelOf s (mf q 4 7 0)
      if bit (mw q 4) 8 then okWith [word x.frames, word x.messages, word x.seqGap, word x.acfOther]
        (if q.clear then setRxTunnel (mf q 4 7 0) { x with frames := 0, messages := 0, seqGap := 0, acfOther := 0 } s else s)
      else okWith [word v.frames, word v.messages, 0, 0] (if q.clear then setTunnel (mf q 4 7 0) { v with frames := 0, messages := 0 } s else s) := by
  have hfits : (!bit (mw q 4) 8 || decide (mf q 4 7 0 ≤ 63)) = true := by simpa [Decidable.imp_iff_not_or] using hindex
  exact need_ok hlen (by simp [h4, hfits])

theorem gwRouteStat_valid {q : Req} (s : State) (hlen : q.args.length = 1) (h4 : only (mw q 4) [(12, 0)] = true) :
    gwRouteStat q s = okWith [word (tget 0 s.gw.hits (mf q 4 12 0))]
      (if q.clear then { s with gw := { s.gw with hits := tset 0 s.gw.hits (mf q 4 12 0) 0 } } else s) := need_ok hlen (by simp [h4])

/-- Settles O16: each GW request in range stages its record, acts, or answers as its rule says, or is refused for what it meets. -/
theorem gatewayRequestsTakeEffect : Obligations.GatewayRequestsTakeEffect := by
  unfold Obligations.GatewayRequestsTakeEffect
  refine ⟨?controller, fun i => ?send, ?sendBusy, ?sendFormat, fun x => ?abort, fun b i x s => slotAborted_of_marked, ?abortEmpty, ?recover, ?lin, ?pool,
    ?table, ?select, ?selectNone, ?publish, ?routeTernary, fun n => ?routeBroken, fun k => ?routeExact, fun j => ?routePlaced, ?routeFull, ?routeTwin, ?tunnel,
    ?receiveTunnel, ?settings, ?auth, ?canStatus, ?linStatus, ?drops, ?tunnelStatus, ?receiveTunnelStatus, ?routeStatus⟩
  case controller => exact gives_of gwControllerPut (fun _ _ _ => rfl) fun q e ⟨hlen, hchecks⟩ => gwControllerPut_valid e hlen hchecks
  case send =>
    refine gives_of gwSend (fun _ _ _ => rfl) fun q e ⟨hlen, hb, hfmt, h0, hdata, hrtr, hid, h6, hproto, hon, howns, hfree⟩ => ?_
    rw [gwSend_valid e ⟨hlen, hb, hfmt, h0, hdata, hrtr, hid, h6⟩]
    dsimp only
    rw [if_neg (not_conflict_of_proto hproto), if_neg (by simp [hon, howns]), hfree]
    rfl
  case sendBusy =>
    refine refuses_of gwSend (fun _ _ _ => rfl) fun q e ⟨hlen, hb, hfmt, h0, hdata, hrtr, hid, h6, hproto, hstop⟩ => ?_
    rw [gwSend_valid e ⟨hlen, hb, hfmt, h0, hdata, hrtr, hid, h6⟩]
    dsimp only
    rw [if_neg (not_conflict_of_proto hproto)]
    rcases hstop with hoff | hpartner | hfull
    · exact if_pos (.inl hoff)
    · exact if_pos (.inr hpartner)
    · rw [hfull]
      exact ite_self _
  case sendFormat =>
    exact refuses_of gwSend (fun _ _ _ => rfl) fun q e ⟨hlen, hb, hfmt, h0, hdata, hrtr, hid, h6, hlacks, hmode⟩ =>
      (gwSend_valid e ⟨hlen, hb, hfmt, h0, hdata, hrtr, hid, h6⟩).trans (if_pos ⟨hlacks, hmode⟩)
  case abort =>
    refine gives_of gwAbort (fun _ _ _ => rfl) fun q e ⟨hlen, h4, hb, hslot⟩ => ?_
    rw [gwAbort_valid e hlen h4 hb, hslot]
    rfl
  case abortEmpty =>
    refine gives_of gwAbort (fun _ _ _ => rfl) fun q e ⟨hlen, h4, hb, hslot⟩ => ?_
    rw [gwAbort_valid e hlen h4 hb, hslot]
    rfl
  case recover => exact gives_of gwRecovery (fun _ _ _ => rfl) fun q e ⟨hlen, h4, hb, hoff, hmanual⟩ => gwRecovery_valid hlen h4 hb hoff hmanual
  case lin =>
    exact gives_of gwLinPut (fun _ _ _ => rfl) fun q e ⟨hlen, hmode, hlow, hhigh, h0, hrlow, hrhigh, h5⟩ =>
      gwLinPut_valid e ⟨hlen, hmode, hlow, hhigh, h0, hrlow, hrhigh, h5⟩
  case pool =>
    refine gives_of gwPool (fun _ _ _ => rfl) fun q e ⟨ws, hfixed, hbulk, h4, h5, hsome, hin, hentries, hfree⟩ => ?_
    rw [gwPool_valid ⟨hfixed, hbulk, h4, h5, hsome, hin, hentries⟩, hfree, hbulk]
    rfl
  case table =>
    exact gives_of gwTable (fun _ _ _ => rfl) fun q e ⟨hlen, h24, h0, hsome, hmost, hin, hsuits, hbase⟩ =>
      gwTable_valid ⟨hlen, h24, h0, hsome, hmost, hin, hsuits, hbase⟩
  case select =>
    refine stages_of gwSelect (fun _ _ _ => rfl) fun q e ⟨hlen, h4, hone, hhead⟩ => ?_
    rw [gwSelect_valid e hlen h4 (.inr hhead), hone]
    rfl
  case selectNone =>
    refine stages_of gwSelect (fun _ _ _ => rfl) fun q e ⟨hlen, h4, hnone⟩ => ?_
    rw [gwSelect_valid e hlen h4 (.inl hnone), hnone]
    rfl
  case publish =>
    exact gives_of gwPublish (fun _ _ _ => rfl) fun q e ⟨hlen, h4, hlow, hhigh, hpub⟩ => gwPublish_valid hlen h4 hlow hhigh hpub
  case routeTernary =>
    refine stages_of gwRoutePut (fun _ _ _ => rfl) fun q e ⟨hlen, h4, hlow, hhigh, hchecks, hrefs⟩ => ?_
    exact (gwRoutePut_ternary e hlen h4 hlow hhigh hchecks).trans (if_pos hrefs)
  case routeBroken =>
    refine refuses_of gwRoutePut (fun _ _ _ => rfl) fun q e ⟨hlen, h4, hlow, hhigh, hchecks, hrefs, hn⟩ => ?_
    exact (gwRoutePut_ternary e hlen h4 hlow hhigh hchecks).trans ((if_neg (Bool.eq_false_iff.mp hrefs)).trans (hn ▸ rfl))
  case routeExact =>
    refine stages_of gwRoutePut (fun _ _ _ => rfl) fun q e ⟨hlen, h4, hk, hlow, hchecks, hplace, hrefs⟩ => ?_
    subst hk
    exact (gwRoutePut_exact hlen h4 hlow hchecks hplace).trans (if_pos hrefs)
  case routePlaced =>
    refine stages_of gwRoutePut (fun _ _ _ => rfl) fun q e ⟨hlen, hauto, h4, hchecks, hvalid, (hfree : freeWay q e = some j), hsame, hrefs⟩ => ?_
    rw [gwRoutePut_placed e hlen hauto h4 hchecks hvalid, hfree]
    exact (if_neg (Bool.eq_false_iff.mp hsame)).trans (if_pos hrefs)
  case routeFull =>
    refine refuses_of gwRoutePut (fun _ _ _ => rfl) fun q e ⟨hlen, hauto, h4, hchecks, hvalid, (hfull : freeWay q e = none)⟩ => ?_
    rw [gwRoutePut_placed e hlen hauto h4 hchecks hvalid, hfull]
    rfl
  case routeTwin =>
    refine refuses_of gwRoutePut (fun _ _ _ => rfl) fun q e ⟨hlen, hauto, h4, hchecks, hvalid, (hfree : (freeWay q e).isSome = true), hsame⟩ => ?_
    obtain ⟨j, hj⟩ := Option.isSome_iff_exists.mp hfree
    rw [gwRoutePut_placed e hlen hauto h4 hchecks hvalid, hj]
    exact if_pos hsame
  case tunnel =>
    exact stages_of gwTunnelPut (fun _ _ _ => rfl) fun q e ⟨hlen, hvlow, hvhigh, h0, hmlow, hmhigh, h6, hlow, hhigh, hsize, h10, hrefs⟩ =>
      (gwTunnelPut_valid ⟨hlen, hvlow, hvhigh, h0, hmlow, hmhigh, h6, hlow, hhigh, hsize, h10⟩).trans (if_pos hrefs)
  case receiveTunnel => exact stages_of gwReceive (fun _ _ _ => rfl) fun q e ⟨hlen, h4⟩ => gwReceive_valid e hlen h4
  case settings => exact gives_of gwSource (fun _ _ _ => rfl) fun q e ⟨hlen, h5⟩ => gwSource_valid e hlen h5
  case auth =>
    exact stages_of gwAuthPut (fun _ _ _ => rfl) fun q e ⟨hlen, h4, hlow, hhigh, hfresh, h0, hforward, hwindow, hoff, h10, hrefs⟩ =>
      gwAuthPut_valid ⟨hlen, h4, hlow, hhigh, hfresh, h0, hforward, hwindow, hoff, h10⟩ hrefs
  case canStatus => exact gives_of gwCanStat (fun _ _ _ => rfl) fun q e ⟨hlen, h4, hb⟩ => gwCanStat_valid e hlen h4 hb
  case linStatus => exact gives_of gwLinStat (fun _ _ _ => rfl) fun q e ⟨hlen, h4⟩ => gwLinStat_valid e hlen h4
  case drops => exact gives_of gwDropStat (fun _ _ _ => rfl) fun q e ⟨hlen, h4, hp⟩ => gwDropStat_valid e hlen h4 hp
  case tunnelStatus =>
    exact gives_of gwTunnelStat (fun _ _ _ => rfl) fun q e ⟨hlen, h4, htx⟩ =>
      (gwTunnelStat_valid e hlen h4 (by simp [htx])).trans (if_neg (by simp [htx]))
  case receiveTunnelStatus =>
    exact gives_of gwTunnelStat (fun _ _ _ => rfl) fun q e ⟨hlen, h4, hrx, hindex⟩ => (gwTunnelStat_valid e hlen h4 fun _ => hindex).trans (if_pos hrx)
  case routeStatus => exact gives_of gwRouteStat (fun _ _ _ => rfl) fun q e ⟨hlen, h4⟩ => gwRouteStat_valid e hlen h4

end Sys2Proof.Machine
end

section
/-!
PROOFS. The NM family of requests: wake sources, standby entry, segments, host requests, settings, the offender log, status (R573).
-/
namespace Sys2Proof.Machine
open Sys2Proof Sys2Proof.Safety

/-! ### Wake sources and standby (R359, R363, R624) -/

/-- The words of a wake-source record are in range, and no second source carries ignition (R359, R555). -/
structure WakeSourceFits (q : Req) (s : State) : Prop where
  length : q.args.length = 3
  reserved : mf q 4 13 0 = 0
  pins : mf q 4 31 27 < 16 ∨ (mf q 4 25 24 = 0 ∧ mf q 4 22 14 = 0)
  ignition : bit (mw q 4) 22 = false ∨ s.nm.source.any (fun x => x.1 ≠ mf q 4 31 27 && wsIgn x.2) = false
  reserved5 : mf q 5 31 28 = 0

theorem nmSourcePut_valid {q : Req} {s : State} (h : WakeSourceFits q s) :
    nmSourcePut q s = ok (setSource (mf q 4 31 27) { sourceOf s (mf q 4 31 27) with rec0 := q.args } s) := by
  refine need_ok h.length fun e he => ?_
  rcases List.mem_pair.mp he with rfl | rfl
  · have hpins : (decide (mf q 4 31 27 < 16) || (decide (mf q 4 25 24 = 0) && decide (mf q 4 22 14 = 0))) = true := by simpa using h.pins
    have hsingle : (!(bit (mw q 4) 22 && s.nm.source.any fun x => decide (x.1 ≠ mf q 4 31 27) && wsIgn x.2)) = true := by
      rw [Bool.not_eq_true', Bool.and_eq_false_iff]
      exact h.ignition
    simp only [h.reserved, hpins, hsingle, decide_true, Bool.and_self]
  · exact decide_eq_true h.reserved5

/-- A managed segment that is awake or preparing, a download, an activation or a fuse write keeps the device from standby (R363, R624). -/
def standbyBlocked (s : State) : Bool :=
  (List.range 60).any (fun i => segManaged (segOf s i) && (segOf s i).state ≤ 1) || inFlight s (fun op => op = 0x0D02 || op = 0x0D03) || fuseBusy s

/-- A standby request in range begins an entry with its level and timer, or meets BUSY (R363, R573). -/
theorem nmStandbyGo_valid {q : Req} (s : State) (hlen : q.args.length = 2) (h4 : only (mw q 4) [(1, 0)] = true) :
    nmStandbyGo q s =
      if standbyBlocked s then busy s
      else ok (startEntry (mf q 4 1 0) (regPut (rCROCUS 0x00) 31 30 (mf q 4 1 0) (regPut (rCROCUS 0x04) 31 0 (mw q 5).toNat s))) :=
  need_ok hlen (by simp [h4])

theorem standbyBlocked_eq_false {s : State} (hsegments : (List.range 60).any (fun i => segManaged (segOf s i) && (segOf s i).state ≤ 1) = false)
    (hjobs : inFlight s (fun op => op = 0x0D02 || op = 0x0D03) = false) (hfuse : fuseBusy s = false) : standbyBlocked s = false := by
  rw [standbyBlocked, hsegments, hjobs, hfuse]
  rfl

theorem standbyBlocked_eq_true {s : State} (h : (List.range 60).any (fun i => segManaged (segOf s i) && (segOf s i).state ≤ 1) = true ∨
    inFlight s (fun op => op = 0x0D02 || op = 0x0D03) = true ∨ fuseBusy s = true) : standbyBlocked s = true := by
  rwa [standbyBlocked, Bool.or_eq_true, Bool.or_eq_true, or_assoc]

/-! ### Segments and host requests (R368, R370, R376, R384) -/

theorem nmSegmentPut_valid {q : Req} (s : State) (hlen : q.args.length = 8) (hchecks : (segmentChecks q.args).all (·.2) = true) :
    nmSegmentPut q s = stage (.segment (mf q 4 31 26) q.args) s := need_ok hlen (List.all_eq_true.mp hchecks)

/-- A host request in range holds a segment or a cluster needed, lets it go, or gives the ignition-off hint (R370, R376, R384). -/
theorem nmRequestPut_valid {q : Req} (s : State) (hlen : q.args.length = 1) (h4 : only (mw q 4) [(31, 29), (5, 0)] = true) (hop : mf q 4 31 30 ≠ 3)
    (hindex : bit (mw q 4) 29 = true ∨ mf q 4 5 0 ≤ 59) :
    nmRequestPut q s = ok
      (if mf q 4 31 30 = 0 then hostNeeds (bit (mw q 4) 29) (mf q 4 5 0) q.mbx s
       else if mf q 4 31 30 = 1 then hostReleases (bit (mw q 4) 29) (mf q 4 5 0) q.mbx s
       else giveHint s) := need_ok hlen (by simpa [h4, hop] using hindex)

/-! ### Settings, the offender log and status (R385, R387, R389) -/

/-- The words of the settings are in range (R387). -/
structure NmSettingsFit (q : Req) : Prop where
  length : q.args.length = 4
  validLow : 100 ≤ mf q 4 31 21
  validHigh : mf q 4 31 21 ≤ 2000
  falseMax : 1 ≤ mf q 4 20 13
  wakeLow : 10 ≤ mf q 4 12 3
  wakeHigh : mf q 4 12 3 ≤ 1000
  reserved : mf q 4 1 0 = 0
  windowLow : 1 ≤ mf q 5 31 21
  windowHigh : mf q 5 31 21 ≤ 1440
  backoffLow : 1 ≤ mf q 5 20 10
  backoffHigh : mf q 5 20 10 ≤ 1440
  reserved5 : mf q 5 9 0 = 0
  offenderLow : 1 ≤ mf q 6 31 21
  offenderHigh : mf q 6 31 21 ≤ 1440
  reserved6 : mf q 6 20 0 = 0

theorem nmSettingsPut_valid {q : Req} (s : State) (h : NmSettingsFit q) : nmSettingsPut q s = ok { s with nm := { s.nm with settings := q.args } } :=
  need_ok h.length (by
    simp [h.validLow, h.validHigh, h.falseMax, h.wakeLow, h.wakeHigh, h.reserved, h.windowLow, h.windowHigh, h.backoffLow, h.backoffHigh, h.reserved5,
      h.offenderLow, h.offenderHigh, h.reserved6])

theorem nmOffenderRead_valid {q : Req} (s : State) (hlen : q.args = []) :
    nmOffenderRead q s = okWith (packW [(16, s.nm.logFull), (9, 0), (7, s.nm.log.length)] :: s.nm.log.flatMap offenderWords)
      (if q.clear then { s with nm := { s.nm with log := [], logFull := 0 } } else s) :=
  need_ok (List.length_eq_zero_iff.mpr hlen) (List.forall_mem_nil _)

theorem nmSegmentStat_valid {q : Req} (s : State) (hlen : q.args.length = 1) (h4 : only (mw q 4) [(5, 0)] = true) (hindex : mf q 4 5 0 ≤ 59) :
    nmSegmentStat q s = okWith (segmentStatus s (mf q 4 5 0))
      (if q.clear then
        setSeg (mf q 4 5 0) { segOf s (mf q 4 5 0) with sleeps := 0, wakes := 0, races := 0, sleepDrop := 0, kaRx := 0, kaTx := 0, kaIgnored := 0, gtsCut := 0 } s
       else s) := need_ok hlen (by simp [h4, hindex])

theorem nmSourceStat_valid {q : Req} (s : State) (hlen : q.args.length = 1) (h4 : only (mw q 4) [(4, 0)] = true) :
    nmSourceStat q s = okWith (sourceStatus s (mf q 4 4 0))
      (if q.clear then setSource (mf q 4 4 0) { sourceOf s (mf q 4 4 0) with wakes := 0, falses := 0, maskedHits := 0, maskings := 0 } s else s) :=
  need_ok hlen (by simp [h4])

/-- Settles O17: each NM request in range writes, stages, acts or answers as its rule says, or meets BUSY while something keeps the device from standby. -/
theorem networkManagementRequestsTakeEffect : Obligations.NetworkManagementRequestsTakeEffect := by
  unfold Obligations.NetworkManagementRequestsTakeEffect
  refine ⟨?source, ?standby, ?standbyBusy, ?segment, ?hold, ?release, ?hint, ?settings, ?offenders, ?segmentStatus, ?sourceStatus⟩
  case source =>
    exact gives_of nmSourcePut (fun _ _ _ => rfl) fun q e ⟨hlen, h0, hpins, hsingle, h5⟩ => nmSourcePut_valid ⟨hlen, h0, hpins, hsingle, h5⟩
  case standby =>
    refine gives_of nmStandbyGo (fun _ _ _ => rfl) fun q e ⟨hlen, h4, hsegments, hjobs, hfuse⟩ => ?_
    exact (nmStandbyGo_valid e hlen h4).trans (if_neg (Bool.eq_false_iff.mp (standbyBlocked_eq_false hsegments hjobs hfuse)))
  case standbyBusy =>
    exact refuses_of nmStandbyGo (fun _ _ _ => rfl) fun q e ⟨hlen, h4, hblocked⟩ =>
      (nmStandbyGo_valid e hlen h4).trans (if_pos (standbyBlocked_eq_true hblocked))
  case segment => exact stages_of nmSegmentPut (fun _ _ _ => rfl) fun q e ⟨hlen, hchecks⟩ => nmSegmentPut_valid e hlen hchecks
  case hold =>
    refine gives_of nmRequestPut (fun _ _ _ => rfl) fun q e ⟨hlen, h4, hop, hindex⟩ => ?_
    rw [nmRequestPut_valid e hlen h4 (by omega) hindex, if_pos hop]
    rfl
  case release =>
    refine gives_of nmRequestPut (fun _ _ _ => rfl) fun q e ⟨hlen, h4, hop, hindex⟩ => ?_
    rw [nmRequestPut_valid e hlen h4 (by omega) hindex, if_neg (by omega), if_pos hop]
    rfl
  case hint =>
    refine gives_of nmRequestPut (fun _ _ _ => rfl) fun q e ⟨hlen, h4, hop, hindex⟩ => ?_
    rw [nmRequestPut_valid e hlen h4 (by omega) hindex, if_neg (by omega), if_neg (by omega)]
    rfl
  case settings =>
    exact gives_of nmSettingsPut (fun _ _ _ => rfl)
      fun q e ⟨hlen, hvlow, hvhigh, hfalse, hwlow, hwhigh, h0, hnlow, hnhigh, hblow, hbhigh, h5, holow, hohigh, h6⟩ =>
        nmSettingsPut_valid e ⟨hlen, hvlow, hvhigh, hfalse, hwlow, hwhigh, h0, hnlow, hnhigh, hblow, hbhigh, h5, holow, hohigh, h6⟩
  case offenders => exact gives_of nmOffenderRead (fun _ _ _ => rfl) fun q e hlen => nmOffenderRead_valid e hlen
  case segmentStatus => exact gives_of nmSegmentStat (fun _ _ _ => rfl) fun q e ⟨hlen, h4, hindex⟩ => nmSegmentStat_valid e hlen h4 hindex
  case sourceStatus => exact gives_of nmSourceStat (fun _ _ _ => rfl) fun q e ⟨hlen, h4⟩ => nmSourceStat_valid e hlen h4

end Sys2Proof.Machine
end

section
/-!
PROOFS. The events of wake sources, of standby entry and of the ignition (R355 to R366, R381 to R384).
-/
namespace Sys2Proof.Machine
open Sys2Proof Sys2Proof.Safety

/-! ### Wakes (R360 to R362, R365, R382) -/

/-- The state in which an event of a source qualifies: a validation window that ends in this cycle has ended (R381, R391). -/
def qualifying (i : Nat) (s : State) : State := if coreOn s = true then windowEnds i s else s

/-- What every wake event leaves: the flag of its source, and one more wake counted (R357, R389). -/
def wakeFlagged (i : Nat) (s : State) : State :=
  setFlag (rCROCUS 0x0C) i (setSource i { sourceOf s i with wakes := satAdd 32 (sourceOf s i).wakes 1 } s)

/-- An event of a watched and enabled source is a masked hit while its back-off runs, and else a wake (R360, R382). -/
theorem qualify_of_watched {i : Nat} {s : State} (hi : i < 32) (hen : wsEnabled (sourceOf (qualifying i s) i) = true)
    (hwatched : watched (qualifying i s) i = true) :
    qualify i s =
      if (sourceOf (qualifying i s) i).maskEnd.isSome then
        setSource i { sourceOf (qualifying i s) i with maskedHits := satAdd 32 (sourceOf (qualifying i s) i).maskedHits 1 } (qualifying i s)
      else wakeEvent i (qualifying i s) :=
  if_neg (by
    change ¬ (decide (32 ≤ i) || !wsEnabled (sourceOf (qualifying i s) i) || !watched (qualifying i s) i) = true
    simp [hen, hwatched, hi])

/-- While the core runs and no entry is in progress a wake asks the segments of its mask to wake; none of them being asleep, it opens no validation window
(R362, R376, R381). -/
theorem wakeEvent_of_running {i : Nat} {s : State} (hon : coreOn s = true) (hentry : s.nm.entry = none)
    (hawake : ∀ g ∈ maskBits (wsMask (sourceOf s i)) 60, segManaged (segOf s g) = false ∨ (segOf s g).state ≠ 3) :
    wakeEvent i s = sourceEvent i ((maskBits (wsMask (sourceOf s i)) 60).foldl (fun e g => wakeRequest g 1 i e) (wakeFlagged i s)) := by
  have hnone : (maskBits (wsMask (sourceOf s i)) 60).any (fun g => segManaged (segOf s g) && decide ((segOf s g).state = 3)) = false := by
    simpa only [List.any_eq_false, Bool.and_eq_true, decide_eq_true_eq, not_and_or, Bool.not_eq_true, ne_eq] using hawake
  refine (if_neg (by simp [hon, hentry])).trans ?_
  simp only [hnone, Bool.false_and, Bool.false_eq_true, if_false]
  rfl

/-- In standby a wake is latched; without a start or a race hold in progress it starts the core (R357, R362, R365). -/
theorem wakeEvent_of_standby {i level start : Nat} {s : State} (hoff : coreOn s = false) (hasleep : s.nm.asleep = some (level, start))
    (hrace : s.nm.raceHold = none) (hlow : s.nm.wakeOut = false) :
    wakeEvent i s = riseWakeOut level
      { wakeFlagged i s with nm := { (wakeFlagged i s).nm with wakes := (wakeFlagged i s).nm.wakes ++ [(i, s.time.now)] } } := by
  refine (if_pos (by simp [hoff])).trans ?_
  simp only [hasleep, hrace, hlow, Option.isSome_none, Bool.false_eq_true, if_false]
  rfl

/-- The wake timer wakes in standby as source 30, once its count is reached (R361). -/
theorem wakeTimer_of_due {level start : Nat} {s : State} (hasleep : s.nm.asleep = some (level, start)) (hset : (regGet s (rCROCUS 0x04)).toNat ≠ 0)
    (hdue : start * 32768 + (regGet s (rCROCUS 0x04)).toNat * 1000000000 ≤ s.time.now * 32768) : wakeTimer s = qualify 30 s := by
  simp only [wakeTimer, hasleep]
  exact if_pos (by simp [hset, hdue])

/-! ### Validation and back-off (R381 to R383) -/

/-- A validation window whose time has come ends as a false wake (R381). -/
theorem windowEnds_of_due {i e : Nat} {s : State} (hopen : (sourceOf s i).opened = true) (hend : (sourceOf s i).validEnd = some e) (hdue : e ≤ s.time.now) :
    windowEnds i s = falseWake i s := by
  simp only [windowEnds, hopen, hend]
  exact if_pos hdue

/-- A back-off whose time has come ends, and its source is watched unmasked (R382, R383). -/
theorem unmask_of_due {i e : Nat} {s : State} (hmask : (sourceOf s i).maskEnd = some e) (hruns : lowPowerRuns s = true) (hdue : e ≤ s.time.now) :
    unmask i s = sourceEvent i (regPut (rCROCUS 0x10) i i 0 (setSource i { sourceOf s i with maskEnd := none } s)) := by
  simp only [unmask, hmask]
  exact if_pos (by simp [hruns, hdue])

/-! ### The ignition (R384, R391) -/

/-- The hint is given in every cycle but the one in which the pin returns active (R384, R391). -/
theorem giveHint_of_not_back {s : State} (h : s.nm.ignBack ≠ s.time.now + 1) :
    giveHint s = hintEvent { s with nm := { s.nm with hint := some s.time.now, logging := false } } := if_neg h

/-- The pin of a source that carries ignition gives the hint as it falls, and ends it as it rises (R384). -/
theorem ignitionPin_of_carried {s : State} (active : Bool) (h : s.nm.source.any (fun e => wsEnabled e.2 && wsIgn e.2) = true) :
    ignitionPin active s = if active then endHint s else giveHint s := if_neg (by simp [h])

/-! ### Standby entry (R364, R365, R509) -/

/-- What completes an entry completes the one that runs, unless a command of this very cycle has taken the place of another (R509). -/
theorem completing_of_standing {s : State} (k : State → State) (h : s.nm.entryWas.map (·.1) ≠ some s.time.now) : completing k s = k s := by
  unfold completing
  split
  next c e hwas =>
    have hc : c ≠ s.time.now := by simpa [hwas] using h
    exact if_neg (by simp [hc])
  next => rfl

/-- The acknowledgement of the snapshot that an entry awaits completes it with retention (R364, R642). -/
theorem snapshotAck_of_awaited {s : State} {e : StandbyEntry} (hentry : s.nm.entry = some e) (hstep : e.step = 2) :
    snapshotAck s = finishEntry { s with nm := { s.nm with snapshot := true }, sys := { s.sys with fw := { s.sys.fw with kernel := true } } } := by
  simp only [snapshotAck, hentry]
  exact if_pos hstep

/-- An entry that is not complete 20 ms after its boundary is completed without retention (R364). -/
theorem entryTimeout_of_due {s : State} {e : StandbyEntry} (hentry : s.nm.entry = some e) (hbegun : 1 ≤ e.step) (hdue : e.since + 20000000 ≤ s.time.now) :
    entryTimeout s = finishEntry (regPut (rCROCUS 0x08) 29 29 0 { s with nm := { s.nm with snapshot := false } }) := by
  simp only [entryTimeout, hentry]
  exact if_pos (by simp [hbegun, hdue])

/-- The hold of a wake that raced an entry ends with the start of the core (R365). -/
theorem raceEnds_of_due {s : State} {h level start : Nat} (hrace : s.nm.raceHold = some h) (hasleep : s.nm.asleep = some (level, start))
    (hdue : h ≤ s.time.now) : raceEnds s = riseWakeOut level s := by
  simp only [raceEnds, hrace, hasleep]
  exact if_pos hdue

/-- Settles O29: each event of a wake source, of a standby entry and of the ignition does what its rule says. -/
theorem wakeAndStandbyEventsTakeEffect : Obligations.WakeAndStandbyEventsTakeEffect := by
  unfold Obligations.WakeAndStandbyEventsTakeEffect
  refine ⟨fun i hi => ?masked, fun i hi => ?running, fun i level start hi => ?standby, fun level start => ?timer, ?ignitionFalls, ?ignitionRises,
    fun h => ?offenders, fun e => ?snapshot, fun e => ?timeout, fun h level start => ?race, fun i e => ?validation, fun i e => ?falseWindow,
    fun i e hi => ?backoff⟩
  case masked =>
    exact doesAlways_of (qualify i) (fun _ _ => rfl) fun s ⟨hen, hwatched, hmasked⟩ => (qualify_of_watched hi hen hwatched).trans (if_pos hmasked)
  case running =>
    refine doesAlways_of (qualify i) (fun _ _ => rfl) fun s ⟨hcore, hen, hwatched, hmask, hon, hentry, hawake⟩ => ?_
    have hq : qualifying i s = windowEnds i s := if_pos hcore
    rw [qualify_of_watched hi (hq ▸ hen) (hq ▸ hwatched), hq, if_neg (by simp [hmask])]
    exact wakeEvent_of_running hon hentry hawake
  case standby =>
    refine doesAlways_of (qualify i) (fun _ _ => rfl) fun s ⟨hen, hwatched, hmask, hoff, hasleep, hrace, hlow⟩ => ?_
    have hq : qualifying i s = s := if_neg (Bool.eq_false_iff.mp hoff)
    rw [qualify_of_watched hi (hq.symm ▸ hen) (hq.symm ▸ hwatched), hq, if_neg (by simp [hmask])]
    exact wakeEvent_of_standby hoff hasleep hrace hlow
  case timer => exact doesAlways_of wakeTimer (fun _ _ => rfl) fun s ⟨hasleep, hset, hdue⟩ => wakeTimer_of_due hasleep hset hdue
  case ignitionFalls =>
    exact doesAlways_of (ignitionPin false) (fun _ _ => rfl) fun s ⟨hcarried, hback⟩ =>
      (ignitionPin_of_carried false hcarried).trans (giveHint_of_not_back hback)
  case ignitionRises => exact doesAlways_of (ignitionPin true) (fun _ _ => rfl) fun s hcarried => ignitionPin_of_carried true hcarried
  case offenders =>
    refine does_of _ (fun t s => (rfl : execOffenderMinExpiry t s = _)) fun s _ ⟨hhint, hlogging, hdue⟩ => ?_
    simp only [hhint]
    exact if_pos (by simp [hlogging, hdue])
  case snapshot =>
    exact does_of (completing snapshotAck) (fun _ _ => rfl) fun s _ ⟨hentry, hstep, hwas⟩ =>
      (completing_of_standing _ hwas).trans (snapshotAck_of_awaited hentry hstep)
  case timeout =>
    exact does_of (completing entryTimeout) (fun _ _ => rfl) fun s _ ⟨hentry, hbegun, hdue, hwas⟩ =>
      (completing_of_standing _ hwas).trans (entryTimeout_of_due hentry hbegun hdue)
  case race => exact doesAlways_of raceEnds (fun _ _ => rfl) fun s ⟨hrace, hasleep, hdue⟩ => raceEnds_of_due hrace hasleep hdue
  case validation => exact does_of (windowEnds i) (fun _ _ => rfl) fun s _ ⟨hopen, hend, hdue⟩ => windowEnds_of_due hopen hend hdue
  case falseWindow =>
    refine doesAlways_of _ (fun t s => (rfl : execFalseWinExpiry t i s = _)) fun s ⟨hend, hruns, hdue⟩ => ?_
    simp only [hend]
    exact if_pos (by simp [hruns, hdue])
  case backoff =>
    refine doesAlways_of _ (fun t s => (rfl : execBackoffExpiry t i s = _)) fun s ⟨hmask, hruns, hdue⟩ => ?_
    exact (if_pos hi).trans (unmask_of_due hmask hruns hdue)

end Sys2Proof.Machine
end

section
/-!
PROOFS. The timers and shutdowns of the network segments (R369 to R380).
-/
namespace Sys2Proof.Machine
open Sys2Proof Sys2Proof.Safety

/-! ### Ends of timers (R370, R373, R380) -/

/-- A need timer that has run for READY_MS is gone, and its segment is checked for sleep (R370, R373). -/
theorem needExpired_of_due {i a : Nat} {s : State} (htimer : (segOf s i).timer = some a) (hdue : a + segReady (segOf s i) ≤ s.time.now) :
    needExpired i s = segCheck i (setSeg i { segOf s i with timer := none } s) := by
  simp only [needExpired, htimer]
  exact if_pos hdue

/-- A cluster's timer that has run for its segment's READY_MS is gone, and all segments are checked for sleep (R370, R373). -/
theorem clusterExpired_of_due {c a i : Nat} {s : State} (htimer : tget none s.nm.cluster c = some (a, i)) (hdue : a + segReady (segOf s i) ≤ s.time.now) :
    clusterExpired c s = segCheckAll { s with nm := { s.nm with cluster := tset none s.nm.cluster c none } } := by
  simp only [clusterExpired, htimer]
  exact if_pos hdue

/-- A segment in PREPARE whose time has ended waits for a boundary (R373). -/
theorem prepareEnds_of_due {i e : Nat} {s : State} (hprep : (segOf s i).prep = some e) (hstate : (segOf s i).state = 1) (hdue : e ≤ s.time.now) :
    prepareEnds i s = setSeg i { segOf s i with commit := true } s := by
  simp only [prepareEnds, hprep]
  exact if_pos (by simp [hstate, hdue])

/-- A segment that is still WAKING after WAKE_TO drops what it holds, with the event (R380). -/
theorem wakeTimedOut_of_due {i : Nat} {s : State} (hstate : (segOf s i).state = 4) (hdue : (segOf s i).wakingAt + nmWakeTo s ≤ s.time.now)
    (hheld : (segOf s i).held ≠ []) :
    wakeTimedOut i s = nmEvent 25 i ((segOf s i).held.foldl (fun e h => sleepDropped i (dropHeld i h e)) (setSeg i { segOf s i with held := [] } s)) :=
  if_pos (by simp [hstate, hdue, hheld])

theorem wakeTimedOut_of_not_waking {i : Nat} {s : State} (h : (segOf s i).state ≠ 4) : wakeTimedOut i s = s := if_neg (by simp [h])

/-! ### Shutdowns (R374, R377) -/

/-- What a segment whose bus is quiet releases as its shutdown completes: a CAN controller its slots and its transceiver (R374). -/
def busDown (i : Nat) (s : State) : State := if segIsCan i then drivePin i true (discardSlots (i - 28) 0x06 s) else s

/-- The bus of a segment down, with one more sleep of it counted (R374, R389). -/
def sleepCounted (i : Nat) (s : State) : State := setSeg i { segOf (busDown i s) i with sleeps := satAdd 32 (segOf s i).sleeps 1 } (busDown i s)

/-- A shutdown completes once no frame of the device is on the bus: a wake latched against it starts the segment again unless a standby entry runs, and else
the segment is ASLEEP (R364, R374, R377). -/
theorem shutDown_of_quiet {i : Nat} {s : State} (hstate : (segOf s i).state = 2) (hquiet : segIsCan i = true → (canOf s (i - 28)).sending = none) :
    shutDown i s =
      match (segOf s i).latch, s.nm.entry with
      | some (kind, src), none => startWaking i kind src ((sleepCounted i s).atTime (s.time.now + 1))
      | _, _ => completing entryShutDown (segTo i 3 (setSeg i { segOf (sleepCounted i s) i with latch := none } (sleepCounted i s))) := by
  have hidle : (segIsCan i && (canOf s (i - 28)).sending.isSome) = false := by
    cases hcan : segIsCan i with
    | false => rfl
    | true => rw [hquiet hcan]; rfl
  exact if_neg (by simp [hstate, hidle])

/-- Without a latched wake a shutdown ends in ASLEEP, and lets a standby entry go on (R364, R374). -/
theorem shutDown_of_unlatched {i : Nat} {s : State} (hstate : (segOf s i).state = 2) (hquiet : segIsCan i = true → (canOf s (i - 28)).sending = none)
    (hlatch : (segOf s i).latch = none) :
    shutDown i s = completing entryShutDown (segTo i 3 (setSeg i { segOf (sleepCounted i s) i with latch := none } (sleepCounted i s))) := by
  rw [shutDown_of_quiet hstate hquiet, hlatch]

/-- A latched wake starts the segment again in the next cycle, no standby entry being in progress (R377). -/
theorem shutDown_of_latched {i kind src : Nat} {s : State} (hstate : (segOf s i).state = 2)
    (hquiet : segIsCan i = true → (canOf s (i - 28)).sending = none) (hlatch : (segOf s i).latch = some (kind, src)) (hentry : s.nm.entry = none) :
    shutDown i s = startWaking i kind src ((sleepCounted i s).atTime (s.time.now + 1)) := by
  rw [shutDown_of_quiet hstate hquiet, hlatch, hentry]

theorem busDown_of_can {i : Nat} (s : State) (h : segIsCan i = true) : busDown i s = drivePin i true (discardSlots (i - 28) 0x06 s) := if_pos h

theorem busDown_of_not_can {i : Nat} (s : State) (h : segIsCan i = false) : busDown i s = s := if_neg (Bool.eq_false_iff.mp h)

/-! ### Keep-alives (R369, R371) -/

/-- A keep-alive that a port segment owes is counted, and enters the switch as a frame of port 29 for that port (R369, R371). -/
theorem sendKeepAlive_of_port {i : Nat} {s : State} (hi : i < 28) (hmanaged : segManaged (segOf s i) = true) (hsends : flag (segOf s i).rec0 0 24 = true)
    (hawake : (segOf s i).state = 0) (hneeded : neededElse s i = true) (hdue : ∀ a, (segOf s i).kaLast = some a → a + segTxMs (segOf s i) ≤ s.time.now) :
    sendKeepAlive i s =
      let e := setSeg i { segOf s i with kaLast := some s.time.now, kaTx := satAdd 32 (segOf s i).kaTx 1 } s
      injectFrame { port := 29, bytes := keepAliveFrame e (segOf s i) (neededClusters s (segOf s i)), directed := some (2 ^ i)
                    cls := some (fld (segOf s i).rec0 0 9 7) } e := by
  have hport : segIsPort i = true := decide_eq_true hi
  refine (if_neg ?_).trans (if_pos hport)
  cases hlast : (segOf s i).kaLast with
  | none => simp [hmanaged, hsends, hawake, hneeded, hport]
  | some a => simp [hmanaged, hsends, hawake, hneeded, hport, hdue a hlast]

/-- Settles O30: each timer and each shutdown of a network segment does what its rule says. -/
theorem segmentEventsTakeEffect : Obligations.SegmentEventsTakeEffect := by
  unfold Obligations.SegmentEventsTakeEffect
  refine ⟨fun i hi => ?needTimer, fun i a s => needExpired_of_due, fun c => ?clusterTimer, fun c a i s => clusterExpired_of_due, fun i e => ?prepare,
    fun i hi => ?shutdown, fun i hi => ?canShutdown, fun i kind src hi => ?latched, fun i => ?wakeTimer, fun i s => wakeTimedOut_of_due,
    fun i s => wakeTimedOut_of_not_waking, fun i hi => ?keepAlive⟩
  case needTimer => exact does_of_bus (giveWay (.needEnds i)) hi (fun _ _ => rfl) fun _ _ => rfl
  case clusterTimer => exact does_of (giveWay (.clusterEnds c)) (fun _ _ => rfl) fun _ _ _ => rfl
  case prepare => exact does_of (prepareEnds i) (fun _ _ => rfl) fun s _ ⟨hprep, hstate, hdue⟩ => prepareEnds_of_due hprep hstate hdue
  case shutdown =>
    refine does_of_bus (shutDown i) hi (fun _ _ => rfl) fun s ⟨hstate, hcan, hlatch⟩ => ?_
    rw [shutDown_of_unlatched hstate (by simp [hcan]) hlatch, sleepCounted, busDown_of_not_can s hcan]
  case canShutdown =>
    refine does_of_bus (shutDown i) hi (fun _ _ => rfl) fun s ⟨hstate, hcan, hsending, hlatch⟩ => ?_
    rw [shutDown_of_unlatched hstate (fun _ => hsending) hlatch, sleepCounted, busDown_of_can s hcan]
  case latched =>
    refine does_of_bus (shutDown i) hi (fun _ _ => rfl) fun s ⟨hstate, hcan, hlatch, hentry⟩ => ?_
    rw [shutDown_of_latched hstate (by simp [hcan]) hlatch hentry, sleepCounted, busDown_of_not_can s hcan]
  case wakeTimer => exact does_of (giveWay (.wakeLate i)) (fun _ _ => rfl) fun _ _ _ => rfl
  case keepAlive =>
    exact does_of_bus (sendKeepAlive i) (Nat.lt_of_lt_of_le hi (by decide)) (fun _ _ => rfl) fun s ⟨hmanaged, hsends, hawake, hneeded, hdue⟩ =>
      sendKeepAlive_of_port hi hmanaged hsends hawake hneeded hdue

end Sys2Proof.Machine
end

section
/-!
PROOFS. The KEY, CRYPT and TRACE families of requests (R574 to R577).
-/
namespace Sys2Proof.Machine
open Sys2Proof Sys2Proof.Safety

/-- How a statement of a request whose reply is named as a whole follows from its handler. -/
theorem concludes_of {c : Nat → Req → Instr} {op t : Nat} {q : Req} {s : State} {r : Reply} (h : Req → State → Reply)
    (hc : ∀ t q s, exec (c t q) s = request t op h q s) (htaken : Taken op t q s) (hr : h q (entered t op q s) = r) :
    exec (c t q) s = ends s (conclude op q r.1 r.2) := by
  rw [hc, request_taken _ _ _ _ _ htaken, hr]

/-- A request whose first word is out of range is refused for that word (R555, R559). -/
theorem need_firstBad {len n : Nat} {q : Req} {s : State} {k : Reply} {ok0 : Bool} {l : List (Nat × Bool)} (hlen : q.args.length = len) (hbad : ok0 = false) :
    need len q ((n, ok0) :: l) s k = rangeAt n s := by
  rw [need, if_neg (not_not.mpr hlen), hbad]
  rfl

/-! ### Slots that are written (R397 to R401) -/

theorem slotFree_of_unfixed {s : State} {i : Nat} (hi : i ≠ 0) (hfixed : (slotAt s i).fixed = false) : slotFree s i = true := by simp [slotFree, hi, hfixed]

theorem slotFree_zero (s : State) : slotFree s 0 = false := rfl

/-- The gate of the bulk engine lets a command pass that finds an entry and no cause to fail at its start (R401, R404). -/
theorem keyGate_of_ready {s : State} {noKey : Bool} {slot : Nat} {op : BulkOp} (k : Reply) (hroom : bulkRoom s 6 = true)
    (hstart : startStatus s { requester := 6, op := op, slot := slot, noKey := noKey } = 0) : keyGate s noKey slot op k = k := by
  rw [keyGate, hroom]
  exact if_pos hstart

/-- The words of an unwrap request are in range, and its target can be written (R397, R574). -/
structure UnwrapFits (q : Req) (s : State) : Prop where
  length : q.args.length = 2 + (mf q 5 15 0 + 3) / 4
  reserved : only (mw q 4) [(31, 16)] = true
  target : mf q 4 23 16 ≠ 0
  unfixed : (slotAt s (mf q 4 23 16)).fixed = false
  reserved5 : only (mw q 5) [(15, 0)] = true
  blobLow : 24 ≤ mf q 5 15 0
  blobHigh : mf q 5 15 0 ≤ 64

/-- An unwrapped blob has the form of a key that its type and its USAGE fit (R398). -/
structure KeyBlob (b : Bytes) : Prop where
  magic : beAt b 0 2 = 0x5344
  reserved : byteAt b 3 = 0
  length : b.length = 8 + keyBytes (byteAt b 2)
  type : keyBytes (byteAt b 2) ≠ 0
  usage : usageOk (byteAt b 2) (beAt b 4 2) = true

/-- Unwrapping puts the key of a blob that authenticates, and whose USAGE the key of the wrap passes on, into the target (R398). -/
theorem keyUnwrapPut_valid {q : Req} {s : State} {b : Bytes} (halarm : s.ciph.alarm = false) (h : UnwrapFits q s) (hroom : bulkRoom s 6 = true)
    (hstart : startStatus s { requester := 6, op := .unwrap, slot := mf q 4 31 24 } = 0)
    (hblob : unwrapBlob (slotSeen s (mf q 4 31 24)).key ((recBytes (q.args.drop 2)).take (mf q 5 15 0)) = some b) (hb : KeyBlob b)
    (hchild : beAt b 4 2 &&& (slotSeen s (mf q 4 31 24)).childUsage = beAt b 4 2) :
    keyUnwrapPut q s = keyPut (mf q 4 23 16) (byteAt b 2) 1 (mf q 4 31 24) (beAt b 4 2) (b.drop 8) s := by
  refine (if_neg (by simp [halarm])).trans ((need_ok h.length ?_).trans ((keyGate_of_ready _ hroom hstart).trans ?_))
  · simp [h.reserved, slotFree_of_unfixed h.target h.unfixed, h.reserved5, h.blobLow, h.blobHigh]
  · simp only [hblob]
    refine (if_neg ?_).trans (if_neg (not_not.mpr hchild))
    simp [hb.magic, hb.reserved, hb.length, hb.type, hb.usage]

/-- The words of a derivation are in range, and its target can be written (R395, R397, R399, R574). -/
structure DeriveFits (q : Req) (s : State) : Prop where
  length : q.args.length = 2 + (mf q 4 5 0 + 3) / 4 + (mf q 5 6 0 + 3) / 4
  reserved : only (mw q 4) [(31, 12), (5, 0)] = true
  target : mf q 4 23 16 ≠ 0
  unfixed : (slotAt s (mf q 4 23 16)).fixed = false
  type : keyBytes (mf q 4 15 12) ≠ 0
  label : mf q 4 5 0 ≤ 32
  reserved5 : only (mw q 5) [(31, 16), (6, 0)] = true
  usage : usageOk (mf q 4 15 12) (mf q 5 31 16) = true
  context : mf q 5 6 0 ≤ 64

/-- A derivation puts a key of the KDF into the target, with a USAGE that the source passes on (R399). -/
theorem keyDerivePut_valid {q : Req} {s : State} (halarm : s.ciph.alarm = false) (h : DeriveFits q s) (hroom : bulkRoom s 6 = true)
    (hstart : startStatus s { requester := 6, op := .derive, slot := mf q 4 31 24 } = 0)
    (hchild : mf q 5 31 16 &&& (slotSeen s (mf q 4 31 24)).childUsage = mf q 5 31 16) :
    keyDerivePut q s =
      keyPut (mf q 4 23 16) (mf q 4 15 12) 2 (mf q 4 31 24) (mf q 5 31 16)
        (kdf (slotSeen s (mf q 4 31 24)).key ((recBytes (q.args.drop 2)).take (mf q 4 5 0))
          ((recBytes (q.args.drop (2 + (mf q 4 5 0 + 3) / 4))).take (mf q 5 6 0)) (keyBytes (mf q 4 15 12))) s := by
  refine (if_neg (by simp [halarm])).trans ((need_ok h.length ?_).trans ((keyGate_of_ready _ hroom hstart).trans (if_neg (not_not.mpr hchild))))
  simp [h.reserved, slotFree_of_unfixed h.target h.unfixed, h.type, h.label, h.reserved5, h.usage, h.context]

/-- The target, type and USAGE of a key that is generated or written in plain are in range (R395, R397, R574). -/
structure NewKeyFits (q : Req) (s : State) : Prop where
  reserved : only (mw q 4) [(23, 12)] = true
  target : mf q 4 23 16 ≠ 0
  unfixed : (slotAt s (mf q 4 23 16)).fixed = false
  type : keyBytes (mf q 4 15 12) ≠ 0
  reserved5 : only (mw q 5) [(31, 16)] = true
  usage : usageOk (mf q 4 15 12) (mf q 5 31 16) = true

theorem newKey_words {q : Req} {s : State} (h : NewKeyFits q s) :
    ∀ e ∈ [(4, only (mw q 4) [(23, 12)] && slotFree s (mf q 4 23 16) && keyBytes (mf q 4 15 12) ≠ 0),
      (5, only (mw q 5) [(31, 16)] && usageOk (mf q 4 15 12) (mf q 5 31 16))], e.2 = true := by
  simp [h.reserved, slotFree_of_unfixed h.target h.unfixed, h.type, h.reserved5, h.usage]

theorem keyGeneratePut_valid {q : Req} {s : State} (halarm : s.ciph.alarm = false) (hlen : q.args.length = 2) (h : NewKeyFits q s) (hroom : bulkRoom s 6 = true)
    (hstart : startStatus s { requester := 6, op := .keyGen, slot := 0, noKey := true } = 0) :
    keyGeneratePut q s =
      keyPut (mf q 4 23 16) (mf q 4 15 12) 3 0 (mf q 5 31 16) (randomBytes (keyBytes (mf q 4 15 12) / 8) s).1 (randomBytes (keyBytes (mf q 4 15 12) / 8) s).2 :=
  (if_neg (by simp [halarm])).trans ((need_ok hlen (newKey_words h)).trans (keyGate_of_ready _ hroom hstart))

theorem keyPlainPut_valid {q : Req} {s : State} (halarm : s.ciph.alarm = false) (hlen : q.args.length = 2 + keyBytes (mf q 4 15 12) / 4) (h : NewKeyFits q s) :
    keyPlainPut q s = keyPut (mf q 4 23 16) (mf q 4 15 12) 4 0 (mf q 5 31 16) (recBytes (q.args.drop 2)) s :=
  (if_neg (by simp [halarm])).trans (need_ok hlen (newKey_words h))

/-! ### Slots that are read or erased (R394, R396, R397) -/

theorem keyInfo_valid {q : Req} (s : State) (hlen : q.args.length = 1) (h4 : only (mw q 4) [(7, 0)] = true) :
    keyInfo q s = okWith (slotRecord (slotAt s (mf q 4 7 0))) s := need_ok hlen (by simp [h4])

theorem keyErasePut_valid {q : Req} {s : State} (halarm : s.ciph.alarm = false) (hlen : q.args.length = 1) (h4 : only (mw q 4) [(7, 0)] = true)
    (htarget : mf q 4 7 0 ≠ 0) (hfixed : (slotAt s (mf q 4 7 0)).fixed = false) :
    keyErasePut q s = okWith (slotRecord (slotAt (writeSlot (mf q 4 7 0) {} s) (mf q 4 7 0))) (writeSlot (mf q 4 7 0) {} s) :=
  (if_neg (by simp [halarm])).trans (need_ok hlen (by simp [h4, slotFree_of_unfixed htarget hfixed]))

theorem keyErasePut_of_alarm {q : Req} {s : State} (h : s.ciph.alarm = true) : keyErasePut q s = locked s := if_pos h

/-- Slot 0 is never erased (R397). -/
theorem keyErasePut_of_root {q : Req} {s : State} (halarm : s.ciph.alarm = false) (hlen : q.args.length = 1) (htarget : mf q 4 7 0 = 0) :
    keyErasePut q s = rangeAt 4 s := by
  refine (if_neg (by simp [halarm])).trans (need_firstBad hlen ?_)
  rw [htarget, slotFree_zero, Bool.and_false]

/-! ### Settings and MACsec (R402, R407, R409 to R411, R415, R419) -/

theorem cryptSettingsPut_valid {q : Req} (s : State) (hlen : q.args.length = 2) (h4 : only (mw q 4) [(6, 0)] = true) (hshareLow : 10 ≤ mf q 4 6 0)
    (hshareHigh : mf q 4 6 0 ≤ 90) (h5 : only (mw q 5) [(11, 0)] = true) (htestLow : 1 ≤ mf q 5 11 0) (htestHigh : mf q 5 11 0 ≤ 3600) :
    cryptSettingsPut q s = ok { s with ciph := { s.ciph with gwShare := mf q 4 6 0, testS := mf q 5 11 0 } } :=
  need_ok hlen (by simp [h4, hshareLow, hshareHigh, h5, htestLow, htestHigh])

/-- A SecY record in range stands for the port; the one that it replaces is kept for the frames that began before (R407). -/
theorem cryptSecyPut_valid {q : Req} (s : State) (hlen : q.args.length = 6) (hport : mf q 4 31 27 ≤ 27) (hvalidate : mf q 4 24 23 = 1 ∨ mf q 4 24 23 = 2)
    (hoffset : mf q 4 21 20 ≠ 3) (h4 : mf q 4 15 0 = 0) :
    cryptSecyPut q s = ok (setSecy (mf q 4 31 27) { secyOf s (mf q 4 31 27) with
      rec0 := q.args
      prev := (secyRec s (mf q 4 31 27), s.time.now) :: (secyOf s (mf q 4 31 27)).prev.filter (fun x => decide (s.time.now < x.2 + 10000000)) } s) :=
  need_ok hlen (by simpa [hport, hoffset, h4] using hvalidate)

/-- The words of a SA record are in range, whatever slot it names (R409, R575). -/
structure SaFits (q : Req) : Prop where
  length : q.args.length = 11
  index : only (mw q 4) [(8, 0)] = true
  reserved5 : mf q 5 12 0 = 0
  port : bit (mw q 5) 30 = true → mf q 5 25 21 ≤ 27
  reserved6 : mf q 6 7 0 = 0

/-- What a SA record in range does: the check of its slot refuses it, or it stands, with a copy of the key if it is VALID (R403, R409, R410). -/
theorem cryptSaPut_valid {q : Req} {s : State} (h : SaFits q)
    (hslot : bit (mw q 5) 31 = true → (slotSeen s (mf q 6 31 24)).type = 1 + mf q 5 26 26 ∧ (slotSeen s (mf q 6 31 24)).usage.testBit 0 = true) :
    cryptSaPut q s =
      if saStatus s (q.args.drop 1) ≠ 0 then keyRefused (saStatus s (q.args.drop 1)) (keyFailed (saStatus s (q.args.drop 1)) s)
      else ok (setSa (mf q 4 8 0)
        { rec0 := q.args.drop 1, next := cat64 (mw q 7) (mw q 8), key := if bit (mw q 5) 31 then some (slotSeen s (mf q 6 31 24)).key else none
          exhausted := decide (saLimit (q.args.drop 1) < cat64 (mw q 7) (mw q 8)) } s) := by
  unfold cryptSaPut
  simp only [fld_drop_one, flag_drop_one, rw_drop_one]
  refine need_ok h.length fun e he => ?_
  simp only [List.mem_cons, List.not_mem_nil, or_false] at he
  rcases he with rfl | rfl | rfl
  · exact h.index
  · have hfits : (!bit (mw q 5) 31 || decide ((slotSeen s (mf q 6 31 24)).type = 0) || (decide ((slotSeen s (mf q 6 31 24)).type = 1 + mf q 5 26 26) &&
        (slotSeen s (mf q 6 31 24)).usage.testBit 0)) = true := by
      cases hvalid : bit (mw q 5) 31 with
      | false => rfl
      | true => simp [hslot hvalid]
    have hport : (!bit (mw q 5) 30 || decide (mf q 5 25 21 ≤ 27)) = true := by
      cases htx : bit (mw q 5) 30 with
      | false => rfl
      | true => simpa using h.port htx
    simp only [h.reserved5, hport, hfits, decide_true, Bool.and_self]
  · simp [h.reserved6]

/-- A SA record that is not VALID needs no slot (R410). -/
theorem saStatus_of_invalid {q : Req} (s : State) (h : bit (mw q 5) 31 = false) : saStatus s (q.args.drop 1) = 0 := by
  rw [saStatus, flag_drop_one, h]
  rfl

theorem cryptScPut_valid {q : Req} (s : State) (hlen : q.args.length = 6) (h4 : only (mw q 4) [(7, 0)] = true) (h5 : mf q 5 25 0 = 0)
    (hport : mf q 5 30 26 ≤ 27) (h8 : mf q 8 31 27 = 0) (h9 : mf q 9 22 0 = 0) :
    cryptScPut q s = ok { s with ciph := { s.ciph with rxsc := tset [] s.ciph.rxsc (mf q 4 7 0) (q.args.drop 1) } } := by
  simp only [cryptScPut, fld_drop_one]
  exact need_ok hlen (by simp [h4, h5, hport, h8, h9])

theorem cryptSecyStat_valid {q : Req} (s : State) (hlen : q.args.length = 1) (h4 : only (mw q 4) [(4, 0)] = true) (hport : mf q 4 4 0 ≤ 27) :
    cryptSecyStat q s =
      okWith (secyStatus s (mf q 4 4 0)) (if q.clear then setSecy (mf q 4 4 0) { secyOf s (mf q 4 4 0) with counts := [] } s else s) :=
  need_ok hlen (by simp [h4, hport])

theorem cryptSaStat_valid {q : Req} (s : State) (hlen : q.args.length = 1) (h4 : only (mw q 4) [(8, 0)] = true) :
    cryptSaStat q s =
      okWith (split64 (saOf s (mf q 4 8 0)).next ++ [packW [(30, 0), (1, b2n (saOf s (mf q 4 8 0)).exhausted), (1, b2n (saOf s (mf q 4 8 0)).key.isSome)]]) s :=
  need_ok hlen (by simp [h4])

/-! ### A whole SHA-256 operation (R392, R576) -/

/-- The bytes that the input region of an operation stages (R576). -/
def stagedInput (q : Req) (s : State) : Bytes := (List.range (mf q 7 16 0)).map (fun i => memGet s (0xE0000 + mf q 6 16 0 + i))

/-- The words of a whole SHA-256 operation are in range (R576). -/
structure HashFits (q : Req) : Prop where
  length : q.args.length = 10
  op : mf q 4 31 28 = 6
  whole : mf q 4 27 26 = 0
  reserved5 : mf q 5 15 0 = 0
  aad : mf q 5 31 16 ≤ 4096
  reserved6 : only (mw q 6) [(16, 0)] = true
  reserved7 : only (mw q 7) [(16, 0)] = true
  input : mf q 6 16 0 + mf q 7 16 0 ≤ 131072
  part : mf q 7 16 0 ≤ 16384
  reserved8 : only (mw q 8) [(16, 0)] = true
  reserved9 : only (mw q 9) [(16, 0)] = true
  output : mf q 8 16 0 + mf q 9 16 0 ≤ 131072

/-- A SHA-256 operation that is whole gives no output stream, and its digest behind the status (R576). -/
theorem operate_sha256 {q : Req} (m old : Nat) (x : Session) (s : State) (hwhole : mf q 4 27 26 = 0) :
    operate m .sha256 q x old true s = okWith ([0, 0] ++ bytesRec (sha false x.input)) s := by
  simp [operate, opResult, opStreams, hwhole, memBytes, word]

/-- A whole SHA-256 operation needs no open session and no key: it answers the digest of what is staged (R576). -/
theorem cryptOperate_sha256 {q : Req} {s : State} (h : HashFits q) (hroom : bulkRoom s 5 = true)
    (hstart : opStart s .sha256 (mf q 4 23 16) (mf q 4 15 0) (bit (mw q 4) 25) false = 0) :
    cryptOperate q s = okWith ([0, 0] ++ bytesRec (sha false (stagedInput q s))) s := by
  have hop : cryptOp (mf q 4 31 28) = some .sha256 := by rw [h.op]; rfl
  simp only [cryptOperate, hop, h.whole]
  refine (need_ok h.length ?words).trans ((if_neg ?part).trans ((if_neg ?room).trans ((if_neg ?start).trans (operate_sha256 _ _ _ _ h.whole))))
  case words => simp [h.reserved5, h.aad, h.reserved6, h.reserved7, h.input, h.part, h.reserved8, h.reserved9, h.output]
  case part => cases tget none s.ciph.session q.mbx <;> simp
  case room => simp [hroom]
  case start => simp [hstart]

/-! ### The Contact Sheet (R458 to R462) -/

/-- The words of a frame selector are in range (R458, R459). -/
structure SelectorFits (q : Req) : Prop where
  length : q.args.length = 2
  index : mf q 4 30 27 ≠ 15
  mode : mf q 4 24 23 ≠ 3
  snap : mf q 4 22 19 ≤ 8
  reserved : mf q 4 17 0 = 0
  mode0 : mf q 4 24 23 = 0 → bit (mw q 5) 31 = false
  mode1 : mf q 4 24 23 = 1 → mf q 5 31 12 = 0

/-- A selector in range is written; in Field one with more than 2 snapshot records is LOCKED (R459). -/
theorem traceSelectorPut_valid {q : Req} (s : State) (h : SelectorFits q) :
    traceSelectorPut q s =
      if s.sys.fw.lifecycle = 2 && 2 < mf q 4 22 19 then locked s
      else ok { s with cs := { s.cs with sel := tset [] s.cs.sel (mf q 4 30 27) q.args } } := by
  simp only [traceSelectorPut, fld_args, flag_args]
  refine need_ok h.length fun e he => ?_
  rcases List.mem_pair.mp he with rfl | rfl
  · simp [h.index, h.mode, h.snap, h.reserved]
  · change (if mf q 4 24 23 = 0 then !bit (mw q 5) 31 else if mf q 4 24 23 = 1 then decide (mf q 5 31 12 = 0) else true) = true
    split_ifs with h0 h1
    · rw [h.mode0 h0]; rfl
    · exact decide_eq_true (h.mode1 h1)
    · rfl

/-- A channel of the trace as its record sets it, at the next record or at the oldest one (R460). -/
def exportChannel (q : Req) (s : State) : CsChan := { cfg := q.args, en := bit (mw q 4) 31, pos := if bit (mw q 4) 29 then oldestAt s else nextAt s }

/-- A channel record in range is set; the interval and the VLAN of frames are checked for channel 0 alone (R460, R462). -/
theorem traceExportPut_valid {q : Req} (s : State) (hlen : q.args.length = 4) (hclass : mf q 4 28 24 ≤ 28) (hreserved : bit (mw q 4) 0 = false)
    (h7 : mf q 7 3 0 = 0)
    (hframes : bit (mw q 4) 30 = true ∨ (1 ≤ mf q 4 15 2 ∧ mf q 4 15 2 ≤ 10000 ∧ 1 ≤ mf q 7 15 4 ∧ mf q 7 15 4 ≤ 4094)) :
    traceExportPut q s =
      ok { s with cs := if bit (mw q 4) 30 then { s.cs with chan1 := exportChannel q s } else { s.cs with chan0 := exportChannel q s } } := by
  simp only [traceExportPut, fld_args, flag_args]
  refine need_ok hlen ?_
  rcases hframes with hring | ⟨husLow, husHigh, hvidLow, hvidHigh⟩
  · simp [hclass, hreserved, h7, hring]
  · simp [hclass, hreserved, h7, husLow, husHigh, hvidLow, hvidHigh]

/-- TRACE_SNAP is written; in Field more than 2 is LOCKED (R459). -/
theorem traceSettingsPut_valid {q : Req} (s : State) (hlen : q.args.length = 1) (h4 : only (mw q 4) [(3, 0)] = true) (hsnap : mf q 4 3 0 ≤ 8) :
    traceSettingsPut q s =
      if s.sys.fw.lifecycle = 2 && 2 < mf q 4 3 0 then locked s else ok { s with cs := { s.cs with snap := mf q 4 3 0 } } :=
  need_ok hlen (by simp [h4, hsnap])

/-- Settles O18: each KEY, CRYPT and TRACE request in range writes, erases or answers as its rule says, or is refused under the alarm, for slot 0, or in
Field. -/
theorem cipherAndTraceRequestsTakeEffect : Obligations.CipherAndTraceRequestsTakeEffect := by
  unfold Obligations.CipherAndTraceRequestsTakeEffect
  refine ⟨?info, ?unwrap, ?derive, ?generate, ?plain, ?erase, ?eraseAlarm, ?eraseRoot, ?settings, ?secy, ?saValid, ?saInvalid, ?receiveSc, ?secyStatus,
    ?saStatus, ?hash, ?selector, ?selectorLocked, ?exportRing, ?exportFrames, ?snap⟩
  case info => exact gives_of keyInfo (fun _ _ _ => rfl) fun q e ⟨hlen, h4⟩ => keyInfo_valid e hlen h4
  case unwrap =>
    intro b t q s htaken e halarm hlen h4 htarget hfixed h5 hlow hhigh hroom hstart hblob hmagic hzero hblen htype husage hchild
    exact concludes_of keyUnwrapPut (fun _ _ _ => rfl) htaken
      (keyUnwrapPut_valid halarm ⟨hlen, h4, htarget, hfixed, h5, hlow, hhigh⟩ hroom hstart hblob ⟨hmagic, hzero, hblen, htype, husage⟩ hchild)
  case derive =>
    intro t q s htaken e lw halarm hlen h4 htarget hfixed htype hlabel h5 husage hcontext hroom hstart hchild
    exact concludes_of keyDerivePut (fun _ _ _ => rfl) htaken
      (keyDerivePut_valid halarm ⟨hlen, h4, htarget, hfixed, htype, hlabel, h5, husage, hcontext⟩ hroom hstart hchild)
  case generate =>
    intro t q s htaken e halarm hlen h4 htarget hfixed htype h5 husage hroom hstart
    exact concludes_of keyGeneratePut (fun _ _ _ => rfl) htaken
      (keyGeneratePut_valid halarm hlen ⟨h4, htarget, hfixed, htype, h5, husage⟩ hroom hstart)
  case plain =>
    intro t q s htaken e halarm hlen h4 htarget hfixed htype h5 husage
    exact concludes_of keyPlainPut (fun _ _ _ => rfl) htaken (keyPlainPut_valid halarm hlen ⟨h4, htarget, hfixed, htype, h5, husage⟩)
  case erase =>
    exact gives_of keyErasePut (fun _ _ _ => rfl) fun q e ⟨halarm, hlen, h4, htarget, hfixed⟩ => keyErasePut_valid halarm hlen h4 htarget hfixed
  case eraseAlarm => exact refuses_of keyErasePut (fun _ _ _ => rfl) fun q e halarm => keyErasePut_of_alarm halarm
  case eraseRoot => exact refuses_of keyErasePut (fun _ _ _ => rfl) fun q e ⟨halarm, hlen, htarget⟩ => keyErasePut_of_root halarm hlen htarget
  case settings =>
    exact gives_of cryptSettingsPut (fun _ _ _ => rfl) fun q e ⟨hlen, h4, hslow, hshigh, h5, htlow, hthigh⟩ =>
      cryptSettingsPut_valid e hlen h4 hslow hshigh h5 htlow hthigh
  case secy =>
    exact gives_of cryptSecyPut (fun _ _ _ => rfl) fun q e ⟨hlen, hport, hvalidate, hoffset, h4⟩ => cryptSecyPut_valid e hlen hport hvalidate hoffset h4
  case saValid =>
    refine gives_of cryptSaPut (fun _ _ _ => rfl) fun q e ⟨hlen, h4, h5, hport, hvalid, htype, husage, h6, hst⟩ => ?_
    rw [cryptSaPut_valid ⟨hlen, h4, h5, hport, h6⟩ fun _ => ⟨htype, husage⟩, if_neg (not_not.mpr hst), if_pos hvalid]
    rfl
  case saInvalid =>
    refine gives_of cryptSaPut (fun _ _ _ => rfl) fun q e ⟨hlen, h4, h5, hport, hinvalid, h6⟩ => ?_
    rw [cryptSaPut_valid ⟨hlen, h4, h5, hport, h6⟩ (by simp [hinvalid]), if_neg (not_not.mpr (saStatus_of_invalid e hinvalid)), if_neg (by simp [hinvalid])]
    rfl
  case receiveSc =>
    exact gives_of cryptScPut (fun _ _ _ => rfl) fun q e ⟨hlen, h4, h5, hport, h8, h9⟩ => cryptScPut_valid e hlen h4 h5 hport h8 h9
  case secyStatus => exact gives_of cryptSecyStat (fun _ _ _ => rfl) fun q e ⟨hlen, h4, hport⟩ => cryptSecyStat_valid e hlen h4 hport
  case saStatus => exact gives_of cryptSaStat (fun _ _ _ => rfl) fun q e ⟨hlen, h4⟩ => cryptSaStat_valid e hlen h4
  case hash =>
    exact gives_of cryptOperate (fun _ _ _ => rfl)
      fun q e ⟨hlen, hop, hwhole, h5, haad, h6, h7, hinput, hpart, h8, h9, houtput, hroom, hstart⟩ =>
        cryptOperate_sha256 ⟨hlen, hop, hwhole, h5, haad, h6, h7, hinput, hpart, h8, h9, houtput⟩ hroom hstart
  case selector =>
    refine gives_of traceSelectorPut (fun _ _ _ => rfl) fun q e ⟨hlen, hindex, hmode, hsnap, h4, h0, h1, hfield⟩ => ?_
    rw [traceSelectorPut_valid e ⟨hlen, hindex, hmode, hsnap, h4, h0, h1⟩, if_neg (by simpa [← not_or, imp_iff_not_or] using hfield)]
    rfl
  case selectorLocked =>
    refine refuses_of traceSelectorPut (fun _ _ _ => rfl) fun q e ⟨hlen, hindex, hmode, hsnap, h4, h0, h1, hfield, hlong⟩ => ?_
    rw [traceSelectorPut_valid e ⟨hlen, hindex, hmode, hsnap, h4, h0, h1⟩, if_pos (by simp [hfield, hlong])]
    rfl
  case exportRing =>
    refine gives_of traceExportPut (fun _ _ _ => rfl) fun q e ⟨hlen, hring, hclass, h4, h7⟩ => ?_
    rw [traceExportPut_valid e hlen hclass h4 h7 (.inl hring), if_pos hring]
    rfl
  case exportFrames =>
    refine gives_of traceExportPut (fun _ _ _ => rfl) fun q e ⟨hlen, hframes, hclass, h4, huslow, hushigh, h7, hvlow, hvhigh⟩ => ?_
    rw [traceExportPut_valid e hlen hclass h4 h7 (.inr ⟨huslow, hushigh, hvlow, hvhigh⟩), if_neg (by simp [hframes])]
    rfl
  case snap =>
    refine gives_of traceSettingsPut (fun _ _ _ => rfl) fun q e ⟨hlen, h4, hsnap, hfield⟩ => ?_
    rw [traceSettingsPut_valid e hlen h4 hsnap, if_neg (by simpa [← not_or, imp_iff_not_or] using hfield)]
    rfl

end Sys2Proof.Machine
end

section
/-!
PROOFS. The events of the cipher complex: bulk engine, alarm, self-tests, entropy (R400 to R405, R417 to R423).
-/
namespace Sys2Proof.Machine
open Sys2Proof Sys2Proof.Safety

/-- How a statement of a command of another domain follows from what it does while the core runs. -/
theorem does_of_always {c : Nat → Instr} {P : State → Prop} {eff : State → State} (f : State → State) (hc : ∀ t s, exec (c t) s = actAlways t f s)
    (hr : ∀ s, coreOn s = true → P s → f s = eff s) : Does c P eff := fun t s hon hp =>
  doesAlways_of (P := fun s => coreOn s = true ∧ P s) f hc (fun s ⟨hon, hp⟩ => hr s hon hp) t s ⟨hon, hp⟩

/-! ### The bulk queue (R401, R403, R405) -/

/-- A request that finds an entry, or is the gateway engine's, which waits for one, enters the queue (R401). -/
theorem bulkSubmit_of_room {r : BulkReq} {s : State} (h : bulkRoom s r.requester = true ∨ r.requester = 0) :
    (bulkSubmit r s).2 = { s with ciph := { s.ciph with queue := s.ciph.queue ++ [{ req := r, left := r.bytes }] } } := by
  rw [bulkSubmit, if_pos (by simpa using h)]

/-- Any other request that finds no entry is refused with the queue-full event (R401, R423). -/
theorem bulkSubmit_of_full {r : BulkReq} {s : State} (hr : r.requester ≠ 0) (h : bulkRoom s r.requester = false) :
    (bulkSubmit r s).2 = cipherEvent 6 0 s := by
  rw [bulkSubmit, if_neg (by simp [h, hr])]

/-- What the start of an entry leaves: its status is decided, its key copied unless it fails, and the failure of a key reported (R403, R405). -/
def entryStarted (i : Nat) (e : BulkEntry) (s : State) : State :=
  let st := if e.lost then 5 else startStatus s e.req
  keyFailed st (setEntry i { e with status := some st, key := if st = 0 ∧ e.req.noKey = false then (slotSeen s e.req.slot).key else [] } s)

/-- A request starts on the unit of its operation, when that is free and the turn is its requester's (R400, R402, R403). -/
theorem bulkStart_of_turn {r i : Nat} {e : BulkEntry} {s : State} (hhead : headOf s r = some (i, e)) (hstatus : e.status = none)
    (hfree : (if opPublic e.req.op then s.ciph.pk else s.ciph.sym) = none) (hturn : nextOf (opPublic e.req.op) s = some r) :
    bulkStart r s =
      let u := entryStarted i e s
      if opPublic e.req.op then { u with ciph := { u.ciph with pk := some r } } else { u with ciph := { u.ciph with sym := some r } } := by
  simp only [bulkStart, hhead]
  refine (if_neg (by simp [hstatus, hfree, hturn])).trans ?_
  simp only [entryStarted, Bool.and_eq_true, decide_eq_true_eq, Bool.not_eq_true']
  rfl

/-- What the end of a chunk leaves: less of its request, the gateway's share counted, and the unit free for the turn after its requester's (R402). -/
def chunkWorked (r i : Nat) (e : BulkEntry) (s : State) : State :=
  let n := min e.left (chunkBytes e)
  let u := setEntry i { e with left := e.left - n } s
  { u with ciph := { u.ciph with gwUsed := u.ciph.gwUsed + (if r = 0 then n * 2048 / chunkBytes e else 0), turn := r, sym := none } }

/-- At the end of a chunk the unit goes to the next requester, whose request starts or goes on (R402). -/
theorem chunkEnd_of_worked {r i : Nat} {e : BulkEntry} {s : State} (hsym : s.ciph.sym = some r) (hhead : headOf s r = some (i, e)) :
    chunkEnd s =
      let u := chunkWorked r i e s
      match nextRequester u with
      | none => u
      | some q => match headOf u q with
        | some (_, e2) => if e2.status = none then bulkStart q u else { u with ciph := { u.ciph with sym := some q } }
        | none => u := by
  simp only [chunkEnd, hsym, hhead, Option.isNone_iff_eq_none]
  rfl

/-- Whether a request of a unit has been worked to its end: one of the public-key unit once it has started, one of the symmetric unit with its last byte or
when it has failed (R402, R404). -/
def workedOut (pub : Bool) (e : BulkEntry) : Bool :=
  opPublic e.req.op = pub && (match e.status with | some st => pub || st ≠ 0 || e.left = 0 | none => false)

theorem workedOut_public : workedOut true = fun e => opPublic e.req.op = true && e.status.isSome := by
  funext e
  unfold workedOut
  cases e.status <;> rfl

/-- A request that the public-key unit has worked to its end leaves the queue with its result; it is not the gateway engine's (R402, R404). -/
theorem bulkComplete_public {e : BulkEntry} {s : State} (hfirst : s.ciph.queue.find? (workedOut true) = some e) (hr : e.req.requester ≠ 0) :
    bulkComplete true s =
      let v := endStatus e { s with ciph := { s.ciph with queue := s.ciph.queue.erase e, pk := none, pkTurn := e.req.requester } }
      emit (.bulkResult s.time.now e.req.requester v.1) v.2 := by
  unfold bulkComplete
  extract_lets done
  generalize hfound : s.ciph.queue.find? done = found
  obtain rfl : found = some e := hfound.symm.trans hfirst
  exact if_neg hr

/-! ### The alarm (R396, R417, R627) -/

/-- The cause of an alarm as its event carries it in DETAIL (R423, log entry 105). -/
def alarmDetail : AlarmCause → Nat
  | .voltage => 0
  | .clock => 1
  | .temperature => 2
  | .debug => 3

/-- Outside standby only the debug cause is masked, and that only in the Open lifecycle state (R417). -/
theorem alarmMasked_eq_false {c : AlarmCause} {s : State} (hpower : s.sys.pow.power ≠ .standby) (hcause : c ≠ .debug ∨ s.sys.fw.lifecycle ≠ 0) :
    (decide (c = .debug) && decide (s.sys.fw.lifecycle = 0) || decide (s.sys.pow.power = .standby)) = false := by
  rcases hcause with hcause | hcause <;> simp [hpower, hcause]

/-- The alarm of a core that runs is latched with its cause, takes the keys of what is in progress, and is counted and reported (R417, R422). -/
theorem cipherAlarm_of_running {c : AlarmCause} {s : State} (hon : coreOn s = true) (hcause : c ≠ .debug ∨ s.sys.fw.lifecycle ≠ 0) :
    cipherAlarm c s =
      raiseEvent 400 0 (some (alarmDetail c)) (count rCIPHER_CNT 31 16 { s with ciph := { s.ciph with
        alarm := true, zeroizing := true, almVolt := s.ciph.almVolt || c = .voltage, almClk := s.ciph.almClk || c = .clock
        almTemp := s.ciph.almTemp || c = .temperature, almDbg := s.ciph.almDbg || c = .debug
        queue := s.ciph.queue.map (fun e => if e.status.isSome then { e with status := some 5, key := [] } else { e with lost := true })
        sa := tmap {} s.ciph.sa (fun _ a => { a with key := none }), session := [] } }) := by
  have hruns : s.sys.pow.power = .run := of_decide_eq_true hon
  exact (if_neg (Bool.eq_false_iff.mp (alarmMasked_eq_false (by simp [hruns]) hcause))).trans (if_neg (by simp [hon]))

/-- A reset that is held leaves of an alarm that the Seed Store is zeroized (R627). -/
theorem cipherAlarm_of_held {c : AlarmCause} {s : State} (hheld : s.sys.pow.power = .held) (hcause : c ≠ .debug ∨ s.sys.fw.lifecycle ≠ 0) :
    cipherAlarm c s = { s with ciph := { s.ciph with slot := zeroSlots s.ciph } } :=
  (if_neg (Bool.eq_false_iff.mp (alarmMasked_eq_false (by simp [hheld]) hcause))).trans (if_pos (by simp [coreOn, hheld]))

theorem zeroizeDone_of_zeroizing {s : State} (h : s.ciph.zeroizing = true) :
    zeroizeDone s = cipherEvent 1 0 { s with ciph := { s.ciph with slot := zeroSlots s.ciph, zeroizing := false, zeroized := true } } := if_neg (by simp [h])

/-! ### Self-tests (R419 to R421, R423) -/

theorem pipeTestDue_pipe0 {s : State} (hdue : s.ciph.test0At + s.ciph.testS * 1000000000 ≤ s.time.now) :
    pipeTestDue 0 s = { s with ciph := { s.ciph with test0 := true, test0At := s.time.now } } := if_neg (by simp [hdue])

theorem pipeTestDue_pipe1 {s : State} (hdue : s.ciph.test1At + s.ciph.testS * 1000000000 ≤ s.time.now) :
    pipeTestDue 1 s = { s with ciph := { s.ciph with test1 := true, test1At := s.time.now } } := if_neg (by simp [hdue])

/-- The tests of the bulk engine are due at the start and every TEST_S, none of them being under way (R420). -/
theorem bulkTestDue_of_due {s : State} (hsym : s.ciph.test2 = false) (hpk : s.ciph.test3 = false)
    (hdue : s.ciph.test2At = 0 ∨ s.ciph.test2At + s.ciph.testS * 1000000000 ≤ s.time.now) : bulkTestDue s = submitTests s := by
  refine if_neg ?_
  rcases hdue with hstart | hdue
  · simp [hsym, hpk, hstart]
  · simp [hsym, hpk, hdue]

/-- The event of a unit comes with a failure, and with a pass after one (R421, R423). -/
theorem reports_iff (pass was : Bool) : (!pass || was) = true ↔ pass = false ∨ was = true := by simp

theorem testEnds_pipe0 {s : State} (pass : Bool) (h : s.ciph.test0 = true) :
    testEnds 0 pass s =
      let u := { s with ciph := { s.ciph with test0 := false, pipe0Fail := !pass } }
      if pass = false ∨ s.ciph.pipe0Fail = true then cipherEvent 2 0 u else u := by
  refine (if_neg (by simp [h])).trans ?_
  simp only [reports_iff]
  rfl

theorem testEnds_pipe1 {s : State} (pass : Bool) (h : s.ciph.test1 = true) :
    testEnds 1 pass s =
      let u := { s with ciph := { s.ciph with test1 := false, pipe1Fail := !pass } }
      if pass = false ∨ s.ciph.pipe1Fail = true then cipherEvent 3 0 u else u := by
  refine (if_neg (by simp [h])).trans ?_
  simp only [reports_iff]
  rfl

theorem testEnds_symmetric {s : State} (pass : Bool) (h : s.ciph.test2 = true) : testEnds 2 pass s = unitTested false pass s := if_neg (by simp [h])

theorem testEnds_public {s : State} (pass : Bool) (h : s.ciph.test3 = true) : testEnds 3 pass s = unitTested true pass s := if_neg (by simp [h])

/-- The end of the symmetric unit's tests takes them out of the queue, and leaves those of the public-key unit (R420, R421). -/
theorem unitTested_symmetric (pass : Bool) (s : State) :
    unitTested false pass s =
      let u := { s with ciph := { s.ciph with
        test2 := false, symFail := !pass, test2At := if s.ciph.test3 = true then s.ciph.test2At else max 1 s.time.now
        queue := s.ciph.queue.filter (fun e => ¬ (e.req.requester = 7 ∧ opPublic e.req.op = false))
        sym := if s.ciph.sym = some 7 then none else s.ciph.sym } }
      if pass = false ∨ s.ciph.symFail = true then cipherEvent 4 0 u else u := by
  simp [unitTested, setCiph]

/-- The end of the public-key unit's tests takes them out of the queue, and leaves those of the symmetric unit (R420, R421). -/
theorem unitTested_public (pass : Bool) (s : State) :
    unitTested true pass s =
      let u := { s with ciph := { s.ciph with
        test3 := false, pkFail := !pass, test2At := if s.ciph.test2 = true then s.ciph.test2At else max 1 s.time.now
        queue := s.ciph.queue.filter (fun e => ¬ (e.req.requester = 7 ∧ opPublic e.req.op = true))
        pk := if s.ciph.pk = some 7 then none else s.ciph.pk } }
      if pass = false ∨ s.ciph.pkFail = true then cipherEvent 4 0 u else u := by
  simp [unitTested, setCiph]

/-- Settles O31: each event of the bulk engine, of the alarm, of the self-tests and of the entropy source does what its rule says. -/
theorem cipherEventsTakeEffect : Obligations.CipherEventsTakeEffect := by
  unfold Obligations.CipherEventsTakeEffect
  refine ⟨fun r hr => ?submit, fun r hr hother => ?full, fun r i e => ?startPublic, fun r i e => ?startSymmetric, fun r i e => ?chunk, fun pub => ?complete,
    fun e st s hfirst _ hr => ?result, fun c => ?alarm, fun c => ?alarmHeld, ?zeroize, ?pipe0Due, ?pipe1Due, ?bulkDue, fun pass => ?pipe0, fun pass => ?pipe1,
    fun pass => ?symmetric, fun pass => ?publicKey, ?entropy⟩
  case submit => exact does_of_bus (fun s => (bulkSubmit r s).2) hr (fun _ _ => rfl) fun s hroom => bulkSubmit_of_room hroom
  case full => exact does_of_bus (fun s => (bulkSubmit r s).2) hr (fun _ _ => rfl) fun s hfull => bulkSubmit_of_full hother hfull
  case startPublic =>
    refine does_of (bulkStart r) (fun _ _ => rfl) fun s _ ⟨hhead, hstatus, hop, hfree, hturn⟩ => ?_
    rw [bulkStart_of_turn hhead hstatus (by rw [if_pos hop, hfree]) (by rw [hop, hturn])]
    exact if_pos hop
  case startSymmetric =>
    refine does_of (bulkStart r) (fun _ _ => rfl) fun s _ ⟨hhead, hstatus, hop, hfree, hturn⟩ => ?_
    have hsym : ¬ opPublic e.req.op = true := Bool.eq_false_iff.mp hop
    rw [bulkStart_of_turn hhead hstatus (by rw [if_neg hsym, hfree]) (by rw [hop, hturn])]
    exact if_neg hsym
  case chunk => exact does_of chunkEnd (fun _ _ => rfl) fun s _ ⟨hsym, hhead⟩ => chunkEnd_of_worked hsym hhead
  case complete => exact does_of (giveWay (.bulkDone pub)) (fun _ _ => rfl) fun _ _ _ => rfl
  case result => exact bulkComplete_public (workedOut_public ▸ hfirst) hr
  case alarm => exact does_of_always (cipherAlarm c) (fun _ _ => rfl) fun s hon hcause => cipherAlarm_of_running hon hcause
  case alarmHeld => exact doesAlways_of (cipherAlarm c) (fun _ _ => rfl) fun s ⟨hheld, hcause⟩ => cipherAlarm_of_held hheld hcause
  case zeroize => exact does_of zeroizeDone (fun _ _ => rfl) fun s _ h => zeroizeDone_of_zeroizing h
  case pipe0Due => exact does_of (pipeTestDue 0) (fun _ _ => rfl) fun s _ hdue => pipeTestDue_pipe0 hdue
  case pipe1Due => exact does_of (pipeTestDue 1) (fun _ _ => rfl) fun s _ hdue => pipeTestDue_pipe1 hdue
  case bulkDue => exact does_of bulkTestDue (fun _ _ => rfl) fun s _ ⟨hsym, hpk, hdue⟩ => bulkTestDue_of_due hsym hpk hdue
  case pipe0 =>
    exact does_of (fun s => testAnswers 0 (testEnds 0 pass s)) (fun _ _ => rfl) fun s _ h => congrArg (testAnswers 0) (testEnds_pipe0 pass h)
  case pipe1 =>
    exact does_of (fun s => testAnswers 1 (testEnds 1 pass s)) (fun _ _ => rfl) fun s _ h => congrArg (testAnswers 1) (testEnds_pipe1 pass h)
  case symmetric =>
    exact does_of (fun s => testAnswers 2 (testEnds 2 pass s)) (fun _ _ => rfl) fun s _ h =>
      congrArg (testAnswers 2) ((testEnds_symmetric pass h).trans (unitTested_symmetric pass s))
  case publicKey =>
    exact does_of (fun s => testAnswers 3 (testEnds 3 pass s)) (fun _ _ => rfl) fun s _ h =>
      congrArg (testAnswers 3) ((testEnds_public pass h).trans (unitTested_public pass s))
  case entropy =>
    exact does_of (fun s => cipherEvent 5 0 { s with ciph := { s.ciph with entropyFail := true } }) (fun _ _ => rfl) fun _ _ _ => rfl

end Sys2Proof.Machine
end

section
/-!
PROOFS. The queue of commands (R475, R512, R513).
-/
namespace Sys2Proof.Machine
open Sys2Proof Sys2Proof.Safety

/-! ### Commands and the queue -/

/-- An outcome under another queue. -/
def requeue (q : List Instr) : Outcome → Outcome
  | .next u => .next { u with pending := q }
  | o => o

/-- Every command acts on the state without its queue, which it gives back as it found it (R475, R512). -/
theorem exec_eq_requeue (c : Instr) (s : State) : exec c s = requeue s.pending (exec c { s with pending := [] }) := by
  cases c <;> exact rfl

/-- No command stops (log entry 8). -/
theorem exec_answers (c : Instr) (s : State) : ∃ u, exec c s = .next u := by
  cases c <;> exact ⟨_, rfl⟩

/-- What a command leaves is what it leaves without a queue, and the queue. -/
theorem exec_eq_next_after (c : Instr) (s : State) : exec c s = .next { after { s with pending := [] } c with pending := s.pending } := by
  obtain ⟨u, hu⟩ := exec_answers c { s with pending := [] }
  rw [exec_eq_requeue, after, hu]
  rfl

theorem after_eq (s : State) (c : Instr) : after s c = { after { s with pending := [] } c with pending := s.pending } := by
  rw [after, exec_eq_next_after]

/-- A step with a command at the front of the queue leaves what the command leaves, and the queue's rest. -/
theorem step_of_front {c : Instr} {q : List Instr} {s : State} (h : s.pending = c :: q) :
    step s = .next { after { s with pending := [] } c with pending := q } := by
  rw [step, h]
  exact exec_eq_next_after c _

/-- Settles O1: a step with a command at the front of the queue is that command. -/
theorem stepRunsFrontCommand : Obligations.StepRunsFrontCommand := by
  unfold Obligations.StepRunsFrontCommand
  exact fun c q s => rfl

/-- Settles O3: a command acts on the state without its queue, so the queue that it finds is the one that it leaves. -/
theorem everyCommandCompletes : Obligations.EveryCommandCompletes := by
  unfold Obligations.EveryCommandCompletes
  exact fun c s q => ⟨_, exec_eq_next_after c s, rfl, exec_eq_next_after c _⟩

/-- Settles O4, by induction on the commands that run. -/
theorem queueRunsInOrder : Obligations.QueueRunsInOrder := by
  unfold Obligations.QueueRunsInOrder
  intro cs q
  induction cs with
  | nil => exact fun s h => ⟨s, rfl, h, rfl⟩
  | cons c cs ih =>
    intro s h
    obtain ⟨u, hsteps, hqueue, hleft⟩ := ih { after { s with pending := [] } c with pending := cs ++ q } rfl
    refine ⟨u, ?_, hqueue, hleft.trans ?_⟩
    · rw [List.length_cons, steps, step_of_front h]
      exact hsteps
    · rw [List.foldl_cons, after_eq]

end Sys2Proof.Machine
end

section
/-!
PROOFS. What keeps the memory of BAR2, the mailboxes and the fuses (R472, R526, R616).
-/
namespace Sys2Proof.Machine
open Sys2Proof Sys2Proof.Safety

/-! ### The memory, the mailboxes and the fuses, which most of the model's functions leave as they are -/

/-- The memory of BAR2, the mailboxes, and what the fuses hold: what few functions of the model touch. -/
def vault (s : State) : List Host.Cell × Tab Mailbox × Nat × Nat × Option (Bool × Nat) × Nat := (s.mem, s.mbx.box, fuses s)


@[simp] theorem update_vault (s : State) (mbx : MbxState) (hbox : mbx.box = s.mbx.box) (sys : SysState) (hlife : sys.fw.lifecycle = s.sys.fw.lifecycle)
    (hfloor : sys.fw.floor = s.sys.fw.floor) (pair : Pair) (hbound : pair.bound = s.pair.bound) (hbinds : pair.binds = s.pair.binds)
    (beat time pins net ptime ports egress fwd buf str fw nm gw ciph dark cs bridge ev rings regs hw out fresh start late pending) :
    vault ⟨⟨beat, time, pins, net, ptime, ports, egress, fwd, buf, str, fw, nm, gw, ciph, dark, pair, sys, cs, bridge, mbx, ev, rings, regs, hw, s.mem, out, fresh⟩,
      start, late, pending⟩ = vault s := by
  simp [vault, fuses, hbox, hlife, hfloor, hbound, hbinds]


@[simp] theorem ite_vault (c : Prop) [Decidable c] (s u : State) : vault (if c then s else u) = if c then vault s else vault u := apply_ite vault c s u


@[simp] theorem foldl_vault {α : Type} (f : State → α → State) (h : ∀ s x, vault (f s x) = vault s) (l : List α) (s : State) :
    vault (l.foldl f s) = vault s := by
  induction l generalizing s with
  | nil => rfl
  | cons x l ih => rw [List.foldl_cons, ih, h]


@[simp] theorem setPair_vault (p : Pair) (s : State) (hbound : p.bound = s.pair.bound) (hbinds : p.binds = s.pair.binds) : vault (setPair p s) = vault s := by
  simp [vault, fuses, setPair, hbound, hbinds]


@[simp] theorem setFw_vault (f : FwState → FwState) (s : State) (hlife : (f s.sys.fw).lifecycle = s.sys.fw.lifecycle) (hfloor : (f s.sys.fw).floor = s.sys.fw.floor) :
    vault (setFw f s) = vault s := by
  simp [vault, fuses, setFw, hlife, hfloor]


@[simp] theorem need_vault (len : Nat) (q : Req) (l : List (Nat × Bool)) (s : State) (k : Reply) (h : vault k.2 = vault s) : vault (need len q l s k).2 = vault s := by
  unfold need
  (repeat' split) <;> simp [rangeAt, refuse, h]


@[simp] theorem shadowWrite_vault (s : State) (k : Reply) (h : vault k.2 = vault s) : vault (shadowWrite s k).2 = vault s := by
  unfold shadowWrite
  split <;> simp [busy, h]


@[simp] theorem needBulk_vault (fixed n : Nat) (q : Req) (l : List (Nat × Bool)) (s : State) (k : Rec → Reply) (h : ∀ ws, vault (k ws).2 = vault s) :
    vault (needBulk fixed n q l s k).2 = vault s := by
  unfold needBulk
  (repeat' split) <;> simp [rangeAt, refuse, h]


theorem setPair_vault_of {p : Pair} {s u : State} (h : vault u = vault s) (hbound : p.bound = s.pair.bound) (hbinds : p.binds = s.pair.binds) :
    vault (setPair p u) = vault s := by
  simp only [vault, fuses, setPair, Prod.mk.injEq] at h ⊢
  obtain ⟨hmem, hbox, hlife, hfloor, -, -⟩ := h
  exact ⟨hmem, hbox, hlife, hfloor, hbound, hbinds⟩


theorem mem_of_vault {s u : State} (h : vault u = vault s) : u.mem = s.mem := congrArg (·.1) h

theorem box_of_vault {s u : State} (h : vault u = vault s) : u.mbx.box = s.mbx.box := congrArg (·.2.1) h

theorem fuses_of_vault {s u : State} (h : vault u = vault s) : fuses u = fuses s := congrArg (·.2.2) h


@[simp] theorem State.atTime_vault (t : Nat) (s : State) : vault (State.atTime t s) = vault s := by simp [State.atTime]

@[simp] theorem emit_vault (o : Output) (s : State) : vault (emit o s) = vault s := by simp [emit]

@[simp] theorem giveWayTo_vault (n : Nat) (e : Late) (s : State) : vault (giveWayTo n e s) = vault s := rfl

@[simp] theorem giveWay_vault (e : Late) (s : State) : vault (giveWay e s) = vault s := by simp [giveWay]

@[simp] theorem freeVal_vault (s : State) : vault (freeVal s).2 = vault s := by simp [freeVal]

@[simp] theorem regSet_vault (off : Nat) (v : Word) (s : State) : vault (regSet off v s) = vault s := by simp [regSet]

@[simp] theorem regPut_vault (off hi lo v : Nat) (s : State) : vault (regPut off hi lo v s) = vault s := by simp [regPut]

@[simp] theorem noteFlag_vault (off i : Nat) (s : State) : vault (noteFlag off i s) = vault s := by simp [noteFlag]

@[simp] theorem noteCount_vault (off lo base k : Nat) (s : State) : vault (noteCount off lo base k s) = vault s := by simp [noteCount]

@[simp] theorem setFlag_vault (off i : Nat) (s : State) : vault (setFlag off i s) = vault s := by simp [setFlag]

@[simp] theorem countBy_vault (off hi lo k : Nat) (s : State) : vault (countBy off hi lo k s) = vault s := by simp [countBy]

@[simp] theorem regTake_vault (off i v : Nat) (s : State) : vault (regTake off i v s) = vault s := by simp [regTake]

@[simp] theorem count_vault (off hi lo : Nat) (s : State) : vault (count off hi lo s) = vault s := by simp [count]

@[simp] theorem csRecount_vault (old new : List CsGroup) (s : State) : vault (csRecount old new s) = vault s := by simp [csRecount]

@[simp] theorem csSettle_vault (g : CsGroup) (s : State) : vault (csSettle g s) = vault s := by simp [csSettle]

@[simp] theorem csPushAt_vault (kind lt : Nat) (ps : List (BitVec 64)) (s : State) : vault (csPushAt kind lt ps s) = vault s := by simp [csPushAt]

@[simp] theorem csPush_vault (kind : Nat) (ps : List (BitVec 64)) (s : State) : vault (csPush kind ps s) = vault s := by simp [csPush]

@[simp] theorem raiseDetailed_vault (source cause detail : Nat) (s : State) : vault (raiseDetailed source cause detail s) = vault s := by
  rw [raiseDetailed_frame]
  simp

@[simp] theorem raiseEvent_vault (source cause : Nat) (detail : Option Nat) (s : State) : vault (raiseEvent source cause detail s) = vault s := by
  unfold raiseEvent
  (repeat' split) <;> simp [*]

@[simp] theorem portEvent_vault (port i cause : Nat) (s : State) : vault (portEvent port i cause s) = vault s := by simp [portEvent]

@[simp] theorem timeEvent_vault (i cause : Nat) (s : State) : vault (timeEvent i cause s) = vault s := by simp [timeEvent]

@[simp] theorem canEvent_vault (bus i cause : Nat) (s : State) : vault (canEvent bus i cause s) = vault s := by simp [canEvent]

@[simp] theorem linEvent_vault (bus i cause : Nat) (s : State) : vault (linEvent bus i cause s) = vault s := by simp [linEvent]

@[simp] theorem fwEvent_vault (i cause : Nat) (s : State) : vault (fwEvent i cause s) = vault s := by simp [fwEvent]

@[simp] theorem cipherEvent_vault (i cause : Nat) (s : State) : vault (cipherEvent i cause s) = vault s := by simp [cipherEvent]

@[simp] theorem nmEvent_vault (i who : Nat) (s : State) : vault (nmEvent i who s) = vault s := by simp [nmEvent]

@[simp] theorem systemEvent_vault (i cause : Nat) (s : State) : vault (systemEvent i cause s) = vault s := by simp [systemEvent]

@[simp] theorem systemEventD_vault (i cause detail : Nat) (s : State) : vault (systemEventD i cause detail s) = vault s := by simp [systemEventD]

@[simp] theorem unraise_vault (mine : Nat → Bool) (s : State) : vault (unraise mine s) = vault s := by simp [unraise]

@[simp] theorem requestMapping_vault (r : MapReq) (s : State) : vault (requestMapping r s) = vault s := by
  unfold requestMapping
  dsimp only
  (repeat' split) <;> simp [*]

@[simp] theorem mappingEvents_vault (was : Bool) (q : MapReq) (s : State) : vault (mappingEvents was q s) = vault s := by simp [mappingEvents]

@[simp] theorem takeMapping_vault (a : Nat) (q : MapReq) (s : State) : vault (takeMapping a q s) = vault s := by
  unfold takeMapping
  dsimp only
  (repeat' split) <;> simp [*]

@[simp] theorem requestCorrection_vault (c : Int) (s : State) : vault (requestCorrection c s) = vault s := by simp [requestCorrection]

@[simp] theorem enterHoldover_vault (s : State) : vault (enterHoldover s) = vault s := by simp [enterHoldover]

@[simp] theorem leaveHoldover_vault (s : State) : vault (leaveHoldover s) = vault s := by simp [leaveHoldover]

@[simp] theorem slewEnd_vault (s : State) : vault (slewEnd s) = vault s := by simp [slewEnd]

@[simp] theorem doCapture_vault (s : State) : vault (doCapture s) = vault s := by simp [doCapture]

@[simp] theorem captureOn_vault (trig : Nat) (s : State) : vault (captureOn trig s) = vault s := by simp [captureOn]

@[simp] theorem startCapture_vault (s : State) : vault (startCapture s) = vault s := by
  unfold startCapture
  (repeat' split) <;> simp [*]

@[simp] theorem setPin_vault (n : Nat) (p : Pin) (s : State) : vault (setPin n p s) = vault s := by simp [setPin]

@[simp] theorem pinCfgErr_vault (n : Nat) (s : State) : vault (pinCfgErr n s) = vault s := by simp [pinCfgErr]

@[simp] theorem pulseEnd_vault (n : Nat) (s : State) : vault (pulseEnd n s) = vault s := by
  unfold pulseEnd
  dsimp only
  (repeat' split) <;> simp [*]

@[simp] theorem armPin_vault (n : Nat) (s0 : State) : vault (armPin n s0) = vault s0 := by simp [armPin]

@[simp] theorem stopPin_vault (n : Nat) (s0 : State) : vault (stopPin n s0) = vault s0 := by
  unfold stopPin
  dsimp only
  (repeat' split) <;> simp [*]

@[simp] theorem disarmPin_vault (n : Nat) (s : State) : vault (disarmPin n s) = vault s := by
  unfold disarmPin
  dsimp only
  (repeat' split) <;> simp [*]

@[simp] theorem modeWritten_vault (n old : Nat) (s : State) : vault (modeWritten n old s) = vault s := by simp [modeWritten]

@[simp] theorem activeEdge_vault (n : Nat) (s0 : State) : vault (activeEdge n s0) = vault s0 := by
  unfold activeEdge
  dsimp only
  (repeat' split) <;> simp [*]

@[simp] theorem skipPulses_vault (n : Nat) (s : State) : vault (skipPulses n s) = vault s := by
  unfold skipPulses
  dsimp only
  (repeat' split) <;> simp [*]

@[simp] theorem skipAll_vault (s : State) : vault (skipAll s) = vault s := by simp [skipAll]

@[simp] theorem captureEdge_vault (n : Nat) (rising : Bool) (width : Nat) (s : State) : vault (captureEdge n rising width s) = vault s :=
  by simp [captureEdge]

@[simp] theorem setSlot_vault (i : Nat) (v : Slot) (s : State) : vault (setSlot i v s) = vault s := by simp [setSlot]

@[simp] theorem setPortTime_vault (p : Nat) (v : PortTime) (s : State) : vault (setPortTime p v s) = vault s := by simp [setPortTime]

@[simp] theorem countNet_vault (slot port i : Nat) (s : State) : vault (countNet slot port i s) = vault s := by simp [countNet]

@[simp] theorem countGptpDrop_vault (port : Nat) (s : State) : vault (countGptpDrop port s) = vault s := by simp [countGptpDrop]

@[simp] theorem switchTo_vault (i : Nat) (res : Int) (s : State) : vault (switchTo i res s) = vault s := by simp [switchTo]

@[simp] theorem hostTo_vault (j : Nat) (s : State) : vault (hostTo j s) = vault s := by simp [hostTo]

@[simp] theorem hardSwitch_vault (i : Nat) (res : Int) (s : State) : vault (hardSwitch i res s) = vault s := by
  unfold hardSwitch
  (repeat' split) <;> simp [*]

@[simp] theorem sourceLost_vault (i cause : Nat) (s : State) : vault (sourceLost i cause s) = vault s := by
  unfold sourceLost
  dsimp only
  (repeat' split) <;> simp [*]

@[simp] theorem takeGm_vault (i : Nat) (v : PortInfo) (s : State) : vault (takeGm i v s) = vault s := by simp [takeGm]

@[simp] theorem runBmca_vault (i : Nat) (s : State) : vault (runBmca i s) = vault s := by
  unfold runBmca
  dsimp only
  (repeat' split) <;> simp [*]

@[simp] theorem runBmcaAll_vault (s : State) : vault (runBmcaAll s) = vault s := by simp [runBmcaAll]

@[simp] theorem forgetAnnounces_vault (p : Nat) (s : State) : vault (forgetAnnounces p s) = vault s := by simp [forgetAnnounces]

@[simp] theorem loseAsCapable_vault (p : Nat) (s : State) : vault (loseAsCapable p s) = vault s := by simp [loseAsCapable]

@[simp] theorem judgeAsCapable_vault (p : Nat) (s : State) : vault (judgeAsCapable p s) = vault s := by simp [judgeAsCapable]

@[simp] theorem timeLinkUp_vault (p : Nat) (s : State) : vault (timeLinkUp p s) = vault s := by simp [timeLinkUp]

@[simp] theorem timeLinkDown_vault (p : Nat) (s : State) : vault (timeLinkDown p s) = vault s := by simp [timeLinkDown]

@[simp] theorem changeSource_vault (src domain : Nat) (s : State) : vault (changeSource src domain s) = vault s := by simp [changeSource]

@[simp] theorem hotRevert_vault (s : State) : vault (hotRevert s) = vault s := by
  unfold hotRevert
  (repeat' split) <;> simp [*]

@[simp] theorem hostSwitch_vault (s : State) : vault (hostSwitch s) = vault s := by
  unfold hostSwitch
  (repeat' split) <;> simp [*]

@[simp] theorem servoSync_vault (i : Nat) (h : HeldSync) (m : SyncMsg) (s : State) : vault (servoSync i h m s) = vault s := by simp [servoSync]

@[simp] theorem loseLock_vault (s : State) : vault (loseLock s) = vault s := by simp [loseLock]

@[simp] theorem badPulse_vault (s : State) : vault (badPulse s) = vault s := by simp [badPulse]

@[simp] theorem gainLock_vault (s : State) : vault (gainLock s) = vault s := by simp [gainLock]

@[simp] theorem followPulse_vault (rate : Option Int) (stepNow : Bool) (e : Int) (s : State) : vault (followPulse rate stepNow e s) = vault s := by
  unfold followPulse
  (repeat' split) <;> simp [*]

@[simp] theorem goodPulse_vault (w0 w1 w2 : Word) (s : State) : vault (goodPulse w0 w1 w2 s) = vault s := by simp [goodPulse]

@[simp] theorem pulseRx_vault (w0 w1 w2 : Word) (s : State) : vault (pulseRx w0 w1 w2 s) = vault s := by simp [pulseRx]

@[simp] theorem pulseMissing_vault (s : State) : vault (pulseMissing s) = vault s := by simp [pulseMissing]

@[simp] theorem setPort_vault (n : Nat) (p : Port) (s : State) : vault (setPort n p s) = vault s := by simp [setPort]

@[simp] theorem plcaSent_vault (n free : Nat) (s : State) : vault (plcaSent n free s) = vault s := by
  unfold plcaSent
  dsimp only
  (repeat' split) <;> simp [*]

@[simp] theorem plcaHeard_vault (n start : Nat) (s : State) : vault (plcaHeard n start s) = vault s := by
  unfold plcaHeard
  dsimp only
  (repeat' split) <;> simp [*]

@[simp] theorem plcaStarts_vault (n t : Nat) (s : State) : vault (plcaStarts n t s) = vault s := by simp [plcaStarts]

@[simp] theorem fwdCount_vault (port w k : Nat) (s : State) : vault (fwdCount port w k s) = vault s := by simp [fwdCount]

@[simp] theorem countDrop_vault (port code : Nat) (s : State) : vault (countDrop port code s) = vault s := by simp [countDrop]

@[simp] theorem macSet_vault (k : Nat) (r : Rec) (s : State) : vault (macSet k r s) = vault s := by simp [macSet]

@[simp] theorem macNote_vault (f : MacCycle → MacCycle) (s : State) : vault (macNote f s) = vault s := by simp [macNote]

@[simp] theorem macApply_vault (r : Rec) (s0 : State) : vault (macApply r s0) = vault s0 := by
  unfold macApply
  dsimp only
  (repeat' split) <;> simp [*]

@[simp] theorem macRefresh_vault (k port fid sa : Nat) (s : State) : vault (macRefresh k port fid sa s) = vault s := by simp [macRefresh]

@[simp] theorem macTake_vault (port fid sa : Nat) (s : State) : vault (macTake port fid sa s) = vault s := by
  unfold macTake
  (repeat' split) <;> simp [*]

@[simp] theorem macLearn_vault (port fid sa : Nat) (s : State) : vault (macLearn port fid sa s) = vault s := by
  unfold macLearn
  (repeat' split) <;> simp [*]

@[simp] theorem macFlush_vault (kind value : Nat) (s : State) : vault (macFlush kind value s) = vault s := by simp [macFlush]

@[simp] theorem macSweep_vault (s0 : State) : vault (macSweep s0) = vault s0 := by simp [macSweep]

@[simp] theorem bufNote_vault (s : State) : vault (bufNote s) = vault s := by simp [bufNote]

@[simp] theorem chargeCells_vault (port : Nat) (c : Cells) (s : State) : vault (chargeCells port c s) = vault s := by simp [chargeCells]

@[simp] theorem freeCells_vault (port : Nat) (c : Cells) (s : State) : vault (freeCells port c s) = vault s := by simp [freeCells]

@[simp] theorem takeCells_vault (port : Nat) (reserve : Bool) (n : Nat) (c : Cells) (s : State) : vault (takeCells port reserve n c s).2.2 = vault s := by
  induction n generalizing c s with
  | zero => rfl
  | succ n ih =>
    unfold takeCells
    split <;> simp [ih]

@[simp] theorem setFrame_vault (f : Nat) (v : Option Frame) (s : State) : vault (setFrame f v s) = vault s := by simp [setFrame]

@[simp] theorem modFrame_vault (f : Nat) (g : Frame → Frame) (s : State) : vault (modFrame f g s) = vault s := by
  unfold modFrame
  (repeat' split) <;> simp [*]

@[simp] theorem releaseFrame_vault (f : Nat) (s : State) : vault (releaseFrame f s) = vault s := by
  unfold releaseFrame
  (repeat' split) <;> simp [*]

@[simp] theorem dropRef_vault (f : Nat) (s : State) : vault (dropRef f s) = vault s := by
  unfold dropRef
  (repeat' split) <;> simp [*]

@[simp] theorem dropRep_vault (r : Replica) (s : State) : vault (dropRep r s) = vault s := by simp [dropRep]

@[simp] theorem setEgress_vault (p : Nat) (e : Egress) (s : State) : vault (setEgress p e s) = vault s := by simp [setEgress]

@[simp] theorem setSgate_vault (i : Nat) (g : StreamGate) (s : State) : vault (setSgate i g s) = vault s := by simp [setSgate]

@[simp] theorem fwNote_vault (f : FwCycle → FwCycle) (s : State) : vault (fwNote f s) = vault s := by simp [fwNote]

@[simp] theorem frameRecord_vault (egress : Bool) (port stamp : Nat) (tc : Nat) (drop : Option Nat) (len : Nat) (h : Option Nat) (traced : Bool) (b : Bytes) (s : State) : vault (frameRecord egress port stamp tc drop len h traced b s) = vault s :=
  by simp [frameRecord]

@[simp] theorem egressGroup_vault (p c at0 : Nat) (drop : Option Nat) (r : Replica) (bytes : Bytes) (s : State) : vault (egressGroup p c at0 drop r bytes s) = vault s :=
  by simp [egressGroup]

@[simp] theorem dropReplica_vault (p c code : Nat) (r : Replica) (s : State) : vault (dropReplica p c code r s) = vault s := by simp [dropReplica]

@[simp] theorem schedCount_vault (p w : Nat) (s : State) : vault (schedCount p w s) = vault s := by simp [schedCount]

@[simp] theorem schedEvent_vault (p c cause : Nat) (s : State) : vault (schedEvent p c cause s) = vault s := by simp [schedEvent]

@[simp] theorem setQueue_vault (p c : Nat) (q : List Replica) (s : State) : vault (setQueue p c q s) = vault s := by simp [setQueue]

@[simp] theorem flushDeparts_vault (p : Nat) (s : State) : vault (flushDeparts p s) = vault s := by simp [flushDeparts]

@[simp] theorem sampleDeparture_vault (p c delay : Nat) (s0 : State) : vault (sampleDeparture p c delay s0) = vault s0 := by simp [sampleDeparture]

@[simp] theorem cqfMisplaced_vault (p c : Nat) (s : State) : vault (cqfMisplaced p c s) = vault s := by simp [cqfMisplaced]

@[simp] theorem mirrorDropped_vault (sess : Nat) (s : State) : vault (mirrorDropped sess s) = vault s := by simp [mirrorDropped]

@[simp] theorem turnAway_vault (p c why at0 : Nat) (r : Replica) (s : State) : vault (turnAway p c why at0 r s) = vault s := by
  unfold turnAway
  (repeat' split) <;> simp [*]

@[simp] theorem dropRefused_vault (p : Nat) (s : State) : vault (dropRefused p s) = vault s := by simp [dropRefused]

@[simp] theorem settleRefused_vault (p : Nat) (s : State) : vault (settleRefused p s) = vault s := by simp [settleRefused]

@[simp] theorem noteRefused_vault (p c : Nat) (l : List (Nat × Replica)) (s : State) : vault (noteRefused p c l s) = vault s := by simp [noteRefused]

@[simp] theorem departed_vault (p c : Nat) (q : List Replica) (s : State) : vault (departed p c q s) = vault s := by simp [departed]

@[simp] theorem enterClass_vault (p c0 : Nat) (short : Option Nat) (r : Replica) (s0 : State) : vault (enterClass p c0 short r s0) = vault s0 :=
  by simp [enterClass]

@[simp] theorem discardQueue_vault (p c code : Nat) (s : State) : vault (discardQueue p c code s) = vault s := by simp [discardQueue]

@[simp] theorem txRelease_vault (p : Nat) (s : State) : vault (txRelease p s) = vault s := by
  unfold txRelease
  (repeat' split) <;> simp [*]

@[simp] theorem releaseLines_vault (s : State) : vault (releaseLines s) = vault s := by simp [releaseLines]

@[simp] theorem dropSending_vault (t : Sending) (s : State) : vault (dropSending t s) = vault s := by simp [dropSending]

@[simp] theorem discardPort_vault (p : Nat) (s0 : State) : vault (discardPort p s0) = vault s0 := by
  unfold discardPort
  dsimp only
  (repeat' split) <;> simp [*]

@[simp] theorem leaveUp_vault (p : Nat) (st : LinkState) (s : State) : vault (leaveUp p st s) = vault s := by simp [leaveUp]

@[simp] theorem portTo_vault (p : Nat) (st : LinkState) (s : State) : vault (portTo p st s) = vault s := by simp [portTo]

@[simp] theorem setShaper_vault (p c : Nat) (h : Shaper) (s : State) : vault (setShaper p c h s) = vault s := by simp [setShaper]

@[simp] theorem shaperTick_vault (p c : Nat) (s : State) : vault (shaperTick p c s) = vault s := by simp [shaperTick]

@[simp] theorem schedTick_vault (p : Nat) (s : State) : vault (schedTick p s) = vault s := by
  unfold schedTick
  dsimp only
  (repeat' split) <;> simp [*]

@[simp] theorem portTick_vault (p : Nat) (s : State) : vault (portTick p s) = vault s := by simp [portTick]

@[simp] theorem fwCounted_vault (kind i : Nat) (s : State) : vault (fwCounted kind i s) = vault s := by simp [fwCounted]

@[simp] theorem fwStatus_vault (w : Nat) (s0 : State) : vault (fwStatus w s0) = vault s0 := by simp [fwStatus]

@[simp] theorem pairCount_vault (src dst k : Nat) (s0 : State) : vault (pairCount src dst k s0) = vault s0 := by simp [pairCount]

@[simp] theorem hitRule_vault (i : Nat) (s0 : State) : vault (hitRule i s0) = vault s0 := by simp [hitRule]

@[simp] theorem shadowHit_vault (i : Nat) (s0 : State) : vault (shadowHit i s0) = vault s0 := by simp [shadowHit]

@[simp] theorem setTracker_vault (k : Nat) (r : Rec) (s : State) : vault (setTracker k r s) = vault s := by simp [setTracker]

@[simp] theorem trackerFrame_vault (port : Nat) (rule : Option Nat) (p : Parsed) (src z : Nat) (s : State) : vault (trackerFrame port rule p src z s) = vault s := by
  unfold trackerFrame
  (repeat' split) <;> simp [*]

@[simp] theorem trackerStage8_vault (port : Nat) (rule : Option Nat) (p : Parsed) (src : Nat) (zones : List Nat) (nDest : Nat) (s : State) : vault (trackerStage8 port rule p src zones nDest s) = vault s := by
  unfold trackerStage8
  (repeat' split) <;> simp [*]

@[simp] theorem trackerSweepAll_vault (s0 : State) : vault (trackerSweepAll s0) = vault s0 := by simp [trackerSweepAll]

@[simp] theorem fwLog_vault (src z n action rule origin : Nat) (gw : Bool) (s : State) : vault (fwLog src z n action rule origin gw s) = vault s :=
  by simp [fwLog]

@[simp] theorem dryRun_vault (gw : Bool) (srcKind srcIdx origin : Nat) (k : FwKeys) (p : Parsed) (ds : List FwDest) (enf : FwDest → Verdict) (s : State) : vault (dryRun gw srcKind srcIdx origin k p ds enf s) = vault s := by
  have fold : ∀ (f : State × List Nat → FwDest → State × List Nat) (h : ∀ st d, vault (f st d).1 = vault st.1) (l : List FwDest) (st : State × List Nat), vault (l.foldl f st).1 = vault st.1 := by
    intro f h l
    induction l with
    | nil => exact fun _ => rfl
    | cons d l ih => exact fun st => (ih _).trans (h st d)
  unfold dryRun
  split
  · rfl
  · refine (fold _ (fun st d => ?_) _ _).trans (by simp)
    dsimp only
    (repeat' split) <;> simp

@[simp] theorem judgeCount_vault (gw : Bool) (origin src : Nat) (k : FwKeys) (p : Parsed) (zs : List Nat) (s : State) : vault (judgeCount gw origin src k p zs s) = vault s := by
  unfold judgeCount
  refine (foldl_vault _ (fun s d => by simp) _ _).trans ((foldl_vault _ (fun s z => ?_) _ _).trans (foldl_vault _ (fun s i => by simp) _ s))
  dsimp only
  (repeat' split) <;> simp

@[simp] theorem gatewayRequest_vault (srcKind srcIdx bus : Nat) (f : CanFrame) (origin : Nat) (d : FwDest) (s : State) : vault (gatewayRequest srcKind srcIdx bus f origin d s).2 = vault s :=
  by simp [gatewayRequest]

@[simp] theorem endBypass_vault (src dst : Nat) (s : State) : vault (endBypass src dst s) = vault s := by simp [endBypass]

@[simp] theorem endAllBypass_vault (s : State) : vault (endAllBypass s) = vault s := by simp [endAllBypass]

@[simp] theorem streamEvent_vault (cause obj : Nat) (s : State) : vault (streamEvent cause obj s) = vault s := by simp [streamEvent]

@[simp] theorem setFilter_vault (i : Nat) (f : Filter) (s : State) : vault (setFilter i f s) = vault s := by simp [setFilter]

@[simp] theorem setMeter_vault (i : Nat) (m : Meter) (s : State) : vault (setMeter i m s) = vault s := by simp [setMeter]

@[simp] theorem setGen_vault (i : Nat) (g : Generation) (s : State) : vault (setGen i g s) = vault s := by simp [setGen]

@[simp] theorem setRcv_vault (i : Nat) (r : Recovery) (s : State) : vault (setRcv i r s) = vault s := by simp [setRcv]

@[simp] theorem sgateLatch_vault (i : Nat) (s : State) : vault (sgateLatch i s) = vault s := by simp [sgateLatch]

@[simp] theorem sgateListAt_vault (i : Nat) (w : Int) (s : State) : vault (sgateListAt i w s) = vault s := by
  unfold sgateListAt
  dsimp only
  (repeat' split) <;> simp [*]

@[simp] theorem sgateListsAt_vault (w : Int) (s : State) : vault (sgateListsAt w s) = vault s := by simp [sgateListsAt]

@[simp] theorem stage4_vault (x : Int) (h : Option Nat) (tc : Nat) (s : State) : vault (stage4 x h tc s).2.2.2 = vault s := by
  unfold stage4
  dsimp only
  (repeat' split) <;> simp [*]

/-- What a stream gate decides of a frame of `len` octets, and what it counts of it. -/
def gateOctets (len : Nat) (occ : Option (Nat × Int)) (s : State) : Option Nat × State :=
  match occ with
  | none => (none, s)
  | some (gi, st) =>
    let g := sgateOf s gi
    let now := sgateAt s g (wtNow s)
    if now.2.2.2.2 ≠ st then (none, s)
    else
      let used := if g.octets.1 = st then g.octets.2 else 0
      let lim := now.2.2.1
      if lim ≠ 0 && lim < used + len then
        let s1 := setSgate gi { g with octetDrop := satAdd 32 g.octetDrop 1 } s
        (some 0x0B, if flag g.rec0 0 24 then sgateLatch gi s1 else s1)
      else (none, setSgate gi { g with octets := (st, used + len) } s)

theorem gateOctets_vault (len : Nat) (occ : Option (Nat × Int)) (s : State) : vault (gateOctets len occ s).2 = vault s := by
  unfold gateOctets
  dsimp only
  (repeat' split) <;> simp

theorem vault_ite_of {α β : Type} {c : Prop} [Decidable c] {a b : α × β × State} {s : State} (ha : vault a.2.2 = vault s) (hb : vault b.2.2 = vault s) :
    vault (if c then a else b).2.2 = vault s := by
  split
  · exact ha
  · exact hb

/-- What filter `i`, of the record `f`, decides of a frame of `len` octets once its stream gate has answered `o`: its meter, and the count of frames passed. -/
def meterVerdict (f : Filter) (now i len : Nat) (dei : Bool) (o : Option Nat × State) : Option Nat × Bool × State :=
  let (d2, s2) := o
  match d2 with
  | some c => (some c, dei, s2)
  | none =>
    let pass := fun (s : State) => setFilter i { filterOf s i with passed := satAdd 32 (filterOf s i).passed 1 } s
    if !fiMeterEn f.rec0 then (none, dei, pass s2)
    else
      let mi := fiMeter f.rec0
      let m := meterOf s2 mi
      let b := (if flag m.rec0 0 30 then 1 else len) * 16777216
      let yellowIn := flag m.rec0 0 29 && dei
      let marked := m.markRed || m.unmarked = some now
      let red := marked || m.tp < b
      let green := !red && !yellowIn && b ≤ m.tc
      if red then
        let m1 := { m with
          redDrop := satAdd 32 m.redDrop 1, markRed := marked || flag m.rec0 0 27, redAt := some now }
        (some 0x0C, dei, if m1.markRed && !marked then streamEvent 0x04 mi (setMeter mi m1 s2) else setMeter mi m1 s2)
      else if green then (none, dei, pass (setMeter mi { m with tp := m.tp - b, tc := m.tc - b, green := satAdd 32 m.green 1 } s2))
      else
        let m1 := { m with tp := m.tp - b, yellow := satAdd 32 m.yellow 1 }
        if flag m.rec0 0 28 then (some 0x0C, dei, setMeter mi { m1 with redDrop := satAdd 32 m1.redDrop 1 } s2)
        else (none, true, pass (setMeter mi m1 s2))


theorem meterVerdict_vault (f : Filter) (now i len : Nat) (dei : Bool) (o : Option Nat × State) (s : State) (ho : vault o.2 = vault s) :
    vault (meterVerdict f now i len dei o).2.2 = vault s := by
  obtain ⟨d2, s2⟩ := o
  cases d2 with
  | some c => exact ho
  | none =>
    unfold meterVerdict
    dsimp only at ho ⊢
    refine vault_ite_of (by simpa using ho) (vault_ite_of ?_ (vault_ite_of (by simpa using ho) (vault_ite_of ?_ ?_)))
    · split <;> simpa using ho
    · simpa using ho
    · simpa using ho

@[simp] theorem filterSteps_vault (len : Nat) (h : Option Nat) (occ : Option (Nat × Int)) (dei : Bool) (s : State) : vault (filterSteps len h occ dei s).2.2 = vault s := by
  unfold filterSteps
  split
  · rfl
  · next i _ =>
    refine vault_ite_of (by split <;> simp) ?_
    change vault (meterVerdict (filterOf s i) s.time.now i len dei (gateOctets len occ s)).2.2 = vault s
    exact meterVerdict_vault _ _ _ _ _ _ _ (gateOctets_vault len occ s)

@[simp] theorem meterTick_vault (i : Nat) (s : State) : vault (meterTick i s) = vault s := by simp [meterTick]

@[simp] theorem frerSteps_vault (h : Option Nat) (rtag : Option Nat) (s : State) : vault (frerSteps h rtag s).2.2.2 = vault s := by
  unfold frerSteps
  dsimp only
  (repeat' split) <;> simp [*]

@[simp] theorem logTick_vault (s : State) : vault (logTick s) = vault s := by simp [logTick]

@[simp] theorem refillNow_vault (s : State) : vault (refillNow s) = vault s := by simp [refillNow]

@[simp] theorem setSeg_vault (i : Nat) (g : Segment) (s : State) : vault (setSeg i g s) = vault s := by simp [setSeg]

@[simp] theorem setSource_vault (i : Nat) (v : WakeSource) (s : State) : vault (setSource i v s) = vault s := by simp [setSource]

@[simp] theorem segRecord_vault (i old new kind src : Nat) (s : State) : vault (segRecord i old new kind src s) = vault s := by simp [segRecord]

@[simp] theorem segTo_vault (i new : Nat) (s : State) : vault (segTo i new s) = vault s := by
  unfold segTo
  (repeat' split) <;> simp [*]

@[simp] theorem sendGts_vault (i : Nat) (s : State) : vault (sendGts i s) = vault s := by simp [sendGts]

@[simp] theorem segCheck_vault (i : Nat) (s0 : State) : vault (segCheck i s0) = vault s0 := by simp [segCheck]

@[simp] theorem segCheckAll_vault (s : State) : vault (segCheckAll s) = vault s := by simp [segCheckAll]

@[simp] theorem drivePin_vault (i : Nat) (down : Bool) (s : State) : vault (drivePin i down s) = vault s := by simp [drivePin]

@[simp] theorem startWaking_vault (i kind src : Nat) (s : State) : vault (startWaking i kind src s) = vault s := by simp [startWaking]

@[simp] theorem wakeRequest_vault (i kind src : Nat) (s : State) : vault (wakeRequest i kind src s) = vault s := by
  unfold wakeRequest
  dsimp only
  (repeat' split) <;> simp [*]

@[simp] theorem wakeCluster_vault (c kind : Nat) (but : Nat) (s : State) : vault (wakeCluster c kind but s) = vault s := by simp [wakeCluster]

@[simp] theorem validateSeg_vault (i : Nat) (s : State) : vault (validateSeg i s) = vault s := by simp [validateSeg]

@[simp] theorem validateEmpty_vault (s : State) : vault (validateEmpty s) = vault s := by simp [validateEmpty]

@[simp] theorem validationStarts_vault (i : Nat) (s : State) : vault (validationStarts i s) = vault s := by simp [validationStarts]

@[simp] theorem countOffender_vault (key : Rec) (s : State) : vault (countOffender key s) = vault s := by simp [countOffender]

@[simp] theorem logOffender_vault (key : Rec) (time count : Nat) (s : State) : vault (logOffender key time count s) = vault s := by simp [logOffender]

@[simp] theorem senderSeen_vault (i : Nat) (key : Rec) (s : State) : vault (senderSeen i key s) = vault s := by simp [senderSeen]

@[simp] theorem keepAlive_vault (v kind node a b : Nat) (clusters : List Nat) (s : State) : vault (keepAlive v kind node a b clusters s) = vault s :=
  by simp [keepAlive]

@[simp] theorem observePort_vault (port : Nat) (p : Parsed) (bytes : Bytes) (s : State) : vault (observePort port p bytes s) = vault s :=
  by simp [observePort]

@[simp] theorem observeCan_vault (bus : Nat) (f : CanFrame) (s : State) : vault (observeCan bus f s) = vault s := by simp [observeCan]

@[simp] theorem holdFor_vault (i : Nat) (h : Held) (s : State) : vault (holdFor i h s) = vault s := by simp [holdFor]

@[simp] theorem sleepDropped_vault (i : Nat) (s : State) : vault (sleepDropped i s) = vault s := by simp [sleepDropped]

@[simp] theorem stage1Drop_vault (port code : Nat) (stamp : Int) (b : Bytes) (s : State) : vault (stage1Drop port code stamp b s) = vault s :=
  by simp [stage1Drop]

@[simp] theorem gptpSignal_vault (port : Nat) (b : Bytes) (s : State) : vault (gptpSignal port b s) = vault s := by
  unfold gptpSignal
  dsimp only
  (repeat' split) <;> simp [*]

@[simp] theorem consumeGptp_vault (port : Nat) (b : Bytes) (s : State) : vault (consumeGptp port b s) = vault s := by simp [consumeGptp]

@[simp] theorem countRx_vault (port len : Nat) (b : Bytes) (s : State) : vault (countRx port len b s) = vault s := by simp [countRx]

@[simp] theorem newFrame_vault (v : Frame) (s : State) : vault (newFrame v s).2 = vault s := by simp [newFrame]

@[simp] theorem cellIn_vault (f : Nat) (v0 : Frame) (bytes : Bytes) (eof : Option Bool) (s0 : State) : vault (cellIn f v0 bytes eof s0) = vault s0 :=
  by simp [cellIn]

@[simp] theorem seenWhole_vault (port : Nat) (s : State) : vault (seenWhole port s) = vault s := by simp [seenWhole]

@[simp] theorem eat_vault (v : Frame) (s : State) : vault (eat v s) = vault s := by simp [eat]

@[simp] theorem eatenEnds_vault (v : Frame) (ok : Bool) (s : State) : vault (eatenEnds v ok s) = vault s := by simp [eatenEnds]

@[simp] theorem frameEnds_vault (f : Nat) (ok : Bool) (s : State) : vault (frameEnds f ok s) = vault s := by
  unfold frameEnds
  (repeat' split) <;> simp [*]

@[simp] theorem rxCell_vault (port : Nat) (bytes : Bytes) (sof : Bool) (eof : Option Bool) (s : State) : vault (rxCell port bytes sof eof s) = vault s := by
  unfold rxCell
  dsimp only
  (repeat' split) <;> simp [*]

@[simp] theorem storeAs_vault (f : Nat) (v : Frame) (s0 : State) : vault (storeAs f v s0) = vault s0 := by simp [storeAs]

@[simp] theorem nextFrame_vault (s : State) : vault (nextFrame s).2 = vault s := by simp [nextFrame]

@[simp] theorem storeFrame_vault (v : Frame) (s : State) : vault (storeFrame v s) = vault s := by simp [storeFrame]

@[simp] theorem ringsGive_vault (s : State) : vault (ringsGive s) = vault s := by
  refine foldl_vault _ (fun s e => ?_) _ s
  (repeat' split) <;> simp

@[simp] theorem injectFrame_vault (v : Frame) (s0 : State) : vault (injectFrame v s0) = vault s0 := by simp [injectFrame]

@[simp] theorem judge_vault (v : Frame) (p : Parsed) (cand : List Nat) (s : State) : vault (judge v p cand s).2 = vault s := by simp [judge]

@[simp] theorem classify_vault (v : Frame) (s : State) : vault (classify v s).2 = vault s := by
  unfold classify
  dsimp only
  (repeat' split) <;> simp [*]

@[simp] theorem mirrorIn_vault (f : Nat) (v : Frame) (sess : Nat) (s : State) : vault (mirrorIn f v sess s) = vault s := by simp [mirrorIn]

@[simp] theorem replicate_vault (f : Nat) (v : Frame) (d : Nat) (s : State) : vault (replicate f v d s) = vault s := by simp [replicate]

@[simp] theorem stage8_vault (f : Nat) (v : Frame) (s : State) : vault (stage8 f v s) = vault s := by
  unfold stage8
  extract_lets p c0
  have h1 : vault (if c0.isNone then filterSteps v.bytes.length v.handle v.occ v.dei s else (c0, v.dei, s)).2.2 = vault s :=
    vault_ite_of (filterSteps_vault ..) rfl
  generalize (if c0.isNone then filterSteps v.bytes.length v.handle v.occ v.dei s else (c0, v.dei, s)) = x at h1 ⊢
  obtain ⟨c1, dei, s1⟩ := x
  dsimp -zeta only
  have h2 : vault (if c1.isNone then frerSteps v.handle p.rtag s1 else (c1, none, false, s1)).2.2.2 = vault s := by
    refine Eq.trans ?_ h1
    split <;> simp
  generalize (if c1.isNone then frerSteps v.handle p.rtag s1 else (c1, none, false, s1)) = y at h2 ⊢
  obtain ⟨c2, seq, pop, s2⟩ := y
  dsimp -zeta only at h2 ⊢
  extract_lets _ _ _ s3 _ _ s4 s5 s6 s7 _ _ _ s8 s9
  have h3 : vault s3 = vault s := by simpa [s3, apply_ite vault] using h2
  have h4 : vault s4 = vault s := by simpa [s4, apply_ite vault] using h3
  have h5 : vault s5 = vault s := by
    unfold s5
    split <;> simp [h4]
  have h7 : vault s7 = vault s := by simpa [s7, s6] using h5
  have h8 : vault s8 = vault s := by simpa [s8, apply_ite vault] using h7
  have h9 : vault s9 = vault s := by simpa [s9] using h8
  split
  · simpa using h7
  · simpa using h9

@[simp] theorem randomBytes_vault (n : Nat) (s : State) : vault (randomBytes n s).2 = vault s := by
  induction n generalizing s with
  | zero => rfl
  | succ n ih => exact (ih _).trans (by simp)

@[simp] theorem setKeySlot_vault (i : Nat) (k : KeySlot) (s : State) : vault (setKeySlot i k s) = vault s := by simp [setKeySlot]

@[simp] theorem writeSlot_vault (i : Nat) (k : KeySlot) (s : State) : vault (writeSlot i k s) = vault s := by simp [writeSlot]

@[simp] theorem keyFailed_vault (st : Nat) (s : State) : vault (keyFailed st s) = vault s := by simp [keyFailed]

@[simp] theorem setSecy_vault (p : Nat) (y : SecY) (s : State) : vault (setSecy p y s) = vault s := by simp [setSecy]

@[simp] theorem setSa_vault (i : Nat) (a : Sa) (s : State) : vault (setSa i a s) = vault s := by simp [setSa]

@[simp] theorem secyCount_vault (p w k : Nat) (s : State) : vault (secyCount p w k s) = vault s := by simp [secyCount]

@[simp] theorem advancePn_vault (i : Nat) (s : State) : vault (advancePn i s) = vault s := by simp [advancePn]

theorem macsecTx_vault {p : Nat} {b c : Bytes} {s u : State} (h : macsecTx p b s = some (c, u)) : vault u = vault s := by
  unfold macsecTx at h
  split at h
  · cases h; rfl
  · split at h
    · cases h
    · cases h; simp


@[simp] theorem scrub_vault (p n : Nat) (s : State) : vault (scrub p n s) = vault s := by simp [scrub]

@[simp] theorem macsecRx_vault (p : Nat) (yr : Rec) (b : Bytes) (s : State) : vault (macsecRx p yr b s).2 = vault s := by
  unfold macsecRx
  extract_lets strict dropped tci sc enc chg sl low tagLen body padded data icv bad sci
  have hd : ∀ w u, vault (dropped w u).2 = vault u := fun w u => by simp [dropped]
  clear_value dropped bad data
  dsimp only
  (repeat' split) <;> simp [hd]

@[simp] theorem latentTakes_vault (port : Nat) (yr : Rec) (x : Int) (bytes : Bytes) (s : State) : vault (latentTakes port yr x bytes s) = vault s := by
  unfold latentTakes
  dsimp only
  (repeat' split) <;> simp [*]

@[simp] theorem latentOrWait_vault (port : Nat) (yr : Rec) (x : Int) (bytes : Bytes) (s : State) : vault (latentOrWait port yr x bytes s) = vault s :=
  by simp [latentOrWait]

@[simp] theorem bulkSubmit_vault (r : BulkReq) (s : State) : vault (bulkSubmit r s).2 = vault s := by
  unfold bulkSubmit
  (repeat' split) <;> simp [*]

@[simp] theorem requestNow_vault (r : BulkReq) (s : State) : vault (requestNow r s).2 = vault s := by
  unfold requestNow
  (repeat' split) <;> simp [*]

@[simp] theorem darkEvent_vault (cause : Nat) (s : State) : vault (darkEvent cause s) = vault s := by simp [darkEvent]

@[simp] theorem setDark_vault (d : Dark) (s : State) : vault (setDark d s) = vault s := by simp [setDark]

@[simp] theorem darkKeys_vault (s : State) : vault (darkKeys s) = vault s := by simp [darkKeys]

@[simp] theorem darkSign_vault (msg : Bytes) (s : State) : vault (darkSign msg s).2 = vault s := by
  unfold darkSign
  (repeat' split) <;> simp [*]

@[simp] theorem auditAppend_vault (kind count : Nat) (old new : Word) (fwVer : Nat) (s : State) : vault (auditAppend kind count old new fwVer s) = vault s :=
  by simp [auditAppend]

@[simp] theorem setDarkSlot_vault (i : Nat) (v : DarkSlot) (s : State) : vault (setDarkSlot i v s) = vault s := by simp [setDarkSlot]

@[simp] theorem triggerRecord_vault (src : TrigSrc) (outcome : Nat) (s : State) : vault (triggerRecord src outcome s) = vault s :=
  by simp [triggerRecord]

@[simp] theorem evidenceTrigger_vault (src : TrigSrc) (s : State) : vault (evidenceTrigger src s).2 = vault s := by
  unfold evidenceTrigger
  (repeat' split) <;> simp [*]

@[simp] theorem takeBefore_vault (s : State) : vault (takeBefore s) = vault s := by
  unfold takeBefore
  (repeat' split) <;> simp [*]

@[simp] theorem windowLive_vault (r : CsRec) (s : State) : vault (windowLive r s) = vault s := by
  unfold windowLive
  (repeat' split) <;> simp [*]

@[simp] theorem closeWindow_vault (s : State) : vault (closeWindow s) = vault s := by
  unfold closeWindow
  (repeat' split) <;> simp [*]

@[simp] theorem signWindow_vault (s : State) : vault (signWindow s) = vault s := by
  unfold signWindow
  (repeat' split) <;> simp [*]

@[simp] theorem nextWindow_vault (s : State) : vault (nextWindow s) = vault s := by
  unfold nextWindow
  (repeat' split) <;> simp [*]

@[simp] theorem ackWindow_vault (s : State) : vault (ackWindow s) = vault s := by
  unfold ackWindow
  (repeat' split) <;> simp [*]

@[simp] theorem auditCheck_vault (kind : Nat) (s : State) : vault (auditCheck kind s) = vault s := by
  unfold auditCheck
  (repeat' split) <;> simp [*]

@[simp] theorem darkReset_vault (s : State) : vault (darkReset s) = vault s := by simp [darkReset]

@[simp] theorem holdUpEnds_vault (t : Nat) (s : State) : vault (holdUpEnds t s) = vault s := by
  unfold holdUpEnds
  (repeat' split) <;> simp [*]

@[simp] theorem gatewayTrigger_vault (place : Nat) (f : CanFrame) (s : State) : vault (gatewayTrigger place f s) = vault s := by simp [gatewayTrigger]

@[simp] theorem guardHold_vault (p c : Nat) (w : Int) (s : State) : vault (guardHold p c w s) = vault s := by simp [guardHold]

@[simp] theorem choose_vault (p : Nat) (exp : Bool) (l : List Nat) (s : State) : vault (choose p exp l s).2 = vault s := by
  induction l generalizing s with
  | nil => rfl
  | cons c cs ih =>
    unfold choose
    (repeat' split) <;> simp [ih]

@[simp] theorem onLine_vault (p : Nat) (o : Output) (s : State) : vault (onLine p o s) = vault s := by simp [onLine]

@[simp] theorem gptpLeaves_vault (p c : Nat) (g : GptpTx) (e : Int) (s : State) : vault (gptpLeaves p c g e s) = vault s := by simp [gptpLeaves]

@[simp] theorem mirrorOut_vault (p : Nat) (r : Replica) (bytes : Bytes) (s : State) : vault (mirrorOut p r bytes s) = vault s := by simp [mirrorOut]

@[simp] theorem chargeShaper_vault (p c wire : Nat) (s : State) : vault (chargeShaper p c wire s) = vault s := by simp [chargeShaper]

@[simp] theorem countLate_vault (p c : Nat) (r : Replica) (s : State) : vault (countLate p c r s) = vault s := by simp [countLate]

@[simp] theorem pushNotice_vault (n : Notice) (s : State) : vault (pushNotice n s) = vault s := by simp [pushNotice]

@[simp] theorem noticeControl_vault (p : Nat) (r : Replica) (s : State) : vault (noticeControl p r s) = vault s := by
  unfold noticeControl
  (repeat' split) <;> simp [*]

@[simp] theorem cellEcc_vault (p : Nat) (r : Replica) (s : State) : vault (cellEcc p r s) = vault s := by
  unfold cellEcc
  (repeat' split) <;> simp [*]

@[simp] theorem startHead_vault (p c : Nat) (s0 : State) : vault (startHead p c s0) = vault s0 := by
  unfold startHead
  split
  · rfl
  · dsimp only
    split
    · simp
    · next hline => 
      have hs := macsecTx_vault hline
      simp at hs
      split <;> simp [hs]

@[simp] theorem resume_vault (p : Nat) (s : State) : vault (resume p s) = vault s := by
  unfold resume
  dsimp only
  (repeat' split) <;> simp [*]

@[simp] theorem txEnd_vault (p : Nat) (s0 : State) : vault (txEnd p s0) = vault s0 := by
  unfold txEnd
  dsimp only
  (repeat' split) <;> simp [*]

@[simp] theorem endFragment_vault (p : Nat) (s : State) : vault (endFragment p s) = vault s := by
  unfold endFragment
  dsimp only
  (repeat' split) <;> simp [*]

theorem vault_of_choose {p : Nat} {exp : Bool} {l : List Nat} {s u : State} {o : Option Nat} (h : choose p exp l s = (o, u)) : vault u = vault s := by
  have hc := choose_vault p exp l s
  rwa [h] at hc

@[simp] theorem txStart_vault (p : Nat) (s : State) : vault (txStart p s) = vault s := by
  unfold txStart
  extract_lets u e express
  have hu : vault u = vault s := by simp [u]
  have he {o v} (h : express u = (o, v)) : vault v = vault s := (vault_of_choose h).trans hu
  clear_value u express
  split
  · exact hu
  · split
    · split
      · exact hu
      · split
        · next h => exact (endFragment_vault _ _).trans (he h)
        · next h => exact he h
    · split
      · exact hu
      · split
        · next h => exact (startHead_vault _ _ _).trans (he h)
        · next h =>
          have hv := he h
          split
          · exact hv
          · split
            · split <;> simp [hv]
            · split
              · next hn => exact (startHead_vault _ _ _).trans ((vault_of_choose hn).trans hv)
              · next hn => exact (vault_of_choose hn).trans hv

@[simp] theorem setHold_vault (p : Nat) (on : Bool) (s : State) : vault (setHold p on s) = vault s := by simp [setHold]

@[simp] theorem gateListAt_vault (p : Nat) (w : Int) (s : State) : vault (gateListAt p w s) = vault s := by
  unfold gateListAt
  dsimp only
  (repeat' split) <;> simp [*]

@[simp] theorem gateListStart_vault (p : Nat) (s : State) : vault (gateListStart p s) = vault s := by simp [gateListStart]

@[simp] theorem gateListsAt_vault (w : Int) (s : State) : vault (gateListsAt w s) = vault s := by simp [gateListsAt]

@[simp] theorem closeCut_vault (p : Nat) (s : State) : vault (closeCut p s) = vault s := by
  unfold closeCut
  (repeat' split) <;> simp [*]

@[simp] theorem gateEntryStart_vault (p : Nat) (s0 : State) : vault (gateEntryStart p s0) = vault s0 := by simp [gateEntryStart]

@[simp] theorem starveDrop_vault (p c : Nat) (s : State) : vault (starveDrop p c s) = vault s := by
  unfold starveDrop
  dsimp only
  (repeat' split) <;> simp [*]

@[simp] theorem launchReached_vault (p c : Nat) (s : State) : vault (launchReached p c s) = vault s := by
  unfold launchReached
  (repeat' split) <;> simp [*]

@[simp] theorem setCan_vault (b : Nat) (c : Can) (s : State) : vault (setCan b c s) = vault s := by simp [setCan]

@[simp] theorem setLin_vault (b : Nat) (l : Lin) (s : State) : vault (setLin b l s) = vault s := by simp [setLin]

@[simp] theorem canCount_vault (b w : Nat) (s : State) : vault (canCount b w s) = vault s := by simp [canCount]

@[simp] theorem linCount_vault (b w : Nat) (s : State) : vault (linCount b w s) = vault s := by simp [linCount]

@[simp] theorem gwDrop_vault (place code : Nat) (s : State) : vault (gwDrop place code s) = vault s := by simp [gwDrop]

@[simp] theorem gwEvent_vault (cause : Nat) (s : State) : vault (gwEvent cause s) = vault s := by simp [gwEvent]

@[simp] theorem gwTake_vault (bytes : Nat) (s : State) : vault (gwTake bytes s).2 = vault s := by
  unfold gwTake
  dsimp only
  (repeat' split) <;> simp [*]

@[simp] theorem gwHold_vault (n : Option Nat) (s : State) : vault (gwHold n s) = vault s := by
  unfold gwHold
  (repeat' split) <;> simp [*]

@[simp] theorem gwFree_vault (n : Option Nat) (s : State) : vault (gwFree n s) = vault s := by
  unfold gwFree
  (repeat' split) <;> simp [*]

@[simp] theorem fillSlot_vault (b i : Nat) (o : GwOut) (host : Bool) (tag : Word) (s : State) : vault (fillSlot b i o host tag s) = vault s :=
  by simp [fillSlot]

@[simp] theorem placeCan_vault (b : Nat) (o : GwOut) (s : State) : vault (placeCan b o s) = vault s := by
  unfold placeCan
  dsimp only
  (repeat' split) <;> simp [*]

@[simp] theorem placeLin_vault (b : Nat) (o : GwOut) (s : State) : vault (placeLin b o s) = vault s := by
  unfold placeLin
  (repeat' split) <;> simp [*]

@[simp] theorem placeBus_vault (place : Nat) (o : GwOut) (s : State) : vault (placeBus place o s) = vault s := by simp [placeBus]

@[simp] theorem placeOrHold_vault (place : Nat) (o : GwOut) (worthy : Bool) (s : State) : vault (placeOrHold place o worthy s) = vault s :=
  by simp [placeOrHold]

@[simp] theorem setTunnel_vault (i : Nat) (t : Tunnel) (s : State) : vault (setTunnel i t s) = vault s := by simp [setTunnel]

@[simp] theorem flushTunnel_vault (i : Nat) (s : State) : vault (flushTunnel i s) = vault s := by simp [flushTunnel]

@[simp] theorem tunnelAdd_vault (i : Nat) (msg : Bytes) (s0 : State) : vault (tunnelAdd i msg s0) = vault s0 := by simp [tunnelAdd]

@[simp] theorem toTargets_vault (g : GwFrame) (out : CanFrame) (s : State) : vault (toTargets g out s) = vault s := by simp [toTargets]

@[simp] theorem gwAwait_vault (w : GwWait) (s : State) : vault (gwAwait w s) = vault s := by simp [gwAwait]

@[simp] theorem translate_vault (g : GwFrame) (s : State) : vault (translate g s) = vault s := by
  unfold translate
  dsimp only
  (repeat' split) <;> simp [*]

@[simp] theorem authDrop_vault (g : GwFrame) (code : Nat) (s : State) : vault (authDrop g code s) = vault s := by simp [authDrop]

@[simp] theorem setFresh_vault (e v : Nat) (s : State) : vault (setFresh e v s) = vault s := by simp [setFresh]

@[simp] theorem secured_vault (g : GwFrame) (out : CanFrame) (status : Nat) (key : Bytes) (s : State) : vault (secured g out status key s) = vault s := by
  unfold secured
  dsimp only
  (repeat' split) <;> simp [*]

@[simp] theorem engineGo_vault (g : GwFrame) (s : State) : vault (engineGo g s) = vault s := by simp [engineGo]

@[simp] theorem releasePlain_vault (n : Nat) (s : State) : vault (releasePlain n s) = vault s := by
  induction n generalizing s with
  | zero => rfl
  | succ n ih =>
    unfold releasePlain
    split <;> simp [ih]

@[simp] theorem sendKeepAlive_vault (i : Nat) (s : State) : vault (sendKeepAlive i s) = vault s := by simp [sendKeepAlive]

@[simp] theorem firstKeepAlives_vault (s : State) : vault (firstKeepAlives s) = vault s := by simp [firstKeepAlives]

@[simp] theorem releaseHeld_vault (i : Nat) (h : Held) (s : State) : vault (releaseHeld i h s) = vault s := by
  unfold releaseHeld
  (repeat' split) <;> simp [*]

@[simp] theorem segAwake_vault (i : Nat) (s : State) : vault (segAwake i s) = vault s := by simp [segAwake]

@[simp] theorem setCiph_vault (c : Cipher) (s : State) : vault (setCiph c s) = vault s := by simp [setCiph]

@[simp] theorem setEntry_vault (i : Nat) (e : BulkEntry) (s : State) : vault (setEntry i e s) = vault s := by simp [setEntry]

@[simp] theorem bulkStart_vault (requester : Nat) (s : State) : vault (bulkStart requester s) = vault s := by
  unfold bulkStart
  (repeat' split) <;> simp [*]

@[simp] theorem chunkEnd_vault (s : State) : vault (chunkEnd s) = vault s := by
  unfold chunkEnd
  dsimp only
  (repeat' split) <;> simp [*]

@[simp] theorem endStatus_vault (e : BulkEntry) (s : State) : vault (endStatus e s).2 = vault s := by
  unfold endStatus
  dsimp only
  (repeat' split) <;> simp [*]

@[simp] theorem cipherAlarm_vault (cause : AlarmCause) (s : State) : vault (cipherAlarm cause s) = vault s := by simp [cipherAlarm]

@[simp] theorem zeroizeDone_vault (s : State) : vault (zeroizeDone s) = vault s := by simp [zeroizeDone]

@[simp] theorem pipeTestDue_vault (pipe : Nat) (s : State) : vault (pipeTestDue pipe s) = vault s := by simp [pipeTestDue]

@[simp] theorem submitTests_vault (s : State) : vault (submitTests s) = vault s := by simp [submitTests]

@[simp] theorem bulkTestDue_vault (s : State) : vault (bulkTestDue s) = vault s := by simp [bulkTestDue]

@[simp] theorem unitTested_vault (pub pass : Bool) (s : State) : vault (unitTested pub pass s) = vault s := by simp [unitTested]

@[simp] theorem testEnds_vault (unit : Nat) (pass : Bool) (s : State) : vault (testEnds unit pass s) = vault s := by
  unfold testEnds
  (repeat' split) <;> simp [*]

@[simp] theorem recDown_vault (r : Nat) (s : State) : vault (recDown r s).2 = vault s := by
  unfold recDown
  (repeat' split) <;> simp [*]

@[simp] theorem setErr_vault (b tec rec1 : Nat) (s : State) : vault (setErr b tec rec1 s) = vault s := by simp [setErr]

@[simp] theorem canRx_vault (b : Nat) (f : CanFrame) (sof : Nat) (s : State) : vault (canRx b f sof s) = vault s := by simp [canRx]

@[simp] theorem setRxTunnel_vault (i : Nat) (v : RxTunnel) (s : State) : vault (setRxTunnel i v s) = vault s := by simp [setRxTunnel]

@[simp] theorem acfMessageRx_vault (i : Nat) (m : Bytes) (s : State) : vault (acfMessageRx i m s) = vault s := by simp [acfMessageRx]

@[simp] theorem acfBroken_vault (i kind : Nat) (s : State) : vault (acfBroken i kind s) = vault s := by simp [acfBroken]

@[simp] theorem acfMessages_vault (i : Nat) (n : Nat) (b : Bytes) (s : State) : vault (acfMessages i n b s) = vault s := by
  induction n generalizing b s with
  | zero => rfl
  | succ n ih =>
    unfold acfMessages
    dsimp only
    (repeat' split) <;> simp [ih]

@[simp] theorem acfRx_vault (b : Bytes) (s : State) : vault (acfRx b s) = vault s := by
  unfold acfRx
  dsimp only
  (repeat' split) <;> simp [*]

@[simp] theorem countCanLate_vault (b i : Nat) (x : CanSlot) (s : State) : vault (countCanLate b i x s) = vault s := by simp [countCanLate]

@[simp] theorem canTxStart_vault (b : Nat) (s : State) : vault (canTxStart b s) = vault s := by
  unfold canTxStart
  (repeat' split) <;> simp [*]

@[simp] theorem countErr_vault (b : Nat) (k : CanErr) (s : State) : vault (countErr b k s) = vault s := by
  unfold countErr
  (repeat' split) <;> simp [*]

@[simp] theorem canRxFailed_vault (b : Nat) (k : CanErr) (s : State) : vault (canRxFailed b k s) = vault s := by simp [canRxFailed]

@[simp] theorem busOffEnds_vault (b : Nat) (s : State) : vault (busOffEnds b s) = vault s := by simp [busOffEnds]

@[simp] theorem canIntegrated_vault (b : Nat) (s : State) : vault (canIntegrated b s) = vault s := by simp [canIntegrated]

@[simp] theorem linTakePending_vault (b : Nat) (s : State) : vault (linTakePending b s) = vault s := by
  unfold linTakePending
  dsimp only
  (repeat' split) <;> simp [*]

@[simp] theorem linAdvance_vault (b : Nat) (s : State) : vault (linAdvance b s) = vault s := by
  unfold linAdvance
  dsimp only
  (repeat' split) <;> simp [*]

@[simp] theorem linSkipped_vault (b n : Nat) (l : Lin) (s : State) : vault (linSkipped b n l s) = vault s := by simp [linSkipped]

@[simp] theorem linPass_vault (b : Nat) (whole : Bool) (w : Int) (s : State) : vault (linPass b whole w s) = vault s := by
  unfold linPass
  dsimp only
  (repeat' split) <;> simp [*]

@[simp] theorem linPassed_vault (b : Nat) (whole : Bool) (w : Int) (s : State) : vault (linPassed b whole w s) = vault s := by simp [linPassed]

@[simp] theorem linSkip_vault (b : Nat) (s : State) : vault (linSkip b s) = vault s := by
  unfold linSkip
  refine (linPassed_vault _ _ _ _).trans (foldl_vault _ (fun s e => ?_) _ s)
  dsimp only
  (repeat' split) <;> simp

@[simp] theorem linSelected_vault (b : Nat) (s : State) : vault (linSelected b s) = vault s := by
  unfold linSelected
  dsimp only
  (repeat' split) <;> simp [*]

@[simp] theorem linWakes_vault (b : Nat) (s : State) : vault (linWakes b s) = vault s := by
  unfold linWakes
  dsimp only
  (repeat' split) <;> simp [*]

@[simp] theorem linSlotStart_vault (b : Nat) (recessive : Bool) (s00 : State) : vault (linSlotStart b recessive s00) = vault s00 := by
  unfold linSlotStart
  dsimp only
  (repeat' split) <;> simp [*]

@[simp] theorem linCollide_vault (b : Nat) (e : Word) (s : State) : vault (linCollide b e s) = vault s := by
  unfold linCollide
  dsimp only
  (repeat' split) <;> simp [*]

@[simp] theorem linApply_vault (b : Nat) (s : State) : vault (linApply b s) = vault s := by
  unfold linApply
  dsimp only
  (repeat' split) <;> simp [*]

@[simp] theorem deviceWakeRecord_vault (type level cause : Nat) (s : State) : vault (deviceWakeRecord type level cause s) = vault s :=
  by simp [deviceWakeRecord]

@[simp] theorem startEntry_vault (level : Nat) (s : State) : vault (startEntry level s) = vault s := by simp [startEntry]

@[simp] theorem finishEntry_vault (s : State) : vault (finishEntry s) = vault s := by
  unfold finishEntry
  (repeat' split) <;> simp [*]

@[simp] theorem entryShutDown_vault (s : State) : vault (entryShutDown s) = vault s := by
  unfold entryShutDown
  (repeat' split) <;> simp [*]

@[simp] theorem sourceEvent_vault (src : Nat) (s : State) : vault (sourceEvent src s) = vault s := by simp [sourceEvent]

@[simp] theorem riseWakeOut_vault (level : Nat) (s : State) : vault (riseWakeOut level s) = vault s := by
  have h (u : State) (nm : NmState) (sys : SysState) (hs : sys.fw = u.sys.fw) : vault { u with nm := nm, sys := sys } = vault u := by simp [vault, fuses, hs]
  exact (h _ _ _ rfl).trans (by simp)

@[simp] theorem wakeEvent_vault (src : Nat) (s : State) : vault (wakeEvent src s) = vault s := by
  have h (u : State) (nm : NmState) : vault { u with nm := nm } = vault u := update_vault _ _ rfl _ rfl rfl _ rfl rfl ..
  unfold wakeEvent
  dsimp only
  split
  · (repeat' split) <;> simp only [h, riseWakeOut_vault, regPut_vault, setFlag_vault, setSource_vault]
  · (repeat' split) <;> simp

@[simp] theorem falseWake_vault (src : Nat) (s : State) : vault (falseWake src s) = vault s := by simp [falseWake]

@[simp] theorem windowEnds_vault (src : Nat) (s : State) : vault (windowEnds src s) = vault s := by
  unfold windowEnds
  (repeat' split) <;> simp [*]

@[simp] theorem qualify_vault (src : Nat) (s0 : State) : vault (qualify src s0) = vault s0 := by simp [qualify]

@[simp] theorem hintEvent_vault (s : State) : vault (hintEvent s) = vault s := by simp [hintEvent]

@[simp] theorem giveHint_vault (s : State) : vault (giveHint s) = vault s := by simp [giveHint]

@[simp] theorem endHint_vault (s : State) : vault (endHint s) = vault s := by simp [endHint]

@[simp] theorem logOffenders_vault (s : State) : vault (logOffenders s) = vault s := by simp [logOffenders]

@[simp] theorem needExpired_vault (i : Nat) (s : State) : vault (needExpired i s) = vault s := by
  unfold needExpired
  (repeat' split) <;> simp [*]

@[simp] theorem clusterExpired_vault (c : Nat) (s : State) : vault (clusterExpired c s) = vault s := by
  unfold clusterExpired
  (repeat' split) <;> simp [*]

@[simp] theorem dropHeld_vault (i : Nat) (h : Held) (s : State) : vault (dropHeld i h s) = vault s := by
  unfold dropHeld
  (repeat' split) <;> simp [*]

@[simp] theorem wakeTimedOut_vault (i : Nat) (s : State) : vault (wakeTimedOut i s) = vault s := by simp [wakeTimedOut]

@[simp] theorem afterStep_vault (a : Nat) (s : State) : vault (afterStep a s) = vault s := by simp [afterStep]

@[simp] theorem anchorReached_vault (s : State) : vault (anchorReached s) = vault s := by
  unfold anchorReached
  (repeat' split) <;> simp [*]

@[simp] theorem syncLost_vault (i : Nat) (s : State) : vault (syncLost i s) = vault s := by
  unfold syncLost
  (repeat' split) <;> simp [*]

@[simp] theorem setAnnounce_vault (i port : Nat) (v : Option PortInfo) (s : State) : vault (setAnnounce i port v s) = vault s := by simp [setAnnounce]

@[simp] theorem announceLost_vault (i port : Nat) (s : State) : vault (announceLost i port s) = vault s := by
  unfold announceLost
  (repeat' split) <;> simp [*]

@[simp] theorem sendGptp_vault (p c : Nat) (g : GptpTx) (s : State) : vault (sendGptp p c g s) = vault s := by simp [sendGptp]

@[simp] theorem relaySync_vault (i : Nat) (h : HeldSync) (m : SyncMsg) (s : State) : vault (relaySync i h m s) = vault s := by simp [relaySync]

@[simp] theorem syncRx_vault (port : Nat) (m : SyncMsg) (s : State) : vault (syncRx port m s) = vault s := by
  unfold syncRx
  (repeat' split) <;> simp [*]

@[simp] theorem followUpRx_vault (port : Nat) (m : SyncMsg) (s : State) : vault (followUpRx port m s) = vault s := by
  unfold followUpRx
  (repeat' split) <;> simp [*]

@[simp] theorem followUpMissed_vault (i : Nat) (s : State) : vault (followUpMissed i s) = vault s := by simp [followUpMissed]

@[simp] theorem gmSyncPort_vault (i p : Nat) (s : State) : vault (gmSyncPort i p s) = vault s := by simp [gmSyncPort]

@[simp] theorem gmSync_vault (i : Nat) (s : State) : vault (gmSync i s) = vault s := by simp [gmSync]

@[simp] theorem announceIn_vault (port : Nat) (m : AnnounceMsg) (s : State) : vault (announceIn port m s) = vault s := by
  unfold announceIn
  dsimp only
  (repeat' split) <;> simp [*]

@[simp] theorem announceOut_vault (i port : Nat) (s : State) : vault (announceOut i port s) = vault s := by simp [announceOut]

@[simp] theorem pdelayUnanswered_vault (port : Nat) (s : State) : vault (pdelayUnanswered port s) = vault s := by simp [pdelayUnanswered]

@[simp] theorem pdelayReqOut_vault (port : Nat) (s : State) : vault (pdelayReqOut port s) = vault s := by simp [pdelayReqOut]

@[simp] theorem pdelayReqIn_vault (port : Nat) (m : PdelayReq) (s : State) : vault (pdelayReqIn port m s) = vault s := by simp [pdelayReqIn]

@[simp] theorem pdelaySample_vault (port : Nat) (m : PdelayResp) (t1 t4 : Int) (s : State) : vault (pdelaySample port m t1 t4 s) = vault s :=
  by simp [pdelaySample]

@[simp] theorem pdelayRespIn_vault (port : Nat) (m : PdelayResp) (s : State) : vault (pdelayRespIn port m s) = vault s := by
  unfold pdelayRespIn
  dsimp only
  (repeat' split) <;> simp [*]

@[simp] theorem carriedDecides_vault (o : Origin) (s : State) (c : Carried) : vault (carriedDecides o s c) = vault s := by
  unfold carriedDecides
  (repeat' split) <;> simp [*]

@[simp] theorem setPow_vault (f : PowerState → PowerState) (s : State) : vault (setPow f s) = vault s := by simp [setPow]

@[simp] theorem setCore_vault (f : CoreState → CoreState) (s : State) : vault (setCore f s) = vault s := by simp [setCore]

@[simp] theorem setTest_vault (f : TestState → TestState) (s : State) : vault (setTest f s) = vault s := by simp [setTest]

@[simp] theorem resetStat_vault (level cause : Nat) (s : State) : vault (resetStat level cause s) = vault s := by simp [resetStat]

@[simp] theorem rebaseSources_vault (base : Nat) (s : State) : vault (rebaseSources base s) = vault s := by simp [rebaseSources]

@[simp] theorem restartBeat_vault (w : Int) (s : State) : vault (restartBeat w s) = vault s := by simp [restartBeat]

@[simp] theorem startTime_vault (s : State) : vault (startTime s) = vault s := by simp [startTime]

@[simp] theorem wakeDone_vault (s : State) : vault (wakeDone s) = vault s := by
  unfold wakeDone
  (repeat' split) <;> simp [*]

@[simp] theorem supplyRecord_vault (cause : Nat) (p : BitVec 64) (s : State) : vault (supplyRecord cause p s) = vault s := by simp [supplyRecord]

@[simp] theorem oweDone_vault (s : State) : vault (oweDone s) = vault s := by
  unfold oweDone
  (repeat' split) <;> simp [*]

@[simp] theorem releaseReset_vault (s : State) : vault (releaseReset s) = vault s := by simp [releaseReset]

@[simp] theorem takesIn_vault (s : State) : vault (takesIn s) = vault s := by
  unfold takesIn
  (repeat' split) <;> simp [*]

@[simp] theorem complete_vault (status : Nat) (data : Rec) (s : State) : vault (complete status data s) = vault s := by simp [complete]

@[simp] theorem miso_vault (b : Bytes) (s : State) : vault (miso b s) = vault s := by simp [miso]

@[simp] theorem spiServes_vault (r : Nat × Rec) (n : Nat) (s : State) : vault (spiServes r n s) = vault s := by simp [spiServes]

@[simp] theorem spiAnswer_vault (st : Nat) (s : State) : vault (spiAnswer st s) = vault s := by simp [spiAnswer]

@[simp] theorem setSem_vault (i : Nat) (x : Option Sem) (s : State) : vault (setSem i x s) = vault s := by simp [setSem]

@[simp] theorem spiLockTaken_vault (bar2 : Bool) (off : Nat) (s : State) : vault (spiLockTaken bar2 off s) = vault s := by
  unfold spiLockTaken
  (repeat' split) <;> simp [*]

@[simp] theorem writeRecord_vault (o : Origin) (failed : Bool) (off : Nat) (v : Word) (s : State) : vault (writeRecord o failed off v s) = vault s :=
  by simp [writeRecord]

@[simp] theorem readFails_vault (w : WaitRead) (status : Nat) (s : State) : vault (readFails w status s) = vault s := by simp [readFails]

@[simp] theorem readsExpire_vault (s : State) : vault (readsExpire s) = vault s := by simp [readsExpire]

@[simp] theorem ok_vault (s : State) : vault (ok s).2 = vault s := by simp [ok]

@[simp] theorem okWith_vault (payload : Rec) (s : State) : vault (okWith payload s).2 = vault s := by simp [okWith]

@[simp] theorem refuse_vault (status word0 : Nat) (s : State) : vault (refuse status word0 s).2 = vault s := by simp [refuse]

@[simp] theorem rangeAt_vault (n : Nat) (s : State) : vault (rangeAt n s).2 = vault s := by simp [rangeAt]

@[simp] theorem conflictAt_vault (n : Nat) (s : State) : vault (conflictAt n s).2 = vault s := by simp [conflictAt]

@[simp] theorem conflict_vault (s : State) : vault (conflict s).2 = vault s := by simp [conflict]

@[simp] theorem busy_vault (s : State) : vault (busy s).2 = vault s := by simp [busy]

@[simp] theorem tableFull_vault (s : State) : vault (tableFull s).2 = vault s := by simp [tableFull]

@[simp] theorem locked_vault (s : State) : vault (locked s).2 = vault s := by simp [locked]

@[simp] theorem keyRefused_vault (st : Nat) (s : State) : vault (keyRefused st s).2 = vault s := by simp [keyRefused]

@[simp] theorem stage_vault (x : SetItem) (s : State) : vault (stage x s).2 = vault s := by simp [stage]

@[simp] theorem mbxRecord_vault (m : Nat) (resp : Bool) (opcode status : Nat) (seq : Word) (s : State) : vault (mbxRecord m resp opcode status seq s) = vault s :=
  by simp [mbxRecord]

@[simp] theorem ringQueued_vault (o : Origin) (id : RingId) (ws : Rec) (s : State) : vault (ringQueued o id ws s) = vault s := by simp [ringQueued]

@[simp] theorem snapshotTaken_vault (id : Nat) (s : State) : vault (snapshotTaken id s) = vault s := by simp [snapshotTaken]

@[simp] theorem setPlca_vault (n : Nat) (on : Bool) (s : State) : vault (setPlca n on s) = vault s := by simp [setPlca]

@[simp] theorem goUp_vault (n : Nat) (s : State) : vault (goUp n s) = vault s := by simp [goUp]

@[simp] theorem tryUp_vault (n : Nat) (s : State) : vault (tryUp n s) = vault s := by simp [tryUp]

@[simp] theorem enablePort_vault (n : Nat) (s : State) : vault (enablePort n s) = vault s := by simp [enablePort]

@[simp] theorem speedChanged_vault (n speed : Nat) (s : State) : vault (speedChanged n speed s) = vault s := by simp [speedChanged]

@[simp] theorem absorbed_vault (n : Nat) (s : State) : vault (absorbed n s) = vault s := by simp [absorbed]

@[simp] theorem linkUp_vault (n : Nat) (speed : Option Nat) (s : State) : vault (linkUp n speed s) = vault s := by
  unfold linkUp
  dsimp only
  (repeat' split) <;> simp [*]

@[simp] theorem linkLost_vault (n : Nat) (s : State) : vault (linkLost n s) = vault s := by
  unfold linkLost
  dsimp only
  (repeat' split) <;> simp [*]

@[simp] theorem beaconBack_vault (n : Nat) (s : State) : vault (beaconBack n s) = vault s := by simp [beaconBack]

@[simp] theorem linkMove_vault (n : Nat) (m : LinkMove) (s : State) : vault (linkMove n m s) = vault s := by
  unfold linkMove
  (repeat' split) <;> simp [*]

@[simp] theorem noteMove_vault (n : Nat) (m : LinkMove) (s : State) : vault (noteMove n m s) = vault s := by simp [noteMove]

@[simp] theorem undoMove_vault (n : Nat) (s : State) : vault (undoMove n s) = vault s := by
  unfold undoMove
  (repeat' split) <;> simp [*]

@[simp] theorem staysUp_vault (n : Nat) (s : State) : vault (staysUp n s) = vault s := by
  unfold staysUp
  (repeat' split) <;> simp [*]

@[simp] theorem transition_vault (n : Nat) (m : LinkMove) (s : State) : vault (transition n m s) = vault s := by simp [transition]

@[simp] theorem redoMove_vault (n : Nat) (s : State) : vault (redoMove n s) = vault s := by
  unfold redoMove
  (repeat' split) <;> simp [*]

@[simp] theorem holdExpired_vault (n : Nat) (s : State) : vault (holdExpired n s) = vault s := by
  unfold holdExpired
  (repeat' split) <;> simp [*]

@[simp] theorem refLost_vault (groupB : Bool) (s : State) : vault (refLost groupB s) = vault s := by
  unfold refLost
  refine (foldl_vault _ (fun s n => ?_) _ _).trans (by simp)
  dsimp only
  split <;> simp

@[simp] theorem reloadGroup_vault (groupB : Bool) (s : State) : vault (reloadGroup groupB s) = vault s := by simp [reloadGroup]

@[simp] theorem dlcDone_vault (n : Nat) (rxPos txPos offset : Int) (s : State) : vault (dlcDone n rxPos txPos offset s) = vault s := by simp [dlcDone]

@[simp] theorem beaconOut_vault (n : Nat) (s : State) : vault (beaconOut n s) = vault s := by simp [beaconOut]

@[simp] theorem beaconLost_vault (n : Nat) (s : State) : vault (beaconLost n s) = vault s := by simp [beaconLost]

@[simp] theorem mergeVerified_vault (n : Nat) (s : State) : vault (mergeVerified n s) = vault s := by simp [mergeVerified]

@[simp] theorem trainingFailed_vault (n : Nat) (s : State) : vault (trainingFailed n s) = vault s := by simp [trainingFailed]

@[simp] theorem pcsError_vault (n : Nat) (k : PcsErr) (s : State) : vault (pcsError n k s) = vault s := by
  unfold pcsError
  (repeat' split) <;> simp [*]

@[simp] theorem applyGateSwap_vault (p : Nat) (b : Int) (s : State) : vault (applyGateSwap p b s) = vault s := by simp [applyGateSwap]

@[simp] theorem applyFwSwap_vault (s : State) : vault (applyFwSwap s) = vault s := by simp [applyFwSwap]

@[simp] theorem applyGate_vault (i : Nat) (r : Rec) (b : Int) (s : State) : vault (applyGate i r b s) = vault s := by simp [applyGate]

@[simp] theorem applyRecovery_vault (i : Nat) (r : Rec) (s : State) : vault (applyRecovery i r s) = vault s := by simp [applyRecovery]

@[simp] theorem applyLinSelect_vault (bus : Nat) (t : Option Nat) (b : Int) (s : State) : vault (applyLinSelect bus t b s) = vault s :=
  by simp [applyLinSelect]

@[simp] theorem applySegment_vault (i : Nat) (r : Rec) (s : State) : vault (applySegment i r s) = vault s := by
  unfold applySegment
  dsimp only
  (repeat' split) <;> simp [*]

@[simp] theorem applyService_vault (p : Nat) (enter : Bool) (s : State) : vault (applyService p enter s) = vault s := by simp [applyService]

@[simp] theorem applySet_vault (b : Int) (x : SetItem) (s : State) : vault (applySet b x s) = vault s := by
  unfold applySet
  (repeat' split) <;> simp [*]

@[simp] theorem projected_vault (s : State) : vault (projected s) = vault s := by simp [projected]

@[simp] theorem projectedWith_vault (x : SetItem) (s : State) : vault (projectedWith x s) = vault s := by simp [projectedWith]

@[simp] theorem setObj_vault (o : Nat) (x : PairObj) (s : State) : vault (setObj o x s) = vault s := by simp [setObj]

@[simp] theorem pairEvent_vault (cause : Nat) (o : Option Nat) (s : State) : vault (pairEvent cause o s) = vault s := by simp [pairEvent]

@[simp] theorem pairSend_vault (type : Nat) (body : Rec) (extra : List Nat) (s : State) : vault (pairSend type body extra s) = vault s := by
  unfold pairSend
  extract_lets p own head msg r e
  have hr : vault r.2 = vault s := by simp [r]
  split
  · rfl
  · split
    · exact hr
    · exact (emit_vault _ _).trans ((setEgress_vault _ _ _).trans (setPair_vault_of hr rfl rfl))

@[simp] theorem sendCheckpoint_vault (s : State) : vault (sendCheckpoint s) = vault s := by simp [sendCheckpoint]

@[simp] theorem takeFresh_vault (o k : Nat) (w : Rec) (s : State) : vault (takeFresh o k w s) = vault s := by simp [takeFresh]

@[simp] theorem takeGens_vault (k : Nat) (w : Rec) (s : State) : vault (takeGens k w s) = vault s := by simp [takeGens]

@[simp] theorem takeSeg_vault (o : Nat) (w : Rec) (s : State) : vault (takeSeg o w s) = vault s := by simp [takeSeg]

@[simp] theorem takePubs_vault (b : Nat) (w : Rec) (s : State) : vault (takePubs b w s) = vault s := by simp [takePubs]

@[simp] theorem takeState_vault (o k : Nat) (first : Bool) (w : Rec) (s : State) : vault (takeState o k first w s) = vault s := by simp [takeState]

@[simp] theorem startsServing_vault (o : Nat) (s : State) : vault (startsServing o s) = vault s := by
  unfold startsServing
  dsimp only
  (repeat' split) <;> simp [*]

@[simp] theorem takeObj_vault (o : Nat) (advance : Bool) (lease : Option Nat) (s : State) : vault (takeObj o advance lease s) = vault s := by
  unfold takeObj
  (repeat' split) <;> simp [*]

@[simp] theorem takeGroup_vault (advance : Bool) (s : State) : vault (takeGroup advance s) = vault s := by simp [takeGroup]

@[simp] theorem pairDrop_vault (s : State) : vault (pairDrop s) = vault s := by simp [pairDrop]

@[simp] theorem claimsDone_vault (n : Nat) (s : State) : vault (claimsDone n s) = vault s := by
  refine foldl_vault _ (fun s o => ?_) _ s
  (repeat' split) <;> simp

@[simp] theorem handedOver_vault (o : Nat) (s : State) : vault (handedOver o s) = vault s := by simp [handedOver]

@[simp] theorem partnerTimeout_vault (s : State) : vault (partnerTimeout s) = vault s := by simp [partnerTimeout]

@[simp] theorem sendToken_vault (extra : List Nat) (s : State) : vault (sendToken extra s) = vault s := by simp [sendToken]

@[simp] theorem tokenDue_vault (s : State) : vault (tokenDue s) = vault s := by simp [tokenDue]

@[simp] theorem claimDue_vault (o : Nat) (s : State) : vault (claimDue o s) = vault s := by simp [claimDue]

@[simp] theorem claimTimedOut_vault (o : Nat) (s : State) : vault (claimTimedOut o s) = vault s := by
  unfold claimTimedOut
  dsimp only
  (repeat' split) <;> simp [*]

@[simp] theorem interlockLow_vault (s : State) : vault (interlockLow s) = vault s := by simp [interlockLow]

@[simp] theorem interlockSample_vault (high : Bool) (s0 : State) : vault (interlockSample high s0) = vault s0 := by
  unfold interlockSample
  dsimp only
  (repeat' split) <;> simp [*]

@[simp] theorem ckptDue_vault (s : State) : vault (ckptDue s) = vault s := by simp [ckptDue]

@[simp] theorem ckptMissed_vault (s : State) : vault (ckptMissed s) = vault s := by simp [ckptMissed]

@[simp] theorem sysSettings_vault (q : Req) (s : State) : vault (sysSettings q s).2 = vault s := by simp [sysSettings]

@[simp] theorem sysBeatLength_vault (q : Req) (s : State) : vault (sysBeatLength q s).2 = vault s := by simp [sysBeatLength]

@[simp] theorem portCommand_vault (r : Rec) (s : State) : vault (portCommand r s) = vault s := by simp [portCommand]

@[simp] theorem sysPort_vault (q : Req) (s : State) : vault (sysPort q s).2 = vault s := by simp [sysPort]

@[simp] theorem sysPortStatus_vault (q : Req) (s : State) : vault (sysPortStatus q s).2 = vault s := by simp [sysPortStatus]

@[simp] theorem sysMdio_vault (q : Req) (s : State) : vault (sysMdio q s).2 = vault s := by
  unfold sysMdio
  refine need_vault _ _ _ _ _ ?_
  (repeat' split) <;> simp [*]

@[simp] theorem sysBridgePort_vault (q : Req) (s : State) : vault (sysBridgePort q s).2 = vault s := by simp [sysBridgePort]

@[simp] theorem sysVlan_vault (q : Req) (s : State) : vault (sysVlan q s).2 = vault s := by simp [sysVlan]

@[simp] theorem sysMacWrite_vault (q : Req) (s : State) : vault (sysMacWrite q s).2 = vault s := by
  unfold sysMacWrite
  refine need_vault _ _ _ _ _ ?_
  dsimp only
  (repeat' split) <;> simp [*]

@[simp] theorem sysMacRead_vault (q : Req) (s : State) : vault (sysMacRead q s).2 = vault s := by simp [sysMacRead]

@[simp] theorem sysAgeing_vault (q : Req) (s : State) : vault (sysAgeing q s).2 = vault s := by simp [sysAgeing]

@[simp] theorem sysMacFlush_vault (q : Req) (s : State) : vault (sysMacFlush q s).2 = vault s := by simp [sysMacFlush]

@[simp] theorem sysMirror_vault (q : Req) (s : State) : vault (sysMirror q s).2 = vault s := by
  unfold sysMirror
  refine need_vault _ _ _ _ _ ?_
  (repeat' split) <;> simp [*]

@[simp] theorem sysBuffer_vault (q : Req) (s : State) : vault (sysBuffer q s).2 = vault s := by simp [sysBuffer]

@[simp] theorem sysBufferStatus_vault (q : Req) (s0 : State) : vault (sysBufferStatus q s0).2 = vault s0 := by simp [sysBufferStatus]

@[simp] theorem sysBridgeCounters_vault (q : Req) (s : State) : vault (sysBridgeCounters q s).2 = vault s := by simp [sysBridgeCounters]

@[simp] theorem schedPort_vault (q : Req) (s : State) : vault (schedPort q s).2 = vault s := by
  unfold schedPort
  refine need_vault _ _ _ _ _ ?_
  dsimp only
  (repeat' split) <;> simp [*]

@[simp] theorem schedGateList_vault (q : Req) (s : State) : vault (schedGateList q s).2 = vault s := by
  unfold schedGateList
  refine needBulk_vault _ _ _ _ _ _ fun ws => ?_
  dsimp only
  (repeat' split) <;> simp [*]

@[simp] theorem schedGateListArm_vault (q : Req) (s : State) : vault (schedGateListArm q s).2 = vault s := by
  unfold schedGateListArm
  refine need_vault _ _ _ _ _ ?_
  dsimp only
  (repeat' split) <;> simp [*]

@[simp] theorem schedGateStatus_vault (q : Req) (s : State) : vault (schedGateStatus q s).2 = vault s := by simp [schedGateStatus]

@[simp] theorem schedShaper_vault (q : Req) (s : State) : vault (schedShaper q s).2 = vault s := by simp [schedShaper]

@[simp] theorem schedSample_vault (q : Req) (s : State) : vault (schedSample q s).2 = vault s := by simp [schedSample]

@[simp] theorem schedCounters_vault (q : Req) (s : State) : vault (schedCounters q s).2 = vault s := by simp [schedCounters]

@[simp] theorem stageChecked_vault (n : Nat) (x : SetItem) (s : State) : vault (stageChecked n x s).2 = vault s := by
  unfold stageChecked
  (repeat' split) <;> simp [*]

@[simp] theorem streamProfile_vault (q : Req) (s : State) : vault (streamProfile q s).2 = vault s := by
  unfold streamProfile
  refine need_vault _ _ _ _ _ ?_
  (repeat' split) <;> simp [*]

@[simp] theorem streamIdPut_vault (q : Req) (s : State) : vault (streamIdPut q s).2 = vault s := by
  unfold streamIdPut
  refine need_vault _ _ _ _ _ ?_
  (repeat' split) <;> simp [*]

@[simp] theorem streamIdDrop_vault (q : Req) (s : State) : vault (streamIdDrop q s).2 = vault s := by simp [streamIdDrop]

@[simp] theorem streamHandlePut_vault (q : Req) (s : State) : vault (streamHandlePut q s).2 = vault s := by simp [streamHandlePut]

@[simp] theorem streamFilterPut_vault (q : Req) (s : State) : vault (streamFilterPut q s).2 = vault s := by simp [streamFilterPut]

@[simp] theorem streamGatePut_vault (q : Req) (s : State) : vault (streamGatePut q s).2 = vault s := by
  unfold streamGatePut
  refine need_vault _ _ _ _ _ ?_
  dsimp only
  (repeat' split) <;> simp [*]

@[simp] theorem streamPool_vault (q : Req) (s : State) : vault (streamPool q s).2 = vault s := by
  unfold streamPool
  refine needBulk_vault _ _ _ _ _ _ fun ws => ?_
  dsimp only
  (repeat' split) <;> simp [*]

@[simp] theorem streamMeterPut_vault (q : Req) (s : State) : vault (streamMeterPut q s).2 = vault s := by simp [streamMeterPut]

@[simp] theorem streamGenerationPut_vault (q : Req) (s : State) : vault (streamGenerationPut q s).2 = vault s := by simp [streamGenerationPut]

@[simp] theorem streamRecoveryPut_vault (q : Req) (s : State) : vault (streamRecoveryPut q s).2 = vault s := by simp [streamRecoveryPut]

@[simp] theorem streamClearLatch_vault (q : Req) (s : State) : vault (streamClearLatch q s).2 = vault s := by
  unfold streamClearLatch
  refine need_vault _ _ _ _ _ ?_
  dsimp only
  (repeat' split) <;> simp [*]

@[simp] theorem clearFilter_vault (i : Nat) (s : State) : vault (clearFilter i s) = vault s := by simp [clearFilter]

@[simp] theorem streamFilterStat_vault (q : Req) (s : State) : vault (streamFilterStat q s).2 = vault s := by simp [streamFilterStat]

@[simp] theorem streamFrerStat_vault (q : Req) (s : State) : vault (streamFrerStat q s).2 = vault s := by simp [streamFrerStat]

@[simp] theorem setRule_vault (i : Nat) (r : Rec) (s0 : State) : vault (setRule i r s0) = vault s0 := by simp [setRule]

@[simp] theorem zoneWrite_vault (s0 : State) (w : Word) : vault (zoneWrite s0 w) = vault s0 := by simp [zoneWrite]

@[simp] theorem filtZones_vault (q : Req) (s : State) : vault (filtZones q s).2 = vault s := by
  unfold filtZones
  (repeat' split) <;> simp [*]

@[simp] theorem filtExact_vault (q : Req) (s : State) : vault (filtExact q s).2 = vault s := by
  unfold filtExact
  refine need_vault _ _ _ _ _ ?_
  (repeat' split) <;> simp [*]

@[simp] theorem filtTernary_vault (q : Req) (s : State) : vault (filtTernary q s).2 = vault s := by
  unfold filtTernary
  refine need_vault _ _ _ _ _ ?_
  (repeat' split) <;> simp [*]

@[simp] theorem filtMember_vault (q : Req) (s : State) : vault (filtMember q s).2 = vault s := by
  unfold filtMember
  refine need_vault _ _ _ _ _ ?_
  dsimp only
  (repeat' split) <;> simp [*]

@[simp] theorem filtDelete_vault (q : Req) (s : State) : vault (filtDelete q s).2 = vault s := by
  unfold filtDelete
  refine need_vault _ _ _ _ _ ?_
  (repeat' split) <;> simp [*]

@[simp] theorem bankCopy_vault (s0 : State) : vault (bankCopy s0) = vault s0 := by simp [bankCopy]

@[simp] theorem filtCopy_vault (q : Req) (s : State) : vault (filtCopy q s).2 = vault s := by simp [filtCopy]

@[simp] theorem filtSwapBanks_vault (q : Req) (s : State) : vault (filtSwapBanks q s).2 = vault s := by simp [filtSwapBanks]

@[simp] theorem filtDry_vault (q : Req) (s : State) : vault (filtDry q s).2 = vault s := by simp [filtDry]

@[simp] theorem filtTimeouts_vault (q : Req) (s : State) : vault (filtTimeouts q s).2 = vault s := by simp [filtTimeouts]

@[simp] theorem filtFlush_vault (q : Req) (s0 : State) : vault (filtFlush q s0).2 = vault s0 := by simp [filtFlush]

@[simp] theorem filtTrackRead_vault (q : Req) (s : State) : vault (filtTrackRead q s).2 = vault s := by simp [filtTrackRead]

@[simp] theorem startBypass_vault (src dst sec : Nat) (s0 : State) : vault (startBypass src dst sec s0).2 = vault s0 := by
  unfold startBypass
  dsimp only
  (repeat' split) <;> simp [*]

@[simp] theorem filtBypassPair_vault (q : Req) (s : State) : vault (filtBypassPair q s).2 = vault s := by
  unfold filtBypassPair
  refine need_vault _ _ _ _ _ ?_
  (repeat' split) <;> simp [*]

@[simp] theorem filtLogRate_vault (q : Req) (s : State) : vault (filtLogRate q s).2 = vault s := by simp [filtLogRate]

@[simp] theorem filtStat_vault (q : Req) (s : State) : vault (filtStat q s).2 = vault s := by simp [filtStat]

@[simp] theorem filtPairs_vault (q : Req) (s : State) : vault (filtPairs q s).2 = vault s := by simp [filtPairs]

@[simp] theorem filtHits_vault (q : Req) (s : State) : vault (filtHits q s).2 = vault s := by simp [filtHits]

@[simp] theorem gwSend_vault (q : Req) (s : State) : vault (gwSend q s).2 = vault s := by
  unfold gwSend
  refine need_vault _ _ _ _ _ ?_
  (repeat' split) <;> simp [*]

@[simp] theorem gwAbort_vault (q : Req) (s : State) : vault (gwAbort q s).2 = vault s := by
  unfold gwAbort
  refine need_vault _ _ _ _ _ ?_
  (repeat' split) <;> simp [*]

@[simp] theorem gwRecovery_vault (q : Req) (s : State) : vault (gwRecovery q s).2 = vault s := by simp [gwRecovery]

@[simp] theorem gwLinPut_vault (q : Req) (s : State) : vault (gwLinPut q s).2 = vault s := by simp [gwLinPut]

@[simp] theorem gwPool_vault (q : Req) (s : State) : vault (gwPool q s).2 = vault s := by
  unfold gwPool
  refine needBulk_vault _ _ _ _ _ _ fun ws => ?_
  dsimp only
  (repeat' split) <;> simp [*]

@[simp] theorem gwTable_vault (q : Req) (s : State) : vault (gwTable q s).2 = vault s := by simp [gwTable]

@[simp] theorem gwSelect_vault (q : Req) (s : State) : vault (gwSelect q s).2 = vault s := by simp [gwSelect]

@[simp] theorem gwPublish_vault (q : Req) (s : State) : vault (gwPublish q s).2 = vault s := by simp [gwPublish]

@[simp] theorem gwRoutePut_vault (q : Req) (s : State) : vault (gwRoutePut q s).2 = vault s := by
  unfold gwRoutePut
  refine need_vault _ _ _ _ _ ?_
  dsimp only
  (repeat' split) <;> simp [*]

@[simp] theorem stageRouted_vault (n : Nat) (x : SetItem) (s : State) : vault (stageRouted n x s).2 = vault s := by
  unfold stageRouted
  (repeat' split) <;> simp [*]

@[simp] theorem gwTunnelPut_vault (q : Req) (s : State) : vault (gwTunnelPut q s).2 = vault s := by simp [gwTunnelPut]

@[simp] theorem gwReceive_vault (q : Req) (s : State) : vault (gwReceive q s).2 = vault s := by simp [gwReceive]

@[simp] theorem gwSource_vault (q : Req) (s : State) : vault (gwSource q s).2 = vault s := by simp [gwSource]

@[simp] theorem gwAuthPut_vault (q : Req) (s : State) : vault (gwAuthPut q s).2 = vault s := by
  unfold gwAuthPut
  refine need_vault _ _ _ _ _ ?_
  dsimp only
  (repeat' split) <;> simp [*]

@[simp] theorem gwCanStat_vault (q : Req) (s : State) : vault (gwCanStat q s).2 = vault s := by simp [gwCanStat]

@[simp] theorem gwLinStat_vault (q : Req) (s : State) : vault (gwLinStat q s).2 = vault s := by simp [gwLinStat]

@[simp] theorem gwDropStat_vault (q : Req) (s : State) : vault (gwDropStat q s).2 = vault s := by simp [gwDropStat]

@[simp] theorem gwTunnelStat_vault (q : Req) (s : State) : vault (gwTunnelStat q s).2 = vault s := by
  unfold gwTunnelStat
  refine need_vault _ _ _ _ _ ?_
  (repeat' split) <;> simp [*]

@[simp] theorem gwRouteStat_vault (q : Req) (s : State) : vault (gwRouteStat q s).2 = vault s := by simp [gwRouteStat]

@[simp] theorem nmSourcePut_vault (q : Req) (s : State) : vault (nmSourcePut q s).2 = vault s := by simp [nmSourcePut]

@[simp] theorem nmStandbyGo_vault (q : Req) (s : State) : vault (nmStandbyGo q s).2 = vault s := by
  unfold nmStandbyGo
  refine need_vault _ _ _ _ _ ?_
  (repeat' split) <;> simp [*]

@[simp] theorem nmSegmentPut_vault (q : Req) (s : State) : vault (nmSegmentPut q s).2 = vault s := by simp [nmSegmentPut]

@[simp] theorem hostNeeds_vault (cluster : Bool) (n m : Nat) (s : State) : vault (hostNeeds cluster n m s) = vault s := by simp [hostNeeds]

@[simp] theorem hostReleases_vault (cluster : Bool) (n m : Nat) (s : State) : vault (hostReleases cluster n m s) = vault s := by simp [hostReleases]

@[simp] theorem nmRequestPut_vault (q : Req) (s : State) : vault (nmRequestPut q s).2 = vault s := by simp [nmRequestPut]

@[simp] theorem nmSettingsPut_vault (q : Req) (s : State) : vault (nmSettingsPut q s).2 = vault s := by simp [nmSettingsPut]

@[simp] theorem nmOffenderRead_vault (q : Req) (s : State) : vault (nmOffenderRead q s).2 = vault s := by simp [nmOffenderRead]

@[simp] theorem nmSegmentStat_vault (q : Req) (s : State) : vault (nmSegmentStat q s).2 = vault s := by simp [nmSegmentStat]

@[simp] theorem nmSourceStat_vault (q : Req) (s : State) : vault (nmSourceStat q s).2 = vault s := by simp [nmSourceStat]

@[simp] theorem keyInfo_vault (q : Req) (s : State) : vault (keyInfo q s).2 = vault s := by simp [keyInfo]

@[simp] theorem keyPut_vault (i type origin parent usage : Nat) (key : Bytes) (s : State) : vault (keyPut i type origin parent usage key s).2 = vault s :=
  by simp [keyPut]

@[simp] theorem unwrapFail_vault (s : State) : vault (unwrapFail s).2 = vault s := by simp [unwrapFail]

theorem keyGate_vault (s : State) (noKey : Bool) (slot : Nat) (op : BulkOp) (k : Reply) (h : vault k.2 = vault s) : vault (keyGate s noKey slot op k).2 = vault s := by
  unfold keyGate
  dsimp only
  (repeat' split) <;> simp [h]

@[simp] theorem keyUnwrapPut_vault (q : Req) (s : State) : vault (keyUnwrapPut q s).2 = vault s := by
  unfold keyUnwrapPut
  dsimp only
  split
  · simp
  · refine need_vault _ _ _ _ _ (keyGate_vault _ _ _ _ _ ?_)
    (repeat' split) <;> simp

@[simp] theorem keyDerivePut_vault (q : Req) (s : State) : vault (keyDerivePut q s).2 = vault s := by
  unfold keyDerivePut
  dsimp only
  split
  · simp
  · refine need_vault _ _ _ _ _ (keyGate_vault _ _ _ _ _ ?_)
    split <;> simp

@[simp] theorem keyGeneratePut_vault (q : Req) (s : State) : vault (keyGeneratePut q s).2 = vault s := by
  unfold keyGeneratePut
  dsimp only
  split
  · simp
  · exact need_vault _ _ _ _ _ (keyGate_vault _ _ _ _ _ (by simp))

@[simp] theorem keyPlainPut_vault (q : Req) (s : State) : vault (keyPlainPut q s).2 = vault s := by
  unfold keyPlainPut
  (repeat' split) <;> simp [*]

@[simp] theorem keyErasePut_vault (q : Req) (s : State) : vault (keyErasePut q s).2 = vault s := by
  unfold keyErasePut
  (repeat' split) <;> simp [*]

@[simp] theorem cryptSettingsPut_vault (q : Req) (s : State) : vault (cryptSettingsPut q s).2 = vault s := by simp [cryptSettingsPut]

@[simp] theorem cryptSecyPut_vault (q : Req) (s : State) : vault (cryptSecyPut q s).2 = vault s := by simp [cryptSecyPut]

@[simp] theorem cryptSaPut_vault (q : Req) (s : State) : vault (cryptSaPut q s).2 = vault s := by
  unfold cryptSaPut
  refine need_vault _ _ _ _ _ ?_
  (repeat' split) <;> simp [*]

@[simp] theorem cryptScPut_vault (q : Req) (s : State) : vault (cryptScPut q s).2 = vault s := by simp [cryptScPut]

@[simp] theorem cryptSecyStat_vault (q : Req) (s : State) : vault (cryptSecyStat q s).2 = vault s := by simp [cryptSecyStat]

@[simp] theorem cryptSaStat_vault (q : Req) (s : State) : vault (cryptSaStat q s).2 = vault s := by simp [cryptSaStat]

@[simp] theorem setCs_vault (c : CsState) (s : State) : vault (setCs c s) = vault s := by simp [setCs]

@[simp] theorem traceSelectorPut_vault (q : Req) (s : State) : vault (traceSelectorPut q s).2 = vault s := by
  unfold traceSelectorPut
  refine need_vault _ _ _ _ _ ?_
  dsimp only
  (repeat' split) <;> simp [*]

@[simp] theorem traceExportPut_vault (q : Req) (s : State) : vault (traceExportPut q s).2 = vault s := by simp [traceExportPut]

@[simp] theorem traceSettingsPut_vault (q : Req) (s : State) : vault (traceSettingsPut q s).2 = vault s := by
  unfold traceSettingsPut
  refine need_vault _ _ _ _ _ ?_
  dsimp only
  (repeat' split) <;> simp [*]

@[simp] theorem darkStatGet_vault (q : Req) (s : State) : vault (darkStatGet q s).2 = vault s := by simp [darkStatGet]

@[simp] theorem darkIdent_vault (q : Req) (s : State) : vault (darkIdent q s).2 = vault s := by
  unfold darkIdent
  refine need_vault _ _ _ _ _ ?_
  dsimp only
  (repeat' split) <;> simp [*]

@[simp] theorem darkCalRead_vault (q : Req) (s : State) : vault (darkCalRead q s).2 = vault s := by
  unfold darkCalRead
  refine need_vault _ _ _ _ _ ?_
  dsimp only
  (repeat' split) <;> simp [*]

@[simp] theorem darkResealPut_vault (q : Req) (s : State) : vault (darkResealPut q s).2 = vault s := by
  unfold darkResealPut
  (repeat' split) <;> simp [*]

@[simp] theorem darkTrig_vault (q : Req) (s : State) : vault (darkTrig q s).2 = vault s := by simp [darkTrig]

@[simp] theorem darkTrigTable_vault (q : Req) (s : State) : vault (darkTrigTable q s).2 = vault s := by
  unfold darkTrigTable
  refine need_vault _ _ _ _ _ ?_
  dsimp only
  (repeat' split) <;> simp [*]

@[simp] theorem darkWindowPut_vault (q : Req) (s : State) : vault (darkWindowPut q s).2 = vault s := by
  unfold darkWindowPut
  refine need_vault _ _ _ _ _ ?_
  dsimp only
  (repeat' split) <;> simp [*]

@[simp] theorem darkExp_vault (q : Req) (s : State) : vault (darkExp q s).2 = vault s := by
  unfold darkExp
  refine need_vault _ _ _ _ _ ?_
  (repeat' split) <;> simp [*]

@[simp] theorem darkRel_vault (q : Req) (s : State) : vault (darkRel q s).2 = vault s := by
  unfold darkRel
  refine need_vault _ _ _ _ _ ?_
  (repeat' split) <;> simp [*]

@[simp] theorem darkAtt_vault (q : Req) (s : State) : vault (darkAtt q s).2 = vault s := by
  unfold darkAtt
  refine need_vault _ _ _ _ _ ?_
  dsimp only
  (repeat' split) <;> simp [*]

@[simp] theorem darkAudit_vault (q : Req) (s : State) : vault (darkAudit q s).2 = vault s := by simp [darkAudit]

@[simp] theorem pairGuard_vault (q : Req) (s : State) : vault (pairGuard q s).2 = vault s := by
  unfold pairGuard
  refine need_vault _ _ _ _ _ ?_
  dsimp only
  (repeat' split) <;> simp [*]

@[simp] theorem pairBindPut_vault (q : Req) (s : State) : vault (pairBindPut q s).2 = vault s := by
  unfold pairBindPut
  refine need_vault _ _ _ _ _ ?_
  (repeat' split) <;> simp [*]

@[simp] theorem pairStat_vault (q : Req) (s : State) : vault (pairStat q s).2 = vault s := by simp [pairStat]

@[simp] theorem testPort_vault (n : Nat) (f : Port → Port) (s : State) : vault (testPort n f s) = vault s := by
  unfold testPort
  (repeat' split) <;> simp [*]

@[simp] theorem testEndsOn_vault (n : Nat) (f : Port → Port) (s : State) : vault (testEndsOn n f s) = vault s := by simp [testEndsOn]

@[simp] theorem testLoop_vault (q : Req) (s : State) : vault (testLoop q s).2 = vault s := by
  unfold testLoop
  refine need_vault _ _ _ _ _ ?_
  (repeat' split) <;> simp [*]

@[simp] theorem prbsCounted_vault (n : Nat) (s : State) : vault (prbsCounted n s) = vault s := by simp [prbsCounted]

@[simp] theorem testPrbs_vault (q : Req) (s : State) : vault (testPrbs q s).2 = vault s := by
  unfold testPrbs
  refine need_vault _ _ _ _ _ ?_
  (repeat' split) <;> simp [*]

@[simp] theorem testCable_vault (q : Req) (s : State) : vault (testCable q s).2 = vault s := by
  unfold testCable
  refine need_vault _ _ _ _ _ ?_
  (repeat' split) <;> simp [*]

@[simp] theorem testCipher_vault (q : Req) (s : State) : vault (testCipher q s).2 = vault s := by
  unfold testCipher
  refine need_vault _ _ _ _ _ ?_
  (repeat' split) <;> simp [*]

@[simp] theorem testService_vault (q : Req) (s : State) : vault (testService q s).2 = vault s := by
  unfold testService
  refine need_vault _ _ _ _ _ ?_
  (repeat' split) <;> simp [*]

@[simp] theorem testScrub_vault (q : Req) (s : State) : vault (testScrub q s).2 = vault s := by simp [testScrub]

@[simp] theorem domainTakes_vault (i : Nat) (c : Rec) (s : State) : vault (domainTakes i c s) = vault s := by simp [domainTakes]

@[simp] theorem gmSource_vault (i : Nat) (s : State) : vault (gmSource i s).2 = vault s := by simp [gmSource]

@[simp] theorem timeDomain_vault (q : Req) (s : State) : vault (timeDomain q s).2 = vault s := by
  unfold timeDomain
  refine need_vault _ _ _ _ _ ?_
  dsimp only
  (repeat' split) <;> simp [*]

@[simp] theorem takeSource_vault (src domain : Nat) (s : State) : vault (takeSource src domain s) = vault s := by simp [takeSource]

@[simp] theorem timeSource_vault (q : Req) (s : State) : vault (timeSource q s).2 = vault s := by
  unfold timeSource
  refine need_vault _ _ _ _ _ ?_
  dsimp only
  (repeat' split) <;> simp [*]

@[simp] theorem timeSwitch_vault (q : Req) (s : State) : vault (timeSwitch q s).2 = vault s := by
  unfold timeSwitch
  refine need_vault _ _ _ _ _ ?_
  dsimp only
  (repeat' split) <;> simp [*]

@[simp] theorem timePort_vault (q : Req) (s : State) : vault (timePort q s).2 = vault s := by simp [timePort]

@[simp] theorem timeCorrect_vault (q : Req) (s : State) : vault (timeCorrect q s).2 = vault s := by
  unfold timeCorrect
  refine need_vault _ _ _ _ _ ?_
  (repeat' split) <;> simp [*]

@[simp] theorem timeJumpThreshold_vault (q : Req) (s : State) : vault (timeJumpThreshold q s).2 = vault s := by simp [timeJumpThreshold]

@[simp] theorem timeStep_vault (q : Req) (s : State) : vault (timeStep q s).2 = vault s := by simp [timeStep]

@[simp] theorem clearNetCounts_vault (i : Nat) (s : State) : vault (clearNetCounts i s) = vault s := by simp [clearNetCounts]

@[simp] theorem timeStatus_vault (q : Req) (s : State) : vault (timeStatus q s).2 = vault s := by simp [timeStatus]

@[simp] theorem timePairTime_vault (q : Req) (s : State) : vault (timePairTime q s).2 = vault s := by simp [timePairTime]

@[simp] theorem flashErase_vault (a b : Nat) (s : State) : vault (flashErase a b s) = vault s := by simp [flashErase]

@[simp] theorem eraseSectors_vault (a n : Nat) (s : State) : vault (eraseSectors a n s) = vault s := by simp [eraseSectors]

@[simp] theorem flashProgram_vault (a : Nat) (b : Bytes) (s : State) : vault (flashProgram a b s) = vault s := by simp [flashProgram]

@[simp] theorem fwEvent12_vault (cause : Nat) (detail : Nat) (s : State) : vault (fwEvent12 cause detail s) = vault s := by simp [fwEvent12]

@[simp] theorem safeProfile_vault (index : Nat) (s : State) : vault (safeProfile index s) = vault s := by simp [safeProfile]

@[simp] theorem startMigration_vault (s : State) : vault (startMigration s) = vault s := by simp [startMigration]

@[simp] theorem settingsEstablished_vault (s : State) : vault (settingsEstablished s) = vault s := by
  unfold settingsEstablished
  (repeat' split) <;> simp [*]

@[simp] theorem settingsKey_vault (s : State) : vault (settingsKey s) = vault s := by simp [settingsKey]

@[simp] theorem fwStat_vault (q : Req) (s : State) : vault (fwStat q s).2 = vault s := by simp [fwStat]

@[simp] theorem fwLoad_vault (q : Req) (s : State) : vault (fwLoad q s).2 = vault s := by
  unfold fwLoad
  dsimp only
  (repeat' split) <;> simp [*]

@[simp] theorem activationRefused_vault (r : Reply) (s : State) : vault (activationRefused r s).2 = vault s := by simp [activationRefused]

@[simp] theorem fwActivatePut_vault (q : Req) (s : State) : vault (fwActivatePut q s).2 = vault s := by
  unfold fwActivatePut
  dsimp only
  (repeat' split) <;> simp [*]

@[simp] theorem fwCommitPut_vault (q : Req) (s : State) : vault (fwCommitPut q s).2 = vault s := by
  unfold fwCommitPut
  dsimp only
  (repeat' split) <;> simp [*]

@[simp] theorem fwLifecyclePut_vault (q : Req) (s : State) : vault (fwLifecyclePut q s).2 = vault s := by
  unfold fwLifecyclePut
  refine need_vault _ _ _ _ _ ?_
  (repeat' split) <;> simp [*]

@[simp] theorem eraseKeys_vault (s : State) : vault (eraseKeys s) = vault s := by simp [eraseKeys]

@[simp] theorem drawChallenge_vault (s : State) : vault (drawChallenge s) = vault s := by simp [drawChallenge]

@[simp] theorem firstSteps_vault (s : State) : vault (firstSteps s) = vault s := by simp [firstSteps]

@[simp] theorem startAsleep_vault (i : Nat) (s : State) : vault (startAsleep i s) = vault s := by simp [startAsleep]

@[simp] theorem startUnmanaged_vault (i : Nat) (s : State) : vault (startUnmanaged i s) = vault s := by simp [startUnmanaged]

@[simp] theorem startSegments_vault (s : State) : vault (startSegments s) = vault s := by
  unfold startSegments
  refine (setPow_vault _ _).trans ?_
  split
  · refine (foldl_vault _ (fun s i => by simp) _ _).trans (foldl_vault _ (fun s i => ?_) _ s)
    (repeat' split) <;> simp
  · split <;> simp

@[simp] theorem windowsStart_vault (s : State) : vault (windowsStart s) = vault s := by simp [windowsStart]

@[simp] theorem migrated_vault (good : Bool) (s : State) : vault (migrated good s) = vault s := by
  unfold migrated
  (repeat' split) <;> simp [*]

@[simp] theorem clockFallsBack_vault (s : State) : vault (clockFallsBack s) = vault s := by simp [clockFallsBack]

@[simp] theorem clockComesBack_vault (s : State) : vault (clockComesBack s) = vault s := by simp [clockComesBack]

@[simp] theorem darkWatchdog_vault (s : State) : vault (darkWatchdog s) = vault s := by simp [darkWatchdog]

@[simp] theorem darkSupplyLost_vault (s : State) : vault (darkSupplyLost s) = vault s := by simp [darkSupplyLost]

@[simp] theorem vbatDisturbed_vault (kind : VbatKind) (mv : Nat) (s : State) : vault (vbatDisturbed kind mv s) = vault s := by simp [vbatDisturbed]

@[simp] theorem vbatCalm_vault (mv : Nat) (s : State) : vault (vbatCalm mv s) = vault s := by
  unfold vbatCalm
  (repeat' split) <;> simp [*]

@[simp] theorem clockBack_vault (s : State) : vault (clockBack s) = vault s := by simp [clockBack]

@[simp] theorem osc32Stops_vault (s : State) : vault (osc32Stops s) = vault s := by simp [osc32Stops]

@[simp] theorem tempHigh_vault (s : State) : vault (tempHigh s) = vault s := by simp [tempHigh]

@[simp] theorem tempNormal_vault (s : State) : vault (tempNormal s) = vault s := by simp [tempNormal]

@[simp] theorem samplePort_vault (p : Nat) (s0 : State) : vault (samplePort p s0) = vault s0 := by
  unfold samplePort
  dsimp only
  (repeat' split) <;> simp [*]

@[simp] theorem samplePorts_vault (s : State) : vault (samplePorts s) = vault s := by simp [samplePorts]

@[simp] theorem applyCommit_vault (b : Int) (c : Commit) (s : State) : vault (applyCommit b c s) = vault s := by simp [applyCommit]

@[simp] theorem applyCommits_vault (b : Int) (s : State) : vault (applyCommits b s) = vault s := by simp [applyCommits]

@[simp] theorem overrun_vault (s : State) : vault (overrun s) = vault s := by simp [overrun]

@[simp] theorem startList_vault (s : State) : vault (startList s) = vault s := by simp [startList]

@[simp] theorem loadSecond_vault (s : State) : vault (loadSecond s) = vault s := by simp [loadSecond]

@[simp] theorem listFinish_vault (s : State) : vault (listFinish s) = vault s := by simp [listFinish]

@[simp] theorem beatOn_vault (b : Int) (s : State) : vault (beatOn b s) = vault s := by simp [beatOn]

@[simp] theorem leaderPulse_vault (b : Int) (s : State) : vault (leaderPulse b s) = vault s := by simp [leaderPulse]

@[simp] theorem sheetEvent_vault (cause : Nat) (s : State) : vault (sheetEvent cause s) = vault s := by simp [sheetEvent]

@[simp] theorem recordIn_vault (kind lt : Nat) (more : Bool) (payload : BitVec 64) (s : State) : vault (recordIn kind lt more payload s) = vault s :=
  by simp [recordIn]

@[simp] theorem anchorIn_vault (s : State) : vault (anchorIn s) = vault s := by simp [anchorIn]

@[simp] theorem gapIn_vault (g : CsGap) (s : State) : vault (gapIn g s) = vault s := by simp [gapIn]

@[simp] theorem groupIn_vault (g : CsGroup) (rest : List CsGroup) (s : State) : vault (groupIn g rest s) = vault s := by
  unfold groupIn
  (repeat' split) <;> simp [*]

@[simp] theorem exportSend_vault (s : State) : vault (exportSend s) = vault s := by simp [exportSend]

@[simp] theorem exportRoom_vault (n : Nat) (s : State) : vault (exportRoom n s) = vault s := by simp [exportRoom]

@[simp] theorem exportPack_vault (g : List CsRec) (pos : Nat) (s : State) : vault (exportPack g pos s) = vault s := by simp [exportPack]

@[simp] theorem exportOne_vault (s : State) : vault (exportOne s) = vault s := by
  unfold exportOne
  dsimp only
  (repeat' split) <;> simp [*]

@[simp] theorem exportRead_vault (n : Nat) (s : State) : vault (exportRead n s) = vault s := by
  induction n generalizing s with
  | zero => rfl
  | succ n ih => exact (ih _).trans (by simp)

@[simp] theorem exportGo_vault (s : State) : vault (exportGo s) = vault s := by simp [exportGo]

@[simp] theorem recorderAccepts_vault (s : State) : vault (recorderAccepts s) = vault s := by
  unfold recorderAccepts
  (repeat' split) <;> simp [*]

@[simp] theorem anchorTimer_vault (s : State) : vault (anchorTimer s) = vault s := by
  unfold anchorTimer
  (repeat' split) <;> simp [*]

@[simp] theorem mappingRepeat_vault (s : State) : vault (mappingRepeat s) = vault s := by simp [mappingRepeat]

@[simp] theorem exportFlush_vault (s0 : State) : vault (exportFlush s0) = vault s0 := by simp [exportFlush]

@[simp] theorem entryPut_vault (x : EccTarget) (r : Rec) (s : State) : vault (entryPut x r s) = vault s := by
  unfold entryPut
  (repeat' split) <;> simp [*]

@[simp] theorem entryLost_vault (x : EccTarget) (s : State) : vault (entryLost x s) = vault s := by simp [entryLost]

@[simp] theorem lookupLost_vault (x : EccTarget) (s : State) : vault (lookupLost x s) = vault s := by
  unfold lookupLost
  (repeat' split) <;> simp [*]

@[simp] theorem cellLost_vault (f : Nat) (s : State) : vault (cellLost f s) = vault s := by
  unfold cellLost
  refine (bufNote_vault _).trans ((foldl_vault _ (fun s e => ?_) _ _).trans (by simp))
  (repeat' split) <;> simp

@[simp] theorem recordLost_vault (n : Nat) (s : State) : vault (recordLost n s) = vault s := by
  unfold recordLost
  (repeat' split) <;> simp [*]

@[simp] theorem windowLost_vault (s : State) : vault (windowLost s) = vault s := by
  unfold windowLost
  (repeat' split) <;> simp [*]

@[simp] theorem saLost_vault (i : Nat) (s : State) : vault (saLost i s) = vault s := by simp [saLost]

@[simp] theorem entryRewritten_vault (x : EccTarget) (s : State) : vault (entryRewritten x s) = vault s := by
  unfold entryRewritten
  (repeat' split) <;> simp [*]

@[simp] theorem opensTap_vault (i : JtagInstr) (s : State) : vault (opensTap i s) = vault s := by simp [opensTap]

@[simp] theorem tapReset_vault (s : State) : vault (tapReset s) = vault s := by simp [tapReset]

@[simp] theorem jtagGo_vault (s : State) : vault (jtagGo s) = vault s := by simp [jtagGo]

@[simp] theorem verifyEnds_vault (s : State) : vault (verifyEnds s) = vault s := by
  unfold verifyEnds
  (repeat' split) <;> simp [*]

@[simp] theorem noteWrite_vault (reg : Nat) (fs : List RegField) (a : Alias) (v : Word) (s : State) : vault (noteWrite reg fs a v s) = vault s :=
  by simp [noteWrite]

@[simp] theorem setSourceInt_vault (i : Nat) (v : IntSource) (s : State) : vault (setSourceInt i v s) = vault s := by simp [setSourceInt]

@[simp] theorem armSource_vault (i : Nat) (s : State) : vault (armSource i s) = vault s := by simp [armSource]

@[simp] theorem uncountRescue_vault (id : RingId) (old s : State) : vault (uncountRescue id old s) = vault s := by
  unfold uncountRescue
  (repeat' split) <;> simp [*]

@[simp] theorem routeWritten_vault (n : Nat) (w : Word) (s : State) : vault (routeWritten n w s) = vault s := by simp [routeWritten]

@[simp] theorem hostPortDown_vault (s : State) : vault (hostPortDown s) = vault s := by simp [hostPortDown]

@[simp] theorem hostPortFollows_vault (s0 s : State) : vault (hostPortFollows s0 s) = vault s := by simp [hostPortFollows]

@[simp] theorem msixWrite_vault (i : Nat) (w : Word) (s : State) : vault (msixWrite i w s) = vault s := by
  unfold msixWrite
  dsimp only
  (repeat' split) <;> simp [*]

@[simp] theorem cfgWritten_vault (n : Nat) (old w : Word) (s : State) : vault (cfgWritten n old w s) = vault s := by simp [cfgWritten]

@[simp] theorem crocusWritten_vault (w : Word) (s : State) : vault (crocusWritten w s) = vault s := by simp [crocusWritten]

@[simp] theorem failsCleared_vault (o : Nat) (s : State) : vault (failsCleared o s) = vault s := by simp [failsCleared]

@[simp] theorem setCarried_vault (o : Origin) (l : List Carried) (s : State) : vault (setCarried o l s) = vault s := by simp [setCarried]

@[simp] theorem carryOn_vault (o : Origin) (l : List Carried) (s : State) : vault (carryOn o l s) = vault s := by simp [carryOn]

@[simp] theorem readQueued_vault (spi bar2 : Bool) (off n : Nat) (s : State) : vault (readQueued spi bar2 off n s) = vault s := by simp [readQueued]

@[simp] theorem pcieReads_vault (bar off n : Nat) (s : State) : vault (pcieReads bar off n s) = vault s := by simp [pcieReads]

@[simp] theorem pcieWrites_vault (requester bar off : Nat) (data : List (Word × Nat)) (s : State) : vault (pcieWrites requester bar off data s) = vault s :=
  by simp [pcieWrites]

@[simp] theorem retryReads_vault (l : List WaitRead) (s : State) : vault (retryReads l s) = vault s := by
  induction l generalizing s with
  | nil => rfl
  | cons w r ih =>
    unfold retryReads
    dsimp only
    (repeat' split) <;> simp [ih]

@[simp] theorem spiServesOrWaits_vault (bar2 : Bool) (off n : Nat) (s : State) : vault (spiServesOrWaits bar2 off n s) = vault s :=
  by simp [spiServesOrWaits]

@[simp] theorem spiReads_vault (b : Bytes) (s : State) : vault (spiReads b s) = vault s := by
  unfold spiReads
  (repeat' split) <;> simp [*]

@[simp] theorem sendMessage_vault (i : Nat) (s : State) : vault (sendMessage i s) = vault s := by simp [sendMessage]

@[simp] theorem mirrorWords_vault (base size : Nat) (n : Nat) (r : Rec) (s : State) : vault (mirrorWords base size n r s) = vault s := by
  induction r generalizing n s with
  | nil => rfl
  | cons w r ih => exact (ih _ _).trans (by simp)

@[simp] theorem mirrorFails_vault (i : Nat) (s : State) : vault (mirrorFails i s) = vault s := by simp [mirrorFails]

@[simp] theorem hpFails_vault (cfg : Nat) (s : State) : vault (hpFails cfg s) = vault s := by simp [hpFails]

@[simp] theorem hpTransmit_vault (d : Rec) (frame : Bytes) (dmaOk : Bool) (s : State) : vault (hpTransmit d frame dmaOk s) = vault s :=
  by simp [hpTransmit]

@[simp] theorem hpReceive_vault (d : Rec) (dmaOk : Bool) (s : State) : vault (hpReceive d dmaOk s) = vault s := by
  unfold hpReceive
  dsimp only
  (repeat' split) <;> simp [*]

@[simp] theorem inbandDrop_vault (hi : Nat) (s : State) : vault (inbandDrop hi s) = vault s := by simp [inbandDrop]

@[simp] theorem inbandMac_vault (m : Nat) (msg : Bytes) (s : State) : vault (inbandMac m msg s).2 = vault s := by simp [inbandMac]

@[simp] theorem functionReset_vault (down : Bool) (s : State) : vault (functionReset down s) = vault s := by simp [functionReset]

@[simp] theorem linkTrains_vault (rate width : Nat) (s : State) : vault (linkTrains rate width s) = vault s := by simp [linkTrains]

@[simp] theorem referenceFails_vault (s : State) : vault (referenceFails s) = vault s := by simp [referenceFails]

@[simp] theorem referenceReturns_vault (s : State) : vault (referenceReturns s) = vault s := by simp [referenceReturns]

@[simp] theorem fenceReturns_vault (o : Origin) (s : State) : vault (fenceReturns o s) = vault s := by
  unfold fenceReturns
  (repeat' split) <;> simp [*]

@[simp] theorem cellArrives_vault (port : Nat) (bytes : Bytes) (sof : Bool) (eof : Option Bool) (s : State) : vault (cellArrives port bytes sof eof s) = vault s :=
  by simp [cellArrives]

@[simp] theorem verifyFrame_vault (port : Nat) (bytes : Bytes) (rx : RxEnd) (s0 : State) : vault (verifyFrame port bytes rx s0) = vault s0 :=
  by simp [verifyFrame]

@[simp] theorem acted_vault (port : Nat) (s : State) : vault (acted port s) = vault s := by simp [acted]

@[simp] theorem runClassify_vault (f : Nat) (s : State) : vault (runClassify f s) = vault s := by
  unfold runClassify
  dsimp only
  (repeat' split) <;> simp [*]

@[simp] theorem runEnqueue_vault (f : Nat) (s : State) : vault (runEnqueue f s) = vault s := by
  unfold runEnqueue
  (repeat' split) <;> simp [*]

@[simp] theorem sgateListStart_vault (i : Nat) (s : State) : vault (sgateListStart i s) = vault s := by simp [sgateListStart]

@[simp] theorem sgateEntryStart_vault (i : Nat) (s0 : State) : vault (sgateEntryStart i s0) = vault s0 := by simp [sgateEntryStart]

@[simp] theorem frerReset_vault (i : Nat) (s : State) : vault (frerReset i s) = vault s := by
  unfold frerReset
  dsimp only
  (repeat' split) <;> simp [*]

@[simp] theorem latentTest_vault (i : Nat) (s : State) : vault (latentTest i s) = vault s := by simp [latentTest]

@[simp] theorem chipSelectFalls_vault (s : State) : vault (chipSelectFalls s) = vault s := by simp [chipSelectFalls]

@[simp] theorem wakeTimer_vault (s : State) : vault (wakeTimer s) = vault s := by
  unfold wakeTimer
  (repeat' split) <;> simp [*]

@[simp] theorem ignitionPin_vault (active : Bool) (s : State) : vault (ignitionPin active s) = vault s := by simp [ignitionPin]

@[simp] theorem snapshotAck_vault (s : State) : vault (snapshotAck s) = vault s := by
  unfold snapshotAck
  (repeat' split) <;> simp [*]

@[simp] theorem entryTimeout_vault (s : State) : vault (entryTimeout s) = vault s := by
  unfold entryTimeout
  (repeat' split) <;> simp [*]

@[simp] theorem raceEnds_vault (s : State) : vault (raceEnds s) = vault s := by
  unfold raceEnds
  (repeat' split) <;> simp [*]

@[simp] theorem unmask_vault (src : Nat) (s : State) : vault (unmask src s) = vault s := by
  unfold unmask
  (repeat' split) <;> simp [*]

@[simp] theorem prepareEnds_vault (i : Nat) (s : State) : vault (prepareEnds i s) = vault s := by
  unfold prepareEnds
  dsimp only
  (repeat' split) <;> simp [*]

end Sys2Proof.Machine
end

section
/-!
PROOFS. What BAR2 and its rings hold after a write and after a packet (R472, R515 to R523).
-/
namespace Sys2Proof.Machine
open Sys2Proof Sys2Proof.Safety

/-! ### A write of BAR2 -/

/-- Whole words that BAR2 takes, each of them, are stored. -/
theorem bar2Write_ok {o : Origin} {a : Nat} {ws : Rec} {s : State} (haligned : a % 4 = 0)
    (htaken : ∀ i, i < ws.length → bar2Refuses s o (a + 4 * i) = none) : bar2Write o a ws false s = .ok (bar2Store a ws s) := by
  have hfind : ((List.range ws.length).map (fun i => (i, bar2Refuses s o (a + 4 * i)))).find? (fun e => e.2.isSome) = none := by
    simpa [List.find?_eq_none] using htaken
  unfold bar2Write
  rw [hfind]
  simp [haligned]

theorem landWrite_bar2 {o : Origin} {c : Carried} {s : State} (hbar2 : c.bar2 = true) (hsize : c.sizeBad = false) (haligned : c.off % 4 = 0)
    (htaken : ∀ i, i < c.data.length → bar2Refuses s o (c.off + 4 * i) = none) : landWrite o c s = bar2Store c.off c.data s := by
  unfold landWrite
  simp only [hbar2, hsize, bar2Write_ok haligned htaken, if_true]

@[simp] theorem memWord_bar2Store (a j : Nat) (ws : Rec) (s : State) : memWord (bar2Store a ws s) j = memWord (memPutWords a ws s) j := rfl

/-- The words stored read back. -/
theorem memWords_bar2Store (a : Nat) (ws : Rec) (s : State) : memWords (bar2Store a ws s) a ws.length = ws := by
  refine List.ext_getElem (by simp [memWords]) fun i hi _ => ?_
  have hlen : i < ws.length := by simpa [memWords] using hi
  simp [memWords, memWord_memPutWords ws a i s hlen, hlen]

/-- The other bytes keep their value. -/
theorem memGet_bar2Store_out {a j : Nat} {ws : Rec} (s : State) (h : j < a ∨ a + 4 * ws.length ≤ j) : memGet (bar2Store a ws s) j = memGet s j :=
  memGet_memBytes_out _ _ _ _ (by rwa [flatMap_leBytes_length])

/-- The words stored are good again (R659). -/
theorem mem_badMem_bar2Store (a i : Nat) (ws : Rec) (s : State) :
    i ∈ (bar2Store a ws s).sys.test.badMem ↔ i ∈ s.sys.test.badMem ∧ ¬ (a / 4 ≤ i ∧ i < a / 4 + ws.length) := by
  simp [bar2Store_frame]
  omega

/-- Settles O48: a write that its target accepts is stored as it stands. -/
theorem memoryReadsBackWhatAWriteStored : Obligations.MemoryReadsBackWhatAWriteStored := by
  unfold Obligations.MemoryReadsBackWhatAWriteStored
  intro o off ws tag now s haligned htaken
  refine ⟨bar2Store off ws s, landWrite_bar2 rfl rfl haligned htaken, memWords_bar2Store off ws s,
    fun a ha => memGet_bar2Store_out s ha, fun i => mem_badMem_bar2Store off i ws s, ?_⟩
  rw [bar2Store_frame]

/-! ### A packet in its ring -/

theorem ringMod_eq (id : RingId) : ringMod id = 2 * 2 ^ ringBits id := by rw [ringMod, Nat.pow_succ, Nat.mul_comm]

/-- The address of a slot of one word. -/
def slotAddr (id : RingId) (ptr : Nat) : Nat := ringBase id + 4 * (ptr % 2 ^ ringBits id)

theorem slotAddr_lt (id : RingId) (ptr : Nat) : slotAddr id ptr + 4 ≤ ringBase id + 4 * 2 ^ ringBits id := by
  have := Nat.mod_lt ptr (Nat.two_pow_pos (ringBits id))
  unfold slotAddr
  omega

/-- A ring of one-word slots writes a word into the memory of BAR2. -/
theorem ringSlotPut_word {id : RingId} (hword : ringSlotWords id = 1) (ptr : Nat) (v : Word) (s : State) :
    ringSlotPut id ptr 0 v s = memPutWord (slotAddr id ptr) v s := by
  cases id
  case proof => cases hword
  case evq => cases hword
  all_goals simp [ringSlotPut, slotAddr, ringSlotWords]

theorem ringWrite_cons {id : RingId} (hword : ringSlotWords id = 1) (ptr i : Nat) (v : Word) (ws : Rec) (s : State) :
    ringWrite id ptr i (v :: ws) s = ringWrite id ptr (i + 1) ws (memPutWord (slotAddr id (ptr + i)) v s) := by
  rw [ringWrite, hword, Nat.div_one, Nat.mod_one, ringSlotPut_word hword]

/-- A byte outside the slots written keeps its value. -/
theorem memGet_ringWrite_out {id : RingId} (hword : ringSlotWords id = 1) (ptr i : Nat) (ws : Rec) (s : State) (a : Nat)
    (ha : ∀ k, k < ws.length → a < slotAddr id (ptr + i + k) ∨ slotAddr id (ptr + i + k) + 4 ≤ a) : memGet (ringWrite id ptr i ws s) a = memGet s a := by
  induction ws generalizing i s with
  | nil => rfl
  | cons v ws ih =>
    rw [ringWrite_cons hword, ih _ _ fun k hk => ?_]
    · exact memGet_memBytes_out _ _ _ _ (ha 0 (by simp))
    · have := ha (k + 1) (by simpa using hk)
      rwa [show ptr + i + (k + 1) = ptr + (i + 1) + k by omega] at this

/-- A slot that is not written keeps its word. -/
theorem memWord_ringWrite_out {id : RingId} (hword : ringSlotWords id = 1) (ptr i j : Nat) (ws : Rec) (s : State)
    (hj : ∀ k, k < ws.length → (ptr + i + k) % 2 ^ ringBits id ≠ j % 2 ^ ringBits id) :
    memWord (ringWrite id ptr i ws s) (slotAddr id j) = memWord s (slotAddr id j) := by
  have hbyte : ∀ b, b < 4 → memGet (ringWrite id ptr i ws s) (slotAddr id j + b) = memGet s (slotAddr id j + b) := fun b hb =>
    memGet_ringWrite_out hword _ _ _ _ _ fun k hk => by
      have := hj k hk
      unfold slotAddr
      omega
  unfold memWord
  rw [hbyte 1 (by omega), hbyte 2 (by omega), hbyte 3 (by omega), show memGet (ringWrite id ptr i ws s) (slotAddr id j) = _ from hbyte 0 (by omega), Nat.add_zero]

/-- Slots of a ring less than its size apart are distinct. -/
theorem slot_ne {n p i k : Nat} (hik : i < k) (hn : k < i + n) : (p + i) % n ≠ (p + k) % n := by
  intro h
  have hmod : k ≡ i [MOD n] := (Nat.ModEq.add_left_cancel' p h).symm
  have hdvd := (Nat.modEq_iff_dvd' hik.le).mp hmod.symm
  exact absurd (Nat.le_of_dvd (by omega) hdvd) (by omega)

/-- The words written read back. -/
theorem memWord_ringWrite_in {id : RingId} (hword : ringSlotWords id = 1) (ptr i k : Nat) (ws : Rec) (s : State) (hk : k < ws.length)
    (hfit : ws.length ≤ 2 ^ ringBits id) : memWord (ringWrite id ptr i ws s) (slotAddr id (ptr + i + k)) = ws.getD k 0 := by
  induction ws generalizing i k s with
  | nil => simp at hk
  | cons v ws ih =>
    rw [List.length_cons] at hk hfit
    rw [ringWrite_cons hword]
    cases k with
    | zero =>
      rw [memWord_ringWrite_out hword]
      · exact memWord_memPutWord _ _ _
      · intro k hk'
        rw [show ptr + (i + 1) + k = ptr + i + (k + 1) by omega]
        exact (slot_ne (Nat.succ_pos k) (by omega)).symm
    | succ k => 
      rw [show ptr + i + (k + 1) = ptr + (i + 1) + k by omega, ih _ _ _ (by omega) (by omega)]
      simp

theorem ringWords_word {id : RingId} (hword : ringSlotWords id = 1) (s : State) (ptr n : Nat) :
    ringWords s id ptr n = (List.range n).map (fun i => memWord s (slotAddr id (ptr + i))) := by
  simp only [ringWords, hword, Nat.div_one, Nat.mod_one, Nat.mul_one, Nat.add_zero, slotAddr]

/-- What BAR2 holds in a word is its memory's. -/
theorem memWord_of_mem {s u : State} (h : u.mem = s.mem) (a : Nat) : memWord u a = memWord s a := by simp only [memWord, memGet, h]

theorem ringWords_of_mem {s u : State} (h : u.mem = s.mem) (id : RingId) (ptr n : Nat) : ringWords u id ptr n = ringWords s id ptr n := by
  simp only [ringWords, memWord_of_mem h]

/-- The depth of a ring grows by the slots that its producer advances, where they fit. -/
theorem ringDiff_advance {id : RingId} {a b n : Nat} (ha : a < ringMod id) (hb : b < ringMod id) (hfit : ringDiff id a b + n ≤ 2 ^ ringBits id) :
    ringDiff id ((a + n) % ringMod id) b = ringDiff id a b + n := by
  cases id <;> simp only [ringDiff, ringMod, ringBits, Nat.reduceAdd, Nat.reducePow] at * <;> omega

theorem ringDiff_self (id : RingId) (a : Nat) (ha : a < ringMod id) : ringDiff id a (a % ringMod id) = 0 := by
  simp [ringDiff, Nat.mod_eq_of_lt ha]

/-- The producer stands its ring's depth beyond the consumer. -/
theorem slot_cons_add_depth {id : RingId} {a b : Nat} (hb : b < ringMod id) : (b + ringDiff id a b) % 2 ^ ringBits id = a % 2 ^ ringBits id := by
  cases id <;> simp only [ringDiff, ringMod, ringBits, Nat.reduceAdd, Nat.reducePow] at * <;> omega

theorem slotsFor_word {id : RingId} (hword : ringSlotWords id = 1) (ws : Rec) : slotsFor id ws = ws.length := by
  simp [slotsFor, hword]

/-- With no gap pending and no marker of this cycle a packet is offered. -/
theorem ringPush_offers {id : RingId} {s : State} (ws : Rec) (hgap : (ringOf s id).gap = none)
    (hmarker : ∀ c p n, (ringOf s id).marker = some (c, p, n) → c ≠ s.time.now) : ringPush id ws s = ringOffer id ws s := by
  unfold ringPush
  dsimp only
  rw [hgap]
  cases hm : (ringOf s id).marker with
  | none => rfl
  | some m =>
    obtain ⟨c, p, n⟩ := m
    exact if_neg (hmarker c p n hm)

theorem ringPush_lands {id : RingId} {s : State} (ws : Rec) (hgap : (ringOf s id).gap = none)
    (hmarker : ∀ c p n, (ringOf s id).marker = some (c, p, n) → c ≠ s.time.now) (hroom : slotsFor id ws ≤ ringFree s id) :
    ringPush id ws s = ringLand id ws s := by
  rw [ringPush_offers ws hgap hmarker, ringOffer]
  exact if_pos hroom

theorem ringLand_prod (id : RingId) (ws : Rec) (s : State) :
    (ringOf (ringLand id ws s) id).prod = ((ringOf s id).prod + slotsFor id ws) % ringMod id := by simp [ringLand]
theorem ringLand_ends (id : RingId) (ws : Rec) (s : State) :
    (ringOf (ringLand id ws s) id).ends = (ringOf s id).ends ++ [((ringOf s id).prod + slotsFor id ws) % ringMod id] := by simp [ringLand]
theorem ringLand_cons (id : RingId) (ws : Rec) (s : State) : (ringOf (ringLand id ws s) id).cons = (ringOf s id).cons := by simp [ringLand]
theorem ringLand_gap (id : RingId) (ws : Rec) (s : State) : (ringOf (ringLand id ws s) id).gap = (ringOf s id).gap := by simp [ringLand]
theorem ringLand_mem (id : RingId) (ws : Rec) (s : State) : (ringLand id ws s).mem = (ringWrite id (ringOf s id).prod 0 ws s).mem := by simp [ringLand]

/-- The words of a packet that lands read back from its slots. -/
theorem ringWords_ringLand_new {id : RingId} (hword : ringSlotWords id = 1) (ws : Rec) (s : State) (hfit : ws.length ≤ 2 ^ ringBits id) :
    ringWords (ringLand id ws s) id (ringOf s id).prod ws.length = ws := by
  rw [ringWords_of_mem (ringLand_mem id ws s), ringWords_word hword]
  refine List.ext_getElem (by simp) fun i hi _ => ?_
  have hlen : i < ws.length := by simpa using hi
  have hread := memWord_ringWrite_in hword (ringOf s id).prod 0 i ws s hlen hfit
  rw [Nat.add_zero] at hread
  simp [hread, hlen]

/-- The words of the packets that wait stay. -/
theorem ringWords_ringLand_old {id : RingId} (hword : ringSlotWords id = 1) (ws : Rec) (s : State) (hcons : (ringOf s id).cons < ringMod id)
    (hfit : ringDepth s id + ws.length ≤ 2 ^ ringBits id) :
    ringWords (ringLand id ws s) id (ringOf s id).cons (ringDepth s id) = ringWords s id (ringOf s id).cons (ringDepth s id) := by
  rw [ringWords_of_mem (ringLand_mem id ws s), ringWords_word hword, ringWords_word hword]
  refine List.map_congr_left fun i hi => memWord_ringWrite_out hword _ _ _ _ _ fun k hk => ?_
  have hdepth : i < ringDepth s id := by simpa using hi
  have hprod := slot_cons_add_depth (a := (ringOf s id).prod) hcons
  rw [Nat.add_zero, ← Nat.mod_add_mod, ← hprod, Nat.mod_add_mod, Nat.add_assoc]
  exact (slot_ne (show i < ringDepth s id + k by omega) (by omega)).symm

theorem memGet_ringLand_out {id : RingId} (hword : ringSlotWords id = 1) (ws : Rec) (s : State) {a : Nat}
    (ha : a < ringBase id ∨ ringBase id + 4 * 2 ^ ringBits id ≤ a) : memGet (ringLand id ws s) a = memGet s a := by
  rw [show memGet (ringLand id ws s) a = memGet (ringWrite id (ringOf s id).prod 0 ws s) a by simp only [memGet, ringLand_mem]]
  refine memGet_ringWrite_out hword _ _ _ _ _ fun k _ => ?_
  have hend := slotAddr_lt id ((ringOf s id).prod + 0 + k)
  unfold slotAddr at hend ⊢
  omega

/-- A consumer that takes all that is published leaves its ring empty. -/
theorem ringDepth_ringConsume_all {id : RingId} {s : State} (hgap : (ringOf s id).gap = none) (hprod : (ringOf s id).prod < ringMod id) :
    ringDepth (ringConsume id (ringOf s id).prod s) id = 0 := by
  unfold ringConsume
  rw [ringRescue_none _ _ (.inl (by simpa using hgap))]
  simp only [ringDepth, ringOf_setRing]
  exact ringDiff_self id _ hprod

/-- A packet offered to a full ring opens a gap. -/
theorem ringPush_opens_gap {id : RingId} {s : State} {ws : Rec} (hgap : (ringOf s id).gap = none)
    (hmarker : ∀ c p n, (ringOf s id).marker = some (c, p, n) → c ≠ s.time.now) (hfull : ringFree s id < slotsFor id ws) :
    ringPush id ws s = setRing id { ringOf s id with
      gap := some (s.time.now + (if ringSlotWords id = 1 then ringFree s id else 0), 1)
      drops := satAdd 32 (ringOf s id).drops 1
      late := some (s.time.now, ws) } s := by
  rw [ringPush_offers ws hgap hmarker, ringOffer]
  exact if_neg (by omega)

/-- A packet offered in the cycle of a marker joins the marker (R521). -/
theorem ringOf_ringPush_marker {id : RingId} {s : State} {p n : Nat} (ws : Rec) (hgap : (ringOf s id).gap = none)
    (hmarker : (ringOf s id).marker = some (s.time.now, p, n)) :
    ringOf (ringPush id ws s) id =
      { ringOf s id with marker := some (s.time.now, p, satAdd 32 n 1), drops := satAdd 32 (ringOf s id).drops 1 } := by
  unfold ringPush
  dsimp only
  rw [hgap, hmarker]
  simp

/-- Settles O49: the slots written are apart from each other and from those that wait. -/
theorem ringPacketsReadBack : Obligations.RingPacketsReadBack := by
  unfold Obligations.RingPacketsReadBack
  refine ⟨?lands, ?full, ?marker⟩
  case lands =>
    intro id ws s hword hgap hmarker hprod hcons hfit
    have hroom : slotsFor id ws ≤ ringFree s id := by
      rw [slotsFor_word hword, ringFree]
      omega
    rw [ringPush_lands ws hgap hmarker hroom]
    have hnew : (ringOf (ringLand id ws s) id).prod = ((ringOf s id).prod + ws.length) % ringMod id := by rw [ringLand_prod, slotsFor_word hword]
    refine ⟨hnew, ?_, ?_, ringWords_ringLand_new hword ws s (by omega), ringWords_ringLand_old hword ws s hcons hfit,
      fun a ha => memGet_ringLand_out hword ws s ha, ringDepth_ringConsume_all ((ringLand_gap id ws s).trans hgap) ?_⟩
    · rw [ringLand_ends, ringLand_prod]
    · rw [ringDepth, hnew, ringLand_cons]
      exact ringDiff_advance hprod hcons hfit
    · rw [hnew]
      exact Nat.mod_lt _ (Nat.two_pow_pos _)
  case full =>
    intro id ws s hgap hmarker hfull
    rw [ringPush_opens_gap hgap hmarker hfull]
    simp [ringDepth]
  case marker =>
    intro id ws s p n hgap hmarker
    dsimp only
    rw [ringDepth, ringOf_ringPush_marker ws hgap hmarker]
    exact ⟨rfl, rfl, rfl, rfl, hgap, rfl⟩

end Sys2Proof.Machine
end

section
/-!
PROOFS. The fields of a register: what a write leaves in each (R506 to R513).
-/
namespace Sys2Proof.Machine
open Sys2Proof Sys2Proof.Safety

/-! ### Bit fields of a word -/

theorem bits_lt (w : Word) (hi lo : Nat) : bits w hi lo < 2 ^ (hi + 1 - lo) := Nat.mod_lt _ (Nat.two_pow_pos _)

theorem testBit_bits (w : Word) (hi lo i : Nat) : (bits w hi lo).testBit i = (decide (i < hi + 1 - lo) && w.toNat.testBit (lo + i)) := by
  rw [bits, nbits, Nat.testBit_mod_two_pow, Nat.testBit_div_two_pow, Nat.add_comm i]

/-- A word with a field replaced, from the bits above the field, the field's new value and the bits below it. -/
theorem toNat_putBits (w : Word) {hi lo : Nat} (hlo : lo ≤ hi) (hhi : hi < 32) (v : Nat) :
    (putBits w hi lo v).toNat = 2 ^ lo * (2 ^ (hi + 1 - lo) * (w.toNat / 2 ^ lo / 2 ^ (hi + 1 - lo)) + v % 2 ^ (hi + 1 - lo)) + w.toNat % 2 ^ lo := by
  have hw := w.isLt
  have hsplit : 2 ^ lo * (2 ^ (hi + 1 - lo) * 2 ^ (31 - hi)) = 2 ^ 32 := by rw [← Nat.pow_add, ← Nat.pow_add]; congr 1; omega
  rw [putBits, bits, nbits, word, BitVec.toNat_ofNat]
  generalize w.toNat = n at hw ⊢
  generalize hN : 2 ^ lo = N at hsplit ⊢
  generalize hM : 2 ^ (hi + 1 - lo) = M at hsplit ⊢
  have hNpos : 0 < N := hN ▸ Nat.two_pow_pos lo
  have hMpos : 0 < M := hM ▸ Nat.two_pow_pos _
  have hv := Nat.mod_lt v hMpos
  have hlow := Nat.mod_lt n hNpos
  have hn := Nat.div_add_mod n N
  have hq := Nat.div_add_mod (n / N) M
  have hqlt : n / N / M < 2 ^ (31 - hi) := by
    rw [Nat.div_div_eq_div_mul]
    exact Nat.div_lt_of_lt_mul (by rwa [Nat.mul_assoc, hsplit])
  generalize n / N / M = q at hq hqlt ⊢
  generalize n / N % M = f at hq ⊢
  generalize n % N = l at hn hlow ⊢
  generalize v % M = x at hv ⊢
  rw [← hq] at hn
  have hvalue : n - f * N + x * N = N * (M * q + x) + l := by
    rw [← hn]
    have : N * (M * q + f) = N * (M * q) + f * N := by ring
    rw [this, show N * (M * q + x) = N * (M * q) + x * N by ring]
    omega
  rw [hvalue]
  refine Nat.mod_eq_of_lt ?_
  calc N * (M * q + x) + l < N * (M * q + x) + N := by omega
    _ = N * (M * q + (x + 1)) := by ring
    _ ≤ N * (M * q + M) := Nat.mul_le_mul_left _ (by omega)
    _ = N * (M * (q + 1)) := by ring
    _ ≤ N * (M * 2 ^ (31 - hi)) := Nat.mul_le_mul_left _ (Nat.mul_le_mul_left _ hqlt)
    _ = 2 ^ 32 := hsplit

theorem testBit_putBits (w : Word) {hi lo : Nat} (hlo : lo ≤ hi) (hhi : hi < 32) (v i : Nat) :
    (putBits w hi lo v).toNat.testBit i = if lo ≤ i ∧ i ≤ hi then v.testBit (i - lo) else w.toNat.testBit i := by
  rw [toNat_putBits w hlo hhi, Nat.testBit_two_pow_mul_add _ (Nat.mod_lt _ (Nat.two_pow_pos lo)),
    Nat.testBit_two_pow_mul_add _ (Nat.mod_lt _ (Nat.two_pow_pos _)), Nat.testBit_mod_two_pow, Nat.testBit_mod_two_pow, Nat.testBit_div_two_pow,
    Nat.testBit_div_two_pow]
  by_cases hbelow : i < lo
  · simp [hbelow, show ¬ lo ≤ i by omega]
  · by_cases habove : i ≤ hi
    · simp [hbelow, habove, show lo ≤ i by omega, show i - lo < hi + 1 - lo by omega]
    · rw [if_neg hbelow, if_neg (by omega), if_neg (by omega)]
      congr 1
      omega

/-- A field reads what it was given. -/
theorem bits_putBits_same (w : Word) {hi lo : Nat} (hlo : lo ≤ hi) (hhi : hi < 32) (v : Nat) : bits (putBits w hi lo v) hi lo = v % 2 ^ (hi + 1 - lo) := by
  refine Nat.eq_of_testBit_eq fun i => ?_
  rw [testBit_bits, testBit_putBits w hlo hhi, Nat.testBit_mod_two_pow]
  by_cases hi' : i < hi + 1 - lo
  · rw [if_pos (by omega), Nat.add_sub_cancel_left]
  · simp [hi']

/-- A field keeps its value where another is replaced. -/
theorem bits_putBits_apart (w : Word) {hi lo hi' lo' : Nat} (hlo : lo ≤ hi) (hhi : hi < 32) (hapart : hi' < lo ∨ hi < lo') (v : Nat) :
    bits (putBits w hi lo v) hi' lo' = bits w hi' lo' := by
  refine Nat.eq_of_testBit_eq fun i => ?_
  rw [testBit_bits, testBit_bits, testBit_putBits w hlo hhi]
  by_cases hi' : i < hi' + 1 - lo'
  · rw [if_neg (by omega)]
  · simp [hi']

/-! ### The fields of the registers lie apart (R506) -/

/-- Fields that lie in a word, the higher first, none meeting another. -/
def fieldsApart : List RegField → Bool
  | [] => true
  | f :: fs => decide (f.lo ≤ f.hi ∧ f.hi < 32) && fs.all (fun g => decide (g.hi < f.lo)) && fieldsApart fs

/-- What a block of registers lists at an offset, if anything: fields apart. -/
def laidOut (fs : Option (List RegField)) : Bool := fs.all fieldsApart

theorem laidOut_ite {c : Prop} [Decidable c] {a b : Option (List RegField)} (ha : laidOut a = true) (hb : laidOut b = true) :
    laidOut (if c then a else b) = true := by
  split
  · exact ha
  · exact hb

theorem laidOut_sys (o : Nat) : laidOut (sysFields o) = true := by
  unfold sysFields
  repeat refine laidOut_ite rfl ?_
  rfl

theorem laidOut_source (i o : Nat) : laidOut (sourceFields i o) = true := by
  unfold sourceFields
  repeat refine laidOut_ite rfl ?_
  rfl

theorem laidOut_hostPort (o : Nat) : laidOut (hostPortFields o) = true := by
  unfold hostPortFields
  repeat refine laidOut_ite rfl ?_
  rfl

theorem laidOut_slot {x base stride n : Nat} {f : Nat → Nat → Option (List RegField)} (h : ∀ i d, laidOut (f i d) = true) :
    laidOut (match slotOf x base stride n with | some (i, d) => f i d | none => none) = true := by
  split
  · exact h _ _
  · rfl

theorem laidOut_brg (o : Nat) : laidOut (brgFields o) = true := by
  unfold brgFields
  iterate 8 refine laidOut_ite rfl ?_
  refine laidOut_ite (laidOut_hostPort _) (laidOut_ite (laidOut_hostPort _) ?_)
  iterate 2 refine laidOut_ite rfl ?_
  split
  · exact laidOut_source _ _
  · rfl

theorem laidOut_mbx (o : Nat) : laidOut (mbxFields o) = true := by
  unfold mbxFields
  split
  · rfl
  · repeat refine laidOut_ite rfl ?_
    rfl

theorem laidOut_evq (o : Nat) : laidOut (evqFields o) = true := by
  refine laidOut_ite rfl ?_
  split
  · rfl
  · repeat refine laidOut_ite rfl ?_
    rfl

theorem laidOut_time (o : Nat) : laidOut (timeFields o) = true := by
  unfold timeFields
  repeat refine laidOut_ite rfl ?_
  rfl

theorem laidOut_tio (o : Nat) : laidOut (tioFields o) = true := by
  unfold tioFields
  split
  · rfl
  · repeat refine laidOut_ite rfl ?_
    rfl

theorem laidOut_crocus (o : Nat) : laidOut (crocusFields o) = true := by
  unfold crocusFields
  repeat refine laidOut_ite rfl ?_
  rfl

theorem laidOut_pair (o : Nat) : laidOut (pairFields o) = true := by
  unfold pairFields
  repeat refine laidOut_ite rfl ?_
  rfl

theorem laidOut_test (o : Nat) : laidOut (testFields o) = true := by
  unfold testFields
  repeat refine laidOut_ite rfl ?_
  rfl

/-- The fields of every register lie apart. -/
theorem laidOut_regFields (off : Nat) : laidOut (regFields off) = true := by
  refine laidOut_ite rfl ?_
  split
  · exact laidOut_sys _
  · exact laidOut_brg _
  · exact laidOut_mbx _
  · exact laidOut_evq _
  · exact laidOut_time _
  · exact laidOut_tio _
  · exact laidOut_crocus _
  · exact laidOut_pair _
  · exact laidOut_test _
  · rfl

theorem fieldsApart_of_regFields {off : Nat} {fs : List RegField} (h : regFields off = some fs) : fieldsApart fs = true := by
  have hall := laidOut_regFields off
  rwa [h] at hall

/-! ### A write, field by field -/

/-- Fields take values one after the other, where the condition holds. -/
def putFields (c : RegField → Bool) (g : RegField → Nat) (fs : List RegField) (w : Word) : Word :=
  fs.foldl (fun x f => if c f then putBits x f.hi f.lo (g f) else x) w

/-- A field of a register with fields apart, and the field's place. -/
theorem range_of_fieldsApart {fs : List RegField} (h : fieldsApart fs = true) {f : RegField} (hf : f ∈ fs) : f.lo ≤ f.hi ∧ f.hi < 32 := by
  induction fs with
  | nil => cases hf
  | cons k fs ih =>
    simp only [fieldsApart, Bool.and_eq_true, decide_eq_true_eq] at h
    rcases List.mem_cons.mp hf with rfl | hmem
    · exact h.1.1
    · exact ih h.2 hmem

/-- A field below all those that take values keeps its own. -/
theorem bits_putFields_apart {c : RegField → Bool} {g : RegField → Nat} {fs : List RegField} (h : fieldsApart fs = true) {hi lo : Nat}
    (hapart : ∀ k ∈ fs, c k = true → hi < k.lo ∨ k.hi < lo) (w : Word) : bits (putFields c g fs w) hi lo = bits w hi lo := by
  induction fs generalizing w with
  | nil => rfl
  | cons k fs ih =>
    obtain ⟨hlo, hhi⟩ := range_of_fieldsApart h List.mem_cons_self
    simp only [fieldsApart, Bool.and_eq_true] at h
    refine (ih h.2 (fun x hx => hapart x (List.mem_cons_of_mem _ hx)) _).trans ?_
    dsimp only
    split
    · next hc => exact bits_putBits_apart w hlo hhi (hapart k List.mem_cons_self hc) _
    · rfl

/-- Two fields of a register are the same or lie apart. -/
theorem eq_or_apart {fs : List RegField} (h : fieldsApart fs = true) {f k : RegField} (hf : f ∈ fs) (hk : k ∈ fs) : k = f ∨ f.hi < k.lo ∨ k.hi < f.lo := by
  induction fs with
  | nil => cases hf
  | cons x fs ih =>
    simp only [fieldsApart, Bool.and_eq_true, List.all_eq_true, decide_eq_true_eq] at h
    obtain ⟨⟨-, hbelow⟩, hrest⟩ := h
    rcases List.mem_cons.mp hf with rfl | hfs <;> rcases List.mem_cons.mp hk with rfl | hks
    · exact .inl rfl
    · exact .inr (.inr (hbelow k hks))
    · exact .inr (.inl (hbelow f hfs))
    · exact ih hrest hfs hks

/-- Each field that takes a value reads it. -/
theorem bits_putFields_mem {c : RegField → Bool} {g : RegField → Nat} {fs : List RegField} (h : fieldsApart fs = true) {f : RegField} (hf : f ∈ fs)
    (hc : c f = true) (w : Word) : bits (putFields c g fs w) f.hi f.lo = g f % 2 ^ (f.hi + 1 - f.lo) := by
  induction fs generalizing w with
  | nil => cases hf
  | cons k fs ih =>
    have hrange := range_of_fieldsApart h hf
    simp only [fieldsApart, Bool.and_eq_true, List.all_eq_true, decide_eq_true_eq] at h
    obtain ⟨⟨-, hbelow⟩, hrest⟩ := h
    rcases List.mem_cons.mp hf with rfl | hmem
    · refine (bits_putFields_apart hrest (fun x hx _ => .inr (hbelow x hx)) _).trans ?_
      dsimp only
      rw [if_pos hc]
      exact bits_putBits_same w hrange.1 hrange.2 _
    · exact ih hrest hmem _

/-- The value that a write of v gives a field (R506 to R508, R513). -/
def fieldWritten (s : State) (reg : Nat) (a : Alias) (v : Word) (f : RegField) : Nat :=
  let old := bits (if f.acc = .ptr then regRead s reg else regGet s reg) f.hi f.lo
  let v := bits v f.hi f.lo
  let x := if f.acc = .cnt && a = .direct then cntAfter s reg f old v else fieldAfter f.acc a (s.sys.fw.lifecycle = 2) old v
  if f.acc = .w1c then x ||| bits (word (tget 0 (hwNow s).flags reg)) f.hi f.lo else x

theorem newValue_eq {reg : Nat} {fs : List RegField} (h : regFields reg = some fs) (a : Alias) (v : Word) (s : State) :
    newValue reg a v s = putFields (fun _ => true) (fieldWritten s reg a v) fs 0 := by
  rw [newValue, h]
  rfl

theorem storeAfter_eq (s : State) (reg : Nat) (fs : List RegField) (w : Word) :
    storeAfter s reg fs w = putFields (fun f => f.acc = .ptr || f.acc = .go) (fun f => regFld s reg f.hi f.lo) fs w := rfl

/-- A field that neither is a pointer nor starts a command holds, after a write, what the write gives it. -/
theorem regFld_stored {reg : Nat} {fs : List RegField} {f : RegField} (h : regFields reg = some fs) (hf : f ∈ fs) (hptr : f.acc ≠ .ptr) (hgo : f.acc ≠ .go)
    (a : Alias) (v : Word) (s : State) : regFld (stored reg a v s) reg f.hi f.lo = fieldWritten s reg a v f % 2 ^ (f.hi + 1 - f.lo) := by
  have hapart := fieldsApart_of_regFields h
  rw [regFld, regGet_stored, h, Option.getD_some, storeAfter_eq, newValue_eq h, bits_putFields_apart hapart, bits_putFields_mem hapart hf rfl]
  intro k hk hc
  refine (eq_or_apart hapart hf hk).resolve_left ?_
  rintro rfl
  simp [hptr, hgo] at hc

/-- A field keeps the width of its value. -/
theorem regFld_lt (s : State) (reg hi lo : Nat) : regFld s reg hi lo < 2 ^ (hi + 1 - lo) := bits_lt _ _ _

theorem regGet_stored_ne {reg r : Nat} (h : r ≠ reg) (a : Alias) (v : Word) (s : State) : regGet (stored reg a v s) r = regGet s r := by
  rw [stored, regGet_noteWrite, regGet_regSet_ne _ _ _ _ h]

section Written
variable {s : State} {reg : Nat} {a : Alias} {v : Word} {f : RegField}

theorem fieldWritten_rw (h : f.acc = .rw) : fieldWritten s reg a v f = fieldAfter .rw a (s.sys.fw.lifecycle = 2) (regFld s reg f.hi f.lo) (bits v f.hi f.lo) := by
  simp [fieldWritten, h, regFld]

theorem fieldWritten_w1c (h : f.acc = .w1c) (ha : a = .direct ∨ a = .clear) : fieldWritten s reg a v f =
    (regFld s reg f.hi f.lo - (regFld s reg f.hi f.lo &&& bits v f.hi f.lo)) ||| bits (word (tget 0 (hwNow s).flags reg)) f.hi f.lo := by
  rcases ha with rfl | rfl <;> simp [fieldWritten, h, regFld, fieldAfter]

theorem fieldWritten_ro (h : f.acc = .ro) : fieldWritten s reg a v f = regFld s reg f.hi f.lo := by
  simp [fieldWritten, h, regFld, fieldAfter]

theorem fieldWritten_lock (h : f.acc = .lock) : fieldWritten s reg a v f =
    if a = .direct ∨ a = .set then regFld s reg f.hi f.lo ||| bits v f.hi f.lo else regFld s reg f.hi f.lo := by
  cases a <;> simp [fieldWritten, h, regFld, fieldAfter]

theorem fieldWritten_cnt (h : f.acc = .cnt) : fieldWritten s reg .direct v f = cntAfter s reg f (regFld s reg f.hi f.lo) (bits v f.hi f.lo) := by
  simp [fieldWritten, h, regFld]

end Written

/-- Settles O51: the fields of a register lie apart, so each holds what its own access code gives it. -/
theorem fieldsTakeWritesByTheirCode : Obligations.FieldsTakeWritesByTheirCode := by
  unfold Obligations.FieldsTakeWritesByTheirCode
  refine ⟨?readWrite, ?cleared, ?lock, ?readOnly, fun reg r s v a hne => regGet_stored_ne hne a v s⟩
  case readWrite =>
    intro reg fs f s v h hf hacc
    have hst := fun a => regFld_stored h hf (by simp [hacc]) (by simp [hacc]) a v s
    have hold := regFld_lt s reg f.hi f.lo
    have hnew := bits_lt v f.hi f.lo
    simp only [hst, fieldWritten_rw hacc, fieldAfter]
    exact ⟨Nat.mod_eq_of_lt hnew, Nat.mod_eq_of_lt (Nat.or_lt_two_pow hold hnew), Nat.mod_eq_of_lt (by omega), Nat.mod_eq_of_lt (Nat.xor_lt_two_pow hold hnew)⟩
  case cleared =>
    intro reg fs f s v a h hf hacc ha
    have hold := regFld_lt s reg f.hi f.lo
    rw [regFld_stored h hf (by simp [hacc]) (by simp [hacc]), fieldWritten_w1c hacc ha]
    exact Nat.mod_eq_of_lt (Nat.or_lt_two_pow (by omega) (bits_lt _ _ _))
  case lock =>
    intro reg fs f s v a i h hf hacc hset
    have hi : i < f.hi + 1 - f.lo := by
      rw [regFld, testBit_bits] at hset
      simpa using And.left (by simpa using hset)
    rw [regFld_stored h hf (by simp [hacc]) (by simp [hacc]), fieldWritten_lock hacc, Nat.testBit_mod_two_pow]
    split
    · simp [hi, hset]
    · simp [hi, hset]
  case readOnly =>
    intro reg fs f s v a h hf hacc
    rw [regFld_stored h hf (by simp [hacc]) (by simp [hacc]), fieldWritten_ro hacc]
    exact Nat.mod_eq_of_lt (regFld_lt s reg f.hi f.lo)

/-! ### Counts (R508) -/

theorem regFld_regPut_same {reg hi lo : Nat} (hlo : lo ≤ hi) (hhi : hi < 32) (v : Nat) (s : State) :
    regFld (regPut reg hi lo v s) reg hi lo = v % 2 ^ (hi + 1 - lo) := by
  rw [regFld, regPut, regGet_regSet, bits_putBits_same _ hlo hhi]

theorem satAdd_lt (n c k : Nat) : satAdd n c k < 2 ^ n := by
  have := Nat.two_pow_pos n
  unfold satAdd
  omega

theorem regFld_countBy_same {reg hi lo : Nat} (hlo : lo ≤ hi) (hhi : hi < 32) (k : Nat) (s : State) :
    regFld (countBy reg hi lo k s) reg hi lo = satAdd (hi + 1 - lo) (regFld s reg hi lo) k := by
  change regFld (regPut reg hi lo _ s) reg hi lo = _
  rw [regFld_regPut_same hlo hhi]
  exact Nat.mod_eq_of_lt (satAdd_lt _ _ _)

/-- What this cycle has noted of a field that counts for the first time in it. -/
theorem cntNote_countBy {reg lo : Nat} {s : State} (h : cntNote s reg lo = none) (hi k : Nat) :
    cntNote (countBy reg hi lo k s) reg lo = some ⟨reg, lo, regFld s reg hi lo, k⟩ := by
  have hput : ∀ v, cntNote (regPut reg hi lo v s) reg lo = none := fun v => h
  have hat : ∀ u : State, (hwNow u).at0 = u.time.now := fun u => by
    unfold hwNow
    split
    · assumption
    · rfl
  simp only [countBy, noteCount, hput]
  rw [cntNote, hwNow]
  dsimp only
  rw [if_pos (hat _)]
  simp

/-- Settles O50: counting by one saturates (`regFld_countBy_same`), and a direct write leaves what
`fieldWritten_cnt` says of a CNT field. -/
theorem countFieldsCountAndTakeWrites : Obligations.CountFieldsCountAndTakeWrites := by
  unfold Obligations.CountFieldsCountAndTakeWrites
  intro reg fs f s h hf hacc
  obtain ⟨hlo, hhi⟩ := range_of_fieldsApart (fieldsApart_of_regFields h) hf
  have hst := fun v u => regFld_stored h hf (by simp [hacc]) (by simp [hacc]) .direct v u
  have hold := regFld_lt s reg f.hi f.lo
  have hcount : regFld (count reg f.hi f.lo s) reg f.hi f.lo = _ := regFld_countBy_same hlo hhi 1 s
  refine ⟨hcount.trans (Nat.min_comm _ _), fun hnote => ⟨?_, ?_, ?_⟩⟩
  · intro v hle
    rw [hst, fieldWritten_cnt hacc, cntAfter, hnote]
    exact Nat.mod_eq_of_lt (by dsimp only; omega)
  · intro v hlt
    rw [hst, fieldWritten_cnt hacc, cntAfter, hnote]
    dsimp only
    rw [Nat.sub_eq_zero_of_le hlt.le, Nat.zero_mod]
  · intro v
    rw [hst, fieldWritten_cnt hacc, cntAfter, count, cntNote_countBy hnote]
    dsimp only
    rw [Nat.mod_eq_of_lt (satAdd_lt _ _ _)]
    exact Nat.min_comm _ _

end Sys2Proof.Machine
end

section
/-!
PROOFS. Events, and what they leave in the recorder and in the coalescer (R452 to R457, R550, R551).
-/
namespace Sys2Proof.Machine
open Sys2Proof Sys2Proof.Safety

/-! ### Counts of records -/

theorem foldl_payloads (l : List CsGroup) (n : Nat) : l.foldl (fun n g => n + g.payloads.length) n = n + csCount l := by
  unfold csCount
  induction l generalizing n with
  | nil => rfl
  | cons g l ih => rw [List.foldl_cons, ih, List.foldl_cons, ih (0 + _)]; omega

@[simp] theorem csCount_nil : csCount [] = 0 := rfl
@[simp] theorem csCount_cons (g : CsGroup) (l : List CsGroup) : csCount (g :: l) = g.payloads.length + csCount l := by
  rw [csCount, List.foldl_cons, foldl_payloads]
  omega
@[simp] theorem csCount_append (a b : List CsGroup) : csCount (a ++ b) = csCount a + csCount b := by
  rw [csCount, List.foldl_append, foldl_payloads]
  rfl
theorem csFill_eq (s : State) : csFill s = csCount s.cs.queue := rfl

theorem csCount_sublist {a b : List CsGroup} (h : a.Sublist b) : csCount a ≤ csCount b := by
  induction h with
  | slnil => exact Nat.le_refl _
  | cons g _ ih => rw [csCount_cons]; omega
  | cons_cons g _ ih => rw [csCount_cons, csCount_cons]; omega

/-! ### A group below the recorder's limit -/

/-- A group joins a queue before nothing but the groups of its own cycle that go behind it (R457). -/
theorem csInsert_split (g : CsGroup) (l : List CsGroup) :
    ∃ a b, l = a ++ b ∧ csInsert g l = a ++ g :: b ∧ ∀ x, x ∈ b.head? → x.at0 = g.at0 ∧ csRank g < csRank x := by
  induction l with
  | nil => exact ⟨[], [], rfl, rfl, by simp⟩
  | cons h r ih =>
    rw [csInsert]
    split
    · next hlt => exact ⟨[], h :: r, rfl, rfl, by simpa using hlt⟩
    · obtain ⟨a, b, hr, hins, hb⟩ := ih
      exact ⟨h :: a, b, by rw [hr, List.cons_append], by rw [hins, List.cons_append], hb⟩

theorem csQueued_split (g : CsGroup) (s : State) :
    ∃ a b, s.cs.queue = a ++ b ∧ csQueued s g = a ++ g :: b ∧ ∀ x, x ∈ b.head? → x.at0 = g.at0 ∧ csRank g < csRank x := by
  unfold csQueued
  split
  · next h r _ hq =>
    obtain ⟨a, b, hr, hins, hb⟩ := csInsert_split g r
    exact ⟨h :: a, b, by rw [hq, hr, List.cons_append], by rw [hins, List.cons_append], hb⟩
  · exact csInsert_split g _

theorem csPushAt_room {kind lt : Nat} {ps : List (BitVec 64)} {s : State} (hfill : csFill s + ps.length ≤ 768)
    (hlost : s.cs.lost.1 ≠ s.time.now ∨ s.cs.lost.2.1 = []) :
    csPushAt kind lt ps s = { s with cs := { s.cs with queue := csQueued s ⟨kind, lt, ps, s.time.now⟩ } } := if_pos (by simpa [hfill] using hlost)

/-- The queue holds one group more. -/
theorem csFill_csPushAt_room {kind lt : Nat} {ps : List (BitVec 64)} {s : State} (hfill : csFill s + ps.length ≤ 768)
    (hlost : s.cs.lost.1 ≠ s.time.now ∨ s.cs.lost.2.1 = []) : csFill (csPushAt kind lt ps s) = csFill s + ps.length := by
  obtain ⟨a, b, hq, hins, -⟩ := csQueued_split ⟨kind, lt, ps, s.time.now⟩ s
  rw [csPushAt_room hfill hlost, csFill_eq, csFill_eq, hq]
  dsimp only
  rw [hins]
  simp
  omega

/-! ### A group near the limits (R455) -/

theorem csPushAt_full {kind lt : Nat} {ps : List (BitVec 64)} {s : State} (hfill : 768 < csFill s + ps.length) :
    csPushAt kind lt ps s = csSettle ⟨kind, lt, ps, s.time.now⟩ s := if_neg (by simp; omega)

theorem csRecount_regGet (a b : List CsGroup) (s : State) {r : Nat} (hr : r ≠ rCS_LOST) : regGet (csRecount a b s) r = regGet s r := by
  unfold csRecount
  split
  · exact regGet_countBy_ne _ _ _ _ _ _ hr
  · exact regGet_regSet_ne _ _ _ _ hr

/-- A group takes no register but the count of losses. -/
theorem csPushAt_regGet (kind lt : Nat) (ps : List (BitVec 64)) (s : State) {r : Nat} (hr : r ≠ rCS_LOST) : regGet (csPushAt kind lt ps s) r = regGet s r := by
  unfold csPushAt
  dsimp only
  split
  · rfl
  · exact csRecount_regGet _ _ _ hr

/-- Groups are admitted within 1,024 records, or were there before. -/
theorem csCount_csAdmit (l : List CsGroup) (v : List CsGroup × List CsGroup) : csCount (l.foldl csAdmit v).1 ≤ max 1024 (csCount v.1) := by
  induction l generalizing v with
  | nil => simp
  | cons g l ih =>
    refine (ih _).trans ?_
    unfold csAdmit
    dsimp only
    split
    · next h =>
      simp only [Bool.and_eq_true, decide_eq_true_eq] at h
      obtain ⟨hroom, -⟩ := h
      simp
      omega
    · exact Nat.le_refl _

/-- Every group offered is admitted or lost. -/
theorem mem_csAdmit {g : CsGroup} (l : List CsGroup) (v : List CsGroup × List CsGroup) (h : g ∈ l ∨ g ∈ v.1 ∨ g ∈ v.2) :
    g ∈ (l.foldl csAdmit v).1 ∨ g ∈ (l.foldl csAdmit v).2 := by
  induction l generalizing v with
  | nil => simpa using h
  | cons k l ih =>
    refine ih _ ?_
    unfold csAdmit
    dsimp only
    split <;> simp only [List.mem_cons, List.mem_append, List.not_mem_nil, or_false] at h ⊢ <;> tauto

theorem mem_csInsert (g : CsGroup) (l : List CsGroup) : g ∈ csInsert g l := by
  obtain ⟨a, b, -, hins, -⟩ := csInsert_split g l
  simp [hins]

/-- Losses leave a gap. -/
theorem csLose_isSome (now : Nat) {l : List CsGroup} (h : l ≠ []) (o : Option CsGap) : (l.foldl (csLose now) o).isSome = true := by
  induction l generalizing o with
  | nil => exact absurd rfl h
  | cons g l ih =>
    rw [List.foldl_cons]
    cases l with
    | nil => cases o <;> rfl
    | cons k l => exact ih (by simp) _

theorem csRecount_cs (a b : List CsGroup) (s : State) : (csRecount a b s).cs = s.cs := by rw [csRecount_frame]

theorem csSettle_cs (g : CsGroup) (s : State) : (csSettle g s).cs =
    { s.cs with queue := (csResettle g s).1, gap := (csResettle g s).2.foldl (csLose s.time.now) (csPast s).2,
                lost := (s.time.now, (csResettle g s).2, (csPast s).2) } := csRecount_cs _ _ _

/-- The groups of a cycle that are admitted anew stand behind what the queue keeps of it. -/
theorem csCount_csResettle (g : CsGroup) (s : State) : csCount (csResettle g s).1 ≤ max 1024 (csFill s) := by
  refine (csCount_csAdmit _ _).trans (max_le_max_left _ ?_)
  rw [csFill_eq]
  refine csCount_sublist ?_
  split
  · conv => rhs; rw [← List.take_append_drop 1 s.cs.queue]
    exact List.Sublist.append_left List.filter_sublist _
  · exact List.filter_sublist

/-- Where 1,024 records of earlier cycles wait, a group is lost. -/
theorem csResettle_full {g : CsGroup} {s : State} (hfull : 1024 < csFill s + g.payloads.length) (hold : ∀ x, x ∈ s.cs.queue → x.at0 ≠ s.time.now)
    (hlost : s.cs.lost.1 ≠ s.time.now) : csResettle g s = (s.cs.queue, [g]) := by
  have hpast : csPast s = ([], s.cs.gap) := if_neg (by simp [hlost])
  have hsame : ∀ l : List CsGroup, (∀ x ∈ l, x ∈ s.cs.queue) → l.filter (fun x => x.at0 = s.time.now) = [] ∧ l.filter (fun x => x.at0 ≠ s.time.now) = l := fun l hl =>
    ⟨by simpa using fun x hx => hold x (hl x hx), by simpa using fun x hx => hold x (hl x hx)⟩
  have hadmit : csAdmit (s.cs.queue, []) g = (s.cs.queue, [g]) := if_neg (by rw [csFill_eq] at hfull; simp; omega)
  unfold csResettle
  dsimp only
  rw [hpast]
  split
  · obtain ⟨hnow, hpre⟩ := hsame (s.cs.queue.drop 1) fun x hx => List.mem_of_mem_drop hx
    rw [hnow, hpre, List.take_append_drop]
    exact hadmit
  · obtain ⟨hnow, hpre⟩ := hsame s.cs.queue fun x hx => hx
    rw [hnow, hpre]
    exact hadmit

theorem regFld_csRecount_lost {b : List CsGroup} {s : State} : regFld (csRecount [] b s) rCS_LOST 31 0 = satAdd 32 (regFld s rCS_LOST 31 0) (csCount b) := by
  rw [csRecount, csCount_nil, if_pos (Nat.zero_le _)]
  exact regFld_countBy_same (Nat.zero_le _) (by omega) _ _

theorem csFill_csPushAt (kind lt : Nat) (ps : List (BitVec 64)) (s : State) : csFill (csPushAt kind lt ps s) ≤ max 1024 (csFill s) := by
  by_cases hroom : csFill s + ps.length ≤ 768 ∧ (s.cs.lost.1 ≠ s.time.now ∨ s.cs.lost.2.1 = [])
  · rw [csFill_csPushAt_room hroom.1 hroom.2]
    omega
  · have hsettle : csPushAt kind lt ps s = csSettle ⟨kind, lt, ps, s.time.now⟩ s := if_neg (by simpa using hroom)
    rw [hsettle, csFill_eq, csSettle_cs]
    exact csCount_csResettle _ _

/-! ### The coalescer (R550, R551) -/

/-- One occurrence is coalesced, where its source is routed. -/
def settleOne (e : EventState) (o : Occurrence) : EventState := if o.route < 8 then e else coalesce o.source o.cause o.detail (o.route - 8) o.at0 e

theorem settle_eq (e : EventState) : settle e = e.raised.foldl settleOne { e with raised := [] } := rfl

theorem coalesce_raised (src cause d ring now : Nat) (e : EventState) : (coalesce src cause d ring now e).raised = e.raised := by
  unfold coalesce
  dsimp only
  (repeat' split) <;> rfl

theorem settleOne_raised (e : EventState) (o : Occurrence) : (settleOne e o).raised = e.raised := by
  unfold settleOne
  split
  · rfl
  · exact coalesce_raised ..

theorem settle_raised (e : EventState) : (settle e).raised = [] := by
  rw [settle_eq]
  exact List.foldlRecOn e.raised settleOne (b := { e with raised := [] }) (motive := fun x => x.raised = []) rfl fun x hx o _ => (settleOne_raised x o).trans hx

/-- The occurrences that wait are coalesced one after the other. -/
theorem settle_append (e : EventState) (l : List Occurrence) (o : Occurrence) :
    settle { e with raised := l ++ [o] } = settleOne (settle { e with raised := l }) o := by
  rw [settle_eq, settle_eq, List.foldl_append]
  rfl

theorem settle_of_none {e : EventState} (h : e.raised = []) : settle e = e := by
  obtain ⟨ring, opened, suppressed, raised⟩ := e
  subst h
  rfl

theorem coalesce_opened_length (src cause d ring now : Nat) (e : EventState) :
    (coalesce src cause d ring now e).opened.length ≤ max 1024 e.opened.length := by
  unfold coalesce
  dsimp only
  split
  · simp
  · split
    · simp
      omega
    · split
      · simp
      · simp

theorem settle_opened_length (e : EventState) : (settle e).opened.length ≤ max 1024 e.opened.length := by
  rw [settle_eq]
  refine List.foldlRecOn e.raised settleOne (b := { e with raised := [] }) (motive := fun x => x.opened.length ≤ max 1024 e.opened.length) (Nat.le_max_right _ _) fun x hx o _ => ?_
  unfold settleOne
  split
  · exact hx
  · exact (coalesce_opened_length ..).trans (max_le (Nat.le_max_left _ _) hx)

/-- An occurrence waits with those of its own cycle alone. -/
theorem occur_raised (o : Occurrence) (e : EventState) : ∃ l, (occur o e).raised = l ++ [o] ∧ ∀ x, x ∈ l → x.at0 = o.at0 := by
  unfold occur
  dsimp only
  split
  · next h => exact ⟨e.raised, rfl, by simpa using h⟩
  · exact ⟨[], by rw [settle_raised], by simp⟩

theorem occur_opened_length (o : Occurrence) (e : EventState) : (occur o e).opened.length ≤ max 1024 e.opened.length := by
  unfold occur
  dsimp only
  split
  · exact Nat.le_max_right _ _
  · exact settle_opened_length e

/-- It is coalesced after all that waited before it. -/
theorem settle_occur (o : Occurrence) (e : EventState) : settle (occur o e) = settleOne (settle e) o := by
  unfold occur
  dsimp only
  split
  · exact settle_append e e.raised o
  · rw [settle_append, settle_raised]
    congr 1
    rw [← settle_raised e]
    exact settle_of_none (settle_raised e)

/-- The record of an open pair counts one more. -/
theorem mem_coalesce {src cause : Nat} {e : EventState} {o : OpenEvent} (ho : o ∈ e.opened) (hsrc : o.source = src) (hcause : o.cause = cause)
    (d ring now : Nat) : { o with count := satAdd 16 o.count 1, last := now } ∈ (coalesce src cause d ring now e).opened := by
  have hopen : e.opened.any (fun o => o.source = src && o.cause = cause) = true := List.any_eq_true.mpr ⟨o, ho, by simp [hsrc, hcause]⟩
  unfold coalesce
  dsimp only
  rw [if_pos hopen]
  exact List.mem_map.mpr ⟨o, ho, if_pos (by simp [hsrc, hcause])⟩

/-- A pair that is not open opens a record, where there is room for it. -/
theorem coalesce_opens {src cause : Nat} {e : EventState} (hnone : ∀ o, o ∈ e.opened → ¬ (o.source = src ∧ o.cause = cause)) (hroom : e.opened.length < 1024)
    (d ring now : Nat) : (coalesce src cause d ring now e).opened = e.opened ++ [⟨src, cause, 1, now, now, d, ring⟩] := by
  have hopen : ¬ e.opened.any (fun o => o.source = src && o.cause = cause) = true := by simpa using hnone
  unfold coalesce
  dsimp only
  rw [if_neg hopen, if_pos hroom]

/-! ### Events -/

/-- The group of an event's record (R453). -/
def eventGroup (src cause d : Nat) (s : State) : CsGroup := ⟨5, s.time.now, [pack64 [(9, src), (8, cause), (47, d)]], s.time.now⟩

/-- The recorder after an event. -/
def afterRecord (src cause d : Nat) (s : State) : State := csPush 5 [pack64 [(9, src), (8, cause), (47, d)]] s

theorem rROUTE_ne_rCS_LOST (n : Nat) : rROUTE n ≠ rCS_LOST := by
  unfold rROUTE rCS_LOST blkEVQ
  omega

theorem afterRecord_frame (src cause d : Nat) (s : State) : afterRecord src cause d s =
    { s with cs := (afterRecord src cause d s).cs, regs := (afterRecord src cause d s).regs, hw := (afterRecord src cause d s).hw } := csPush_frame _ _ _

theorem raiseDetailed_eq (src cause d : Nat) (s : State) : raiseDetailed src cause d s = { afterRecord src cause d s with
    ev := occur ⟨src, cause, d % 2 ^ 64, regFld s (rROUTE (src / 8)) (4 * (src % 8) + 3) (4 * (src % 8)), s.time.now⟩ s.ev } := by
  have hroute : ∀ hi lo, regFld (afterRecord src cause d s) (rROUTE (src / 8)) hi lo = regFld s (rROUTE (src / 8)) hi lo := fun hi lo =>
    congrArg (bits · hi lo) (csPushAt_regGet _ _ _ _ (rROUTE_ne_rCS_LOST _))
  rw [← hroute, show s.ev = (afterRecord src cause d s).ev by rw [afterRecord_frame], show s.time = (afterRecord src cause d s).time by rw [afterRecord_frame]]
  rfl

theorem raiseDetailed_regGet (src cause d : Nat) (s : State) {r : Nat} (hr : r ≠ rCS_LOST) : regGet (raiseDetailed src cause d s) r = regGet s r := by
  rw [raiseDetailed_eq]
  exact csPushAt_regGet _ _ _ _ hr

/-- Settles O58: the recorder's queue, the losses, and the coalescer, each by the rule of its own operation. -/
theorem eventsAreRecordedAndCoalesced : Obligations.EventsAreRecordedAndCoalesced := by
  unfold Obligations.EventsAreRecordedAndCoalesced
  refine ⟨?recorder, ?waits, ?coalescer⟩
  case recorder =>
    intro src cause d s
    rw [raiseDetailed_eq]
    refine ⟨?_, fun r hr => csPushAt_regGet _ _ _ _ hr, fun hfill hlost => ?room, fun hfill => ?limit, fun hfill hold hlost => ?lost, csFill_csPushAt _ _ _ _⟩
    · rw [afterRecord_frame]
    case room =>
      have hroom : afterRecord src cause d s = _ := csPushAt_room (ps := [_]) hfill hlost
      rw [hroom]
      exact ⟨rfl, rfl, rfl, csQueued_split (eventGroup src cause d s) s⟩
    case limit =>
      have hsettle : afterRecord src cause d s = csSettle (eventGroup src cause d s) s := csPushAt_full (by simp; omega)
      rw [hsettle]
      dsimp only
      rw [csSettle_cs]
      exact ⟨rfl, mem_csAdmit _ _ (.inl (mem_csInsert _ _)), fun h => csLose_isSome _ h _⟩
    case lost =>
      have hsettle : afterRecord src cause d s = csSettle (eventGroup src cause d s) s := csPushAt_full (by simp; omega)
      have hresettle : csResettle (eventGroup src cause d s) s = (s.cs.queue, [eventGroup src cause d s]) :=
        csResettle_full (by simp [eventGroup]; omega) hold hlost
      have hpast : (csPast s).1 = [] := by simp [csPast, hlost]
      rw [hsettle]
      refine ⟨by rw [csSettle_cs, hresettle], ?_⟩
      change regFld (csSettle (eventGroup src cause d s) s) rCS_LOST 31 0 = _
      unfold csSettle
      dsimp only
      rw [hpast, regFld_csRecount_lost, hresettle]
      exact Nat.min_comm _ _
  case waits =>
    intro src cause d s
    rw [raiseDetailed_eq]
    exact ⟨occur_raised _ _, occur_opened_length _ _, settle_occur _ _⟩
  case coalescer =>
    exact fun src cause d ring now e => ⟨coalesce_opened_length .., fun o ho hsrc hcause => mem_coalesce ho hsrc hcause d ring now,
      fun hnone hroom => coalesce_opens hnone hroom d ring now⟩

end Sys2Proof.Machine
end

section
/-!
PROOFS. Messages of the device and the requests that a mailbox takes (R517, R526 to R542).
-/
namespace Sys2Proof.Machine
open Sys2Proof Sys2Proof.Safety

/-! ### What a ring leaves of the mailboxes -/

/-- A ring of one-word slots writes the memory of BAR2 alone. -/
theorem ringWrite_frame {id : RingId} (hword : ringSlotWords id = 1) (ptr i : Nat) (ws : Rec) (s : State) :
    ringWrite id ptr i ws s = { s with mem := (ringWrite id ptr i ws s).mem } := by
  induction ws generalizing i s with
  | nil => rfl
  | cons v ws ih =>
    rw [ringWrite_cons hword, ih, memPutWord_frame]

/-- A packet that lands in a response ring changes the memory and the mailbox's pointers alone. -/
theorem ringLand_rsp (m : Nat) (ws : Rec) (s : State) : ringLand (.rsp m) ws s =
    setBox m { boxOf s m with rsp := ringOf (ringLand (.rsp m) ws s) (.rsp m) } { s with mem := (ringLand (.rsp m) ws s).mem } := by
  rw [ringLand_mem]
  unfold ringLand
  dsimp only
  rw [ringOf_setRing, ringWrite_frame (id := .rsp m) rfl]
  rfl

/-- The sequence number that a mailbox has acknowledged. -/
def ackOf (s : State) (m : Nat) : Word := (boxOf s m).ack

theorem ackOf_setBox (m j : Nat) (b : Mailbox) (s : State) (h : b.ack = ackOf s m) : ackOf (setBox m b s) j = ackOf s j := by
  by_cases hj : j = m
  · subst hj
    rw [ackOf, boxOf_setBox, h]
  · rw [ackOf, boxOf_setBox_ne _ _ _ _ hj, ackOf]

@[simp] theorem ackOf_setRing (id : RingId) (r : Ring) (s : State) (j : Nat) : ackOf (setRing id r s) j = ackOf s j := by
  cases id
  case req m => exact ackOf_setBox m j _ s rfl
  case rsp m => exact ackOf_setBox m j _ s rfl
  all_goals rfl

theorem ackOf_of_vault {s u : State} (h : vault u = vault s) (j : Nat) : ackOf u j = ackOf s j := by
  rw [ackOf, ackOf, boxOf, boxOf, box_of_vault h]

@[simp] theorem ackOf_ringSlotPut (id : RingId) (ptr w : Nat) (v : Word) (s : State) (j : Nat) : ackOf (ringSlotPut id ptr w v s) j = ackOf s j := by
  cases id
  case proof => rfl
  all_goals exact congrArg (fun b : MbxState => (tget {} b.box j).ack) (congrArg (fun u : State => u.mbx) (memPutWord_frame _ v s))

@[simp] theorem ackOf_ringWrite (id : RingId) (ptr i : Nat) (ws : Rec) (s : State) (j : Nat) : ackOf (ringWrite id ptr i ws s) j = ackOf s j := by
  induction ws generalizing i s with
  | nil => rfl
  | cons v ws ih => rw [ringWrite, ih, ackOf_ringSlotPut]

@[simp] theorem ackOf_ringLand (id : RingId) (ws : Rec) (s : State) (j : Nat) : ackOf (ringLand id ws s) j = ackOf s j := by simp [ringLand]

@[simp] theorem ackOf_ringOffer (id : RingId) (ws : Rec) (s : State) (j : Nat) : ackOf (ringOffer id ws s) j = ackOf s j := by
  unfold ringOffer
  dsimp only
  split <;> simp

@[simp] theorem ackOf_ringPush (id : RingId) (ws : Rec) (s : State) (j : Nat) : ackOf (ringPush id ws s) j = ackOf s j := by
  unfold ringPush
  dsimp only
  (repeat' split) <;> simp

@[simp] theorem ackOf_ringConsume (id : RingId) (v : Nat) (s : State) (j : Nat) : ackOf (ringConsume id v s) j = ackOf s j := by
  unfold ringConsume ringRescue
  dsimp only
  (repeat' split) <;> simp

/-- What leaves for the network moves no acknowledged number. -/
@[simp] theorem ackOf_inbandSend (m n : Nat) (s : State) (j : Nat) : ackOf (inbandSend m n s) j = ackOf s j := by
  induction n generalizing s with
  | zero => rfl
  | succ n ih =>
    unfold inbandSend
    dsimp only
    split
    · rfl
    · have hengine := requestNow_vault { requester := 3, op := .cmac, slot := regFld s (rIB_CFG m) 30 23 } s
      split
      · rfl
      · split
        · exact ackOf_of_vault hengine j
        · rw [ih, ackOf_of_vault (injectFrame_vault _ _), ackOf_ringConsume]
          exact ackOf_of_vault hengine j

@[simp] theorem ackOf_postMessage (m : Nat) (ws : Rec) (s : State) (j : Nat) : ackOf (postMessage m ws s) j = ackOf s j := by
  unfold postMessage
  split
  · rfl
  · simp [landMessage]

@[simp] theorem ackOf_answer (op : Nat) (q : Req) (final : Bool) (st : Nat) (p : Rec) (s : State) (j : Nat) :
    ackOf (answer op q final st p s) j = ackOf s j := by
  rw [ackOf, boxOf_answer]
  exact ackOf_postMessage _ _ _ _

/-- An accepted request is the last that its mailbox acknowledges. -/
theorem ackOf_acceptReq (op : Nat) (q : Req) (st : Nat) (s : State) : ackOf (acceptReq op q st s) q.mbx = q.seq := by
  unfold acceptReq
  dsimp only
  rw [ackOf_of_vault (validateEmpty_vault _), ackOf_of_vault (mbxRecord_vault ..), ackOf, boxOf_setBox]

/-! ### Requests out of sequence (R535, R536) -/

theorem signed_sub_nonpos {a b : Word} (h : (b - a).toNat < 2 ^ 31) : signed 32 (a - b).toNat ≤ 0 := by
  have hb := b.isLt
  have ha := a.isLt
  rw [BitVec.toNat_sub] at h ⊢
  unfold signed
  split <;> omega

theorem signed_of_low {n : Nat} (h : n < 2 ^ 31) : signed 32 n = n := by
  unfold signed
  rw [Nat.mod_eq_of_lt (by omega), if_pos h]

section Served
variable {op : Nat} {h : Req → State → Reply} {q : Req} {s : State} (hm : q.mbx < 8) (hserves : serves s = true) (hboot : s.sys.fw.boot = .served)
  (hdeferred : (boxOf s q.mbx).deferred = none) (hroom : 2048 ≤ ringFree s (.rsp q.mbx)) (htests : testsWait op q s = false)
include hm hserves hboot hdeferred hroom htests

/-- What a mailbox that nothing holds up answers a request (R526, R535, R536, R542). -/
theorem serve_eq (hstate : (boxOf s q.mbx).state ≠ 2) : serve op h q s =
    if (boxOf s q.mbx).state = 0 then answer op q true 10 [] s
    else if (q.verMaj, q.verMin) ≠ ((boxOf s q.mbx).verMaj, (boxOf s q.mbx).verMin) then answer op q true 9 [] s
    else if signed 32 (q.seq - (boxOf s q.mbx).ack).toNat ≤ 0 then
      count (rMBX q.mbx 0x10) 15 0 (respond q.mbx op q.seq q.verMaj q.verMin true true 12
        [word (match (boxOf s q.mbx).statuses.find? (fun e => e.1 = q.seq) with | some e => e.2 | none => 0xFFFF)] s)
    else if 1 < signed 32 (q.seq - (boxOf s q.mbx).ack).toNat then answer op q true 11 [] s
    else
      let r := if bypassLocked op s then locked (fwEvent 7 0 (acceptReq op q 0 s)) else execute op h q (acceptReq op q 0 s)
      conclude op q r.1 r.2 := by
  have htaken : ¬ (8 ≤ q.mbx || !serves s || (boxOf s q.mbx).deferred.isSome || (boxOf s q.mbx).state = 2 || ringFree s (.rsp q.mbx) < 2048
      || testsWait op q s) = true := by
    simp [hm, hserves, hdeferred, hroom, htests, hstate]
  have hshut : ¬ safelightShut s q.mbx = true := by simp [safelightShut, hboot]
  exact (if_neg htaken).trans (if_neg hshut)

end Served

/-- Settles O59: each form of a request takes its own branch of the service, and messages move no acknowledged number. -/
theorem requestsAreServedOnceAndInSequence : Obligations.RequestsAreServedOnceAndInSequence := by
  unfold Obligations.RequestsAreServedOnceAndInSequence
  refine ⟨?answers, fun op q s st p _ => ackOf_answer op q true st p s q.mbx, fun op q st s => ackOf_acceptReq op q st s⟩
  case answers =>
    intro op h q s hm hserves hboot hdeferred hroom htests
    have heq := serve_eq (h := h) hm hserves hboot hdeferred hroom htests
    refine ⟨?closed, ?version, ?repeated, ?ahead⟩
    case closed => exact fun hstate => (heq (by omega)).trans (if_pos hstate)
    case version => exact fun hstate hversion => (heq (by omega)).trans ((if_neg (by omega)).trans (if_pos hversion))
    case repeated =>
      exact fun hstate hmaj hmin hold =>
        (heq (by omega)).trans ((if_neg (by omega)).trans ((if_neg (by simp [hmaj, hmin])).trans (if_pos (signed_sub_nonpos hold))))
    case ahead =>
      intro hstate hmaj hmin hbeyond hrange
      have hd := signed_of_low hrange
      exact (heq (by omega)).trans ((if_neg (by omega)).trans ((if_neg (by simp [hmaj, hmin])).trans ((if_neg (by omega)).trans (if_pos (by omega)))))

/-! ### An answer in its ring (R517, R529) -/

theorem inbandSend_off {m : Nat} {s : State} (h : inbandOn s m = false) (n : Nat) : inbandSend m n s = s := by
  cases n with
  | zero => rfl
  | succ n =>
    unfold inbandSend
    dsimp only
    split
    · rfl
    · exact if_pos (by rw [show regBit s (rIB_CFG m) 31 = false from h]; rfl)

theorem inbandOn_ringLand (m j : Nat) (ws : Rec) (s : State) : inbandOn (ringLand (.rsp m) ws s) j = inbandOn s j := by
  rw [ringLand_rsp]
  rfl

/-- A message for a ring with room that nothing holds lands in it. -/
theorem postMessage_lands {m : Nat} {ws : Rec} {s : State} (hinband : inbandOn s m = false) (hgap : (ringOf s (.rsp m)).gap = none)
    (hmarker : ∀ c n k, (ringOf s (.rsp m)).marker = some (c, n, k) → c ≠ s.time.now) (hroom : slotsFor (.rsp m) ws ≤ ringFree s (.rsp m))
    (hwaits : ∀ w, w ∈ s.bridge.ringWaits → w.ring ≠ .rsp m) (hlocked : ringLocked s .core (.rsp m) (ringOf s (.rsp m)).prod ws.length = false) :
    postMessage m ws s = ringLand (.rsp m) ws s := by
  have hfree : ¬ (s.bridge.ringWaits.any (fun w => w.ring = .rsp m) || ringLocked s .core (.rsp m) (ringOf s (.rsp m)).prod ws.length) = true := by
    simpa [hlocked] using hwaits
  unfold postMessage
  rw [if_neg hfree, landMessage, ringPush_lands ws hgap hmarker hroom, inbandSend_off ((inbandOn_ringLand _ _ _ _).trans hinband)]

theorem boxOf_ringLand_rsp (m : Nat) (ws : Rec) (s : State) :
    boxOf (ringLand (.rsp m) ws s) m = { boxOf s m with rsp := ringOf (ringLand (.rsp m) ws s) (.rsp m) } := by
  conv => lhs; rw [ringLand_rsp, boxOf_setBox]

theorem boxOf_ringLand_rsp_ne {m j : Nat} (h : j ≠ m) (ws : Rec) (s : State) : boxOf (ringLand (.rsp m) ws s) j = boxOf s j := by
  rw [ringLand_rsp, boxOf_setBox_ne _ _ _ _ h]
  rfl

theorem ringOf_csPush (kind : Nat) (ps : List (BitVec 64)) (s : State) (id : RingId) : ringOf (csPush kind ps s) id = ringOf s id := by
  rw [csPush_frame]
  cases id <;> rfl

/-- Settles O60: the message lands in the ring, and its record follows in the Contact Sheet. -/
theorem answersEnterTheRing : Obligations.AnswersEnterTheRing := by
  unfold Obligations.AnswersEnterTheRing
  intro op q final st p s _ hinband hgap hmarker hprod hcons hfit hwaits hlocked
  have hlen : (message s 2 op q.seq (versionOf s q.mbx).1 (versionOf s q.mbx).2 final false st p).length = 4 + p.length := by
    simp [message]
    omega
  have hwords : message s 2 op q.seq (versionOf s q.mbx).1 (versionOf s q.mbx).2 final false st p = [packW [(4, 2), (12, 4 + p.length), (16, op)], q.seq,
      packW [(4, (versionOf s q.mbx).1), (4, (versionOf s q.mbx).2), (2, 0), (1, b2n final), (1, 0), (4, 0), (16, st)], word s.time.now] ++ p := rfl
  have hanswer : answer op q final st p s =
      mbxRecord q.mbx true op st q.seq (postMessage q.mbx (message s 2 op q.seq (versionOf s q.mbx).1 (versionOf s q.mbx).2 final false st p) s) := rfl
  rw [← hwords, hanswer]
  generalize message s 2 op q.seq (versionOf s q.mbx).1 (versionOf s q.mbx).2 final false st p = ws at hlen
  have hlands : postMessage q.mbx ws s = ringLand (.rsp q.mbx) ws s := by
    refine postMessage_lands hinband hgap hmarker ?_ hwaits (by rwa [hlen])
    rw [slotsFor_word rfl, ringFree]
    change ws.length ≤ 4096 - _
    omega
  rw [hlands, ← hlen]
  have hmem : (mbxRecord q.mbx true op st q.seq (ringLand (.rsp q.mbx) ws s)).mem = (ringLand (.rsp q.mbx) ws s).mem := csPush_mem _ _ _
  have hring : ringOf (mbxRecord q.mbx true op st q.seq (ringLand (.rsp q.mbx) ws s)) (.rsp q.mbx) = ringOf (ringLand (.rsp q.mbx) ws s) (.rsp q.mbx) :=
    ringOf_csPush _ _ _ _
  have hbox : ∀ j, boxOf (mbxRecord q.mbx true op st q.seq (ringLand (.rsp q.mbx) ws s)) j = boxOf (ringLand (.rsp q.mbx) ws s) j := fun j => by
    rw [boxOf, boxOf, box_of_vault (mbxRecord_vault ..)]
  refine ⟨?_, ?_, ?_, fun j hj => (hbox j).trans (boxOf_ringLand_rsp_ne hj ws s), fun hfill hlost => ?_⟩
  · rw [ringWords_of_mem hmem]
    exact ringWords_ringLand_new rfl ws s (by change _ ≤ 4096; omega)
  · rw [hring, ringLand_ends, slotsFor_word rfl, hlen, Nat.add_assoc]
    rfl
  · rw [hbox, hring, boxOf_ringLand_rsp]
  · have hcs : (ringLand (.rsp q.mbx) ws s).cs = s.cs := by rw [ringLand_rsp]; rfl
    have htime : (ringLand (.rsp q.mbx) ws s).time = s.time := by rw [ringLand_rsp]; rfl
    have hfillLand : csFill (ringLand (.rsp q.mbx) ws s) = csFill s := by rw [csFill_eq, csFill_eq, hcs]
    refine (csFill_csPushAt_room (ps := [_]) ?_ ?_).trans ?_
    · rw [hfillLand]
      exact hfill
    · rwa [hcs, htime]
    · rw [hfillLand]
      rfl

end Sys2Proof.Machine
end

section
/-!
PROOFS. What commands leave of the memory's canonical form and of the fuses (R472, R580, R616 to R620, R635).
-/
namespace Sys2Proof.Machine
open Sys2Proof Sys2Proof.Safety

/-! ### The relation that every operation keeps -/

/-- The memory, the mailboxes and the fuses. -/
abbrev Vault := List Host.Cell × Tab Mailbox × Nat × Nat × Option (Bool × Nat) × Nat

/-- A command in flight writes fuses: pair bind, commit or lifecycle (R538). -/
def fuseCmd : Option Deferred → Bool
  | some d => d.opcode = 0x0C03 || d.opcode = 0x0D04 || d.opcode = 0x0D07
  | none => false

/-- No fuse write is in flight on a mailbox. -/
def Idle (box : Tab Mailbox) : Prop := ∀ e ∈ box, fuseCmd e.2.deferred = false

/-- From one vault to another: the memory stays canonical, the floor never falls, without a fuse write in flight the fuses stand, and, where that is
asked (`quiet`), none has begun. -/
structure Kept (quiet : Bool) (v w : Vault) : Prop where
  mem : Memory.wf v.1 = true → Memory.wf w.1 = true
  floor : v.2.2.2.1 ≤ w.2.2.2.1
  fuses : Idle v.2.1 → w.2.2 = v.2.2
  idle : quiet = true → Idle v.2.1 → Idle w.2.1

theorem fuseBusy_iff (s : State) : fuseBusy s = false ↔ Idle s.mbx.box := by
  unfold fuseBusy inFlight Idle
  rw [List.any_eq_false]
  refine forall₂_congr fun e _ => ?_
  rw [Bool.not_eq_true]
  cases e.2.deferred with
  | none => rfl
  | some d => rfl

variable {quiet : Bool} {v₀ v w x : Vault} {s u : State}

@[simp] theorem Kept.refl (v : Vault) : Kept quiet v v := ⟨id, Nat.le_refl _, fun _ => rfl, fun _ => id⟩

theorem Kept.trans (h : Kept true v w) (h' : Kept quiet w x) : Kept quiet v x where
  mem := h'.mem ∘ h.mem
  floor := h.floor.trans h'.floor
  fuses hv := (h'.fuses (h.idle rfl hv)).trans (h.fuses hv)
  idle hq hv := h'.idle hq (h.idle rfl hv)

theorem Kept.weaken (h : Kept true v w) : Kept quiet v w := h.trans (Kept.refl w)

@[simp] theorem kept_ite {c : Prop} [Decidable c] : Kept quiet v (if c then w else x) ↔ (c → Kept quiet v w) ∧ (¬ c → Kept quiet v x) := by
  split <;> simp [*]

/-- A loop over operations that keep. -/
theorem foldl_kept {α : Type} (f : State → α → State) (hf : ∀ u a, Kept quiet v₀ (vault u) → Kept quiet v₀ (vault (f u a))) (l : List α)
    (h : Kept quiet v₀ (vault s)) : Kept quiet v₀ (vault (l.foldl f s)) := by
  induction l generalizing s with
  | nil => exact h
  | cons a l ih => exact ih (hf s a h)

/-! ### Memory and mailboxes -/

theorem mem_of_mem_tset {α : Type} [DecidableEq α] {d : α} {t : List (Nat × α)} {k : Nat} {a : α} {e : Nat × α} (h : e ∈ tset d t k a) : e.2 = a ∨ e ∈ t := by
  induction t with
  | nil =>
    unfold tset at h
    split at h
    · cases h
    · exact .inl (by rw [List.mem_singleton.mp h])
  | cons p t ih =>
    unfold tset at h
    have hcons : ∀ {l : List (Nat × α)}, e ∈ p :: l → (e ∈ l → e.2 = a ∨ e ∈ t) → e.2 = a ∨ e ∈ p :: t := fun hm hl =>
      (List.mem_cons.mp hm).elim (fun hp => .inr (hp ▸ List.mem_cons_self)) (fun hm => (hl hm).imp_right (List.mem_cons_of_mem p))
    split at h
    · split at h
      · exact (ih h).imp_right (List.mem_cons_of_mem p)
      · exact hcons h ih
    · split at h
      · exact (List.mem_cons.mp h).elim (fun hp => .inl (by rw [hp])) .inr
      · split at h
        · exact (List.mem_cons.mp h).elim (fun hp => .inl (by rw [hp])) (fun hm => .inr (List.mem_cons_of_mem p hm))
        · exact hcons h ih

theorem mem_of_mem_tmap {α : Type} [DecidableEq α] {d : α} {t : List (Nat × α)} {f : Nat → α → α} {e : Nat × α} (h : e ∈ tmap d t f) :
    (∃ p ∈ t, e.2 = f p.1 p.2) ∨ e ∈ t := by
  have hfold : ∀ (l r : List (Nat × α)), e ∈ l.foldl (fun r p => tset d r p.1 (f p.1 p.2)) r → (∃ p ∈ l, e.2 = f p.1 p.2) ∨ e ∈ r := by
    intro l
    induction l with
    | nil => exact fun r hr => .inr hr
    | cons p l ih =>
      intro r hr
      rcases ih _ hr with ⟨q, hq, heq⟩ | hset
      · exact .inl ⟨q, List.mem_cons_of_mem p hq, heq⟩
      · exact (mem_of_mem_tset hset).imp_left fun heq => ⟨p, List.mem_cons_self, heq⟩
  exact hfold t t h

/-- The mailbox of a number is the default, or an entry. -/
theorem tget_eq_or_mem {α : Type} (d : α) (t : List (Nat × α)) (k : Nat) : tget d t k = d ∨ ∃ e ∈ t, e.2 = tget d t k := by
  induction t with
  | nil => exact .inl rfl
  | cons p t ih =>
    unfold tget
    split
    · exact .inr ⟨p, List.mem_cons_self, rfl⟩
    · exact ih.imp_right fun ⟨e, he, h⟩ => ⟨e, List.mem_cons_of_mem p he, h⟩

theorem Idle.boxOf (h : Idle s.mbx.box) (m : Nat) : fuseCmd (boxOf s m).deferred = false := by
  rcases tget_eq_or_mem {} s.mbx.box m with hd | ⟨e, he, hd⟩
  · rw [Machine.boxOf, hd]
    rfl
  · rw [Machine.boxOf, ← hd]
    exact h e he

@[simp] theorem memSet_kept (a : Nat) (b : Byte) (s : State) (h : Kept quiet v₀ (vault s)) : Kept quiet v₀ (vault (memSet a b s)) :=
  ⟨fun hv => tabWf_tset _ _ _ _ (h.mem hv), h.floor, h.fuses, h.idle⟩

/-- A mailbox may change but for a fuse write that it did not have in flight. -/
@[simp] theorem setBox_kept (m : Nat) (b : Mailbox) (s : State) (hb : fuseCmd b.deferred = true → fuseCmd (boxOf s m).deferred = true)
    (h : Kept quiet v₀ (vault s)) : Kept quiet v₀ (vault (setBox m b s)) := by
  refine ⟨h.mem, h.floor, h.fuses, fun hq hv e he => ?_⟩
  have hidle : Idle s.mbx.box := h.idle hq hv
  rcases mem_of_mem_tset he with heq | he
  · rw [heq, ← Bool.not_eq_true]
    exact fun hbusy => absurd (hb hbusy) (by simp [hidle.boxOf m])
  · exact hidle e he

@[simp] theorem memBytes_kept (a : Nat) (b : Bytes) (s : State) (h : Kept quiet v₀ (vault s)) : Kept quiet v₀ (vault (memBytes a b s)) := by
  induction b generalizing a s with
  | nil => exact h
  | cons b r ih => exact ih _ _ (memSet_kept _ _ _ h)

@[simp] theorem atTime_vault (t : Nat) (s : State) : vault (s.atTime t) = vault s := by simp [State.atTime]

theorem Kept.loud (h : Kept quiet v w) : Kept false v w := ⟨h.mem, h.floor, h.fuses, fun hq => nomatch hq⟩

/-- Where a fuse write may begin, a mailbox may change at will. -/
theorem setBox_kept_loud (m : Nat) (b : Mailbox) (s : State) (h : Kept quiet v₀ (vault s)) : Kept false v₀ (vault (setBox m b s)) :=
  ⟨h.mem, h.floor, h.fuses, fun hq => nomatch hq⟩

/-- The state of a pair that an operation answers. -/
theorem kept_of_eq {α : Type} {p : α × State} {a : α} (hp : Kept quiet v₀ (vault p.2)) (he : p = (a, u)) : Kept quiet v₀ (vault u) := by
  rwa [he] at hp

theorem need_kept (len : Nat) (q : Req) (l : List (Nat × Bool)) (s : State) (k : Reply) (h : Kept quiet v₀ (vault s)) (hk : Kept quiet v₀ (vault k.2)) :
    Kept quiet v₀ (vault (need len q l s k).2) := by
  unfold need
  (repeat' split) <;> simp [rangeAt, refuse, h, hk]

theorem kept_if {c : Prop} [Decidable c] (hs : Kept quiet v₀ (vault s)) (hu : Kept quiet v₀ (vault u)) : Kept quiet v₀ (vault (if c then s else u)) := by
  split
  · exact hs
  · exact hu

@[simp] theorem memPutWord_kept (a : Nat) (w : Word) (s : State) (h : Kept quiet v₀ (vault s)) :
    Kept quiet v₀ (vault (memPutWord a w s)) := by
  unfold memPutWord
  simp [h]

@[simp] theorem memPutWords_kept (a : Nat) (ws : Rec) (s : State) (h : Kept quiet v₀ (vault s)) :
    Kept quiet v₀ (vault (memPutWords a ws s)) := by
  unfold memPutWords
  simp [h]

@[simp] theorem setRing_kept (id : RingId) (r : Ring) (s : State) (h : Kept quiet v₀ (vault s)) :
    Kept quiet v₀ (vault (setRing id r s)) := by
  unfold setRing
  (repeat' split) <;> simp [*]

@[simp] theorem ringSlotPut_kept (id : RingId) (ptr w : Nat) (v : Word) (s : State) (h : Kept quiet v₀ (vault s)) :
    Kept quiet v₀ (vault (ringSlotPut id ptr w v s)) := by
  cases id
  case proof => simpa [ringSlotPut] using h
  all_goals exact memPutWord_kept _ _ _ h

@[simp] theorem ringWrite_kept (id : RingId) (ptr : Nat) (n : Nat) (r : Rec) (s : State) (h : Kept quiet v₀ (vault s)) :
    Kept quiet v₀ (vault (ringWrite id ptr n r s)) := by
  induction r generalizing n s with
  | nil => exact h
  | cons v r ih => exact ih _ _ (ringSlotPut_kept _ _ _ _ _ h)

@[simp] theorem ringLand_kept (id : RingId) (ws : Rec) (s : State) (h : Kept quiet v₀ (vault s)) :
    Kept quiet v₀ (vault (ringLand id ws s)) := by
  unfold ringLand
  simp [h]

@[simp] theorem ringOffer_kept (id : RingId) (ws : Rec) (s : State) (h : Kept quiet v₀ (vault s)) :
    Kept quiet v₀ (vault (ringOffer id ws s)) := by
  unfold ringOffer
  (repeat' split) <;> simp [*]

@[simp] theorem ringPush_kept (id : RingId) (ws : Rec) (s : State) (h : Kept quiet v₀ (vault s)) :
    Kept quiet v₀ (vault (ringPush id ws s)) := by
  unfold ringPush
  dsimp only
  (repeat' split) <;> simp [h]

@[simp] theorem ringCloseGap_kept (id : RingId) (s : State) (h : Kept quiet v₀ (vault s)) :
    Kept quiet v₀ (vault (ringCloseGap id s)) := by
  unfold ringCloseGap
  dsimp only
  (repeat' split) <;> simp [h]

@[simp] theorem ringRescue_kept (id : RingId) (s : State) (h : Kept quiet v₀ (vault s)) :
    Kept quiet v₀ (vault (ringRescue id s)) := by
  unfold ringRescue
  dsimp only
  (repeat' split) <;> simp [h]

@[simp] theorem ringConsume_kept (id : RingId) (v : Nat) (s : State) (h : Kept quiet v₀ (vault s)) :
    Kept quiet v₀ (vault (ringConsume id v s)) := by
  unfold ringConsume
  dsimp only
  simp [h]

@[simp] theorem canRing_kept (b : Nat) (r : Rec) (s : State) (h : Kept quiet v₀ (vault s)) :
    Kept quiet v₀ (vault (canRing b r s)) := by
  unfold canRing
  (repeat' split) <;> simp [*]

@[simp] theorem slotEnds_kept (b i : Nat) (x : CanSlot) (status lateness stamp : Nat) (s : State) (h : Kept quiet v₀ (vault s)) :
    Kept quiet v₀ (vault (slotEnds b i x status lateness stamp s)) := by
  unfold slotEnds
  (repeat' split) <;> simp [*]

@[simp] theorem discardSlots_kept (b code : Nat) (s : State) (h : Kept quiet v₀ (vault s)) :
    Kept quiet v₀ (vault (discardSlots b code s)) := by
  refine foldl_kept _ (fun u e hu => ?_) _ h
  split <;> simp [hu]

@[simp] theorem hostCopy_kept (g : GwFrame) (authOk routed : Bool) (s : State) (h : Kept quiet v₀ (vault s)) :
    Kept quiet v₀ (vault (hostCopy g authOk routed s)) := by
  unfold hostCopy
  (repeat' split) <;> simp [*]

@[simp] theorem verdictCopy_kept (g : GwFrame) (authOk : Bool) (s : State) (h : Kept quiet v₀ (vault s)) :
    Kept quiet v₀ (vault (verdictCopy g authOk s)) := by
  unfold verdictCopy
  (repeat' split) <;> simp [*]

@[simp] theorem verified_kept (g : GwFrame) (status : Nat) (key : Bytes) (s : State) (h : Kept quiet v₀ (vault s)) :
    Kept quiet v₀ (vault (verified g status key s)) := by
  unfold verified
  (repeat' split) <;> simp [*]

@[simp] theorem gwCompleted_kept (status : Nat) (key : Bytes) (s : State) (h : Kept quiet v₀ (vault s)) :
    Kept quiet v₀ (vault (gwCompleted status key s)) := by
  unfold gwCompleted
  (repeat' split) <;> simp [*]

@[simp] theorem engine_kept (g0 : GwFrame) (s : State) (h : Kept quiet v₀ (vault s)) :
    Kept quiet v₀ (vault (engine g0 s)) := by
  have htake : ∀ n u, Kept quiet v₀ (vault u) → Kept quiet v₀ (vault (gwTake n u).2) := fun n u hu => by simp [hu]
  unfold engine
  split
  · dsimp only
    split <;> simp [h]
  · next k _ =>
    extract_lets place r g _ s1
    have hs1 : Kept quiet v₀ (vault s1) := by simp [s1, h]
    split
    · next he => simp [kept_of_eq (htake _ _ hs1) he]
    · next he =>
      have hu := kept_of_eq (htake _ _ hs1) he
      split <;> simp [hu]

@[simp] theorem bulkComplete_kept (pub : Bool) (s : State) (h : Kept quiet v₀ (vault s)) :
    Kept quiet v₀ (vault (bulkComplete pub s)) := by
  unfold bulkComplete
  dsimp only
  (repeat' split) <;> simp [h]

@[simp] theorem frameArrives_kept (g : GwFrame) (s : State) (h : Kept quiet v₀ (vault s)) :
    Kept quiet v₀ (vault (frameArrives g s)) := by
  unfold frameArrives
  (repeat' split) <;> simp [*]

@[simp] theorem canTxDone_kept (b : Nat) (s : State) (h : Kept quiet v₀ (vault s)) :
    Kept quiet v₀ (vault (canTxDone b s)) := by
  unfold canTxDone
  dsimp only
  (repeat' split) <;> simp [h]

@[simp] theorem enterBusOff_kept (b : Nat) (s : State) (h : Kept quiet v₀ (vault s)) :
    Kept quiet v₀ (vault (enterBusOff b s)) := by
  unfold enterBusOff
  simp [h]

@[simp] theorem tecUp_kept (b : Nat) (k : CanErr) (s : State) (h : Kept quiet v₀ (vault s)) :
    Kept quiet v₀ (vault (tecUp b k s)) := by
  unfold tecUp
  simp [h]

@[simp] theorem canTxFailed_kept (b : Nat) (k : CanErr) (s : State) (h : Kept quiet v₀ (vault s)) :
    Kept quiet v₀ (vault (canTxFailed b k s)) := by
  unfold canTxFailed
  dsimp only
  (repeat' split) <;> simp [h]

@[simp] theorem slotAborted_kept (b i : Nat) (s : State) (h : Kept quiet v₀ (vault s)) :
    Kept quiet v₀ (vault (slotAborted b i s)) := by
  unfold slotAborted
  (repeat' split) <;> simp [*]

@[simp] theorem slotStale_kept (b i : Nat) (s : State) (h : Kept quiet v₀ (vault s)) :
    Kept quiet v₀ (vault (slotStale b i s)) := by
  unfold slotStale
  dsimp only
  (repeat' split) <;> simp [h]

@[simp] theorem canApply_kept (b : Nat) (s : State) (h : Kept quiet v₀ (vault s)) :
    Kept quiet v₀ (vault (canApply b s)) := by
  unfold canApply
  dsimp only
  (repeat' split) <;> simp [h]

@[simp] theorem linSlotEnd_kept (b outcome : Nat) (data : Bytes) (s : State) (h : Kept quiet v₀ (vault s)) :
    Kept quiet v₀ (vault (linSlotEnd b outcome data s)) := by
  unfold linSlotEnd
  dsimp only
  (repeat' split) <;> simp [h]

@[simp] theorem discardWaiting_kept (b code : Nat) (s : State) (h : Kept quiet v₀ (vault s)) :
    Kept quiet v₀ (vault (discardWaiting b code s)) := by
  refine foldl_kept _ (fun u e hu => ?_) _ h
  (repeat' split) <;> simp [hu]

@[simp] theorem segShutdown_kept (i : Nat) (s : State) (h : Kept quiet v₀ (vault s)) :
    Kept quiet v₀ (vault (segShutdown i s)) := by
  unfold segShutdown
  dsimp only
  (repeat' split) <;> simp [h]

@[simp] theorem nmBoundary_kept (s : State) (h : Kept quiet v₀ (vault s)) :
    Kept quiet v₀ (vault (nmBoundary s)) := by
  unfold nmBoundary
  split
  · split
    · refine foldl_kept _ (fun u i hu => ?_) _ (by simp [h])
      split <;> simp [hu]
    · exact h
  · refine foldl_kept _ (fun u i hu => ?_) _ h
    dsimp only
    split <;> simp [hu]

@[simp] theorem completing_kept (k : State → State) (s : State) (hk : ∀ u, Kept quiet v₀ (vault u) → Kept quiet v₀ (vault (k u)))
    (h : Kept quiet v₀ (vault s)) : Kept quiet v₀ (vault (completing k s)) := by
  unfold completing
  dsimp only
  (repeat' split) <;> exact hk _ (by simpa using h)

@[simp] theorem shutDown_kept (i : Nat) (s : State) (h : Kept quiet v₀ (vault s)) :
    Kept quiet v₀ (vault (shutDown i s)) := by
  unfold shutDown
  dsimp only
  (repeat' split) <;> simp [h]

@[simp] theorem fusesStop_kept (s : State) (h : Kept true v₀ (vault s)) : Kept true v₀ (vault (fusesStop s)) := by
  have hidle (hv : Idle v₀.2.1) : fusesStop s = s := fusesStop_of_idle ((fuseBusy_iff s).mpr (h.idle rfl hv))
  have hmem : (fusesStop s).mem = s.mem := by rw [fusesStop_frame]
  refine ⟨fun hv => ?_, h.floor.trans ?_, fun hv => ?_, fun hq hv => ?_⟩
  · exact (congrArg (fun m => Memory.wf m = true) hmem).mpr (h.mem hv)
  · change s.sys.fw.floor ≤ (fusesStop s).sys.fw.floor
    unfold fusesStop
    dsimp only
    split
    · exact Nat.le_refl _
    · split
      · exact Nat.le_add_right _ _
      · split
        · exact Nat.le_refl _
        · split <;> exact Nat.le_refl _
  · rw [hidle hv]
    exact h.fuses hv
  · rw [hidle hv]
    exact h.idle hq hv

@[simp] theorem interrupted_kept (s : State) (h : Kept true v₀ (vault s)) : Kept true v₀ (vault (interrupted s)) := by
  simp [interrupted, h]

@[simp] theorem powerOnClear_kept (s : State) (h : Kept quiet v₀ (vault s)) : Kept false v₀ (vault (powerOnClear s)) :=
  ⟨fun _ => rfl, h.floor, h.fuses, fun hq => nomatch hq⟩

@[simp] theorem systemClear_kept (s : State) (h : Kept quiet v₀ (vault s)) : Kept false v₀ (vault (systemClear s)) :=
  ⟨fun _ => rfl, h.floor, h.fuses, fun hq => nomatch hq⟩

@[simp] theorem powerOnReset_kept (cause : Nat) (s : State) (h : Kept true v₀ (vault s)) : Kept false v₀ (vault (powerOnReset cause s)) := by
  have hclear : Kept false v₀ (vault (powerOnClear (interrupted (takesIn s)))) := powerOnClear_kept _ (interrupted_kept _ (by simpa using h))
  simp [powerOnReset, hclear]

@[simp] theorem systemReset_kept (cause : Nat) (s : State) (h : Kept true v₀ (vault s)) : Kept false v₀ (vault (systemReset cause s)) := by
  have hclear : Kept false v₀ (vault (systemClear (interrupted s))) := systemClear_kept _ (interrupted_kept _ h)
  unfold systemReset
  split
  · exact h.loud
  · simp [hclear]

@[simp] theorem vbatReset_kept (s : State) (h : Kept true v₀ (vault s)) : Kept false v₀ (vault (vbatReset s)) := by
  have hstop := fusesStop_kept s h
  exact ⟨fun _ => rfl, hstop.floor, hstop.fuses, fun hq => nomatch hq⟩

@[simp] theorem loseRetention_kept (s : State) (h : Kept quiet v₀ (vault s)) :
    Kept quiet v₀ (vault (loseRetention s)) := by
  refine ⟨h.mem, h.floor, h.fuses, fun hq hv e he => ?_⟩
  have hmem : e ∈ tmap {} s.mbx.box (fun _ b =>
    { b with state := 0, ack := 0, statuses := [], deferred := none, journalLost := true, lostTold := false, restage := [] }) := he
  rcases mem_of_mem_tmap hmem with ⟨p, _, heq⟩ | he
  · rw [heq]
    rfl
  · exact h.idle hq hv e he

@[simp] theorem writeFails_kept (o : Origin) (c : Carried) (off : Nat) (v : Word) (cause : Nat) (s : State) (h : Kept quiet v₀ (vault s)) :
    Kept quiet v₀ (vault (writeFails o c off v cause s)) := by
  unfold writeFails
  simp [h]

@[simp] theorem ringExpires_kept (w : RingWait) (s : State) (h : Kept quiet v₀ (vault s)) :
    Kept quiet v₀ (vault (ringExpires w s)) := by
  unfold ringExpires
  simp [h]

@[simp] theorem waitsExpire_kept (s : State) (h : Kept quiet v₀ (vault s)) :
    Kept quiet v₀ (vault (waitsExpire s)) := by
  unfold waitsExpire
  simp only [readsExpire_vault]
  exact foldl_kept _ (fun u w hu => ringExpires_kept w u hu) _ (by simp [h])

@[simp] theorem inbandSend_kept (m n : Nat) (s : State) (h : Kept quiet v₀ (vault s)) : Kept quiet v₀ (vault (inbandSend m n s)) := by
  induction n generalizing s with
  | zero => exact h
  | succ n ih =>
    unfold inbandSend
    dsimp only
    split
    · exact h
    · split
      · exact h
      · split
        · simp [h]
        · exact ih _ (by simp [h])

@[simp] theorem landMessage_kept (m : Nat) (ws : Rec) (s : State) (h : Kept quiet v₀ (vault s)) :
    Kept quiet v₀ (vault (landMessage m ws s)) := by
  unfold landMessage
  simp [h]

@[simp] theorem postMessage_kept (m : Nat) (ws : Rec) (s : State) (h : Kept quiet v₀ (vault s)) :
    Kept quiet v₀ (vault (postMessage m ws s)) := by
  unfold postMessage
  (repeat' split) <;> simp [*]

@[simp] theorem respond_kept (m opcode : Nat) (seq : Word) (maj min : Nat) (final replay : Bool) (status : Nat) (payload : Rec) (s : State) (h : Kept quiet v₀ (vault s)) :
    Kept quiet v₀ (vault (respond m opcode seq maj min final replay status payload s)) := by
  unfold respond
  simp [h]

@[simp] theorem answer_kept (opcode : Nat) (q : Req) (final : Bool) (status : Nat) (payload : Rec) (s : State) (h : Kept quiet v₀ (vault s)) :
    Kept quiet v₀ (vault (answer opcode q final status payload s)) := by
  unfold answer
  simp [h]

@[simp] theorem journal_kept (m : Nat) (seq : Word) (status : Nat) (s : State) (h : Kept quiet v₀ (vault s)) :
    Kept quiet v₀ (vault (journal m seq status s)) := by
  unfold journal
  (repeat' split) <;> simp [*]

@[simp] theorem acceptReq_kept (opcode : Nat) (q : Req) (status : Nat) (s : State) (h : Kept quiet v₀ (vault s)) :
    Kept quiet v₀ (vault (acceptReq opcode q status s)) := by
  unfold acceptReq
  simp [h]

@[simp] theorem conclude_kept (op : Nat) (q : Req) (a : Answer) (s : State) (h : Kept false v₀ (vault s)) :
    Kept false v₀ (vault (conclude op q a s)) := by
  cases a with
  | done st p => simp [conclude, h]
  | stage x extra => simpa [conclude] using h
  | both st p => exact answer_kept _ _ _ _ _ _ (journal_kept _ _ _ _ (answer_kept _ _ _ _ _ _ h))
  | defer progress => exact setBox_kept_loud _ _ _ (answer_kept _ _ _ _ _ _ (journal_kept _ _ _ _ h))

/-- A handler keeps the vault. -/
def Handles (f : Handler) : Prop :=
  ∀ (quiet : Bool) (v₀ : Vault) (q : Req) (s : State), Kept quiet v₀ (vault s) → Kept quiet v₀ (vault (f q s).2)

theorem handles_of_vault {f : Handler} (hf : ∀ q s, vault (f q s).2 = vault s) : Handles f := fun _ _ q s h => by rwa [hf]

theorem execute_kept {f : Handler} (hf : Handles f) (op : Nat) (q : Req) (s : State) (h : Kept false v₀ (vault s)) :
    Kept false v₀ (vault (execute op f q s).2) := by
  unfold execute
  dsimp only
  split
  · exact h
  · (repeat' split)
    all_goals first | exact hf _ _ _ _ (by simpa using h) | simp [h, locked, busy, rangeAt, refuse]

@[simp] theorem serve_kept {f : Handler} (hf : Handles f) (op : Nat) (q : Req) (s : State) (h : Kept false v₀ (vault s)) :
    Kept false v₀ (vault (serve op f q s)) := by
  have haccept : Kept false v₀ (vault (acceptReq op q 0 s)) := acceptReq_kept _ _ _ _ h
  unfold serve
  dsimp only
  split
  · exact h
  · split
    · exact h
    · split
      · simp [h]
      · split
        · simp [h]
        · split
          · simp [h]
          · split
            · simp [h]
            · refine conclude_kept _ _ _ _ ?_
              split
              · simp [locked, haccept]
              · exact execute_kept hf _ _ _ haccept

@[simp] theorem finishDeferred_kept (m status : Nat) (payload : Rec) (s : State) (h : Kept quiet v₀ (vault s)) :
    Kept quiet v₀ (vault (finishDeferred m status payload s)) := by
  unfold finishDeferred
  dsimp only
  split
  · exact h
  · exact respond_kept _ _ _ _ _ _ _ _ _ _ (journal_kept _ _ _ _ (setBox_kept _ _ _ (fun hb => nomatch hb) h))

@[simp] theorem helloServe_kept (q : Req) (s : State) (h : Kept quiet v₀ (vault s)) :
    Kept quiet v₀ (vault (helloServe q s)) := by
  unfold helloServe
  (repeat' split) <;> simp [*]

@[simp] theorem postNotice_kept (s : State) (h : Kept quiet v₀ (vault s)) :
    Kept quiet v₀ (vault (postNotice s)) := by
  unfold postNotice
  dsimp only
  split
  · exact h
  · split
    · exact h
    · exact postMessage_kept _ _ _ (setBox_kept _ _ _ id (by simpa using h))

@[simp] theorem armSets_kept (l : List Staged) (s : State) (h : Kept quiet v₀ (vault s)) :
    Kept quiet v₀ (vault (armSets l s)) := by
  unfold armSets
  split
  · exact h
  · refine foldl_kept _ (fun u x hu => ?_) _ (by simp [h])
    split <;> simp [hu]

@[simp] theorem armStaged_kept (n : Nat) (s : State) (h : Kept quiet v₀ (vault s)) :
    Kept quiet v₀ (vault (armStaged n s)) := by
  unfold armStaged
  simp [h]

@[simp] theorem controlStops_kept (mute : Bool) (s : State) (h : Kept quiet v₀ (vault s)) :
    Kept quiet v₀ (vault (controlStops mute s)) := by
  refine ⟨h.mem, h.floor, h.fuses, fun hq hv e he => ?_⟩
  have hmem : e ∈ tmap {} s.mbx.box (fun m b => { b with restage := (b.restage ++ unarmed s m).map (fun x => { x with mute := x.mute || mute }) }) := he
  rcases mem_of_mem_tmap hmem with ⟨p, hp, heq⟩ | he
  · rw [heq]
    exact h.idle hq hv p hp
  · exact h.idle hq hv e he

@[simp] theorem controlStarts_kept (s : State) (h : Kept quiet v₀ (vault s)) : Kept quiet v₀ (vault (controlStarts s)) := by
  have hb : Kept quiet v₀ (vault (runBmcaAll s)) := by simpa using h
  refine ⟨hb.mem, hb.floor, hb.fuses, fun hq hv e he => ?_⟩
  have hmem : e ∈ tmap {} (runBmcaAll s).mbx.box (fun _ b => { b with restage := [] }) := he
  rcases mem_of_mem_tmap hmem with ⟨p, hp, heq⟩ | he
  · rw [heq]
    exact hb.idle hq hv p hp
  · exact hb.idle hq hv e he

@[simp] theorem stopsServing_kept (o : Nat) (s : State) (h : Kept quiet v₀ (vault s)) :
    Kept quiet v₀ (vault (stopsServing o s)) := by
  unfold stopsServing
  dsimp only
  (repeat' split) <;> simp [h]

@[simp] theorem dropObj_kept (o : Nat) (s : State) (h : Kept quiet v₀ (vault s)) :
    Kept quiet v₀ (vault (dropObj o s)) := by
  unfold dropObj
  simp [h]

@[simp] theorem dropGroup_kept (s : State) (h : Kept quiet v₀ (vault s)) :
    Kept quiet v₀ (vault (dropGroup s)) := by
  refine foldl_kept _ (fun u o hu => dropObj_kept o u hu) _ (by simp [h])

@[simp] theorem relinquish_kept (o : Nat) (s : State) (h : Kept quiet v₀ (vault s)) :
    Kept quiet v₀ (vault (relinquish o s)) := by
  unfold relinquish
  (repeat' split) <;> simp [*]

@[simp] theorem dualEnds_kept (o : Nat) (s : State) (h : Kept quiet v₀ (vault s)) :
    Kept quiet v₀ (vault (dualEnds o s)) := by
  unfold dualEnds
  (repeat' split) <;> simp [*]

@[simp] theorem pairAccept_kept (m : Rec) (s : State) (h : Kept quiet v₀ (vault s)) :
    Kept quiet v₀ (vault (pairAccept m s)) := by
  unfold pairAccept
  extract_lets was _ s1 s2 s3
  have h1 : Kept quiet v₀ (vault s1) := by
    rw [show vault s1 = vault s from setPair_vault _ _ rfl rfl]
    exact h
  have h2 : Kept quiet v₀ (vault s2) := by
    unfold s2
    split <;> simp [h1]
  have h3 : Kept quiet v₀ (vault s3) := foldl_kept _ (fun u o hu => by split <;> simp [hu]) _ h2
  exact foldl_kept _ (fun u o hu => dualEnds_kept o u hu) _ h3

@[simp] theorem pairRx_kept (type : Nat) (m : Rec) (act : State → State) (s : State) (hact : ∀ u, Kept quiet v₀ (vault u) → Kept quiet v₀ (vault (act u)))
    (h : Kept quiet v₀ (vault s)) : Kept quiet v₀ (vault (pairRx type m act s)) := by
  unfold pairRx
  (repeat' split)
  · exact h
  · simp [h]
  · exact hact _ (by simp [h])
  · exact hact _ (by simp [h])

@[simp] theorem tokenRx_kept (m : Rec) (s : State) (h : Kept quiet v₀ (vault s)) :
    Kept quiet v₀ (vault (tokenRx m s)) := by
  unfold tokenRx
  simp [h]

@[simp] theorem ackRx_kept (m : Rec) (s : State) (h : Kept quiet v₀ (vault s)) :
    Kept quiet v₀ (vault (ackRx m s)) := by
  refine pairRx_kept _ _ _ _ (fun u hu => ?_) h
  extract_lets n s1 _
  have h1 : Kept quiet v₀ (vault s1) := by
    unfold s1
    split
    · exact hu
    · refine foldl_kept _ (fun u o hu => ?_) _ hu
      dsimp only
      split <;> simp [hu]
  clear_value s1
  rw [giveWay_vault]
  exact (congrArg (Kept quiet v₀) (setPair_vault _ s1 rfl rfl)).mpr h1

@[simp] theorem partRx_kept (m : Rec) (s : State) (h : Kept quiet v₀ (vault s)) :
    Kept quiet v₀ (vault (partRx m s)) := by
  unfold partRx
  simp [h]

@[simp] theorem ckptAckRx_kept (m : Rec) (s : State) (h : Kept quiet v₀ (vault s)) :
    Kept quiet v₀ (vault (ckptAckRx m s)) := by
  unfold ckptAckRx
  simp [h]

@[simp] theorem releaseRx_kept (m : Rec) (s : State) (h : Kept quiet v₀ (vault s)) :
    Kept quiet v₀ (vault (releaseRx m s)) := by
  unfold releaseRx
  (repeat' split) <;> simp [*]

@[simp] theorem partnerMapRx_kept (m : Rec) (s : State) (h : Kept quiet v₀ (vault s)) :
    Kept quiet v₀ (vault (partnerMapRx m s)) := by
  unfold partnerMapRx
  simp [h]

@[simp] theorem leaseEnds_kept (o : Nat) (s : State) (h : Kept quiet v₀ (vault s)) :
    Kept quiet v₀ (vault (leaseEnds o s)) := by
  unfold leaseEnds
  dsimp only
  (repeat' split) <;> simp [h]

@[simp] theorem pairBoundary_kept (s : State) (h : Kept quiet v₀ (vault s)) :
    Kept quiet v₀ (vault (pairBoundary s)) := by
  unfold pairBoundary
  dsimp only
  split
  · simp [h]
  · refine foldl_kept _ (fun u o hu => by simp [hu]) _ ?_
    simp only [sendCheckpoint_vault]
    exact foldl_kept _ (fun u o hu => relinquish_kept o u hu) _ (by simp [h])

@[simp] theorem pairEnable_kept (en : Bool) (s : State) (h : Kept quiet v₀ (vault s)) :
    Kept quiet v₀ (vault (pairEnable en s)) := by
  have hdrop : Kept quiet v₀ (vault ((List.range 40).foldl (fun s o => dropObj o s) (dropGroup s))) :=
    foldl_kept _ (fun u o hu => dropObj_kept o u hu) _ (dropGroup_kept s h)
  unfold pairEnable
  split
  · exact foldl_kept _ (fun u o hu => stopsServing_kept o u hu) _ (by simp [h])
  · split
    · refine foldl_kept _ (fun u o hu => by simp [hu]) _ ?_
      simp [hdrop]
    · exact h

@[simp] theorem runLate_kept (e : Late) (s : State) (h : Kept quiet v₀ (vault s)) : Kept quiet v₀ (vault (runLate e s)) := by
  cases e <;> simp [runLate, h]

@[simp] theorem lateUntil_kept (t n : Nat) (s : State) (h : Kept quiet v₀ (vault s)) : Kept quiet v₀ (vault (lateUntil t n s)) := by
  induction n generalizing s with
  | zero => exact h
  | succ n ih =>
    unfold lateUntil
    split
    · exact h
    · next d e r _ =>
      have hrest : Kept quiet v₀ (vault ({ s with late := r }.atTime d)) := by
        rw [atTime_vault]
        exact h
      split
      · refine ih _ ?_
        split
        · exact runLate_kept _ _ hrest
        · exact hrest
      · exact h

@[simp] theorem passTo_kept (t : Nat) (s : State) (h : Kept quiet v₀ (vault s)) :
    Kept quiet v₀ (vault (passTo t s)) := by
  unfold passTo
  simp [h]

theorem actAlways_kept {f : State → State} (hf : ∀ e, Kept true (vault s) (vault e) → Kept false (vault s) (vault (f e))) {t : Nat}
    (he : actAlways t f s = .next u) : Kept false (vault s) (vault u) := by
  cases he
  exact hf _ (passTo_kept t { s with pending := [] } (Kept.refl (vault s)))

theorem act_kept {f : State → State} (hf : ∀ e, Kept true (vault s) (vault e) → Kept false (vault s) (vault (f e))) {t : Nat}
    (he : act t f s = .next u) : Kept false (vault s) (vault u) := by
  refine actAlways_kept (fun e h => ?_) he
  split
  · exact hf e h
  · exact h.loud

theorem request_kept {f : Handler} (hf : Handles f) {t op : Nat} {q : Req} (he : request t op f q s = .next u) : Kept false (vault s) (vault u) :=
  act_kept (fun e h => serve_kept hf op q e h.loud) he

@[simp] theorem testAnswers_kept (unit : Nat) (s : State) (h : Kept quiet v₀ (vault s)) :
    Kept quiet v₀ (vault (testAnswers unit s)) := by
  unfold testAnswers
  extract_lets c u ended failed
  split
  · exact h
  · refine foldl_kept _ (fun u m hu => ?_) _ h
    (repeat' split) <;> simp [hu]

theorem handles_gwControllerPut : Handles gwControllerPut := fun _ _ q s h => need_kept _ _ _ _ _ h (by
  dsimp only
  split <;> simp [h])

@[simp] theorem operate_kept (m : Nat) (op : BulkOp) (q : Req) (p2 : Session) (old : Nat) (final : Bool) (s : State) (h : Kept quiet v₀ (vault s)) :
    Kept quiet v₀ (vault (operate m op q p2 old final s).2) := by
  unfold operate
  dsimp only
  (repeat' split) <;> simp [okWith, keyRefused, h]

theorem handles_cryptOperate : Handles cryptOperate := fun _ _ q s h => by
  unfold cryptOperate
  extract_lets part final ext slot region
  split
  · exact h
  · extract_lets
    refine need_kept _ _ _ _ _ h ?_
    split
    · exact h
    · split
      · simpa [busy] using h
      · split
        · simp only [keyRefused, keyFailed_vault]
          split <;> simp [h]
        · exact operate_kept _ _ _ _ _ _ _ h

theorem handles_pairConf : Handles pairConf := fun _ _ q s h => need_kept _ _ _ _ _ h (by
  split
  · simpa [conflictAt, refuse] using h
  · exact pairEnable_kept _ _ (by simpa using h))

theorem handles_pairRel : Handles pairRel := fun _ _ q s h => need_kept _ _ _ _ _ h (by
  split
  · exact h
  · next o _ =>
    have hl := leaseEnds_kept o s h
    dsimp only
    split
    · simpa [conflictAt, refuse] using hl
    · simpa [ok] using hl)

@[simp] theorem cableDone_kept (n result distance : Nat) (s : State) (h : Kept quiet v₀ (vault s)) :
    Kept quiet v₀ (vault (cableDone n result distance s)) := by
  unfold cableDone
  dsimp only
  (repeat' split) <;> simp [h]

theorem handles_of_handlerSys {op : Nat} {f : Handler} (h : handlerSys op = some f) : Handles f := by
  unfold handlerSys at h
  split at h <;> cases h <;> exact handles_of_vault fun q s => by simp

theorem handles_of_handlerTime {op : Nat} {f : Handler} (h : handlerTime op = some f) : Handles f := by
  unfold handlerTime at h
  split at h <;> cases h <;> exact handles_of_vault fun q s => by simp

theorem handles_of_handlerSched {op : Nat} {f : Handler} (h : handlerSched op = some f) : Handles f := by
  unfold handlerSched at h
  split at h <;> cases h <;> exact handles_of_vault fun q s => by simp

theorem handles_of_handlerStream {op : Nat} {f : Handler} (h : handlerStream op = some f) : Handles f := by
  unfold handlerStream at h
  split at h <;> cases h <;> exact handles_of_vault fun q s => by simp

theorem handles_of_handlerFilt {op : Nat} {f : Handler} (h : handlerFilt op = some f) : Handles f := by
  unfold handlerFilt at h
  split at h <;> cases h <;> exact handles_of_vault fun q s => by simp

theorem handles_of_handlerGw {op : Nat} {f : Handler} (h : handlerGw op = some f) : Handles f := by
  unfold handlerGw at h
  split at h
  case h_1 =>
    cases h
    exact handles_gwControllerPut
  all_goals cases h
  all_goals exact handles_of_vault fun q s => by simp

theorem handles_of_handlerNm {op : Nat} {f : Handler} (h : handlerNm op = some f) : Handles f := by
  unfold handlerNm at h
  split at h <;> cases h <;> exact handles_of_vault fun q s => by simp

theorem handles_of_handlerCipher {op : Nat} {f : Handler} (h : handlerCipher op = some f) : Handles f := by
  unfold handlerCipher at h
  split at h
  case h_13 =>
    cases h
    exact handles_cryptOperate
  all_goals cases h
  all_goals exact handles_of_vault fun q s => by simp

theorem handles_of_handlerDark {op : Nat} {f : Handler} (h : handlerDark op = some f) : Handles f := by
  unfold handlerDark at h
  split at h
  case h_12 =>
    cases h
    exact handles_pairConf
  case h_16 =>
    cases h
    exact handles_pairRel
  all_goals cases h
  all_goals exact handles_of_vault fun q s => by simp

theorem handles_of_settingHandler {op : Nat} {f : Handler} (h : settingHandler op = some f) : Handles f := by
  unfold settingHandler at h
  split at h
  · cases h
  · split at h
    · exact handles_of_handlerSys h
    · exact handles_of_handlerTime h
    · exact handles_of_handlerSched h
    · exact handles_of_handlerStream h
    · exact handles_of_handlerFilt h
    · exact handles_of_handlerGw h
    · exact handles_of_handlerNm h
    · exact handles_of_handlerCipher h
    · exact handles_of_handlerCipher h
    · cases h

theorem applyMessage_kept {m : Rec} (h : Kept quiet v₀ (vault s)) (he : applyMessage m s = some u) : Kept quiet v₀ (vault u) := by
  unfold applyMessage at he
  split at he
  · cases he
  · next f hf =>
    have hr := handles_of_settingHandler hf quiet v₀ (messageReq m) s h
    dsimp only at he
    split at he
    · cases he
      exact hr
    · cases he
      simpa using hr
    · cases he
      simpa using hr
    · cases he

theorem applyMessages_kept (i : Nat) (l : List Rec) (s : State) (h : Kept quiet v₀ (vault s)) : Kept quiet v₀ (vault (applyMessages i l s).2) := by
  induction l generalizing i s with
  | nil => exact h
  | cons m r ih =>
    unfold applyMessages
    split
    · next hm => exact ih _ _ (applyMessage_kept h hm)
    · exact h

/-- A family of operations keeps the vault. -/
def KeepsAll (f : Nat → State → State) : Prop :=
  ∀ (quiet : Bool) (v₀ : Vault) (n : Nat) (s : State), Kept quiet v₀ (vault s) → Kept quiet v₀ (vault (f n s))

/- The body stands in place of the operation's name before it meets an argument: the kernel would evaluate the flash to compare the two otherwise. -/
theorem keepsAll_applyCopy : KeepsAll applyCopy := by
  delta applyCopy
  refine id ?_
  intro quiet v₀ c s h
  beta_reduce
  extract_lets s0
  have hs : Kept quiet v₀ (vault s0) := by simpa [s0] using h
  have hm := applyMessages_kept 0 (copyMessages s c) _ hs
  clear_value s0
  split
  · next he => simpa using kept_of_eq hm he
  · simpa using hs

@[simp] theorem applyCopy_kept (c : Nat) (s : State) (h : Kept quiet v₀ (vault s)) : Kept quiet v₀ (vault (applyCopy c s)) :=
  keepsAll_applyCopy quiet v₀ c s h

@[simp] theorem startSettings_kept (s : State) (h : Kept quiet v₀ (vault s)) :
    Kept quiet v₀ (vault (startSettings s)) := by
  unfold startSettings
  (repeat' split) <;> simp [*]

theorem handles_fwSettingsPut : Handles fwSettingsPut := fun _ _ q s h => by
  unfold fwSettingsPut
  (repeat' split) <;> simpa [rangeAt, refuse, busy] using h

theorem handles_fwSettingsGet : Handles fwSettingsGet := fun _ _ _ _ h => need_kept _ _ _ _ _ h (memBytes_kept _ _ _ h)

@[simp] theorem flashWritten_kept (good : Bool) (s : State) (h : Kept quiet v₀ (vault s)) :
    Kept quiet v₀ (vault (flashWritten good s)) := by
  unfold flashWritten
  (repeat' split) <;> simp [*]

theorem lifecycleTo_mem (new : Nat) (s : State) : (lifecycleTo new s).mem = s.mem := by
  unfold lifecycleTo
  dsimp only
  rw [mem_of_vault (fwEvent12_vault _ _ _)]
  split
  · rw [mem_of_vault (darkKeys_vault _)]
    rfl
  · rw [mem_of_vault (eraseKeys_vault _), mem_of_vault (flashErase_vault _ _ _)]
    rfl
  · rfl

/-- A fuse write that completes keeps the memory canonical. -/
theorem fusesWritten_mem (good : Bool) (s : State) (h : Memory.wf s.mem = true) : Memory.wf (fusesWritten good s).mem = true := by
  have hfinish : ∀ (m st : Nat) (p : Rec) (u : State), u.mem = s.mem → Memory.wf (finishDeferred m st p u).mem = true := fun m st p u hu =>
    (finishDeferred_kept (quiet := true) m st p u (Kept.refl _)).mem (by rwa [← hu] at h)
  unfold fusesWritten
  split
  · exact h
  · split
    · exact hfinish _ _ _ _ rfl
    · split
      · exact hfinish _ _ _ _ rfl
      · split
        · refine hfinish _ _ _ _ ?_
          rw [mem_of_vault (fwEvent12_vault _ _ _)]
          rfl
        · exact hfinish _ _ _ _ (lifecycleTo_mem _ _)

@[simp] theorem enterSafelight_kept (cause : Nat) (s : State) (h : Kept quiet v₀ (vault s)) :
    Kept quiet v₀ (vault (enterSafelight cause s)) := by
  unfold enterSafelight
  rw [fwEvent12_vault]
  exact ⟨h.mem, h.floor, h.fuses, fun _ _ e he => nomatch he⟩

@[simp] theorem bootVerify_kept (answers bodyOk : Bool) (s0 : State) (h : Kept quiet v₀ (vault s0)) :
    Kept quiet v₀ (vault (bootVerify answers bodyOk s0)) := by
  unfold bootVerify
  (repeat' split) <;> simp [*]

@[simp] theorem tellLost_kept (s : State) (h : Kept quiet v₀ (vault s)) :
    Kept quiet v₀ (vault (tellLost s)) := by
  refine foldl_kept _ (fun u m hu => ?_) _ h
  dsimp only
  split <;> simp [hu]

@[simp] theorem restoreJournals_kept (s : State) (h : Kept false v₀ (vault s)) : Kept false v₀ (vault (restoreJournals s)) := by
  unfold restoreJournals
  split
  · exact h
  · exact ⟨h.mem, h.floor, h.fuses, fun hq => nomatch hq⟩

@[simp] theorem resumeDeferred_kept (s : State) (h : Kept false v₀ (vault s)) : Kept false v₀ (vault (resumeDeferred s)) := by
  refine foldl_kept _ (fun u m hu => ?_) _ h
  split
  · exact hu
  · split
    · simp [hu]
    · split
      · split
        · rw [setFw_vault _ _ rfl rfl]
          exact setBox_kept_loud _ _ _ hu
        · simp [hu]
      · split <;> simp [hu]

@[simp] theorem beginService_kept (s : State) (h : Kept false v₀ (vault s)) : Kept false v₀ (vault (beginService s)) := by
  unfold beginService
  rw [windowsStart_vault]
  refine resumeDeferred_kept _ (tellLost_kept _ (controlStarts_kept _ (restoreJournals_kept _ ?_)))
  rw [setFw_vault _ _ rfl rfl]
  exact h

@[simp] theorem startDone_kept (s : State) (h : Kept false v₀ (vault s)) :
    Kept false v₀ (vault (startDone s)) := by
  unfold startDone
  (repeat' split) <;> simp [*]

@[simp] theorem resumeKernel_kept (good : Bool) (s0 : State) (h : Kept false v₀ (vault s0)) :
    Kept false v₀ (vault (resumeKernel good s0)) := by
  unfold resumeKernel
  (repeat' split) <;> simp [*]

@[simp] theorem imageChecked_kept (good : Bool) (s : State) (h : Kept true v₀ (vault s)) :
    Kept false v₀ (vault (imageChecked good s)) := by
  have hl := h.loud
  unfold imageChecked
  (repeat' split) <;> simp [*]

@[simp] theorem beginPause_kept (s : State) (h : Kept quiet v₀ (vault s)) :
    Kept quiet v₀ (vault (beginPause s)) := by
  unfold beginPause
  (repeat' split) <;> simp [*]

@[simp] theorem closeOld_kept (s : State) (h : Kept quiet v₀ (vault s)) :
    Kept quiet v₀ (vault (closeOld s)) := by
  refine foldl_kept _ (fun u m hu => ?_) _ h
  dsimp only
  split <;> simp [hu]

@[simp] theorem bodyLoaded_kept (matched : Bool) (s : State) (h : Kept true v₀ (vault s)) : Kept false v₀ (vault (bodyLoaded matched s)) := by
  have hl := h.loud
  unfold bodyLoaded
  split
  · exact hl
  · split
    · exact hl
    · split
      · exact systemReset_kept _ _ h
      · extract_lets s1 c s2 s3
        have h1 : Kept false v₀ (vault s1) := closeOld_kept _ (controlStarts_kept _ (by simpa using hl))
        have h2 : Kept false v₀ (vault s2) := by
          clear_value s1
          simpa [s2] using h1
        have h3 : Kept false v₀ (vault s3) := by
          rw [show vault s3 = _ from fwEvent12_vault _ _ _]
          exact finishDeferred_kept _ _ _ _ h2
        clear_value s3 s2 c
        split
        · rwa [settingsEstablished_vault]
        · rwa [fwEvent12_vault]

@[simp] theorem resealDone_kept (s : State) (h : Kept quiet v₀ (vault s)) :
    Kept quiet v₀ (vault (resealDone s)) := by
  unfold resealDone
  dsimp only
  (repeat' split) <;> simp [h]

@[simp] theorem railsRise_kept (s : State) (h : Kept true v₀ (vault s)) :
    Kept false v₀ (vault (railsRise s)) := by
  have hl := h.loud
  unfold railsRise
  (repeat' split) <;> simp [*]

@[simp] theorem brownOut_kept (mv us : Nat) (s : State) (h : Kept true v₀ (vault s)) :
    Kept false v₀ (vault (brownOut mv us s)) := by
  have hl := h.loud
  unfold brownOut
  (repeat' split) <;> simp [*]

@[simp] theorem railOff_kept (s : State) (h : Kept true v₀ (vault s)) :
    Kept false v₀ (vault (railOff s)) := by
  have hl := h.loud
  unfold railOff
  (repeat' split) <;> simp [*]

@[simp] theorem retentionLow_kept (s : State) (h : Kept quiet v₀ (vault s)) :
    Kept quiet v₀ (vault (retentionLow s)) := by
  unfold retentionLow
  simp [h]

@[simp] theorem powerOn_kept (cause : Nat) (s : State) (h : Kept true v₀ (vault s)) :
    Kept false v₀ (vault (powerOn cause s)) := by
  have hl := h.loud
  unfold powerOn
  (repeat' split) <;> simp [*]

@[simp] theorem resetBy_kept (cause : Nat) (s : State) (h : Kept true v₀ (vault s)) :
    Kept false v₀ (vault (resetBy cause s)) := by
  have hl := h.loud
  unfold resetBy
  (repeat' split) <;> simp [*]

@[simp] theorem controlReset_kept (s : State) (h : Kept quiet v₀ (vault s)) :
    Kept quiet v₀ (vault (controlReset s)) := by
  have hs : Kept quiet v₀ (vault (count rRST_STAT 7 0 (resetStat 4 9 (controlStops true s)))) := by simp [h]
  refine ⟨fun hv => tabWf_filter _ _ _ (hs.mem hv), hs.floor, hs.fuses, fun hq hv e he => ?_⟩
  have hmem : e ∈ tmap {} (count rRST_STAT 7 0 (resetStat 4 9 (controlStops true s))).mbx.box
    (fun _ b => { b with req := {}, rsp := {}, noticeSeq := 0, state := if b.state = 2 then 1 else b.state }) := he
  rcases mem_of_mem_tmap hmem with ⟨p, hp, heq⟩ | he
  · rw [heq]
    exact hs.idle hq hv p hp
  · exact hs.idle hq hv e he

@[simp] theorem reloaded_kept (s : State) (h : Kept quiet v₀ (vault s)) :
    Kept quiet v₀ (vault (reloaded s)) := by
  unfold reloaded
  (repeat' split) <;> simp [*]

@[simp] theorem takeover_kept (cause : Nat) (s : State) (h : Kept true v₀ (vault s)) :
    Kept false v₀ (vault (takeover cause s)) := by
  have hl := h.loud
  unfold takeover
  (repeat' split) <;> simp [*]

@[simp] theorem watchdogExpires_kept (s : State) (h : Kept true v₀ (vault s)) :
    Kept false v₀ (vault (watchdogExpires s)) := by
  have hl := h.loud
  unfold watchdogExpires
  (repeat' split) <;> simp [*]

@[simp] theorem takenOver_kept (s : State) (h : Kept quiet v₀ (vault s)) :
    Kept quiet v₀ (vault (takenOver s)) := by
  unfold takenOver
  (repeat' split) <;> simp [*]

@[simp] theorem clockFails_kept (s : State) (h : Kept true v₀ (vault s)) :
    Kept false v₀ (vault (clockFails s)) := by
  have hl := h.loud
  unfold clockFails
  (repeat' split) <;> simp [*]

@[simp] theorem coalescerOut_kept (s0 : State) (h : Kept quiet v₀ (vault s0)) :
    Kept quiet v₀ (vault (coalescerOut s0)) := by
  unfold coalescerOut
  extract_lets s1 s2
  have h1 : Kept quiet v₀ (vault s1) := by
    unfold s1
    split <;> simp [h]
  have h2 : Kept quiet v₀ (vault s2) := by
    refine foldl_kept _ (fun u e hu => ?_) _ h1
    simp only [countBy_vault]
    exact foldl_kept _ (fun u o hu => ringPush_kept _ _ u hu) _ hu
  simp [h2]

@[simp] theorem armAgain_kept (s : State) (h : Kept quiet v₀ (vault s)) :
    Kept quiet v₀ (vault (armAgain s)) := by
  unfold armAgain
  (repeat' split) <;> simp [*]

@[simp] theorem boundary_kept (b : Int) (s : State) (h : Kept quiet v₀ (vault s)) :
    Kept quiet v₀ (vault (boundary b s)) := by
  unfold boundary
  extract_lets s1 s2 s3 s4 _ s5
  have h1 : Kept quiet v₀ (vault s1) := by simp [s1, h]
  have h2 : Kept quiet v₀ (vault s2) := by simpa [s2] using h1
  have h3 : Kept quiet v₀ (vault s3) := by
    unfold s3
    split <;> simp [h2]
  have h4 : Kept quiet v₀ (vault s4) := by simpa [s4] using h3
  have h5 : Kept quiet v₀ (vault s5) := pairBoundary_kept _ (nmBoundary_kept _ h4)
  clear_value s5
  simp only [entryShutDown_vault, startList_vault]
  exact beginPause_kept _ (armAgain_kept _ h5)

@[simp] theorem beatBoundary_kept (s0 : State) (h : Kept quiet v₀ (vault s0)) :
    Kept quiet v₀ (vault (beatBoundary s0)) := by
  unfold beatBoundary
  simp [h]

@[simp] theorem boundaryFirst_kept (s : State) (h : Kept quiet v₀ (vault s)) :
    Kept quiet v₀ (vault (boundaryFirst s)) := by
  unfold boundaryFirst
  (repeat' split) <;> simp [*]

@[simp] theorem exportRing_kept (s : State) (h : Kept quiet v₀ (vault s)) :
    Kept quiet v₀ (vault (exportRing s)) := by
  unfold exportRing
  dsimp only
  (repeat' split) <;> simp [h]

@[simp] theorem controlLost_kept (off : Nat) (x : EccTarget) (s : State) (h : Kept true v₀ (vault s)) :
    Kept false v₀ (vault (controlLost off x s)) := by
  have hl := h.loud
  unfold controlLost
  (repeat' split) <;> simp [*]

@[simp] theorem retentionLost_kept (x : EccTarget) (s : State) (h : Kept quiet v₀ (vault s)) :
    Kept quiet v₀ (vault (retentionLost x s)) := by
  unfold retentionLost
  split
  · dsimp only
    split
    · simpa using h
    · rw [systemEventD_vault]
      exact setBox_kept _ _ _ (fun hb => nomatch hb) h
  all_goals simp [h]

@[simp] theorem uncorrectable_kept (region off : Nat) (x : EccTarget) (s : State) (h : Kept true v₀ (vault s)) :
    Kept false v₀ (vault (uncorrectable region off x s)) := by
  have hl := h.loud
  unfold uncorrectable
  (repeat' split) <;> simp [*]

@[simp] theorem eccFound_kept (region off : Nat) (bad : Bool) (x : EccTarget) (s : State) (h : Kept true v₀ (vault s)) :
    Kept false v₀ (vault (eccFound region off bad x s)) := by
  have hl := h.loud
  unfold eccFound
  (repeat' split) <;> simp [*]

@[simp] theorem tapTakes_kept (i : JtagInstr) (s : State) (h : Kept true v₀ (vault s)) :
    Kept false v₀ (vault (tapTakes i s)) := by
  have hl := h.loud
  unfold tapTakes
  (repeat' split) <;> simp [*]

@[simp] theorem consWritten_kept (id : RingId) (v : Nat) (s : State) (h : Kept quiet v₀ (vault s)) :
    Kept quiet v₀ (vault (consWritten id v s)) := by
  unfold consWritten
  simp [h]

@[simp] theorem doorbell_kept (m v : Nat) (s : State) (h : Kept quiet v₀ (vault s)) :
    Kept quiet v₀ (vault (doorbell m v s)) := by
  unfold doorbell
  simp [h]

@[simp] theorem ringReset_kept (m : Nat) (s : State) (h : Kept quiet v₀ (vault s)) :
    Kept quiet v₀ (vault (ringReset m s)) := by
  unfold ringReset
  simp [h]

@[simp] theorem resetWritten_kept (w : Word) (s : State) (h : Kept quiet v₀ (vault s)) :
    Kept quiet v₀ (vault (resetWritten w s)) := by
  unfold resetWritten
  (repeat' split) <;> simp [*]

@[simp] theorem brgActs_kept (s0 : State) (x : Nat) (w : Word) (s : State) (h : Kept quiet v₀ (vault s)) :
    Kept quiet v₀ (vault (brgActs s0 x w s)) := by
  unfold brgActs
  (repeat' split) <;> simp [*]

@[simp] theorem regActs_kept (s0 : State) (reg : Nat) (old w : Word) (s : State) (h : Kept quiet v₀ (vault s)) :
    Kept quiet v₀ (vault (regActs s0 reg old w s)) := by
  unfold regActs
  dsimp only
  (repeat' split) <;> simp [h]

@[simp] theorem bar2Store_kept (a : Nat) (ws : Rec) (s : State) (h : Kept quiet v₀ (vault s)) :
    Kept quiet v₀ (vault (bar2Store a ws s)) := by
  unfold bar2Store
  simp [h]

theorem bar2Write_kept {o : Origin} {off : Nat} {ws : Rec} {bad : Bool} (h : Kept quiet v₀ (vault s)) (he : bar2Write o off ws bad s = .ok u) :
    Kept quiet v₀ (vault u) := by
  unfold bar2Write at he
  split at he
  · cases he
  · split at he
    · cases he
    · cases he
      exact bar2Store_kept _ _ _ h

theorem regWrite_kept {o : Origin} {off : Nat} {w : Word} (h : Kept quiet v₀ (vault s)) (he : regWrite o off w s = .ok u) : Kept quiet v₀ (vault u) := by
  unfold regWrite at he
  dsimp only at he
  split at he
  · cases he
  · split at he
    · cases he
    · split at he
      · cases he
      · split at he
        · cases he
        · split at he
          · cases he
          · cases he
            exact regActs_kept _ _ _ _ _ (by simpa using h)

@[simp] theorem landWrite_kept (o : Origin) (c : Carried) (s : State) (h : Kept quiet v₀ (vault s)) :
    Kept quiet v₀ (vault (landWrite o c s)) := by
  unfold landWrite
  dsimp only
  split
  · split
    · next he => exact bar2Write_kept h he
    · exact writeFails_kept _ _ _ _ _ _ h
  · split
    · next he =>
      split at he
      · cases he
      · simpa using regWrite_kept h he
    · exact writeFails_kept _ _ _ _ _ _ h

@[simp] theorem hostWrite_kept (o : Origin) (off : Nat) (v : Word) (s : State) (h : Kept quiet v₀ (vault s)) :
    Kept quiet v₀ (vault (hostWrite o off v s)) := by
  unfold hostWrite
  (repeat' split) <;> simp [*]

theorem atomicStore_kept {bar2 : Bool} {ws : Rec} {off : Nat} (h : Kept quiet v₀ (vault s)) (he : atomicStore bar2 off ws s = some u) :
    Kept quiet v₀ (vault u) := by
  induction ws generalizing off s with
  | nil =>
    cases he
    exact h
  | cons w r ih =>
    unfold atomicStore at he
    split at he
    · exact ih (bar2Store_kept _ _ _ h) he
    · split at he
      · next hw => exact ih (by simpa using regWrite_kept h hw) he
      · cases he

@[simp] theorem atomicActs_kept (op : AtomicOp) (wide bar2 : Bool) (off x y : Nat) (s : State) (h : Kept quiet v₀ (vault s)) :
    Kept quiet v₀ (vault (atomicActs op wide bar2 off x y s)) := by
  unfold atomicActs
  extract_lets n offs old val new
  refine kept_if ?_ (kept_if ?_ ?_)
  · rwa [complete_vault]
  · rwa [complete_vault]
  · split
    · next hs =>
      have hk := atomicStore_kept h hs
      rw [complete_vault]
      split <;> simp [hk]
    · rwa [complete_vault]

@[simp] theorem atomicArrives_kept (op : AtomicOp) (wide : Bool) (bar off x y : Nat) (s : State) (h : Kept quiet v₀ (vault s)) :
    Kept quiet v₀ (vault (atomicArrives op wide bar off x y s)) := by
  unfold atomicArrives
  (repeat' split) <;> simp [*]

@[simp] theorem retryAtomics_kept (n : Nat) (s : State) (h : Kept quiet v₀ (vault s)) : Kept quiet v₀ (vault (retryAtomics n s)) := by
  induction n generalizing s with
  | zero => exact h
  | succ n ih =>
    unfold retryAtomics
    split
    · exact h
    · split
      · exact h
      · exact ih _ (atomicActs_kept _ _ _ _ _ _ _ (by simpa using h))

@[simp] theorem retryRings_kept (l : List RingWait) (s : State) (h : Kept quiet v₀ (vault s)) : Kept quiet v₀ (vault (retryRings l s)) := by
  induction l generalizing s with
  | nil => exact h
  | cons w r ih =>
    unfold retryRings
    split
    · exact ih _ (by simpa using h)
    · refine ih _ ?_
      split <;> simp [h]

@[simp] theorem bridgeFreed_kept (s0 : State) (h : Kept quiet v₀ (vault s0)) :
    Kept quiet v₀ (vault (bridgeFreed s0)) := by
  have hrings := retryRings_kept s0.bridge.ringWaits { s0 with bridge := { s0.bridge with ringWaits := [] } } (by simpa using h)
  unfold bridgeFreed
  dsimp only
  rw [retryReads_vault]
  simpa using retryAtomics_kept _ _ hrings

@[simp] theorem atomicTimesOut_kept (s : State) (h : Kept quiet v₀ (vault s)) :
    Kept quiet v₀ (vault (atomicTimesOut s)) := by
  unfold atomicTimesOut
  (repeat' split) <;> simp [*]

@[simp] theorem maybeLands_kept (o : Origin) (c : Carried) (s : State) (h : Kept quiet v₀ (vault s)) :
    Kept quiet v₀ (vault (maybeLands o c s)) := by
  unfold maybeLands
  split
  · split
    · next he => exact bar2Write_kept h he
    · exact h
  · split
    · next he =>
      split
      · exact h
      · exact regWrite_kept h he
    · exact h

@[simp] theorem writeTooLate_kept (o : Origin) (c : Carried) (s : State) (h : Kept quiet v₀ (vault s)) :
    Kept quiet v₀ (vault (writeTooLate o c s)) := by
  unfold writeTooLate
  simp [h]

@[simp] theorem carriageEnds_kept (o : Origin) (ecc : Bool) (s : State) (h : Kept quiet v₀ (vault s)) :
    Kept quiet v₀ (vault (carriageEnds o ecc s)) := by
  unfold carriageEnds
  (repeat' split) <;> simp [*]

@[simp] theorem writeTimesOut_kept (o : Origin) (s : State) (h : Kept quiet v₀ (vault s)) :
    Kept quiet v₀ (vault (writeTimesOut o s)) := by
  unfold writeTimesOut
  (repeat' split) <;> simp [*]

@[simp] theorem spiLockExpires_kept (s : State) (h : Kept quiet v₀ (vault s)) :
    Kept quiet v₀ (vault (spiLockExpires s)) := by
  unfold spiLockExpires
  (repeat' split) <;> simp [*]

@[simp] theorem spiAct_kept (b : Bytes) (wanted : Nat) (k : Nat → Nat → State → State) (s : State)
    (hk : ∀ n a u, Kept quiet v₀ (vault u) → Kept quiet v₀ (vault (k n a u))) (h : Kept quiet v₀ (vault s)) :
    Kept quiet v₀ (vault (spiAct b wanted k s)) := by
  unfold spiAct
  split
  · simpa using h
  · split
    · exact h
    · extract_lets s1
      have h1 : Kept quiet v₀ (vault s1) := by simp [s1, h]
      clear_value s1
      (repeat' split)
      · simpa using h1
      · simpa using h1
      · simpa using h1
      · simpa using h1
      · exact hk _ _ _ h1

@[simp] theorem spiWrites_kept (b : Bytes) (s : State) (h : Kept quiet v₀ (vault s)) :
    Kept quiet v₀ (vault (spiWrites b s)) := by
  unfold spiWrites
  simp [h]

@[simp] theorem spiLocks_kept (b : Bytes) (s : State) (h : Kept quiet v₀ (vault s)) :
    Kept quiet v₀ (vault (spiLocks b s)) := by
  unfold spiLocks
  simp [h]

@[simp] theorem spiUnlocks_kept (b : Bytes) (s : State) (h : Kept quiet v₀ (vault s)) :
    Kept quiet v₀ (vault (spiUnlocks b s)) := by
  refine spiAct_kept _ _ _ _ (fun n a u hu => ?_) h
  (repeat' split) <;> simp [hu]

@[simp] theorem copyPacket_kept (i : Nat) (s : State) (h : Kept quiet v₀ (vault s)) :
    Kept quiet v₀ (vault (copyPacket i s)) := by
  unfold copyPacket
  dsimp only
  (repeat' split) <;> simp [h]

@[simp] theorem inbandArrives_kept (b : Bytes) (s0 : State) (h : Kept quiet v₀ (vault s0)) :
    Kept quiet v₀ (vault (inbandArrives b s0)) := by
  unfold inbandArrives
  simp [h]

theorem regRow_kept {t : Nat} {ok : Bool} {reg : Nat} {o : Origin} {a : Alias} {w : Word} (he : regRow t ok reg o a w s = .next u) :
    Kept false (vault s) (vault u) :=
  act_kept (fun e h => by
    split
    · exact (hostWrite_kept _ _ _ _ h).loud
    · exact h.loud) he

@[simp] theorem discardRequests_kept (m : Nat) (s : State) (h : Kept quiet v₀ (vault s)) :
    Kept quiet v₀ (vault (discardRequests m s)) := by
  unfold discardRequests
  simp [h]

@[simp] theorem desync_kept (m : Nat) (s : State) (h : Kept quiet v₀ (vault s)) :
    Kept quiet v₀ (vault (desync m s)) := by
  unfold desync
  extract_lets r v ws seq _ s1 s2
  have h1 : Kept quiet v₀ (vault s1) := setBox_kept _ _ _ id (discardRequests_kept _ _ h)
  have h2 : Kept quiet v₀ (vault s2) := respond_kept _ _ _ _ _ _ _ _ _ _ h1
  clear_value s2
  simpa using h2

theorem handles_of_handlerOf {op : Nat} {f : Handler} (h : handlerOf op = some f) : Handles f := by
  unfold handlerOf at h
  split at h
  case h_5 =>
    cases h
    exact handles_fwSettingsPut
  case h_6 =>
    cases h
    exact handles_fwSettingsGet
  case h_8 =>
    split at h
    · exact handles_of_handlerSys h
    · exact handles_of_handlerTime h
    · exact handles_of_handlerSched h
    · exact handles_of_handlerStream h
    · exact handles_of_handlerFilt h
    · exact handles_of_handlerGw h
    · exact handles_of_handlerNm h
    · exact handles_of_handlerCipher h
    · exact handles_of_handlerCipher h
    · exact handles_of_handlerCipher h
    · exact handles_of_handlerDark h
    · exact handles_of_handlerDark h
    · exact handles_of_handlerDark h
    · cases h
  all_goals
    cases h
    exact handles_of_vault fun q s => by simp

theorem handles_meaningOf (op : Nat) (w : Word) : Handles (meaningOf op w) := by
  unfold meaningOf
  split
  · exact fun _ _ _ _ h => h
  · cases ho : handlerOf op with
    | none => exact fun _ _ _ _ h => h
    | some f => exact handles_of_handlerOf ho

@[simp] theorem takeFrom_kept (m : Nat) (s : State) (h : Kept false v₀ (vault s)) : Kept false v₀ (vault (takeFrom m s)) := by
  unfold takeFrom
  split
  · exact discardRequests_kept _ _ h
  · split
    · exact desync_kept _ _ h
    · dsimp only
      have hconsumed := fun x => ringConsume_kept (.req m) x s h
      split
      · exact helloServe_kept _ _ (hconsumed _)
      · exact serve_kept (handles_meaningOf _ _) _ _ _ (hconsumed _)

@[simp] theorem takeNext_kept (s : State) (h : Kept false v₀ (vault s)) :
    Kept false v₀ (vault (takeNext s)) := by
  unfold takeNext
  (repeat' split) <;> simp [*]

end Sys2Proof.Machine
end

section
/-!
PROOFS. Each command keeps the memory canonical and the fuses (R472, R616).
-/
namespace Sys2Proof.Machine
open Sys2Proof Sys2Proof.Safety

variable {s u : State}

theorem requestOf_kept {t op : Nat} {f : Handler} {q : Req} (he : request t op f q s = .next u) (hf : handlerOf op = some f) :
    Kept false (vault s) (vault u) := request_kept (handles_of_handlerOf hf) he

theorem execBeatBoundary_kept {t : Nat} (he : execBeatBoundary t s = .next u) : Kept false (vault s) (vault u) :=
  act_kept (fun e h => by simp [h.loud]) he

theorem execTaskListFinish_kept {t : Nat} (he : execTaskListFinish t s = .next u) : Kept false (vault s) (vault u) :=
  act_kept (fun e h => by simp [h.loud]) he

theorem execMappingAnchor_kept {t : Nat} (he : execMappingAnchor t s = .next u) : Kept false (vault s) (vault u) :=
  act_kept (fun e h => by simp [h.loud]) he

theorem execPhaseSlewEnd_kept {t : Nat} (he : execPhaseSlewEnd t s = .next u) : Kept false (vault s) (vault u) :=
  act_kept (fun e h => by simp [h.loud]) he

theorem execSyncReceiptTimeout_kept {t slot : Nat} (he : execSyncReceiptTimeout t slot s = .next u) : Kept false (vault s) (vault u) :=
  act_kept (fun e h => by simp [h.loud]) he

theorem execAnnounceReceiptTimeout_kept {t slot port : Nat} (he : execAnnounceReceiptTimeout t slot port s = .next u) : Kept false (vault s) (vault u) :=
  act_kept (fun e h => by simp [h.loud]) he

theorem execHotStandbyRevert_kept {t : Nat} (he : execHotStandbyRevert t s = .next u) : Kept false (vault s) (vault u) :=
  act_kept (fun e h => by simp [h.loud]) he

theorem execGptpSyncRx_kept {t port : Nat} {m : SyncMsg} (he : execGptpSyncRx t port m s = .next u) : Kept false (vault s) (vault u) :=
  act_kept (fun e h => by simp [h.loud]) he

theorem execFollowUpRx_kept {t port : Nat} {m : SyncMsg} (he : execFollowUpRx t port m s = .next u) : Kept false (vault s) (vault u) :=
  act_kept (fun e h => by simp [h.loud]) he

theorem execFollowUpMatchTimeout_kept {t slot : Nat} (he : execFollowUpMatchTimeout t slot s = .next u) : Kept false (vault s) (vault u) :=
  act_kept (fun e h => by simp [h.loud]) he

theorem execGmSyncTx_kept {t slot : Nat} (he : execGmSyncTx t slot s = .next u) : Kept false (vault s) (vault u) :=
  act_kept (fun e h => by simp [h.loud]) he

theorem execAnnounceRx_kept {t port : Nat} {m : AnnounceMsg} (he : execAnnounceRx t port m s = .next u) : Kept false (vault s) (vault u) :=
  act_kept (fun e h => by simp [h.loud]) he

theorem execPdelayReqTx_kept {t port : Nat} (he : execPdelayReqTx t port s = .next u) : Kept false (vault s) (vault u) :=
  act_kept (fun e h => by simp [h.loud]) he

theorem execPdelayReqRx_kept {t port : Nat} {m : PdelayReq} (he : execPdelayReqRx t port m s = .next u) : Kept false (vault s) (vault u) :=
  act_kept (fun e h => by simp [h.loud]) he

theorem execPdelayRespRx_kept {t port : Nat} {m : PdelayResp} (he : execPdelayRespRx t port m s = .next u) : Kept false (vault s) (vault u) :=
  act_kept (fun e h => by simp [h.loud]) he

theorem execPairTimePulseRx_kept {t : Nat} {w0 w1 w2 : Word} (he : execPairTimePulseRx t w0 w1 w2 s = .next u) : Kept false (vault s) (vault u) :=
  act_kept (fun e h => by simp [h.loud]) he

theorem execPairTimePulseMissing_kept {t : Nat} (he : execPairTimePulseMissing t s = .next u) : Kept false (vault s) (vault u) :=
  act_kept (fun e h => by simp [h.loud]) he

theorem execTioActiveEdge_kept {t pin : Nat} (he : execTioActiveEdge t pin s = .next u) : Kept false (vault s) (vault u) :=
  act_kept (fun e h => by simp [h.loud]) he

theorem execTioInactiveEdge_kept {t pin : Nat} (he : execTioInactiveEdge t pin s = .next u) : Kept false (vault s) (vault u) :=
  act_kept (fun e h => by simp [h.loud]) he

theorem execTioCaptureEdge_kept {t pin : Nat} {rising : Bool} {width : Nat} (he : execTioCaptureEdge t pin rising width s = .next u) : Kept false (vault s) (vault u) :=
  act_kept (fun e h => by simp [h.loud]) he

theorem execPortLinkUp_kept {t port : Nat} {speed : Option Nat} (he : execPortLinkUp t port speed s = .next u) : Kept false (vault s) (vault u) :=
  act_kept (fun e h => by simp [h.loud]) he

theorem execPortLinkLoss_kept {t port : Nat} (he : execPortLinkLoss t port s = .next u) : Kept false (vault s) (vault u) :=
  act_kept (fun e h => by simp [h.loud]) he

theorem execLinkHoldExpiry_kept {t port : Nat} (he : execLinkHoldExpiry t port s = .next u) : Kept false (vault s) (vault u) :=
  act_kept (fun e h => by simp [h.loud]) he

theorem execSerdesReferenceLost_kept {t : Nat} {groupB : Bool} (he : execSerdesReferenceLost t groupB s = .next u) : Kept false (vault s) (vault u) :=
  act_kept (fun e h => by simp [h.loud]) he

theorem execInbandSpeedChange_kept {t port speed : Nat} (he : execInbandSpeedChange t port speed s = .next u) : Kept false (vault s) (vault u) :=
  act_kept (fun e h => by simp [h.loud]) he

theorem execDlcMeasurementDone_kept {t port : Nat} {rxPos txPos offset : Int} (he : execDlcMeasurementDone t port rxPos txPos offset s = .next u) : Kept false (vault s) (vault u) :=
  act_kept (fun e h => by simp [h.loud]) he

theorem execPlcaBeaconTx_kept {t port : Nat} (he : execPlcaBeaconTx t port s = .next u) : Kept false (vault s) (vault u) :=
  act_kept (fun e h => by simp [h.loud]) he

theorem execPlcaBeaconLoss_kept {t port : Nat} (he : execPlcaBeaconLoss t port s = .next u) : Kept false (vault s) (vault u) :=
  act_kept (fun e h => by simp [h.loud]) he

theorem execPlcaBeaconRestored_kept {t port : Nat} (he : execPlcaBeaconRestored t port s = .next u) : Kept false (vault s) (vault u) :=
  act_kept (fun e h => by simp [h.loud]) he

theorem execFrameRxCell_kept {t port : Nat} {bytes : Bytes} {sof : Bool} {eof : Option Bool} (he : execFrameRxCell t port bytes sof eof s = .next u) : Kept false (vault s) (vault u) :=
  act_kept (fun e h => by simp [h.loud]) he

theorem execMacsecRxVerify_kept {t port : Nat} {bytes : Bytes} {rx : RxEnd} (he : execMacsecRxVerify t port bytes rx s = .next u) : Kept false (vault s) (vault u) :=
  act_kept (fun e h => by simp [h.loud]) he

theorem execFrameClassify_kept {t frame : Nat} (he : execFrameClassify t frame s = .next u) : Kept false (vault s) (vault u) :=
  act_kept (fun e h => by simp [h.loud]) he

theorem execFrameEnqueue_kept {t frame : Nat} (he : execFrameEnqueue t frame s = .next u) : Kept false (vault s) (vault u) :=
  act_kept (fun e h => by simp [h.loud]) he

theorem execFrameTxStart_kept {t port : Nat} (he : execFrameTxStart t port s = .next u) : Kept false (vault s) (vault u) :=
  act_kept (fun e h => by simp [h.loud]) he

theorem execFrameTxEnd_kept {t port : Nat} (he : execFrameTxEnd t port s = .next u) : Kept false (vault s) (vault u) :=
  act_kept (fun e h => by simp [h.loud]) he

theorem execAgeingSweep_kept {t : Nat} (he : execAgeingSweep t s = .next u) : Kept false (vault s) (vault u) :=
  act_kept (fun e h => by simp [h.loud]) he

theorem execRefillTick_kept {t : Nat} (he : execRefillTick t s = .next u) : Kept false (vault s) (vault u) :=
  act_kept (fun e h => by simp [h.loud]) he

theorem execGateListStart_kept {t port : Nat} (he : execGateListStart t port s = .next u) : Kept false (vault s) (vault u) :=
  act_kept (fun e h => by simp [h.loud]) he

theorem execGateEntryStart_kept {t port : Nat} (he : execGateEntryStart t port s = .next u) : Kept false (vault s) (vault u) :=
  act_kept (fun e h => by simp [h.loud]) he

theorem execGateStarveDrop_kept {t port cls : Nat} (he : execGateStarveDrop t port cls s = .next u) : Kept false (vault s) (vault u) :=
  act_kept (fun e h => by simp [h.loud]) he

theorem execMergeHoldAssert_kept {t port : Nat} (he : execMergeHoldAssert t port s = .next u) : Kept false (vault s) (vault u) :=
  act_kept (fun e h => by simp [h.loud]) he

theorem execMergeHoldRelease_kept {t port : Nat} (he : execMergeHoldRelease t port s = .next u) : Kept false (vault s) (vault u) :=
  act_kept (fun e h => by simp [h.loud]) he

theorem execLaunchInstantReached_kept {t port cls : Nat} (he : execLaunchInstantReached t port cls s = .next u) : Kept false (vault s) (vault u) :=
  act_kept (fun e h => by simp [h.loud]) he

theorem execStreamGateListStart_kept {t gate : Nat} (he : execStreamGateListStart t gate s = .next u) : Kept false (vault s) (vault u) :=
  act_kept (fun e h => by simp [h.loud]) he

theorem execStreamGateEntryStart_kept {t gate : Nat} (he : execStreamGateEntryStart t gate s = .next u) : Kept false (vault s) (vault u) :=
  act_kept (fun e h => by simp [h.loud]) he

theorem execFrerResetTimeout_kept {t fn : Nat} (he : execFrerResetTimeout t fn s = .next u) : Kept false (vault s) (vault u) :=
  act_kept (fun e h => by simp [h.loud]) he

theorem execLatentTestTimer_kept {t fn : Nat} (he : execLatentTestTimer t fn s = .next u) : Kept false (vault s) (vault u) :=
  act_kept (fun e h => by simp [h.loud]) he

theorem execLatentResetTimer_kept {t fn : Nat} (he : execLatentResetTimer t fn s = .next u) : Kept false (vault s) (vault u) :=
  act_kept (fun e h => by simp [h.loud]) he

theorem execTrackerSweep_kept {t : Nat} (he : execTrackerSweep t s = .next u) : Kept false (vault s) (vault u) :=
  act_kept (fun e h => by simp [h.loud]) he

theorem execBypassExpiry_kept {t src dst : Nat} (he : execBypassExpiry t src dst s = .next u) : Kept false (vault s) (vault u) :=
  act_kept (fun e h => by simp [h.loud]) he

theorem execNoticePost_kept {t : Nat} (he : execNoticePost t s = .next u) : Kept false (vault s) (vault u) :=
  act_kept (fun e h => by simp [h.loud]) he

theorem execCanFrameValid_kept {t bus : Nat} {f : CanFrame} {sof : Nat} (he : execCanFrameValid t bus f sof s = .next u) : Kept false (vault s) (vault u) :=
  act_kept (fun e h => by simp [h.loud]) he

theorem execTunnelFlushDeadline_kept {t tunnel : Nat} (he : execTunnelFlushDeadline t tunnel s = .next u) : Kept false (vault s) (vault u) :=
  act_kept (fun e h => by simp [h.loud]) he

theorem execAcfFrameRx_kept {t : Nat} {bytes : Bytes} (he : execAcfFrameRx t bytes s = .next u) : Kept false (vault s) (vault u) :=
  act_kept (fun e h => by simp [h.loud]) he

theorem execCanTxStart_kept {t bus : Nat} (he : execCanTxStart t bus s = .next u) : Kept false (vault s) (vault u) :=
  act_kept (fun e h => by simp [h.loud]) he

theorem execCanTxComplete_kept {t bus : Nat} (he : execCanTxComplete t bus s = .next u) : Kept false (vault s) (vault u) :=
  act_kept (fun e h => by simp [h.loud]) he

theorem execCanTxError_kept {t bus : Nat} {k : CanErr} (he : execCanTxError t bus k s = .next u) : Kept false (vault s) (vault u) :=
  act_kept (fun e h => by simp [h.loud]) he

theorem execCanRxError_kept {t bus : Nat} {k : CanErr} (he : execCanRxError t bus k s = .next u) : Kept false (vault s) (vault u) :=
  act_kept (fun e h => by simp [h.loud]) he

theorem execCanBoDelayExpiry_kept {t bus : Nat} (he : execCanBoDelayExpiry t bus s = .next u) : Kept false (vault s) (vault u) :=
  act_kept (fun e h => by dsimp only; (repeat' split) <;> simp [h.loud]) he

theorem execCanBusOffRecovered_kept {t bus : Nat} (he : execCanBusOffRecovered t bus s = .next u) : Kept false (vault s) (vault u) :=
  act_kept (fun e h => by simp [h.loud]) he

theorem execCanMaxAgeExpiry_kept {t bus slot : Nat} (he : execCanMaxAgeExpiry t bus slot s = .next u) : Kept false (vault s) (vault u) :=
  act_kept (fun e h => by simp [h.loud]) he

theorem execCanControllerApply_kept {t bus : Nat} (he : execCanControllerApply t bus s = .next u) : Kept false (vault s) (vault u) :=
  act_kept (fun e h => by simp [h.loud]) he

theorem execCanIntegrationDone_kept {t bus : Nat} (he : execCanIntegrationDone t bus s = .next u) : Kept false (vault s) (vault u) :=
  act_kept (fun e h => by simp [h.loud]) he

theorem execLinSlotStart_kept {t bus : Nat} {recessive : Bool} (he : execLinSlotStart t bus recessive s = .next u) : Kept false (vault s) (vault u) :=
  act_kept (fun e h => by simp [h.loud]) he

theorem execLinSlotEnd_kept {t bus outcome : Nat} {data : Bytes} (he : execLinSlotEnd t bus outcome data s = .next u) : Kept false (vault s) (vault u) :=
  act_kept (fun e h => by simp [h.loud]) he

theorem execWakeSourceQualify_kept {t src : Nat} (he : execWakeSourceQualify t src s = .next u) : Kept false (vault s) (vault u) :=
  actAlways_kept (fun e h => by simp [h.loud]) he

theorem execWakeTimerExpiry_kept {t : Nat} (he : execWakeTimerExpiry t s = .next u) : Kept false (vault s) (vault u) :=
  actAlways_kept (fun e h => by simp [h.loud]) he

theorem execIgnitionPinChange_kept {t : Nat} {active : Bool} (he : execIgnitionPinChange t active s = .next u) : Kept false (vault s) (vault u) :=
  actAlways_kept (fun e h => by simp [h.loud]) he

theorem execOffenderMinExpiry_kept {t : Nat} (he : execOffenderMinExpiry t s = .next u) : Kept false (vault s) (vault u) :=
  act_kept (fun e h => by (repeat' split) <;> simp [h.loud]) he

theorem execNeedTimerExpiry_kept {t seg : Nat} (he : execNeedTimerExpiry t seg s = .next u) : Kept false (vault s) (vault u) :=
  act_kept (fun e h => by simp [h.loud]) he

theorem execClusterTimerExpiry_kept {t cluster : Nat} (he : execClusterTimerExpiry t cluster s = .next u) : Kept false (vault s) (vault u) :=
  act_kept (fun e h => by simp [h.loud]) he

theorem execPrepareSleepTimerExpiry_kept {t seg : Nat} (he : execPrepareSleepTimerExpiry t seg s = .next u) : Kept false (vault s) (vault u) :=
  act_kept (fun e h => by simp [h.loud]) he

theorem execShutdownComplete_kept {t seg : Nat} (he : execShutdownComplete t seg s = .next u) : Kept false (vault s) (vault u) :=
  act_kept (fun e h => by simp [h.loud]) he

theorem execWakeToExpiry_kept {t seg : Nat} (he : execWakeToExpiry t seg s = .next u) : Kept false (vault s) (vault u) :=
  act_kept (fun e h => by simp [h.loud]) he

theorem execKeepaliveTxTimer_kept {t seg : Nat} (he : execKeepaliveTxTimer t seg s = .next u) : Kept false (vault s) (vault u) :=
  act_kept (fun e h => by simp [h.loud]) he

theorem execWakeValidationExpiry_kept {t src : Nat} (he : execWakeValidationExpiry t src s = .next u) : Kept false (vault s) (vault u) :=
  act_kept (fun e h => by simp [h.loud]) he

theorem execFalseWinExpiry_kept {t src : Nat} (he : execFalseWinExpiry t src s = .next u) : Kept false (vault s) (vault u) :=
  actAlways_kept (fun e h => by (repeat' split) <;> simp [h.loud]) he

theorem execBackoffExpiry_kept {t src : Nat} (he : execBackoffExpiry t src s = .next u) : Kept false (vault s) (vault u) :=
  actAlways_kept (fun e h => by simp [h.loud]) he

theorem execStandbySnapshotAck_kept {t : Nat} (he : execStandbySnapshotAck t s = .next u) : Kept false (vault s) (vault u) :=
  act_kept (fun e h => by simp [h.loud]) he

theorem execStandbyEntryTimeout_kept {t : Nat} (he : execStandbyEntryTimeout t s = .next u) : Kept false (vault s) (vault u) :=
  act_kept (fun e h => by simp [h.loud]) he

theorem execWakeRaceHoldExpiry_kept {t : Nat} (he : execWakeRaceHoldExpiry t s = .next u) : Kept false (vault s) (vault u) :=
  actAlways_kept (fun e h => by simp [h.loud]) he

theorem execBulkRequestSubmit_kept {t : Nat} {r : BulkReq} (he : execBulkRequestSubmit t r s = .next u) : Kept false (vault s) (vault u) :=
  act_kept (fun e h => by simp [h.loud]) he

theorem execBulkRequestStart_kept {t requester : Nat} (he : execBulkRequestStart t requester s = .next u) : Kept false (vault s) (vault u) :=
  act_kept (fun e h => by simp [h.loud]) he

theorem execBulkChunkEnd_kept {t : Nat} (he : execBulkChunkEnd t s = .next u) : Kept false (vault s) (vault u) :=
  act_kept (fun e h => by simp [h.loud]) he

theorem execBulkRequestComplete_kept {t : Nat} {publicKey : Bool} (he : execBulkRequestComplete t publicKey s = .next u) : Kept false (vault s) (vault u) :=
  act_kept (fun e h => by simp [h.loud]) he

theorem execCipherAlarm_kept {t : Nat} {cause : AlarmCause} (he : execCipherAlarm t cause s = .next u) : Kept false (vault s) (vault u) :=
  actAlways_kept (fun e h => by simp [h.loud]) he

theorem execZeroizeComplete_kept {t : Nat} (he : execZeroizeComplete t s = .next u) : Kept false (vault s) (vault u) :=
  act_kept (fun e h => by simp [h.loud]) he

theorem execPipeSelfTestDue_kept {t pipe : Nat} (he : execPipeSelfTestDue t pipe s = .next u) : Kept false (vault s) (vault u) :=
  act_kept (fun e h => by simp [h.loud]) he

theorem execBulkSelfTestDue_kept {t : Nat} (he : execBulkSelfTestDue t s = .next u) : Kept false (vault s) (vault u) :=
  act_kept (fun e h => by simp [h.loud]) he

theorem execSelfTestComplete_kept {t unit : Nat} {pass : Bool} (he : execSelfTestComplete t unit pass s = .next u) : Kept false (vault s) (vault u) :=
  act_kept (fun e h => by simp [h.loud]) he

theorem execEntropyHealthFail_kept {t : Nat} (he : execEntropyHealthFail t s = .next u) : Kept false (vault s) (vault u) :=
  act_kept (fun e h => by simp [h.loud]) he

theorem execDarkWindowBeforeTaken_kept {t : Nat} (he : execDarkWindowBeforeTaken t s = .next u) : Kept false (vault s) (vault u) :=
  actAlways_kept (fun e h => by simp [h.loud]) he

theorem execDarkWindowAfterClose_kept {t : Nat} (he : execDarkWindowAfterClose t s = .next u) : Kept false (vault s) (vault u) :=
  actAlways_kept (fun e h => by simp [h.loud]) he

theorem execDarkWindowSigned_kept {t : Nat} (he : execDarkWindowSigned t s = .next u) : Kept false (vault s) (vault u) :=
  actAlways_kept (fun e h => by simp [h.loud]) he

theorem execEvidenceCommitAck_kept {t : Nat} (he : execEvidenceCommitAck t s = .next u) : Kept false (vault s) (vault u) :=
  actAlways_kept (fun e h => by simp [h.loud]) he

theorem execDarkClockFallback_kept {t : Nat} (he : execDarkClockFallback t s = .next u) : Kept false (vault s) (vault u) :=
  actAlways_kept (fun e h => by simp [h.loud]) he

theorem execDarkClockReturn_kept {t : Nat} (he : execDarkClockReturn t s = .next u) : Kept false (vault s) (vault u) :=
  actAlways_kept (fun e h => by simp [h.loud]) he

theorem execDarkWatchdogReset_kept {t : Nat} (he : execDarkWatchdogReset t s = .next u) : Kept false (vault s) (vault u) :=
  actAlways_kept (fun e h => by simp [h.loud]) he

theorem execVddDrkLoss_kept {t : Nat} (he : execVddDrkLoss t s = .next u) : Kept false (vault s) (vault u) :=
  actAlways_kept (fun e h => by simp [h.loud]) he

theorem execDarkroomReset_kept {t : Nat} (he : execDarkroomReset t s = .next u) : Kept false (vault s) (vault u) :=
  actAlways_kept (fun e h => by simp [h.loud]) he

theorem execResealComplete_kept {t : Nat} (he : execResealComplete t s = .next u) : Kept false (vault s) (vault u) :=
  actAlways_kept (fun e h => by simp [h.loud]) he

theorem execCsRecordAccept_kept {t : Nat} (he : execCsRecordAccept t s = .next u) : Kept false (vault s) (vault u) :=
  act_kept (fun e h => by simp [h.loud]) he

theorem execCsAnchorTimer_kept {t : Nat} (he : execCsAnchorTimer t s = .next u) : Kept false (vault s) (vault u) :=
  act_kept (fun e h => by simp [h.loud]) he

theorem execCsMappingRepeat_kept {t : Nat} (he : execCsMappingRepeat t s = .next u) : Kept false (vault s) (vault u) :=
  act_kept (fun e h => by simp [h.loud]) he

theorem execCsExportFrameFlush_kept {t : Nat} (he : execCsExportFrameFlush t s = .next u) : Kept false (vault s) (vault u) :=
  act_kept (fun e h => by simp [h.loud]) he

theorem execCsExportRingWrite_kept {t : Nat} (he : execCsExportRingWrite t s = .next u) : Kept false (vault s) (vault u) :=
  act_kept (fun e h => by simp [h.loud]) he

theorem execPcieRead_kept {t bar off dwords : Nat} (he : execPcieRead t bar off dwords s = .next u) : Kept false (vault s) (vault u) :=
  act_kept (fun e h => by simp [h.loud]) he

theorem execPcieWrite_kept {t requester bar off : Nat} {data : List (Word × Nat)} (he : execPcieWrite t requester bar off data s = .next u) : Kept false (vault s) (vault u) :=
  act_kept (fun e h => by simp [h.loud]) he

theorem execWriteCarriageEnd_kept {t : Nat} {o : Origin} {ecc : Bool} (he : execWriteCarriageEnd t o ecc s = .next u) : Kept false (vault s) (vault u) :=
  act_kept (fun e h => by simp [h.loud]) he

theorem execWriteTimeout_kept {t : Nat} {o : Origin} (he : execWriteTimeout t o s = .next u) : Kept false (vault s) (vault u) :=
  act_kept (fun e h => by simp [h.loud]) he

theorem execProofFenceRead_kept {t : Nat} {o : Origin} (he : execProofFenceRead t o s = .next u) : Kept false (vault s) (vault u) :=
  act_kept (fun e h => by simp [h.loud]) he

theorem execPcieAtomic_kept {t : Nat} {op : AtomicOp} {wide : Bool} {bar off x y : Nat} (he : execPcieAtomic t op wide bar off x y s = .next u) : Kept false (vault s) (vault u) :=
  act_kept (fun e h => by simp [h.loud]) he

theorem execAtomicSemaphoreTimeout_kept {t : Nat} (he : execAtomicSemaphoreTimeout t s = .next u) : Kept false (vault s) (vault u) :=
  act_kept (fun e h => by simp [h.loud]) he

theorem execSpiReadFrame_kept {t : Nat} {bytes : Bytes} (he : execSpiReadFrame t bytes s = .next u) : Kept false (vault s) (vault u) :=
  act_kept (fun e h => by simp [h.loud]) he

theorem execSpiWriteFrame_kept {t : Nat} {bytes : Bytes} (he : execSpiWriteFrame t bytes s = .next u) : Kept false (vault s) (vault u) :=
  act_kept (fun e h => by simp [h.loud]) he

theorem execSpiLock_kept {t : Nat} {bytes : Bytes} (he : execSpiLock t bytes s = .next u) : Kept false (vault s) (vault u) :=
  act_kept (fun e h => by simp [h.loud]) he

theorem execSpiUnlock_kept {t : Nat} {bytes : Bytes} (he : execSpiUnlock t bytes s = .next u) : Kept false (vault s) (vault u) :=
  act_kept (fun e h => by simp [h.loud]) he

theorem execSpiLockTimeout_kept {t : Nat} (he : execSpiLockTimeout t s = .next u) : Kept false (vault s) (vault u) :=
  act_kept (fun e h => by simp [h.loud]) he

theorem execMsixMessage_kept {t source : Nat} (he : execMsixMessage t source s = .next u) : Kept false (vault s) (vault u) :=
  act_kept (fun e h => by simp [h.loud]) he

theorem execRingGapMarker_kept {t : Nat} {ring : RingId} (he : execRingGapMarker t ring s = .next u) : Kept false (vault s) (vault u) :=
  act_kept (fun e h => by simp [h.loud]) he

theorem execMirrorCopy_kept {t source : Nat} (he : execMirrorCopy t source s = .next u) : Kept false (vault s) (vault u) :=
  act_kept (fun e h => by simp [h.loud]) he

theorem execMirrorDmaFail_kept {t source : Nat} (he : execMirrorDmaFail t source s = .next u) : Kept false (vault s) (vault u) :=
  act_kept (fun e h => by simp [h.loud]) he

theorem execHpTxDescriptor_kept {t : Nat} {desc : Rec} {frame : Bytes} {dmaOk : Bool} (he : execHpTxDescriptor t desc frame dmaOk s = .next u) : Kept false (vault s) (vault u) :=
  act_kept (fun e h => by simp [h.loud]) he

theorem execHpRxFrameWrite_kept {t : Nat} {desc : Rec} {dmaOk : Bool} (he : execHpRxFrameWrite t desc dmaOk s = .next u) : Kept false (vault s) (vault u) :=
  act_kept (fun e h => by simp [h.loud]) he

theorem execInbandFrameRx_kept {t : Nat} {bytes : Bytes} (he : execInbandFrameRx t bytes s = .next u) : Kept false (vault s) (vault u) :=
  act_kept (fun e h => by simp [h.loud]) he

theorem execPcieLinkUp_kept {t rate width : Nat} (he : execPcieLinkUp t rate width s = .next u) : Kept false (vault s) (vault u) :=
  act_kept (fun e h => by simp [h.loud]) he

theorem execPcieFunctionReset_kept {t : Nat} {linkDown : Bool} (he : execPcieFunctionReset t linkDown s = .next u) : Kept false (vault s) (vault u) :=
  act_kept (fun e h => by simp [h.loud]) he

theorem execRequestTake_kept {t : Nat} (he : execRequestTake t s = .next u) : Kept false (vault s) (vault u) :=
  act_kept (fun e h => by simp [h.loud]) he

theorem execPartnerTokenRx_kept {t : Nat} {msg : Rec} (he : execPartnerTokenRx t msg s = .next u) : Kept false (vault s) (vault u) :=
  act_kept (fun e h => by simp [h.loud]) he

theorem execPartnerAckRx_kept {t : Nat} {msg : Rec} (he : execPartnerAckRx t msg s = .next u) : Kept false (vault s) (vault u) :=
  act_kept (fun e h => by simp [h.loud]) he

theorem execPartnerCkptPartRx_kept {t : Nat} {msg : Rec} (he : execPartnerCkptPartRx t msg s = .next u) : Kept false (vault s) (vault u) :=
  act_kept (fun e h => by simp [h.loud]) he

theorem execPartnerCkptAckRx_kept {t : Nat} {msg : Rec} (he : execPartnerCkptAckRx t msg s = .next u) : Kept false (vault s) (vault u) :=
  act_kept (fun e h => by simp [h.loud]) he

theorem execPartnerReleaseRx_kept {t : Nat} {msg : Rec} (he : execPartnerReleaseRx t msg s = .next u) : Kept false (vault s) (vault u) :=
  act_kept (fun e h => by simp [h.loud]) he

theorem execPartnerMappingRx_kept {t : Nat} {msg : Rec} (he : execPartnerMappingRx t msg s = .next u) : Kept false (vault s) (vault u) :=
  act_kept (fun e h => by simp [h.loud]) he

theorem execPartnerUpTimeout_kept {t : Nat} (he : execPartnerUpTimeout t s = .next u) : Kept false (vault s) (vault u) :=
  act_kept (fun e h => by simp [h.loud]) he

theorem execLeaseTokenTimer_kept {t : Nat} (he : execLeaseTokenTimer t s = .next u) : Kept false (vault s) (vault u) :=
  act_kept (fun e h => by simp [h.loud]) he

theorem execLeaseExpiry_kept {t obj : Nat} (he : execLeaseExpiry t obj s = .next u) : Kept false (vault s) (vault u) :=
  act_kept (fun e h => by simp [h.loud]) he

theorem execClaimWaitExpiry_kept {t obj : Nat} (he : execClaimWaitExpiry t obj s = .next u) : Kept false (vault s) (vault u) :=
  act_kept (fun e h => by simp [h.loud]) he

theorem execClaimAckTimeout_kept {t obj : Nat} (he : execClaimAckTimeout t obj s = .next u) : Kept false (vault s) (vault u) :=
  act_kept (fun e h => by simp [h.loud]) he

theorem execInterlockLowQualified_kept {t : Nat} (he : execInterlockLowQualified t s = .next u) : Kept false (vault s) (vault u) :=
  act_kept (fun e h => by simp [h.loud]) he

theorem execInterlockClaimSample_kept {t : Nat} {inHigh : Bool} (he : execInterlockClaimSample t inHigh s = .next u) : Kept false (vault s) (vault u) :=
  act_kept (fun e h => by simp [h.loud]) he

theorem execCheckpointTimer_kept {t : Nat} (he : execCheckpointTimer t s = .next u) : Kept false (vault s) (vault u) :=
  act_kept (fun e h => by simp [h.loud]) he

theorem execCheckpointMiss_kept {t : Nat} (he : execCheckpointMiss t s = .next u) : Kept false (vault s) (vault u) :=
  act_kept (fun e h => by simp [h.loud]) he

theorem execControlWatchdogExpiry_kept {t : Nat} (he : execControlWatchdogExpiry t s = .next u) : Kept false (vault s) (vault u) :=
  act_kept (fun e h => by simp [h]) he

theorem execControlTakeoverComplete_kept {t : Nat} (he : execControlTakeoverComplete t s = .next u) : Kept false (vault s) (vault u) :=
  act_kept (fun e h => by simp [h.loud]) he

theorem execEccErrorDetected_kept {t region off : Nat} {bad : Bool} {target : EccTarget} (he : execEccErrorDetected t region off bad target s = .next u) : Kept false (vault s) (vault u) :=
  act_kept (fun e h => by simp [h]) he

theorem execLookupEntryRewrite_kept {t : Nat} {target : EccTarget} (he : execLookupEntryRewrite t target s = .next u) : Kept false (vault s) (vault u) :=
  act_kept (fun e h => by simp [h.loud]) he

theorem execActivationBodyLoaded_kept {t : Nat} {bodyMatches : Bool} (he : execActivationBodyLoaded t bodyMatches s = .next u) : Kept false (vault s) (vault u) :=
  act_kept (fun e h => by simp [h]) he

theorem execSettingsMigrationComplete_kept {t : Nat} {good : Bool} (he : execSettingsMigrationComplete t good s = .next u) : Kept false (vault s) (vault u) :=
  act_kept (fun e h => by simp [h.loud]) he

theorem execFlashWriteComplete_kept {t : Nat} {good : Bool} (he : execFlashWriteComplete t good s = .next u) : Kept false (vault s) (vault u) :=
  act_kept (fun e h => by simp [h.loud]) he

theorem execRailsGood_kept {t : Nat} (he : execRailsGood t s = .next u) : Kept false (vault s) (vault u) :=
  actAlways_kept (fun e h => by simp [h]) he

theorem execCoreRailBrownout_kept {t millivolts microseconds : Nat} (he : execCoreRailBrownout t millivolts microseconds s = .next u) : Kept false (vault s) (vault u) :=
  actAlways_kept (fun e h => by simp [h]) he

theorem execCoreRailOff_kept {t : Nat} (he : execCoreRailOff t s = .next u) : Kept false (vault s) (vault u) :=
  actAlways_kept (fun e h => by simp [h]) he

theorem execVddRetLow_kept {t : Nat} (he : execVddRetLow t s = .next u) : Kept false (vault s) (vault u) :=
  actAlways_kept (fun e h => by simp [h.loud]) he

theorem execVbatDisturbance_kept {t : Nat} {kind : VbatKind} {millivolts : Nat} (he : execVbatDisturbance t kind millivolts s = .next u) : Kept false (vault s) (vault u) :=
  actAlways_kept (fun e h => by simp [h.loud]) he

theorem execVbatDisturbanceEnd_kept {t millivolts : Nat} (he : execVbatDisturbanceEnd t millivolts s = .next u) : Kept false (vault s) (vault u) :=
  actAlways_kept (fun e h => by simp [h.loud]) he

theorem execVbatPowerOnReset_kept {t : Nat} (he : execVbatPowerOnReset t s = .next u) : Kept false (vault s) (vault u) :=
  actAlways_kept (fun e h => by simp [h]) he

theorem execPorstNAssert_kept {t : Nat} (he : execPorstNAssert t s = .next u) : Kept false (vault s) (vault u) :=
  actAlways_kept (fun e h => by simp [h]) he

theorem execSysrstNAssert_kept {t : Nat} (he : execSysrstNAssert t s = .next u) : Kept false (vault s) (vault u) :=
  actAlways_kept (fun e h => by simp [h]) he

theorem execPowerOnReset_kept {t : PowerOn} (he : execPowerOnReset t s = .next u) : Kept false (vault s) (vault u) :=
  actAlways_kept (fun e h => by simp [h]) he

theorem execSystemReset_kept {t cause : Nat} (he : execSystemReset t cause s = .next u) : Kept false (vault s) (vault u) :=
  actAlways_kept (fun e h => by simp [h]) he

theorem execControlResetComplete_kept {t : Nat} (he : execControlResetComplete t s = .next u) : Kept false (vault s) (vault u) :=
  act_kept (fun e h => by simp [h.loud]) he

theorem execClockMonitorFault_kept {t : Nat} (he : execClockMonitorFault t s = .next u) : Kept false (vault s) (vault u) :=
  actAlways_kept (fun e h => by simp [h]) he

theorem execClockMonitorReturn_kept {t : Nat} (he : execClockMonitorReturn t s = .next u) : Kept false (vault s) (vault u) :=
  actAlways_kept (fun e h => by simp [h.loud]) he

theorem execPcieReferenceLost_kept {t : Nat} (he : execPcieReferenceLost t s = .next u) : Kept false (vault s) (vault u) :=
  act_kept (fun e h => by simp [h.loud]) he

theorem execPcieReferenceReturn_kept {t : Nat} (he : execPcieReferenceReturn t s = .next u) : Kept false (vault s) (vault u) :=
  act_kept (fun e h => by simp [h.loud]) he

theorem execOsc32kStopped_kept {t : Nat} (he : execOsc32kStopped t s = .next u) : Kept false (vault s) (vault u) :=
  actAlways_kept (fun e h => by simp [h.loud]) he

theorem execJunctionTempHigh_kept {t : Nat} (he : execJunctionTempHigh t s = .next u) : Kept false (vault s) (vault u) :=
  act_kept (fun e h => by simp [h.loud]) he

theorem execJunctionTempNormal_kept {t : Nat} (he : execJunctionTempNormal t s = .next u) : Kept false (vault s) (vault u) :=
  act_kept (fun e h => by simp [h.loud]) he

theorem execBootImageVerify_kept {t : Nat} {flashAnswers bodyMatches : Bool} (he : execBootImageVerify t flashAnswers bodyMatches s = .next u) : Kept false (vault s) (vault u) :=
  act_kept (fun e h => by simp [h.loud]) he

theorem execStartUpComplete_kept {t : Nat} (he : execStartUpComplete t s = .next u) : Kept false (vault s) (vault u) :=
  act_kept (fun e h => by simp [h.loud]) he

theorem execRetainedWakeResume_kept {t : Nat} {kernelOk : Bool} (he : execRetainedWakeResume t kernelOk s = .next u) : Kept false (vault s) (vault u) :=
  act_kept (fun e h => by simp [h.loud]) he

theorem execResumeImageChecked_kept {t : Nat} {good : Bool} (he : execResumeImageChecked t good s = .next u) : Kept false (vault s) (vault u) :=
  act_kept (fun e h => by simp [h]) he

theorem execCableDiagComplete_kept {t port result distance : Nat} (he : execCableDiagComplete t port result distance s = .next u) : Kept false (vault s) (vault u) :=
  act_kept (fun e h => by simp [h.loud]) he

theorem execJtagVerifyComplete_kept {t : Nat} (he : execJtagVerifyComplete t s = .next u) : Kept false (vault s) (vault u) :=
  act_kept (fun e h => by simp [h.loud]) he

theorem execJtagInstruction_kept {t : Nat} {i : JtagInstr} (he : execJtagInstruction t i s = .next u) : Kept false (vault s) (vault u) :=
  actAlways_kept (fun e h => by simp [h]) he

theorem execRegisterWrite_kept {t : Nat} {o : Origin} {off : Nat} {v : Word} (he : execRegisterWrite t o off v s = .next u) : Kept false (vault s) (vault u) :=
  act_kept (fun e h => by simp [h.loud]) he

theorem execHello_kept {t : Nat} {q : Req} (he : execHello t q s = .next u) : Kept false (vault s) (vault u) :=
  act_kept (fun e h => by simp [h.loud]) he

theorem execSerdesReferenceReturn_kept {t : Nat} {groupB : Bool} (he : execSerdesReferenceReturn t groupB s = .next u) : Kept false (vault s) (vault u) :=
  act_kept (fun e h => by simp [h.loud]) he

theorem execMergeVerifyDone_kept {t port : Nat} (he : execMergeVerifyDone t port s = .next u) : Kept false (vault s) (vault u) :=
  act_kept (fun e h => by simp [h.loud]) he

theorem execAnnounceTx_kept {t slot port : Nat} (he : execAnnounceTx t slot port s = .next u) : Kept false (vault s) (vault u) :=
  act_kept (fun e h => by simp [h.loud]) he

theorem execSpiChipSelectFall_kept {t : Nat} (he : execSpiChipSelectFall t s = .next u) : Kept false (vault s) (vault u) :=
  actAlways_kept (fun e h => by simp [h.loud]) he

theorem execT1TrainingAttemptFail_kept {t port : Nat} (he : execT1TrainingAttemptFail t port s = .next u) : Kept false (vault s) (vault u) :=
  act_kept (fun e h => by simp [h.loud]) he

theorem execJtagTestLogicReset_kept {t : Nat} (he : execJtagTestLogicReset t s = .next u) : Kept false (vault s) (vault u) :=
  actAlways_kept (fun e h => by simp [h.loud]) he

theorem execPcsFecError_kept {t port : Nat} {k : PcsErr} (he : execPcsFecError t port k s = .next u) : Kept false (vault s) (vault u) :=
  act_kept (fun e h => by simp [h.loud]) he

/-- Every command but the completion of a fuse write keeps the memory canonical and, where no fuse write is in flight, the fuses. -/
theorem exec_kept {c : Instr} (he : exec c s = .next u) (hc : ∀ t good, c ≠ .fuseWriteComplete t good) : Kept false (vault s) (vault u) := by
  cases c
  case fuseWriteComplete t good => exact absurd rfl (hc t good)
  case sysSettings | sysBeatLength | sysPort | sysPortStatus | sysMdio | sysBridgePort | sysVlan | sysMacWrite | sysMacRead | sysAgeing |
      sysMacFlush | sysMirror | sysBuffer | sysBufferStatus | sysBridgeCounters | timeDomain | timeSource | timeSwitch | timePort | timeCorrect |
      timeJumpThreshold | timeStep | timeStatus | timePairTime | schedPortScheduler | schedGateList | schedGateListArm | schedGateStatus |
      schedShaper | schedSample | schedCounters | streamIpProfile | streamIdWrite | streamIdDelete | streamHandle | streamFilter | streamGate |
      streamGatePool | streamMeter | streamGeneration | streamRecovery | streamClear | streamFilterStatus | streamFrerStatus | filtZone |
      filtExactRule | filtTernaryRule | filtMembership | filtRuleDelete | filtBankCopy | filtSwap | filtDryRun | filtTracker | filtTrackerFlush |
      filtTrackerRead | filtBypass | filtLog | filtStatus | filtZoneCounters | filtRuleCounters | gwController | gwCanSend | gwCanAbort | gwRecover |
      gwLin | gwLinPool | gwLinTable | gwLinSelect | gwLinPublish | gwRoute | gwTunnel | gwReceiveTunnel | gwSettings | gwAuth | gwCanStatus |
      gwLinStatus | gwDrops | gwTunnelStatus | gwRouteStatus | nmWakeSource | nmStandby | nmSegment | nmRequest | nmSettings | nmOffenderRead |
      nmSegmentStatus | nmWakeSourceStatus | keySlotInfo | keyUnwrap | keyDerive | keyGenerate | keyPlainWrite | keyErase | cryptSettings |
      cryptSecy | cryptSa | cryptReceiveSc | cryptSecyStatus | cryptRxSaStatus | cryptOperation | traceSelector | traceExport | traceSettings |
      darkStatus | darkIdentity | darkCalibrationRead | darkReseal | darkTrigger | darkTriggerTable | darkWindow | darkExport | darkRelease |
      darkAttest | darkAuditRead | pairConfig | pairObject | pairBind | pairStatus | pairRelease | fwStatus | fwDownload | fwActivate | fwCommit |
      fwSettingsWrite | fwSettingsRead | fwLifecycle | testLoopback | testPrbs | testCable | testCipher | testService | testScrubStatus =>
    exact requestOf_kept he rfl
  case timeCapGo | tioArm | tioDisarm | tioModeWrite | crocusGo | crocusIgnHint | mbxDoorbell | mbxRingReset | mbxRspConsWrite | evqConsWrite |
      ringPtrConsWrite | proofPtrConsWrite | mirConsWrite | sysGo | ctrlGo | jtagUnlockGo | sysRegLockWrite | bypassLockSet | spiLockSet |
      ibLockSet | ibCfgWrite | ringCfgWrite | hpTxTailWrite | hpRxTailWrite =>
    exact regRow_kept he
  case beatBoundary => exact execBeatBoundary_kept he
  case taskListFinish => exact execTaskListFinish_kept he
  case mappingAnchor => exact execMappingAnchor_kept he
  case phaseSlewEnd => exact execPhaseSlewEnd_kept he
  case syncReceiptTimeout => exact execSyncReceiptTimeout_kept he
  case announceReceiptTimeout => exact execAnnounceReceiptTimeout_kept he
  case hotStandbyRevert => exact execHotStandbyRevert_kept he
  case gptpSyncRx => exact execGptpSyncRx_kept he
  case followUpRx => exact execFollowUpRx_kept he
  case followUpMatchTimeout => exact execFollowUpMatchTimeout_kept he
  case gmSyncTx => exact execGmSyncTx_kept he
  case announceRx => exact execAnnounceRx_kept he
  case pdelayReqTx => exact execPdelayReqTx_kept he
  case pdelayReqRx => exact execPdelayReqRx_kept he
  case pdelayRespRx => exact execPdelayRespRx_kept he
  case pairTimePulseRx => exact execPairTimePulseRx_kept he
  case pairTimePulseMissing => exact execPairTimePulseMissing_kept he
  case tioActiveEdge => exact execTioActiveEdge_kept he
  case tioInactiveEdge => exact execTioInactiveEdge_kept he
  case tioCaptureEdge => exact execTioCaptureEdge_kept he
  case portLinkUp => exact execPortLinkUp_kept he
  case portLinkLoss => exact execPortLinkLoss_kept he
  case linkHoldExpiry => exact execLinkHoldExpiry_kept he
  case serdesReferenceLost => exact execSerdesReferenceLost_kept he
  case inbandSpeedChange => exact execInbandSpeedChange_kept he
  case dlcMeasurementDone => exact execDlcMeasurementDone_kept he
  case plcaBeaconTx => exact execPlcaBeaconTx_kept he
  case plcaBeaconLoss => exact execPlcaBeaconLoss_kept he
  case plcaBeaconRestored => exact execPlcaBeaconRestored_kept he
  case frameRxCell => exact execFrameRxCell_kept he
  case macsecRxVerify => exact execMacsecRxVerify_kept he
  case frameClassify => exact execFrameClassify_kept he
  case frameEnqueue => exact execFrameEnqueue_kept he
  case frameTxStart => exact execFrameTxStart_kept he
  case frameTxEnd => exact execFrameTxEnd_kept he
  case ageingSweep => exact execAgeingSweep_kept he
  case refillTick => exact execRefillTick_kept he
  case gateListStart => exact execGateListStart_kept he
  case gateEntryStart => exact execGateEntryStart_kept he
  case gateStarveDrop => exact execGateStarveDrop_kept he
  case mergeHoldAssert => exact execMergeHoldAssert_kept he
  case mergeHoldRelease => exact execMergeHoldRelease_kept he
  case launchInstantReached => exact execLaunchInstantReached_kept he
  case streamGateListStart => exact execStreamGateListStart_kept he
  case streamGateEntryStart => exact execStreamGateEntryStart_kept he
  case frerResetTimeout => exact execFrerResetTimeout_kept he
  case latentTestTimer => exact execLatentTestTimer_kept he
  case latentResetTimer => exact execLatentResetTimer_kept he
  case trackerSweep => exact execTrackerSweep_kept he
  case bypassExpiry => exact execBypassExpiry_kept he
  case noticePost => exact execNoticePost_kept he
  case canFrameValid => exact execCanFrameValid_kept he
  case tunnelFlushDeadline => exact execTunnelFlushDeadline_kept he
  case acfFrameRx => exact execAcfFrameRx_kept he
  case canTxStart => exact execCanTxStart_kept he
  case canTxComplete => exact execCanTxComplete_kept he
  case canTxError => exact execCanTxError_kept he
  case canRxError => exact execCanRxError_kept he
  case canBoDelayExpiry => exact execCanBoDelayExpiry_kept he
  case canBusOffRecovered => exact execCanBusOffRecovered_kept he
  case canMaxAgeExpiry => exact execCanMaxAgeExpiry_kept he
  case canControllerApply => exact execCanControllerApply_kept he
  case canIntegrationDone => exact execCanIntegrationDone_kept he
  case linSlotStart => exact execLinSlotStart_kept he
  case linSlotEnd => exact execLinSlotEnd_kept he
  case wakeSourceQualify => exact execWakeSourceQualify_kept he
  case wakeTimerExpiry => exact execWakeTimerExpiry_kept he
  case ignitionPinChange => exact execIgnitionPinChange_kept he
  case offenderMinExpiry => exact execOffenderMinExpiry_kept he
  case needTimerExpiry => exact execNeedTimerExpiry_kept he
  case clusterTimerExpiry => exact execClusterTimerExpiry_kept he
  case prepareSleepTimerExpiry => exact execPrepareSleepTimerExpiry_kept he
  case shutdownComplete => exact execShutdownComplete_kept he
  case wakeToExpiry => exact execWakeToExpiry_kept he
  case keepaliveTxTimer => exact execKeepaliveTxTimer_kept he
  case wakeValidationExpiry => exact execWakeValidationExpiry_kept he
  case falseWinExpiry => exact execFalseWinExpiry_kept he
  case backoffExpiry => exact execBackoffExpiry_kept he
  case standbySnapshotAck => exact execStandbySnapshotAck_kept he
  case standbyEntryTimeout => exact execStandbyEntryTimeout_kept he
  case wakeRaceHoldExpiry => exact execWakeRaceHoldExpiry_kept he
  case bulkRequestSubmit => exact execBulkRequestSubmit_kept he
  case bulkRequestStart => exact execBulkRequestStart_kept he
  case bulkChunkEnd => exact execBulkChunkEnd_kept he
  case bulkRequestComplete => exact execBulkRequestComplete_kept he
  case cipherAlarm => exact execCipherAlarm_kept he
  case zeroizeComplete => exact execZeroizeComplete_kept he
  case pipeSelfTestDue => exact execPipeSelfTestDue_kept he
  case bulkSelfTestDue => exact execBulkSelfTestDue_kept he
  case selfTestComplete => exact execSelfTestComplete_kept he
  case entropyHealthFail => exact execEntropyHealthFail_kept he
  case darkWindowBeforeTaken => exact execDarkWindowBeforeTaken_kept he
  case darkWindowAfterClose => exact execDarkWindowAfterClose_kept he
  case darkWindowSigned => exact execDarkWindowSigned_kept he
  case evidenceCommitAck => exact execEvidenceCommitAck_kept he
  case darkClockFallback => exact execDarkClockFallback_kept he
  case darkClockReturn => exact execDarkClockReturn_kept he
  case darkWatchdogReset => exact execDarkWatchdogReset_kept he
  case vddDrkLoss => exact execVddDrkLoss_kept he
  case darkroomReset => exact execDarkroomReset_kept he
  case resealComplete => exact execResealComplete_kept he
  case csRecordAccept => exact execCsRecordAccept_kept he
  case csAnchorTimer => exact execCsAnchorTimer_kept he
  case csMappingRepeat => exact execCsMappingRepeat_kept he
  case csExportFrameFlush => exact execCsExportFrameFlush_kept he
  case csExportRingWrite => exact execCsExportRingWrite_kept he
  case pcieRead => exact execPcieRead_kept he
  case pcieWrite => exact execPcieWrite_kept he
  case writeCarriageEnd => exact execWriteCarriageEnd_kept he
  case writeTimeout => exact execWriteTimeout_kept he
  case proofFenceRead => exact execProofFenceRead_kept he
  case pcieAtomic => exact execPcieAtomic_kept he
  case atomicSemaphoreTimeout => exact execAtomicSemaphoreTimeout_kept he
  case spiReadFrame => exact execSpiReadFrame_kept he
  case spiWriteFrame => exact execSpiWriteFrame_kept he
  case spiLock => exact execSpiLock_kept he
  case spiUnlock => exact execSpiUnlock_kept he
  case spiLockTimeout => exact execSpiLockTimeout_kept he
  case msixMessage => exact execMsixMessage_kept he
  case ringGapMarker => exact execRingGapMarker_kept he
  case mirrorCopy => exact execMirrorCopy_kept he
  case mirrorDmaFail => exact execMirrorDmaFail_kept he
  case hpTxDescriptor => exact execHpTxDescriptor_kept he
  case hpRxFrameWrite => exact execHpRxFrameWrite_kept he
  case inbandFrameRx => exact execInbandFrameRx_kept he
  case pcieLinkUp => exact execPcieLinkUp_kept he
  case pcieFunctionReset => exact execPcieFunctionReset_kept he
  case requestTake => exact execRequestTake_kept he
  case partnerTokenRx => exact execPartnerTokenRx_kept he
  case partnerAckRx => exact execPartnerAckRx_kept he
  case partnerCkptPartRx => exact execPartnerCkptPartRx_kept he
  case partnerCkptAckRx => exact execPartnerCkptAckRx_kept he
  case partnerReleaseRx => exact execPartnerReleaseRx_kept he
  case partnerMappingRx => exact execPartnerMappingRx_kept he
  case partnerUpTimeout => exact execPartnerUpTimeout_kept he
  case leaseTokenTimer => exact execLeaseTokenTimer_kept he
  case leaseExpiry => exact execLeaseExpiry_kept he
  case claimWaitExpiry => exact execClaimWaitExpiry_kept he
  case claimAckTimeout => exact execClaimAckTimeout_kept he
  case interlockLowQualified => exact execInterlockLowQualified_kept he
  case interlockClaimSample => exact execInterlockClaimSample_kept he
  case checkpointTimer => exact execCheckpointTimer_kept he
  case checkpointMiss => exact execCheckpointMiss_kept he
  case controlWatchdogExpiry => exact execControlWatchdogExpiry_kept he
  case controlTakeoverComplete => exact execControlTakeoverComplete_kept he
  case eccErrorDetected => exact execEccErrorDetected_kept he
  case lookupEntryRewrite => exact execLookupEntryRewrite_kept he
  case activationBodyLoaded => exact execActivationBodyLoaded_kept he
  case settingsMigrationComplete => exact execSettingsMigrationComplete_kept he
  case flashWriteComplete => exact execFlashWriteComplete_kept he
  case railsGood => exact execRailsGood_kept he
  case coreRailBrownout => exact execCoreRailBrownout_kept he
  case coreRailOff => exact execCoreRailOff_kept he
  case vddRetLow => exact execVddRetLow_kept he
  case vbatDisturbance => exact execVbatDisturbance_kept he
  case vbatDisturbanceEnd => exact execVbatDisturbanceEnd_kept he
  case vbatPowerOnReset => exact execVbatPowerOnReset_kept he
  case porstNAssert => exact execPorstNAssert_kept he
  case sysrstNAssert => exact execSysrstNAssert_kept he
  case powerOnReset => exact execPowerOnReset_kept he
  case systemReset => exact execSystemReset_kept he
  case controlResetComplete => exact execControlResetComplete_kept he
  case clockMonitorFault => exact execClockMonitorFault_kept he
  case clockMonitorReturn => exact execClockMonitorReturn_kept he
  case pcieReferenceLost => exact execPcieReferenceLost_kept he
  case pcieReferenceReturn => exact execPcieReferenceReturn_kept he
  case osc32kStopped => exact execOsc32kStopped_kept he
  case junctionTempHigh => exact execJunctionTempHigh_kept he
  case junctionTempNormal => exact execJunctionTempNormal_kept he
  case bootImageVerify => exact execBootImageVerify_kept he
  case startUpComplete => exact execStartUpComplete_kept he
  case retainedWakeResume => exact execRetainedWakeResume_kept he
  case resumeImageChecked => exact execResumeImageChecked_kept he
  case cableDiagComplete => exact execCableDiagComplete_kept he
  case jtagVerifyComplete => exact execJtagVerifyComplete_kept he
  case jtagInstruction => exact execJtagInstruction_kept he
  case registerWrite => exact execRegisterWrite_kept he
  case hello => exact execHello_kept he
  case serdesReferenceReturn => exact execSerdesReferenceReturn_kept he
  case mergeVerifyDone => exact execMergeVerifyDone_kept he
  case announceTx => exact execAnnounceTx_kept he
  case spiChipSelectFall => exact execSpiChipSelectFall_kept he
  case t1TrainingAttemptFail => exact execT1TrainingAttemptFail_kept he
  case jtagTestLogicReset => exact execJtagTestLogicReset_kept he
  case pcsFecError => exact execPcsFecError_kept he

theorem fuseWriteComplete_mem {t : Nat} {good : Bool} (he : exec (.fuseWriteComplete t good) s = .next u) (hw : Memory.wf s.mem = true) :
    Memory.wf u.mem = true := by
  have hp : Memory.wf (passTo t { s with pending := [] }).mem = true :=
    (passTo_kept (quiet := true) t { s with pending := [] } (Kept.refl (vault s))).mem hw
  cases he
  dsimp only
  split
  · exact fusesWritten_mem good _ hp
  · exact hp

/-- Settles O5: each command keeps the relation `Kept` between the state before it and the state after it, and the completion of a fuse
write, which alone changes the fuses, leaves the memory as the passing of time does. -/
theorem everyStepKeepsMemoryCanonical : Obligations.EveryStepKeepsMemoryCanonical := by
  unfold Obligations.EveryStepKeepsMemoryCanonical
  intro s u hw hs
  cases hq : s.pending with
  | nil =>
    simp only [step, hq] at hs
    cases hs
    exact (passTo_kept (quiet := true) (s.time.now + 1) s (Kept.refl (vault s))).mem hw
  | cons c r =>
    simp only [step, hq] at hs
    by_cases hc : ∀ t good, c ≠ .fuseWriteComplete t good
    · exact (exec_kept hs hc).mem hw
    · obtain ⟨t, good, rfl⟩ : ∃ t good, c = .fuseWriteComplete t good := by
        push Not at hc
        exact hc
      exact fuseWriteComplete_mem hs hw

/-- Settles O6: `Kept` bounds the floor in every state, and without a fuse write in flight it keeps the fuses. -/
theorem fusesChangeOnlyByAFuseWrite : Obligations.FusesChangeOnlyByAFuseWrite := by
  unfold Obligations.FusesChangeOnlyByAFuseWrite
  intro c s u he hc
  have hk := exec_kept he hc
  exact ⟨hk.floor, fun hb => hk.fuses ((fuseBusy_iff s).mp hb)⟩

end Sys2Proof.Machine
end

section
/-!
PROOFS. Writes of ring, source, mailbox and host-port registers (R476, R486, R490, R519, R525, R544).
-/
namespace Sys2Proof.Machine
open Sys2Proof Sys2Proof.Safety

/-! ### Where the registers lie -/

theorem rMBX_writable : ∀ m < 8, ∀ d ∈ [0, 4, 8], writableReg (rMBX m d) = true := by decide
theorem rMBX_place : ∀ m < 8, ∀ d ∈ [0, 4, 8], rMBX m d / 0x10000 = 2 ∧ slotOf (rMBX m d % 0x10000) 0 0x20 8 = some (m, d) := by decide

theorem rEVQ_writable : ∀ e < 8, writableReg (rEVQ e 0) = true := by decide
theorem rEVQ_place : ∀ e < 8, rEVQ e 0 / 0x10000 = 3 ∧ (decide (0x1000 ≤ rEVQ e 0 % 0x10000) && decide (rEVQ e 0 % 0x10000 < 0x1100)) = false ∧
    slotOf (rEVQ e 0 % 0x10000) 0 0x10 8 = some (e, 0) := by decide

theorem rSOURCE_writable : ∀ i < 52, ∀ d ∈ [0, 0x14, 0x1C], writableReg (rSOURCE i d) = true := by decide
theorem rSOURCE_slot : ∀ i < 52, ∀ d ∈ [0, 0x14, 0x1C], slotOf (rSOURCE i d % 0x10000) 0x2000 0x20 52 = some (i, d) := by decide

theorem rIB_CFG_writable : ∀ m < 8, writableReg (rIB_CFG m) = true := by decide
theorem rIB_CFG_place : ∀ m < 8, slotOf (rIB_CFG m % 0x10000) 0x2000 0x20 52 = none := by decide

/-! ### What the registers of a mailbox and of an event queue refuse and start -/

section Place
variable {m e : Nat} (s s0 : State) (o : Origin) (old w v : Word)

theorem regRefuses_ringCtrl (hm : m < 8) : regRefuses s o (rMBX m 0) w v = none := by
  obtain ⟨hblock, hslot⟩ := rMBX_place m hm 0 (by simp)
  simp only [regRefuses, hblock, hslot]

theorem regActs_ringCtrl (hm : m < 8) : regActs s0 (rMBX m 0) old w s = if bit w 31 then ringReset m s else s := by
  obtain ⟨hblock, hslot⟩ := rMBX_place m hm 0 (by simp)
  simp only [regActs, hblock, hslot]

theorem regRefuses_doorbell (hm : m < 8) : regRefuses s o (rMBX m 4) w v =
    if inbandOn s m && o ≠ .inband then some cRING_OWNED else if doorbellRefuses s m (bits w 28 16) then some cCONFIG else none := by
  obtain ⟨hblock, hslot⟩ := rMBX_place m hm 4 (by simp)
  simp only [regRefuses, hblock, hslot]

theorem regActs_doorbell (hm : m < 8) : regActs s0 (rMBX m 4) old w s = doorbell m (bits w 28 16) s := by
  obtain ⟨hblock, hslot⟩ := rMBX_place m hm 4 (by simp)
  simp only [regActs, hblock, hslot]

theorem regRefuses_rspCons (hm : m < 8) : regRefuses s o (rMBX m 8) w v = consRefuses s (.rsp m) (bits w 12 0) := by
  obtain ⟨hblock, hslot⟩ := rMBX_place m hm 8 (by simp)
  simp only [regRefuses, hblock, hslot]

theorem regActs_rspCons (hm : m < 8) : regActs s0 (rMBX m 8) old w s = consWritten (.rsp m) (bits w 12 0) s := by
  obtain ⟨hblock, hslot⟩ := rMBX_place m hm 8 (by simp)
  simp only [regActs, hblock, hslot]

theorem regRefuses_evqCons (he : e < 8) : regRefuses s o (rEVQ e 0) w v = consRefuses s (.evq e) (bits w 8 0) := by
  obtain ⟨hblock, _, hslot⟩ := rEVQ_place e he
  simp only [regRefuses, hblock, hslot]

theorem regActs_evqCons (he : e < 8) : regActs s0 (rEVQ e 0) old w s = consWritten (.evq e) (bits w 8 0) s := by
  obtain ⟨hblock, hroute, hslot⟩ := rEVQ_place e he
  simp only [regActs, hblock, hslot, hroute, Bool.false_eq_true, if_false]

/-! ### What the registers of the bridge refuse and start -/

theorem regRefuses_proofPtr : regRefuses s o rPROOF_PTR w v = if consOk s .proof (bits w 6 0) then none else some cCONFIG := rfl

theorem regActs_proofPtr : regActs s0 rPROOF_PTR old w s = consWritten .proof (bits w 6 0) s := rfl

theorem regRefuses_rSOURCE {i d : Nat} (hi : i < 52) (hd : d ∈ [0, 0x14, 0x1C]) : regRefuses s o (rSOURCE i d) w v =
    if d = 0 then (if cfgRefuses s i w then some cCONFIG else none)
    else if d ≤ 0x10 then (if mirrored s i && w ≠ regGet s (rSOURCE i d) then some cCONFIG else none)
    else if d = 0x1C && 16 ≤ i && i < 49 then (sourceRing i).elim none (fun id => consRefuses s id (bits w 15 0 % ringMod id))
    else none := by
  have hslot := rSOURCE_slot i hi d hd
  have hd' : d < 0x20 := by
    simp only [List.mem_cons, List.not_mem_nil, or_false] at hd
    omega
  have hoff : rSOURCE i d = 0x10000 + (0x2000 + 0x20 * i + d) := by
    simp only [rSOURCE, blkBRG]
    omega
  have hx : rSOURCE i d % 0x10000 = 0x2000 + 0x20 * i + d := by omega
  have hblock : rSOURCE i d / 0x10000 = 1 := by omega
  have hptr : rSOURCE i d ≠ rPROOF_PTR := by
    simp only [rPROOF_PTR, blkBRG]
    omega
  rw [hx] at hslot
  simp only [regRefuses, hblock, hx, hslot, hptr, if_false]
  rw [if_neg (by simp; omega), if_neg (by simp; omega)]
  cases sourceRing i <;> rfl

theorem regActs_rSOURCE {i d : Nat} (hi : i < 52) (hd : d ∈ [0, 0x14, 0x1C]) : regActs s0 (rSOURCE i d) old w s =
    if d = 0x14 then (if i < 49 then armSource i s else s)
    else if d = 0x1C then
      (sourceRing i).elim s (fun id => if 16 ≤ i && i < 49 then consWritten id (bits w 15 0 % ringMod id) s else s)
    else s := by
  have hslot := rSOURCE_slot i hi d hd
  have hd' : d < 0x20 := by
    simp only [List.mem_cons, List.not_mem_nil, or_false] at hd
    omega
  have hoff : rSOURCE i d = 0x10000 + (0x2000 + 0x20 * i + d) := by
    simp only [rSOURCE, blkBRG]
    omega
  have hx : rSOURCE i d % 0x10000 = 0x2000 + 0x20 * i + d := by omega
  have hblock : rSOURCE i d / 0x10000 = 1 := by omega
  rw [hx] at hslot
  simp only [regActs, hblock, hx, brgActs, hslot]
  rw [if_neg (by omega), if_neg (by simp; omega), if_neg (by simp; omega), if_neg (by omega), if_neg (by omega), if_neg (by omega)]
  simp only [List.mem_cons, List.not_mem_nil, or_false] at hd
  rcases hd with rfl | rfl | rfl
  · rfl
  · rfl
  · simp only [Nat.reduceEqDiff, if_false, if_true]
    cases sourceRing i <;> rfl

theorem regRefuses_ibCfg (hm : m < 8) : regRefuses s o (rIB_CFG m) w v = if regBit s rBRG_CTRL 24 then some cLOCKED else none := by
  have hoff : rIB_CFG m = 0x10000 + (0x2900 + 4 * m) := by
    simp only [rIB_CFG, blkBRG]
    omega
  have hx : rIB_CFG m % 0x10000 = 0x2900 + 4 * m := by omega
  have hblock : rIB_CFG m / 0x10000 = 1 := by omega
  have hptr : rIB_CFG m ≠ rPROOF_PTR := by
    simp only [rPROOF_PTR, blkBRG]
    omega
  simp only [regRefuses, hblock, hx, hptr, if_false]
  rw [if_neg (by simp; omega), if_pos (by simp; omega)]

theorem regActs_ibCfg (hm : m < 8) : regActs s0 (rIB_CFG m) old w s = s := by
  have hslot := rIB_CFG_place m hm
  have hoff : rIB_CFG m = 0x10000 + (0x2900 + 4 * m) := by
    simp only [rIB_CFG, blkBRG]
    omega
  have hx : rIB_CFG m % 0x10000 = 0x2900 + 4 * m := by omega
  have hblock : rIB_CFG m / 0x10000 = 1 := by omega
  rw [hx] at hslot
  simp only [regActs, hblock, hx, brgActs, hslot]
  rw [if_neg (by omega), if_neg (by simp; omega), if_neg (by simp; omega), if_neg (by omega), if_neg (by omega), if_neg (by omega)]

theorem regRefuses_hpTxTail : regRefuses s o (rHP_TX 0x0C) w v = none := rfl
theorem regRefuses_hpRxTail : regRefuses s o (rHP_RX 0x0C) w v = none := rfl
theorem regActs_hpTxTail : regActs s0 (rHP_TX 0x0C) old w s = armSource 50 { s with bridge := { s.bridge with txDone := 0 } } := rfl
theorem regActs_hpRxTail : regActs s0 (rHP_RX 0x0C) old w s = armSource 49 { s with bridge := { s.bridge with rxDone := 0 } } := rfl

end Place

/-! ### Consumer pointers and doorbells -/

theorem consRefuses_of_ok {s : State} {id : RingId} {v i : Nat} (hi : sourceOfRing id = i) (hm : mirrored s i = false) (hc : consOk s id v = true) :
    consRefuses s id v = none := by
  subst hi
  simp [consRefuses, hm, hc]

/-- A source of a CAN, LIN or trace ring is the one that the ring names (R484). -/
theorem sourceOfRing_of_sourceRing {i : Nat} {id : RingId} (h : sourceRing i = some id) : sourceOfRing id = i := by
  unfold sourceRing at h
  (repeat' split at h) <;> cases h <;> simp only [sourceOfRing] <;> omega

/-- The doorbell register stores no pointer: the ring moves (R519). -/
@[simp] theorem ringOf_stored (reg : Nat) (a : Alias) (v : Word) (s : State) (id : RingId) : ringOf (stored reg a v s) id = ringOf s id := by
  cases id <;> rfl

theorem doorbell_moves {m v : Nat} {s : State} (h : v ≠ (ringOf s (.req m)).prod) :
    doorbell m v s = setRing (.req m) { ringOf s (.req m) with
      prod := v, ends := (ringOf s (.req m)).ends ++ [v], landed := some (s.time.now, ringShown s (.req m)) } s := if_neg h

/-- Settles O46: each register stores, moves its ring or arms its source, and under its conditions refuses nothing. -/
theorem ringRegisterWritesTakeEffect : Obligations.RingRegisterWritesTakeEffect := by
  unfold Obligations.RingRegisterWritesTakeEffect
  refine ⟨fun m hm => ?doorbell, fun m hm => ?reset, fun m hm => ?rspCons, fun e he => ?evqCons, fun i id hlow hhigh hid => ?ringPtr, ?proof,
    fun i hi => ?mirror, fun i hlow hhigh => ?noMirror, fun i hi => ?cfg, fun m hm => ?inband, ?txTail, ?rxTail⟩
  case doorbell =>
    refine writes_row (rMBX_writable m hm 4 (by simp)) (fun _ _ _ _ _ => by simp only [exec, execMbxDoorbell, hm, decide_true])
      (fun s o a v ⟨hin, hok, _⟩ => ?_) fun s o a v ⟨_, _, hnew⟩ => ?_
    · rw [regRefuses_doorbell _ _ _ _ hm, if_neg (by simpa using hin), if_neg (by simp [hok])]
    · rw [regActs_doorbell _ _ _ _ hm]
      exact doorbell_moves (by rwa [ringOf_stored])
  case reset =>
    refine writes_row (rMBX_writable m hm 0 (by simp)) (fun _ _ _ _ _ => by simp only [exec, execMbxRingReset, hm, decide_true])
      (fun s o a v _ => regRefuses_ringCtrl _ _ _ _ hm) fun s o a v hset => ?_
    rw [regActs_ringCtrl _ _ _ _ hm, if_pos hset]
  case rspCons =>
    refine writes_row (rMBX_writable m hm 8 (by simp)) (fun _ _ _ _ _ => by simp only [exec, execMbxRspConsWrite, hm, decide_true])
      (fun s o a v ⟨hmir, hc⟩ => ?_) fun s o a v _ => regActs_rspCons _ _ _ _ hm
    rw [regRefuses_rspCons _ _ _ _ hm]
    exact consRefuses_of_ok rfl hmir hc
  case evqCons =>
    refine writes_row (rEVQ_writable e he) (fun _ _ _ _ _ => by simp only [exec, execEvqConsWrite, he, decide_true])
      (fun s o a v ⟨hmir, hc⟩ => ?_) fun s o a v _ => regActs_evqCons _ _ _ _ he
    rw [regRefuses_evqCons _ _ _ _ he]
    exact consRefuses_of_ok rfl hmir hc
  case ringPtr =>
    have hi : i < 52 := by omega
    have hsrc := sourceOfRing_of_sourceRing hid
    refine writes_row (rSOURCE_writable i hi 0x1C (by simp)) (fun _ _ _ _ _ => by simp only [exec, execRingPtrConsWrite, hlow, hhigh, decide_true, Bool.and_true])
      (fun s o a v ⟨hmir, hc⟩ => ?_) fun s o a v _ => ?_
    · rw [regRefuses_rSOURCE _ _ _ _ hi (by simp)]
      simpa [hid, hlow, hhigh] using consRefuses_of_ok hsrc hmir hc
    · rw [regActs_rSOURCE _ _ _ _ hi (by simp)]
      simp [hid, hlow, hhigh, consWritten, hsrc]
  case proof =>
    exact writes_row (by decide) (fun _ _ _ _ _ => rfl) (fun s o a v hc => (regRefuses_proofPtr _ _ _ _).trans (if_pos hc))
      fun s o a v _ => regActs_proofPtr _ _ _ _
  case mirror =>
    have hi' : i < 52 := by omega
    refine writes_row (rSOURCE_writable i hi' 0x14 (by simp)) (fun _ _ _ _ _ => by simp only [exec, execMirConsWrite, hi', decide_true])
      (fun s o a v _ => regRefuses_rSOURCE _ _ _ _ hi' (by simp)) fun s o a v _ => ?_
    rw [regActs_rSOURCE _ _ _ _ hi' (by simp), if_pos rfl, if_pos hi]
  case noMirror =>
    refine writes_row (rSOURCE_writable i hhigh 0x14 (by simp)) (fun _ _ _ _ _ => by simp only [exec, execMirConsWrite, hhigh, decide_true])
      (fun s o a v _ => regRefuses_rSOURCE _ _ _ _ hhigh (by simp)) fun s o a v _ => ?_
    rw [regActs_rSOURCE _ _ _ _ hhigh (by simp), if_pos rfl, if_neg (by omega)]
  case cfg =>
    refine writes_row (rSOURCE_writable i hi 0 (by simp)) (fun _ _ _ _ _ => by simp only [exec, execRingCfgWrite, hi, decide_true])
      (fun s o a v hok => ?_) fun s o a v _ => regActs_rSOURCE _ _ _ _ hi (by simp)
    rw [regRefuses_rSOURCE _ _ _ _ hi (by simp), if_pos rfl, if_neg (by simp [hok])]
  case inband =>
    refine writes_row (rIB_CFG_writable m hm) (fun _ _ _ _ _ => by simp only [exec, execIbCfgWrite, hm, decide_true])
      (fun s o a v hopen => ?_) fun s o a v _ => regActs_ibCfg _ _ _ _ hm
    rw [regRefuses_ibCfg _ _ _ _ hm, if_neg (by simp [hopen])]
  case txTail =>
    exact writes_row (by decide) (fun _ _ _ _ _ => rfl) (fun _ _ _ _ _ => regRefuses_hpTxTail _ _ _ _) fun _ _ _ _ _ => regActs_hpTxTail _ _ _ _
  case rxTail =>
    exact writes_row (by decide) (fun _ _ _ _ _ => rfl) (fun _ _ _ _ _ => regRefuses_hpRxTail _ _ _ _) fun _ _ _ _ _ => regActs_hpRxTail _ _ _ _

end Sys2Proof.Machine
end

section
/-!
PROOFS. The service of requests, notices and HELLO (R526, R529, R533, R540, R541, R543, R544, R546).
-/
namespace Sys2Proof.Machine
open Sys2Proof Sys2Proof.Safety

variable {s : State} {m : Nat}

/-- The next mailbox with a request ready is served, and the turn passes on (R526). -/
theorem takeNext_serves (hs : serves s = true) (hm : ((List.range 8).map (fun i => (s.mbx.turn + i) % 8)).find? (ready s) = some m) :
    takeNext s = takeFrom m { s with mbx := { s.mbx with turn := (m + 1) % 8 } } := by
  unfold takeNext
  rw [if_neg (by simp [hs])]
  simp only [hm]

theorem takeFrom_desynced (h : (boxOf s m).state = 2) : takeFrom m s = discardRequests m s := if_pos h

theorem takeFrom_bad (h : (boxOf s m).state ≠ 2) (hbad : badHeader s m = true) : takeFrom m s = desync m s := by
  rw [takeFrom, if_neg h, if_pos hbad]

/-- The first word of a request is its header word (R529). -/
theorem rw_ringWords_zero {n : Nat} (h : 0 < n) : rw (ringWords s (.req m) (ringOf s (.req m)).cons n) 0 = headWord s m := by
  obtain ⟨k, rfl⟩ : ∃ k, n = k + 1 := ⟨n - 1, by omega⟩
  simp [headWord, ringWords, rw, List.range_succ_eq_map]

/-- A good header names at least the four header words (R529, R544). -/
theorem length_of_goodHeader (h : badHeader s m = false) : 4 ≤ bits (headWord s m) 27 16 := by
  simp only [badHeader, Bool.or_eq_false_iff, decide_eq_false_iff_not] at h
  omega

theorem takeFrom_good (h : (boxOf s m).state ≠ 2) (hgood : badHeader s m = false) (hop : bits (headWord s m) 15 0 ≠ 0x0100) :
    takeFrom m s =
      let n := bits (headWord s m) 27 16
      let ws := ringWords s (.req m) (ringOf s (.req m)).cons n
      serve (fld ws 0 15 0) (meaningOf (fld ws 0 15 0) (rw ws 2)) (requestOf m ws) (ringConsume (.req m) (((ringOf s (.req m)).cons + n) % ringMod (.req m)) s) := by
  have hhead := rw_ringWords_zero (s := s) (m := m) (n := bits (headWord s m) 27 16) (by have := length_of_goodHeader hgood; omega)
  rw [takeFrom, if_neg h, if_neg (by simp [hgood])]
  exact if_neg (by rwa [fld, hhead])

/-- A notice enters the response ring that has room for it (R533, R546). -/
theorem postNotice_posts {n : Notice} {r : List Notice} (hs : serves s = true) (hn : s.mbx.notices = n :: r)
    (hroom : 4 + n.payload.length ≤ ringFree s (.rsp s.mbx.noticeMbx)) :
    postNotice s =
      let m := s.mbx.noticeMbx
      let e := { s with mbx := { s.mbx with notices := r } }
      postMessage m (message s 3 n.opcode (word (boxOf s m).noticeSeq) (versionOf s m).1 (versionOf s m).2 true false 0 n.payload)
        (setBox m { boxOf e m with noticeSeq := ((boxOf s m).noticeSeq + 1) % 2 ^ 32 } e) := by
  unfold postNotice
  rw [hn]
  refine if_neg ?_
  simp only [hs, message, List.length_append, List.length_cons, List.length_nil, Bool.not_true, Bool.false_or, decide_eq_true_eq]
  omega

section Hello
variable {q : Req} (hm : q.mbx < 8) (hlen : q.args.length = 1) (hres : mf q 4 15 0 = 0) (hs : serves s = true) (hboot : s.sys.fw.boot = .served)
  (hroom : 2048 ≤ ringFree s (.rsp q.mbx)) (hstate : (boxOf s q.mbx).state ≠ 2) (hidle : (boxOf s q.mbx).deferred = none)
include hm hlen hres hs hboot hroom hstate hidle

/-- A HELLO of the full image is answered by the versions that both sides serve (R540). -/
theorem helloServe_answers : helloServe q s =
    let b := boxOf s q.mbx
    let v := min (mf q 4 23 16) (devVersions s).2
    let dev := fun (resumed lost : Bool) (ver ack : Nat) =>
      ([packW [(8, ver), (8, (devVersions s).1), (8, (devVersions s).2), (1, b2n lost), (1, b2n resumed), (6, 0)], word ack,
        packW [(16, (release s).1), (16, (release s).2)], packW [(16, s.time.epoch), (16, s.sys.fw.lifecycle)]] : Rec)
    if v < mf q 4 31 24 ∨ v < (devVersions s).1 then respond q.mbx 0x0100 q.seq 1 0 true false 9 (dev (b.state = 1) false 0 b.ack.toNat) s
    else
      let ack := if b.state = 0 then q.seq - 1 else b.ack
      respond q.mbx 0x0100 q.seq 1 0 true false 0 (dev (b.state = 1) b.journalLost v ack.toNat)
        (setBox q.mbx { b with state := 1, verMaj := v / 16, verMin := v % 16, ack := ack, journalLost := false } s) := by
  have hopen : ¬ (decide (8 ≤ q.mbx) || !serves s || decide (ringFree s (.rsp q.mbx) < 2048) || safelightShut s q.mbx || decide ((boxOf s q.mbx).state = 2)) = true := by
    simp [hs, hboot, hstate, safelightShut]
    omega
  have hwell : ¬ (decide (q.args.length ≠ 1) || decide (mf q 4 15 0 ≠ 0)) = true := by simp [hlen, hres]
  unfold helloServe
  dsimp only
  rw [if_neg hopen, if_neg (by simp [hidle]), if_neg hwell]
  simp only [Bool.or_eq_true, decide_eq_true_eq]

end Hello

/-- Settles O47: the mailbox in turn is served by what its request ring holds, and the HELLO by the versions. -/
theorem mailboxServiceTakesEffect : Obligations.MailboxServiceTakesEffect := by
  unfold Obligations.MailboxServiceTakesEffect
  refine ⟨fun m => ?discard, fun m => ?bad, fun m => ?good, fun n r => ?notice, fun q v hm hlen hres => ?hello, fun q v hm hlen hres => ?refused⟩
  case discard =>
    refine does_of takeNext (fun _ _ => rfl) fun s _ ⟨hs, hm, hstate⟩ => ?_
    rw [takeNext_serves hs hm, takeFrom_desynced (by exact hstate)]
  case bad =>
    refine does_of takeNext (fun _ _ => rfl) fun s _ ⟨hs, hm, hstate, hbad⟩ => ?_
    rw [takeNext_serves hs hm, takeFrom_bad (by exact hstate) (by exact hbad)]
    rfl
  case good =>
    refine does_of takeNext (fun _ _ => rfl) fun s _ ⟨hs, hm, hstate, hgood, hop⟩ => ?_
    rw [takeNext_serves hs hm]
    exact takeFrom_good hstate hgood hop
  case notice =>
    exact does_of postNotice (fun _ _ => rfl) fun s _ ⟨hs, hn, hroom⟩ => postNotice_posts hs hn hroom
  case hello =>
    refine does_of (helloServe q) (fun _ _ => rfl) fun s _ ⟨hs, hboot, hroom, hstate, hidle, hv, hlo, hdev⟩ => ?_
    rw [helloServe_answers hm hlen hres hs hboot hroom hstate hidle]
    dsimp only
    rw [← hv, if_neg (by omega)]
  case refused =>
    refine does_of (helloServe q) (fun _ _ => rfl) fun s _ ⟨hs, hboot, hroom, hstate, hidle, hv, hlow⟩ => ?_
    rw [helloServe_answers hm hlen hres hs hboot hroom (by omega) hidle]
    dsimp only
    rw [← hv, if_pos hlow, hstate]
    rfl

end Sys2Proof.Machine
end

section
/-!
PROOFS. The messages, timers and pins of a redundant pair (R467, R582 to R594).
-/
namespace Sys2Proof.Machine
open Sys2Proof Sys2Proof.Safety

variable {s : State}

/-! ### Messages -/

section Message
variable {type : Nat} {m : Rec} {f : State → State} (hen : s.pair.en = true) (hup : portUp s s.pair.port = true)
include hen hup

/-- A message that is not valid is dropped (R582). -/
theorem pairRx_invalid (hv : pairValid type m s = false) : pairRx type m f s = pairEvent 0x07 none (count (rPAIR 0x0C) 31 24 s) := by
  rw [pairRx, if_neg (by simp [hen, hup]), if_pos (by simp [hv])]
  rfl

/-- A valid message is acknowledged and acts (R583, R590). -/
theorem pairRx_valid (htype : type ≠ 2) (hv : pairValid type m s = true) : pairRx type m f s = f (pairSend 2 [rw m 1] [] (pairAccept m s)) := by
  rw [pairRx, if_neg (by simp [hen, hup]), if_neg (by simp [hv]), if_neg htype]

/-- An acknowledgement acts without one. -/
theorem pairRx_ack (hv : pairValid 2 m s = true) : pairRx 2 m f s = f (pairAccept m s) := by
  rw [pairRx, if_neg (by simp [hen, hup]), if_neg (by simp [hv])]
  rfl

/-- An acknowledgement extends the leases of the objects that its token named (R588). -/
theorem ackRx_valid {n at0 : Nat} {objs : List Nat} (hn : n = (rw (msgBody m) 0).toNat) (hv : pairValid 2 m s = true)
    (hfind : (pairAccept m s).pair.tokens.find? (fun t => t.1 = n) = some (n, at0, objs)) :
    ackRx m s =
      let a := objs.foldl (fun s o =>
        let x := objOf s o
        if x.owned && !x.interlock then setObj o { x with lease := some (max (x.lease.getD 0) (at0 + 20000000)) } s else s) (pairAccept m s)
      giveWay (.acked n) { a with pair := { a.pair with tokens := a.pair.tokens.filter (fun t => t.1 ≠ n) } } := by
  subst hn
  rw [ackRx, pairRx_ack hen hup hv]
  simp only [hfind]
  rfl

/-- A part of a checkpoint is kept, and the last one applies the checkpoint (R591). -/
theorem partRx_valid {n : Nat} (hn : n = (rw (msgBody m) 0).toNat) (hpos : 0 < fld (msgBody m) 1 15 0) (hmax : fld (msgBody m) 1 15 0 ≤ 14)
    (hpart : fld (msgBody m) 1 31 16 < fld (msgBody m) 1 15 0) (hv : pairValid 3 m s = true) :
    partRx m s =
      let e := pairSend 2 [rw m 1] [] (pairAccept m s)
      let parts := tset [] (if e.pair.partNum = n then e.pair.parts else []) (fld (msgBody m) 1 31 16) ((msgBody m).drop 2)
      if (List.range (fld (msgBody m) 1 15 0)).all (fun i => tget [] parts i ≠ []) = true then
        pairSend 4 [word n] [] { e with pair := { e.pair with
          ckpt := some (n, e.time.now, (List.range (fld (msgBody m) 1 15 0)).flatMap (fun i => tget [] parts i)), parts := [], partNum := n
          missFrom := e.time.now } }
      else { e with pair := { e.pair with partNum := n, parts := parts } } := by
  subst hn
  rw [partRx, pairRx_valid hen hup (by decide) hv]
  refine (if_neg ?_).trans rfl
  simp only [Bool.or_eq_true, decide_eq_true_eq, not_or, Nat.not_lt, Nat.not_le]
  exact ⟨⟨Nat.ne_of_gt hpos, hmax⟩, hpart⟩

/-- A release hands over its object at the end of its cycle (R593). -/
theorem releaseRx_valid {o : Nat} (ho : objNumber (fld (msgBody m) 0 31 30) (fld (msgBody m) 0 29 25) = some o) (hv : pairValid 5 m s = true) :
    releaseRx m s = giveWay (.handed o) (pairSend 2 [rw m 1] [] (pairAccept m s)) := by
  rw [releaseRx, pairRx_valid hen hup (by decide) hv]
  simp only [ho]

end Message

/-! ### What gives way to the messages of its cycle -/

theorem handedOver_enabled {o : Nat} (hen : s.pair.en = true) :
    handedOver o s = if (objOf s o).interlock = true then takeGroup false s else takeObj o false none s := by
  rw [handedOver, if_neg (by simp [hen])]

theorem takeObj_disabled {o : Nat} {advance : Bool} {lease : Option Nat} (hen : s.pair.en = false) : takeObj o advance lease s = s :=
  if_pos (by simp [hen])

theorem claimsDone_disabled {n : Nat} (hen : s.pair.en = false) : claimsDone n s = s := by
  unfold claimsDone
  induction List.range 40 with
  | nil => rfl
  | cons o l ih =>
    rw [List.foldl_cons]
    cases (objOf s o).claim with
    | none => exact ih
    | some c =>
      dsimp only
      rw [takeObj_disabled hen, ite_self]
      exact ih

theorem handedOver_disabled {o : Nat} (hen : s.pair.en = false) : handedOver o s = s := if_pos (by simp [hen])

/-- Settles O36: a valid message is accepted and acknowledged and then acts by its type. -/
theorem partnerMessagesTakeEffect : Obligations.PartnerMessagesTakeEffect := by
  unfold Obligations.PartnerMessagesTakeEffect
  refine ⟨fun m => ?token, fun m => ?ckptAck, fun m => ?mapping, fun m => ?badToken, fun m => ?badAck, fun m => ?badPart, fun m => ?badCkptAck,
    fun m => ?badRelease, fun m => ?badMapping, fun m n at0 objs hn => ?ack, fun n s => rfl, fun m n hn hpos hmax hpart => ?part, fun m o ho => ?release,
    fun o s hen => handedOver_enabled hen, fun o k s hen => ⟨handedOver_disabled hen, claimsDone_disabled hen⟩⟩
  case token => exact does_of (tokenRx m) (fun _ _ => rfl) fun s _ ⟨hen, hup, hv⟩ => pairRx_valid hen hup (by decide) hv
  case ckptAck => exact does_of (ckptAckRx m) (fun _ _ => rfl) fun s _ ⟨hen, hup, hv⟩ => pairRx_valid hen hup (by decide) hv
  case mapping => exact does_of (partnerMapRx m) (fun _ _ => rfl) fun s _ ⟨hen, hup, hv⟩ => pairRx_valid hen hup (by decide) hv
  case badToken => exact does_of (tokenRx m) (fun _ _ => rfl) fun s _ ⟨hen, hup, hv⟩ => pairRx_invalid hen hup hv
  case badAck => exact does_of (ackRx m) (fun _ _ => rfl) fun s _ ⟨hen, hup, hv⟩ => pairRx_invalid hen hup hv
  case badPart => exact does_of (partRx m) (fun _ _ => rfl) fun s _ ⟨hen, hup, hv⟩ => pairRx_invalid hen hup hv
  case badCkptAck => exact does_of (ckptAckRx m) (fun _ _ => rfl) fun s _ ⟨hen, hup, hv⟩ => pairRx_invalid hen hup hv
  case badRelease => exact does_of (releaseRx m) (fun _ _ => rfl) fun s _ ⟨hen, hup, hv⟩ => pairRx_invalid hen hup hv
  case badMapping => exact does_of (partnerMapRx m) (fun _ _ => rfl) fun s _ ⟨hen, hup, hv⟩ => pairRx_invalid hen hup hv
  case ack => exact does_of (ackRx m) (fun _ _ => rfl) fun s _ ⟨hen, hup, hv, hfind⟩ => ackRx_valid hen hup hn hv hfind
  case part => exact does_of (partRx m) (fun _ _ => rfl) fun s _ ⟨hen, hup, hv⟩ => partRx_valid hen hup hn hpos hmax hpart hv
  case release => exact does_of (releaseRx m) (fun _ _ => rfl) fun s _ ⟨hen, hup, hv⟩ => releaseRx_valid hen hup ho hv

/-! ### Timers and pins -/

/-- 20 ms of silence make the partner down (R583). -/
theorem partnerTimeout_silent (hup : s.pair.up = true) (hsilent : ∀ a, s.pair.lastAt = some a → a + 20000000 ≤ s.time.now) :
    partnerTimeout s = pairEvent 0x04 none { s with pair := { s.pair with up := false } } := by
  unfold partnerTimeout
  cases ha : s.pair.lastAt with
  | none => simp only [hup, Bool.true_and, if_true, setPair]
  | some a => simp only [hup, hsilent a ha, decide_true, Bool.true_and, if_true, setPair]

/-- The owner of leased objects sends a token every 5 ms (R588). -/
theorem tokenDue_sends (hen : s.pair.en = true) (howner : leased s ≠ []) (hdue : ∀ a, s.pair.lastToken = some a → a + 5000000 ≤ s.time.now) :
    tokenDue s = sendToken [] { s with pair := { s.pair with lastToken := some s.time.now } } := by
  unfold tokenDue
  cases ha : s.pair.lastToken with
  | none => simp [hen, howner, setPair]
  | some a => simp [hen, howner, hdue a ha, setPair]

/-- A lease that runs out gives its object up for a second (R588). -/
theorem leaseEnds_expired {o e : Nat} (hl : (objOf s o).lease = some e) (how : (objOf s o).owned = true) (hi : (objOf s o).interlock = false)
    (he : e ≤ s.time.now) :
    leaseEnds o s = pairEvent 0x08 (some o) (setObj o { objOf (dropObj o s) o with notBefore := s.time.now + 1000000000 } (dropObj o s)) := by
  unfold leaseEnds
  simp only [hl]
  rw [if_pos (by simp [how, hi, he])]

section Claim
variable {o : Nat} (ho : o < 40) (hen : s.pair.en = true) (hown : (objOf s o).owned = false) (hil : (objOf s o).interlock = false)
  (hclaim : (objOf s o).claim = none) (hbefore : (objOf s o).notBefore ≤ s.time.now) (hwait : (objOf s o).waitFrom + claimWait s ≤ s.time.now)
include ho hen hown hil hclaim hbefore hwait

/-- After its claim wait a device takes the object of an owner that is silent (R589). -/
theorem claimDue_silent (hsilent : ∀ a, s.pair.lastAt = some a → a + 25000000 ≤ s.time.now) : claimDue o s = takeObj o true none s := by
  unfold claimDue
  dsimp only
  rw [if_neg]
  · cases hlast : s.pair.lastAt with
    | none => simp only [if_true]
    | some a => simp only [hsilent a hlast, decide_true, if_true]
  · simp [hen, hown, hil, hclaim]
    omega

/-- It claims the object of an owner that it hears (R589). -/
theorem claimDue_heard {a : Nat} (hlast : s.pair.lastAt = some a) (hheard : s.time.now < a + 25000000) :
    claimDue o s = setObj o { objOf (sendToken [o] s) o with claim := some (s.pair.txSeq, s.time.now) } (sendToken [o] s) := by
  unfold claimDue
  dsimp only
  rw [if_neg]
  · simp only [hlast, Nat.not_le.mpr hheard, decide_false, Bool.false_eq_true, if_false]
  · simp [hen, hown, hil, hclaim]
    omega

end Claim

theorem claimDue_early {o : Nat} (h : s.time.now < (objOf s o).waitFrom + claimWait s) : claimDue o s = s :=
  if_pos (by simp [h])

/-- A claim without acknowledgement within 1 ms waits again (R589). -/
theorem claimTimedOut_late {o n a : Nat} (hc : (objOf s o).claim = some (n, a)) (ha : a + 1000000 ≤ s.time.now) :
    claimTimedOut o s = setObj o { objOf s o with claim := none, waitFrom := a + 1000000 } s := by
  unfold claimTimedOut
  simp only [hc]
  rw [if_pos ha]

/-- 2 us after the claim of the group its pin decides (R592). -/
theorem interlockSample_due {a : Nat} (high : Bool) (hc : s.pair.ilClaim = some a) (ha : a + 2000 ≤ s.time.now) :
    interlockSample high s =
      let e := { s with pair := { s.pair with ownIn := high } }
      if !high then takeGroup true e
      else if roleB s then { e with pair := { e.pair with ownOut := false, ilClaim := none } }
      else { e with pair := { e.pair with ilClaim := some s.time.now } } := by
  unfold interlockSample setPair
  simp only [hc]
  exact if_neg (Nat.not_lt.mpr ha)

theorem interlockLow_claims (hen : s.pair.en = true) (hown : s.pair.ilOwned = false) (hc : s.pair.ilClaim = none) (hg : group s ≠ []) :
    interlockLow s = { s with pair := { s.pair with ownOut := true, ownIn := false, ilClaim := some s.time.now } } :=
  if_pos (by simp [hen, hown, hc, hg])

/-- At the checkpoint interval the owner of an object sends a checkpoint (R591). -/
theorem ckptDue_sends (hen : s.pair.en = true) (hown : ownsAny s = true)
    (hdue : ∀ a, s.pair.ckptSent = some a → a + s.pair.interval * 1000000 ≤ s.time.now) : ckptDue s = sendCheckpoint s := by
  unfold ckptDue
  cases ha : s.pair.ckptSent with
  | none => simp [hen, hown]
  | some a => simp [hen, hown, hdue a ha]

theorem ckptMissed_counts (hen : s.pair.en = true) (hown : ownsAny s = false) (hup : s.pair.up = true)
    (hlate : s.pair.missFrom + s.pair.interval * 1000000 + 5000000 ≤ s.time.now) :
    ckptMissed s = pairEvent 0x06 none (count (rPAIR 0x0C) 15 0 { s with pair := { s.pair with missFrom := s.time.now } }) :=
  if_pos (by simp [hen, hown, hup, hlate])

/-- Settles O37: each timer and each sample acts when it is due. -/
theorem pairTimersTakeEffect : Obligations.PairTimersTakeEffect := by
  unfold Obligations.PairTimersTakeEffect
  refine ⟨?timeout, ?token, fun o e => ?lease, fun o => ?wait, fun o s ho hen hown hil hclaim hbefore hwait hsilent => ?takes,
    fun o a s ho hen hown hil hclaim hbefore hwait hlast hheard => ?claims, fun o s h => claimDue_early h, fun o => ?claimOver,
    fun o n a s hc ha => claimTimedOut_late hc ha, ?low, fun high => ?sample, fun a s hc ha => ?sampleLow, fun a s hc ha hrole => ?sampleB,
    fun a s hc ha hrole => ?sampleA, ?checkpoint, ?missed⟩
  case timeout => exact does_of partnerTimeout (fun _ _ => rfl) fun s _ ⟨hup, hsilent⟩ => partnerTimeout_silent hup hsilent
  case token => exact does_of tokenDue (fun _ _ => rfl) fun s _ ⟨hen, howner, hdue⟩ => tokenDue_sends hen howner hdue
  case lease => exact does_of (leaseEnds o) (fun _ _ => rfl) fun s _ ⟨hl, how, hi, he⟩ => leaseEnds_expired hl how hi he
  case wait => exact does_of (giveWay (.claim o)) (fun _ _ => rfl) fun _ _ _ => rfl
  case takes => exact claimDue_silent ho hen hown hil hclaim hbefore hwait hsilent
  case claims => exact claimDue_heard ho hen hown hil hclaim hbefore hwait hlast hheard
  case claimOver => exact does_of (giveWay (.claimOver o)) (fun _ _ => rfl) fun _ _ _ => rfl
  case low => exact does_of interlockLow (fun _ _ => rfl) fun s _ ⟨hen, hown, hc, hg⟩ => interlockLow_claims hen hown hc hg
  case sample => exact does_of (giveWay (.interlock high)) (fun _ _ => rfl) fun _ _ _ => rfl
  case sampleLow => exact interlockSample_due false hc ha
  case sampleB => exact (interlockSample_due true hc ha).trans (if_pos hrole)
  case sampleA => exact (interlockSample_due true hc ha).trans (if_neg (Bool.eq_false_iff.mp hrole))
  case checkpoint => exact does_of ckptDue (fun _ _ => rfl) fun s _ ⟨hen, hown, hdue⟩ => ckptDue_sends hen hown hdue
  case missed => exact does_of ckptMissed (fun _ _ => rfl) fun s _ ⟨hen, hown, hup, hlate⟩ => ckptMissed_counts hen hown hup hlate

end Sys2Proof.Machine
end

section
/-!
PROOFS. Reads, writes and atomics of the host, and the end of a carried write (R471 to R483, R503).
-/
namespace Sys2Proof.Machine
open Sys2Proof Sys2Proof.Safety

variable {s : State}

/-! ### Reads of the PCIe link -/

theorem complete_down (h : s.bridge.up = false) (status : Nat) (data : Rec) : complete status data s = s := by simp [complete, h]

section Read
variable {bar off n : Nat} (hbar : bar = 0 ∨ bar = 2)
include hbar

/-- A read that waits for nothing is answered at once (R471, R473). -/
theorem pcieReads_answers (hd3 : s.bridge.pci.d3 = false) (hwait : readWaits s .pcie (bar = 2) off n s.time.now s.bridge.issued = false)
    (hline : (readWords s .pcie (bar = 2) off n).1 ≠ 2) :
    pcieReads bar off n s = complete (readWords s .pcie (bar = 2) off n).1 (readWords s .pcie (bar = 2) off n).2 s := by
  cases hup : s.bridge.up with
  | false =>
    rw [complete_down hup]
    exact if_pos (by simp [hup])
  | true =>
    rw [pcieReads, if_neg (by simpa [hup] using fun h0 => hbar.resolve_left h0), if_neg (by simp [hd3])]
    exact if_neg (by simp [hwait, hline])

/-- A read that waits for an earlier write or a line joins the reads that wait (R475, R482). -/
theorem pcieReads_queues (hup : s.bridge.up = true) (hd3 : s.bridge.pci.d3 = false)
    (hwait : readWaits s .pcie (bar = 2) off n s.time.now s.bridge.issued = true ∨ (readWords s .pcie (bar = 2) off n).1 = 2) :
    pcieReads bar off n s = readQueued false (bar = 2) off n s := by
  rw [pcieReads, if_neg (by simpa [hup] using fun h0 => hbar.resolve_left h0), if_neg (by simp [hd3])]
  exact if_pos (by simpa using hwait)

theorem pcieReads_d3 (hup : s.bridge.up = true) (hd3 : s.bridge.pci.d3 = true) : pcieReads bar off n s = complete 1 [] s := by
  rw [pcieReads, if_neg (by simpa [hup] using fun h0 => hbar.resolve_left h0), if_pos hd3]

end Read

/-- A read that has waited for 20 us ends as CA (R476). -/
theorem readsExpire_one {w : WaitRead} (hw : s.bridge.reads = [w]) (hspi : w.spi = false) (hdue : w.since + 20000 ≤ s.time.now) :
    readsExpire s = complete 2 [] { s with bridge := { s.bridge with reads := [] } } := by
  unfold readsExpire
  simp [hw, hdue, readFails, hspi]

/-! ### Writes of the PCIe link -/

theorem pcieWrites_bar0 {r off : Nat} {v : Word} (hup : s.bridge.up = true) (hd3 : s.bridge.pci.d3 = false) :
    pcieWrites r 0 off [(v, 15)] s =
      carryOn .pcie [{ arrival := s.time.now, bar2 := false, off := off, data := [v], sizeBad := false, tag := r % 65536 }] s := by
  unfold pcieWrites
  simp [hostLink, hup, hd3]

theorem pcieWrites_bar2 {r off : Nat} {data : List (Word × Nat)} (hdata : data ≠ []) (hup : s.bridge.up = true) (hd3 : s.bridge.pci.d3 = false) :
    pcieWrites r 2 off data s =
      carryOn .pcie [{ arrival := s.time.now, bar2 := true, off := off, data := data.map (·.1), sizeBad := data.any (fun e => e.2 % 16 ≠ 15),
                       tag := r % 65536 }] s := by
  unfold pcieWrites
  simp [hostLink, hup, hd3, hdata]

/-! ### Atomics (R483) -/

section Atomic
variable {op : AtomicOp} {wide : Bool} {bar off x y : Nat} (hup : s.bridge.up = true) (hd3 : s.bridge.pci.d3 = false) (hbar : bar = 0 ∨ bar = 2)
include hup hd3 hbar

/-- An AtomicOp that waits for nothing acts at once. -/
theorem atomicArrives_acts (hq : s.bridge.waiting = []) (hwait : atomicWaits s wide (bar = 2) off s.time.now s.bridge.issued = false) :
    atomicArrives op wide bar off x y s = atomicActs op wide (bar = 2) off x y s := by
  rw [atomicArrives, if_neg (by simpa [hup] using fun h0 => hbar.resolve_left h0), if_neg (by simp [hd3]), if_neg (by simp [hq, hwait])]

/-- One that must wait joins the queue. -/
theorem atomicArrives_waits (hwait : atomicWaits s wide (bar = 2) off s.time.now s.bridge.issued = true) :
    atomicArrives op wide bar off x y s = { s with bridge := { s.bridge with
      waiting := s.bridge.waiting ++ [⟨s.time.now, op, wide, bar = 2, off, x, y, s.bridge.issued⟩]
      issued := s.bridge.issued + 1 } } := by
  rw [atomicArrives, if_neg (by simpa [hup] using fun h0 => hbar.resolve_left h0), if_neg (by simp [hd3]), if_pos (by simp [hwait])]

end Atomic

/-- The semaphore of its line that an AtomicOp holds for its cycle (R482, R483). -/
def atomicHolds (bar2 : Bool) (off now : Nat) (s : State) : State :=
  (freeSem s).elim s (fun i => setSem i (some ⟨.pcie, false, bar2, off / 64 % 2 ^ 18, now⟩) s)

section Acts
variable {op : AtomicOp} {off x y : Nat}

theorem atomicActs_bar0 {a : Word} {e : State} (hoff : off % 4 = 0) (hmap : busRead s .pcie off = some a) (htarget : atomicTarget s false off = true)
    (hw : regWrite .pcie off (word (atomicResult op 32 (regRead s off).toNat x y)) s = .ok e) :
    atomicActs op false false off x y s = complete 0 [regRead s off]
      (atomicHolds false off s.time.now (writeRecord .pcie false off (word (atomicResult op 32 (regRead s off).toNat x y)) e)) := by
  unfold atomicActs
  simp [hmap, htarget, hoff, atomicStore, rw, hw]
  unfold atomicHolds
  cases freeSem _ <;> rfl

theorem atomicActs_bar2 (hoff : off % 4 = 0) (hmap : bar2Mapped off = true) (htarget : atomicTarget s true off = true)
    (hmem : s.sys.test.badMem.contains (off / 4) = false) :
    atomicActs op false true off x y s = complete 0 [memWord s off]
      (atomicHolds true off s.time.now (bar2Store off [word (atomicResult op 32 (memWord s off).toNat x y)] s)) := by
  unfold atomicActs
  simp only [List.contains_eq_mem, decide_eq_false_iff_not] at hmem
  simp [hmap, htarget, hoff, atomicStore, rw, hmem]
  unfold atomicHolds
  cases freeSem _ <;> rfl

theorem atomicActs_unmapped (hmap : busRead s .pcie off = none) : atomicActs op false false off x y s = complete 1 [] s := by
  unfold atomicActs
  simp [hmap]

theorem atomicActs_refused (hmap : bar2Mapped off = true) (htarget : atomicTarget s true off = false) :
    atomicActs op false true off x y s = complete 2 [] s := by
  unfold atomicActs
  simp [hmap, htarget]

end Acts

theorem atomicTimesOut_late {w : WaitAtomic} (hw : s.bridge.waiting = [w]) (hdue : w.since + 20000 ≤ s.time.now) :
    atomicTimesOut s = bridgeFreed (complete 2 [] { s with bridge := { s.bridge with waiting := [] } }) := by
  unfold atomicTimesOut
  simp only [hw]
  rw [if_pos hdue]

/-- An earlier write of the host delays its fence (R503). -/
theorem readWaits_fence {c : Carried} (hc : c ∈ s.bridge.carry0) (hno : c.no < s.bridge.issued) :
    readWaits s .pcie false (rPROOF 0) 1 s.time.now s.bridge.issued = true := by
  have hbefore : standsBefore .pcie false (rPROOF 0) 1 c.bar2 c.off = true := by
    have halias : (aliasOf (rPROOF 0)).1 = rPROOF 0 := by decide
    simp [standsBefore, originCode, show rPROOF 0 / 4 * 4 = rPROOF 0 by decide, halias]
  have hany : (carried s .pcie).any (fun c => c.no < s.bridge.issued && standsBefore .pcie false (rPROOF 0) 1 c.bar2 c.off) = true :=
    List.any_eq_true.mpr ⟨c, hc, by simp [hno, hbefore]⟩
  rw [readWaits, hany]
  rfl

/-- Settles O41: a transaction that waits for nothing acts, and another joins its queue. -/
theorem pcieTransactionsTakeEffect : Obligations.PcieTransactionsTakeEffect := by
  unfold Obligations.PcieTransactionsTakeEffect
  refine ⟨fun off n => ?read0, fun off n => ?read2, fun off n => ?readWaits, fun _ => rfl, fun w s hw hspi hdue => readsExpire_one hw hspi hdue,
    fun off n => ?readD3, fun r off v => ?write0, fun r off data hdata => ?write2, fun a op off x y old w e => ?atomic0, fun op off x y => ?atomic2,
    fun op off x y => ?unmapped, fun op off x y => ?refused, fun op wide off x y => ?atomicWaits, fun w => ?atomicTimeout, ?fence,
    fun s c hc hno => readWaits_fence hc hno, ?spiFence⟩
  case read0 => exact does_of (pcieReads 0 off n) (fun _ _ => rfl) fun s _ ⟨hd3, hwait, hline⟩ => pcieReads_answers (.inl rfl) hd3 hwait hline
  case read2 => exact does_of (pcieReads 2 off n) (fun _ _ => rfl) fun s _ ⟨hd3, hwait, hline⟩ => pcieReads_answers (.inr rfl) hd3 hwait hline
  case readWaits => exact does_of (pcieReads 2 off n) (fun _ _ => rfl) fun s _ ⟨hup, hd3, hwait⟩ => pcieReads_queues (.inr rfl) hup hd3 hwait
  case readD3 => exact does_of (pcieReads 0 off n) (fun _ _ => rfl) fun s _ ⟨hup, hd3⟩ => pcieReads_d3 (.inl rfl) hup hd3
  case write0 => exact does_of (pcieWrites r 0 off [(v, 15)]) (fun _ _ => rfl) fun s _ ⟨hup, hd3⟩ => pcieWrites_bar0 hup hd3
  case write2 => exact does_of (pcieWrites r 2 off data) (fun _ _ => rfl) fun s _ ⟨hup, hd3⟩ => pcieWrites_bar2 hdata hup hd3
  case atomic0 =>
    refine does_of (atomicArrives op false 0 off x y) (fun _ _ => rfl) fun s _ ⟨hup, hd3, hq, hwait, hoff, hmap, htarget, hold, hnew, hw⟩ => ?_
    subst hold hnew
    rw [atomicArrives_acts hup hd3 (.inl rfl) hq hwait]
    refine (atomicActs_bar0 hoff hmap htarget hw).trans ?_
    unfold atomicHolds
    dsimp only
    cases freeSem _ <;> rfl
  case atomic2 =>
    refine does_of (atomicArrives op false 2 off x y) (fun _ _ => rfl) fun s _ ⟨hup, hd3, hq, hwait, hoff, hmap, htarget, hmem⟩ => ?_
    rw [atomicArrives_acts hup hd3 (.inr rfl) hq hwait]
    refine (atomicActs_bar2 hoff hmap htarget hmem).trans ?_
    unfold atomicHolds
    dsimp only
    cases freeSem _ <;> rfl
  case unmapped =>
    refine does_of (atomicArrives op false 0 off x y) (fun _ _ => rfl) fun s _ ⟨hup, hd3, hq, hwait, hmap⟩ => ?_
    rw [atomicArrives_acts hup hd3 (.inl rfl) hq hwait]
    exact atomicActs_unmapped hmap
  case refused =>
    refine does_of (atomicArrives op false 2 off x y) (fun _ _ => rfl) fun s _ ⟨hup, hd3, hq, hwait, hmap, htarget⟩ => ?_
    rw [atomicArrives_acts hup hd3 (.inr rfl) hq hwait]
    exact atomicActs_refused hmap htarget
  case atomicWaits => exact does_of (atomicArrives op wide 2 off x y) (fun _ _ => rfl) fun s _ ⟨hup, hd3, hwait⟩ => atomicArrives_waits hup hd3 (.inr rfl) hwait
  case atomicTimeout => exact does_of atomicTimesOut (fun _ _ => rfl) fun s _ ⟨hw, hdue⟩ => atomicTimesOut_late hw hdue
  case fence => exact does_of (pcieReads 0 (rPROOF 0) 1) (fun _ _ => rfl) fun s _ ⟨hd3, hwait, hline⟩ => pcieReads_answers (.inl rfl) hd3 hwait hline
  case spiFence =>
    refine does_of (fenceReturns .spi) (fun _ _ => rfl) fun s _ ⟨hlock, hwait, hline⟩ => ?_
    unfold fenceReturns spiServesOrWaits
    simp [hlock, hwait, hline]

/-! ### The end of a carried write (R475 to R480) -/

section Carried
variable {o : Origin} {c : Carried} {r : List Carried} (hc : carried s o = c :: r)
include hc

/-- A write that leaves its carriage in time lands, or fails with the error of its carriage. -/
theorem carriageEnds_inTime (ecc : Bool) (hwait : writeWaits s o c = false) (htime : s.time.now ≤ c.arrival + 20000) :
    carriageEnds o ecc s = bridgeFreed (if ecc then writeFails o c c.off (rw c.data 0) cECC (setCarried o r s) else landWrite o c (setCarried o r s)) := by
  unfold carriageEnds
  simp only [hc]
  rw [if_neg (by simp [hwait]), if_neg (Nat.not_lt.mpr htime)]

theorem carriageEnds_late (ecc : Bool) (hwait : writeWaits s o c = false) (htime : c.arrival + 20000 < s.time.now) :
    carriageEnds o ecc s = bridgeFreed (writeTooLate o c (setCarried o r s)) := by
  unfold carriageEnds
  simp only [hc]
  rw [if_neg (by simp [hwait]), if_pos htime]

theorem writeTimesOut_late (htime : c.arrival + 20000 ≤ s.time.now) : writeTimesOut o s = bridgeFreed (writeTooLate o c (setCarried o r s)) := by
  unfold writeTimesOut
  simp only [hc]
  rw [if_neg (Nat.not_lt.mpr htime)]

end Carried

/-- A write of BAR2 fails with the cause of its first word at fault (R476). -/
theorem bar2Write_error {o : Origin} {off i c : Nat} {ws : Rec} (sizeBad : Bool) (hi : i < ws.length) (hc : bar2Refuses s o (off + 4 * i) = some c)
    (hbefore : ∀ j, j < i → bar2Refuses s o (off + 4 * j) = none) : bar2Write o off ws sizeBad s = .error (i, c) := by
  have hfind : ((List.range ws.length).map (fun i => (i, bar2Refuses s o (off + 4 * i)))).find? (fun e => e.2.isSome) = some (i, some c) := by
    have hrange : (List.range ws.length).find? (fun i => (bar2Refuses s o (off + 4 * i)).isSome) = some i :=
      List.find?_range_eq_some.mpr ⟨by simp [hc], by simpa using hi, fun j hj => by simp [hbefore j hj]⟩
    rw [List.find?_map]
    simp only [Function.comp_def, hrange, Option.map_some, hc]
  unfold bar2Write
  simp only [hfind]

/-- Settles O42: a write lands, fails by its carriage or its target, or is too late. -/
theorem carriedWritesEnd : Obligations.CarriedWritesEnd := by
  unfold Obligations.CarriedWritesEnd
  refine ⟨fun o c r => ?lands, fun o c r => ?ecc, fun o e c r => ?late, fun o c r => ?timeoutTaken, fun o c r => ?timeoutLost,
    fun o off v tag now s e hw => ?reg, fun o off v tag now s c hw => ?regFails, fun o off ws tag now s hoff htaken => landWrite_bar2 rfl rfl hoff htaken,
    fun o off ws tag now s i c hi hc hbefore => ?memFails⟩
  case lands => exact does_of (carriageEnds o false) (fun _ _ => rfl) fun s _ ⟨hc, hwait, htime⟩ => carriageEnds_inTime hc false hwait htime
  case ecc => exact does_of (carriageEnds o true) (fun _ _ => rfl) fun s _ ⟨hc, hwait, htime⟩ => carriageEnds_inTime hc true hwait htime
  case late => exact does_of (carriageEnds o e) (fun _ _ => rfl) fun s _ ⟨hc, hwait, htime⟩ => carriageEnds_late hc e hwait htime
  case timeoutTaken =>
    refine does_of (writeTimesOut o) (fun _ _ => rfl) fun s _ ⟨hc, htime, hfree⟩ => ?_
    have hfree' : (freeVal (setCarried o r s)).1.getLsbD 0 = true := hfree
    rw [writeTimesOut_late hc htime, writeTooLate, hfree', if_pos rfl]
    rfl
  case timeoutLost =>
    refine does_of (writeTimesOut o) (fun _ _ => rfl) fun s _ ⟨hc, htime, hfree⟩ => ?_
    have hfree' : (freeVal (setCarried o r s)).1.getLsbD 0 = false := hfree
    rw [writeTimesOut_late hc htime, writeTooLate, hfree', if_neg Bool.false_ne_true]
    rfl
  case reg => simp [landWrite, rw, hw]
  case regFails => simp [landWrite, rw, hw]
  case memFails =>
    unfold landWrite
    simp only [bar2Write_error false hi hc hbefore, if_true]

end Sys2Proof.Machine
end

section
/-!
PROOFS. The Contact Sheet recorder and its two outgoing channels (R449 to R467).
-/
namespace Sys2Proof.Machine
open Sys2Proof Sys2Proof.Safety

variable {s : State}

/-- The recorder accepts once every 4 cycles (R449). -/
theorem mayAccept_of_elapsed (h : ∀ a, s.cs.accepted = some a → a + 4 ≤ s.time.now) : mayAccept s = true := by
  unfold mayAccept
  cases ha : s.cs.accepted with
  | none => rfl
  | some a => exact decide_eq_true (h a ha)

section Accepts
variable (hmay : mayAccept s = true)
include hmay

theorem recorderAccepts_anchor
    (hdue : s.cs.anchor = none ∨ s.cs.next % 65536 = 0 ∨ (s.cs.anchorDue = true ∧ s.cs.mid = false ∧ s.cs.gap = none)) :
    recorderAccepts s = exportGo (anchorIn s) := by
  rw [recorderAccepts, if_neg (by simp [hmay]), if_pos]
  rcases hdue with h | h | ⟨h, hmid, hgap⟩
  · simp [h]
  · simp [h]
  · simp [h, hmid, hgap]

section Between
variable (hanchor : s.cs.anchor.isSome = true) (hnext : s.cs.next % 65536 ≠ 0)
include hanchor hnext

/-- Between groups the pending gap comes next (R455). -/
theorem recorderAccepts_gap {g : CsGap} (hgap : s.cs.gap = some g) (hmid : s.cs.mid = false) : recorderAccepts s = exportGo (gapIn g s) := by
  rw [recorderAccepts, if_neg (by simp [hmay]), if_neg (by simp [Option.isSome_iff_ne_none.mp hanchor, hnext, hgap])]
  simp only [hgap, hmid, Bool.false_eq_true, if_false]

/-- Else the next record of the group at the head of the queue (R453). -/
theorem recorderAccepts_group {g : CsGroup} {r : List CsGroup} (hturn : s.cs.gap = none ∧ s.cs.anchorDue = false ∨ s.cs.mid = true)
    (hq : s.cs.queue = g :: r) : recorderAccepts s = exportGo (groupIn g r s) := by
  rw [recorderAccepts, if_neg (by simp [hmay]), if_neg]
  · cases hgap : s.cs.gap with
    | none => simp only [hq]
    | some k =>
      have hmid : s.cs.mid = true := hturn.resolve_left (by simp [hgap])
      simp only [hq, hmid, if_true]
  · rcases hturn with ⟨_, hdue⟩ | hmid
    · simp [Option.isSome_iff_ne_none.mp hanchor, hnext, hdue]
    · simp [Option.isSome_iff_ne_none.mp hanchor, hnext, hmid]

end Between
end Accepts

/-- A millisecond after the last anchor, one enters between groups (R450). -/
theorem anchorTimer_enters {a : Nat} (ha : s.cs.anchor = some a) (hdue : a + 1000000 ≤ s.time.now) (hmid : s.cs.mid = false) (hgap : s.cs.gap = none)
    (hmay : mayAccept s = true) : anchorTimer s = exportGo (anchorIn s) := by
  unfold anchorTimer
  simp only [ha]
  rw [if_neg (Nat.not_lt.mpr hdue), if_neg (by simp [hmid, hgap, hmay])]

/-- Else it is due. -/
theorem anchorTimer_due {a : Nat} (ha : s.cs.anchor = some a) (hdue : a + 1000000 ≤ s.time.now) (hbusy : s.cs.mid = true ∨ s.cs.gap.isSome = true) :
    anchorTimer s = { s with cs := { s.cs with anchorDue := true } } := by
  unfold anchorTimer setCs
  simp only [ha]
  rw [if_neg (Nat.not_lt.mpr hdue), if_pos]
  rcases hbusy with h | h
  · simp [h]
  · simp [h]

theorem exportFlush_sends (hen : (exportGo s).cs.chan0.en = true) (hframe : (exportGo s).cs.chan0.frame ≠ [])
    (hdue : (exportGo s).cs.chan0.since + fld (exportGo s).cs.chan0.cfg 0 15 2 * 1000 ≤ (exportGo s).time.now) : exportFlush s = exportSend (exportGo s) :=
  if_pos (by simp [hen, hframe, hdue])

/-- An overrun of channel 1 is told first (R463). -/
theorem exportRing_overrun (hen : s.cs.chan1.en = true) (hlost : s.cs.chan1.pos < oldestAt s) (hroom : 4 ≤ ringFree s .trace) :
    exportRing s = sheetEvent 0x02
      (ringLand .trace (csWords (overrunGap s s.cs.chan1)) { s with cs := { s.cs with chan1 := { s.cs.chan1 with pos := oldestAt s } } }) := by
  rw [exportRing, if_neg (by simp [hen]), if_pos hlost, if_pos hroom]
  rfl

/-- A whole group lands where it has room (R463). -/
theorem exportRing_group {start pos : Nat} {g : List CsRec} (hen : s.cs.chan1.en = true) (hkept : oldestAt s ≤ s.cs.chan1.pos)
    (hg : groupOf s s.cs.chan1 = (start, some (g, pos))) (hroom : 4 * g.length ≤ ringFree s .trace) :
    exportRing s = ringLand .trace (g.flatMap csWords) { s with cs := { s.cs with chan1 := { s.cs.chan1 with pos := pos } } } := by
  rw [exportRing, if_neg (by simp [hen]), if_neg (Nat.not_lt.mpr hkept)]
  simp only [hg, if_pos hroom]
  rfl

/-- Settles O33: the recorder accepts the anchor, the gap and the records in their order, and its channels pass them on. -/
theorem recorderEventsTakeEffect : Obligations.RecorderEventsTakeEffect := by
  unfold Obligations.RecorderEventsTakeEffect
  refine ⟨?anchor, fun g => ?gap, fun g r => ?group, fun a => ?timer, fun a => ?timerDue, ?mapping, ?flush, ?overrun, fun start g pos => ?ring⟩
  case anchor => exact does_of recorderAccepts (fun _ _ => rfl) fun s _ ⟨hmay, hdue⟩ => recorderAccepts_anchor (mayAccept_of_elapsed hmay) hdue
  case gap =>
    exact does_of recorderAccepts (fun _ _ => rfl) fun s _ ⟨hmay, hanchor, hnext, hgap, hmid⟩ =>
      recorderAccepts_gap (mayAccept_of_elapsed hmay) hanchor hnext hgap hmid
  case group =>
    exact does_of recorderAccepts (fun _ _ => rfl) fun s _ ⟨hmay, hanchor, hnext, hturn, hq⟩ =>
      recorderAccepts_group (mayAccept_of_elapsed hmay) hanchor hnext hturn hq
  case timer =>
    exact does_of anchorTimer (fun _ _ => rfl) fun s _ ⟨ha, hdue, hmid, hgap, hmay⟩ => anchorTimer_enters ha hdue hmid hgap (mayAccept_of_elapsed hmay)
  case timerDue => exact does_of anchorTimer (fun _ _ => rfl) fun s _ ⟨ha, hdue, hbusy⟩ => anchorTimer_due ha hdue hbusy
  case mapping => exact does_of mappingRepeat (fun _ _ => rfl) fun s _ hdue => if_neg (Nat.not_lt.mpr hdue)
  case flush => exact does_of exportFlush (fun _ _ => rfl) fun s _ ⟨hen, hframe, hdue⟩ => exportFlush_sends hen hframe hdue
  case overrun => exact does_of exportRing (fun _ _ => rfl) fun s _ ⟨hen, hlost, hroom⟩ => exportRing_overrun hen hlost hroom
  case ring => exact does_of exportRing (fun _ _ => rfl) fun s _ ⟨hen, hkept, hg, hroom⟩ => exportRing_group hen hkept hg hroom

end Sys2Proof.Machine
end

section
/-!
PROOFS. The DARK requests (R431 to R446).
-/
namespace Sys2Proof.Machine
open Sys2Proof Sys2Proof.Safety

variable {q : Req} {s : State}

theorem darkStatGet_valid (s : State) (hlen : q.args.length = 2) (h4 : only (mw q 4) [(7, 0)] = true) (hfirst : mf q 4 7 0 < nSlots)
    (h5 : only (mw q 5) [(8, 0)] = true) (hcount : mf q 5 8 0 ≤ 256) :
    darkStatGet q s = okWith ([darkStat s, word s.dark.nextEv, packW [(16, nSlots), (16, (freeSlots s).length)]]
      ++ (List.range (min (mf q 5 8 0) (nSlots - mf q 4 7 0))).flatMap (fun i => slotWords s (mf q 4 7 0 + i))) s :=
  need_ok hlen (by simp [h4, hfirst, h5, hcount])

theorem darkIdent_valid {k : BitVec 768} (hlen : q.args = []) (hkey : s.dark.key = some k) :
    darkIdent q s = okWith (bytesRec (beBytes k.toNat 64) ++ bytesRec (drkId s)) s := by
  refine (need_ok (List.length_eq_zero_iff.mpr hlen) (List.forall_mem_nil _)).trans ?_
  simp only [hkey]

/-- An image that has been written is answered (R431). -/
theorem darkCalRead_valid (hlen : q.args.length = 1) (h4 : only (mw q 4) [(3, 0)] = true) (himage : mf q 4 3 0 < s.dark.images) :
    darkCalRead q s = okWith (imageWords s (mf q 4 3 0)) s :=
  (need_ok hlen (by simp [h4])).trans (if_pos himage)

section Reseal
variable {ws : Rec} {n : Nat}

theorem darkResealPut_of_bulk (hbulk : bulkOf 0 q s = some (ws, n)) :
    darkResealPut q s =
      if s.dark.images = 16 then locked s
      else if n ≠ 2048 || !imageShape ws then rangeAt (if q.staged then 4 else 0) s
      else if s.dark.reseal.isSome || !s.dark.run then busy s
      else
        (.defer [word s.dark.images],
          setDark { s.dark with reseal := some (s.dark.images, packW [(16, 1), (4, s.dark.images), (12, 0)] :: ws.drop 1) } s) := by
  unfold darkResealPut
  simp only [hbulk]

/-- A reseal takes the next free index (R433). -/
theorem darkResealPut_valid (hbulk : bulkOf 0 q s = some (ws, 2048)) (hfree : s.dark.images ≠ 16) (hshape : imageShape ws = true)
    (hidle : s.dark.reseal = none) (hrun : s.dark.run = true) :
    darkResealPut q s =
      (.defer [word s.dark.images],
        setDark { s.dark with reseal := some (s.dark.images, packW [(16, 1), (4, s.dark.images), (12, 0)] :: ws.drop 1) } s) := by
  rw [darkResealPut_of_bulk hbulk, if_neg hfree, if_neg (by simp [hshape]), if_neg (by simp [hidle, hrun])]

theorem darkResealPut_full (hbulk : bulkOf 0 q s = some (ws, n)) (hfull : s.dark.images = 16) : darkResealPut q s = locked s := by
  rw [darkResealPut_of_bulk hbulk, if_pos hfull]

end Reseal

theorem darkTrig_valid (s : State) (hlen : q.args.length = 1) (h4 : only (mw q 4) [(15, 0)] = true) :
    darkTrig q s = okWith [word (evidenceTrigger (.host q.mbx (mf q 4 15 0)) s).1] (evidenceTrigger (.host q.mbx (mf q 4 15 0)) s).2 :=
  need_ok hlen (by simp [h4])

/-- An entry of the trigger table of a running Darkroom is written (R435). -/
theorem darkTrigTable_valid (hlen : q.args.length = 4) (h4 : only (mw q 4) [(3, 0)] = true) (hkind : mf q 5 25 23 ≤ 5) (h5 : mf q 5 6 0 = 0)
    (h6 : only (mw q 6) [(28, 0)] = true) (h7 : only (mw q 7) [(28, 0)] = true) (hrun : s.dark.run = true) :
    darkTrigTable q s =
      ok (setDark { s.dark with trig := tset [] s.dark.trig (mf q 4 3 0) (q.args.drop 1), trigHold := tset 0 s.dark.trigHold (mf q 4 3 0) 0 } s) := by
  refine (need_ok hlen ?_).trans (if_neg (by simp [hrun]))
  simp only [mf, mw] at hkind h5 h6 h7
  simp only [fld, rw_drop]
  simp [h4, hkind, h5, h6, h7]

/-- The words of a window record are in range (R436). -/
structure WindowFits (q : Req) : Prop where
  length : q.args.length = 3
  before : mf q 4 31 16 ≤ 60000
  after : mf q 4 15 0 ≤ 30000
  space : mf q 5 31 16 ≤ 32256
  reserved : mf q 5 15 0 = 0

theorem darkWindowPut_eq (s : State) (h : WindowFits q) :
    darkWindowPut q s = if !s.dark.run then busy s else ok (setDark { s.dark with window := q.args } s) :=
  need_ok h.length (by simp [h.before, h.after, h.space, h.reserved])

/-- The words that ask for a chunk are in range (R441, R577). -/
structure ExportFits (q : Req) : Prop where
  length : q.args.length = 2
  reserved : only (mw q 4) [(7, 0)] = true
  slot : mf q 4 7 0 < nSlots
  reserved5 : only (mw q 5) [(6, 0)] = true

theorem darkExp_eq (s : State) (h : ExportFits q) :
    darkExp q s =
      let v := darkSlot s (mf q 4 7 0)
      let ws := ((slotContent v).drop (1024 * mf q 5 6 0)).take 1024
      if !s.dark.run then busy s
      else if v.st ≠ 2 then conflictAt 4 s
      else okWith (word (4 * ws.length) :: ws)
        (setDarkSlot (mf q 4 7 0) { v with exporting := decide (1024 * (mf q 5 6 0 + 1) < (slotContent v).length) } s) :=
  need_ok h.length (by simp [h.reserved, h.slot, h.reserved5])

/-- Release empties a slot that is neither exported nor being written (R441). -/
theorem darkRel_valid (hlen : q.args.length = 1) (h4 : only (mw q 4) [(7, 0)] = true) (hslot : mf q 4 7 0 < nSlots) (hrun : s.dark.run = true)
    (hidle : (darkSlot s (mf q 4 7 0)).exporting = false) (hst : (darkSlot s (mf q 4 7 0)).st ≠ 1) : darkRel q s = ok (setDarkSlot (mf q 4 7 0) {} s) :=
  (need_ok hlen (by simp [h4, hslot])).trans ((if_neg (by simp [hrun, hidle])).trans (if_neg hst))

theorem darkAtt_eq (s : State) (hlen : q.args.length = 4) :
    darkAtt q s =
      if !s.dark.run then busy s
      else okWith (attestWords s ++ bytesRec (darkSign (recBytes (q.args ++ attestWords s)) s).1) (darkSign (recBytes (q.args ++ attestWords s)) s).2 :=
  need_ok hlen (List.forall_mem_nil _)

theorem darkAudit_valid (s : State) (hlen : q.args.length = 2) (h4 : only (mw q 4) [(6, 0)] = true) (h5 : only (mw q 5) [(7, 0)] = true)
    (hlow : 1 ≤ mf q 5 7 0) (hhigh : mf q 5 7 0 ≤ 128) :
    darkAudit q s = okWith ((s.dark.audit.drop (mf q 4 6 0)).take (mf q 5 7 0)).flatten s :=
  need_ok hlen (by simp [h4, h5, hlow, hhigh])

/-- Settles O19: each DARK request whose words are in range answers what the Darkroom holds, or does what it asks. -/
theorem darkroomRequestsTakeEffect : Obligations.DarkroomRequestsTakeEffect := by
  unfold Obligations.DarkroomRequestsTakeEffect
  refine ⟨?status, fun k => ?identity, ?image, fun ws => ?reseal, fun ws n => ?resealFull, ?trigger, ?table, ?window, ?windowBusy, ?chunk, ?chunkConflict,
    ?release, ?attest, ?attestBusy, ?audit⟩
  case status =>
    exact gives_of darkStatGet (fun _ _ _ => rfl) fun q e ⟨hlen, h4, hfirst, h5, hcount⟩ => darkStatGet_valid e hlen h4 hfirst h5 hcount
  case identity => exact gives_of darkIdent (fun _ _ _ => rfl) fun q e ⟨hlen, hkey⟩ => darkIdent_valid hlen hkey
  case image => exact gives_of darkCalRead (fun _ _ _ => rfl) fun q e ⟨hlen, h4, himage⟩ => darkCalRead_valid hlen h4 himage
  case reseal =>
    exact goes_of darkResealPut (fun _ _ _ => rfl) fun q e ⟨hbulk, hfree, hshape, hidle, hrun⟩ => darkResealPut_valid hbulk hfree hshape hidle hrun
  case resealFull => exact refuses_of darkResealPut (fun _ _ _ => rfl) fun q e ⟨hbulk, hfull⟩ => darkResealPut_full hbulk hfull
  case trigger => exact gives_of darkTrig (fun _ _ _ => rfl) fun q e ⟨hlen, h4⟩ => darkTrig_valid e hlen h4
  case table =>
    exact gives_of darkTrigTable (fun _ _ _ => rfl) fun q e ⟨hlen, h4, hkind, h5, h6, h7, hrun⟩ => darkTrigTable_valid hlen h4 hkind h5 h6 h7 hrun
  case window =>
    exact gives_of darkWindowPut (fun _ _ _ => rfl) fun q e ⟨hlen, hbefore, hafter, hspace, h5, hrun⟩ =>
      (darkWindowPut_eq e ⟨hlen, hbefore, hafter, hspace, h5⟩).trans (if_neg (by simp [hrun]))
  case windowBusy =>
    exact refuses_of darkWindowPut (fun _ _ _ => rfl) fun q e ⟨hlen, hbefore, hafter, hspace, h5, hrun⟩ =>
      (darkWindowPut_eq e ⟨hlen, hbefore, hafter, hspace, h5⟩).trans (if_pos (by simp [hrun]))
  case chunk =>
    exact gives_of darkExp (fun _ _ _ => rfl) fun q e ⟨hlen, h4, hslot, h5, hrun, hst⟩ =>
      (darkExp_eq e ⟨hlen, h4, hslot, h5⟩).trans ((if_neg (by simp [hrun])).trans (if_neg (not_not.mpr hst)))
  case chunkConflict =>
    exact refuses_of darkExp (fun _ _ _ => rfl) fun q e ⟨hlen, h4, hslot, h5, hrun, hst⟩ =>
      (darkExp_eq e ⟨hlen, h4, hslot, h5⟩).trans ((if_neg (by simp [hrun])).trans (if_pos hst))
  case release =>
    exact gives_of darkRel (fun _ _ _ => rfl) fun q e ⟨hlen, h4, hslot, hrun, hidle, hst⟩ => darkRel_valid hlen h4 hslot hrun hidle hst
  case attest =>
    exact gives_of darkAtt (fun _ _ _ => rfl) fun q e ⟨hlen, hrun⟩ => (darkAtt_eq e hlen).trans (if_neg (by simp [hrun]))
  case attestBusy =>
    exact refuses_of darkAtt (fun _ _ _ => rfl) fun q e ⟨hlen, hrun⟩ => (darkAtt_eq e hlen).trans (if_pos (by simp [hrun]))
  case audit =>
    exact gives_of darkAudit (fun _ _ _ => rfl) fun q e ⟨hlen, h4, h5, hlow, hhigh⟩ => darkAudit_valid e hlen h4 h5 hlow hhigh

end Sys2Proof.Machine
end

section
/-!
PROOFS. The PAIR and TEST requests (R577 to R594, R648 to R654).
-/
namespace Sys2Proof.Machine
open Sys2Proof Sys2Proof.Safety

variable {q : Req} {s : State} {o : Nat}

/-! ### PAIR -/

/-- The words of a configuration are in range (R581). -/
structure PairConfFits (q : Req) : Prop where
  length : q.args.length = 2
  reserved : only (mw q 4) [(31, 31), (3, 0)] = true
  portLow : 4 ≤ mf q 4 3 0
  portHigh : mf q 4 3 0 ≤ 11
  reserved5 : only (mw q 5) [(9, 0)] = true
  intervalLow : 10 ≤ mf q 5 9 0
  intervalHigh : mf q 5 9 0 ≤ 1000

theorem pairConf_eq (s : State) (h : PairConfFits q) :
    pairConf q s =
      if (bit (mw q 4) 31 && s.pair.bound.isNone) || prMode (portRec s (mf q 4 3 0)) = 0 then conflictAt 4 s
      else ok (pairEnable (bit (mw q 4) 31) (setPair { s.pair with port := mf q 4 3 0, interval := mf q 5 9 0 } s)) :=
  need_ok h.length (by simp [h.reserved, h.portLow, h.portHigh, h.reserved5, h.intervalLow, h.intervalHigh])

/-- Pairing is enabled where the device is bound, at a port that is enabled (R581). -/
theorem pairConf_valid (h : PairConfFits q) (hbound : bit (mw q 4) 31 = true → s.pair.bound.isSome = true) (hport : prMode (portRec s (mf q 4 3 0)) ≠ 0) :
    pairConf q s = ok (pairEnable (bit (mw q 4) 31) (setPair { s.pair with port := mf q 4 3 0, interval := mf q 5 9 0 } s)) := by
  rw [pairConf_eq s h, if_neg]
  cases hen : bit (mw q 4) 31 with
  | false => simp [hport]
  | true => simp [hport, Option.isSome_iff_ne_none.mp (hbound hen)]

theorem pairConf_unbound (h : PairConfFits q) (hen : bit (mw q 4) 31 = true) (hbound : s.pair.bound = none) : pairConf q s = conflictAt 4 s := by
  rw [pairConf_eq s h, if_pos (by simp [hen, hbound])]

section Object
variable (hlen : q.args.length = 1) (hobj : objNumber (mf q 4 31 30) (mf q 4 29 25) = some o)
include hlen hobj

/-- The guard of an object is busy where this device owns it, else it is set; an object that joins an owned group is taken (R584, R586). -/
theorem pairGuard_eq (s : State) (h4 : only (mw q 4) [(31, 24)] = true) :
    pairGuard q s =
      if owns s o then busy s
      else
        let e := setObj o { objOf s o with interlock := !bit (mw q 4) 24, claim := none } s
        ok (if !bit (mw q 4) 24 && s.pair.ilOwned then takeObj o true none e else e) := by
  have hasked : objAsked q = some o := hobj
  refine (need_ok hlen (by simp [h4, hasked])).trans ?_
  simp only [hasked]

/-- A release marks an object that this device owns, and with it its whole group where it interlocks (R594). -/
theorem pairRel_eq (s : State) (h4 : only (mw q 4) [(31, 25)] = true) :
    pairRel q s =
      let e := leaseEnds o s
      if !e.pair.en || !owns e o then conflictAt 4 e
      else
        let l := if (objOf e o).interlock then group e else [o]
        ok (setPair { e.pair with release := e.pair.release ++ l.filter (fun x => !e.pair.release.contains x) } e) := by
  have hasked : objAsked q = some o := hobj
  refine (need_ok hlen (by simp [h4, hasked])).trans ?_
  simp only [hasked]

end Object

section Bind
variable (hlen : q.args.length = 3) (h4 : only (mw q 4) [(0, 0)] = true)
include hlen h4

/-- A binding is fused up to eight times (R580). -/
theorem pairBindPut_valid (hfew : s.pair.binds ≠ 8) (hfuse : fuseBusy s = false) (hrun : s.dark.run = true) :
    pairBindPut q s =
      (.defer [word (s.pair.binds + 1)],
        auditAppend 4 (s.pair.binds + 1) (bindWord s.pair.bound) (bindWord (some (bit (mw q 4) 0, cat64 (mw q 5) (mw q 6)))) (releaseShort s) s) :=
  (need_ok hlen (by simp [h4])).trans ((if_neg hfew).trans (if_neg (by simp [hfuse, hrun])))

theorem pairBindPut_full (hfull : s.pair.binds = 8) : pairBindPut q s = locked s := (need_ok hlen (by simp [h4])).trans (if_pos hfull)

end Bind

theorem pairStat_valid (s : State) (hlen : q.args = []) :
    pairStat q s =
      okWith (packW [(1, b2n s.pair.up), (1, b2n s.pair.bound.isSome), (1, b2n (roleB s)), (29, 0)] :: (List.range 40).map (objStatus s)) s :=
  need_ok (List.length_eq_zero_iff.mpr hlen) (List.forall_mem_nil _)

/-! ### TEST -/

/-- A loopback takes its port down (R648). -/
theorem testLoop_valid (hlen : q.args.length = 1) (h4 : only (mw q 4) [(4, 0), (7, 6)] = true) (hport : mf q 4 4 0 < 28)
    (hkind : (mf q 4 4 0 ≠ 18 ∧ mf q 4 4 0 ≠ 19) ∨ mf q 4 7 6 < 2) (hon : mf q 4 7 6 ≠ 0) (hst : (portOf s (mf q 4 4 0)).st ≠ .outOfService) :
    testLoop q s = ok (tryUp (mf q 4 4 0) (testPort (mf q 4 4 0) (fun v => { v with loop := mf q 4 7 6 }) s)) := by
  have hserdes : (!((decide (mf q 4 4 0 = 18) || decide (mf q 4 4 0 = 19)) && decide (2 ≤ mf q 4 7 6))) = true := by
    simp
    omega
  exact (need_ok hlen (by simp only [h4, hport, hserdes, decide_true, Bool.and_self, List.forall_mem_singleton])).trans ((if_neg hon).trans (if_neg hst))

section Prbs
variable (hlen : q.args.length = 1) (h4 : only (mw q 4) [(3, 0), (6, 4), (9, 8)] = true) (hport : mf q 4 3 0 < 12) (hkind : mf q 4 6 4 ≤ 4)
include hlen h4 hport hkind

theorem testPrbs_starts (s : State) (hop : mf q 4 9 8 = 1) :
    testPrbs q s = ok (testPort (mf q 4 3 0) (fun v => { v with prbs := some (mf q 4 6 4), prbsBits := 0, prbsErrs := 0 }) s) := by
  refine (need_ok hlen (by simp [h4, hport, hkind, hop])).trans ?_
  simp only [hop]

theorem testPrbs_reads (s : State) (hop : mf q 4 9 8 = 2) :
    testPrbs q s =
      okWith (split64 (portOf (prbsCounted (mf q 4 3 0) s) (mf q 4 3 0)).prbsBits ++ [word (portOf (prbsCounted (mf q 4 3 0) s) (mf q 4 3 0)).prbsErrs])
        (prbsCounted (mf q 4 3 0) s) := by
  refine (need_ok hlen (by simp [h4, hport, hkind, hop])).trans ?_
  simp only [hop]

end Prbs

/-- A cable is measured where no other measurement and no change of its segment is under way (R651). -/
theorem testCable_valid (hlen : q.args.length = 1) (h4 : only (mw q 4) [(4, 0)] = true) (hport : isT (mf q 4 4 0) = true)
    (hidle : (portOf s (mf q 4 4 0)).cable = false) (h2 : (segOf s (mf q 4 4 0)).state ≠ 2) (h3 : (segOf s (mf q 4 4 0)).state ≠ 3)
    (h4' : (segOf s (mf q 4 4 0)).state ≠ 4) :
    testCable q s = (.defer [word (mf q 4 4 0)], testPort (mf q 4 4 0) (fun v => { v with cable := true }) s) :=
  (need_ok hlen (by simp [h4, hport])).trans (if_neg (by simp [hidle, h2, h3, h4']))

section Cipher
variable (hlen : q.args.length = 1) (h4 : only (mw q 4) [(1, 0)] = true)
include hlen h4

theorem testCipher_bulk (hunit : mf q 4 1 0 = 2) (h2 : s.ciph.test2 = false) (h3 : s.ciph.test3 = false) (hroom : bulkRoom s 7 = true) :
    testCipher q s = (.defer [2], submitTests s) :=
  (need_ok hlen (by simp [h4, hunit])).trans ((if_pos hunit).trans ((if_neg (by simp [h2, h3])).trans (if_neg (by simp [hroom]))))

theorem testCipher_pipe (s : State) (hunit : mf q 4 1 0 < 2) :
    testCipher q s = (.defer [word (mf q 4 1 0)], setCiph { s.ciph with
      test0 := s.ciph.test0 || decide (mf q 4 1 0 = 0), test1 := s.ciph.test1 || decide (mf q 4 1 0 = 1) } s) :=
  (need_ok hlen (by simp [h4]; omega)).trans (if_neg (by omega))

end Cipher

theorem testService_eq (s : State) (hlen : q.args.length = 1) (h4 : only (mw q 4) [(4, 0), (8, 8)] = true) (hport : mf q 4 4 0 < 28) :
    testService q s = if s.pair.en && s.pair.port = mf q 4 4 0 then conflictAt 4 s else stage (.service (mf q 4 4 0) (bit (mw q 4) 8)) s :=
  need_ok hlen (by simp [h4, hport])

theorem testScrub_valid (s : State) (hlen : q.args = []) :
    testScrub q s =
      okWith ((List.range 7).flatMap (fun i => [word (tget (0, 0) s.sys.test.ecc i).1, word (tget (0, 0) s.sys.test.ecc i).2]))
        (if q.clear then { s with sys := { s.sys with test := { s.sys.test with ecc := [] } } } else s) :=
  need_ok (List.length_eq_zero_iff.mpr hlen) (List.forall_mem_nil _)

/-- Settles O20: each PAIR and TEST request whose words are in range does what it asks, or is refused as its object or port stands. -/
theorem pairAndTestRequestsTakeEffect : Obligations.PairAndTestRequestsTakeEffect := by
  unfold Obligations.PairAndTestRequestsTakeEffect
  refine ⟨?config, ?configConflict, fun o => ?guardFree, fun o => ?guardGroup, fun o => ?guardBusy, ?bind, ?bindFull, ?status, fun o => ?release,
    fun o t q s htaken hlen h4 hobj hnot => ?releaseConflict, ?loop, ?prbs, ?prbsRead, ?cable, ?bulk, ?pipe0, ?pipe1, ?service, ?serviceConflict, ?scrub⟩
  case config =>
    exact gives_of pairConf (fun _ _ _ => rfl) fun q e ⟨hlen, h4, hlow, hhigh, h5, hilow, hihigh, hbound, hport⟩ =>
      pairConf_valid ⟨hlen, h4, hlow, hhigh, h5, hilow, hihigh⟩ hbound hport
  case configConflict =>
    exact refuses_of pairConf (fun _ _ _ => rfl) fun q e ⟨hlen, h4, hlow, hhigh, h5, hilow, hihigh, hen, hbound⟩ =>
      pairConf_unbound ⟨hlen, h4, hlow, hhigh, h5, hilow, hihigh⟩ hen hbound
  case guardFree =>
    refine gives_of pairGuard (fun _ _ _ => rfl) fun q e ⟨hlen, h4, hobj, howns, hfree⟩ => ?_
    rw [pairGuard_eq hlen hobj e h4, if_neg (by simp [howns]), hfree]
    rfl
  case guardGroup =>
    refine gives_of pairGuard (fun _ _ _ => rfl) fun q e ⟨hlen, h4, hobj, howns, hgroup⟩ => ?_
    rw [pairGuard_eq hlen hobj e h4, if_neg (by simp [howns]), hgroup]
    rfl
  case guardBusy =>
    refine refuses_of pairGuard (fun _ _ _ => rfl) fun q e ⟨hlen, h4, hobj, howns⟩ => ?_
    rw [pairGuard_eq hlen hobj e h4, if_pos howns]
    rfl
  case bind =>
    exact goes_of pairBindPut (fun _ _ _ => rfl) fun q e ⟨hlen, h4, hfew, hfuse, hrun⟩ => pairBindPut_valid hlen h4 hfew hfuse hrun
  case bindFull => exact refuses_of pairBindPut (fun _ _ _ => rfl) fun q e ⟨hlen, h4, hfull⟩ => pairBindPut_full hlen h4 hfull
  case status => exact gives_of pairStat (fun _ _ _ => rfl) fun q e hlen => pairStat_valid e hlen
  case release =>
    refine gives_of pairRel (fun _ _ _ => rfl) fun q e ⟨hlen, h4, hobj, hen, howns⟩ => ?_
    exact (pairRel_eq hlen hobj e h4).trans (if_neg (by simp [hen, howns]))
  case releaseConflict =>
    refine concludes_of (r := conflictAt 4 (leaseEnds o (entered t 0x0C05 q s))) pairRel (fun _ _ _ => rfl) htaken ?_
    exact (pairRel_eq hlen hobj _ h4).trans (if_pos (by simpa using hnot))
  case loop =>
    exact gives_of testLoop (fun _ _ _ => rfl) fun q e ⟨hlen, h4, hport, hkind, hon, hst⟩ => testLoop_valid hlen h4 hport hkind hon hst
  case prbs =>
    exact gives_of testPrbs (fun _ _ _ => rfl) fun q e ⟨hlen, h4, hport, hkind, hop⟩ => testPrbs_starts hlen h4 hport hkind e hop
  case prbsRead =>
    exact gives_of testPrbs (fun _ _ _ => rfl) fun q e ⟨hlen, h4, hport, hkind, hop⟩ => testPrbs_reads hlen h4 hport hkind e hop
  case cable =>
    exact goes_of testCable (fun _ _ _ => rfl) fun q e ⟨hlen, h4, hport, hidle, h2, h3, h4'⟩ => testCable_valid hlen h4 hport hidle h2 h3 h4'
  case bulk =>
    exact goes_of testCipher (fun _ _ _ => rfl) fun q e ⟨hlen, h4, hunit, h2, h3, hroom⟩ => testCipher_bulk hlen h4 hunit h2 h3 hroom
  case pipe0 =>
    refine goes_of testCipher (fun _ _ _ => rfl) fun q e ⟨hlen, h4, hunit⟩ => ?_
    rw [testCipher_pipe hlen h4 e (by omega), hunit]
    simp [setCiph, word]
  case pipe1 =>
    refine goes_of testCipher (fun _ _ _ => rfl) fun q e ⟨hlen, h4, hunit⟩ => ?_
    rw [testCipher_pipe hlen h4 e (by omega), hunit]
    simp [setCiph, word]
  case service =>
    refine stages_of testService (fun _ _ _ => rfl) fun q e ⟨hlen, h4, hport, hfree⟩ => ?_
    rw [testService_eq e hlen h4 hport, if_neg (by rcases hfree with h | h <;> simp [h])]
    rfl
  case serviceConflict =>
    refine refuses_of testService (fun _ _ _ => rfl) fun q e ⟨hlen, h4, hport, hen, hsame⟩ => ?_
    rw [testService_eq e hlen h4 hport, if_pos (by simp [hen, hsame])]
    rfl
  case scrub => exact gives_of testScrub (fun _ _ _ => rfl) fun q e hlen => testScrub_valid e hlen

end Sys2Proof.Machine
end

section
/-!
PROOFS. The FW requests (R578, R606 to R623).
-/
namespace Sys2Proof.Machine
open Sys2Proof Sys2Proof.Safety

variable {q : Req} {s : State} {ws : Rec} {n : Nat}

theorem fwStat_valid (s : State) (hlen : q.args = []) :
    fwStat q s = okWith [word (releaseWord s), flashWord s 4, packW [(24, 0), (2, s.sys.fw.lifecycle), (6, s.sys.fw.floor)], word (genInForce s),
      packW [(1, b2n s.sys.fw.settingsGood), (1, b2n s.sys.fw.safeProfile), (1, b2n s.sys.fw.commitPending), (29, 0)]] s :=
  need_ok (List.length_eq_zero_iff.mpr hlen) (List.forall_mem_nil _)

/-- A download in range erases the sectors that it touches, unless a conflicting command is under way (R606). -/
theorem fwLoad_eq (hbulk : bulkOf 1 q s = some (ws, n)) (h4 : only (mw q 4) [(21, 0)] = true) (haligned : mf q 4 21 0 % 4096 = 0)
    (hlow : mf q 4 21 0 < 0x200000) (hhigh : mf q 4 21 0 + n ≤ 0x200000) :
    fwLoad q s =
      if inFlight s (fun op => op = 0x0D02 || op = 0x0D03 || op = 0x0D07) then busy s
      else (.defer (word (mf q 4 21 0) :: word n :: ws), eraseSectors (mf q 4 21 0) n (setFw (fun f => { f with slotDirty := true }) s)) := by
  unfold fwLoad
  simp only [hbulk]
  refine if_neg ?_
  simp only [h4, haligned, Bool.or_eq_true, decide_eq_true_eq, Bool.not_true, Bool.false_eq_true, ne_eq, not_true_eq_false, false_or, not_or]
  omega

section Activation
variable (hlen : q.args.length = 8) (hidle : inFlight s (fun op => op = 0x0D02 || op = 0x0D07) = false) (hact : s.sys.fw.act = none)
include hlen hidle hact

/-- The activation of a slot whose header or hash does not match is refused and raises its cause (R608, R623). -/
theorem fwActivatePut_mismatch (hbad : imageCheck s = 2 ∨ recBytes q.args ≠ sha false (flashBytes s 0 (imageLength s))) :
    fwActivatePut q s = activationRefused (conflict s) s := by
  rw [fwActivatePut, if_neg (not_not.mpr hlen), if_neg (by simp [hidle, hact])]
  dsimp only
  rw [if_pos]
  rw [Bool.or_eq_true, decide_eq_true_eq, Bool.not_eq_true', decide_eq_false_iff_not]
  exact hbad

/-- That of a slot that checks waits for its pause (R608). -/
theorem fwActivatePut_valid (h2 : imageCheck s ≠ 2) (h3 : imageCheck s ≠ 3) (h4 : imageCheck s ≠ 4) (h5 : imageCheck s ≠ 5)
    (hhash : recBytes q.args = sha false (flashBytes s 0 (imageLength s))) (hboot : s.sys.fw.boot ≠ .safelight) :
    fwActivatePut q s = (.defer (split64 (s.time.now + 10 * imageLength s)), setFw (fun f => { f with act := some q.mbx }) s) := by
  rw [fwActivatePut, if_neg (not_not.mpr hlen), if_neg (by simp [hidle, hact])]
  dsimp only
  rw [if_neg, if_neg, if_neg h5, if_neg hboot]
  · rw [Bool.or_eq_true, decide_eq_true_eq, decide_eq_true_eq]
    exact not_or.mpr ⟨h3, h4⟩
  · rw [Bool.or_eq_true, decide_eq_true_eq, Bool.not_eq_true', decide_eq_false_iff_not]
    exact not_or.mpr ⟨h2, not_not.mpr hhash⟩

end Activation

section Commit
variable (hlen : q.args = []) (hfuse : fuseBusy s = false)
include hlen hfuse

/-- A commit that is not due is refused (R617). -/
theorem fwCommitPut_notDue (hnot : s.sys.fw.settingsGood = false ∨ s.sys.fw.commitPending = false) : fwCommitPut q s = conflict s := by
  rw [fwCommitPut, if_neg (not_not.mpr hlen), if_neg (by simp [hfuse]), if_pos]
  rcases hnot with h | h
  · simp [h]
  · simp [h]

/-- One that is due raises the floor to the SVN of the image, where that exceeds it (R617). -/
theorem fwCommitPut_due (hgood : s.sys.fw.settingsGood = true) (hpend : s.sys.fw.commitPending = true) :
    fwCommitPut q s =
      if s.sys.fw.floor < imSvn s.sys.fw.img then
        if s.dark.run then (.defer [word (imSvn s.sys.fw.img)],
          auditAppend 1 (imSvn s.sys.fw.img + 1) (word s.sys.fw.floor) (word (imSvn s.sys.fw.img)) (releaseShort s) s)
        else busy s
      else (.both 0 [word s.sys.fw.floor], setFw (fun f => { f with commitPending := false, base := none }) s) := by
  rw [fwCommitPut, if_neg (not_not.mpr hlen), if_neg (by simp [hfuse]), if_neg (by simp [hgood, hpend])]
  by_cases hfloor : s.sys.fw.floor < imSvn s.sys.fw.img
  · cases hrun : s.dark.run
    · simp [hfloor]
    · simp [hfloor]
  · simp [hfloor]

end Commit

/-- A settings copy that checks goes to the copy that is not in force (R611, R612). -/
theorem fwSettingsPut_valid (hbulk : bulkOf 0 q s = some (ws, n)) (hvalid : copyValid s ws n = true) (hmig : s.sys.fw.migrating = false)
    (hidle : inFlight s (fun op => op = 0x0D05) = false) :
    fwSettingsPut q s =
      (.defer (word (targetCopy s) :: word (newGen s) :: ws), flashErase (copyBase (targetCopy s)) (copyBase (targetCopy s) + (n + 4095) / 4096 * 4096) s) := by
  unfold fwSettingsPut
  simp only [hbulk]
  rw [if_neg (by simp [hvalid]), if_neg (by simp [hmig, hidle])]

theorem fwSettingsGet_valid (s : State) (hlen : q.args.length = 2) (h4 : only (mw q 4) [(20, 0)] = true) (haligned : mf q 5 31 16 % 4 = 0)
    (hlow : 4 ≤ mf q 5 15 0) (hhigh : mf q 5 31 16 + mf q 5 15 0 ≤ 16384) :
    fwSettingsGet q s = okWith [word (min (mf q 5 15 0) (0x200000 - mf q 4 20 0))]
      (memBytes (0xE0000 + 0x4000 * q.mbx + mf q 5 31 16) (flashBytes s (0x200000 + mf q 4 20 0) (min (mf q 5 15 0) (0x200000 - mf q 4 20 0))) s) :=
  need_ok hlen (by simp [h4, haligned, hlow, hhigh])

/-- The lifecycle moves on to its next state (R620). -/
theorem fwLifecyclePut_valid (hlen : q.args.length = 1) (h4 : only (mw q 4) [(1, 0)] = true) (hnext : mf q 4 1 0 = s.sys.fw.lifecycle + 1)
    (hfuse : fuseBusy s = false) (hrun : s.dark.run = true) (hpend : mf q 4 1 0 = 2 → s.sys.fw.commitPending = false) :
    fwLifecyclePut q s =
      (.defer [word (mf q 4 1 0)], auditAppend 3 (mf q 4 1 0) (word s.sys.fw.lifecycle) (word (mf q 4 1 0)) (releaseShort s) s) := by
  refine (need_ok hlen (by simp [h4, hnext])).trans ((if_neg (by simp [hfuse])).trans ((if_neg ?_).trans (if_neg (by simp [hrun]))))
  simpa [hrun] using hpend

theorem fwLifecyclePut_outOfRange (s : State) (hlen : q.args.length = 1) (hbad : only (mw q 4) [(1, 0)] = false ∨ mf q 4 1 0 ≠ s.sys.fw.lifecycle + 1) :
    fwLifecyclePut q s = rangeAt 4 s := by
  refine need_firstBad hlen ?_
  rcases hbad with h | h
  · simp [h]
  · simp [h]

/-- Settles O15: each FW request whose words are in range and that nothing under way holds up does what it asks. -/
theorem firmwareRequestsTakeEffect : Obligations.FirmwareRequestsTakeEffect := by
  unfold Obligations.FirmwareRequestsTakeEffect
  refine ⟨?status, fun ws n => ?download, fun ws n => ?downloadBusy, ?activate, fun t q s htaken hlen hidle hact hbad => ?mismatch, ?commit, ?commitBusy,
    ?commitNotDue, fun t q s htaken hlen hfuse hgood hpend hfloor => ?commitDone, fun ws n => ?settings, ?settingsRead, ?lifecycle, ?lifecycleRange⟩
  case status => exact gives_of fwStat (fun _ _ _ => rfl) fun q e hlen => fwStat_valid e hlen
  case download =>
    exact goes_of fwLoad (fun _ _ _ => rfl) fun q e ⟨hbulk, h4, haligned, hlow, hhigh, hidle⟩ =>
      (fwLoad_eq hbulk h4 haligned hlow hhigh).trans (if_neg (Bool.eq_false_iff.mp hidle))
  case downloadBusy =>
    exact refuses_of fwLoad (fun _ _ _ => rfl) fun q e ⟨hbulk, h4, haligned, hlow, hhigh, hunder⟩ =>
      (fwLoad_eq hbulk h4 haligned hlow hhigh).trans (if_pos hunder)
  case activate =>
    exact goes_of fwActivatePut (fun _ _ _ => rfl) fun q e ⟨hlen, hidle, hact, h2, h3, h4, h5, hhash, hboot⟩ =>
      fwActivatePut_valid hlen hidle hact h2 h3 h4 h5 hhash hboot
  case mismatch => 
    have hrefused := fwActivatePut_mismatch hlen hidle hact hbad
    have hstep := concludes_of (c := .fwActivate) fwActivatePut (fun _ _ _ => rfl) htaken hrefused
    exact hstep.trans rfl
  case commit =>
    refine goes_of fwCommitPut (fun _ _ _ => rfl) fun q e ⟨hlen, hfuse, hgood, hpend, hfloor, hrun⟩ => ?_
    rw [fwCommitPut_due hlen hfuse hgood hpend, if_pos hfloor, if_pos hrun]
  case commitBusy =>
    refine refuses_of fwCommitPut (fun _ _ _ => rfl) fun q e ⟨hlen, hfuse, hgood, hpend, hfloor, hrun⟩ => ?_
    rw [fwCommitPut_due hlen hfuse hgood hpend, if_pos hfloor, if_neg (Bool.eq_false_iff.mp hrun)]
    rfl
  case commitNotDue => exact refuses_of fwCommitPut (fun _ _ _ => rfl) fun q e ⟨hlen, hfuse, hnot⟩ => fwCommitPut_notDue hlen hfuse hnot
  case commitDone =>
    have hdue := (fwCommitPut_due hlen hfuse hgood hpend).trans (if_neg (Nat.not_lt.mpr hfloor))
    have hstep := concludes_of (c := .fwCommit) fwCommitPut (fun _ _ _ => rfl) htaken hdue
    simpa only [setFw] using hstep
  case settings =>
    exact goes_of fwSettingsPut (fun _ _ _ => rfl) fun q e ⟨hbulk, hvalid, hmig, hidle⟩ => fwSettingsPut_valid hbulk hvalid hmig hidle
  case settingsRead =>
    exact gives_of fwSettingsGet (fun _ _ _ => rfl) fun q e ⟨hlen, h4, haligned, hlow, hhigh⟩ => fwSettingsGet_valid e hlen h4 haligned hlow hhigh
  case lifecycle =>
    exact goes_of fwLifecyclePut (fun _ _ _ => rfl) fun q e ⟨hlen, h4, hnext, hfuse, hrun, hpend⟩ => fwLifecyclePut_valid hlen h4 hnext hfuse hrun hpend
  case lifecycleRange => exact refuses_of fwLifecyclePut (fun _ _ _ => rfl) fun q e ⟨hlen, hbad⟩ => fwLifecyclePut_outOfRange e hlen hbad

end Sys2Proof.Machine
end

section
/-!
PROOFS. What the Darkroom does by itself (R427 to R447).
-/
namespace Sys2Proof.Machine
open Sys2Proof Sys2Proof.Safety

variable {s : State} {w : DarkWindow}

/-! ### The window in progress -/

/-- The trace no longer holds the start of the before-part (R437). -/
def startLost (w : DarkWindow) (s : State) : Bool :=
  match s.cs.trace.reverse with
  | r :: _ => decide (w.lt - fld w.cfg 0 31 16 * 1000000 < r.lt && 0 < oldestAt s)
  | [] => false

/-- The before-part is taken from the records that the trace holds (R437). -/
theorem takeBefore_open (hcur : s.dark.cur = some w) (hphase : w.phase = 0) (hrun : s.dark.run = true) :
    takeBefore s =
      let from0 := w.lt - fld w.cfg 0 31 16 * 1000000
      let til := w.lt + fld w.cfg 0 15 0 * 1000000
      let sel := s.cs.trace.reverse.filter (windowTakes w)
      let bef := sel.filter (fun r => from0 ≤ r.lt && r.lt ≤ w.lt)
      let aft := sel.filter (fun r => w.lt < r.lt && r.lt ≤ til)
      let room := windowMax - fld w.cfg 1 31 16
      { s with dark := { s.dark with cur := some { w with
        phase := 1, before := bef.drop (bef.length - room), truncBefore := decide (room < bef.length) || startLost w s
        after := aft.take (windowMax - min bef.length room), truncAfter := decide (windowMax - min bef.length room < aft.length) } } } := by
  unfold takeBefore setDark
  simp only [hcur]
  exact if_neg (by simp [hphase, hrun])

/-- The after-part closes at its time or when its space has run out (R437). -/
theorem closeWindow_due (hcur : s.dark.cur = some w) (hphase : w.phase = 1) (hrun : s.dark.run = true)
    (hdue : w.truncAfter = true ∨ w.epoch ≠ s.time.epoch ∨ w.lt + fld w.cfg 0 15 0 * 1000000 ≤ s.time.now) :
    closeWindow s =
      let u := { s with dark := { s.dark with cur := some { w with phase := 2, clkFb := w.clkFb || s.dark.clkFb } } }
      if w.truncBefore = true ∨ w.truncAfter = true then darkEvent 0x04 u else u := by
  unfold closeWindow setDark
  simp only [hcur]
  rw [if_pos]
  · simp only [Bool.or_eq_true]
  · simp only [hphase, hrun, decide_true, Bool.true_and, Bool.or_eq_true, decide_eq_true_eq]
    exact or_assoc.mpr hdue

theorem randomBytes_dark (n : Nat) (s : State) : (randomBytes n s).2.dark = s.dark := by
  induction n generalizing s with
  | zero => rfl
  | succ n ih => exact ih (freeVal s).2

/-- Signing leaves the Darkroom as it is. -/
theorem darkSign_dark (msg : Bytes) (s : State) : (darkSign msg s).2.dark = s.dark := by
  unfold darkSign
  split
  · exact randomBytes_dark 8 s
  · rfl

/-- A closed window is signed into its slot under the next evidence number (R439, R440). -/
theorem signWindow_closed (hcur : s.dark.cur = some w) (hphase : w.phase = 2) (hrun : s.dark.run = true) (hlow : s.dark.lowAt = none) :
    signWindow s =
      let h := windowHeader s w s.dark.nextEv
      let sig := darkSign (recBytes h) s
      let full := h ++ bytesRec sig.1 ++ List.replicate 5 0
      { sig.2 with dark := { sig.2.dark with
          cur := some { w with phase := 3, evSeq := s.dark.nextEv, header := full, wrote := sig.2.time.now }
          nextEv := sig.2.dark.nextEv + 1
          slot := tset {} sig.2.dark.slot w.slot { st := 1, evSeq := s.dark.nextEv, header := full, recs := w.before ++ w.after } } } := by
  unfold signWindow
  simp only [hcur]
  rw [if_neg (by simp [hphase, hrun, hlow])]
  simp only [setDarkSlot, setDark, darkSign_dark]

/-- The acknowledgement of the commit page completes the slot (R437, R440). -/
theorem ackWindow_committed (hcur : s.dark.cur = some w) (hphase : w.phase = 3) (hrun : s.dark.run = true)
    (hbegun : s.dark.lowAt = none ∧ commitFrom w ≤ s.time.now ∨ ∃ a, s.dark.lowAt = some a ∧ commitFrom w ≤ a) :
    ackWindow s = nextWindow (darkEvent 0x01 (setDarkSlot w.slot { darkSlot s w.slot with st := 2 }
      (count rDRK_STAT 15 0 { s with dark := { s.dark with cur := none } }))) := by
  unfold ackWindow
  simp only [hcur]
  rw [if_neg]
  · rfl
  · rcases hbegun with ⟨hlow, hfrom⟩ | ⟨a, hlow, hfrom⟩
    · simp [hphase, hrun, hlow, hfrom]
    · simp [hphase, hrun, hlow, hfrom]

/-! ### Its clock, its supply and its images -/

theorem clockFallsBack_running (hrun : s.dark.run = true) (hclk : s.dark.clkFb = false) :
    clockFallsBack s =
      darkEvent 0x06 { s with dark := { s.dark with clkFb := true, cur := s.dark.cur.map (fun w => { w with clkFb := true }) } } :=
  if_neg (by simp [hrun, hclk])

theorem darkSupplyLost_first (hlow : s.dark.lowAt = none) : darkSupplyLost s = { s with dark := { s.dark with lowAt := some s.time.now } } :=
  if_neg (by simp [hlow])

/-- 2 ms after the loss of its supply the Darkroom stops (R429). -/
theorem holdUpEnds_due {a t : Nat} (hlow : s.dark.lowAt = some a) (hrun : s.dark.run = true) (hdue : a + 2000000 ≤ t) :
    holdUpEnds t s = { s with dark := { s.dark with run := false, cur := none, queue := none } } := by
  unfold holdUpEnds setDark
  simp only [hlow]
  rw [if_pos (by simp [hrun, hdue])]

/-- The record, the image in force and the event of a reseal (R433, R443). -/
def resealed (i : Nat) (ws : Rec) (s : State) : State :=
  let a := auditAppend 2 (s.dark.images + 1) (word (s.dark.inForce.getD 0)) (word i) (releaseShort s) s
  let b := setDark { a.dark with image := tset [] a.dark.image i ws, images := a.dark.images + 1, reseal := none } a
  darkEvent 0x05 (setDark { b.dark with inForce := some i, calBad := false, forceWas := (b.dark.inForce, b.time.now + 1) } b)

theorem resealDone_eq {i : Nat} {ws : Rec} (hreseal : s.dark.reseal = some (i, ws)) (hrun : s.dark.run = true) :
    resealDone s =
      (flightOf (resealed i ws s) (fun op => op = 0x0B04)).elim (resealed i ws s) (fun m => finishDeferred m 0 [word i] (resealed i ws s)) := by
  unfold resealDone
  simp only [hreseal]
  rw [if_neg (by simp [hrun])]
  change (match flightOf (resealed i ws s) (fun op => op = 0x0B04) with
    | some m => finishDeferred m 0 [word i] (resealed i ws s)
    | none => resealed i ws s) = _
  cases flightOf (resealed i ws s) (fun op => op = 0x0B04) <;> rfl

/-- Settles O32: the window in progress moves on by its phases, and the clock, the supply and the images of the Darkroom change as they are told. -/
theorem darkroomEventsTakeEffect : Obligations.DarkroomEventsTakeEffect := by
  unfold Obligations.DarkroomEventsTakeEffect
  refine ⟨fun w => ?before, fun w => ?after, fun w => ?signed, fun w => ?ack, ?fallback, ?back, ?watchdog, ?reset, ?supply,
    fun a t s hlow hrun hdue => holdUpEnds_due hlow hrun hdue, fun i ws => ?reseal⟩
  case before =>
    exact doesAlways_of takeBefore (fun _ _ => rfl) fun s ⟨hcur, hphase, hrun⟩ => takeBefore_open hcur hphase hrun
  case after => exact doesAlways_of closeWindow (fun _ _ => rfl) fun s ⟨hcur, hphase, hrun, hdue⟩ => closeWindow_due hcur hphase hrun hdue
  case signed => exact doesAlways_of signWindow (fun _ _ => rfl) fun s ⟨hcur, hphase, hrun, hlow⟩ => signWindow_closed hcur hphase hrun hlow
  case ack => exact doesAlways_of ackWindow (fun _ _ => rfl) fun s ⟨hcur, hphase, hrun, hbegun⟩ => ackWindow_committed hcur hphase hrun hbegun
  case fallback => exact doesAlways_of clockFallsBack (fun _ _ => rfl) fun s ⟨hrun, hclk⟩ => clockFallsBack_running hrun hclk
  case back => exact doesAlways_of clockComesBack (fun _ _ => rfl) fun s hclk => if_pos hclk
  case watchdog => exact doesAlways_of darkWatchdog (fun _ _ => rfl) fun s hrun => if_pos hrun
  case reset => exact doesAlways_of (fun s => darkReset { s with dark := { s.dark with lowAt := none } }) (fun _ _ => rfl) fun _ _ => rfl
  case supply => exact doesAlways_of darkSupplyLost (fun _ _ => rfl) fun s hlow => darkSupplyLost_first hlow
  case reseal =>
    refine doesAlways_of resealDone (fun _ _ => rfl) fun s ⟨hreseal, hrun⟩ => (resealDone_eq hreseal hrun).trans ?_
    unfold resealed setDark
    dsimp only
    cases flightOf _ (fun op => decide (op = 0x0B04)) <;> rfl

end Sys2Proof.Machine
end

section
/-!
PROOFS. Supplies, clocks, reset pins and control cores (R597, R627 to R646, R672).
-/
namespace Sys2Proof.Machine
open Sys2Proof Sys2Proof.Safety

variable {s : State}

/-! ### Rails and VBAT -/

theorem railsRise_held (hheld : s.sys.pow.power = .held) (hrails : s.sys.pow.rails = true) :
    railsRise s =
      if s.sys.pow.wokeFrom.isSome then powerOnReset 2 (setPow (fun p => { p with rails := false }) s)
      else releaseReset (setPow (fun p => { p with rails := false }) s) :=
  if_neg (by simp [hheld, hrails])

/-- A brown-out of the running core completes a standby entry, or is a held system reset (R627, R646). -/
theorem brownOut_running {mv us : Nat} (hrun : s.sys.pow.power = .run) :
    brownOut mv us s =
      if s.nm.entry.isSome then finishEntry (setPow (fun p => { p with owed := p.owed ++ [supplyPayload 4 mv us] }) s)
      else systemReset 5 (setPow (fun p => { p with brown := some (mv, us), rails := true }) s) := by
  unfold brownOut
  simp only [hrun]

theorem measured_running (hrun : s.sys.pow.power = .run) (mv : Nat) : measured s mv = mv / 20 * 20 := if_neg (by simp [hrun])

theorem vbatDisturbed_opens {k : VbatKind} {mv : Nat} (hnone : s.sys.pow.disturb = none) (hrun : s.sys.pow.power = .run) :
    vbatDisturbed k mv s = setPow (fun p => { p with disturb := some ⟨vbatType k, s.time.now - 10000, mv / 20 * 20⟩ }) s := by
  unfold vbatDisturbed
  simp only [hnone, measured_running hrun]

/-- A disturbance that ends while the core runs is recorded at once (R629). -/
theorem vbatCalm_running {d : Disturb} {mv : Nat} (hd : s.sys.pow.disturb = some d) (hrun : s.sys.pow.power = .run) :
    vbatCalm mv s = supplyRecord d.kind (supplyPayload d.kind (extreme d.kind d.mv (mv / 20 * 20)) ((s.time.now - d.start) / 1000))
      (setPow (fun p => { p with disturb := none }) s) := by
  have hon : coreOn s = true := decide_eq_true hrun
  unfold vbatCalm
  simp only [hd, measured_running hrun, hon, if_true]

/-! ### Resets -/

theorem systemReset_awake {c : Nat} (hrun : s.sys.pow.power = .run) (hpor : s.sys.pow.porAt ≠ some s.time.now) :
    systemReset c s = releaseReset (systemHeld c s) := by
  rw [systemReset_eq, if_neg (by simp [hrun, hpor])]

/-- A system reset in the cycle of a power-on reset is a part of it (R635). -/
theorem systemReset_inPowerOn {c : Nat} (hpor : s.sys.pow.porAt = some s.time.now) : systemReset c s = s := if_pos (by simp [hpor])

theorem powerOn_awake {c : Nat} (h : s.sys.pow.power ≠ .standby) : powerOn c s = powerOnReset c s := if_neg h

theorem resetBy_due {d : Nat} (hgo : s.sys.pow.sysGo = some d) (hdue : d ≤ s.time.now) : resetBy 8 s = systemReset 8 s := by
  have hsys : sysGoDue s = true := by simp [sysGoDue, hgo, hdue]
  rw [resetBy, if_pos rfl, if_pos hsys]

theorem resetBy_cause {c : Nat} (h8 : c ≠ 8) (hc : c < 32) : resetBy c s = systemReset c s := by rw [resetBy, if_neg h8, Nat.mod_eq_of_lt hc]

theorem reloaded_due (hreload : s.sys.core.reload = true) (hgo : s.sys.core.reloadGo ≠ some s.time.now) :
    reloaded s = controlStarts (setCore (fun c => { c with reload := false, reloadGo := none }) s) :=
  if_neg (by simp [hreload, hgo])

/-! ### The control cores -/

/-- The watchdog acts where the core serves (R596, R597). -/
theorem watchdogExpires_serving (hpause : s.sys.fw.paused = false) (hreload : s.sys.core.reload = false)
    (hboot : s.sys.fw.boot = .served ∨ s.sys.fw.boot = .kernel) : watchdogExpires s = takeover 1 s := by
  refine if_neg ?_
  rcases hboot with h | h
  · simp [hpause, hreload, h]
  · simp [hpause, hreload, h]

theorem takeover_snapshot {c : Nat} (hidle : s.sys.core.takeover = none) (hok : s.sys.core.stbyOk = true) (hcopy : s.sys.core.copy0.isSome = true) :
    takeover c s = controlStops false (setCore (fun x => { x with takeover := some c }) s) :=
  if_pos (by simp [hidle, hok, hcopy])

theorem takeover_noStandby {c : Nat} (hok : s.sys.core.stbyOk = false) : takeover c s = systemReset 7 s := if_neg (by simp [hok])

theorem takenOver_running {c : Nat} (h : s.sys.core.takeover = some c) :
    takenOver s =
      let e := setCore (fun x => { x with takeover := none, core := 1 - x.core, stbyOk := false, lastCause := c }) s
      systemEventD 11 c e.sys.core.snapId (controlStarts (setFlag rCORE_STAT 29 e)) := by
  unfold takenOver
  simp only [h]

/-! ### Clocks -/

theorem clockFails_running (hrun : s.sys.pow.power = .run) :
    clockFails s = systemReset 6 (setPow (fun p => { p with clock := true, clockFault := true }) (cipherAlarm .clock s)) := by
  unfold clockFails
  simp only [hrun]

theorem osc32Stops_running (hosc : s.sys.pow.osc32 = true) (hrun : s.sys.pow.power = .run) :
    osc32Stops s = systemEvent 15 0x08 (setPow (fun p => { p with osc32 := false }) s) := by
  have hon : coreOn s = true := decide_eq_true hrun
  rw [osc32Stops, if_neg (by simp [hosc])]
  exact if_pos hon

/-- Settles O38: each supply, pin, clock and core acts by the power state that it finds. -/
theorem powerAndResetEventsTakeEffect : Obligations.PowerAndResetEventsTakeEffect := by
  unfold Obligations.PowerAndResetEventsTakeEffect
  refine ⟨?railsStandby, ?rails, fun mv us => ?brown, fun mv us => ?brownEntry, ?off, ?retention, fun k mv => ?disturbed, fun d mv => ?calm, ?vbat, ?porst,
    ?sysrst, ?sysrstPor, fun mode => ?powerOn, fun c h8 hc => ?system, fun d => ?sysGo, ?reloaded, ?watchdog, ?watchdogReset, fun c => ?takenOver, ?clock,
    ?clockBack, ?osc, ?hot, ?cool⟩
  case railsStandby =>
    exact doesAlways_of railsRise (fun _ _ => rfl) fun s ⟨hheld, hrails, hwoke⟩ => (railsRise_held hheld hrails).trans (if_pos hwoke)
  case rails =>
    exact doesAlways_of railsRise (fun _ _ => rfl) fun s ⟨hheld, hrails, hwoke⟩ => (railsRise_held hheld hrails).trans (if_neg (by simp [hwoke]))
  case brown =>
    exact doesAlways_of (brownOut mv us) (fun _ _ => rfl) fun s ⟨hrun, hentry⟩ => (brownOut_running hrun).trans (if_neg (by simp [hentry]))
  case brownEntry =>
    exact doesAlways_of (brownOut mv us) (fun _ _ => rfl) fun s ⟨hrun, hentry⟩ => (brownOut_running hrun).trans (if_pos hentry)
  case off => exact doesAlways_of railOff (fun _ _ => rfl) fun s hawake => if_neg hawake
  case retention => exact doesAlways_of retentionLow (fun _ _ => rfl) fun _ _ => rfl
  case disturbed => exact doesAlways_of (vbatDisturbed k mv) (fun _ _ => rfl) fun s ⟨hnone, hrun⟩ => vbatDisturbed_opens hnone hrun
  case calm => exact doesAlways_of (vbatCalm mv) (fun _ _ => rfl) fun s ⟨hd, hrun⟩ => vbatCalm_running hd hrun
  case vbat => exact doesAlways_of vbatReset (fun _ _ => rfl) fun _ _ => rfl
  case porst => exact doesAlways_of (powerOn 3) (fun _ _ => rfl) fun s hawake => powerOn_awake hawake
  case sysrst => exact doesAlways_of (systemReset 4) (fun _ _ => rfl) fun s ⟨hrun, hpor⟩ => systemReset_awake hrun hpor
  case sysrstPor => exact doesAlways_of (systemReset 4) (fun _ _ => rfl) fun s hpor => systemReset_inPowerOn hpor
  case powerOn =>
    exact doesAlways_of (fun s => powerOn 2 (setPow (fun p => { p with testmode := mode }) s)) (fun _ _ => rfl) fun s hawake => powerOn_awake hawake
  case system => exact doesAlways_of (resetBy c) (fun _ _ => rfl) fun s _ => resetBy_cause h8 hc
  case sysGo => exact doesAlways_of (resetBy 8) (fun _ _ => rfl) fun s ⟨hgo, hdue⟩ => resetBy_due hgo hdue
  case reloaded => exact does_of reloaded (fun _ _ => rfl) fun s _ ⟨hreload, hgo⟩ => reloaded_due hreload hgo
  case watchdog =>
    exact does_of watchdogExpires (fun _ _ => rfl) fun s _ ⟨hpause, hreload, hboot, hidle, hok, hcopy⟩ =>
      (watchdogExpires_serving hpause hreload hboot).trans (takeover_snapshot hidle hok hcopy)
  case watchdogReset =>
    exact does_of watchdogExpires (fun _ _ => rfl) fun s _ ⟨hpause, hreload, hboot, hok⟩ =>
      (watchdogExpires_serving hpause hreload hboot).trans (takeover_noStandby hok)
  case takenOver => exact does_of takenOver (fun _ _ => rfl) fun s _ h => takenOver_running h
  case clock => exact doesAlways_of clockFails (fun _ _ => rfl) fun s hrun => clockFails_running hrun
  case clockBack => exact doesAlways_of clockBack (fun _ _ => rfl) fun s hclock => if_pos hclock
  case osc => exact doesAlways_of osc32Stops (fun _ _ => rfl) fun s ⟨hosc, hrun⟩ => osc32Stops_running hosc hrun
  case hot => exact does_of tempHigh (fun _ _ => rfl) fun s _ hcool => if_neg (by simp [hcool])
  case cool => exact does_of tempNormal (fun _ _ => rfl) fun s _ hhot => if_pos hhot

end Sys2Proof.Machine
end

section
/-!
PROOFS. Start-up, activation, and the writes of flash and fuses (R595 to R621, R641 to R644, R651).
-/
namespace Sys2Proof.Machine
open Sys2Proof Sys2Proof.Safety

variable {s : State}

/-! ### Start-up -/

section Boot
variable (hboot : s.sys.fw.boot = .rom)
include hboot

/-- The ROM loads an image that checks (R605). -/
theorem bootVerify_good (hcheck : imageCheck (firstSteps s) = 0) :
    bootVerify true true s = setFw (fun f => { f with boot := .loaded, img := imageHeader (firstSteps s), slCause := 0 }) (firstSteps s) := by
  rw [bootVerify, if_neg (not_not.mpr hboot)]
  simp [hcheck]

/-- Else it enters Safelight with the first cause that holds (R605, R621). -/
theorem bootVerify_silent (good : Bool) : bootVerify false good s = enterSafelight 1 (firstSteps s) := by
  rw [bootVerify, if_neg (not_not.mpr hboot)]
  simp

theorem bootVerify_badImage (good : Bool) (hcheck : imageCheck (firstSteps s) ≠ 0) :
    bootVerify true good s = enterSafelight (imageCheck (firstSteps s)) (firstSteps s) := by
  rw [bootVerify, if_neg (not_not.mpr hboot)]
  simp [hcheck]

theorem bootVerify_badBody (hcheck : imageCheck (firstSteps s) = 0) : bootVerify true false s = enterSafelight 6 (firstSteps s) := by
  rw [bootVerify, if_neg (not_not.mpr hboot)]
  simp [hcheck]

end Boot

theorem startDone_loaded (hboot : s.sys.fw.boot = .loaded) : startDone s = beginService (startSegments (startSettings (settingsKey s))) :=
  if_neg (not_not.mpr hboot)

/-- The resume kernel that checks applies the settings (R642). -/
theorem resumeKernel_good (hboot : s.sys.fw.boot = .resume) (hkernel : s.sys.fw.kernel = true) :
    resumeKernel true s = setFw (fun f => { f with boot := .kernel }) (startSegments (startSettings (settingsKey (firstSteps s)))) := by
  rw [resumeKernel, if_neg (not_not.mpr hboot), if_pos (by simp [hkernel])]

theorem resumeKernel_bad (hboot : s.sys.fw.boot = .resume) : resumeKernel false s = setFw (fun f => { f with boot := .rom }) s := by
  rw [resumeKernel, if_neg (not_not.mpr hboot), if_neg (by simp)]

theorem imageChecked_good (hboot : s.sys.fw.boot = .kernel) (hcheck : imageCheck s = 0) :
    imageChecked true s = beginService (setFw (fun f => { f with img := imageHeader s }) s) := by
  rw [imageChecked, if_neg (not_not.mpr hboot), if_pos (by simp [hcheck])]

theorem imageChecked_bad (hboot : s.sys.fw.boot = .kernel) : imageChecked false s = systemReset 0x0A s := by
  rw [imageChecked, if_neg (not_not.mpr hboot), if_neg (by simp)]

/-! ### Activation and migration -/

/-- The new image has started, and has read no copy of the settings yet (R608). -/
def imageStarts (s : State) : State :=
  closeOld (controlStarts (setFw (fun f => { f with img := imageHeader s, paused := false, act := none, settingsGood := false, migrating := false }) s))

/-- It runs on copy c with a commit pending, and has answered the request (R608, R613). -/
def imageRuns (m : Nat) (c : Option Nat) (s : State) : State :=
  let u := setFw (fun f => { f with
    inForce := c, base := if f.commitPending then f.base else c.or f.inForce, commitPending := true, slotDirty := false }) s
  fwEvent12 0x01 (releaseWord u) (finishDeferred m 0 [] u)

section Activation
variable {m : Nat} (hact : s.sys.fw.act = some m) (hpause : s.sys.fw.paused = true)
include hact hpause

theorem bodyLoaded_mismatch : bodyLoaded false s = systemReset 0x0A s := by
  unfold bodyLoaded
  simp only [hact]
  rw [if_neg (by simp [hpause]), if_pos (by simp)]

theorem bodyLoaded_matched :
    bodyLoaded true s =
      let a := imageStarts s
      let u := imageRuns m (chooseCopy a) a
      (chooseCopy a).elim (fwEvent12 0x03 (0xFFFFFFFF * 2 ^ 32 + releaseWord u) u) (fun _ => settingsEstablished u) := by
  unfold bodyLoaded
  simp only [hact]
  rw [if_neg (by simp [hpause]), if_neg (by simp)]
  unfold imageStarts imageRuns
  dsimp only
  generalize closeOld _ = e
  cases chooseCopy e with
  | none => rw [Option.elim_none]
  | some c => rw [Option.elim_some]

end Activation

/-- A migrated copy comes into force (R613, R614). -/
theorem migrated_good {c : Nat} (hforce : s.sys.fw.inForce = some c) (hmig : s.sys.fw.migrating = true) :
    migrated true s =
      let a := copyBase c
      let n := (flashWord s (a + 12)).toNat / 4
      let head := ((flashWords s a 16).set 2 (packW [(8, dvHi s), (24, 0)])).set 4 (word (releaseWord s))
      let e := flashProgram (copyBase (targetCopy s)) (sealCopy s (newGen s) head (flashWords s (a + 64) (n - 16))) s
      let f := setFw (fun f => { f with inForce := some (targetCopy s), migrating := false, settingsGood := true }) e
      fwEvent12 0x05 (releaseWord f) (fwEvent12 0x04 (releaseWord f) f) := by
  unfold migrated
  simp only [hforce]
  rw [if_neg (by simp [hmig]), if_neg (by simp)]

/-! ### Writes of flash and fuses, and the cable test -/

section Flash
variable {m : Nat} {d : Deferred} (hjob : jobOf s (fun op => op = 0x0D02 || op = 0x0D05) = some (m, d))
include hjob

theorem flashWritten_fails : flashWritten false s = finishDeferred m 3 [packW [(16, 0), (16, 0)]] s := by
  unfold flashWritten
  simp only [hjob]
  rw [if_pos (by simp)]

/-- A download writes its image and answers its length (R606). -/
theorem flashWritten_download (hop : d.opcode = 0x0D02) :
    flashWritten true s = finishDeferred m 0 [word (rw d.progress 1).toNat]
      (flashProgram (rw d.progress 0).toNat (((d.progress.drop 2).flatMap leBytes).take (rw d.progress 1).toNat) s) := by
  unfold flashWritten
  simp only [hjob]
  rw [if_neg (by simp), if_pos hop]

end Flash

section Fuses
variable {m : Nat} {d : Deferred} (hjob : jobOf s (fun op => op = 0x0C03 || op = 0x0D04 || op = 0x0D07) = some (m, d))
include hjob

theorem fusesWritten_eq :
    fusesWritten true s =
      if d.opcode = 0x0C03 then
        finishDeferred m 0 [word (rw d.progress 0).toNat]
          (setPair { s.pair with bound := some (flag d.args 0 0, cat64 (rw d.args 1) (rw d.args 2)), binds := (rw d.progress 0).toNat } s)
      else if d.opcode = 0x0D04 then
        finishDeferred m 0 [word (rw d.progress 0).toNat] (fwEvent12 0x06 (releaseWord s)
          (setFw (fun f => { f with floor := (rw d.progress 0).toNat, commitPending := false, base := none }) s))
      else finishDeferred m 0 [] (lifecycleTo (rw d.progress 0).toNat s) := by
  unfold fusesWritten
  simp only [hjob]
  rw [if_neg (by simp)]
  rfl

end Fuses

/-- The mailbox whose cable test measures a port (R651). -/
def cableBox (n : Nat) (s : State) : Option (Nat × Mailbox) :=
  s.mbx.box.find? (fun e => match e.2.deferred with | some d => d.opcode = 0x0E03 && fld d.args 0 4 0 = n | none => false)

theorem cableDone_answers {n result distance m : Nat} {b : Mailbox} (hcable : (portOf s n).cable = true) (hbox : cableBox n s = some (m, b)) :
    cableDone n result distance s =
      let e := finishDeferred m 0 [word (result % 4), word (if result % 4 = 0 then 0 else distance)] s
      tryUp n (setPort n { portOf e n with cable := false } e) := by
  have hdone : cableDone n result distance s =
      let e := (cableBox n s).elim s (fun e => finishDeferred e.1 0 [word (result % 4), word (if result % 4 = 0 then 0 else distance)] s)
      tryUp n (setPort n { portOf e n with cable := false } e) := by
    unfold cableDone
    rw [if_neg (by simp [hcable])]
    unfold cableBox
    cases List.find? _ s.mbx.box <;> rfl
  rw [hdone, hbox]
  rfl

/-- Settles O39: each start-up step, activation and write ends by its outcome. -/
theorem bootAndWriteEventsTakeEffect : Obligations.BootAndWriteEventsTakeEffect := by
  unfold Obligations.BootAndWriteEventsTakeEffect
  refine ⟨fun good => ?boot, fun good => ?silent, fun good => ?badImage, ?badBody, ?start, ?kernel, ?noKernel, ?image, ?noImage, fun m => ?mismatch,
    fun m => ?activated, fun c => ?migrated, fun m d => ?flashFails, fun m d hop => ?download, fun m d hop => ?floor, fun m d hop => ?bind,
    fun m d hop => ?lifecycle, fun n result distance m b => ?cable⟩
  case boot =>
    refine does_of (bootVerify true good) (fun _ _ => rfl) fun s _ ⟨hboot, hgood, hcheck⟩ => ?_
    subst hgood
    exact bootVerify_good hboot hcheck
  case silent => exact does_of (bootVerify false good) (fun _ _ => rfl) fun s _ hboot => bootVerify_silent hboot good
  case badImage => exact does_of (bootVerify true good) (fun _ _ => rfl) fun s _ ⟨hboot, hcheck⟩ => bootVerify_badImage hboot good hcheck
  case badBody => exact does_of (bootVerify true false) (fun _ _ => rfl) fun s _ ⟨hboot, hcheck⟩ => bootVerify_badBody hboot hcheck
  case start => exact does_of startDone (fun _ _ => rfl) fun s _ hboot => startDone_loaded hboot
  case kernel => exact does_of (resumeKernel true) (fun _ _ => rfl) fun s _ ⟨hboot, hkernel⟩ => resumeKernel_good hboot hkernel
  case noKernel => exact does_of (resumeKernel false) (fun _ _ => rfl) fun s _ hboot => resumeKernel_bad hboot
  case image => exact does_of (imageChecked true) (fun _ _ => rfl) fun s _ ⟨hboot, hcheck⟩ => imageChecked_good hboot hcheck
  case noImage => exact does_of (imageChecked false) (fun _ _ => rfl) fun s _ hboot => imageChecked_bad hboot
  case mismatch => exact does_of (bodyLoaded false) (fun _ _ => rfl) fun s _ ⟨hact, hpause⟩ => bodyLoaded_mismatch hact hpause
  case activated =>
    refine does_of (bodyLoaded true) (fun _ _ => rfl) fun s _ ⟨hact, hpause⟩ => ?_
    extract_lets sys fw a c sysA fwA b d
    have ha : imageStarts s = a := rfl
    have hc : chooseCopy a = c := rfl
    rw [bodyLoaded_matched hact hpause, ha]
    dsimp only
    rw [hc]
    clear_value c a
    cases c <;> rfl
  case migrated => exact does_of (migrated true) (fun _ _ => rfl) fun s _ ⟨hforce, hmig⟩ => migrated_good hforce hmig
  case flashFails => exact does_of (flashWritten false) (fun _ _ => rfl) fun s _ hjob => flashWritten_fails hjob
  case download => exact does_of (flashWritten true) (fun _ _ => rfl) fun s _ hjob => flashWritten_download hjob hop
  case floor =>
    exact does_of (fusesWritten true) (fun _ _ => rfl) fun s _ hjob =>
      (fusesWritten_eq hjob).trans ((if_neg (by rw [hop]; decide)).trans (if_pos hop))
  case bind => exact does_of (fusesWritten true) (fun _ _ => rfl) fun s _ hjob => (fusesWritten_eq hjob).trans (if_pos hop)
  case lifecycle =>
    exact does_of (fusesWritten true) (fun _ _ => rfl) fun s _ hjob =>
      (fusesWritten_eq hjob).trans ((if_neg (by rw [hop]; decide)).trans (if_neg (by rw [hop]; decide)))
  case cable => exact does_of (cableDone n result distance) (fun _ _ => rfl) fun s _ ⟨hcable, hbox⟩ => cableDone_answers hcable hbox

end Sys2Proof.Machine
end

section
/-!
PROOFS. Interrupts, mirrors, the host port, in-band frames and the PCIe link (R480, R487 to R502, R633, R637).
-/
namespace Sys2Proof.Machine
open Sys2Proof Sys2Proof.Safety

variable {s : State}

/-! ### Interrupts and mirrors -/

/-- An armed source with a packet pending is disarmed; its message leaves, or a masked vector keeps it (R487, R488). -/
theorem sendMessage_armed {i : Nat} (hi : i < 52) (hlink : hostLink s = true) (hon : s.bridge.pci.msixOn = true) (hen : regBit s (rSOURCE i 0) 26 = true)
    (hpend : sourcePending s i = true) (harmed : (intSource s i).armed = true) (hlast : (intSource s i).last = none) :
    sendMessage i s =
      let v := regFld s (rSOURCE i 0) 25 21
      let e := setSourceInt i { intSource s i with armed := false, last := some s.time.now } s
      if s.bridge.pci.fnMask || bit (msixWord s (4 * v + 3)) 0 then
        { e with bridge := { e.bridge with held := tset [] e.bridge.held v (tget [] e.bridge.held v ++ [i]) } }
      else emit (.msix s.time.now i v) e := by
  unfold sendMessage
  simp only [hlast]
  exact if_neg (by simp [hi, hlink, hon, hen, hpend, harmed])

/-- The copier writes the next packet of a mirror with room, then the count, and consumes it (R490). -/
theorem copyPacket_mirrored {i e : Nat} {id : RingId} {r : List Nat} (hid : sourceRing i = some id) (hends : (ringOf s id).ends = e :: r)
    (hmir : mirrored s i = true) (hlink : hostLink s = true)
    (hroom : ((intSource s i).copied + 2 ^ 32 - (regGet s (rSOURCE i 0x14)).toNat) % 2 ^ 32 + 4 * (ringDiff id e (ringOf s id).cons * ringSlotWords id)
      ≤ 2 ^ (12 + regFld s (rSOURCE i 0) 30 27)) :
    copyPacket i s =
      let n := ringDiff id e (ringOf s id).cons * ringSlotWords id
      let c := ((intSource s i).copied + 4 * n) % 2 ^ 32
      let s1 := mirrorWords (cat64 (regGet s (rSOURCE i 0x08)) (regGet s (rSOURCE i 0x04))) (2 ^ (12 + regFld s (rSOURCE i 0) 30 27)) (intSource s i).copied
        (ringWords s id (ringOf s id).cons n) s
      let s2 := emit (.dma s.time.now (cat64 (regGet s (rSOURCE i 0x10)) (regGet s (rSOURCE i 0x0C))) (leBytes (word c))) s1
      setSourceInt i { intSource s i with copied := c } (ringConsume id e s2) := by
  unfold copyPacket
  simp only [hid, hends]
  refine if_neg ?_
  simp only [hmir, hlink, Bool.not_true, Bool.false_or, decide_eq_true_eq]
  exact Nat.not_lt.mpr hroom

/-! ### The host port (R493, R494) -/

section Transmit
variable {d : Rec} {b : Bytes} (hlink : hostLink s = true) (hen : regBit s (rHP_TX 0x08) 31 = true)
  (hhead : s.bridge.txHead ≠ (regGet s (rHP_TX 0x0C)).toNat) (hpace : paceNext s 28 ≤ s.time.now)
include hlink hen hhead hpace

/-- A transmit descriptor that the pace allows is done, and its status written back. -/
theorem hpTransmit_done (hst : txDescStatus d true ≠ 3) :
    hpTransmit d b true s =
      let st := txDescStatus d true
      let s1 := if st = 0 then
          injectFrame { port := 28, bytes := withFcs ((b ++ List.replicate (fld d 0 31 18 - b.length) 0).take (fld d 0 31 18))
                        directed := if flag d 0 17 then some (rw d 1).toNat else none
                        launch := if flag d 0 16 then some (rw d 2).toNat else none } s
        else s
      let s2 := emit (.dma s.time.now (descBase s (rHP_TX 0x00) (rHP_TX 0x04) + 32 * s.bridge.txHead + 24)
        (List.flatMap leBytes [packW [(1, 1), (7, st), (24, 0)], if st = 0 then word s.time.now else 0])) s1
      { s2 with bridge := { s2.bridge with txHead := (s.bridge.txHead + 1) % descCount s (rHP_TX 0x08), txDone := s2.bridge.txDone + 1 } } := by
  unfold hpTransmit
  refine (if_neg ?_).trans (if_neg hst)
  simpa [hlink, hen, hhead] using hpace

/-- One that is well formed injects its frame. -/
theorem hpTransmit_frame (hlen : b.length = fld d 0 31 18) (hst : txDescStatus d true = 0) (h16 : flag d 0 16 = false) (h17 : flag d 0 17 = false) :
    hpTransmit d b true s =
      let s1 := injectFrame { port := 28, bytes := withFcs b, directed := none, launch := none } s
      let s2 := emit (.dma s.time.now (descBase s (rHP_TX 0x00) (rHP_TX 0x04) + 32 * s.bridge.txHead + 24)
        (List.flatMap leBytes [packW [(1, 1), (7, 0), (24, 0)], word s.time.now])) s1
      { s2 with bridge := { s2.bridge with txHead := (s.bridge.txHead + 1) % descCount s (rHP_TX 0x08), txDone := s2.bridge.txDone + 1 } } := by
  have hbytes : (b ++ List.replicate (fld d 0 31 18 - b.length) 0).take (fld d 0 31 18) = b := by rw [← hlen]; simp
  rw [hpTransmit_done hlink hen hhead hpace (by rw [hst]; decide)]
  simp only [hst, hbytes, h16, h17, if_true, Bool.false_eq_true, if_false]

/-- One with a reserved field set is written back with its status alone. -/
theorem hpTransmit_reserved (h0 : fld d 0 15 0 ≠ 0) :
    hpTransmit d b true s =
      let s2 := emit (.dma s.time.now (descBase s (rHP_TX 0x00) (rHP_TX 0x04) + 32 * s.bridge.txHead + 24)
        (List.flatMap leBytes [packW [(1, 1), (7, 4), (24, 0)], 0])) s
      { s2 with bridge := { s2.bridge with txHead := (s.bridge.txHead + 1) % descCount s (rHP_TX 0x08), txDone := s2.bridge.txDone + 1 } } := by
  have hst : txDescStatus d true = 4 := if_pos h0
  rw [hpTransmit_done hlink hen hhead hpace (by rw [hst]; decide)]
  simp only [hst, Nat.reduceEqDiff, if_false]

end Transmit

/-- A frame that leaves port 28 is written into the buffer that has room for it, with its stamp and its status (R494). -/
theorem hpReceive_frame {d : Rec} {x : Sending} {f : Frame} (hup : portUp s 28 = true) (hd3 : s.bridge.pci.d3 = false)
    (hhead : s.bridge.rxHead ≠ (regGet s (rHP_RX 0x0C)).toNat) (hx : (egressOf (txStart 28 s) 28).sending = some x)
    (hf : frameOf s x.rep.frame = some f) (hhandle : f.handle = none) (hroom : (repBytes s 28 x.rep).length ≤ fld d 0 31 18) :
    hpReceive d true s =
      let b := repBytes s 28 x.rep
      let a := descBase s (rHP_RX 0x00) (rHP_RX 0x04) + 32 * s.bridge.rxHead
      let s2 := emit (.dma s.time.now (cat64 (rw d 4) (rw d 5)) b) (txStart 28 s)
      let s3 := emit (.dma s.time.now (a + 4) (List.flatMap leBytes ([0] ++ split64 (stampNs f.stamp)))) s2
      let s4 := emit (.dma s.time.now (a + 24) (leBytes (packW [(1, 1), (7, 0), (5, x.rep.inPort), (3, x.cls), (2, 0), (14, b.length)]))) s3
      txEnd 28 { s4 with bridge := { s4.bridge with rxHead := (s.bridge.rxHead + 1) % descCount s (rHP_RX 0x08), rxDone := s4.bridge.rxDone + 1 } } := by
  have hback : packW [(1, b2n false), (19, 0), (12, 0)] = 0 := rfl
  unfold hpReceive
  rw [if_neg (by simp [hup, hd3, hhead])]
  simp only [hx, hf, Option.bind_some, hhandle, Option.isSome_none, Option.getD_none, hback, List.take_of_length_le hroom, if_true, Bool.not_true,
    Bool.false_eq_true, if_false, if_neg (Nat.not_lt.mpr hroom)]

/-! ### In-band frames (R497 to R499) -/

/-- The mailbox and the length that an untagged in-band frame names, and its freshness value. -/
def inbandBox (b : Bytes) : Nat := beAt b 14 4 / 2 ^ 21 % 8
def inbandLen (b : Bytes) : Nat := beAt b 14 4 % 65536
def inbandValue (b : Bytes) : Nat := beAt b 18 4 * 2 ^ 32 + beAt b 22 4

/-- The CMAC over it. -/
def inbandCheck (b : Bytes) (s : State) : Option Bytes × State := inbandMac (inbandBox b) ((b.drop 14).take (16 + inbandLen b)) s

/-- An untagged in-band frame to a mailbox that such frames serve is well formed (R497, R498). -/
structure InbandFits (b : Bytes) (s : State) : Prop where
  type : beAt b 12 2 = 0x88B6
  served : inbandOn s (inbandBox b) = true
  kind : beAt b 14 4 / 2 ^ 24 = 1
  reserved : beAt b 14 4 / 2 ^ 16 % 32 = 0
  reserved3 : beAt b 26 4 = 0
  low : 16 ≤ inbandLen b
  high : inbandLen b ≤ 1400
  words : inbandLen b % 4 = 0
  length : b.length = 46 + inbandLen b

section Inband
variable {b : Bytes} (h : InbandFits b s)
include h

/-- A well-formed frame is checked, in this order, for its CMAC, its freshness and room. -/
theorem inbandArrives_eq :
    inbandArrives b s =
      let m := inbandBox b
      let e := (inbandCheck b s).2
      if (inbandCheck b s).1 ≠ some (b.drop (30 + inbandLen b)) then inbandDrop 31 e
      else if inbandValue b ≤ (tget {} s.bridge.inband m).rxFresh then inbandDrop 23 e
      else if ringFree e (.req m) < inbandLen b / 4 then inbandDrop 7 e
      else
        let ws := bytesRec ((b.drop 30).take (inbandLen b))
        let waits := e.bridge.ringWaits.any (fun w => w.ring = .req m) || ringLocked e .inband (.req m) (ringOf e (.req m)).prod ws.length
        let s1 := if waits then ringQueued .inband (.req m) ws e else ringLand (.req m) ws e
        let x : Inband := { tget {} s.bridge.inband m with rxFresh := inbandValue b, replySa := beAt b 6 6, replyVid := deliveredVid e }
        { s1 with bridge := { s1.bridge with inband := tset {} s1.bridge.inband m x } } := by
  obtain ⟨htype, hon, hkind, hreserved, hreserved3, hlow, hhigh, hwords, hlength⟩ := h
  have htag : ¬ beAt b 12 2 = 0x8100 := by omega
  unfold inbandArrives
  simp only [htag, if_false, Nat.reduceSub, Nat.reduceMul, Nat.reduceAdd]
  refine (if_neg (not_not.mpr htype)).trans ((if_neg ?_).trans rfl)
  simp only [inbandBox, inbandLen] at hon hlow hhigh hwords hlength
  simp only [hon, hkind, hreserved, hreserved3, hwords, hlength, ne_eq, not_true_eq_false, decide_false, Bool.not_true, Bool.or_false, Bool.false_or,
    Bool.or_eq_true, decide_eq_true_eq]
  omega

/-- One that fails the check of its CMAC is dropped and counted (R498). -/
theorem inbandArrives_forged (hmac : (inbandCheck b s).1 ≠ some (b.drop (30 + inbandLen b))) :
    inbandArrives b s = systemEvent 7 0x04 (count rIB_ERR 31 24 (inbandCheck b s).2) := by
  rw [inbandArrives_eq h, if_pos hmac]
  rfl

/-- A fresh one lands its message in the request ring, and sets where replies go (R497, R498). -/
theorem inbandArrives_lands (hmac : (inbandCheck b s).1 = some (b.drop (30 + inbandLen b)))
    (hfresh : (tget {} s.bridge.inband (inbandBox b)).rxFresh < inbandValue b)
    (hroom : inbandLen b / 4 ≤ ringFree (inbandCheck b s).2 (.req (inbandBox b))) (hwaits : (inbandCheck b s).2.bridge.ringWaits = [])
    (hsems : (inbandCheck b s).2.bridge.sems = []) :
    inbandArrives b s =
      let e := (inbandCheck b s).2
      let s1 := ringLand (.req (inbandBox b)) (bytesRec ((b.drop 30).take (inbandLen b))) e
      let x : Inband := { tget {} s.bridge.inband (inbandBox b) with rxFresh := inbandValue b, replySa := beAt b 6 6, replyVid := deliveredVid e }
      { s1 with bridge := { s1.bridge with inband := tset {} s1.bridge.inband (inbandBox b) x } } := by
  have hlocked : ∀ id ptr n, ringLocked (inbandCheck b s).2 .inband id ptr n = false := fun id ptr n => by simp [ringLocked, hsems]
  rw [inbandArrives_eq h, if_neg (not_not.mpr hmac), if_neg (Nat.not_le.mpr hfresh), if_neg (Nat.not_lt.mpr hroom)]
  simp only [hwaits, hlocked, List.any_nil, Bool.or_self, Bool.false_eq_true, if_false]

end Inband

/-! ### The link -/

theorem linkTrains_valid {r w : Nat} (hr : 1 ≤ r) (hr4 : r ≤ 4) (hw : 1 ≤ w) (hw2 : w ≤ 2) (href : s.sys.pow.pcieRef = true) :
    linkTrains r w s = { s with bridge := { s.bridge with up := true, rate := r, width := w } } := by
  refine if_neg ?_
  simp only [href, Bool.not_true, Bool.false_or, Bool.or_eq_true, decide_eq_true_eq]
  omega

/-- Settles O44: messages, copies, descriptors, in-band frames and the link take effect under their conditions. -/
theorem interruptsMirrorsAndLinkTakeEffect : Obligations.InterruptsMirrorsAndLinkTakeEffect := by
  unfold Obligations.InterruptsMirrorsAndLinkTakeEffect
  refine ⟨fun i hi => ?message, fun i hi => ?masked, fun r hr => ?marker, fun i id e r n c hid => ?copy, fun i => ?copyFails,
    fun d b hlen hst h16 h17 => ?transmit, fun d b h0 => ?reserved, fun d x f => ?receive, fun b htype => ?inband, fun b htype => ?forged,
    fun r w hr hr4 hw hw2 => ?link, fun d => ?functionReset, ?lost, ?back⟩
  case message =>
    refine does_of (sendMessage i) (fun _ _ => rfl) fun s _ ⟨hlink, hon, hen, hpend, harmed, hlast, hmask, hvec⟩ => ?_
    exact (sendMessage_armed hi hlink hon hen hpend harmed hlast).trans (if_neg (by simp [hmask, hvec]))
  case masked =>
    refine does_of (sendMessage i) (fun _ _ => rfl) fun s _ ⟨hlink, hon, hen, hpend, harmed, hlast, hmask⟩ => ?_
    exact (sendMessage_armed hi hlink hon hen hpend harmed hlast).trans (if_pos (by simpa using hmask))
  case marker =>
    exact does_of (fun s => if ringExists r then ringCloseGap r s else s) (fun _ _ => rfl) fun s _ _ => if_pos hr
  case copy =>
    refine does_of (copyPacket i) (fun _ _ => rfl) fun s _ ⟨hends, hmir, hlink, hn, hroom, hc⟩ => ?_
    subst hn hc
    exact copyPacket_mirrored hid hends hmir hlink hroom
  case copyFails => exact does_of (mirrorFails i) (fun _ _ => rfl) fun s _ hmir => if_pos hmir
  case transmit =>
    exact does_of (hpTransmit d b true) (fun _ _ => rfl) fun s _ ⟨hlink, hen, hhead, hpace⟩ => hpTransmit_frame hlink hen hhead hpace hlen hst h16 h17
  case reserved =>
    exact does_of (hpTransmit d b true) (fun _ _ => rfl) fun s _ ⟨hlink, hen, hhead, hpace⟩ => hpTransmit_reserved hlink hen hhead hpace h0
  case receive =>
    exact does_of (hpReceive d true) (fun _ _ => rfl) fun s _ ⟨hup, hd3, hhead, hx, hf, hhandle, hroom⟩ => hpReceive_frame hup hd3 hhead hx hf hhandle hroom
  case inband =>
    refine does_of (inbandArrives b) (fun _ _ => rfl) fun s _ hP => ?_
    obtain ⟨hon, hkind, hreserved, hreserved3, hlow, hhigh, hwords, hlength, hmac, hfresh, hroom, hwaits, hsems⟩ := hP
    exact inbandArrives_lands ⟨htype, hon, hkind, hreserved, hreserved3, hlow, hhigh, hwords, hlength⟩ hmac hfresh hroom hwaits hsems
  case forged =>
    refine does_of (inbandArrives b) (fun _ _ => rfl) fun s _ hP => ?_
    obtain ⟨hon, hkind, hreserved, hreserved3, hlow, hhigh, hwords, hlength, hmac⟩ := hP
    exact inbandArrives_forged ⟨htype, hon, hkind, hreserved, hreserved3, hlow, hhigh, hwords, hlength⟩ hmac
  case link => exact does_of (linkTrains r w) (fun _ _ => rfl) fun s _ href => linkTrains_valid hr hr4 hw hw2 href
  case functionReset => exact does_of (functionReset d) (fun _ _ => rfl) fun _ _ _ => rfl
  case lost => exact does_of referenceFails (fun _ _ => rfl) fun s _ href => if_neg (by simp [href])
  case back => exact does_of referenceReturns (fun _ _ => rfl) fun s _ href => if_neg (by simp [href])

end Sys2Proof.Machine
end
